-- ==== Sys2Proof/Word.lean ====
section
/-! DEFINITION. The word types of the module and the small enumerations that name its channels, ports, feeds and
switch pairs (spec/00_scope.md R6, R8; spec/01_architecture.md R11). -/

namespace Sys2Proof

/-- A 32-bit word: four byte lanes (R6). -/
abbrev Word := BitVec 32

/-- Eight data bits (R6). -/
abbrev Byte := BitVec 8

/-- The three channels of the triplex (R11). -/
inductive Ch where
  | a
  | b
  | c
  deriving DecidableEq, Repr, Inhabited

namespace Ch

/-- The channel code of every format: 0 A, 1 B, 2 C (Table 06-1). -/
def code : Ch → Nat
  | a => 0
  | b => 1
  | c => 2

/-- The partner following in the order A, B, C, A (R165). -/
def next : Ch → Ch
  | a => b
  | b => c
  | c => a

/-- The partner preceding in the order A, B, C, A (R165). -/
def prev : Ch → Ch
  | a => c
  | b => a
  | c => b

/-- The third channel beside two different ones. -/
def third (x y : Ch) : Ch :=
  if x.next = y then x.prev else x.next

/-- All channels, in order. -/
def all : List Ch := [a, b, c]

/-- The channel of a code; codes above 2 name none. -/
def ofCode : Nat → Option Ch
  | 0 => some a
  | 1 => some b
  | 2 => some c
  | _ => none

end Ch

/-- A value for each channel. -/
structure Tri (α : Type) where
  a : α
  b : α
  c : α
  deriving DecidableEq, Repr, Inhabited

namespace Tri

variable {α : Type}

/-- The same value for every channel. -/
def const (x : α) : Tri α := { a := x, b := x, c := x }

/-- The value of one channel. -/
def get (t : Tri α) : Ch → α
  | .a => t.a
  | .b => t.b
  | .c => t.c

/-- The triple with one channel's value replaced. -/
def set (t : Tri α) (ch : Ch) (x : α) : Tri α :=
  match ch with
  | .a => { t with a := x }
  | .b => { t with b := x }
  | .c => { t with c := x }

/-- The three values in the order A, B, C. -/
def toList (t : Tri α) : List α := [t.a, t.b, t.c]

end Tri

/-- The two logic feeds on X1 (R29). -/
inductive Feed where
  | one
  | two
  deriving DecidableEq, Repr, Inhabited

/-- The two fabric ports of a channel, planes X and Y (R11). -/
inductive Port where
  | x
  | y
  deriving DecidableEq, Repr, Inhabited

/-- The opposite port. -/
def Port.other : Port → Port
  | .x => .y
  | .y => .x

/-- A pair of channels that opens its switches in an off-test pulse, or the high-side path of the same two channels
(R192, Table 07-15): 0 AB, 1 BC, 2 CA. -/
inductive Pair where
  | ab
  | bc
  | ca
  deriving DecidableEq, Repr, Inhabited

namespace Pair

/-- The code of DOUT.FAULT.PAIR (Table 07-15). -/
def code : Pair → Nat
  | ab => 0
  | bc => 1
  | ca => 2

/-- The pair rotates with each pulse: AB, BC, CA (R192). -/
def succ : Pair → Pair
  | ab => bc
  | bc => ca
  | ca => ab

/-- Whether a channel belongs to the pair. -/
def has : Pair → Ch → Bool
  | ab, .a => true
  | ab, .b => true
  | ab, .c => false
  | bc, .a => false
  | bc, .b => true
  | bc, .c => true
  | ca, .a => true
  | ca, .b => false
  | ca, .c => true

/-- The two channels of the pair. -/
def chans : Pair → Ch × Ch
  | ab => (.a, .b)
  | bc => (.b, .c)
  | ca => (.c, .a)

end Pair

/-- The two capacity variants (Table 00-1). -/
inductive Variant where
  | hx4096
  | hx1024
  deriving DecidableEq, Repr, Inhabited

/-- The two temperature grades (Table 00-1). -/
inductive Grade where
  | s
  | e
  deriving DecidableEq, Repr, Inhabited

end Sys2Proof
end

