-- ==== Sys2Proof/Syntax/Operands.lean ====
section
/-! DEFINITION. The operands of the commands: what an event, a transfer, a frame or a packet carries into the module.
Formats follow spec/06_triplex_voting.md (R156, R160, R165), spec/07_vital_io.md (R185), spec/10_fabric_routing_messages.md
(R255, R268, R271), spec/11_partner_redundancy.md (R300 to R304), spec/15_host_commands.md (R379, R385) and
spec/16_startup_images_identity.md (R404). -/

namespace Sys2Proof

/-- How a transfer on an exchange or partner link reads out of its queue (R160, R300): its header word with KIND[31:28],
LEN[27:14] and SEQ[13:0], its CRC word, and whether it found the queue full and was discarded on arrival (R21). Its payload
words are those of the command's other operands. -/
structure Link where
  header : Word
  crc : Word
  full : Bool
  deriving DecidableEq, Repr, Inhabited

/-- SEQ of the header word. -/
def Link.seq (l : Link) : Nat := l.header.toNat % 16384

/-- LEN of the header word: payload words. -/
def Link.len (l : Link) : Nat := l.header.toNat / 16384 % 16384

/-- KIND of the header word. -/
def Link.kind (l : Link) : Nat := l.header.toNat / 2 ^ 28

/-- A transfer on a partner link, and the presence loop as the channel reads it when the transfer arrives (R35, R36). -/
structure PLink where
  link : Link
  loop : Bool
  deriving DecidableEq, Repr, Inhabited

/-- A task vote set (Table 06-1). -/
structure TaskSet where
  ch : Ch
  version : Nat
  task : Nat
  taskCycle : Nat
  mainCycle : Nat
  imageSeq : Nat
  prob : Bool
  digest : BitVec 64
  out : List Word
  deriving DecidableEq, Repr, Inhabited

/-- An input vote set (Table 07-1). `di` holds DI00 to DI63, `fb` FB00 to FB31; `warn`, `low` and `lsf` have bit g − 1
for group g. -/
structure InputSet where
  ch : Ch
  offset : Nat
  mainCycle : Nat
  di : BitVec 64
  fb : Word
  rb : Word
  invDi : BitVec 64
  invFb : Word
  warn : BitVec 4
  low : BitVec 4
  lsf : BitVec 4
  stall : Bool
  dip : Word
  sweep : Word
  deriving DecidableEq, Repr, Inhabited

/-- One inbound connection of a remote vote set (R271): SEQ, age and DATA of the newest accepted cyclic message. -/
structure RemoteEntry where
  conn : Nat
  seq : Nat
  age : Nat
  data : List Word
  deriving DecidableEq, Repr, Inhabited

/-- The vital event kinds of Table 10-6. -/
inductive EventKind where
  | reserve
  | grant
  | refuse
  | unreserve
  | releaseAll
  | other
  deriving DecidableEq, Repr, Inhabited

/-- One event message of a remote vote set (R271). -/
structure RemoteEvent where
  conn : Nat
  seq : Nat
  kind : EventKind
  data : List Word
  deriving DecidableEq, Repr, Inhabited

/-- A remote vote set (R271). `noRoute` has one bit per node ID without a route on the sender's lane. -/
structure RemoteSet where
  ch : Ch
  offset : Nat
  mainCycle : Nat
  noRoute : BitVec 64
  conns : List RemoteEntry
  events : List RemoteEvent
  deriving DecidableEq, Repr, Inhabited

/-- A partner vote set (Table 11-3). -/
structure PartnerSet where
  ch : Ch
  offset : Nat
  mainCycle : Nat
  lost : Bool
  higher : Bool
  swReady : Bool
  pClaim : Word
  commit : BitVec 64
  deriving DecidableEq, Repr, Inhabited

/-- One entry of a command vote set (Table 15-3). -/
structure CmdEntry where
  opcode : Nat
  session : Nat
  age : Nat
  seq : Word
  digest : BitVec 64
  deriving DecidableEq, Repr, Inhabited

/-- A command vote set (Table 15-3). -/
structure CommandSet where
  ch : Ch
  offset : Nat
  mainCycle : Nat
  entries : List CmdEntry
  deriving DecidableEq, Repr, Inhabited

/-- An agreement set of P6 (R404): three SHA-256 digests, SEAL.BOOT and the set digest. -/
structure AgreeSet where
  ch : Ch
  fw : BitVec 256
  app : BitVec 256
  cfg : BitVec 256
  sealPos : Word
  setDigest : BitVec 64
  deriving DecidableEq, Repr, Inhabited

/-- What a VOTE transfer carries (Table 06-2): a vote set of KIND 0x01 to 0x06. -/
inductive VoteSet where
  | task (s : TaskSet)
  | input (s : InputSet)
  | remote (s : RemoteSet)
  | partner (s : PartnerSet)
  | command (s : CommandSet)
  | agreement (s : AgreeSet)
  deriving DecidableEq, Repr, Inhabited

/-- A VERDICT transfer (R165). `ack` and `again` are what a verdict also carries during a reintegration: the source's
acknowledgement of a REINT_REQ (Table 06-5) and the channel's request for refused PAGEs (R178). -/
structure Verdict where
  task : Nat
  ch : Ch
  taskCycle : Nat
  outcome : Nat
  resNext : Nat
  resPrev : Nat
  ack : Bool
  again : List Nat
  deriving DecidableEq, Repr, Inhabited

/-- A field input, or the readback of an output (R183, R189). -/
inductive Terminal where
  | input (n : Nat)
  | readback (n : Nat)
  deriving DecidableEq, Repr, Inhabited

/-- What a plugged transceiver reports (R38). -/
inductive Optics where
  | sx
  | lx
  | otherCode
  deriving DecidableEq, Repr, Inhabited

/-- What the checks of a start-up phase found outside what State holds (R402): a failing check with its code of Table
16-2 and its DETAIL, the switch positions as the contacts stand (SEAL.BOOT layout), the milliseconds since P0, and the
distance between the three lanes' cluster cycle starts in units of 0.1 µs. -/
structure PhaseReport where
  fail : Option (Nat × Word)
  sealPos : Word
  ms : Nat
  laneSkew : Nat
  deriving DecidableEq, Repr, Inhabited

/-- One case of Table 06-4: the test, the comparison path (0 own with next, 1 own with previous, 2 next with previous) and
the word or bit that the case concerns. -/
structure TestCase where
  test : Nat
  path : Nat
  word : Nat
  deriving DecidableEq, Repr, Inhabited

/-- A gate counter record (R221): counter record SLOT as MRAM holds it, four words: gate ID in bits 17:0 with bit 31 set,
TOTAL, SINCE, CRC-32C over the first 12 bytes. -/
structure GateRecord where
  slot : Nat
  head : Word
  total : Word
  since : Word
  crc : Word
  deriving DecidableEq, Repr, Inhabited

/-- A frame as it arrived on a port (Table 10-1): the four header words, the payload bytes, its CRC-32, and whether it found the
port's receive queue full (R21). `arrival` is the start delimiter's arrival in ns after the local basic cycle start. -/
structure FrameRx where
  port : Port
  w0 : Word
  w1 : Word
  w2 : Word
  w3 : Word
  payload : List Byte
  crc : Word
  full : Bool
  arrival : Nat
  deriving DecidableEq, Repr, Inhabited

/-- VER of the header. -/
def FrameRx.ver (f : FrameRx) : Nat := f.w0.toNat / 2 ^ 28

/-- CLASS of the header. -/
def FrameRx.cls (f : FrameRx) : Nat := f.w0.toNat / 2 ^ 26 % 4

/-- KIND of the header. -/
def FrameRx.kind (f : FrameRx) : Nat := f.w0.toNat / 2 ^ 20 % 64

/-- HOP of the header. -/
def FrameRx.hop (f : FrameRx) : Nat := f.w0.toNat / 2 ^ 17 % 8

/-- LANE of the header. -/
def FrameRx.lane (f : FrameRx) : Nat := f.w0.toNat / 2 ^ 15 % 4

/-- BCAST of the header. -/
def FrameRx.bcast (f : FrameRx) : Bool := f.w0.getLsbD 14

/-- LEN of the header: payload bytes. -/
def FrameRx.len (f : FrameRx) : Nat := f.w0.toNat % 1024

/-- FSEQ of the header. -/
def FrameRx.fseq (f : FrameRx) : Nat := f.w1.toNat / 2 ^ 16

/-- DEST of the header. -/
def FrameRx.dest (f : FrameRx) : Nat := f.w1.toNat / 2 ^ 8 % 64

/-- ORIGIN of the header: the origin's key. -/
def FrameRx.origin (f : FrameRx) : Nat := f.w1.toNat % 128

/-- CLUSTER of the header. -/
def FrameRx.cluster (f : FrameRx) : Nat := f.w2.toNat

/-- LSEQ of the header. -/
def FrameRx.lseq (f : FrameRx) : Nat := f.w3.toNat / 2 ^ 16

/-- BASIC of the header. -/
def FrameRx.basic (f : FrameRx) : Nat := f.w3.toNat % 64

/-- A heartbeat payload (Table 11-2). -/
structure Beat where
  role : Nat
  sync : Nat
  restart : Bool
  swReady : Bool
  invote : BitVec 3
  ch : Ch
  node : Nat
  rankBit : Bool
  claim : Word
  eSeen : BitVec 16
  cycle : Nat
  hbSeq : Nat
  imageSeq : Nat
  sealPos : Word
  fw : Word
  deriving DecidableEq, Repr, Inhabited

/-- The two heartbeat paths (R302). -/
inductive Path where
  | x3
  | lane
  deriving DecidableEq, Repr, Inhabited

/-- A request tile entry (R72): OP, TARGET and its data words. -/
structure ReqEntry where
  op : Nat
  target : Nat
  data : List Word
  deriving DecidableEq, Repr, Inhabited

/-- A run's frozen input image as RUN_IN carries it (R124, R300): consolidated values, the voted outputs of other tasks with
the main cycle of the run that wrote them, the writes latched at the release, the commands that act at it (R310; log 35)
and, for T1, the request tile. -/
structure RunInput where
  mainCycle : Nat
  task : Nat
  taskCycle : Nat
  offset : Nat
  di : BitVec 96
  rb : Word
  warn : BitVec 4
  low : BitVec 4
  lsf : BitVec 4
  dip : Word
  sweep : Word
  remote : List RemoteEntry
  others : List (List Word)
  otherMain : List Nat
  discrepant : BitVec 96
  latched : List (Nat × Word)
  commands : List (Nat × List Byte)
  requests : List ReqEntry
  deriving DecidableEq, Repr, Inhabited

/-- The command packet of a host datagram (Table 15-1): its source, the address and port it is sent to, its header fields, its
parameter bytes, and the CRC word as each channel reads it. `lost` has one bit per channel whose hub queue was full (Table
01-4). -/
structure Pkt where
  addr : Word
  port : Nat
  target : Word
  dport : Nat
  magic : Nat
  length : Nat
  version : Nat
  reply : Bool
  chmask : BitVec 3
  session : Nat
  seq : Word
  params : List Byte
  crc : Tri Word
  lost : BitVec 3
  deriving DecidableEq, Repr, Inhabited

/-- A DMA descriptor (R321). The engine that runs it is the command's own operand. -/
structure Descriptor where
  src : Nat
  dst : Nat
  len : Nat
  space : Nat
  check : Bool
  fill : Bool
  deriving DecidableEq, Repr, Inhabited

/-- The readers that can meet a memory error (R324, Table 12-13); `atomic` is an atomic operation of the core with the lanes it
modifies (R325). -/
inductive Reader where
  | core
  | atomic (lanes : BitVec 4)
  | dma (e : Nat)
  | resolver (tile : Nat)
  | queueManager
  | checkValue
  | scrubber
  | bist
  deriving DecidableEq, Repr, Inhabited

/-- What a checker decodes from one byte lane (R322, R324). -/
inductive LaneKind where
  | sound
  | corrected
  | uncorrectable
  | poisoned
  deriving DecidableEq, Repr, Inhabited

/-- What an access does with what it reaches (R319, Table 12-2). -/
inductive Access where
  | read
  | write
  | execute
  deriving DecidableEq, Repr, Inhabited

/-- The causes of a Hedgehog trip (R201, SAFE.HEDGEHOG.CAUSE). -/
inductive TripCause where
  | silent
  | supply
  | command
  | voter
  | copies
  deriving DecidableEq, Repr, Inhabited

/-- The units built twice whose copies are compared (R172, R201). -/
inductive Duplicated where
  | outputNetwork
  | commitComparator
  deriving DecidableEq, Repr, Inhabited

/-- What a master that writes is, as far as the tile store and the flip mask ask (R78, R329); `atomic` is an atomic operation of
the core (R325). -/
inductive Writer where
  | dma (e : Nat)
  | resolverCommit
  | rinWriter
  | scrubber
  | core (space : Nat)
  | atomic (space : Nat)
  | bist
  | queueManager
  deriving DecidableEq, Repr, Inhabited

/-- The canonical content of one ESTATE record (Table 03-7). -/
structure ERec where
  state : Byte
  detail : Byte
  locks : Byte
  fault : Byte
  owner : Nat
  okind : Nat
  flank : Nat
  deriving DecidableEq, Repr, Inhabited

/-- The canonical content of one RSTATE record (R71). -/
structure RRec where
  state : Byte
  timer : Nat
  tkind : Nat
  ovl : Nat
  groups : BitVec 16
  deriving DecidableEq, Repr, Inhabited

/-- One cycle-latched write waiting for its latch (R142): parameter, value, the task whose release latches it, and the
task cycle number of that release. -/
structure PendingLatch where
  num : Nat
  value : Word
  task : Nat
  cycle : Nat
  deriving DecidableEq, Repr, Inhabited

/-- The result of one tagged command of a session (R381, R395): RESULT 0 PENDING, 1 OK, 2 REFUSED. -/
structure TagResult where
  tag : Nat
  session : Nat
  result : Nat
  reason : Nat
  cycle : Nat
  deriving DecidableEq, Repr, Inhabited

/-- One operator request in the queue of R394 with the TAG it took. -/
structure QueuedReq where
  tag : Nat
  op : Nat
  target : Nat
  deriving DecidableEq, Repr, Inhabited

/-- A STATE transfer (Table 06-2, KIND 0x7). -/
structure StateXfer where
  commit : Nat
  estate : List ERec
  rstate : List RRec
  acc : Nat
  exch : Nat
  active : List (Nat × Word)
  pending : List PendingLatch
  queue : List QueuedReq
  results : List TagResult
  nextTag : Nat
  deriving DecidableEq, Repr, Inhabited

/-- An XSTATE transfer (Table 11-1, KIND 0x7). `lockCauses` gives per output its lockout cause, `maint` the maintenance
latches. -/
structure XStateXfer where
  commit : Nat
  estate : List ERec
  rstate : List RRec
  acc : Nat
  exch : Nat
  taskCycles : List Nat
  skips : List Nat
  lockCauses : List Nat
  maint : Word
  counters : List GateRecord
  deriving DecidableEq, Repr, Inhabited

/-- The pairing key of a presentation to the commit comparator (R365). -/
structure PairKey where
  mainCycle : Nat
  offset : Nat
  ordinal : Nat
  deriving DecidableEq, Repr, Inhabited

/-- A connection of the vital safety layer (R268, R269): peer node, direction, source and destination elements,
freshness in cluster cycles, safe value of every DATA word, the producing task and the key of each lane. -/
structure Conn where
  peer : Nat
  inbound : Bool
  event : Bool
  src : Nat
  dst : Nat
  fresh : Nat
  safe : List Word
  task : Nat
  key : Tri (BitVec 256)
  deriving DecidableEq, Repr, Inhabited

/-- A window entry of the compiled schedule (Table 09-3). -/
structure Window where
  arbitrating : Bool
  port : Port
  rep : Nat
  base : Nat
  start : Nat
  len : Nat
  origin : Nat
  cls : Nat
  mask : BitVec 4
  deriving DecidableEq, Repr, Inhabited

/-- A claim as its CLAIM frames spell it (R266): claim number, claimant, the topology digest it names; the content that the
channels compare; the window entries of the node's ports and those of the neighbours' ports as this node receives them; its
connections with the keys of the lane; input debounce and output timeouts; what the signature covers, with the signature; the
certificate: what it certifies, its public key, and the Sahken device CA's signature. -/
structure ClaimBlock where
  number : Word
  claimant : Nat
  topology : BitVec 64
  content : List Byte
  debounce : List (Nat × Nat)
  timeouts : List (Nat × Nat)
  windows : List Window
  rxWindows : List Window
  conns : List Conn
  signed : List Byte
  signature : Nat
  certified : List Byte
  modulus : Nat
  exponent : Nat
  certSignature : Nat
  deriving DecidableEq, Repr, Inhabited

end Sys2Proof
end

