-- ==== Sys2Proof/Syntax.lean ====
section
/-! DEFINITION. The commands of the block: one constructor per row of spec/opcode_table.json, in the table's order, with
the row's rule. `ch` is the channel at which an event comes about, `frm` the channel that sent a transfer; host commands
carry their packet. -/

namespace Sys2Proof

/-- The commands (spec/opcode_table.json). -/
inductive Instr where
  /-- FEED_LOSS, R32: A logic feed stays below 15.0 V for 200 µs and counts as lost; the channel records a feed-loss
  event. -/
  | feedLoss (ch : Ch) (feed : Feed)
  /-- PF_ANNOUNCED, R370: The power-fail flush completes with a PF_ANNOUNCED marker and HEAD written, and the channel
  halts. -/
  | pfAnnounced (ch : Ch)
  /-- FEED_RESTORED, R32: A feed stays at or above 16.8 V for 100 ms and counts as present again; its restoration is
  recorded. -/
  | feedRestored (ch : Ch) (feed : Feed)
  /-- HOLDUP_EXHAUSTED, R33: The hold-up store is exhausted and each supply monitor holds its channel in reset. -/
  | holdupExhausted
  /-- POWER_ON_RESET, R402: Reset is released once a feed has been present for 100 ms, and P0 with the hardware memory
  fill begins. -/
  | powerOnReset (ch : Ch)
  /-- STARTUP_PHASE_COMPLETE, R402: A start-up phase ends and the channel enters the next phase. -/
  | startupPhaseComplete (ch : Ch) (r : PhaseReport)
  /-- AGREEMENT_DECISION, R405: With all agreement sets in, each channel compares digests and seal readings and stops
  or excludes as required. -/
  | agreementDecision (ch : Ch)
  /-- AGREEMENT_TIMEOUT, R404: Ten seconds pass at P6 without a partner's agreement set and the channel stops with
  0x0607. -/
  | agreementTimeout (ch : Ch) (ms : Nat)
  /-- ALIGNMENT_TIMEOUT, R406: The lane has not reached alignment 60 s after entering P6 and the channel stops with
  0x0606. -/
  | alignmentTimeout (ch : Ch) (skew ms : Nat)
  /-- TEST_TIMEOUT, R171: No TEST transfer from a partner arrives within 5 s of entering P4 and the channel stops. -/
  | testTimeout (ch : Ch) (ms : Nat)
  /-- PARTNER_LISTEN_END, R297: The 2 s partner listen before P7 ends. -/
  | partnerListenEnd (ch : Ch) (ms : Nat)
  /-- HOST_HUB_FAILURE, R15: The host hub fails; commands stop and the hub's supervision blanks every front indicator
  within 1 s. -/
  | hostHubFailure
  /-- HOST_PORT_LOST, R15: One second after the last frame from the hub, each channel records a host-port-lost event.
  -/
  | hostPortLost (ch : Ch)
  /-- SFP_INSERTED, R38: A transceiver is plugged and its identification is checked before its port is enabled or left
  unpowered. -/
  | sfpInserted (ch : Ch) (port : Port) (code : Optics) (mw : Nat)
  /-- SFP_REMOVED, R38: A transceiver is pulled, which is a link loss on that plane of that lane. -/
  | sfpRemoved (ch : Ch) (port : Port)
  /-- SEAL_SAMPLE, R49: Every 1 ms each channel samples its switch contacts and counts a glitch or confirms a change.
  -/
  | sealSample (ch : Ch) (pos : Word)
  /-- SAMPLER_STALL, R22: No new input snapshot arrives for 100 µs; the channel substitutes safe values and records a
  sampler fault. -/
  | samplerStall (ch : Ch)
  /-- INPUT_DEBOUNCE, R183: An input's raw samples have shown a new level on DIN.DEBOUNCE consecutive samples and the
  debounced value changes. -/
  | inputDebounce (ch : Ch) (t : Terminal) (level : Bool)
  /-- INPUT_CIRCUIT_TEST, R184: Every 2.0 s an ON input circuit is forced OFF for 20 µs and marked invalid or cleared.
  -/
  | inputCircuitTest (ch : Ch) (n : Nat) (pass : Bool)
  /-- TASK_RELEASE, R123: A task is released on its grid: latch, freeze, markers and vote sets sent, or the release is
  skipped. -/
  | taskRelease (ch : Ch) (offset now snaps : Nat) (back : Word) (warn : BitVec 4)
  /-- MARKER, R23: A cycle-start marker arrives and the channel forms the sender's offset for its release adjustment.
  -/
  | marker (ch frm : Ch) (l : Link) (cycle localTime wait arrival : Nat)
  /-- INPUT_AGREEMENT, R187: The wait for partners' input vote sets ends and the channel builds the consolidated input
  image. -/
  | inputAgreement (ch : Ch)
  /-- TASK_RUN, R123: The task's instances execute, the resolver pass runs for T1, and the vote set is built and sent.
  -/
  | taskRun (ch : Ch) (task passUs execUs : Nat)
  /-- POSITIONING_TIMEOUT, R99: A point positioning timer expires without detection; the route returns to RELEASED and
  a timeout is recorded. -/
  | positioningTimeout (ch : Ch) (route : Nat)
  /-- APPROACH_TIME_RELEASE, R107: An approach-locking timer expires and the route returns to RELEASED. -/
  | approachTimeRelease (ch : Ch) (route : Nat)
  /-- OVERLAP_RELEASE_TIMER, R104: An overlap release timer expires and the overlap is released once its sections read
  clear. -/
  | overlapReleaseTimer (ch : Ch) (route : Nat)
  /-- EMERGENCY_RELEASE_EXPIRY, R109: An emergency release timer expires and the route gives back every lock and
  returns to RELEASED. -/
  | emergencyReleaseExpiry (ch : Ch) (route : Nat)
  /-- RSV_TIMEOUT, R97: A reservation is not held within RES.RSV_TIMEOUT; the route gives everything back with reason
  0x0A. -/
  | rsvTimeout (ch : Ch) (route : Nat)
  /-- STARTUP_HOLD_END, R112: The start-up hold time runs out, requests are accepted again and RELEASE_ALL is sent. -/
  | startupHoldEnd (ch : Ch)
  /-- TILE_VERIFY, R81: A tile streamed through the tile check-value unit is marked verified or failed. -/
  | tileVerify (ch : Ch) (tile : Nat) (flips : List (Nat × Word)) (poison : Bool)
  /-- TILE_RELOAD, R84: A failed tile is reloaded from the master copy or input image and re-verified. -/
  | tileReload (ch : Ch) (tile : Nat) (flips : List (Nat × Word)) (poison : Bool)
  /-- PROG_TILE_VERIFY, R88: A PROG tile is verified before first use in a task cycle, or copied and verified into
  private SRAM. -/
  | progTileVerify (ch : Ch) (task tile : Nat) (flips : List (Nat × Word)) (poison : Bool)
  /-- FB_TIMER_EXPIRY, R137: A timer instance's elapsed time reaches its preset and the timer expires. -/
  | fbTimerExpiry (ch : Ch) (inst : Nat)
  /-- GROUP_RETURN_TO_SERVICE, R200: WARN has been clear for 1 s of task time and the sagged group returns to service.
  -/
  | groupReturnToService (ch : Ch) (g : Nat)
  /-- GATE_FAULT, R213: Lock contacts disagree longer than DOOR.DISC_TIME and the gate goes to FAULT. -/
  | gateFault (ch : Ch) (gate : Nat)
  /-- DOOR_INPUT_DISCREPANCY, R211: A two-channel door input pair disagrees longer than DOOR.DISC_TIME and FAULT bit 0
  is set. -/
  | doorInputDiscrepancy (ch : Ch) (elem : Nat)
  /-- GATE_ISOLATION_LAPSE, R220: A gate isolation time is used up; the gate returns to UNPROVEN. -/
  | gateIsolationLapse (ch : Ch) (gate : Nat)
  /-- GATE_ISOLATION_WARNING, R220: A warning is recorded 15 min before the lapse of an isolation longer than 15 min.
  -/
  | gateIsolationWarning (ch : Ch) (gate : Nat)
  /-- DISCREPANCY_TIMEOUT, R188: A channel's input reading has differed longer than DIN.DISC_TIME and its circuit is
  marked faulty. -/
  | discrepancyTimeout (ch who : Ch) (n : Nat)
  /-- DISCREPANCY_CLEAR, R188: A faulty circuit's reading has agreed for 60 s and its mark clears. -/
  | discrepancyClear (ch who : Ch) (n : Nat)
  /-- VOTE, R162: A vote set transfer from a partner is read from the alignment queue and kept, discarded or counted.
  -/
  | vote (ch frm : Ch) (l : Link) (x : VoteSet)
  /-- VOTE_DECISION, R164: The wait for partner sets ends and the channel compares sets and decides the run's outcome.
  -/
  | voteDecision (ch : Ch) (task execUs : Nat)
  /-- VERDICT, R165: A partner's VERDICT arrives and may exclude the named channel. -/
  | verdict (ch frm : Ch) (l : Link) (v : Verdict)
  /-- EXCL_ACK, R166: An excluded channel's exclusion confirmation arrives. -/
  | exclAck (ch frm : Ch) (l : Link) (who : Ch) (taskCycle : Nat)
  /-- EXCL_ACK_TIMEOUT, R166: No EXCL_ACK arrives 2 ms after the verdict and the exclusion is recorded as unconfirmed.
  -/
  | exclAckTimeout (ch who : Ch)
  /-- CUT_LINE_CHANGE, R169: A cut line changes and the output network removes a channel's drive when both partners
  assert. -/
  | cutLineChange (frm whom : Ch) (level : Bool)
  /-- ONE_SIDED_LIMIT, R168: A one-sided naming stands for VOTE.SINGLE_LIMIT decisions and the naming channel is
  excluded. -/
  | oneSidedLimit (ch : Ch)
  /-- VOTER_FAULT, R172: The duplicated voter copies differ longer than 2 µs and a voter fault latches. -/
  | voterFault (unit : Duplicated)
  /-- DEG_LIMIT_WARNING, R175: 2oo2 time comes within 1 h of the limit and DEG_WARN is set. -/
  | degLimitWarning (ch : Ch)
  /-- DEG_LIMIT_EXPIRED, R175: 2oo2 time reaches the limit and the module goes into safe shutdown. -/
  | degLimitExpired (ch : Ch)
  /-- DEG_COUNT_RESET, R174: After 1 h of continuous 2oo3 the 2oo2 time count returns to 0. -/
  | degCountReset (ch : Ch)
  /-- REINT_START, R176: The reintegration delay passes with all conditions met and an attempt begins in PREPARE. -/
  | reintStart (ch : Ch)
  /-- REINT_PREPARE_DONE, R177: The rebuilt tile store is ready and REINT_REQ is sent at a main-cycle boundary. -/
  | reintPrepareDone (ch : Ch)
  /-- REINT_TIMEOUT, R179: The COPY phase has not ended within VOTE.REINT_CTRL.TIMEOUT and the attempt fails. -/
  | reintTimeout (ch : Ch)
  /-- REINT_REQ, R177: A reintegration request or abandonment transfer arrives at a source. -/
  | reintReq (ch frm : Ch) (l : Link) (abandon : Bool) (attempt : Nat)
  /-- PAGE, R178: A PAGE transfer of canonical instance data arrives and is stored in the channel's form. -/
  | page (ch frm : Ch) (l : Link) (page : Nat) (data : List Word)
  /-- STATE, R177: A STATE transfer of a commit arrives at the reintegrating channel. -/
  | stateTransfer (ch frm : Ch) (l : Link) (x : StateXfer)
  /-- JOIN, R177: The JOIN transfer names the join cycle and the channel starts probation. -/
  | join (ch frm : Ch) (l : Link) (cycle pages : Nat)
  /-- TEST, R170: A TEST vote set arrives at P4 and passes through the comparator tests. -/
  | test (ch frm : Ch) (l : Link) (set : List Word) (odd : List TestCase)
  /-- COUNTERS, R222: Gate counter records arrive at P6 and each counter is taken by median. -/
  | counters (ch frm : Ch) (l : Link) (records : List GateRecord)
  /-- CLAIM_TRANSFER, R267: A CLAIM transfer carries a channel's claim digest for agreement across the channels. -/
  | claimTransfer (ch frm : Ch) (l : Link) (number : Word) (claimant : Nat) (digest : BitVec 256)
  /-- OFF_TEST_PULSE, R192: In a slot an energised output is pulsed by a pair of channels and each judges a dip. -/
  | offTestPulse (ch : Ch) (n : Nat) (pair : Pair) (sweep : Option Bool) (dip cut : Bool)
  /-- LOW_SIDE_TEST, R193: A channel opens its low-side switches of a group for TPG.WIDTH and sets LSF on a failure.
  -/
  | lowSideTest (ch : Ch) (g : Nat) (ok : Bool)
  /-- OUTPUT_TIMEOUT, R191: An output's command timer runs out and the channel opens its high-side switches of it. -/
  | outputTimeout (ch : Ch) (n : Nat)
  /-- FIELD_SUPPLY_SAG, R199: A group's field supply stays below 16.0 V for 5 ms; the channel sets its sag latch and
  opens its switches. -/
  | fieldSupplySag (ch : Ch) (g : Nat)
  /-- HEDGEHOG_TRIP, R201: A trip cause opens every low-side group switch within 1 ms. -/
  | hedgehogTrip (cause : TripCause)
  /-- REFERENCE_SEND, R238: At macrotick 0 of each basic cycle the Owl sends a reference frame on both ports. -/
  | referenceSend (ch : Ch)
  /-- OWL_GIVE_UP, R247: An Owl that has not sent its reference in two basic cycles gives up the role. -/
  | owlGiveUp (ch : Ch)
  /-- REFERENCE, R240: A reference frame arrives and the node relays it and corrects its offset. -/
  | reference (ch : Ch) (f : FrameRx)
  /-- REFERENCE_MISSING, R243: No valid reference has arrived by macrotick 100 and a missing reference is counted. -/
  | referenceMissing (ch : Ch)
  /-- OWL_TAKEOVER, R246: References have been missing for 2 × (k − 1) basic cycles and Owl k takes over. -/
  | owlTakeover (ch : Ch)
  /-- REFERENCE_CONFLICT_LIMIT, R264: Reference conflicts in 8 consecutive basic cycles send TOPO_FAULT, cause 4. -/
  | referenceConflictLimit (ch : Ch)
  /-- LISTEN_TIMEOUT, R249: The two-cluster-cycle listen ends with no reference. -/
  | listenTimeout (ch : Ch)
  /-- COLDSTART_ENTRY, R250: An eligible node waiting after its listen enters COLDSTART at its next T1 release. -/
  | coldstartEntry (ch : Ch)
  /-- COLDSTART_COMPLETE, R250: A candidate has sent eight coldstart frames unchallenged and becomes Owl. -/
  | coldstartComplete (ch : Ch)
  /-- COLDSTART, R250: A coldstart frame arrives and is followed as a reference or ignored by key. -/
  | coldstart (ch : Ch) (f : FrameRx)
  /-- DUP_BACKOFF_END, R251: The duplicate-ID back-off ends and the node enters LISTEN again. -/
  | dupBackoffEnd (ch : Ch)
  /-- SCHEDULE_SWITCH, R237: At the cluster cycle SWITCH_AT the lane changes schedule. -/
  | scheduleSwitch (ch : Ch)
  /-- FRAME_TRANSMIT, R228: A port starts a queued frame in a transmit window that it fits. -/
  | frameTransmit (ch : Ch) (port : Port) (at_ : Nat)
  /-- BADGER_VIOLATION, R231: The transmit logic drives the line outside the Badger enable and the driver is cut. -/
  | badgerViolation (ch : Ch) (port : Port) (at_ : Nat)
  /-- HELLO, R260: A HELLO frame arrives and updates the link table. -/
  | hello (ch : Ch) (f : FrameRx)
  /-- DISCOVERY_COMPLETE, R260: The link table is stable for two cluster cycles with every key in SYNC and discovery
  completes. -/
  | discoveryComplete (ch : Ch)
  /-- TIME_STATUS, R245: A time status announcement arrives and feeds the choice of backup Owls. -/
  | timeStatus (ch : Ch) (f : FrameRx)
  /-- DELAY_REQ, R239: A link delay request arrives and is answered. -/
  | delayReq (ch : Ch) (f : FrameRx)
  /-- DELAY_RESP, R239: A link delay response arrives and the port's link delay is measured. -/
  | delayResp (ch : Ch) (f : FrameRx)
  /-- REINT_NOTICE, R244: A reintegration notice from a drifted node arrives. -/
  | reintNotice (ch : Ch) (f : FrameRx)
  /-- IDENTITY, R256: An unprogrammed module's identity announcement arrives. -/
  | identity (ch : Ch) (f : FrameRx)
  /-- CREDIT, R279: A CREDIT frame arrives and the port sets its credits per class and level. -/
  | credit (ch : Ch) (f : FrameRx)
  /-- PORT_DOWN, R265: Three dynamic segments end without a valid frame; the port is down and LINK_DOWN is sent. -/
  | portDown (ch : Ch) (port : Port)
  /-- PORT_UP, R265: A port with valid frames in 3 segments and the right neighbour comes up again. -/
  | portUp (ch : Ch) (port : Port)
  /-- LINK_DOWN, R265: A LINK_DOWN notice arrives, is relayed, and the link is removed from hop counts. -/
  | linkDown (ch : Ch) (f : FrameRx)
  /-- READY, R263: A READY frame arrives and the Owl may announce the compiled schedule. -/
  | ready (ch : Ch) (f : FrameRx)
  /-- TOPO_FAULT, R263: A topology fault frame arrives. -/
  | topoFault (ch : Ch) (f : FrameRx)
  /-- CLAIM, R267: A CLAIM frame arrives and an unprogrammed node's channel accepts or ignores the claim. -/
  | claim (ch : Ch) (f : FrameRx)
  /-- CLAIM_ACK, R263: A CLAIM_ACK arrives from an I/O node. -/
  | claimAck (ch : Ch) (f : FrameRx)
  /-- HEARTBEAT_FRAME, R303: A heartbeat frame arrives on the lane and is checked and its claim noted. -/
  | heartbeatFrame (ch : Ch) (f : FrameRx)
  /-- VITAL_DATA, R270: A vital cyclic frame arrives and its code, destination, source and sequence are checked. -/
  | vitalData (ch : Ch) (f : FrameRx)
  /-- RESERVE, R283: A RESERVE message arrives for consolidation into the owner's request tile. -/
  | reserve (ch : Ch) (f : FrameRx)
  /-- GRANT, R284: A GRANT message arrives for consolidation at the originator. -/
  | grant (ch : Ch) (f : FrameRx)
  /-- REFUSE, R282: A REFUSE message arrives for consolidation at the originator. -/
  | refuse (ch : Ch) (f : FrameRx)
  /-- UNRESERVE, R283: An UNRESERVE message arrives for consolidation at the owner. -/
  | unreserve (ch : Ch) (f : FrameRx)
  /-- RELEASE_ALL, R285: A broadcast RELEASE_ALL arrives for consolidation. -/
  | releaseAll (ch : Ch) (f : FrameRx)
  /-- REPORT, R98: A reservation REPORT arrives with the owner's element states. -/
  | report (ch : Ch) (f : FrameRx)
  /-- NONVITAL, R256: A non-vital application frame arrives. -/
  | nonvital (ch : Ch) (f : FrameRx)
  /-- QUEUE_LINK_ERROR, R278: An uncorrectable error in a queue link word flushes the reserve range and starts its
  rebuild. -/
  | queueLinkError (ch : Ch) (cls : Nat) (range : Option (Port × Nat))
  /-- QUEUE_RANGE_REBUILD, R278: The sweep of a reserve range completes and its free list is rebuilt. -/
  | queueRangeRebuild (ch : Ch) (cls : Nat) (range : Option (Port × Nat))
  /-- HEARTBEAT_INSTANT, R302: At each heartbeat instant every channel sends heartbeats and a partner vote set. -/
  | heartbeatInstant (ch : Ch) (loop : Bool)
  /-- HEARTBEAT, R303: A partner heartbeat transfer arrives and is checked. -/
  | heartbeat (ch : Ch) (l : PLink) (b : Beat)
  /-- HEARTBEAT_MISS, R303: No valid heartbeat from an instant arrives within a period and a miss is counted. -/
  | heartbeatMiss (ch : Ch) (path : Path)
  /-- PARTNER_AGREEMENT, R304: Partner vote sets are consolidated and decisions on the partner are taken. -/
  | partnerAgreement (ch : Ch)
  /-- XFER_REQUEST, R305: A standby without state asks for a full transfer with REQ 1 after its delay. -/
  | xferRequest (ch : Ch)
  /-- REQ, R300: A standby's REQ transfer arrives asking for a transfer, a resend or an abandonment. -/
  | req (ch : Ch) (l : PLink) (code n : Nat)
  /-- XFER, R306: An XFER page arrives and is checked and stored. -/
  | xfer (ch : Ch) (l : PLink) (page : Nat) (pageCrc : Word) (data : List Word)
  /-- XSTATE, R306: The XSTATE transfer of commit J − 1 arrives. -/
  | xstate (ch : Ch) (l : PLink) (x : XStateXfer)
  /-- COMMIT, R307: The COMMIT transfer arrives and verification begins. -/
  | commit (ch : Ch) (l : PLink) (cycle pages : Nat) (digest : BitVec 64)
  /-- XFER_VERIFY, R306: The standby's digest agrees with COMMIT among its channels and it is synchronised. -/
  | xferVerify (ch : Ch)
  /-- XFER_TIMEOUT, R308: A full transfer has not reached DONE within its timeout and is abandoned. -/
  | xferTimeout (ch : Ch)
  /-- RUN_IN, R309: A RUN_IN arrives and the standby replays that run. -/
  | runIn (ch : Ch) (l : PLink) (r : RunInput)
  /-- RUN_END, R309: A RUN_END arrives and the replayed run is verified or the state discarded. -/
  | runEnd (ch : Ch) (l : PLink) (task taskCycle : Nat) (digest : BitVec 64)
  /-- CMD, R203: The active's voted local output commands and lockouts arrive for the twin stage. -/
  | cmd (ch : Ch) (l : PLink) (task taskCycle : Nat) (mask outs lockouts : Word)
  /-- DELTA_END, R310: A DELTA_END closes the cycle's delta and missing transfers are judged. -/
  | deltaEnd (ch : Ch) (l : PLink) (cycle runs : Nat)
  /-- SWITCH, R314: The active's SWITCH transfer names the switchover cycle. -/
  | switchTransfer (ch : Ch) (l : PLink) (cycle : Nat)
  /-- DMA_DESCRIPTOR, R321: A DMA descriptor completes its copy, check or fill. -/
  | dmaDescriptor (ch : Ch) (e : Nat) (d : Descriptor)
  /-- DMA_STOP, R335: A DMA engine stops on a fault and resumes at its restart point. -/
  | dmaStop (ch : Ch) (e : Nat)
  /-- TRANSLATION_FAULT, R320: A translation fault or poisoned table entry stops the access. -/
  | translationFault (ch : Ch) (reader : Reader) (space va : Nat) (acc : Access)
  /-- INIT_TRAP, R327: An access to an uninitialised DRAM region is trapped. -/
  | initTrap (ch : Ch) (reader : Reader) (addr : Nat)
  /-- MEMORY_READ_ERROR, R324: A read meets an uncorrectable or poisoned lane and the reader handles it. -/
  | memoryReadError (ch : Ch) (reader : Reader) (addr lane : Nat)
  /-- MEMORY_PROTECTION_FAULT, R78: A write to the tile store by a master not allowed is blocked and recorded. -/
  | memoryProtectionFault (ch : Ch) (w : Writer) (addr : Nat)
  /-- SCRUB_WORD, R331: The scrubber reads one word and writes it back or poisons a lane. -/
  | scrubWord (ch : Ch) (dram : Bool)
  /-- SCRUB_UE_ACTION, R331: Firmware acts on a scrubber's uncorrectable error by region under Table 12-5. -/
  | scrubUeAction (ch : Ch) (addr lane : Nat)
  /-- PAGE_RETIRE, R333: A DRAM page meeting R332 is moved to a spare page and listed. -/
  | pageRetire (ch : Ch) (page cause : Nat)
  /-- BANK_RETIRE, R334: A DRAM bank is retired to a spare bank, or the channel stays excluded. -/
  | bankRetire (ch : Ch) (bank : Nat)
  /-- CORRECTION_LOG_EXPIRY, R375: A correction log entry older than 24 h is freed. -/
  | correctionLogExpiry (ch : Ch) (addr lane : Nat)
  /-- ARBITER_DECISION, R337: The arbiter grants the slot owner or the waiting requester of highest effective
  priority. -/
  | arbiterDecision (ch : Ch) (waiting : BitVec 8)
  /-- ARBITER_HOLD_CUT, R339: A grant reaches HOLD_MAX and is cut at the next beat. -/
  | arbiterHoldCut (ch : Ch)
  /-- MEM_FLIP_WRITE, R329: A write of MEM.FLIP arms a check-bit mask and clears DONE. -/
  | memFlipWrite (ch : Ch) (value : Word) (host : Bool)
  /-- FLIP_APPLY, R329: The next matching write takes the armed mask; ARM clears and DONE sets. -/
  | flipApply (ch : Ch) (w : Writer) (addr : Nat) (lanes : BitVec 4) (data : Word)
  /-- ARB_PARAM_WRITE, R338: A write to ARB.PRIO or ARB.SLOT takes effect at the next decision. -/
  | arbParamWrite (ch : Ch) (num : Nat) (value : Word)
  /-- ARB_CUT_CLEAR, R343: A write of 1 to ARB.CUT bits clears them. -/
  | arbCutClear (ch : Ch) (bits : BitVec 8)
  /-- BIST_SLICE, R344: In its turn and idle time the channel runs a 1 ms test slice of one block. -/
  | bistSlice (ch : Ch) (block slice : Nat) (idleUs : Nat) (results : List Word) (hot : List (Nat × Pair))
  /-- BIST_SLICE_TIMEOUT, R345: A slice not ended 1.000 ms after its start is abandoned. -/
  | bistSliceTimeout (ch : Ch) (block slice : Nat)
  /-- BIST_SLICE_ABANDON, R349: Vital work demands the block under test and the slice is abandoned. -/
  | bistSliceAbandon (ch : Ch) (block slice : Nat)
  /-- BIST_ROUND_START, R347: A round starts BIST.CTRL.ROUND_H hours after the previous one. -/
  | bistRoundStart (ch : Ch)
  /-- BIST_ROUND_LATE, R347: A round not completed 24 h after its start sets LATE. -/
  | bistRoundLate (ch : Ch)
  /-- RECORD_APPEND, R360: The Squirrel writes a record into its slot in transactions. -/
  | recordAppend (ch : Ch)
  /-- COMMIT_DECISION, R366: The commit comparator decides a voted juridical record and VALID is written. -/
  | commitDecision (key : PairKey)
  /-- DIAG_FLUSH, R368: A diagnostic flush moves buffered records to MRAM. -/
  | diagFlush (ch : Ch)
  /-- RECORDER_START, R364: At P2 the Squirrel finds H, declares any lost SEQ and appends a START marker. -/
  | recorderStart (ch : Ch)
  /-- SESSION_TIMEOUT, R381: HOST.SESSION_TIMEOUT passes without a valid packet and the session closes. -/
  | sessionTimeout (ch : Ch) (session : Nat)
  /-- PREPARE_EXPIRY, R392: A pending prepare older than 30 s is discarded. -/
  | prepareExpiry (ch : Ch) (session : Nat)
  /-- FLASH_WRITE, R411: A container is written to its flash slot and its marker set. -/
  | flashWrite (ch : Ch)
  /-- ARP, R377: An ARP packet is handled by the host hub. -/
  | arp (target : Word)
  /-- ICMP_ECHO, R377: An ICMP echo is answered within size and rate. -/
  | icmpEcho (target : Word) (size now : Nat)
  /-- GET_STATUS, R397: Returns phase, mode, boot status and states. -/
  | getStatus (p : Pkt)
  /-- GET_IDENTITY, R420: Returns the identity block. -/
  | getIdentity (p : Pkt)
  /-- OPEN_SESSION, R381: Opens the lowest free session. -/
  | openSession (p : Pkt)
  /-- CLOSE_SESSION, R381: Closes the session and discards its state. -/
  | closeSession (p : Pkt)
  /-- NOP, R396: Answers OK and keeps the session open. -/
  | nop (p : Pkt)
  /-- READ_PARAM, R429: Reads up to 128 parameters, clearing RC fields. -/
  | readParam (p : Pkt)
  /-- READ_BLOCK, R396: Reads a range of parameter numbers. -/
  | readBlock (p : Pkt)
  /-- WRITE_PARAM, R433: Writes parameters at once or after agreement. -/
  | writeParam (p : Pkt)
  /-- EMERGENCY_RELEASE, R109: Critical command requesting an emergency release of a route. -/
  | emergencyRelease (p : Pkt)
  /-- UNBLOCK, R92: Critical command clearing a block. -/
  | unblock (p : Pkt)
  /-- CLEAR_TASK_FAULT, R131: Critical command clearing a latched task fault. -/
  | clearTaskFault (p : Pkt)
  /-- CLEAR_LOCKOUT, R197: Critical command clearing an output or group lockout. -/
  | clearLockout (p : Pkt)
  /-- HEDGEHOG_REARM, R202: Critical command re-arming the Hedgehog. -/
  | hedgehogRearm (p : Pkt)
  /-- GATE_ISOLATE, R219: Critical command isolating a gate for a duration. -/
  | gateIsolate (p : Pkt)
  /-- PLUNGER_RESET, R218: Critical command resetting a latched plunger. -/
  | plungerReset (p : Pkt)
  /-- REINTEGRATE, R176: Critical command allowing a channel's reintegration. -/
  | reintegrate (p : Pkt)
  /-- EXCH_ARM, R147: Critical command arming an exchange at cycle N. -/
  | exchArm (p : Pkt)
  /-- SWITCHOVER, R314: Critical command for a commanded switchover. -/
  | switchover (p : Pkt)
  /-- RECORDER_CLEAR, R374: Critical command appending CLEAR and raising FLOOR. -/
  | recorderClear (p : Pkt)
  /-- RESTORE_FACTORY, R425: Critical command restoring factory calibration. -/
  | restoreFactory (p : Pkt)
  /-- LOAD_BEGIN, R411: Opens a container load. -/
  | loadBegin (p : Pkt)
  /-- LOAD_DATA, R411: Writes load bytes at an offset. -/
  | loadData (p : Pkt)
  /-- LOAD_END, R411: Checks the loaded container and starts its flash write. -/
  | loadEnd (p : Pkt)
  /-- EXCH_VERIFY, R144: Verifies a staged image for an exchange. -/
  | exchVerify (p : Pkt)
  /-- EXCH_ABORT, R143: Aborts an exchange with result 0x10. -/
  | exchAbort (p : Pkt)
  /-- EXCH_PREPARE_DONE, R149: Preparation of new instances and master copy completes. -/
  | exchPrepareDone (ch : Ch)
  /-- SNAP_OPEN, R372: Opens a recorder snapshot. -/
  | snapOpen (p : Pkt)
  /-- SNAP_READ, R373: Fills the window with next entries. -/
  | snapRead (p : Pkt)
  /-- WINDOW_GET, R396: Returns entries from the window. -/
  | windowGet (p : Pkt)
  /-- SNAP_CLOSE, R372: Closes the snapshot. -/
  | snapClose (p : Pkt)
  /-- ROUTE_SET, R393: Vital command queuing a SET request. -/
  | routeSet (p : Pkt)
  /-- ROUTE_CANCEL, R393: Vital command queuing a CANCEL request. -/
  | routeCancel (p : Pkt)
  /-- POINT_NORMAL, R393: Vital command queuing a POINT_NORMAL request. -/
  | pointNormal (p : Pkt)
  /-- POINT_REVERSE, R393: Vital command queuing a POINT_REVERSE request. -/
  | pointReverse (p : Pkt)
  /-- KEY_RELEASE, R393: Vital command queuing a KEY_RELEASE request. -/
  | keyRelease (p : Pkt)
  /-- BLOCK, R393: Vital command queuing a BLOCK request. -/
  | blockRequest (p : Pkt)
  /-- REQUEST_RESULT, R395: Returns a tagged command's result. -/
  | requestResult (p : Pkt)
  /-- GATE_RESET, R214: Returns a gate to UNPROVEN. -/
  | gateReset (p : Pkt)
  /-- GATE_ISOL_END, R220: Ends a gate isolation. -/
  | gateIsolEnd (p : Pkt)
  /-- GATE_SERVICE_RESET, R223: Resets a gate's SINCE counter. -/
  | gateServiceReset (p : Pkt)
  /-- PORT_RESTART, R231: Clears a babble fault. -/
  | portRestart (p : Pkt)
  /-- QUOTE, R419: Returns a signed attestation quote. -/
  | quote (p : Pkt)
  /-- GET_CERT, R418: Returns part of the certificate. -/
  | getCert (p : Pkt)
  /-- KEY_ENROL, R417: Enrols or revokes a key slot. -/
  | keyEnrol (p : Pkt)
  /-- KEY_READ, R417: Returns a key slot's contents. -/
  | keyRead (p : Pkt)
  /-- CAL_READ, R424: Returns calibration values. -/
  | calRead (p : Pkt)
  /-- CAL_WRITE, R424: Writes user calibration entries. -/
  | calWrite (p : Pkt)
  /-- RESYNC, R305: Commands a partner resynchronisation. -/
  | resync (p : Pkt)
  /-- XFER_ABANDON, R308: Abandons a full transfer with REQ 3. -/
  | xferAbandon (p : Pkt)
  /-- HOST_HUB_RECOVERY, R15: The failed host hub works again, so commands are accepted and the front indicators are
  driven once more. -/
  | hostHubRecovery
  /-- BASIC_CYCLE_START, R240: A node's macrotick counter reaches the end of a basic cycle: the idle-part offset
  correction is applied, and the macrotick rate is set at a cluster cycle start; an INTEGRATING node that has
  qualified enters SYNC at a basic cycle start on the start-up schedule. -/
  | basicCycleStart (ch : Ch) (now : Nat)
  /-- BAD_OPCODE, R396: A well-formed command packet carrying an opcode that Table 15-4 does not list is answered
  BAD_OPCODE. -/
  | badOpcode (opcode : Nat) (p : Pkt)
  deriving DecidableEq, Repr

end Sys2Proof
end

