-- ==== Sys2Proof/WellFormed.lean ====
section
/-! DEFINITION. Which commands are well formed: every operand lies in the range its register, field or table gives it
(spec/03_station_model.md R55, R62; spec/06_triplex_voting.md R160; spec/07_vital_io.md R182, R189; spec/10 Table 10-1;
spec/12 R318; spec/13 Table 13-1; spec/15 Table 15-1). -/

namespace Sys2Proof

/-- A group number, 1 to 4 (R191). -/
def groupInRange (g : Nat) : Bool := decide (1 ≤ g) && decide (g ≤ 4)

/-- Bit flips name words of a tile (R59). -/
def flipsInRange (fs : List (Nat × Word)) : Bool := fs.all (fun f => decide (f.1 < 1024))

/-- A terminal the module has (R182, R189). -/
def Terminal.inRange : Terminal → Bool
  | .input n => decide (n < 96)
  | .readback n => decide (n < 32)

/-- A frame no longer than its LEN can say, arriving within a basic cycle in ns (Tables 09-1 and 10-1). -/
def FrameRx.inRange (f : FrameRx) : Bool := decide (f.payload.length < 1024) && decide (f.arrival < 2 ^ 20)

/-- The header fields fit their widths (Table 15-1). -/
def Pkt.inRange (p : Pkt) : Bool :=
  decide (p.port < 65536) && decide (p.dport < 65536) && decide (p.magic < 65536) && decide (p.length < 65536) &&
    decide (p.version < 256) && decide (p.session < 65536) && decide (p.params.length ≤ 1440)

/-- Every operand of a command lies in its range. -/
def Instr.wellFormed : Instr → Bool
  | .feedLoss _ _ => true
  | .pfAnnounced _ => true
  | .feedRestored _ _ => true
  | .holdupExhausted => true
  | .powerOnReset _ => true
  | .startupPhaseComplete _ _ => true
  | .agreementDecision _ => true
  | .agreementTimeout _ _ => true
  | .alignmentTimeout _ _ _ => true
  | .testTimeout _ _ => true
  | .partnerListenEnd _ _ => true
  | .hostHubFailure => true
  | .hostPortLost _ => true
  | .sfpInserted _ _ _ _ => true
  | .sfpRemoved _ _ => true
  | .sealSample _ _ => true
  | .samplerStall _ => true
  | .inputDebounce _ t _ => t.inRange
  | .inputCircuitTest _ n _ => decide (n < 96)
  | .taskRelease _ offset _ _ _ _ => decide (offset < 2 ^ 20)
  | .marker ch frm _ _ _ _ _ => frm != ch
  | .inputAgreement _ => true
  | .taskRun _ task _ _ => decide (task < 8)
  | .positioningTimeout _ route => decide (route < 4096)
  | .approachTimeRelease _ route => decide (route < 4096)
  | .overlapReleaseTimer _ route => decide (route < 4096)
  | .emergencyReleaseExpiry _ route => decide (route < 4096)
  | .rsvTimeout _ route => decide (route < 4096)
  | .startupHoldEnd _ => true
  | .tileVerify _ tile flips _ => decide (tile < 1024) && flipsInRange flips
  | .tileReload _ tile flips _ => decide (tile < 1024) && flipsInRange flips
  | .progTileVerify _ task tile flips _ => decide (task < 8) && decide (tile < 1024) && flipsInRange flips
  | .fbTimerExpiry _ inst => decide (inst < 2 ^ 18)
  | .groupReturnToService _ g => groupInRange g
  | .gateFault _ gate => decide (gate < 2 ^ 18)
  | .doorInputDiscrepancy _ elem => decide (elem < 2 ^ 18)
  | .gateIsolationLapse _ gate => decide (gate < 2 ^ 18)
  | .gateIsolationWarning _ gate => decide (gate < 2 ^ 18)
  | .discrepancyTimeout _ _ n => decide (n < 96)
  | .discrepancyClear _ _ n => decide (n < 96)
  | .vote ch frm _ _ => frm != ch
  | .voteDecision _ task _ => decide (task < 8)
  | .verdict ch frm _ _ => frm != ch
  | .exclAck ch frm _ _ _ => frm != ch
  | .exclAckTimeout _ _ => true
  | .cutLineChange frm whom _ => frm != whom
  | .oneSidedLimit _ => true
  | .voterFault _ => true
  | .degLimitWarning _ => true
  | .degLimitExpired _ => true
  | .degCountReset _ => true
  | .reintStart _ => true
  | .reintPrepareDone _ => true
  | .reintTimeout _ => true
  | .reintReq ch frm _ _ _ => frm != ch
  | .page ch frm _ _ _ => frm != ch
  | .stateTransfer ch frm _ _ => frm != ch
  | .join ch frm _ _ _ => frm != ch
  | .test ch frm _ _ _ => frm != ch
  | .counters ch frm _ _ => frm != ch
  | .claimTransfer ch frm _ _ _ _ => frm != ch
  | .offTestPulse _ n _ _ _ _ => decide (n < 32)
  | .lowSideTest _ g _ => groupInRange g
  | .outputTimeout _ n => decide (n < 32)
  | .fieldSupplySag _ g => groupInRange g
  | .hedgehogTrip _ => true
  | .referenceSend _ => true
  | .owlGiveUp _ => true
  | .reference _ f => f.inRange
  | .referenceMissing _ => true
  | .owlTakeover _ => true
  | .referenceConflictLimit _ => true
  | .listenTimeout _ => true
  | .coldstartEntry _ => true
  | .coldstartComplete _ => true
  | .coldstart _ f => f.inRange
  | .dupBackoffEnd _ => true
  | .scheduleSwitch _ => true
  | .frameTransmit _ _ _ => true
  | .badgerViolation _ _ _ => true
  | .hello _ f => f.inRange
  | .discoveryComplete _ => true
  | .timeStatus _ f => f.inRange
  | .delayReq _ f => f.inRange
  | .delayResp _ f => f.inRange
  | .reintNotice _ f => f.inRange
  | .identity _ f => f.inRange
  | .credit _ f => f.inRange
  | .portDown _ _ => true
  | .portUp _ _ => true
  | .linkDown _ f => f.inRange
  | .ready _ f => f.inRange
  | .topoFault _ f => f.inRange
  | .claim _ f => f.inRange
  | .claimAck _ f => f.inRange
  | .heartbeatFrame _ f => f.inRange
  | .vitalData _ f => f.inRange
  | .reserve _ f => f.inRange
  | .grant _ f => f.inRange
  | .refuse _ f => f.inRange
  | .unreserve _ f => f.inRange
  | .releaseAll _ f => f.inRange
  | .report _ f => f.inRange
  | .nonvital _ f => f.inRange
  | .queueLinkError _ cls _ => decide (cls < 8)
  | .queueRangeRebuild _ cls _ => decide (cls < 8)
  | .heartbeatInstant _ _ => true
  | .heartbeat _ _ _ => true
  | .heartbeatMiss _ _ => true
  | .partnerAgreement _ => true
  | .xferRequest _ => true
  | .req _ _ code _ => decide (code < 16)
  | .xfer _ _ _ _ _ => true
  | .xstate _ _ _ => true
  | .commit _ _ _ _ _ => true
  | .xferVerify _ => true
  | .xferTimeout _ => true
  | .runIn _ _ r => decide (r.task < 8)
  | .runEnd _ _ task _ _ => decide (task < 8)
  | .cmd _ _ task _ _ _ _ => decide (task < 8)
  | .deltaEnd _ _ _ _ => true
  | .switchTransfer _ _ _ => true
  | .dmaDescriptor _ e _ => decide (e < 4)
  | .dmaStop _ e => decide (e < 4)
  | .translationFault _ _ space va _ => decide (space ≤ 8) && decide (va < 2 ^ 32)
  | .initTrap _ _ _ => true
  | .memoryReadError _ _ _ lane => decide (lane < 4)
  | .memoryProtectionFault _ _ _ => true
  | .scrubWord _ _ => true
  | .scrubUeAction _ _ lane => decide (lane < 4)
  | .pageRetire _ _ _ => true
  | .bankRetire _ bank => decide (bank < 8)
  | .correctionLogExpiry _ _ lane => decide (lane < 4)
  | .arbiterDecision _ _ => true
  | .arbiterHoldCut _ => true
  | .memFlipWrite _ _ _ => true
  | .flipApply _ _ _ _ _ => true
  | .arbParamWrite _ num _ => decide (num < 65536)
  | .arbCutClear _ _ => true
  | .bistSlice _ block _ _ _ _ => decide (block < 18)
  | .bistSliceTimeout _ block _ => decide (block < 18)
  | .bistSliceAbandon _ block _ => decide (block < 18)
  | .bistRoundStart _ => true
  | .bistRoundLate _ => true
  | .recordAppend _ => true
  | .commitDecision _ => true
  | .diagFlush _ => true
  | .recorderStart _ => true
  | .sessionTimeout _ _ => true
  | .prepareExpiry _ _ => true
  | .flashWrite _ => true
  | .arp _ => true
  | .icmpEcho _ _ _ => true
  | .getStatus p => p.inRange
  | .getIdentity p => p.inRange
  | .openSession p => p.inRange
  | .closeSession p => p.inRange
  | .nop p => p.inRange
  | .readParam p => p.inRange
  | .readBlock p => p.inRange
  | .writeParam p => p.inRange
  | .emergencyRelease p => p.inRange
  | .unblock p => p.inRange
  | .clearTaskFault p => p.inRange
  | .clearLockout p => p.inRange
  | .hedgehogRearm p => p.inRange
  | .gateIsolate p => p.inRange
  | .plungerReset p => p.inRange
  | .reintegrate p => p.inRange
  | .exchArm p => p.inRange
  | .switchover p => p.inRange
  | .recorderClear p => p.inRange
  | .restoreFactory p => p.inRange
  | .loadBegin p => p.inRange
  | .loadData p => p.inRange
  | .loadEnd p => p.inRange
  | .exchVerify p => p.inRange
  | .exchAbort p => p.inRange
  | .exchPrepareDone _ => true
  | .snapOpen p => p.inRange
  | .snapRead p => p.inRange
  | .windowGet p => p.inRange
  | .snapClose p => p.inRange
  | .routeSet p => p.inRange
  | .routeCancel p => p.inRange
  | .pointNormal p => p.inRange
  | .pointReverse p => p.inRange
  | .keyRelease p => p.inRange
  | .blockRequest p => p.inRange
  | .requestResult p => p.inRange
  | .gateReset p => p.inRange
  | .gateIsolEnd p => p.inRange
  | .gateServiceReset p => p.inRange
  | .portRestart p => p.inRange
  | .quote p => p.inRange
  | .getCert p => p.inRange
  | .keyEnrol p => p.inRange
  | .keyRead p => p.inRange
  | .calRead p => p.inRange
  | .calWrite p => p.inRange
  | .resync p => p.inRange
  | .xferAbandon p => p.inRange
  | .hostHubRecovery => true
  | .basicCycleStart _ _ => true
  | .badOpcode _ p => p.inRange

end Sys2Proof
end

