-- ==== Sys2Proof/Decode.lean ====
section
/-! DEFINITION. Reading a command from a word of the table. No row of spec/opcode_table.json has bits: the commands are
events, transfers, frames and packets, which reach the module with their operands. -/

namespace Sys2Proof

/-- The command that a word of the table spells: none, for no row gives bits. -/
def decodeTableWord (_nbits _w : Nat) : Option Instr := none

end Sys2Proof
end

