-- ==== Sys2Proof/Machine/Image.lean ====
section
/-! DEFINITION. What a loaded image holds: tiles in canonical form (spec/03_station_model.md R59 to R72), tasks and
function block program (spec/05_block_execution.md R119 to R139), door configuration (spec/08_berth_and_doors.md R210,
R211), connections and fabric schedule (spec/09_fabric_timing.md R234, spec/10_fabric_routing_messages.md R268), and the
Birnik container around it (spec/16_startup_images_identity.md R413, R414). -/

namespace Sys2Proof.Machine

open Sys2Proof

/-- A tile of constant data: KIND and COUNT of its header and its payload words in canonical form (R59, R60). A payload
shorter than 1,022 words continues with canonical 0. -/
structure Tile where
  kind : Nat
  count : Nat
  payload : List Word
  deriving DecidableEq, Repr, Inhabited

/-- The results the resolver writes into T1's output image (Table 04-6), but for REJECT. -/
inductive ResultKind where
  | permit
  | posCmd
  | keyPermit
  | routeState
  | approachLock
  | timeRelease
  deriving DecidableEq, Repr, Inhabited

/-- Where a block, an output entry or a door input takes its value from (R124): a constant, a local input, a DATA word of
a connection, a field of an instance, a voted output of a task, a bit of a platform edge's DETAIL (Table 08-4), RELEASE of a
platform edge on one side (R216), or a result of the resolver (Table 04-6) by element or route ID. -/
inductive SigRef where
  | const (w : Word)
  | input (n : Nat)
  | remote (conn word : Nat)
  | field (inst word : Nat)
  | taskOut (task entry : Nat)
  | doorBit (elem bit : Nat)
  | releaseSide (elem : Nat) (right : Bool)
  | result (kind : ResultKind) (id : Nat)
  deriving DecidableEq, Repr, Inhabited

/-- The types of a vital signal (R127). -/
inductive VType where
  | bool
  | byte
  | word
  | dword
  | dint
  | time
  deriving DecidableEq, Repr, Inhabited

/-- The block types whose behaviour the manual names or lays down (R137, R139, R452, Table 05-3); `library` is every other
type of the library, whose layout and behaviour stand in Sahken's library reference only. -/
inductive BlockKind where
  | logicAnd
  | logicOr
  | logicNot
  | risingEdge
  | fallingEdge
  | setLatch
  | resetLatch
  | onDelay
  | offDelay
  | pulse
  | minOn
  | flasher
  | library
  deriving DecidableEq, Repr, Inhabited

/-- One function block in the program (Table 05-4): its ID, task, TYPE, VERSION, record size in words and place in units of
16 bytes, with its inputs and its preset in ms. Layout, number of inputs and initial values are those of its TYPE and VERSION
(R132). `after` says of a block of T1 that it uses the resolver's results and runs after the pass (R25, R113). -/
structure InstDef where
  id : Nat
  task : Nat
  typ : Nat
  version : Nat
  size : Nat
  offset : Nat
  ins : List SigRef
  preset : Nat
  after : Bool
  deriving DecidableEq, Repr, Inhabited

/-- One entry of a task's output image (R114, R124): a local output, a word of a remote output, a signal offered under its
number, a resolver result, a reject reason, the word of a door element that T0 computes for T1 (R215), or a supervision entry of
T0, one for each slot to come (R192). -/
inductive OutSrc where
  | localOut (n : Nat) (v : SigRef)
  | remoteOut (conn word : Nat) (v : SigRef)
  | offered (number : Nat) (v : SigRef)
  | result (kind : ResultKind) (id : Nat)
  | reject (entry : Nat)
  | doorElem (elem : Nat)
  | slot (k : Nat)
  deriving DecidableEq, Repr, Inhabited

/-- An output image entry with its type and declared safe value (R127) and the function block that drives it, 0 for none. -/
structure OutEntry where
  src : OutSrc
  typ : VType
  safe : Word
  driver : Nat
  deriving DecidableEq, Repr, Inhabited

/-- One task of the image: period in units of 4 ms, priority level, Gnoret's worst-case response time (R119, R122). -/
structure TaskDef where
  present : Bool
  prio : Nat
  period4 : Nat
  budgetUs : Nat
  outs : List OutEntry
  deriving DecidableEq, Repr, Inhabited

/-- A source of a door input (R211): one signal, or an equivalent or antivalent pair. -/
structure DoorSrc where
  first : Option SigRef
  second : Option SigRef
  antivalent : Bool
  deriving DecidableEq, Repr, Inhabited

/-- What the door configuration names for a gate (R211): the sources of its lock contacts. -/
structure GateSrc where
  elem : Nat
  lk1 : DoorSrc
  lk2 : DoorSrc
  deriving DecidableEq, Repr, Inhabited

/-- What it names for a platform edge. -/
structure EdgeSrc where
  elem : Nat
  releaseReq : DoorSrc
  closeReq : DoorSrc
  trainClosed : DoorSrc
  deriving DecidableEq, Repr, Inhabited

/-- What it names for a berth or a plunger. -/
structure OneSrc where
  elem : Nat
  src : DoorSrc
  deriving DecidableEq, Repr, Inhabited

/-- A door gate: its edge, number on it, counter record and service count as Table 08-1 places them, and its lock
contacts. -/
structure GateDef where
  elem : Nat
  edge : Nat
  gateNo : Nat
  slot : Nat
  serviceK : Nat
  lk1 : DoorSrc
  lk2 : DoorSrc
  deriving DecidableEq, Repr, Inhabited

/-- A platform edge: SIDE, GATES, BERTH and platform section (Table 08-1), the inputs of Table 08-2 and the entry signals of
every route whose EDGE names it (R216). -/
structure EdgeDef where
  elem : Nat
  sideRight : Bool
  gateCount : Nat
  berth : Nat
  pfSection : Nat
  releaseReq : DoorSrc
  closeReq : DoorSrc
  trainClosed : DoorSrc
  signals : List Nat
  deriving DecidableEq, Repr, Inhabited

/-- A berth (R212). -/
structure BerthDef where
  elem : Nat
  pfSection : Nat
  stopWin : DoorSrc
  deriving DecidableEq, Repr, Inhabited

/-- An emergency stop plunger and the edge it serves (R218). -/
structure PlungerDef where
  elem : Nat
  edge : Nat
  src : DoorSrc
  deriving DecidableEq, Repr, Inhabited

/-- The fabric schedule of an image (Table 16-4, section 0x0014): window entries, topology digest, the keys of the
description, those that hold an image, its I/O nodes, the windows of the neighbours' ports as this node receives them (R229; log 81), and the neighbour keys of this node (R263, R265). -/
structure Schedule where
  windows : List Window
  rxWindows : List Window
  topology : BitVec 64
  keys : List Nat
  imageKeys : List Nat
  ioNodes : List Nat
  nbrX : Option Nat
  nbrY : Option Nat
  deriving DecidableEq, Repr, Inhabited

/-- A path whose reaction time the module publishes (R204, R446): its ends, the tasks it passes, the carriage time of a
remote source, the time of the source at its own node, and for a remote output its carriage with that node's 2oo3, in
µs. -/
structure ReactPath where
  srcKind : Nat
  srcId : Nat
  dstKind : Nat
  dstId : Nat
  tasks : List Nat
  carriage : Nat
  remoteSrcUs : Nat
  outUs : Nat
  fresh : Nat
  toOff : Bool
  deriving DecidableEq, Repr, Inhabited

/-- An application image (R413): the tile set and the program data, schedule and I/O blocks beside it. IMAGE_SEQ and NODE are
those of the set (R63). `diSafe` holds
the declared safe values of the 96 inputs (R127), `doTask` the owning task of each output, `doElem` the element each
output serves, `contactor` the outputs that drive a contactor (Table 07-14). -/
structure Image where
  imageSeq : Nat
  node : Nat
  tiles : List Tile
  tasks : List TaskDef
  insts : List InstDef
  instKeys : List Word
  doTask : List (Nat × Nat)
  doElem : List (Nat × Nat)
  contactor : Word
  diSafe : BitVec 96
  gateSrcs : List GateSrc
  edgeSrcs : List EdgeSrc
  berthSrcs : List OneSrc
  plungerSrcs : List OneSrc
  conns : List Conn
  claims : List (Nat × List Byte)
  schedule : Option Schedule
  react : List ReactPath
  owlElig : Bool
  laneMax : Nat
  deriving DecidableEq, Repr, Inhabited

/-- A Birnik container as a flash slot or image staging holds it (R413, R414): its header fields, what its signature
block says, the SHA-256 over what is signed, and the image its sections decode to. `formatCode` is 0 when every check of
R413 passed, else the section type at fault plus 1. `tileBad` is the first tile of the channel's own form that fails its
CRC, FORM, INDEX or GEN (R79). -/
structure Container where
  kind : Nat
  channel : Nat
  size : Nat
  version : Word
  api : Word
  libMajor : Nat
  libMinor : Nat
  node : Nat
  hwrev : List Nat
  keyId : BitVec 64
  signedHash : BitVec 256
  signature : Nat
  digest : BitVec 256
  formatCode : Nat
  tileBad : Option Nat
  romSigned : Bool
  image : Option Image
  deriving DecidableEq, Repr, Inhabited

end Sys2Proof.Machine
end

