-- ==== Sys2Proof/Machine/State.lean ====
section
/-! DEFINITION. The state of the module: three channels, what they share, and the queue of waiting commands. Every field
is plain data; its comment gives the rule that names it and its value at reset. The non-volatile part of a channel (MRAM,
spec/14_recorder.md R358, and image flash, R408) stands in `Nv`; everything else starts afresh at P0. -/

namespace Sys2Proof.Machine

open Sys2Proof

/-! ### Records of the event recorder -/

/-- What a recorded event is (R361): the recorder's own codes of Table 14-4 and one name for each event that a chapter
records. Its family, class and whether it is voted are given by functions of `Sys2Proof.Machine.Recorder`. -/
inductive EvName where
  | start | pfAnnounced | pfUnannounced | clear | diagLost | recDissent
  | startupStop | sealChanged | hostAddr | hostPortLost | keyEvent | calRestored | cfgDefault | calDefault
  | fwFallback | unsupportedOptics | keySlotBad
  | cmdAgreed | prepReplaced | prepDiscarded
  | routeState | request | emergency | emergencyExpiry | posTimeout | tileFail | tileReload | tileReloadFault
  | overrun | taskFault | exchange
  | exclusion | exclUnconfirmed | reintegration | safeShutdown | degWarn | skewFault | samplerStall
  | circuitFail | circuitClear | circuitFaulty | lockout | lockoutClear | openLoad | notPicked | sag | warn
  | hedgehogTrip | voterFault | switchSuspect
  | gateFault | unexpectedOpen | berthLost | counterLost | isolWarning | pairFault
  | drift | babble | duplicateId | duplicateKey | linkFault | linkDown | rangeRebuild | claimApplied | topoFault
  | claimChange | partnerLost | pairingFault | syncChange | switchoverCancelled
  | correction | retirement | memProtection | initTrap | spareExhausted | bankFault
  | bistFail | bistLate
  | feedLoss | feedRestored
  deriving DecidableEq, Repr, Inhabited

/-- An event created and not yet a record (R365, R368): its place in time, its object and its DATA words 6 to 12. -/
structure Event where
  name : EvName
  mainCycle : Nat
  offset : Nat
  task : Nat
  obj : Word
  data : List Word
  ordinal : Nat
  deriving DecidableEq, Repr, Inhabited

/-- One 64-byte record of Table 14-2. `valid` is word 15; RCRC and CRC are computed from the other words. `damaged`
says that the slot holds an uncorrectable lane. -/
structure Record where
  seq : Nat
  cls : Nat
  commit : Nat
  ch : Ch
  mainCycle : Nat
  offset : Nat
  task : Nat
  code : Nat
  start : Nat
  data : List Word
  valid : Word
  damaged : Bool
  deriving DecidableEq, Repr, Inhabited

/-- A voted juridical record in its slot awaiting its commit decision (R365). -/
structure PendingRec where
  key : PairKey
  permanent : Bool
  slot : Nat
  record : Record
  deriving DecidableEq, Repr, Inhabited

/-! ### Non-volatile state: MRAM and image flash -/

/-- One copy of the configuration area (R435). -/
structure CfgCopy where
  count : Nat
  vals : List (Nat × Word)
  crcOk : Bool
  deriving DecidableEq, Repr, Inhabited

/-- One copy of the user calibration area (R423): offsets in units of 10 mV, FEED_WARN in 0.1 V. -/
structure CalCopy where
  count : Nat
  di : List Int
  rb : List Int
  feedWarn : Nat
  crcOk : Bool
  deriving DecidableEq, Repr, Inhabited

/-- A key slot (R416): STATE 0 empty, 1 enrolled, 2 revoked. -/
structure KeySlot where
  state : Nat
  keyId : BitVec 64
  exponent : Nat
  modulus : Nat
  label : List Byte
  start : Nat
  crcOk : Bool
  deriving DecidableEq, Repr, Inhabited

/-- An entry of the retired-page list (Table 12-18); a voided entry (R334) has `valid` false. -/
structure Retired where
  valid : Bool
  cause : Nat
  spare : Nat
  page : Nat
  deriving DecidableEq, Repr, Inhabited

/-- An entry of the correction log (R375). -/
structure Correction where
  addr : Nat
  lane : Nat
  count : Nat
  start : Nat
  mainCycle : Nat
  deriving DecidableEq, Repr, Inhabited

/-- The kept part of DOUT.FAULT[n] (R197, Table 07-15). -/
structure OutFault where
  cause : Nat
  maint : Bool
  pair : Nat
  psrc : Bool
  partner : Nat
  openLoad : Bool
  notPicked : Bool
  deriving DecidableEq, Repr, Inhabited

/-- A flash slot (R408): marker 0 EMPTY, 1 VALID, 2 NEXT, 3 RUNNING, 4 STAGED. -/
structure Slot where
  marker : Nat
  cont : Option Container
  deriving DecidableEq, Repr, Inhabited

/-- What a channel keeps across start-ups (Table 14-1, R408). -/
structure Nv where
  /-- R435; reset count 0, empty (every static parameter at its reset value). Configuration area, first copy. -/
  cfg0 : CfgCopy
  /-- R435; reset count 0, empty (every static parameter at its reset value). Configuration area, second copy. -/
  cfg1 : CfgCopy
  /-- R422; reset true (DESIGN CHOICE, log 12). Factory calibration area passes its CRC. -/
  factoryCalOk : Bool
  /-- R423; reset count 0, offsets 0, 180 (DESIGN CHOICE, log 12). User calibration, first copy. -/
  cal0 : CalCopy
  /-- R423; reset count 0, offsets 0, 180 (DESIGN CHOICE, log 12). User calibration, second copy. -/
  cal1 : CalCopy
  /-- R416, R448; reset four empty slots. Key slots. -/
  keys : List KeySlot
  /-- R333; reset empty (DESIGN CHOICE, log 12). Retired-page list, at most 512 entries. -/
  retired : List Retired
  /-- R333; reset false (DESIGN CHOICE, log 12). MEM.STATUS.SPARE_EXH. -/
  spareExh : Bool
  /-- R334; reset identity (DESIGN CHOICE, log 12). DRAM bank map: physical bank of each bank. -/
  bankMap : List Nat
  /-- R375; reset empty (DESIGN CHOICE, log 12). Correction log, at most 1,024 entries. -/
  corrections : List Correction
  /-- R295; reset 0 (DESIGN CHOICE, log 12). E_SEEN, 16 bits. -/
  eSeen : Nat
  /-- R317; reset 0 (DESIGN CHOICE, log 12). PART.EVENTS.TAKEOVER_CNT, 8 bits. -/
  takeoverCnt : Nat
  /-- R317; reset 0 (DESIGN CHOICE, log 12). PART.EVENTS.DEMOTE_CNT, 8 bits. -/
  demoteCnt : Nat
  /-- R317; reset 0 (DESIGN CHOICE, log 12). PART.EVENTS.SYNCLOSS_CNT, 8 bits. -/
  syncLossCnt : Nat
  /-- R317; reset 0 (DESIGN CHOICE, log 12). PART.EVENTS.ABANDON_CNT, 8 bits. -/
  abandonCnt : Nat
  /-- R197; reset no fault (DESIGN CHOICE, log 12). Lockout cause, maintenance latch and findings of each of 32 outputs. -/
  outFaults : List OutFault
  /-- R197; reset 0 (DESIGN CHOICE, log 12). Groups locked out, bit g − 1 for group g. -/
  groupLocked : BitVec 4
  /-- R197; reset 0 (DESIGN CHOICE, log 12). Groups locked out by a low-side test. -/
  groupLsf : BitVec 4
  /-- R221; reset empty: no record has been written (DESIGN CHOICE, log 12). Gate counter records by slot. -/
  gateRecords : List GateRecord
  /-- R364; reset 0 (DESIGN CHOICE, log 12). HEAD, 48 bits. -/
  head : Nat
  /-- R363, R448; reset 0. PERM_BASE, 48 bits. -/
  permBase : Nat
  /-- R374; reset 0 (DESIGN CHOICE, log 12). FLOOR, 48 bits. -/
  floor : Nat
  /-- R364; reset 0 (DESIGN CHOICE, log 12). START, 16 bits, saturating. -/
  start : Nat
  /-- R363; reset empty (DESIGN CHOICE, log 12). Permanent record slots in use. -/
  permanent : List (Nat × Record)
  /-- R363; reset empty (DESIGN CHOICE, log 12). Circulating record slots in use. -/
  circulating : List (Nat × Record)
  /-- R371; reset empty (DESIGN CHOICE, log 12). Sequence numbers declared lost. -/
  lost : List Nat
  /-- R364; reset 0 (DESIGN CHOICE, log 12). Phase reached by the previous start (START marker word 6). -/
  lastPhase : Nat
  /-- R408, R448; reset RUNNING with the shipped firmware (DESIGN CHOICE, log 13). Firmware slot 0. -/
  fw0 : Slot
  /-- R408; reset EMPTY (DESIGN CHOICE, log 13). Firmware slot 1. -/
  fw1 : Slot
  /-- R408, R448; reset EMPTY. Application slot 0. -/
  app0 : Slot
  /-- R408, R448; reset EMPTY. Application slot 1. -/
  app1 : Slot
  deriving DecidableEq, Repr, Inhabited

/-! ### Volatile state of one channel, block by block -/

/-- Start-up (spec/16_startup_images_identity.md). -/
structure Boot where
  /-- R402; reset 0. Phase P0 to P7. -/
  phase : Nat
  /-- R404; reset false. BOOT.STATUS.STOPPED. -/
  stopped : Bool
  /-- R402; reset 0. Clock at the entry to the phase, in µs. -/
  entered : Nat
  /-- R407; reset 0. BOOT.STATUS.CODE, 16 bits. -/
  code : Nat
  /-- R407; reset 0. BOOT.DETAIL. -/
  detail : Word
  /-- R427; reset 0. BOOT.TIME in ms. -/
  ms : Nat
  /-- R438; reset 0. Milliseconds from reset to the end of P0: SYS.UPTIME counts from there. -/
  p0Ms : Nat
  /-- R421; reset false. Unprogrammed mode. -/
  unprog : Bool
  /-- R409; reset false. BOOT.SLOTS.FW_FALLBACK. -/
  fwFallback : Bool
  /-- R409; reset none. Index of the firmware slot taken at P3. -/
  fwSlot : Option Nat
  /-- R410; reset none. Index of the application slot taken at P5. -/
  appSlot : Option Nat
  /-- R426; reset 0. ID.FW_VERSION. -/
  fwVersion : Word
  /-- R426; reset 0. ID.API. -/
  fwApi : Word
  /-- R415; reset 0. Function block library major version of the firmware. -/
  libMajor : Nat
  /-- R415; reset 0. Function block library minor version of the firmware. -/
  libMinor : Nat
  /-- R426; reset 0. Firmware digest. -/
  fwDigest : BitVec 256
  /-- R426; reset 0. Application digest. -/
  appDigest : BitVec 256
  /-- R426; reset 0. Configuration digest at P6. -/
  cfgDigest : BitVec 256
  /-- R170; reset false for each channel. TEST from the channel passed every comparator test. -/
  testOk : Tri Bool
  /-- R170; reset none for each channel. TEST sets in. -/
  testSets : Tri (Option (List Word))
  /-- R404; reset none for each channel. Agreement sets in. -/
  agree : Tri (Option AgreeSet)
  /-- R405; reset false. The agreement of P6 has been decided without a stop. -/
  agreed : Bool
  /-- R405; reset 0. Channels to be excluded at entry to P7, one bit each. -/
  sealOut : BitVec 3
  /-- R406; reset false. The partner listen has ended or is skipped. -/
  listened : Bool
  /-- R222; reset none for each channel. Gate counter records received at P6. -/
  counters : Tri (Option (List GateRecord))
  deriving DecidableEq, Repr, Inhabited

/-- Logic supply as one channel's supply monitor sees it (spec/02_connectors_supplies_seal.md). -/
structure Supply where
  /-- R32; reset false. SYS.FEEDS.PRESENT1. -/
  present1 : Bool
  /-- R32; reset false. SYS.FEEDS.PRESENT2. -/
  present2 : Bool
  /-- R438; reset 0. SYS.FEEDS.FEED1 in 0.1 V, 9 bits. -/
  volts1 : Nat
  /-- R438; reset 0. SYS.FEEDS.FEED2 in 0.1 V, 9 bits. -/
  volts2 : Nat
  /-- R33; reset false. Power-fail declared. -/
  powerFail : Bool
  /-- R33; reset false. Flush ended, channel halted. -/
  halted : Bool
  /-- R33, R402; reset true. The supply monitor holds the channel in reset. -/
  inReset : Bool
  deriving DecidableEq, Repr, Inhabited

/-- The sealed switches as one channel reads them (R44 to R50). -/
structure SealState where
  /-- R50; reset 0 (DESIGN CHOICE, log 11, until P1 reads it). SEAL.BOOT. -/
  bootPos : Word
  /-- R50; reset 0 (DESIGN CHOICE, log 11, until P1 reads it). SEAL.LIVE. -/
  livePos : Word
  /-- R49; reset 0. Consecutive samples that differed from the P1 reading, 0 to 2. -/
  differed : Nat
  /-- R50; reset 0. SEAL.FAULT.GLITCH_CNT, 16 bits. -/
  glitch : Nat
  /-- R50; reset false. SEAL.FAULT.CHANGED. -/
  changed : Bool
  /-- R49; reset false. The change was acted on at a release. -/
  acted : Bool
  /-- R50; reset false. SEAL.FAULT.COMBO. -/
  combo : Bool
  /-- R50; reset false. SEAL.FAULT.RANGE. -/
  range : Bool
  deriving DecidableEq, Repr, Inhabited

/-- Parameters: values in force and writes on their way (spec/17_parameter_map.md). -/
structure Params where
  /-- R140, R435; reset empty: every static parameter at its reset value of Table 17-3. Static values in force. -/
  static : List (Nat × Word)
  /-- R435; reset false. SYS.CFG.DEFAULT. -/
  cfgDefault : Bool
  /-- R435; reset 0. SYS.CFG.COUNT of the copy in force. -/
  cfgCount : Nat
  /-- R141; reset empty: every cycle-latched parameter at its reset value of Table 17-3. Active copies. -/
  active : List (Nat × Word)
  /-- R141, R142; reset empty. Shadow copies waiting for their latch. -/
  shadow : List PendingLatch
  deriving DecidableEq, Repr, Inhabited

/-- A request named in a rejection report. -/
structure Reject where
  reason : Nat
  target : Nat
  deriving DecidableEq, Repr, Inhabited

/-- A reservation this module holds or asks for at another module (R97, R281). -/
structure OutRsv where
  id : Nat
  route : Nat
  owner : Nat
  first : Nat
  entries : List Word
  granted : Bool
  report : List Word
  fresh : Bool
  age : Nat
  ticks : Nat
  deriving DecidableEq, Repr, Inhabited

/-- A reservation another module's route holds on elements of this module (R98): its list entry words, and the element that
secures each of the flank chains among them, in their order. -/
structure InRsv where
  id : Nat
  route : Nat
  node : Nat
  entries : List Word
  flanks : List Nat
  deriving DecidableEq, Repr, Inhabited

/-- What the resolver holds for a route beside its RSTATE record: the own securing elements, each with the number of its flank
chain (R97, R106), the numbers of the chains that another module secures (log 76), sections seen occupied since OCCUPIED (R108), a cancel that waits (R93), restart-held
(R313), the local step of its reservation sequence done (R97), and the last rejection (R118). -/
structure RouteAux where
  flanks : List (Nat × Nat)
  atOwners : List Nat
  seen : List Nat
  cancelled : Bool
  restartHeld : Bool
  localDone : Bool
  lastReject : Reject
  deriving DecidableEq, Repr, Inhabited

/-- The route resolver (spec/04_route_resolver.md). -/
structure Resolver where
  /-- R65; reset empty (taken from the image at P5). ESTATE records by local index. -/
  estate : List ERec
  /-- R71; reset empty (taken from the image at P5). RSTATE records by local index. -/
  rstate : List RRec
  /-- R97, R106, R108; reset empty. Lane registers and per-route memory. -/
  aux : List RouteAux
  /-- R110; reset 0. RES.TICK.ACC in µs, 17 bits. -/
  acc : Nat
  /-- R117; reset 0. RES.CYCLE: main cycle of the last commit. -/
  cycle : Nat
  /-- R110; reset false. A pass has been committed since the accumulator began. -/
  committed : Bool
  /-- R81; reset 0. GEN of the last completed commit, 3 bits. -/
  gen : Nat
  /-- R112; reset true. RES.STATUS.HOLD. -/
  hold : Bool
  /-- R112; reset 0. Ticks of 100 ms left of the start-up hold. -/
  holdTicks : Nat
  /-- R117; reset 0. RES.PASS_TIME.LAST_US, 16 bits. -/
  passLast : Nat
  /-- R117; reset 0. RES.PASS_TIME.MAX_US, 16 bits. -/
  passMax : Nat
  /-- R117; reset 0. RES.COUNTS.REJECT_CNT, 16 bits. -/
  rejectCnt : Nat
  /-- R117; reset 0. RES.COUNTS.ACCEPT_CNT, 16 bits. -/
  acceptCnt : Nat
  /-- R117; reset 0. RES.LAST_REJECT. -/
  lastReject : Reject
  /-- R114; reset empty. Reason codes of the requests of the last pass, in order. -/
  rejects : List Nat
  /-- R97; reset empty. Reservations towards other modules, oldest first. -/
  outRsv : List OutRsv
  /-- R98; reset empty. Reservations held for other modules. -/
  inRsv : List InRsv
  /-- R283; reset empty. GRANT and REFUSE answers to be sent at step 5. -/
  answers : List ReqEntry
  /-- R282; reset empty. RESERVE and UNRESERVE messages to be sent at step 5: node and entry. -/
  asks : List (Nat × ReqEntry)
  /-- R281; reset 0. Next RSV_ID, 16 bits. -/
  nextRsv : Nat
  /-- R100; reset empty. POINT requests being timed: element and ticks left. -/
  pointTimers : List (Nat × Nat)
  /-- R100; reset empty. Points detected again in their locked position in the last pass. -/
  detectedOnce : List Nat
  /-- R313; reset false. Restart state in force. -/
  restart : Bool
  /-- R313; reset false. The first pass in restart state is still to come. -/
  restartFirst : Bool
  /-- R312; reset false. The next pass treats CLEARED and APPROACH_LOCKED routes as failing R101. -/
  withdrawAll : Bool
  deriving DecidableEq, Repr, Inhabited

/-- The verification marks of a slot (R81, R82). A verification is one step of the model, so `verifying` stands within a step
only (log 75). A failure keeps its cause, which the reload's record names (R84). -/
inductive Mark where
  | unverified
  | verifying
  | verified
  | failed (cause : Nat)
  deriving DecidableEq, Repr, Inhabited

/-- The tile check-value unit and block TILE (spec/03_station_model.md). -/
structure TileState where
  /-- R82; reset empty (every slot unverified). Marks other than unverified, by slot. -/
  marks : List (Nat × Mark)
  /-- R88; reset empty. PROG tiles verified for a task's run: task and tile. -/
  progMarks : List (Nat × Nat)
  /-- R89; reset 0. TILE.COUNTS.RELOAD_CNT, 16 bits. -/
  reloadCnt : Nat
  /-- R89; reset 0. TILE.COUNTS.VFAIL_CNT, 16 bits. -/
  vfailCnt : Nat
  /-- R88; reset empty. PROG tiles that failed for a task's run: task, tile and cause. -/
  progFailed : List (Nat × Nat × Nat)
  /-- R85; reset 0. Reloads used in this pass. -/
  used : Nat
  /-- R88; reset empty. Reloads of PROG tiles used in a task's cycle: task and count. -/
  progUsed : List (Nat × Nat)
  /-- R89; reset 0. TILE.LAST_FAIL.CYCLE, 16 bits. -/
  failCycle : Nat
  /-- R89; reset 0. TILE.LAST_FAIL.CAUSE, 4 bits. -/
  failCause : Nat
  /-- R89; reset 0. TILE.LAST_FAIL.INDEX, 10 bits. -/
  failIndex : Nat
  /-- R80, R90; reset 0. TILE.DIGEST: the set digest. -/
  digest : BitVec 64
  /-- R86; reset empty. Master-copy tiles waiting for a rebuild after the next commit. -/
  masterDue : List Nat
  /-- R88; reset empty. Tiles whose reload waits for the pass commit. -/
  reloadDue : List Nat
  /-- R151; reset empty. Slots of PROG tiles that still hold the tile of the image before a switch. -/
  stale : List Nat
  deriving DecidableEq, Repr, Inhabited

/-- A task's frozen input image (R124). `task` is the task that reads it; `others` holds the voted outputs of all tasks as last
written, `otherMain` the main cycle of the run that wrote them. -/
structure InImg where
  task : Nat
  di : BitVec 96
  rb : Word
  warn : BitVec 4
  low : BitVec 4
  lsf : BitVec 4
  dip : Word
  sweep : Word
  remote : List RemoteEntry
  others : List (List Word)
  otherMain : List Nat
  requests : List ReqEntry
  tags : List Nat
  discrepant : BitVec 96
  deriving DecidableEq, Repr, Inhabited

/-- One task (spec/05_block_execution.md R119 to R131, R154). -/
structure TaskState where
  /-- R128; reset 0. TASK.STATUS.SKIPS, 3 bits. -/
  skips : Nat
  /-- R130; reset false. TASK.STATUS.FAULT. -/
  fault : Bool
  /-- R154; reset false. TASK.STATUS.RUNNING: a run has not completed step 5. -/
  running : Bool
  /-- R123; reset false. The input agreement of the run's release instant is done. -/
  imageReady : Bool
  /-- R123; reset false. The run's vote set has been sent. -/
  sent : Bool
  /-- R154; reset 0. TASK.CYCLE: task cycle number of the last release. -/
  cycle : Nat
  /-- R156; reset 0. Task cycle number of the run in progress. -/
  runCycle : Nat
  /-- R156; reset 0. Main-cycle number of the run's release. -/
  runMain : Nat
  /-- R185; reset 0. OFFSET of the run's release in µs. -/
  runOffset : Nat
  /-- R268; reset 0. Cluster cycle number of the sender's lane at the run's release. -/
  runCluster : Nat
  /-- R154; reset 0. TASK.COUNTS.SKIP_CNT, 16 bits. -/
  skipCnt : Nat
  /-- R154; reset 0. TASK.COUNTS.OVR_CNT, 16 bits. -/
  ovrCnt : Nat
  /-- R154; reset 0. TASK.EXEC_LAST in µs. -/
  execLast : Nat
  /-- R154; reset 0. TASK.EXEC_MAX in µs. -/
  execMax : Nat
  /-- R300; reset empty. Writes latched at the run's release. -/
  latched : List (Nat × Word)
  /-- R310; reset empty. Commands that acted at the run's release: opcode and parameters. -/
  acted : List (Nat × List Byte)
  /-- R124; reset empty image. Frozen input image. -/
  inImg : InImg
  /-- R156; reset none. Own vote set of the run in progress. -/
  own : Option TaskSet
  /-- R125; reset empty. Voted output image as last written. -/
  voted : List Word
  /-- R216; reset 0. Main cycle of the run that wrote it. -/
  votedMain : Nat
  /-- R198; reset 0. Task cycle number of the run that wrote it. -/
  votedCycle : Nat
  deriving DecidableEq, Repr, Inhabited

/-- The dynamic record of one function block (Table 05-4): FIRST, its declared words and the task cycle of its previous
execution (R137). `oldPreset` is a preset kept across an exchange (Table 05-6). -/
structure InstState where
  id : Nat
  first : Bool
  fields : List Word
  prevCycle : Nat
  oldPreset : Option Nat
  deriving DecidableEq, Repr, Inhabited

/-- Blocks FB: instance data and the online program exchange (R133 to R155). -/
structure Blocks where
  /-- R133; reset empty (initial values at P5). Function block records in program order. -/
  insts : List InstState
  /-- R143; reset 0. FB.EXCH_STATE.STATE, 3 bits. -/
  exch : Nat
  /-- R143; reset 0. FB.EXCH_STATE.RESULT, 8 bits. -/
  result : Nat
  /-- R155; reset 0. FB.EXCH_CYCLE. -/
  exchCycle : Nat
  /-- R155; reset 0. FB.EXCH_SEQ. -/
  exchSeq : Nat
  /-- R155; reset 0. FB.EXCH_MATCH, 18 bits. -/
  matched : Nat
  /-- R155; reset 0. FB.EXCH_NEW, 18 bits. -/
  fresh : Nat
  /-- R155; reset 0. FB.EXCH_VANISHED, 18 bits. -/
  vanished : Nat
  /-- R155; reset 0. FB.EXCH_REFUSE.KIND, 2 bits. -/
  refuseKind : Nat
  /-- R155; reset 0. FB.EXCH_REFUSE.ID, 18 bits. -/
  refuseId : Nat
  /-- R143; reset none. Staged container. -/
  staged : Option Container
  /-- R411; reset 0 (DESIGN CHOICE, log 51). Half of image staging that holds the running container. -/
  half : Nat
  /-- R149; reset false. Preparation of the armed exchange complete. -/
  prepared : Bool
  /-- R150; reset false. The boundary check has passed and the new tiles are written. -/
  boundaryOk : Bool
  /-- R148; reset empty. Output entries of vanished blocks to be written safe: task and entry. -/
  vanishedOuts : List (Nat × Nat)
  /-- R148; reset empty. Local outputs of vanished blocks that the new image leaves out: task, output and safe value. -/
  absentOuts : List (Nat × Nat × Word)
  /-- R149; reset empty. Records of the armed exchange's new instances, written into their place. -/
  newInsts : List InstState
  /-- R145, R155; reset empty. Space of vanished instances not yet reused: offset in units of 16 bytes and words. -/
  vacated : List (Nat × Nat)
  /-- R151; reset false. The first T1 vote of the new image is still to come. -/
  firstVote : Bool
  deriving DecidableEq, Repr, Inhabited

/-- Block VOTE, its alignment queues and decisions (spec/06_triplex_voting.md). -/
structure Vote where
  /-- R181; reset 0. VOTE.STATE.MODE: 0 start-up, 1 2oo3, 2 2oo2, 3 SAFE, 4 SPLIT. -/
  mode : Nat
  /-- R181; reset 0. VOTE.STATE.INVOTE, bit of each channel. -/
  inVote : BitVec 3
  /-- R181; reset 0. VOTE.STATE.PROBATION, bit of each channel. -/
  probation : BitVec 3
  /-- R175; reset false. VOTE.STATE.DEG_WARN. -/
  degWarn : Bool
  /-- R174; reset 0. 2oo2 time in µs. -/
  degUs : Nat
  /-- R174; reset 0. Time of unbroken 2oo3 since the last 2oo2 decision, in µs. -/
  goodUs : Nat
  /-- R162; reset empty for each channel. Vote sets kept from the channel. -/
  kept : Tri (List TaskSet)
  /-- R159; reset empty for each channel. Tasks whose next decision counts a corrupt transfer from the channel. -/
  corrupt : Tri (List Nat)
  /-- R21; reset empty for each channel. Tasks whose next decision counts a transfer from the channel that found the
  alignment queue full (result code 6). -/
  full : Tri (List Nat)
  /-- R159; reset empty for each channel. Tasks for which a stale set arrived. -/
  stale : Tri (List Nat)
  /-- R160; reset 0 for each channel. Next SEQ expected from the channel, 14 bits. -/
  rxSeq : Tri Nat
  /-- R160; reset 0 for each channel. Next SEQ sent to the channel, 14 bits. -/
  txSeq : Tri Nat
  /-- R181; reset 0 for each channel. VOTE.LINK CORRUPT_CNT, 16 bits. -/
  corruptCnt : Tri Nat
  /-- R181; reset 0 for each channel. VOTE.LINK STALE_CNT, 8 bits. -/
  staleCnt : Tri Nat
  /-- R181; reset 0 for each channel. VOTE.LINK LATE_CNT, 8 bits. -/
  lateCnt : Tri Nat
  /-- R181; reset 0 for each channel. VOTE.DISSENT_CNT, 10 bits. -/
  dissentCnt : Tri Nat
  /-- R181; reset 0. VOTE.LAST_DISSENT. -/
  lastDissent : Word
  /-- R181; reset 0. VOTE.OUTCOME. -/
  outcome : Word
  /-- R181; reset 0. VOTE.DIGEST of the last T1 vote set. -/
  t1Digest : BitVec 64
  /-- R169; reset false for each channel. Own cut line against the channel. -/
  cut : Tri Bool
  /-- R168; reset 0. Consecutive decisions of the standing one-sided or mutual naming. -/
  single : Nat
  /-- R168; reset none. Who names whom in the standing naming. -/
  naming : Option (Ch × Ch)
  /-- R165; reset none for each channel. Last verdict received. -/
  verdicts : Tri (Option Verdict)
  /-- R166; reset false for each channel. The channel's EXCL_ACK is awaited. -/
  ackDue : Tri Bool
  /-- R166; reset false for each channel. The channel's EXCL_ACK has arrived since the last verdict that named it. -/
  acked : Tri Bool
  /-- R166; reset 0. Cause of own exclusion: the outcome or case that led to it. -/
  exclCause : Nat
  /-- R167; reset false. The channel withdraws from its current runs. -/
  withdrawn : Bool
  /-- R23; reset false. The skew of the current main cycle has been judged. -/
  skewJudged : Bool
  /-- R23; reset empty. Main cycles with runs to come or undecided in which channels stood more than 50 µs from the median:
  one bit per channel. -/
  skews : List (Nat × BitVec 3)
  /-- R23; reset none for each channel. A marker that came before this channel's own release: main cycle, and the sender's
  release on this channel's clock in 25 ns. -/
  early : Tri (Option (Nat × Int))
  /-- R23; reset none for each channel. Offsets of the markers of this main cycle, in 25 ns. -/
  offsets : Tri (Option Int)
  /-- R438; reset 0. CLK.SKEW.OFFSET, in 0.1 µs. -/
  skewOffset : Int
  /-- R438; reset 0. CLK.SKEW.FAULT_CNT, 16 bits. -/
  skewCnt : Nat
  /-- R23; reset 0. Move of the next T1 release in 25 ns. -/
  moveNext : Int
  /-- R171; reset false. VOTE.INJECT.FAIL. -/
  injFail : Bool
  /-- R171; reset false. VOTE.INJECT.DONE. -/
  injDone : Bool
  /-- R171; reset 0. VOTE.INJECT.TEST, 4 bits. -/
  injTest : Nat
  /-- R171; reset 0. VOTE.INJECT.PATH, 2 bits. -/
  injPath : Nat
  /-- R171; reset 0. VOTE.INJECT.WORD, 13 bits. -/
  injWord : Nat
  /-- R172; reset false. VOTE.VOTER.OUT_FAULT. -/
  outFault : Bool
  /-- R172; reset false. VOTE.VOTER.REC_FAULT. -/
  recFault : Bool
  /-- R163; reset empty. Runs already decided: task and task cycle. -/
  decided : List (Nat × Nat)
  deriving DecidableEq, Repr, Inhabited

/-- Reintegration (R176 to R179). -/
structure Reint where
  /-- R181; reset 0. VOTE.REINT_STATUS.PHASE, 3 bits. -/
  phase : Nat
  /-- R181; reset 3. VOTE.REINT_STATUS.TRIES_LEFT, 4 bits. -/
  triesLeft : Nat
  /-- R181; reset 0. VOTE.REINT_STATUS.AGREED, 2 bits. -/
  agreed : Nat
  /-- R181; reset 0. VOTE.REINT_STATUS.PAGES_LEFT, 16 bits. -/
  pagesLeft : Nat
  /-- R176; reset false. The host has commanded reintegration. -/
  commanded : Bool
  /-- R176; reset false. The channel never attempts reintegration before the next start-up. -/
  barred : Bool
  /-- R177; reset 0. Attempt number. -/
  attempt : Nat
  /-- R177; reset false for each channel. Sources that acknowledged REINT_REQ. -/
  acks : Tri Bool
  /-- R177; reset none. Join cycle J. -/
  join : Option Nat
  /-- R177; reset 0. Pages sent in the final step. -/
  finalPages : Nat
  /-- R178; reset empty. Pages received, by number. -/
  pages : List (Nat × List Word)
  /-- R178; reset empty. Pages to be asked for again. -/
  again : List Nat
  /-- R177; reset none. As a source: the channel being reintegrated. -/
  source : Option Ch
  /-- R177; reset empty. As a source: pages still to be sent. -/
  toSend : List Nat
  /-- R178; reset empty. As a source: pages marked dirty. -/
  dirty : List Nat
  /-- R177; reset none. Last STATE transfer taken. -/
  taken : Option StateXfer
  /-- R177; reset none. Main cycles of probation judged so far: the cycle being judged. -/
  judged : Option Nat
  /-- R177; reset false. REINT_REQ of the attempt has been sent. -/
  asked : Bool
  /-- R176, R179; reset 0. The channel's clock in µs at its exclusion, its last failed attempt, or its REINT_REQ. -/
  since : Nat
  deriving DecidableEq, Repr, Inhabited

/-- Input circuits and consolidation (R182 to R188, block DIN). -/
structure Din where
  /-- R183; reset 0. DIN.RAW: debounced DI00 to DI63, FB00 to FB31. -/
  raw : BitVec 96
  /-- R183; reset 0. Raw readback states of the snapshot taken at the last release instant (Table 01-4). -/
  rawBack : Word
  /-- R205; reset 0. DIN.CONS: consolidated values at the last release instant. -/
  cons : BitVec 96
  /-- R184; reset 0. Own circuits marked invalid. -/
  invalid : BitVec 96
  /-- R184; reset empty. Consecutive passed tests of an invalid circuit. -/
  passes : List (Nat × Nat)
  /-- R188; reset 0 for each channel. Circuits of the channel marked faulty. -/
  faulty : Tri (BitVec 96)
  /-- R205; reset 0. Circuits that any channel's counted set reported invalid at the last instant. -/
  anyInvalid : BitVec 96
  /-- R188; reset 0 for each channel. Readings that differed from the consolidated value at the last instant. -/
  discrepant : Tri (BitVec 96)
  /-- R188; reset empty for each channel. Since when, in µs of task time, the channel's reading of an input has differed. -/
  differs : Tri (List (Nat × Nat))
  /-- R188; reset empty for each channel. Since when, in µs of task time, the reading of a faulty circuit has agreed. -/
  agrees : Tri (List (Nat × Nat))
  /-- R188; reset 0. Inputs whose two counted readings disagreed at the last instant. -/
  unresolved : BitVec 96
  /-- R188; reset empty. Since when, in µs of task time, an input is unresolved. -/
  since : List (Nat × Nat)
  /-- R188; reset 0. Inputs unresolved longer than DIN.DISC_TIME. -/
  disagree : BitVec 96
  /-- R22; reset false. A sampler stall stands. -/
  stall : Bool
  /-- R438; reset 0. CLK.STALL.STALL_CNT, 16 bits. -/
  stallCnt : Nat
  /-- R438; reset 0. CLK.STALL.GAP_CNT, 16 bits. -/
  gapCnt : Nat
  /-- R187; reset none for each channel. Input vote sets held for the open release instant. -/
  sets : Tri (Option InputSet)
  /-- R187; reset none for each channel. Remote vote sets held for the open release instant. -/
  remoteSets : Tri (Option RemoteSet)
  /-- R385; reset none for each channel. Command vote sets held for the open release instant. -/
  cmdSets : Tri (Option CommandSet)
  /-- R304; reset none for each channel. Partner vote sets held for the open heartbeat instant. -/
  partSets : Tri (Option PartnerSet)
  /-- R185; reset false. A release instant's agreement is open. -/
  openInstant : Bool
  /-- R185; reset 0. MAIN_CYCLE of the last release instant. -/
  mainCycle : Nat
  /-- R185; reset 0. OFFSET of the last release instant in µs. -/
  offset : Nat
  /-- R190; reset 0. Consolidated RB. -/
  rb : Word
  /-- R190; reset 0. Consolidated WARN. -/
  warn : BitVec 4
  /-- R199; reset 0. Consolidated LOW. -/
  low : BitVec 4
  /-- R193; reset 0. Consolidated LSF. -/
  lsf : BitVec 4
  /-- R192; reset 0. Consolidated DIP. -/
  dip : Word
  /-- R195; reset 0. Consolidated SWEEP. -/
  sweep : Word
  deriving DecidableEq, Repr, Inhabited

/-- One failed off-test pulse awaiting the results of its repeats (R194). -/
structure Repeat where
  out : Nat
  failed : Pair
  dips : List (Pair × Bool)
  deriving DecidableEq, Repr, Inhabited

/-- A sweep (R195): its target, the outputs still to be pulsed, those in whose slots the target dipped, whether it is complete,
and whether the target has read low, or high, at every release instant of it (R196). -/
structure Sweep where
  out : Nat
  left : List Nat
  dipped : List Nat
  done : Bool
  low : Bool
  high : Bool
  deriving DecidableEq, Repr, Inhabited

/-- What a slot is given to (R453): a pulse of an output with a pair, a sweep's pulse of an output, or a channel's low-side test
of a group, 0 to 3. -/
inductive SlotUse where
  | pulse (out : Nat) (pair : Pair)
  | sweep (out : Nat)
  | lowSide (ch : Ch) (group : Nat)
  deriving DecidableEq, Repr, Inhabited

/-- Outputs: commands, own switches, supervision (R189 to R200, blocks DOUT and TPG). -/
structure Dout where
  /-- R206; reset 0. DOUT.CMD: last voted command of each output. -/
  cmd : Word
  /-- R197, R200; reset 0. Outputs that the module energises: commanded on, and held off by nothing. -/
  on : Word
  /-- R17; reset 0. Own high-side switches closed. -/
  high : Word
  /-- R191; reset 0. Own low-side switches closed, bit g − 1. -/
  lowSide : BitVec 4
  /-- R189; reset 0. Filtered readback of each output. -/
  readback : Word
  /-- R191; reset 0. Outputs whose command timer runs. -/
  timerOn : Word
  /-- R192; reset empty. Pair of the next pulse of an output; AB where none is listed. -/
  nextPair : List (Nat × Pair)
  /-- R192; reset 0. DIP bits gathered since the previous instant. -/
  dipNow : Word
  /-- R195; reset 0. SWEEP bits gathered since the previous instant. -/
  sweepNow : Word
  /-- R192; reset empty. Pulses since the previous release instant: output, pair. -/
  pulsed : List (Nat × Pair)
  /-- R194; reset empty. Pulses whose consolidated results await the next T0 run: output, pair, dip. -/
  judged : List (Nat × Pair × Bool)
  /-- R199; reset 0. Groups whose standing WARN has been recorded. -/
  warned : BitVec 4
  /-- R194; reset empty. Outputs with a missing dip awaiting repeats. -/
  repeats : List Repeat
  /-- R195; reset none. Sweep in progress. -/
  sweep : Option Sweep
  /-- R195; reset 0. Outputs whose on-test current is removed. -/
  onTestOff : Word
  /-- R195; reset empty. Off command of an output: its time in µs of task time. -/
  offSince : List (Nat × Nat)
  /-- R198; reset empty. On command of an output: its time in µs of task time. -/
  onSince : List (Nat × Nat)
  /-- R193; reset 0. LSF found since the previous instant. -/
  lsfNow : BitVec 4
  /-- R199; reset 0. Own sag latch of each group. -/
  sagLatch : BitVec 4
  /-- R199; reset 0. DOUT.GROUP.SAG: outputs unproven by sag. -/
  sag : BitVec 4
  /-- R200; reset 0. DOUT.GROUP.RESTORE: return to service pending. -/
  restore : BitVec 4
  /-- R200; reset empty. Since when, in µs of task time, consolidated WARN of a sagged group has been clear. -/
  warnClear : List (Nat × Nat)
  /-- R200, R202; reset empty. Outputs that need a command of a later run before they energise: output, and the instant in µs of
  task time after which that run is released. -/
  needFresh : List (Nat × Nat)
  /-- R453; reset empty. Slots given out by the last T0 write, those past taken off. -/
  plan : List SlotUse
  /-- R453; reset empty. Slots that the T0 run under way gives out at its write. -/
  planNext : List SlotUse
  /-- R192; reset empty. Last pulse given to an output: its T0 run's release in µs of task time. -/
  pulseAt : List (Nat × Nat)
  /-- R193; reset A. The channel whose low-side tests come next. -/
  lowTurn : Ch
  /-- R193; reset 0 for each channel. Release in µs of task time of the T0 run that gave out the channel's last tests. -/
  lowAt : Tri Nat
  /-- R453; reset empty. Low-side tests whose turn has come and that wait for a slot: channel and group. -/
  lowLeft : List (Ch × Nat)
  /-- R207; reset 0. TPG.LAST. -/
  tpgLast : Word
  /-- R207; reset 0. TPG.COUNTS.FAIL_CNT, 16 bits. -/
  pulseFail : Nat
  /-- R207; reset 0. TPG.COUNTS.PULSE_CNT, 16 bits. -/
  pulseCnt : Nat
  /-- R353; reset 0. Outputs whose group's switch test this channel has passed since the lockout. -/
  switchOwn : Word
  /-- R357; reset 0. BIST.SWITCH. -/
  switchAll : Word
  /-- R352; reset empty. Switch-test findings for the next T0 write: output and path. -/
  switchHot : List (Nat × Pair)
  /-- R203; reset 0. Twin commands last received from the partner. -/
  twinCmd : Word
  /-- R203; reset 0. Outputs locked out in the partner module, as it last sent them. -/
  twinLock : Word
  deriving DecidableEq, Repr, Inhabited

/-- The Hedgehog as one channel reports it (R208). -/
structure Safe where
  /-- R208; reset 0. SAFE.TRIPS.TRIP_CNT, 16 bits. -/
  tripCnt : Nat
  /-- R208; reset 0. SAFE.TRIPS.CYCLE, 16 bits. -/
  tripCycle : Nat
  /-- R201; reset false. This channel toggles its alive line. -/
  alive : Bool
  deriving DecidableEq, Repr, Inhabited

/-- A door gate (R213 to R223). `step` is 0 UNPROVEN, 1 OPEN_SEEN, 2 PROVEN, 3 OPEN, 4 FAULT; `split` is 0 while the
contacts agree, else one more than the ms they have disagreed; `unproven` is LOCKS bit 6; `isUnexpected` says that it
left PROVEN while RELEASE was clear (Table 08-4); `isolMs` is the isolation time left and `isolPrev` the task cycle up to
which it has been counted. -/
structure GateState where
  elem : Nat
  step : Nat
  lk1 : Bool
  lk2 : Bool
  bothOpen : Bool
  split : Nat
  unproven : Bool
  isolated : Bool
  isolMs : Nat
  isolPrev : Nat
  isolWarn : Bool
  total : Nat
  since : Nat
  counted : Bool
  isUnexpected : Bool
  deriving DecidableEq, Repr, Inhabited

/-- A platform edge (R215, R216). `pendMain` is W of R216. -/
structure EdgeState where
  elem : Nat
  state : Byte
  release : Bool
  pending : Bool
  pendMain : Nat
  trainClosed : Bool
  deriving DecidableEq, Repr, Inhabited

/-- A berth (R212): both conditions hold, since how many ms. -/
structure BerthState where
  elem : Nat
  state : Byte
  stopped : Bool
  stoppedMs : Nat
  deriving DecidableEq, Repr, Inhabited

/-- A plunger (R218): latched, and operated as last read. -/
structure PlungerState where
  elem : Nat
  latched : Bool
  operated : Bool
  deriving DecidableEq, Repr, Inhabited

/-- A two-channel door input pair that disagrees (R211): the element it feeds, which of the element's inputs it is, for how
many ms, and FAULT bit 0. -/
structure PairDisc where
  elem : Nat
  input : Nat
  ms : Nat
  flagged : Bool
  deriving DecidableEq, Repr, Inhabited

/-- The door elements (spec/08_berth_and_doors.md). -/
structure Doors where
  /-- R213; reset empty (built at P5). Gates in ascending element order. -/
  gates : List GateState
  /-- R215; reset empty (built at P5). Platform edges in ascending element order. -/
  edges : List EdgeState
  /-- R212; reset empty (built at P5). Berths. -/
  berths : List BerthState
  /-- R218; reset empty (built at P5). Plungers. -/
  plungers : List PlungerState
  /-- R211; reset empty. Two-channel pairs that disagree. -/
  pairs : List PairDisc
  /-- R137; reset 0. Task cycle of the door blocks' previous execution in T0. -/
  prev0 : Nat
  /-- R137; reset 0. Task cycle of the plunger latches' previous execution in T1. -/
  prev1 : Nat
  deriving DecidableEq, Repr, Inhabited

/-- Fabric time of one lane (spec/09_fabric_timing.md, block SYNC). -/
structure Sync where
  /-- R243; reset 0. SYNC.STATE.STATE: 0 OFF, 1 LISTEN, 2 COLDSTART, 3 INTEGRATING, 4 SYNC. -/
  st : Nat
  /-- R252; reset 0. Basic cycle index, 6 bits. -/
  basic : Nat
  /-- R252; reset 0. Cluster cycle number, 32 bits. -/
  cluster : Nat
  /-- R252; reset 0x7F. Key of the Owl followed, 7 bits. -/
  owlKey : Nat
  /-- R252; reset 0. RANK: 0 none, 1 Owl, 2 to 4 backups. -/
  rank : Nat
  /-- R252; reset false. Compiled schedule in force. -/
  compiled : Bool
  /-- R237; reset 0. SWITCH_AT announced. -/
  switchAt : Nat
  /-- R237; reset false. NEXT_SCHED announced. -/
  nextSched : Bool
  /-- R238; reset 0. RANK under which this node took the Owl role, 1 to 4; 0 while it is not Owl. -/
  tookRank : Nat
  /-- R245; reset 0x7F. B2. -/
  b2 : Nat
  /-- R245; reset 0x7F. B3. -/
  b3 : Nat
  /-- R245; reset 0x7F. B4. -/
  b4 : Nat
  /-- R245; reset empty. Eligible keys in SYNC announced in this cluster cycle. -/
  announced : List Nat
  /-- R252; reset 0. Last OFFSET in ns. -/
  offset : Int
  /-- R252; reset 0. Macrotick rate correction in 0.1 ppm. -/
  rate : Int
  /-- R240; reset 0. Sum of the OFFSETs of this cluster cycle in ns. -/
  offSum : Int
  /-- R240; reset 0. Number of OFFSETs of this cluster cycle. -/
  offNum : Nat
  /-- R240; reset 0. Length correction for the idle part of this basic cycle, in ns. -/
  idleAdj : Int
  /-- R243; reset 0. Consecutive references with OFFSET of 1.0 µs or less. -/
  good : Nat
  /-- R243; reset 0. Consecutive missing references. -/
  missing : Nat
  /-- R243; reset false. A valid reference has arrived in this basic cycle. -/
  gotRef : Bool
  /-- R243; reset false. This basic cycle has been judged: its reference counts as missing. -/
  judged : Bool
  /-- R244; reset false. The node has left SYNC for its OFFSET and waits for a cluster cycle start. -/
  drifted : Bool
  /-- R240; reset none. HOP and OFFSET of the copy of this basic cycle taken so far. -/
  copy : Option (Nat × Int)
  /-- R239; reset false. A reference has been relayed on port X in this basic cycle. -/
  relayedX : Bool
  /-- R239; reset false. A reference has been relayed on port Y in this basic cycle. -/
  relayedY : Bool
  /-- R250; reset false. The node follows coldstart frames and has received no reference. -/
  cold : Bool
  /-- R249; reset 0. Basic cycles counted in LISTEN, on the own clock. -/
  listened : Nat
  /-- R249; reset false. The listen time has ended. -/
  listenOver : Bool
  /-- R250; reset 0. Coldstart frames sent, 0 to 8. -/
  coldSent : Nat
  /-- R247; reset 0. Basic cycles in which this Owl has not sent its reference. -/
  unsent : Nat
  /-- R238; reset false. The reference of this basic cycle has been sent. -/
  refSent : Bool
  /-- R252; reset 0. SYNC.CORR_MAX.DROP_CNT, 16 bits. -/
  dropCnt : Nat
  /-- R252; reset 0. SYNC.CORR_MAX.MAX_NS, 16 bits. -/
  maxNs : Nat
  /-- R252; reset 0. SYNC.REF.CONFLICT_CNT, 8 bits. -/
  conflictCnt : Nat
  /-- R264; reset 0. Consecutive basic cycles with a reference conflict. -/
  conflictRun : Nat
  /-- R247; reset false. A reference conflict was counted in this basic cycle. -/
  conflictNow : Bool
  /-- R252; reset 0. SYNC.REF.TAKEOVER_CNT, 8 bits. -/
  takeoverCnt : Nat
  /-- R252; reset 0. SYNC.REF.MISS_CNT, 16 bits. -/
  missCnt : Nat
  /-- R252; reset none. SYNC.DELAY_X: measured link delay in ns. -/
  delayX : Option Nat
  /-- R252; reset none. SYNC.DELAY_Y: measured link delay in ns. -/
  delayY : Option Nat
  /-- R252; reset 0. SYNC.LANE.SKEW in 0.1 µs. -/
  laneSkew : Int
  /-- R252; reset false. SYNC.DUP.LATCHED. -/
  dupLatched : Bool
  /-- R252; reset 0. SYNC.DUP.DETECT, 2 bits. -/
  dupDetect : Nat
  /-- R252; reset 0. SYNC.DUP.KEY, 7 bits. -/
  dupKey : Nat
  /-- R252; reset 0. SYNC.DUP.BACKOFF in cluster cycles. -/
  backoff : Nat
  /-- R251; reset empty. Serial number heard under each key. -/
  serials : List (Nat × BitVec 64)
  /-- R251; reset empty. Keys recorded as duplicated. -/
  duplicated : List Nat
  deriving DecidableEq, Repr, Inhabited

/-- What a port's transmit side and Badger hold of the basic cycle under way. -/
structure PortLine where
  /-- R228, R239; reset none. Arrival of the valid reference that this port relays, in ns. -/
  relayAt : Option Nat
  /-- R233, R236; reset 0. The port is free again at this time, in ns. -/
  busy : Nat
  /-- R236, R259; reset none. Start of the window or slot in which the port sends nothing more. -/
  spent : Option Nat
  deriving DecidableEq, Repr, Inhabited

/-- The Badgers of a channel's ports (block GUARD). -/
structure Guard where
  /-- R231; reset false. Babble fault on port X. -/
  babbleX : Bool
  /-- R231; reset false. Babble fault on port Y. -/
  babbleY : Bool
  /-- R231; reset 0. Violations on port X in this cluster cycle. -/
  nowX : Nat
  /-- R231; reset 0. Violations on port Y in this cluster cycle. -/
  nowY : Nat
  /-- R253; reset 0. GUARD.VIOL_X.VIOL, 16 bits. -/
  violX : Nat
  /-- R253; reset 0. GUARD.VIOL_Y.VIOL, 16 bits. -/
  violY : Nat
  /-- R253; reset 0. GUARD.VIOL_X.RX_REJECT, 16 bits. -/
  rejectX : Nat
  /-- R253; reset 0. GUARD.VIOL_Y.RX_REJECT, 16 bits. -/
  rejectY : Nat
  /-- R232; reset empty. Slots armed for one relay: port, slot and basic cycle index. -/
  armed : List (Port × Nat × Nat)
  /-- R228; reset idle. Port X in this basic cycle. -/
  lineX : PortLine
  /-- R228; reset idle. Port Y in this basic cycle. -/
  lineY : PortLine
  /-- R265; reset 0. A relayed LINK_DOWN is sent at this time of the basic cycle at the earliest, in ns. -/
  downAfter : Nat
  deriving DecidableEq, Repr, Inhabited

/-- A frame the module sends (Table 10-1), before its CRC-32. `toKey` is DEST, or none with BCAST. -/
structure Frame where
  cls : Nat
  kind : Nat
  hop : Nat
  dest : Option Nat
  origin : Nat
  fseq : Nat
  lseq : Nat
  cluster : Nat
  basic : Nat
  payload : List Byte
  deriving DecidableEq, Repr, Inhabited

/-- A HELLO as the link table keeps it (Table 10-3). -/
structure Hello where
  key : Nat
  serial : BitVec 64
  st : Nat
  holder : Bool
  unprog : Bool
  split : Bool
  nbrX : Option (Nat × Port)
  nbrY : Option (Nat × Port)
  delayX : Nat
  delayY : Nat
  topology : BitVec 64
  claim : Word
  deriving DecidableEq, Repr, Inhabited

/-- A port as the lane sees it (R265, R38). -/
structure PortState where
  /-- R38; reset false. A supported transceiver is plugged and powered. -/
  optics : Bool
  /-- R265; reset false. Port up. -/
  up : Bool
  /-- R260; reset none. Neighbour key heard with HOP 0, and its port. -/
  nbr : Option (Nat × Port)
  /-- R265; reset false. The port is kept out of use for a wrong neighbour. -/
  wrong : Bool
  /-- R265; reset false. The port has been found down since start-up. -/
  fell : Bool
  /-- R265; reset false. A valid frame has arrived on it in this basic cycle's dynamic segment. -/
  heard : Bool
  /-- R265; reset 0. Consecutive dynamic segments without a valid frame. -/
  quiet : Nat
  /-- R265; reset 0. Consecutive dynamic segments with a valid frame. -/
  lively : Nat
  /-- R265; reset none. Origin of the last valid frame with HOP 0 on a port that is down. -/
  near : Option Nat
  /-- R265; reset false. HELLO or TIME_STATUS of the described neighbour heard since the port went down. -/
  named : Bool
  deriving DecidableEq, Repr, Inhabited

/-- Discovery and routing (block FRT). -/
structure Frt where
  /-- R265; reset all false. Port X. -/
  portX : PortState
  /-- R265; reset all false. Port Y. -/
  portY : PortState
  /-- R260; reset empty. HELLO last heard of each key. -/
  hellos : List Hello
  /-- R260; reset 0. Cluster cycles for which every HELLO has stayed unchanged. -/
  stable : Nat
  /-- R260; reset false. A HELLO changed in this cluster cycle. -/
  changed : Bool
  /-- R289; reset false. FRT.STATUS.COMPLETE. -/
  complete : Bool
  /-- R289; reset false. FRT.STATUS.TOPO_FAULT. -/
  fault : Bool
  /-- R289; reset 0. FRT.STATUS.CAUSE, 4 bits. -/
  cause : Nat
  /-- R262; reset 0. Discovered topology digest. -/
  digest : BitVec 64
  /-- R265; reset empty. Links removed by LINK_DOWN, as pairs of ends: twice the key, plus 1 for port Y. -/
  lostLinks : List (Nat × Nat)
  /-- R263; reset empty. Keys from which READY has arrived. -/
  ready : List Nat
  /-- R263; reset empty. I/O nodes from which CLAIM_ACK has arrived. -/
  acked : List Nat
  deriving DecidableEq, Repr, Inhabited

/-- The receive side of one connection on this lane (R270). -/
structure ConnRx where
  seq : Option Nat
  ts : Nat
  data : List Word
  deriving DecidableEq, Repr, Inhabited

/-- A consolidated connection (R271, R272). -/
structure ConnState where
  seq : Option Nat
  age : Nat
  data : List Word
  isSafe : Bool
  deriving DecidableEq, Repr, Inhabited

/-- An event message that one channel alone has reported (R271). -/
structure WaitingEvent where
  ev : RemoteEvent
  age : Nat
  deriving DecidableEq, Repr, Inhabited

/-- The fabric node: claims, safety layer, queues (block FAB). -/
structure Fab where
  /-- R267; reset none. Claim held by this channel and not yet applied. -/
  held : Option ClaimBlock
  /-- R266; reset empty. Parts of claims heard: origin, part and its bytes. -/
  claimParts : List (Nat × Nat × List Byte)
  /-- R267; reset none for each channel. Claim digest each channel has named: number, claimant, digest. -/
  digests : Tri (Option (Word × Nat × BitVec 256))
  /-- R288; reset false. FAB.STATUS.CLAIMED. -/
  claimed : Bool
  /-- R288; reset 0. FAB.STATUS.CLAIMANT, 6 bits. -/
  claimant : Nat
  /-- R288; reset 0. FAB.CLAIM. -/
  claim : Word
  /-- R288; reset 0. FAB.UNREACH, one bit per node. -/
  unreach : BitVec 64
  /-- R288; reset 0. FAB.RX_ERR.CNT_HI: safety code failures. -/
  codeErr : Nat
  /-- R288; reset 0. FAB.RX_ERR.CNT_LO: kind, destination, source or sequence failures and gaps. -/
  rxErr : Nat
  /-- R288; reset 0. FAB.STALE.CNT_HI: values taken safe for age. -/
  staleSafe : Nat
  /-- R288; reset 0. FAB.STALE.CNT_LO: event messages dropped. -/
  eventDrop : Nat
  /-- R270; reset empty. Receive side of each connection. -/
  rx : List (Nat × ConnRx)
  /-- R271; reset empty. Event messages accepted since the previous instant. -/
  events : List RemoteEvent
  /-- R271; reset empty. Consolidated connections. -/
  cons : List (Nat × ConnState)
  /-- R271; reset empty. Events waiting for a second channel. -/
  waiting : List WaitingEvent
  /-- R271, R91, R283; reset empty. Fabric request entries for the next request tile, each with the main cycle of its
  consolidation. -/
  entries : List (Nat × ReqEntry)
  /-- R268; reset empty. Event counter of each outbound connection. -/
  evSeq : List (Nat × Nat)
  /-- R298; reset empty. Highest claim seen of each key of a paired node: node, key, claim. -/
  pairClaims : List (Nat × Nat × Word)
  /-- R255; reset 0. Next FSEQ of each class, 16 bits. -/
  fseq : List Nat
  /-- R276; reset empty. Frames queued for port X, oldest first. -/
  queueX : List Frame
  /-- R276; reset empty. Frames queued for port Y, oldest first. -/
  queueY : List Frame
  /-- R228; reset empty. Frames put on the line: port and frame. -/
  sent : List (Port × Frame)
  /-- R256; reset empty. Non-vital application frames received: origin and payload. -/
  nonvital : List (Nat × List Byte)
  /-- R256; reset empty. Identities heard of unprogrammed modules: serial and node. -/
  identities : List (BitVec 64 × Nat)
  /-- R244; reset empty. Keys that sent a reintegration notice. -/
  notices : List Nat
  deriving DecidableEq, Repr, Inhabited

/-- One reserve range of the queue pool (R275): class, none for the origin reserve or a port and receive level. -/
structure Range where
  cls : Nat
  level : Option (Port × Nat)
  free : Nat
  rebuilding : Bool
  deriving DecidableEq, Repr, Inhabited

/-- Credits of a port towards its neighbour for a class and level (R279). -/
structure Credit where
  port : Port
  cls : Nat
  level : Nat
  cells : Nat
  lseq : Nat
  known : Bool
  log : List (Nat × Nat)
  deriving DecidableEq, Repr, Inhabited

/-- Queue manager and check-value units (blocks QM and CVU). -/
structure Qm where
  /-- R275; reset empty (built at P2). Reserve ranges. -/
  ranges : List Range
  /-- R279; reset empty. Credits held. -/
  credits : List Credit
  /-- R279; reset empty. Next LSEQ expected per port, class and level. -/
  rxNext : List (Port × Nat × Nat × Nat)
  /-- R290; reset 0. QM.ECC.CNT_HI. -/
  eccFixed : Nat
  /-- R290; reset 0. QM.ECC.CNT_MID. -/
  eccUe : Nat
  /-- R290; reset 0. QM.ECC.CNT_LO: range rebuilds. -/
  rebuilds : Nat
  /-- R290; reset 0. QM.FLUSH.CNT_HI. -/
  flushes : Nat
  /-- R290; reset 0. QM.FLUSH.CNT_MID: frames discarded for lack of cells. -/
  discards : Nat
  /-- R290; reset 0. QM.CREDIT.CNT_HI: vital cyclic frames late for credit. -/
  late : Nat
  /-- R290; reset 0. QM.CREDIT.CNT_MID: ports restarted. -/
  restarts : Nat
  /-- R21; reset 0. Frames that found a receive queue full and were discarded. -/
  rxFull : Nat
  /-- R21; reset 0. Transmit underruns counted (idle exclusive vital cyclic windows, R236). -/
  underruns : Nat
  /-- R291; reset 0. CVU.PORT_X.RX_CRC_CNT, 16 bits. -/
  crcX : Nat
  /-- R291; reset 0. CVU.PORT_Y.RX_CRC_CNT, 16 bits. -/
  crcY : Nat
  /-- R291; reset 0. CVU.PORT_X.TX_CUT_CNT, 16 bits. -/
  txCutX : Nat
  /-- R291; reset 0. CVU.PORT_Y.TX_CUT_CNT, 16 bits. -/
  txCutY : Nat
  /-- R258; reset 13 idle contexts. General check-value unit contexts: busy, algorithm, bytes, running value. -/
  ctxs : List (Bool × Nat × Nat × BitVec 256)
  deriving DecidableEq, Repr, Inhabited

/-- What a takeover goes back to (R311): the vital state as it stood before a run that is not verified. -/
structure Saved where
  image : Option Image
  res : Resolver
  blocks : Blocks
  doors : Doors
  tasks : List TaskState
  params : Params
  gateRecords : List GateRecord
  deriving DecidableEq, Repr, Inhabited

/-- A run received from the active and not yet verified (R309), with the state before it once its replay has begun. -/
structure Replay where
  run : RunInput
  own : Option (BitVec 64)
  ended : Option (BitVec 64)
  before : Option Saved
  deriving DecidableEq, Repr, Inhabited

/-- The partner module (spec/11_partner_redundancy.md, block PART). -/
structure Part where
  /-- R295; reset 0. ROLE: 0 starting, 1 active, 2 standby. -/
  role : Nat
  /-- R317; reset 0. SYNC: 0 no state, 1 transfer running, 2 synchronised. -/
  sync : Nat
  /-- R317; reset 0. CAUSE of the last role or synchronisation change, 4 bits. -/
  cause : Nat
  /-- R295; reset 0. Own claim number. -/
  claim : Word
  /-- R317; reset 0. Highest partner claim heard. -/
  partnerClaim : Word
  /-- R317; reset 0. Role heard from the partner. -/
  partnerRole : Nat
  /-- R303; reset false. PARTNER_SEEN. -/
  seen : Bool
  /-- R297; reset false. The partner has been heard in the active role during the listen. -/
  heardActive : Bool
  /-- R297; reset none. E_SEEN and rank heard from a starting partner. -/
  heardStarting : Option (Nat × Nat)
  /-- R293; reset false. Pairing fault: the partner counts as absent. -/
  pairing : Bool
  /-- R303; reset none. Last HB_SEQ accepted on X3. -/
  seqX3 : Option Nat
  /-- R303; reset none. Last HB_SEQ accepted on the lane. -/
  seqLane : Option Nat
  /-- R317; reset 0. X3_RUN, 4 bits. -/
  runX3 : Nat
  /-- R317; reset 0. FAB_RUN, 4 bits. -/
  runLane : Nat
  /-- R317; reset 0. X3_MISS_CNT, 8 bits. -/
  missX3 : Nat
  /-- R317; reset 0. FAB_MISS_CNT, 8 bits. -/
  missLane : Nat
  /-- R36; reset false. Presence loop closed. -/
  loop : Bool
  /-- R317; reset false. LOST_CONS. -/
  lostCons : Bool
  /-- R302; reset 0. HB_SEQ of the next heartbeat. -/
  hbSeq : Nat
  /-- R302; reset 0. Heartbeat instants since the last T1 release: the number of the next one. -/
  instant : Nat
  /-- R303; reset none. Last heartbeat accepted from the partner. -/
  beat : Option Beat
  /-- R300; reset 0. Next SEQ sent on the partner link. -/
  txSeq : Nat
  /-- R300; reset 0. Next SEQ expected on the partner link. -/
  rxSeq : Nat
  /-- R310; reset empty. SEQ of transfers refused or lost and to be asked for again, oldest first. -/
  refused : List Nat
  /-- R308; reset empty. Those of them that have been asked for. -/
  asked : List Nat
  /-- R317; reset 0. PART.XFER.PHASE, 3 bits. -/
  phase : Nat
  /-- R317; reset 0. PART.XFER.PAGES_LEFT, 16 bits. -/
  pagesLeft : Nat
  /-- R305; reset false. The host has commanded a resynchronisation. -/
  commanded : Bool
  /-- R306; reset empty. Pages received: number, PAGE_CRC and words. -/
  pages : List (Nat × Word × List Word)
  /-- R306; reset none. XSTATE received. -/
  xstate : Option XStateXfer
  /-- R307; reset none. COMMIT received: main cycle J − 1, page count and digest. -/
  commit : Option (Nat × Nat × BitVec 64)
  /-- R304; reset 0. Digest computed for the last COMMIT. -/
  commitOwn : BitVec 64
  /-- R309; reset empty. Runs received and not yet verified, oldest first. -/
  backlog : List Replay
  /-- R309; reset empty. Transfers kept since the last DELTA_END: runs counted. -/
  runsSince : Nat
  /-- R317; reset 0. PART.APPLIED. -/
  applied : Nat
  /-- R314; reset 0. PART.SWITCH: N of the armed switchover. -/
  switchAt : Nat
  /-- R315; reset false. SW_READY consolidated or heard. -/
  swReady : Bool
  /-- R315; reset false. The active awaits the heartbeat of instant N to demote with its state kept. -/
  handover : Bool
  /-- R306, R309; reset false. As the active: the standby is fed with RUN_IN, RUN_END, CMD and DELTA_END. -/
  feeding : Bool
  /-- R306; reset none. As the active: pages still to be sent, none while no transfer runs. -/
  sending : Option (List Nat)
  /-- R305, R308; reset 0. The channel's clock in µs when it took the standby role, at its last failed transfer, or at REQ 1. -/
  since : Nat
  deriving DecidableEq, Repr, Inhabited

/-- The state of one DMA engine (R321, R335, Tables 12-19 and 12-20). -/
structure Dma where
  busy : Bool
  stopped : Bool
  cause : Nat
  space : Nat
  offset : Nat
  desc : Option Descriptor
  queue : List Descriptor
  deriving DecidableEq, Repr, Inhabited

/-- Memories of a channel with their byte lanes (spec/12_memory_and_arbiter.md, blocks MEM and SCRB). -/
structure Mem where
  /-- R318, R322; reset empty: every byte reads 0x00 (DESIGN CHOICE for bytes not yet filled, log 14). Data bits by address; where
  a unit keeps its tiles or instance data, the bits in which the byte differs from what the unit wrote there last (log 74). -/
  data : List Host.Cell
  /-- R324, R329; reset empty: every lane has valid check bits. Check bits that differ from the valid ones, by address. -/
  check : List (Nat × BitVec 5)
  /-- R327; reset 0. 1 MiB DRAM regions with mark 1, by region number. -/
  marks : List Nat
  /-- R341; reset false. MEM.INIT.TRAP. -/
  trap : Bool
  /-- R341; reset 0. MEM.CE_CNT.DRAM, 16 bits. -/
  ceDram : Nat
  /-- R341; reset 0. MEM.CE_CNT.SRAM, 16 bits. -/
  ceSram : Nat
  /-- R341; reset 0. MEM.UE_CNT.DRAM, 16 bits. -/
  ueDram : Nat
  /-- R341; reset 0. MEM.UE_CNT.SRAM, 16 bits. -/
  ueSram : Nat
  /-- R341; reset 0. MEM.LAST_ERR_ADDR. -/
  errAddr : Nat
  /-- R341; reset 0. MEM.LAST_ERR.MASTER, 4 bits. -/
  errMaster : Nat
  /-- R341; reset 0. MEM.LAST_ERR.LANE, 2 bits. -/
  errLane : Nat
  /-- R341; reset 0. MEM.LAST_ERR.KIND, 2 bits. -/
  errKind : Nat
  /-- R329; reset false. MEM.FLIP.ARM. -/
  arm : Bool
  /-- R329; reset false. MEM.FLIP.DONE. -/
  done : Bool
  /-- R329; reset false. MEM.FLIP.RANGE. -/
  range : Bool
  /-- R329; reset 0. MEM.FLIP.MASK. -/
  mask : BitVec 20
  /-- R332; reset 0. MEM.STATUS.SRAM_HARD, one bit per bank. -/
  sramHard : BitVec 8
  /-- R331; reset false. MEM.STATUS.STAGING_DAMAGED. -/
  stagingDamaged : Bool
  /-- R341; reset four idle engines. DMA engines. -/
  dma : List Dma
  /-- R342; reset 0x1000_0000 (region start). SCRB.POS_SRAM. -/
  posSram : Nat
  /-- R342; reset 0x4000_0000 (region start). SCRB.POS_DRAM. -/
  posDram : Nat
  /-- R342; reset 0. SCRB.COUNTS.FIXED, 16 bits. -/
  fixed : Nat
  /-- R342; reset 0. SCRB.COUNTS.UE, 8 bits. -/
  scrubUe : Nat
  /-- R342; reset 0. SCRB.COUNTS.POISONED, 8 bits. -/
  scrubPoisoned : Nat
  /-- R342; reset 0. SCRB.PASSES.DRAM. -/
  passesDram : Nat
  /-- R342; reset 0. SCRB.PASSES.SRAM. -/
  passesSram : Nat
  /-- R331; reset empty. Uncorrectable errors signalled to firmware: address and lane. -/
  ueDue : List (Nat × Nat)
  /-- R332; reset empty. Lanes found uncorrectable, poisoned, and left to be written afresh: address and lane. -/
  rewritten : List (Nat × Nat)
  /-- R332; reset empty. DRAM pages with a lane that met an error again after it was written afresh. -/
  hardPages : List Nat
  /-- R332; reset empty. Corrections of SRAM lanes, counted over 24 h by firmware beside the correction log. -/
  sramLog : List Correction
  /-- R334; reset empty. DRAM pages in which an uncorrectable error was found in the last second, with the time in us. -/
  ueSeen : List (Nat × Nat)
  /-- R334; reset false. Bank fault with no spare bank. -/
  bankFault : Bool
  /-- R320; reset false. The core has taken a precise abort that is still to be handled. -/
  coreAbort : Bool
  /-- R319; reset false. The page tables have been written: at the end of P2 (DESIGN CHOICE, log 48). -/
  tables : Bool
  deriving DecidableEq, Repr, Inhabited

/-- The memory arbiter (R336 to R343, block ARB). -/
structure Arb where
  /-- R336; reset the default table. Owner of each of 64 slot-table entries. -/
  slot : List Nat
  /-- R336; reset 12, 10, 11, 6, 7, 11, 2, 3. PRIO of each requester. -/
  prio : List Nat
  /-- R337; reset 0. BOOST of each requester. -/
  boost : List Nat
  /-- R337; reset 0. Next slot-table entry, 0 to 63. -/
  entry : Nat
  /-- R337; reset none. Requester that holds the grant. -/
  holder : Option Nat
  /-- R337; reset 0. Decisions each requester has waited. -/
  waited : List Nat
  /-- R343; reset 8. ARB.CTRL.HOLD_MAX. -/
  holdMax : Nat
  /-- R343; reset 20. ARB.CTRL.CEILING. -/
  ceiling : Nat
  /-- R343; reset 0. ARB.CUT.CUT. -/
  cut : BitVec 8
  /-- R343; reset 0. ARB.CUT.CUT_CNT, 16 bits. -/
  cutCnt : Nat
  /-- R343; reset 0. ARB.WAIT_MAX of each requester, 16 bits. -/
  waitMax : List Nat
  deriving DecidableEq, Repr, Inhabited

/-- Periodic self-test (spec/13_self_test.md, block BIST). -/
structure Bist where
  /-- R357; reset false. BIST.STATUS.ACTIVE. -/
  active : Bool
  /-- R357; reset false. BIST.STATUS.LATE. -/
  late : Bool
  /-- R357; reset 0. BIST.STATUS.BLOCK. -/
  block : Nat
  /-- R357; reset 0. BIST.STATUS.DONE: slices completed in the round. -/
  done : Nat
  /-- R354; reset 0. BIST.FAIL.BLOCK. -/
  fail : BitVec 18
  /-- R357; reset 0. BIST.ROUND.COUNT, 16 bits. -/
  rounds : Nat
  /-- R357; reset 0. BIST.ROUND.LAST_S, 16 bits. -/
  lastS : Nat
  /-- R347; reset 0. Start of the current round in µs of the channel's clock. -/
  roundStart : Nat
  /-- R347; reset false. A round is running. -/
  inRound : Bool
  /-- R357; reset 0. BIST.COUNTS.ABANDON_CNT, 16 bits. -/
  abandonCnt : Nat
  /-- R357; reset 0. BIST.COUNTS.SLICE_CNT, 16 bits. -/
  sliceCnt : Nat
  /-- R357; reset 0. BIST.LAST_FAIL. -/
  lastFail : Word
  /-- R344; reset none. Main cycle of the last slice and the slices run in it. -/
  turn : Option (Nat × Nat)
  /-- R350; reset empty. Abandoned slices to be repeated: main cycle of the abandoned turn, block and slice. -/
  again : List (Nat × Nat × Nat)
  /-- R353; reset 0. Groups whose switch test is brought forward. -/
  due : BitVec 4
  deriving DecidableEq, Repr, Inhabited

/-- The Squirrel's volatile part (spec/14_recorder.md, block REC). -/
structure Rec where
  /-- R364; reset 0. Next SEQ. -/
  nextSeq : Nat
  /-- R364; reset false. The recorder has been started at P2. -/
  started : Bool
  /-- R365; reset empty. Juridical events waiting for their append. -/
  queue : List Event
  /-- R365; reset none. Voted record awaiting its commit decision. -/
  pending : Option PendingRec
  /-- R368; reset empty. Diagnostic buffer, oldest first. -/
  diag : List Event
  /-- R376; reset false. FLUSHING. -/
  flushing : Bool
  /-- R376; reset 0. FLUSH_CAUSE. -/
  flushCause : Nat
  /-- R376; reset 0. DISSENT_RUN. -/
  dissentRun : Nat
  /-- R376; reset 0. LOST_CNT, 16 bits. -/
  lostCnt : Nat
  /-- R376; reset 0. DISSENT_CNT, 8 bits. -/
  dissentCnt : Nat
  /-- R376; reset 0. DAMAGED_CNT, 8 bits. -/
  damagedCnt : Nat
  /-- R368; reset 0. Records dropped for a full buffer since the last DIAG_LOST. -/
  dropFull : Nat
  /-- R331; reset 0. Records dropped for an uncorrectable lane since the last DIAG_LOST. -/
  dropLane : Nat
  /-- R364; reset 0. Records dropped before the diagnostic buffer was filled. -/
  dropEarly : Nat
  /-- R365; reset empty. Per release instant (main cycle, offset) the ordinal of its next voted record, newest first. -/
  ordinals : List (Nat × Nat × Nat)
  deriving DecidableEq, Repr, Inhabited

/-- A snapshot of the recorder held by a session (R372, R373). -/
structure Snap where
  high : Nat
  low : Nat
  permBase : Nat
  cursor : Nat
  window : List Record
  deriving DecidableEq, Repr, Inhabited

/-- An agreed critical prepare (R390). -/
structure Prepare where
  opcode : Nat
  params : List Byte
  mainCycle : Nat
  offset : Nat
  challenge : BitVec 16
  deriving DecidableEq, Repr, Inhabited

/-- A reply (R379), before its CRC-32. -/
structure Reply where
  ch : Ch
  addr : Word
  port : Nat
  session : Nat
  opcode : Nat
  seq : Word
  status : Nat
  params : List Byte
  deriving DecidableEq, Repr, Inhabited

/-- One accepted packet of a session: its SEQ, its CRC and its reply if sent (R382). -/
structure Heard where
  seq : Word
  crc : Word
  reply : Option Reply
  deriving DecidableEq, Repr, Inhabited

/-- An open host session (R381) with its per-session selectors (Table 17-3, class Se). -/
structure Session where
  id : Nat
  addr : Word
  port : Nat
  lastSeq : Option Word
  heard : List Heard
  waiting : Nat
  prepare : Option Prepare
  selectors : List (Nat × Word)
  snap : Option Snap
  lastAt : Nat
  deriving DecidableEq, Repr, Inhabited

/-- A checked vital command of this channel (R385): what it asks and its listings so far. -/
structure Listed where
  opcode : Nat
  session : Nat
  seq : Word
  digest : BitVec 64
  params : List Byte
  addr : Word
  port : Nat
  listings : Nat
  deriving DecidableEq, Repr, Inhabited

/-- An agreed command on its way to its effect (R388): the task whose first release after t is its effect release. -/
structure Agreed where
  tag : Nat
  opcode : Nat
  session : Nat
  params : List Byte
  task : Nat
  deriving DecidableEq, Repr, Inhabited

/-- Host commands at one channel (spec/15_host_commands.md, block HOST). -/
structure HostState where
  /-- R381; reset empty. Open sessions. -/
  sessions : List Session
  /-- R385; reset empty. Vital commands listed or waiting to be, oldest first. -/
  listed : List Listed
  /-- R385; reset empty. Those listed at the open release instant. -/
  now : List CmdEntry
  /-- R388; reset empty. Agreed commands awaiting their effect release. -/
  effects : List Agreed
  /-- R394; reset empty. Operator request queue, at most 256. -/
  queue : List QueuedReq
  /-- R395; reset empty. Results of the last 256 tagged commands, newest first. -/
  results : List TagResult
  /-- R389; reset 1. Next TAG. -/
  nextTag : Nat
  /-- R401; reset 0. ACCEPTED_CNT, 16 bits. -/
  acceptedCnt : Nat
  /-- R401; reset 0. RX_CNT, 16 bits. -/
  rxCnt : Nat
  /-- R401; reset 0. CRC_CNT, 8 bits. -/
  crcCnt : Nat
  /-- R401; reset 0. DISCARD_CNT, 8 bits. -/
  discardCnt : Nat
  /-- R401; reset 0. NOT_AGREED_CNT, 8 bits. -/
  notAgreedCnt : Nat
  /-- R401; reset 0. SEQ_GAP_CNT, 8 bits. -/
  gapCnt : Nat
  /-- R401; reset 0. HOST.LAST_REJECT. -/
  lastReject : Word
  /-- R15; reset false. The host port has been found lost. -/
  lost : Bool
  deriving DecidableEq, Repr, Inhabited

/-- A load in progress (R411, BOOT.LOAD): the session that owns it, KIND, SIZE and the bytes written. -/
structure Load where
  /-- R427; reset false. BOOT.LOAD.BUSY. -/
  busy : Bool
  /-- R427; reset false. BOOT.LOAD.WRITING. -/
  writing : Bool
  /-- R427; reset 0. BOOT.LOAD.KIND. -/
  kind : Nat
  /-- R411; reset 0. SIZE in bytes. -/
  size : Nat
  /-- R427; reset 0. BOOT.LOAD.SESSION. -/
  session : Nat
  /-- R411; reset empty. Bytes written into the staged half, by offset. -/
  bytes : List (Nat × Byte)
  /-- R411; reset none. Checked container waiting for its flash write. -/
  cont : Option Container
  deriving DecidableEq, Repr, Inhabited

/-- Calibration in force (R423, block CAL). -/
structure Cal where
  /-- R428; reset false. CAL.STATUS.FACT_OK. -/
  factOk : Bool
  /-- R428; reset false. CAL.STATUS.USER_DEFAULT. -/
  userDefault : Bool
  /-- R428; reset 0. CAL.STATUS.COUNT. -/
  count : Nat
  /-- R428; reset 180. CAL.FEED_WARN. -/
  feedWarn : Nat
  /-- R428; reset 0 for each of 96 inputs. CAL.DI_OFFSET. -/
  di : List Int
  /-- R428; reset 0 for each of 32 readbacks. CAL.RB_OFFSET. -/
  rb : List Int
  deriving DecidableEq, Repr, Inhabited

/-- What a channel puts on an exchange link (Table 06-2). -/
inductive XMsg where
  | vote (s : VoteSet)
  | marker (cycle localTime wait : Nat)
  | verdict (v : Verdict)
  | exclAck (ch : Ch) (taskCycle : Nat)
  | reintReq (abandon : Bool) (attempt : Nat)
  | page (n : Nat) (data : List Word)
  | state (x : StateXfer)
  | join (cycle pages : Nat)
  | test (set : List Word)
  | counters (records : List GateRecord)
  | claim (number : Word) (claimant : Nat) (digest : BitVec 256)
  deriving DecidableEq, Repr, Inhabited

/-- A transfer sent on an exchange link, with the partner it goes to and its SEQ (R160). -/
structure XSent where
  dst : Ch
  seq : Nat
  msg : XMsg
  deriving DecidableEq, Repr, Inhabited

/-- What a channel puts on its partner link (Table 11-1). -/
inductive PMsg where
  | heartbeat (b : Beat)
  | runIn (r : RunInput)
  | runEnd (task taskCycle : Nat) (digest : BitVec 64)
  | cmd (task taskCycle : Nat) (mask outs lockouts : Word)
  | deltaEnd (cycle runs : Nat)
  | xfer (page : Nat) (pageCrc : Word) (data : List Word)
  | xstate (x : XStateXfer)
  | commit (cycle pages : Nat) (digest : BitVec 64)
  | req (code n : Nat)
  | switchAt (cycle : Nat)
  deriving DecidableEq, Repr, Inhabited

/-- One channel: its non-volatile memory and its units (Table 01-1). -/
structure Chan where
  nv : Nv
  boot : Boot
  supply : Supply
  seals : SealState
  params : Params
  /-- R77; reset none. The running image. -/
  image : Option Image
  /-- R119; reset eight idle tasks. Tasks T0 to T7. -/
  tasks : List TaskState
  blocks : Blocks
  res : Resolver
  tiles : TileState
  vote : Vote
  reint : Reint
  din : Din
  dout : Dout
  safe : Safe
  doors : Doors
  sync : Sync
  guard : Guard
  frt : Frt
  fab : Fab
  qm : Qm
  part : Part
  mem : Mem
  arb : Arb
  bist : Bist
  recd : Rec
  host : HostState
  load : Load
  cal : Cal
  /-- R121; reset 0. Main-cycle number of the last T1 release. -/
  mainCycle : Nat
  /-- R121; reset false. A T1 release has taken place since P7. -/
  released : Bool
  /-- R204; reset empty. Reaction time in µs of each REACT entry, as computed at P7 and after each exchange. -/
  react : List Nat
  /-- R23; reset 0. This channel's clock in µs since the start of P0, as last read: at the end of a phase or at a release. -/
  clock : Nat
  /-- R23; reset 0. This channel's clock at its last T1 release in µs. -/
  t1Clock : Nat
  /-- R160; reset empty. Transfers sent on the exchange links, in order. -/
  xout : List XSent
  /-- R300; reset empty. Transfers sent on the partner link, with SEQ, in order. -/
  pout : List (Nat × PMsg)
  /-- R161; reset empty. Copy-class transfers that wait for an exchange link, oldest first, each with its partner. -/
  xwait : List (Ch × XMsg)
  /-- R301; reset empty. Transfers that wait for the partner link, oldest first. -/
  pwait : List PMsg
  deriving DecidableEq, Repr, Inhabited

/-! ### What the channels share -/

/-- The host hub (R15). -/
structure Hub where
  /-- R15; reset true. The hub works. -/
  alive : Bool
  /-- R378; reset empty. Replies sent, in order. -/
  replies : List Reply
  /-- R377; reset 0. ARP replies sent. -/
  arps : Nat
  /-- R377; reset 0. ICMP echo replies sent. -/
  echoes : Nat
  /-- R377; reset empty. Times in ms of the echo replies of the last second. -/
  echoAt : List Nat
  deriving DecidableEq, Repr, Inhabited

/-- The Hedgehog (R201, R202). -/
structure Hedgehog where
  /-- R208; reset true. Copy 1 tripped or held. -/
  copy1 : Bool
  /-- R208; reset true. Copy 2 tripped or held. -/
  copy2 : Bool
  /-- R208; reset 0. STATE: 0 held, 1 armed, 2 tripped, 3 re-arm prepared. -/
  st : Nat
  /-- R208; reset 0. Latched causes, bits 8 to 13 of SAFE.HEDGEHOG as bits 0 to 5. -/
  cause : BitVec 6
  /-- R202; reset false. The one arming at entry to P7 has been tried. -/
  tried : Bool
  /-- R202; reset none. The TAG of the re-arm command that armed the Hedgehog last. -/
  armTag : Option Nat
  deriving DecidableEq, Repr, Inhabited

/-- The output network (R17, R169, R172). -/
structure Network where
  /-- R169; reset false. Cut lines as the network sees them: of A, B, C towards each channel. -/
  cut : Tri (Tri Bool)
  /-- R169; reset false for each channel. Drive removed. -/
  driveCut : Tri Bool
  /-- R172; reset false. Voter fault of the output network latched. -/
  voterFault : Bool
  /-- R172; reset false. Voter fault of the recorder commit comparator latched. -/
  recFault : Bool
  deriving DecidableEq, Repr, Inhabited

/-- A presentation at the recorder commit comparator (R365). -/
structure Presentation where
  key : PairKey
  ch : Ch
  rcrc : Word
  deriving DecidableEq, Repr, Inhabited

/-- What the factory fixed (Table 16-9). -/
structure Factory where
  /-- R1; reset hx4096 (DESIGN CHOICE, log 10). Variant. -/
  variant : Variant
  /-- R1; reset s (DESIGN CHOICE, log 10). Grade. -/
  grade : Grade
  /-- R426; reset 0x0002 (DESIGN CHOICE, log 10). Hardware revision. -/
  hwrev : Nat
  /-- R426; reset 0 (DESIGN CHOICE, log 10). Serial number. -/
  serial : BitVec 64
  /-- R401; reset 0 (DESIGN CHOICE, log 10). MAC address. -/
  mac : BitVec 48
  deriving DecidableEq, Repr, Inhabited

/-- The module. -/
structure State where
  factory : Factory
  chans : Tri Chan
  hub : Hub
  hedgehog : Hedgehog
  net : Network
  /-- R365; reset empty. Presentations waiting at the commit comparator. -/
  comparator : List Presentation
  /-- The model's own (DESIGN CHOICE, log 3); reset 0. Counter of the free values drawn so far. -/
  draws : Nat
  /-- The model's own (DESIGN CHOICE, log 1); reset empty. Commands that wait, first in, first out. -/
  pending : List Instr
  deriving DecidableEq, Repr, Inhabited

/-! ### Reset -/

/-- The arbiter's default slot table (Table 17-3): 0x4310_5020 for words 0 to 5, 0x6770_5020 for words 6 and 7; four
bits an entry, the first entry in bits 3:0. -/
def defaultSlots : List Nat :=
  let low := [0, 2, 0, 5, 0, 1, 3, 4]
  let high := [0, 2, 0, 5, 0, 7, 7, 6]
  low ++ low ++ low ++ low ++ low ++ low ++ high ++ high

/-- The container of the firmware a module ships with (log 13): a sound, ROM-signed firmware container for the
hardware revision of log 10, firmware 1.4 with function block library 1.2 (Table 18-9). -/
def shippedFirmware : Container :=
  { (default : Container) with
    kind := 1, channel := 0xFF, size := 0x1000, version := 0x01040000, api := 0xFFFF0000, libMajor := 1, libMinor := 2, node := 0xFF, hwrev := [0x0002], romSigned := true }

/-- An output without a fault (R197). -/
def OutFault.none : OutFault :=
  { cause := 0, maint := false, pair := 0, psrc := false, partner := 0, openLoad := false, notPicked := false }

/-- An empty key slot (R416). -/
def KeySlot.empty : KeySlot := { (default : KeySlot) with crcOk := true }

/-- What a channel's MRAM and image flash hold in a module as it leaves Sahken (R435, R448, logs 12 and 13). -/
def Nv.shipped : Nv :=
  { (default : Nv) with
    cfg0 := { count := 0, vals := [], crcOk := true }
    cfg1 := { count := 0, vals := [], crcOk := true }
    factoryCalOk := true
    cal0 := { count := 0, di := List.replicate 96 0, rb := List.replicate 32 0, feedWarn := 180, crcOk := true }
    cal1 := { count := 0, di := List.replicate 96 0, rb := List.replicate 32 0, feedWarn := 180, crcOk := true }
    keys := List.replicate 4 KeySlot.empty
    bankMap := List.range 8
    outFaults := List.replicate 32 OutFault.none
    fw0 := { marker := 3, cont := some shippedFirmware } }

/-- A task that has not been released (R154). -/
def TaskState.idle : TaskState := default

/-- The volatile units of a channel held in reset: every field at the value its comment gives. Fields not named here are
0, false, none or empty. -/
def Chan.volatile (nv : Nv) : Chan :=
  { (default : Chan) with
    nv := nv
    supply := { (default : Supply) with inReset := true }
    tasks := List.replicate 8 TaskState.idle
    res := { (default : Resolver) with hold := true }
    reint := { (default : Reint) with triesLeft := 3 }
    sync := { (default : Sync) with owlKey := 0x7F, b2 := 0x7F, b3 := 0x7F, b4 := 0x7F }
    fab := { (default : Fab) with fseq := [0, 0, 0, 0] }
    qm := { (default : Qm) with ctxs := List.replicate 13 default }
    mem := { (default : Mem) with dma := List.replicate 4 default, posSram := 0x10000000, posDram := 0x40000000 }
    arb :=
      { (default : Arb) with
        slot := defaultSlots, prio := [12, 10, 11, 6, 7, 11, 2, 3], boost := List.replicate 8 0,
        waited := List.replicate 8 0, holdMax := 8, ceiling := 20, waitMax := List.replicate 8 0 }
    host := { (default : HostState) with nextTag := 1 }
    cal := { (default : Cal) with feedWarn := 180, di := List.replicate 96 0, rb := List.replicate 32 0 } }

/-- The module right after reset: P0, no feed yet present, every channel held in reset by its supply monitor (R32, R33,
R402), the Hedgehog held (R202), nothing waiting. -/
def State.reset : State :=
  { factory := { variant := .hx4096, grade := .s, hwrev := 0x0002, serial := 0, mac := 0 }
    chans := Tri.const (Chan.volatile Nv.shipped)
    hub := { alive := true, replies := [], arps := 0, echoes := 0, echoAt := [] }
    hedgehog := { copy1 := true, copy2 := true, st := 0, cause := 0, tried := false, armTag := none }
    net := default
    comparator := []
    draws := 0
    pending := [] }

/-- Why the module stops. No command of the table stops it (log 2): every arriving event has an effect or none, so no
meaning raises this fault; it is safe, for a stop would only hide behaviour. -/
inductive Fault where
  /-- Raised by nobody; safe. -/
  | stopped
  deriving DecidableEq, Repr

/-- Why a command has no meaning. -/
inductive Refusal where
  /-- Raised by an arm of exec whose command has no meaning yet; safe. -/
  | notModelled (mnemonic : String)
  deriving DecidableEq, Repr

end Sys2Proof.Machine
end

