-- ==== Sys2Proof/Config.lean ====
section
/-! DEFINITION. The free values of the model: what the manual leaves to a document it does not contain (the event code
list, the function block library, the encoding of program data), to the factory (key pairs, certificates) or to the
analogue world (a voltage reading). Each is opaque: no proof can see what it is, and its
docstring names its row of the assumption log. -/

namespace Sys2Proof.Config

open Sys2Proof Sys2Proof.Machine

/-- Member code CODE[7:0] of an event outside Table 14-4: the event code list issued with each firmware release is not
part of the manual (R361; DESIGN CHOICE, log 20). -/
opaque eventMember (e : EvName) : BitVec 8

/-- DATA words 6 to 12 of an event outside Table 14-4 from what the model knows of it (R361; DESIGN CHOICE, log 20). -/
opaque eventData (e : EvName) (info : List Word) : List Word

/-- A logic feed's voltage in units of 0.1 V as a supply monitor reads it, for the n-th value drawn (R438; DESIGN CHOICE,
log 21). -/
opaque feedReading (n : Nat) : BitVec 9

/-- Outputs whose off-test pulse the firmware gives a slot in a T0 run before it is due, in their order: the choice is the
firmware's, made from voted state (R453; DESIGN CHOICE, log 79). -/
opaque earlyPulses (taskCycle : Nat) : List Nat

/-- The firmware gives out low-side tests in a T0 run before they are due (R453; DESIGN CHOICE, log 79). -/
opaque earlyLowSide (taskCycle : Nat) : Bool

/-- A supervision entry of T0's output image for what a slot is given to: its encoding is not part of the interface (R192, R453;
DESIGN CHOICE, log 79). -/
opaque slotEntry (u : Option SlotUse) : Word

/-- A latched supply cause, or a difference of the Hedgehog's copies, has ended when a re-arm command of this TAG acts: the bus
comparators and the copies' comparison tell the channels nothing else (R201, R202; DESIGN CHOICE, log 40). -/
opaque tripOver (cause : TripCause) (tag : Nat) : Bool

/-- What a block of the library computes in one execution: its fields after, from TYPE, VERSION, its preset, its fields
before, its inputs, FIRST and the elapsed ms (R132; DESIGN CHOICE, log 22). -/
opaque blockStep (typ version preset : Nat) (fields ins : List Word) (first : Bool) (elapsed : Nat) : List Word

/-- The initial value of the fields of a block of the families whose initial values Table 05-3 gives no code (aspects, point
machines, doors, interfaces: R138; DESIGN CHOICE, log 22). -/
opaque blockInitial (typ version size : Nat) : List Word

/-- Which of the named blocks a member TYPE[7:0] of a version is (R132, Table 05-3; DESIGN CHOICE, log 22). -/
opaque memberKind (member version : Nat) : BlockKind

/-- Declared words of a block of the library (R132; DESIGN CHOICE, log 22). -/
opaque blockDecl (typ version : Nat) : Nat

/-- The bits of declared word `k` whose bytes carry fields (R135; DESIGN CHOICE, log 22). -/
opaque blockMask (typ version k : Nat) : Word

/-- Inputs of a block of the library (R132; DESIGN CHOICE, log 22). -/
opaque blockInputs (typ version : Nat) : Nat

/-- A timer of the library runs, by its fields (Table 05-6; DESIGN CHOICE, log 22). -/
opaque timerRuns (typ version : Nat) (fields : List Word) : Bool

/-- The elements of an element type with several permissive codes: STATE from an input value (R67; DESIGN CHOICE, log
23). -/
opaque inputState (elemType : Nat) (on : Bool) : Byte

/-- Program data, schedule and I/O blocks decoded from a container's sections 0x0013 to 0x0015: their encoding is
Gnoret's (R413; DESIGN CHOICE, log 24). -/
opaque sectionImage (program schedule io : List Byte) : Image

/-- The built-in I/O program of unprogrammed mode as the firmware of this digest brings it (R421; DESIGN CHOICE, log
24). -/
opaque builtInImage (fw : BitVec 256) : Image

/-- The bytes of a claim that a channel sends for an I/O block of its image under a claim number, with the connection keys
encrypted for the receiving channel, the signature and the certificate: their encoding is Gnoret's (R266; DESIGN CHOICE, log
24). -/
opaque claimBytes (ch : Ch) (block : List Byte) (number : Word) : List Byte

/-- A claim read from its bytes in a channel, with the connection keys decrypted; none where they spell no claim (R266; DESIGN
CHOICE, log 24). -/
opaque claimOf (ch : Ch) (bytes : List Byte) : Option ClaimBlock

/-- The Sahken device CA public key that the firmware of this digest brings: modulus and exponent (R267, Table 16-4; DESIGN
CHOICE, log 25). -/
opaque deviceCa (fw : BitVec 256) : Nat × Nat

/-- What the resolver remembers beside the state tiles (lane registers and reservations), which the STATE and XSTATE
transfers do not list (Tables 06-2 and 11-1; DESIGN CHOICE, log 34). -/
opaque routeMemory (estate : List ERec) (rstate : List RRec) : Resolver

/-- The wait of a memory request in bus cycles, for a number of decisions it waited (R337, R343; the model counts decisions,
not cycles; DESIGN CHOICE, log 36). -/
opaque waitCycles (decisions draw : Nat) : BitVec 16

/-- HIGHER of a heartbeat instant whose readings do not agree: the manual gives its safe value nowhere (R304; DESIGN CHOICE,
log 44). -/
opaque higherUnmatched : Bool

/-- The macrotick rate set at a cluster cycle start, from the old rate and the sum and number of the OFFSETs of the cluster
cycle just ended; the manual gives its bounds only (R240; DESIGN CHOICE, log 45). -/
opaque macrotickRate (old sum : Int) (num : Nat) : Int

/-- How far an Owl steers its rate, in 0.1 ppm, and its phase, in ns, towards the median of its module's markers; the manual
gives the bounds only (R248; DESIGN CHOICE, log 45). -/
opaque steerRate (skew : Int) (draw : Nat) : Nat
opaque steerPhase (skew : Int) (draw : Nat) : Nat

/-- What a checker decodes from a lane with three or more check bits inverted: the manual gives the results of one and of
two only (R322, R329; DESIGN CHOICE, log 49). -/
opaque manyFlips (data : Byte) (diff : BitVec 5) : LaneKind

/-- The n-th entry of the page table area as firmware writes it at start-up, before pages are retired: what it maps where, and
what it lets each space reach, the manual does not say (R319; DESIGN CHOICE, log 48). -/
opaque tableEntry (n : Nat) : Word

/-- The signature of a slice in the signature table of the firmware image of this digest (R354; DESIGN CHOICE, log 53). -/
opaque bistSignature (fw : BitVec 256) (block slice : Nat) : Word

/-- The last word that a slice's test writes to MEM.FLIP (Table 13-1, blocks 5, 11 and 12; DESIGN CHOICE, log 53). -/
opaque bistFlip (block slice : Nat) : Word

/-- What a slice's test leaves in the test page (Table 13-1, blocks 1, 6 and 11; DESIGN CHOICE, log 53). -/
opaque bistPage (block slice n : Nat) : Byte

/-- A task's program uses a PROG tile: the encoding of program data is Gnoret's (R88, R413; DESIGN CHOICE, log 24). -/
opaque progUses (task tile : Nat) : Bool

/-- The place of a DRAM-only PROG tile's copy in firmware-private SRAM, in units of 4 KiB; the manual does not place the copies
(R88, Table 12-5; DESIGN CHOICE, log 49). -/
opaque progPlace (tile : Nat) : BitVec 6

/-- GUARD.STATE.MODE of a port in COLDSTART, whose Badger enables the own static slot and the relay: no value of Table 09-19
names that (R243, R253; DESIGN CHOICE, log 52). -/
opaque coldstartMode : BitVec 2

/-- A word of an entry of a snapshot's window that the last read did not fill (R373; DESIGN CHOICE, log 52). -/
opaque windowRest (draw entry word : Nat) : Word

/-- KiB of a load that its flash write has written so far: the manual gives no rate (R411, R427; DESIGN CHOICE, log 52). -/
opaque kibWritten (draw : Nat) : BitVec 16

/-- The words of the TEST vote set's fixed pattern (R170: the manual does not give them; DESIGN CHOICE, log 64). -/
opaque testWord (n : Nat) : Word

/-- Where a VERDICT carries a source's acknowledgement and a request for pages again, in the bits of word 2 that R165 leaves
(Table 06-5, R178; DESIGN CHOICE, log 64). -/
opaque verdictSigns (ack : Bool) (again : List Nat) : Word

/-- The payload words of a STATE transfer, whose items Table 06-2 lists without places (DESIGN CHOICE, log 64). -/
opaque statePayload (x : StateXfer) : List Word

/-- The payload words of an XSTATE transfer (Table 11-1; DESIGN CHOICE, log 64). -/
opaque xstatePayload (x : XStateXfer) : List Word

/-- The payload words of a RUN_IN transfer (Table 11-1; DESIGN CHOICE, log 64). -/
opaque runPayload (r : RunInput) : List Word

/-- WAIT of the n-th marker sent, in units of 25 ns: the link's hardware measures it (R23; DESIGN CHOICE, log 66). -/
opaque markerWait (n : Nat) : BitVec 13

/-- A channel's signature with its identity key over a message, 384 bytes (R418, R419; DESIGN CHOICE, log 25). -/
opaque identitySign (ch : Ch) (message : List Byte) (draw : Nat) : List Byte

/-- A channel's DER certificate (R418; DESIGN CHOICE, log 25). -/
opaque certificate (ch : Ch) : List Byte

/-- The bytes of a key slot as MRAM stores it; the manual gives the items it holds and not their places (R416, R419; DESIGN
CHOICE, log 25). -/
opaque keySlotImage (k : KeySlot) : List Byte

/-- Sahken firmware keys in the boot ROM: modulus and exponent by KEY_ID (R414; DESIGN CHOICE, log 25). -/
opaque romKey (keyId : BitVec 64) : Option (Nat × Nat)

end Sys2Proof.Config
end

