-- ==== Sys2Proof/Machine/Check.lean ====
section
/-! DEFINITION. The published check and signature algorithms the manual names: CRC-32C (spec/03_station_model.md R61),
the IEEE 802.3 CRC-32 (spec/10_fabric_routing_messages.md), CRC-64 ECMA-182 (spec/06_triplex_voting.md R158), SHA-256,
HMAC-SHA-256 and RSASSA-PSS verification (spec/16_startup_images_identity.md R414), over lists of bytes. -/

namespace Sys2Proof.Machine

open Sys2Proof

/-! ### Words and bytes (R8: little-endian) -/

/-- The four bytes of a word, least significant first. -/
def wordBytes (w : Word) : List Byte :=
  [w.setWidth 8, (w >>> 8).setWidth 8, (w >>> 16).setWidth 8, (w >>> 24).setWidth 8]

/-- The bytes of a list of words. -/
def wordsBytes : List Word → List Byte
  | [] => []
  | w :: ws => wordBytes w ++ wordsBytes ws

/-- A number from little-endian bytes. -/
def natOfBytes : List Byte → Nat
  | [] => 0
  | b :: bs => b.toNat + 256 * natOfBytes bs

/-- `n` little-endian bytes of a number. -/
def bytesOfNat : Nat → Nat → List Byte
  | 0, _ => []
  | n + 1, x => BitVec.ofNat 8 x :: bytesOfNat n (x / 256)

/-- A number from big-endian bytes, the order of PKCS #1 octet strings (R413). -/
def natOfBytesBE (bs : List Byte) : Nat :=
  bs.foldl (fun a b => 256 * a + b.toNat) 0

/-- `n` big-endian bytes of a number. -/
def bytesOfNatBE (n x : Nat) : List Byte := (bytesOfNat n x).reverse

/-- The words of a list of bytes; a last part of a word continues with 0. -/
def bytesWords : List Byte → List Word
  | b0 :: b1 :: b2 :: b3 :: rest => BitVec.ofNat 32 (natOfBytes [b0, b1, b2, b3]) :: bytesWords rest
  | [] => []
  | part => [BitVec.ofNat 32 (natOfBytes part)]

/-! ### Cyclic redundancy checks -/

/-- One bit of a reflected CRC-32 register with polynomial `poly`. -/
def crcBit (poly r : Word) : Word :=
  if r.getLsbD 0 then (r >>> 1) ^^^ poly else r >>> 1

/-- One byte into a reflected CRC-32 register. -/
def crcByte (poly r : Word) (b : Byte) : Word :=
  let f := crcBit poly
  f (f (f (f (f (f (f (f (r ^^^ b.setWidth 32))))))))

/-- A reflected CRC-32 with initial value and final XOR of ones. -/
def crcReflected (poly : Word) (bs : List Byte) : Word :=
  (bs.foldl (crcByte poly) 0xFFFFFFFF) ^^^ 0xFFFFFFFF

/-- CRC-32C under the settings of R61. -/
def crc32c (bs : List Byte) : Word := crcReflected 0x82F63B78 bs

/-- The IEEE 802.3 CRC-32. -/
def crc32 (bs : List Byte) : Word := crcReflected 0xEDB88320 bs

/-- One bit of the CRC-64 register of R158. -/
def crc64Bit (r : BitVec 64) : BitVec 64 :=
  if r.getLsbD 63 then (r <<< 1) ^^^ 0x42F0E1EBA9EA3693 else r <<< 1

/-- One byte into the CRC-64 register. -/
def crc64Byte (r : BitVec 64) (b : Byte) : BitVec 64 :=
  let f := crc64Bit
  f (f (f (f (f (f (f (f (r ^^^ (b.setWidth 64 <<< 56)))))))))

/-- CRC-64 with the ECMA-182 polynomial, initial value and final XOR 0, not reflected (R158). -/
def crc64 (bs : List Byte) : BitVec 64 := bs.foldl crc64Byte 0

/-! ### SHA-256 (FIPS 180-4) -/

/-- The first 64 primes: those below 312, none of which but 2 to 17 has a factor up to 17. -/
def shaPrimes : List Nat :=
  (List.range 312).filter (fun n => decide (2 ≤ n) && (List.range 18).all (fun d => decide (d < 2 ∨ n ≤ d) || n % d != 0))

/-- The first 32 bits of the fraction of a number's root of an order, found bit by bit: bits 35 to 0 of the root times
2 ^ 32, of which 31 to 0 are kept. -/
def rootFraction (order n : Nat) : Word :=
  BitVec.ofNat 32 ((List.range 36).foldl (fun r k =>
    let t := r + 2 ^ (35 - k)
    if t ^ order ≤ n * 2 ^ (32 * order) then t else r) 0)

/-- The round constants: of the cube roots of the first 64 primes. -/
def shaK : List Word := shaPrimes.map (rootFraction 3)

/-- Four words that shift as one register, the newest first. -/
structure Quad where
  w : Word
  x : Word
  y : Word
  z : Word
  deriving DecidableEq, Repr, Inhabited

/-- A register with a word shifted in. -/
def Quad.shift (q : Quad) (n : Word) : Quad := { w := n, x := q.w, y := q.x, z := q.y }

/-- Two registers added word by word. -/
def Quad.add (p q : Quad) : Quad := { w := p.w + q.w, x := p.x + q.x, y := p.y + q.y, z := p.z + q.z }

/-- The words of a register. -/
def Quad.words (q : Quad) : List Word := [q.w, q.x, q.y, q.z]

/-- A register of four numbers' square roots. -/
def Quad.ofRoots (k : Nat) : Quad :=
  let r := fun j => rootFraction 2 (shaPrimes.getD (k + j) 0)
  { w := r 0, x := r 1, y := r 2, z := r 3 }

/-- The hash value while it is formed: eight words in two registers. -/
structure Sha where
  hi : Quad
  lo : Quad
  deriving DecidableEq, Repr, Inhabited

/-- The initial hash value: of the square roots of the first eight primes. -/
def shaInit : Sha := { hi := Quad.ofRoots 0, lo := Quad.ofRoots 4 }

/-- The exclusive or of a word turned right by each of some distances. -/
def turned (x : Word) (by_ : List Nat) : Word := by_.foldl (fun a n => a ^^^ x.rotateRight n) 0

/-- One round with its constant and schedule word: a word enters each register. -/
def shaRound (s : Sha) (k w : Word) : Sha :=
  let p := s.hi
  let q := s.lo
  let fresh := q.z + turned q.w [6, 11, 25] + (q.y ^^^ (q.w &&& (q.x ^^^ q.y))) + (k + w)
  let mixed := turned p.w [2, 13, 22] + ((p.w &&& (p.x ||| p.y)) ||| (p.x &&& p.y))
  { hi := p.shift (fresh + mixed), lo := q.shift (p.z + fresh) }

/-- The next word of the message schedule from the last sixteen, oldest first. -/
def shaNext (w : List Word) : Word :=
  let at_ := fun k => w.getD k 0
  [at_ 0, at_ 9, turned (at_ 1) [7, 18] ^^^ (at_ 1 >>> 3), turned (at_ 14) [17, 19] ^^^ (at_ 14 >>> 10)].foldl (· + ·) 0

/-- The rounds, consuming the constants while the schedule window moves. -/
def shaRounds : List Word → List Word → Sha → Sha
  | [], _, s => s
  | k :: ks, w, s => shaRounds ks (w.tail ++ [shaNext w]) (shaRound s k (w.getD 0 0))

/-- A word from four bytes, most significant first. -/
def wordBE (b : List Byte) : Word := BitVec.ofNat 32 (natOfBytesBE b)

/-- One block of 64 bytes. -/
def shaBlock (s : Sha) (blk : List Byte) : Sha :=
  let w := (List.range 16).map (fun i => wordBE ((blk.drop (4 * i)).take 4))
  let t := shaRounds shaK w s
  { hi := s.hi.add t.hi, lo := s.lo.add t.lo }

/-- The message with its padding: 0x80, zeros, and its length in bits in eight bytes. -/
def shaPad (m : List Byte) : List Byte :=
  m ++ [0x80] ++ List.replicate ((119 - m.length % 64) % 64) 0 ++ bytesOfNatBE 8 (8 * m.length)

/-- `n` blocks of a padded message. -/
def shaBlocks : Nat → List Byte → Sha → Sha
  | 0, _, s => s
  | n + 1, m, s => shaBlocks n (m.drop 64) (shaBlock s (m.take 64))

/-- SHA-256 as 32 bytes in order. -/
def sha256 (m : List Byte) : List Byte :=
  let p := shaPad m
  let s := shaBlocks (p.length / 64) p shaInit
  (s.hi.words ++ s.lo.words).flatMap (fun w => (wordBytes w).reverse)

/-- A digest held as a vector: byte k of the digest in bits 8k + 7 to 8k (R426: word k holds bytes 4k to 4k + 3,
little-endian). -/
def digestVec (bs : List Byte) : BitVec 256 := BitVec.ofNat 256 (natOfBytes bs)

/-- The 32 bytes of a digest held as a vector. -/
def digestBytes (d : BitVec 256) : List Byte := bytesOfNat 32 d.toNat

/-- SHA-256 as a vector. -/
def sha256Vec (m : List Byte) : BitVec 256 := digestVec (sha256 m)

/-- HMAC-SHA-256 under a 256-bit key. -/
def hmacSha256 (key : BitVec 256) (m : List Byte) : List Byte :=
  let k := digestBytes key ++ List.replicate 32 0
  let inner := sha256 (k.map (· ^^^ 0x36) ++ m)
  sha256 (k.map (· ^^^ 0x5C) ++ inner)

/-! ### RSASSA-PSS (R414) -/

/-- MGF1 with SHA-256: `n` bytes of mask. -/
def mgf1 (seed : List Byte) (n : Nat) : List Byte :=
  ((List.range ((n + 31) / 32)).flatMap (fun i => sha256 (seed ++ bytesOfNatBE 4 i))).take n

/-- x^e mod n by repeated squaring over `fuel` bits of e. -/
def powMod : Nat → Nat → Nat → Nat → Nat
  | 0, _, _, n => 1 % n
  | fuel + 1, x, e, n =>
    let r := powMod fuel (x * x % n) (e / 2) n
    if e % 2 = 1 then r * x % n else r

/-- EMSA-PSS verification of a 3,072-bit encoded message: SHA-256, MGF1-SHA-256, a salt of exactly 32 bytes, trailer
0xBC (R414). `hash` is the SHA-256 of what is signed. -/
def pssVerify (hash em : List Byte) : Bool :=
  let masked := em.take 351
  let h := (em.drop 351).take 32
  let db0 := List.zipWith (· ^^^ ·) masked (mgf1 h 351)
  let db := (db0.head?.getD 0 &&& 0x7F) :: db0.drop 1
  let salt := db.drop 319
  em.length == 384 && em.getLast? == some 0xBC && (masked.head?.getD 0).getLsbD 7 == false &&
    db.take 318 == List.replicate 318 0 && db.getD 318 0 == 1 &&
    sha256 (List.replicate 8 0 ++ hash ++ salt) == h

/-- Verification of a signature under an RSA-3072 key. -/
def rsaVerify (modulus exponent : Nat) (hash : List Byte) (signature : Nat) : Bool :=
  modulus != 0 && signature < modulus &&
    pssVerify hash (bytesOfNatBE 384 (powMod 32 signature exponent modulus))

/-- KEY_ID: the first 8 bytes of the SHA-256 of the modulus followed by the 4-byte exponent (R414). -/
def keyIdOf (modulus exponent : Nat) : BitVec 64 :=
  BitVec.ofNat 64 (natOfBytes ((sha256 (bytesOfNatBE 384 modulus ++ bytesOfNat 4 exponent)).take 8))

end Sys2Proof.Machine
end

