-- ==== Sys2Proof/Machine/Wire.lean ====
section
/-! DEFINITION. Vote sets and transfers as words (spec/06_triplex_voting.md R156, R160, R165, Table 06-2;
spec/07_vital_io.md Table 07-1; spec/10 R271; spec/11_partner_redundancy.md R300, Tables 11-1 to 11-3; spec/15 Table 15-3;
spec/16 R404): header word, payload words, CRC word. Payloads that the manual lists without places are set out under log
64. -/

namespace Sys2Proof.Machine

open Sys2Proof

/-! ### Pieces -/

/-- A 64-bit value, low word first. -/
def words64 (v : BitVec 64) : List Word := [v.setWidth 32, (v >>> 32).setWidth 32]

/-- A 96-bit vector as three words. -/
def words96 (v : BitVec 96) : List Word := [v.setWidth 32, (v >>> 32).setWidth 32, (v >>> 64).setWidth 32]

/-- A 256-bit value as eight words, bytes in order. -/
def words256 (v : BitVec 256) : List Word := (List.range 8).map (fun k => (v >>> (32 * k)).setWidth 32)

/-- A number as a word. -/
def w32 (n : Nat) : Word := BitVec.ofNat 32 n

/-- One bit as a number in place `k`. -/
def bitAt (b : Bool) (k : Nat) : Nat := if b then 2 ^ k else 0

/-- A list of words behind its length. -/
def counted (ws : List Word) : List Word := w32 ws.length :: ws

/-! ### Vote sets -/

/-- Words 0 to 2 of a set of a release instant: KIND, VERSION 0x01 and CH; OFFSET; MAIN_CYCLE (Table 07-1). -/
def instantHead (kind : Nat) (ch : Ch) (offset main : Nat) : List Word :=
  [w32 (kind * 2 ^ 24 + 2 ^ 16 + ch.code), w32 offset, w32 main]

/-- A task vote set (Table 06-1). -/
def taskSetWords (t : TaskSet) : List Word :=
  [w32 (2 ^ 24 + t.version * 2 ^ 16 + t.task * 2 ^ 8 + t.ch.code), w32 t.taskCycle, w32 t.mainCycle, w32 t.imageSeq,
    w32 (t.out.length % 16384 + bitAt t.prob 16), 0] ++ words64 t.digest ++ t.out

/-- GROUP fields and STALL of word 10 (Table 07-1). -/
def groupWord (t : InputSet) : Word :=
  w32 ((List.range 4).foldl (fun n g =>
    n + bitAt (t.warn.getLsbD g) (4 * g) + bitAt (t.low.getLsbD g) (4 * g + 1) + bitAt (t.lsf.getLsbD g) (4 * g + 2))
    (bitAt t.stall 31))

/-- An input vote set (Table 07-1). -/
def inputSetWords (t : InputSet) : List Word :=
  instantHead 2 t.ch t.offset t.mainCycle ++ words64 t.di ++ [t.fb, t.rb] ++ words64 t.invDi ++
    [t.invFb, groupWord t, t.dip, t.sweep]

/-- The code of an event kind (Table 10-6). -/
def eventKindCode : EventKind → Nat
  | .reserve => 0x11
  | .grant => 0x12
  | .refuse => 0x13
  | .unreserve => 0x14
  | .releaseAll => 0x15
  | .other => 0

/-- A remote vote set (R271): the bitmap, then the connections' entries, then the events (places: log 64). -/
def remoteSetWords (t : RemoteSet) : List Word :=
  instantHead 3 t.ch t.offset t.mainCycle ++ words64 t.noRoute ++
    (w32 t.conns.length :: t.conns.flatMap (fun e => [w32 e.conn, w32 e.seq, w32 e.age] ++ counted e.data)) ++
    (w32 t.events.length :: t.events.flatMap (fun e => [w32 e.conn, w32 e.seq, w32 (eventKindCode e.kind)] ++ counted e.data))

/-- A partner vote set (Table 11-3). -/
def partnerSetWords (t : PartnerSet) : List Word :=
  instantHead 4 t.ch t.offset t.mainCycle ++
    [w32 (bitAt t.lost 0 + bitAt t.higher 1 + bitAt t.swReady 2), t.pClaim] ++ words64 t.commit

/-- A command vote set (Table 15-3). -/
def commandSetWords (t : CommandSet) : List Word :=
  instantHead 5 t.ch t.offset t.mainCycle ++
    (w32 t.entries.length ::
      t.entries.flatMap (fun e => [w32 (e.opcode + e.session * 2 ^ 16 + e.age * 2 ^ 24), e.seq] ++ words64 e.digest))

/-- An agreement set of P6 (R404). -/
def agreeSetWords (t : AgreeSet) : List Word :=
  instantHead 6 t.ch 0 0 ++ words256 t.fw ++ words256 t.app ++ words256 t.cfg ++ [t.sealPos] ++ words64 t.setDigest

/-! ### The comparator (R159, R165) -/

/-- Word `k` of a set, 0 beyond its end. -/
def setWord (ws : List Word) (k : Nat) : Word := ws.getD k 0

/-- Word `k` as the comparator takes it: word 0 with CH, word 4 with PROB taken as 0 (R159). -/
def comparedWord (ws : List Word) (k : Nat) : Word :=
  match k with
  | 0 => setWord ws 0 &&& 0xFFFFFFFC
  | 4 => setWord ws 4 &&& 0xFFFEFFFF
  | n => setWord ws n

/-- Two sets are the same in every one of these words. -/
def sameWords (a b : List Word) (ks : List Nat) : Bool := ks.all (fun k => comparedWord a k == comparedWord b k)

/-- The comparison of two vote sets as words, by the result codes of R165: 3 where the cycle numbers differ, 2 where DIGEST or
a header word differs, 1 where any other word or the length does, 0 where they agree. That a header word counts as 2 is a
DESIGN CHOICE (log 67). -/
def compareSets (a b : List Word) : Nat :=
  if !sameWords a b [1, 2] then 3
  else if !sameWords a b [0, 3, 4, 6, 7] then 2
  else if a.drop 8 != b.drop 8 || !sameWords a b [5] then 1
  else 0

/-- A vote set of any KIND. -/
def voteSetWords : VoteSet → List Word
  | .task t => taskSetWords t
  | .input t => inputSetWords t
  | .remote t => remoteSetWords t
  | .partner t => partnerSetWords t
  | .command t => commandSetWords t
  | .agreement t => agreeSetWords t

/-! ### Payloads on an exchange link (Table 06-2) -/

/-- A VERDICT: words 0 to 2 of R165. Its reintegration signs, which the manual gives no place, stand in bits that R165 leaves
(Config.verdictSigns, log 64). -/
def verdictWords (v : Verdict) : List Word :=
  [w32 (v.task * 2 ^ 8 + v.ch.code), w32 v.taskCycle,
    w32 (v.outcome * 2 ^ 8 + v.resNext * 2 ^ 4 + v.resPrev) ||| (Config.verdictSigns v.ack v.again &&& 0xFFFFF000)]

/-- The four words of a gate counter record (R221). -/
def recordWords (r : GateRecord) : List Word := [r.head, r.total, r.since, r.crc]

/-- The words of the TEST vote set: 8,192 of a fixed pattern (R170). -/
def testPattern : List Word := (List.range 8192).map Config.testWord

/-- KIND of a transfer. -/
def XMsg.kind : XMsg → Nat
  | .vote _ => 1
  | .marker _ _ _ => 2
  | .verdict _ => 3
  | .exclAck _ _ => 4
  | .reintReq _ _ => 5
  | .page _ _ => 6
  | .state _ => 7
  | .join _ _ => 8
  | .test _ => 9
  | .counters _ => 10
  | .claim _ _ _ => 11

/-- The transfer is of the copy class (Table 06-2). -/
def XMsg.copyClass : XMsg → Bool
  | .page _ _ => true
  | .state _ => true
  | .counters _ => true
  | _ => false

/-- The payload words of a transfer. -/
def XMsg.payload : XMsg → List Word
  | .vote s => voteSetWords s
  | .marker cycle localTime wait => [w32 cycle, w32 localTime, w32 wait]
  | .verdict v => verdictWords v
  | .exclAck ch taskCycle => [w32 ch.code, w32 taskCycle]
  | .reintReq abandon attempt => [w32 (bitAt abandon 0), w32 attempt]
  | .page n data => w32 n :: data
  | .state x => Config.statePayload x
  | .join cycle pages => [w32 cycle, w32 pages]
  | .test set => set
  | .counters rs => w32 rs.length :: rs.flatMap recordWords
  | .claim number claimant digest => [number, w32 claimant] ++ words256 digest

/-! ### Payloads on the partner link (Table 11-1) -/

/-- The words of a heartbeat (Table 11-2). -/
def beatWords (b : Beat) : List Word :=
  [w32 (b.role + b.sync * 2 ^ 4 + bitAt b.restart 6 + bitAt b.swReady 7 + b.invote.toNat * 2 ^ 8 + b.ch.code * 2 ^ 12 +
      b.node % 64 * 2 ^ 16 + bitAt b.rankBit 24), b.claim, b.eSeen.setWidth 32, w32 b.cycle, w32 b.hbSeq, w32 b.imageSeq,
    b.sealPos, b.fw]

/-- KIND of a partner link transfer. -/
def PMsg.kind : PMsg → Nat
  | .heartbeat _ => 1
  | .runIn _ => 2
  | .runEnd _ _ _ => 3
  | .cmd _ _ _ _ _ => 4
  | .deltaEnd _ _ => 5
  | .xfer _ _ _ => 6
  | .xstate _ => 7
  | .commit _ _ _ => 8
  | .req _ _ => 9
  | .switchAt _ => 10

/-- The place of a transfer in the order of R301: heartbeats, the delta, XSTATE and COMMIT, pages. REQ and SWITCH, which
R301 does not place, go with the delta (log 64). -/
def PMsg.rank : PMsg → Nat
  | .heartbeat _ => 0
  | .xstate _ => 2
  | .commit _ _ _ => 2
  | .xfer _ _ _ => 3
  | _ => 1

/-- The payload words of a partner link transfer. -/
def PMsg.payload : PMsg → List Word
  | .heartbeat b => beatWords b
  | .runIn r => Config.runPayload r
  | .runEnd task taskCycle digest => [w32 task, w32 taskCycle] ++ words64 digest
  | .cmd task taskCycle mask outs lockouts => [w32 task, w32 taskCycle, mask, outs, lockouts]
  | .deltaEnd cycle runs => [w32 cycle, w32 runs]
  | .xfer page pageCrc data => w32 page :: pageCrc :: data
  | .xstate x => Config.xstatePayload x
  | .commit cycle pages digest => [w32 cycle, w32 pages] ++ words64 digest
  | .req code n => [w32 code, w32 n]
  | .switchAt cycle => [w32 cycle]

/-! ### Transfers (R160, R300) -/

/-- The header word: KIND[31:28], LEN[27:14], SEQ[13:0]. -/
def headerWord (kind len seq : Nat) : Word := w32 (kind * 2 ^ 28 + len % 16384 * 2 ^ 14 + seq % 16384)

/-- The CRC word: CRC-32C over header and payload bytes. -/
def transferCrc (header : Word) (payload : List Word) : Word := crc32c (wordsBytes (header :: payload))

/-- A transfer as it is put on a link: header, payload, CRC. -/
def transferWords (kind seq : Nat) (payload : List Word) : List Word :=
  let h := headerWord kind payload.length seq
  h :: payload ++ [transferCrc h payload]

end Sys2Proof.Machine

namespace Sys2Proof

open Sys2Proof.Machine

/-- The header and CRC words of a transfer as its sender forms them. -/
def Link.of (kind seq : Nat) (payload : List Word) : Link :=
  let h := headerWord kind payload.length seq
  { header := h, crc := transferCrc h payload, full := false }

/-- The CRC word of a transfer checks. -/
def Link.crcOk (l : Link) (payload : List Word) : Bool := l.crc == transferCrc l.header payload

/-- A transfer read out carries a payload of a KIND intact. -/
def Link.intact (l : Link) (kind : Nat) (payload : List Word) : Bool :=
  l.crcOk payload && l.kind == kind && l.len == payload.length % 16384

end Sys2Proof
end

