-- ==== Sys2Proof/Machine/Ops.lean ====
section
/-! DEFINITION. The operations every family shares: reading and changing one channel, saturating counters, tables by
number, the start of an event's way into the recorder (R361, R365, R368), sending on the links (R160, R300), opening
switches (R166), tripping and arming the Hedgehog (R201, R202). -/

namespace Sys2Proof.Machine

open Sys2Proof

/-! ### Numbers, bits and tables -/

/-- A counter of `w` bits raised by `k`, saturating. -/
def satAdd (w n k : Nat) : Nat := min (n + k) (2 ^ w - 1)

/-- A counter of `w` bits raised by one, saturating. -/
def inc (w n : Nat) : Nat := satAdd w n 1

/-- A vector with bit `k` set to `b`. -/
def putBit {n : Nat} (v : BitVec n) (k : Nat) (b : Bool) : BitVec n :=
  if b then v ||| (1#n <<< k) else v &&& ~~~(1#n <<< k)

/-- A number's bits `hi` to `lo`. -/
def bits (x hi lo : Nat) : Nat := x / 2 ^ lo % 2 ^ (hi + 1 - lo)

/-- The entry of a table. -/
def tabGet {α : Type} (t : List (Nat × α)) (k : Nat) : Option α := t.lookup k

/-- A table without the entry of a key. -/
def tabDel {α : Type} (t : List (Nat × α)) (k : Nat) : List (Nat × α) := t.filter (fun e => e.1 != k)

/-- A table with the entry of a key set. -/
def tabPut {α : Type} (t : List (Nat × α)) (k : Nat) (x : α) : List (Nat × α) := (k, x) :: tabDel t k

/-- A list with its entry `k` changed; a list too short stays. -/
def modAt {α : Type} (l : List α) (k : Nat) (f : α → α) : List α :=
  match l[k]? with
  | some x => l.set k (f x)
  | none => l

/-- The entry `k` of a list of 32-bit words, 0 beyond its end. -/
def wordAt (l : List Word) (k : Nat) : Word := l.getD k 0

/-- A place in a circular count `a` counts as later than `b` by less than half the circle of `2 ^ w`. -/
def laterMod (w a b : Nat) : Bool := a != b && (a + 2 ^ w - b) % 2 ^ w < 2 ^ (w - 1)

/-- TRUE and FALSE of a BOOL (R127). -/
def boolWord (b : Bool) : Word := if b then 0xC3 else 0x00

/-- A BOOL as it reads: it occupies the lowest byte of its word (log 70), and any code but 0xC3 is FALSE (R127). -/
def readBool (w : Word) : Bool := w.setWidth 8 == (0xC3 : Byte)

/-- A value as its type holds it (R127): a BOOL's code, a byte, 16 bits, or the whole word. -/
def fitType (t : VType) (w : Word) : Word :=
  match t with
  | .bool => boolWord (readBool w)
  | .byte => w &&& 0xFF
  | .word => w &&& 0xFFFF
  | .dword | .dint | .time => w

/-! ### Channels -/

/-- One channel. -/
def State.ch (s : State) (ch : Ch) : Chan := s.chans.get ch

/-- The state with one channel replaced. -/
def State.put (s : State) (ch : Ch) (c : Chan) : State := { s with chans := s.chans.set ch c }

/-- The state with one channel changed. -/
def State.mod (s : State) (ch : Ch) (f : Chan → Chan) : State := s.put ch (f (s.ch ch))

/-- A channel executes: its supply monitor does not hold it in reset and it has not halted (R33). -/
def Chan.live (c : Chan) : Bool := !c.supply.inReset && !c.supply.halted

/-- The state with one channel changed if that channel executes; an event at a channel that does not changes nothing
(log 4). -/
def State.onLive (s : State) (ch : Ch) (f : Chan → Chan) : State :=
  if (s.ch ch).live then s.mod ch f else s

/-- Every channel that executes changed. -/
def State.allLive (s : State) (f : Ch → Chan → Chan) : State :=
  Ch.all.foldl (fun t ch => t.onLive ch (f ch)) s

/-- Key-enrol position read at P1 (Table 02-9). -/
def Chan.keyEnrol (c : Chan) : Bool := c.seals.bootPos.getLsbD 10

/-- SPLIT mode (R180): SW3-2 was ON at P1. -/
def Chan.split (c : Chan) : Bool := c.seals.bootPos.getLsbD 9

/-- Twin-output position read at P1. -/
def Chan.twin (c : Chan) : Bool := c.seals.bootPos.getLsbD 11

/-- The seal node ID (Table 02-7). -/
def Chan.node (c : Chan) : Nat := bits c.seals.bootPos.toNat 5 0

/-- The unit rank bit. -/
def Chan.rankBit (c : Chan) : Bool := c.seals.bootPos.getLsbD 8

/-- rank[15:0] (R45). -/
def Chan.rank (c : Chan) : Nat := bitAt c.rankBit 8 + c.node

/-- The node's key on the fabric: 2 × node ID + rank bit (R245). -/
def Chan.nodeKey (c : Chan) : Nat := 2 * c.node + bitAt c.rankBit 0

/-- Start-up is over and no stop stands: phase P7 reached, not at status-only (R402, R403). -/
def Chan.running (c : Chan) : Bool := c.live && c.boot.phase == 7 && !c.boot.stopped

/-- The channel is in the vote by its own account. -/
def Chan.votes (c : Chan) (me : Ch) : Bool := c.vote.inVote.getLsbD me.code

/-- Channels in the vote by this channel's account. -/
def Chan.voters (c : Chan) : List Ch := Ch.all.filter (fun x => c.vote.inVote.getLsbD x.code)

/-- A channel has acted on a seal change: the module answers the host at status-only (R49). -/
def State.sealActed (s : State) : Bool := Ch.all.any (fun x => (s.ch x).live && (s.ch x).seals.acted)

/-- The channel answers the host at status-only (Table 15-2): start-up stopped, safe shutdown, or seal changed. -/
def Chan.statusOnly (c : Chan) : Bool := c.boot.stopped || c.vote.mode == 3 || c.seals.acted

/-- The channel's vital tasks run: P7, not at status-only, power present, and in the vote or in probation, or in SPLIT
mode (R49, R166, R173, R180). -/
def Chan.vital (c : Chan) (me : Ch) : Bool :=
  c.running && !c.statusOnly && !c.supply.powerFail &&
    (c.split || c.votes me || c.reint.phase == 4)

/-- The module has a fabric: its image carries a schedule, or it runs unprogrammed (R23, R421). -/
def Chan.onFabric (c : Chan) : Bool :=
  match c.image with
  | some i => i.schedule.isSome || c.boot.unprog
  | none => c.boot.unprog

/-- A task of the running image. -/
def Chan.taskDef (c : Chan) (t : Nat) : TaskDef :=
  match c.image with
  | some i => i.tasks.getD t default
  | none => default

/-- A task's state. -/
def Chan.task (c : Chan) (t : Nat) : TaskState := c.tasks.getD t default

/-- One task changed. -/
def Chan.modTask (c : Chan) (t : Nat) (f : TaskState → TaskState) : Chan := { c with tasks := modAt c.tasks t f }

/-- A task's period in µs. -/
def Chan.periodUs (c : Chan) (t : Nat) : Nat := (c.taskDef t).period4 * 4000

/-- Microseconds of task time of a run: main cycles of the T1 period, and the release's offset (R110: time counted in
cycles). -/
def Chan.taskTime (c : Chan) (mainCycle offset : Nat) : Nat := mainCycle * c.periodUs 1 + offset

/-- A time of `us` µs that began at `since` on the channel's clock may have passed: the clock as last read, at a release, is no more
than a T1 period old (log 77). -/
def Chan.past (c : Chan) (since us : Nat) : Bool := decide (since + us ≤ c.clock + c.periodUs 1)

/-! ### Events (R361, R365, R368, R370) -/

/-- CODE[14:8] of an event (Table 14-3). -/
def EvName.family : EvName → Nat
  | .start | .pfAnnounced | .pfUnannounced | .clear | .diagLost | .recDissent => 0x01
  | .startupStop | .sealChanged | .hostAddr | .keyEvent | .calRestored | .cfgDefault | .calDefault | .fwFallback
  | .keySlotBad => 0x02
  | .hostPortLost | .cmdAgreed | .prepReplaced | .prepDiscarded => 0x03
  | .routeState | .request | .emergency | .emergencyExpiry | .posTimeout | .tileFail | .tileReload
  | .tileReloadFault => 0x04
  | .overrun | .taskFault | .exchange => 0x05
  | .exclusion | .exclUnconfirmed | .reintegration | .safeShutdown | .degWarn | .skewFault | .voterFault => 0x06
  | .samplerStall | .circuitFail | .circuitClear | .circuitFaulty | .lockout | .lockoutClear | .openLoad | .notPicked
  | .sag | .warn | .hedgehogTrip | .switchSuspect => 0x07
  | .gateFault | .unexpectedOpen | .berthLost | .counterLost | .isolWarning | .pairFault => 0x08
  | .drift | .babble | .duplicateId | .duplicateKey | .linkFault | .linkDown | .rangeRebuild | .claimApplied
  | .topoFault | .unsupportedOptics => 0x09
  | .claimChange | .partnerLost | .pairingFault | .syncChange | .switchoverCancelled => 0x0A
  | .correction | .retirement | .memProtection | .initTrap | .spareExhausted | .bankFault => 0x0B
  | .bistFail | .bistLate => 0x0C
  | .feedLoss | .feedRestored => 0x0D

/-- How an event is recorded: diagnostic, or juridical and either voted or channel-local (R361, R365). An event is
juridical where the manual calls it so; which of those are voted is read from R365's two lists (log 26). -/
inductive EvClass where
  | diagnostic
  | voted
  | channelLocal
  deriving DecidableEq, Repr, Inhabited

/-- The class of an event. -/
def EvName.cls : EvName → EvClass
  | .clear | .cmdAgreed | .routeState | .request | .emergency | .emergencyExpiry | .posTimeout | .taskFault
  | .safeShutdown | .lockout | .gateFault | .unexpectedOpen | .berthLost | .isolWarning | .claimChange => .voted
  | .startupStop | .sealChanged | .keyEvent | .calRestored | .exclusion | .bistFail | .bistLate => .channelLocal
  | .start | .pfAnnounced | .pfUnannounced | .diagLost | .recDissent | .hostPortLost | .cfgDefault | .calDefault
  | .fwFallback | .unsupportedOptics | .keySlotBad | .tileFail | .tileReload | .overrun | .skewFault | .samplerStall
  | .circuitFail | .circuitClear | .circuitFaulty | .openLoad | .notPicked | .warn | .switchSuspect | .drift
  | .duplicateKey | .linkFault | .linkDown | .rangeRebuild | .topoFault | .correction | .retirement | .initTrap
  | .feedLoss | .feedRestored | .prepReplaced | .prepDiscarded | .exchange | .degWarn | .lockoutClear | .pairFault
  | .partnerLost | .claimApplied | .syncChange | .switchoverCancelled | .sag | .exclUnconfirmed | .reintegration
  | .voterFault | .hedgehogTrip | .bankFault | .spareExhausted | .babble | .duplicateId | .hostAddr
  | .tileReloadFault | .memProtection | .counterLost | .pairingFault => .diagnostic

/-- The diagnostic buffer takes records once it has been filled at P2 (R327, R364). -/
def Chan.bufferReady (c : Chan) : Bool := decide (3 ≤ c.boot.phase)

/-- A voted event takes the next ordinal of its release instant (R365). -/
def Rec.takeOrdinal (r : Rec) (main offset : Nat) : Rec × Nat :=
  let n := ((r.ordinals.find? (fun e => e.1 == main && e.2.1 == offset)).map (fun e => e.2.2)).getD 0
  let rest := r.ordinals.filter (fun e => !(e.1 == main && e.2.1 == offset))
  ({ r with ordinals := ((main, offset, n + 1) :: rest).take 16 }, n)

/-- A diagnostic record enters the buffer, or is dropped and counted; a level of 98,304 starts a flush (R364, R368). -/
def Rec.buffer (r : Rec) (ready : Bool) (e : Event) : Rec :=
  if !ready then { r with dropEarly := r.dropEarly + 1, lostCnt := inc 16 r.lostCnt }
  else if 131072 ≤ r.diag.length then { r with dropFull := r.dropFull + 1, lostCnt := inc 16 r.lostCnt }
  else
    let r := { r with diag := r.diag ++ [e] }
    if 98304 ≤ r.diag.length && !r.flushing then { r with flushing := true, flushCause := 1 } else r

/-- An event found at a given release instant: it goes to the juridical queue or the diagnostic buffer. After a
declaration of power-fail no further record is created (R370). -/
def Chan.emitAt (c : Chan) (main offset task : Nat) (name : EvName) (obj : Nat) (data : List Word) : Chan :=
  if c.supply.powerFail then c
  else
    let e : Event :=
      { name := name, mainCycle := main, offset := offset, task := task, obj := w32 obj, data := data, ordinal := 0 }
    match name.cls with
    | .voted =>
      let (r, n) := c.recd.takeOrdinal main offset
      { c with recd := { r with queue := r.queue ++ [{ e with ordinal := n }] } }
    | .channelLocal => { c with recd := { c.recd with queue := c.recd.queue ++ [e] } }
    | .diagnostic => { c with recd := c.recd.buffer c.bufferReady e }

/-- An event found outside tasks: at the channel's last release instant (log 5). -/
def Chan.emit (c : Chan) (name : EvName) (obj : Nat) (data : List Word) : Chan :=
  c.emitAt c.mainCycle c.din.offset 0 name obj data

/-- An event found in a run of a task. -/
def Chan.emitTask (c : Chan) (t : Nat) (name : EvName) (obj : Nat) (data : List Word) : Chan :=
  let k := c.task t
  c.emitAt k.runMain k.runOffset t name obj data

/-! ### Links -/

/-- A transfer begun on the exchange link towards a partner, with the next SEQ of that link (R160). -/
def Chan.xput (c : Chan) (dst : Ch) (msg : XMsg) : Chan :=
  let n := c.vote.txSeq.get dst
  { c with
    xout := c.xout ++ [{ dst := dst, seq := n, msg := msg }]
    vote := { c.vote with txSeq := c.vote.txSeq.set dst ((n + 1) % 16384) } }

/-- A transfer for an exchange link: of the vote class it goes before every copy that waits, of the copy class it waits
(R161). In SPLIT mode the links carry idle symbols only (R180). -/
def Chan.xsend (c : Chan) (dst : Ch) (msg : XMsg) : Chan :=
  if c.split then c
  else if msg.copyClass then { c with xwait := c.xwait ++ [(dst, msg)] }
  else c.xput dst msg

/-- A transfer to both partners. -/
def Chan.xsendBoth (c : Chan) (me : Ch) (msg : XMsg) : Chan := (c.xsend me.next msg).xsend me.prev msg

/-- The link towards a partner is free: the copy that has waited longest for it begins (R161). -/
def Chan.xdrain (c : Chan) (dst : Ch) : Chan :=
  match c.xwait.find? (fun e => e.1 == dst) with
  | some e => { c with xwait := c.xwait.erase e }.xput dst e.2
  | none => c

/-- A transfer for a partner that follows the copies waiting for it, for it completes them (R177). -/
def Chan.xafter (c : Chan) (dst : Ch) (msg : XMsg) : Chan := { c with xwait := c.xwait ++ [(dst, msg)] }

/-- Copies that wait for a partner given up. -/
def Chan.xdrop (c : Chan) (dst : Ch) : Chan := { c with xwait := c.xwait.filter (fun e => e.1 != dst) }

/-- A transfer begun on the partner link with the next SEQ (R300). -/
def Chan.pput (c : Chan) (msg : PMsg) : Chan :=
  { c with
    pout := c.pout ++ [(c.part.txSeq, msg)]
    part := { c.part with txSeq := (c.part.txSeq + 1) % 16384 } }

/-- The partner link of a channel with a transfer that waits in its place: XSTATE and COMMIT before pages (R301). -/
def Chan.pwaitFor (c : Chan) (msg : PMsg) : Chan :=
  if msg.rank ≤ 2 then
    { c with pwait := c.pwait.takeWhile (fun m => m.rank ≤ 2) ++ msg :: c.pwait.dropWhile (fun m => m.rank ≤ 2) }
  else { c with pwait := c.pwait ++ [msg] }

/-- A transfer for the partner link: heartbeats and the delta go before all that waits; XSTATE, COMMIT and pages wait
(R301). -/
def Chan.psend (c : Chan) (msg : PMsg) : Chan := if msg.rank ≤ 1 then c.pput msg else c.pwaitFor msg

/-- Transfers for the partner link that follow the pages already waiting, for they complete them (R306). -/
def Chan.pafter (c : Chan) (ms : List PMsg) : Chan := { c with pwait := c.pwait ++ ms }

/-- A COMMIT on its way ends FINAL at the active (Table 11-4). -/
def Part.begun (p : Part) : PMsg → Part
  | .commit _ _ _ => { p with phase := 3 }
  | _ => p

/-- The partner link is free: the first of the waiting transfers begins. -/
def Chan.pdrain (c : Chan) : Chan :=
  match c.pwait with
  | m :: rest => { c with pwait := rest, part := c.part.begun m }.pput m
  | [] => c

/-- What the links of a channel do while nothing is commanded: each free link begins one waiting transfer (log 65). -/
def Chan.drainLinks (c : Chan) (me : Ch) : Chan := ((c.xdrain me.next).xdrain me.prev).pdrain

/-! ### Switches and the Hedgehog -/

/-- Every own output switch opened (R33, R166). -/
def Dout.opened (d : Dout) : Dout := { d with high := 0, lowSide := 0, timerOn := 0 }

/-- The channel opens all its own output switches. -/
def Chan.openSwitches (c : Chan) : Chan := { c with dout := c.dout.opened }

/-- The bit of a trip cause in SAFE.HEDGEHOG.CAUSE (Table 07-20). -/
def tripBit : TripCause → Nat
  | .silent => 0
  | .supply => 1
  | .command => 2
  | .voter => 3
  | .copies => 4

/-- A cause of R201 comes about: it latches, and an armed Hedgehog trips. A held Hedgehog stays held. -/
def Hedgehog.causeNow (h : Hedgehog) (cause : TripCause) : Hedgehog :=
  { h with
    cause := putBit h.cause (tripBit cause) true
    copy1 := true
    copy2 := true
    st := if h.st == 0 then 0 else 2 }

/-- The trip as each running channel records it (R201, R208). -/
def Chan.noteTrip (c : Chan) (cause : TripCause) : Chan :=
  let c := { c with safe := { c.safe with tripCnt := inc 16 c.safe.tripCnt, tripCycle := c.mainCycle % 65536 } }
  c.emit .hedgehogTrip 0 [w32 (tripBit cause)]

/-- A cause of R201 acts on the module: the Hedgehog trips if armed, and each channel that runs records the trip. -/
def State.trip (s : State) (cause : TripCause) : State :=
  let armed := s.hedgehog.st == 1
  let s := { s with hedgehog := s.hedgehog.causeNow cause }
  if armed then s.allLive (fun _ c => c.noteTrip cause) else s

/-- Channels that toggle their alive line (R201). -/
def State.aliveCount (s : State) : Nat := (s.chans.toList.filter (fun c => c.safe.alive)).length

/-- A cause of R201 stands when a command of a TAG would arm the Hedgehog: fewer than two alive lines toggle, a voter fault is
latched, a channel commands the trip, or a latched supply cause or copy difference has not ended (R202; log 40). -/
def State.causeStands (s : State) (tag : Nat) : Bool :=
  let unended := fun (k : TripCause) => s.hedgehog.cause.getLsbD (tripBit k) && !Config.tripOver k tag
  decide (s.aliveCount < 2) || s.net.voterFault || unended .supply || unended .copies ||
    s.chans.toList.any (fun c => c.seals.acted || c.vote.mode == 3 || c.split)

/-- A channel's alive line stops or starts; with two channels silent an armed Hedgehog trips (R201). -/
def State.setAlive (s : State) (ch : Ch) (on : Bool) : State :=
  let s := s.mod ch (fun c => { c with safe := { c.safe with alive := on } })
  if !on && s.hedgehog.st == 1 && decide (s.aliveCount < 2) then s.trip .silent else s

/-- The Hedgehog arms: causes cleared, copies released (R202). -/
def Hedgehog.arm (h : Hedgehog) : Hedgehog :=
  { h with copy1 := false, copy2 := false, st := 1, cause := 0 }

/-! ### Replies and draws -/

/-- A reply passed to a working hub (R15, R378). -/
def State.reply (s : State) (r : Reply) : State :=
  if s.hub.alive then { s with hub := { s.hub with replies := s.hub.replies ++ [r] } } else s

/-- The next free value's index (log 3). -/
def State.drawn (s : State) : State := { s with draws := s.draws + 1 }

end Sys2Proof.Machine
end

