-- ==== Sys2Proof/Machine/Params.lean ====
section
/-! DEFINITION. The parameter index of spec/17_parameter_map.md (Table 17-3, R436, R437): every assigned number with its
access, class, vital marking and reset value; the writable fields with their ranges, as the owning chapters give them;
values in force (R140, R141); applying a write (R433, R435) and the latch of step 1 of R123. -/

namespace Sys2Proof.Machine

open Sys2Proof

/-- The strongest access of a word (R431). -/
inductive PAccess where
  | rw
  | w1c
  | rc
  | ro
  deriving DecidableEq, Repr, Inhabited

/-- The change class of a parameter (R431). -/
inductive PClass where
  | static
  | latchT0
  | latchT1
  | latchOwn
  | immediate
  | session
  deriving DecidableEq, Repr, Inhabited

/-- One row of Table 17-3, as an array of `count` numbers `stride` apart. -/
structure PRow where
  base : Nat
  stride : Nat
  count : Nat
  access : PAccess
  cls : PClass
  vital : Bool
  reset : Nat
  deriving DecidableEq, Repr, Inhabited

/-- A row of consecutive numbers. -/
def prow (base count : Nat) (access : PAccess) (cls : PClass) (vital : Bool) (reset : Nat) : PRow :=
  { base := base, stride := 1, count := count, access := access, cls := cls, vital := vital, reset := reset }

/-- A row of the TASK array, stride 0x10. -/
def trow (base : Nat) (access : PAccess) (cls : PClass) (vital : Bool) (reset : Nat) : PRow :=
  { base := base, stride := 16, count := 8, access := access, cls := cls, vital := vital, reset := reset }

/-- Blocks ID to ARB. -/
def paramRows1 : List PRow :=
  [prow 0x0000 5 .ro .static false 0, prow 0x0008 24 .ro .static false 0,
   prow 0x0100 3 .ro .immediate false 0, prow 0x0200 2 .rc .immediate false 0,
   prow 0x0300 1 .ro .static false 0, prow 0x0301 1 .ro .immediate false 0, prow 0x0302 1 .rc .immediate false 0,
   prow 0x0400 1 .ro .static false 0, prow 0x0401 1 .ro .immediate false 0, prow 0x0402 2 .rc .immediate false 0,
   prow 0x0404 2 .ro .immediate false 0, prow 0x0406 1 .rw .immediate false 0, prow 0x0407 1 .rw .static false 3,
   prow 0x0408 2 .ro .immediate false 0, prow 0x040A 1 .rw .session false 0, prow 0x040B 1 .ro .immediate false 0,
   prow 0x0410 8 .ro .immediate false 0,
   prow 0x0500 1 .rw .static true 0x080A, prow 0x0501 2 .ro .immediate false 0, prow 0x0503 1 .rc .immediate false 0,
   prow 0x0504 1 .ro .immediate false 0,
   prow 0x0600 6 .rw .immediate false 0x43105020, prow 0x0606 2 .rw .immediate false 0x67705020,
   prow 0x0608 8 .rw .immediate false 0, prow 0x0610 1 .rw .immediate false 0x0814,
   prow 0x0611 1 .w1c .immediate false 0, prow 0x0618 8 .rc .immediate false 0]

/-- Blocks TILE to FB. -/
def paramRows2 : List PRow :=
  [prow 0x0700 2 .ro .static false 0, prow 0x0702 1 .ro .immediate false 0, prow 0x0703 1 .rc .immediate false 0,
   prow 0x0704 1 .ro .immediate false 0, prow 0x0705 1 .rw .latchT1 true 4, prow 0x0706 2 .ro .static false 0,
   prow 0x0800 1 .ro .static false 0, prow 0x0801 1 .rc .immediate false 0, prow 0x0802 2 .ro .immediate false 0,
   prow 0x0804 1 .rw .latchT1 true 8, prow 0x0805 1 .rw .latchT1 true 20, prow 0x0806 1 .rw .static true 120,
   prow 0x0807 1 .rc .immediate false 0, prow 0x0808 2 .ro .immediate false 0,
   prow 0x0900 1 .rw .session false 0, prow 0x0901 2 .ro .immediate false 0, prow 0x0903 1 .ro .static false 0,
   prow 0x0904 1 .ro .immediate false 0,
   prow 0x0A00 1 .ro .static false 0, prow 0x0A01 1 .ro .immediate false 0, trow 0x0A10 .ro .static false 0,
   trow 0x0A11 .rw .latchOwn true 2, trow 0x0A12 .ro .immediate false 0, trow 0x0A13 .rc .immediate false 0,
   trow 0x0A14 .ro .immediate false 0, trow 0x0A15 .rc .immediate false 0, trow 0x0A16 .ro .static false 0,
   trow 0x0A17 .ro .immediate false 0,
   prow 0x0B00 3 .ro .static false 0, prow 0x0B03 1 .rw .session false 0, prow 0x0B04 2 .ro .immediate false 0,
   prow 0x0B10 7 .ro .immediate false 0]

/-- Blocks VOTE to SAFE. -/
def paramRows3 : List PRow :=
  [prow 0x0C00 1 .ro .immediate false 0, prow 0x0C01 1 .rw .latchT1 true 40, prow 0x0C02 1 .rw .latchT1 true 3,
   prow 0x0C03 1 .rw .static true 72, prow 0x0C04 1 .ro .immediate false 0,
   prow 0x0C05 1 .rw .latchT1 true 0xBC000503, prow 0x0C06 2 .ro .immediate false 0,
   prow 0x0C08 3 .rc .immediate false 0, prow 0x0C0B 1 .ro .static false 0, prow 0x0C0C 4 .ro .immediate false 0,
   prow 0x0D00 9 .ro .immediate false 0, prow 0x0D09 1 .rw .latchT0 true 10, prow 0x0D10 96 .rw .latchT0 true 300,
   prow 0x0E00 4 .ro .immediate false 0, prow 0x0E04 1 .ro .immediate false 0,
   prow 0x0E10 32 .rw .latchOwn true 0x00320503, prow 0x0E30 32 .ro .immediate false 0,
   prow 0x0F00 1 .rw .latchT0 true 300, prow 0x0F01 1 .rw .latchT0 true 50, prow 0x0F02 1 .ro .immediate false 0,
   prow 0x0F03 1 .rc .immediate false 0,
   prow 0x1000 1 .ro .immediate false 0, prow 0x1001 1 .rc .immediate false 0]

/-- Blocks DOOR to CVU. -/
def paramRows4 : List PRow :=
  [prow 0x1100 1 .ro .static false 0, prow 0x1101 1 .rw .latchT0 true 30, prow 0x1102 1 .rw .latchT0 true 10,
   prow 0x1103 1 .rw .latchT0 true 240, prow 0x1104 1 .ro .immediate false 0, prow 0x1110 64 .ro .immediate false 0,
   prow 0x1150 1 .rw .session false 0, prow 0x1151 4 .ro .immediate false 0,
   prow 0x1200 4 .ro .immediate false 0, prow 0x1204 2 .rc .immediate false 0, prow 0x1206 1 .rw .session false 0,
   prow 0x1207 1 .ro .immediate false 0,
   prow 0x1300 2 .ro .immediate false 0, prow 0x1302 1 .ro .static false 0, prow 0x1303 1 .ro .immediate false 0,
   prow 0x1304 2 .rc .immediate false 0, prow 0x1306 4 .ro .immediate false 0,
   prow 0x1400 1 .ro .immediate false 0, prow 0x1401 2 .ro .static false 0, prow 0x1403 2 .rc .immediate false 0,
   prow 0x1500 3 .ro .immediate false 0, prow 0x1503 2 .ro .static false 0, prow 0x1505 1 .ro .immediate false 0,
   prow 0x1506 1 .rw .session false 0, prow 0x1507 1 .ro .immediate false 0,
   prow 0x1600 4 .rw .static true 0, prow 0x1604 4 .ro .immediate false 0, prow 0x1608 3 .rc .immediate false 0,
   prow 0x1700 2 .rc .immediate false 0, prow 0x1702 1 .rw .session false 0, prow 0x1703 3 .ro .immediate false 0]

/-- Blocks PART to REACT. -/
def paramRows5 : List PRow :=
  [prow 0x1800 4 .ro .immediate false 0, prow 0x1804 1 .rw .latchT1 true 0x0103, prow 0x1805 1 .rc .immediate false 0,
   prow 0x1806 1 .ro .immediate false 0, prow 0x1807 1 .rw .latchT1 true 0xBC000100,
   prow 0x1808 3 .ro .immediate false 0, prow 0x180B 1 .rc .immediate false 0,
   prow 0x1900 3 .ro .immediate false 0, prow 0x1903 2 .ro .static false 0, prow 0x1905 3 .ro .immediate false 0,
   prow 0x1908 1 .rc .immediate false 0, prow 0x1909 2 .ro .immediate false 0,
   prow 0x1A00 1 .rw .static false 0xC0A8000A, prow 0x1A01 1 .rw .static false 0xFFFFFF00,
   prow 0x1A02 1 .rw .static false 0, prow 0x1A03 1 .rw .static false 0xB8C4, prow 0x1A04 1 .rw .static false 60,
   prow 0x1A05 2 .ro .static false 0, prow 0x1A07 2 .ro .immediate false 0, prow 0x1A09 2 .rc .immediate false 0,
   prow 0x1A0B 1 .ro .immediate false 0, prow 0x1A10 16 .ro .immediate false 0,
   prow 0x1B00 2 .ro .immediate false 0, prow 0x1B02 1 .ro .static false 0, prow 0x1B03 2 .ro .immediate false 0,
   prow 0x1C00 1 .ro .immediate false 0, prow 0x1C01 1 .ro .latchT1 false 180, prow 0x1C10 128 .ro .latchT1 false 0,
   prow 0x1D00 1 .rw .static true 0x0402, prow 0x1D01 3 .ro .immediate false 0, prow 0x1D04 1 .rc .immediate false 0,
   prow 0x1D05 2 .ro .immediate false 0,
   prow 0x1E00 1 .ro .static false 0, prow 0x1E01 1 .rw .session false 0, prow 0x1E02 3 .ro .immediate false 0]

/-- Table 17-3. -/
def paramRows : List PRow := paramRows1 ++ paramRows2 ++ paramRows3 ++ paramRows4 ++ paramRows5

/-- A row names this number. -/
def PRow.names (r : PRow) (num : Nat) : Bool :=
  decide (r.base ≤ num) && (num - r.base) % r.stride == 0 && decide ((num - r.base) / r.stride < r.count)

/-- The row of a number; none for a reserved number (R429). -/
def paramRow (num : Nat) : Option PRow := paramRows.find? (fun r => r.names num)

/-- The reset word of a number (Table 17-3), before what the image or the factory puts into it. -/
def paramReset (num : Nat) : Nat :=
  if 0x0608 ≤ num ∧ num ≤ 0x060F then [0xC, 0xA, 0xB, 0x6, 0x7, 0xB, 0x2, 0x3].getD (num - 0x0608) 0
  else if 0x1600 ≤ num ∧ num ≤ 0x1603 then [0x40000800, 0x20000400, 0x80001000, 0x20000400].getD (num - 0x1600) 0
  else
    match paramRow num with
    | some r => r.reset
    | none => 0

/-! ### Writable fields -/

/-- A writable field: its bits, its range and its step. -/
structure PField where
  hi : Nat
  lo : Nat
  least : Nat
  most : Nat
  step : Nat
  deriving DecidableEq, Repr, Inhabited

/-- A field of steps of one. -/
def fld (hi lo least most : Nat) : PField := { hi := hi, lo := lo, least := least, most := most, step := 1 }

/-- A word with writable fields: the numbers it covers, its RW or W1C fields, and the mask of its RO fields, which a
write ignores (R449). -/
structure PWrite where
  base : Nat
  stride : Nat
  count : Nat
  fields : List PField
  ro : Word
  deriving DecidableEq, Repr, Inhabited

/-- Fields of consecutive numbers. -/
def pw (base count : Nat) (fields : List PField) (ro : Word) : PWrite :=
  { base := base, stride := 1, count := count, fields := fields, ro := ro }

/-- The writable words and their fields, from the owning tables (12-14 to 12-28, 03-16, 04-14 to 04-20, 05-12, 05-22,
06-8 to 06-12). -/
def paramWrites1 : List PWrite :=
  [pw 0x0406 1 [fld 31 31 0 1, fld 29 29 0 1, fld 19 0 0 0xFFFFF] 0x40000000, pw 0x0407 1 [fld 3 0 2 15] 0,
   pw 0x040A 1 [fld 8 0 0 511] 0, pw 0x0500 1 [fld 15 8 1 8, fld 7 0 1 10] 0,
   pw 0x0600 8 ((List.range 8).map (fun j => fld (4 * j + 2) (4 * j) 0 7)) 0, pw 0x0608 8 [fld 3 0 0 15] 0,
   pw 0x0610 1 [fld 13 8 1 32, fld 4 0 15 30] 0, pw 0x0611 1 [fld 7 0 0 255] 0xFFFF0000,
   pw 0x0705 1 [fld 4 0 1 16] 0, pw 0x0804 1 [fld 4 0 2 30] 0, pw 0x0805 1 [fld 6 0 5 100] 0,
   pw 0x0806 1 [fld 9 0 30 600] 0, pw 0x0900 1 [fld 10 0 0 2047] 0,
   { base := 0x0A11, stride := 16, count := 8, fields := [fld 2 0 0 7], ro := 0 }, pw 0x0B03 1 [fld 17 0 0 0x3FFFF] 0,
   pw 0x0C01 1 [fld 7 0 5 160] 0, pw 0x0C02 1 [fld 3 0 1 8] 0, pw 0x0C03 1 [fld 7 0 1 168] 0,
   pw 0x0C05 1 [fld 31 31 0 1, fld 30 24 10 120, fld 15 8 1 255, fld 3 0 0 15] 0]

/-- The writable words of blocks DIN to REACT (Tables 07-9 to 07-23, 08-7 to 08-12, 10-12 to 10-23, 11-9, 11-12, 13-3,
15-12 to 15-14). -/
def paramWrites2 : List PWrite :=
  [pw 0x0D09 1 [fld 7 0 1 255] 0, pw 0x0D10 96 [fld 15 0 1 65535] 0,
   pw 0x0E10 32 [fld 24 16 10 500, fld 13 8 1 50, fld 3 0 2 15] 0xF0000000,
   pw 0x0F00 1 [{ hi := 8, lo := 0, least := 200, most := 400, step := 10 }] 0, pw 0x0F01 1 [fld 5 0 10 50] 0,
   pw 0x1101 1 [fld 7 0 5 200] 0, pw 0x1102 1 [fld 5 0 1 50] 0, pw 0x1103 1 [fld 9 0 10 720] 0,
   pw 0x1150 1 [fld 9 0 0 1023] 0, pw 0x1206 1 [fld 15 0 0 65535] 0, pw 0x1506 1 [fld 5 0 0 63] 0,
   pw 0x1600 4 [fld 31 16 256 65535, fld 15 0 64 8192] 0, pw 0x1702 1 [fld 3 0 0 12] 0,
   pw 0x1804 1 [fld 9 8 0 3, fld 3 0 2 15] 0, pw 0x1807 1 [fld 31 31 0 1, fld 30 24 10 120, fld 15 8 1 255] 0,
   pw 0x1A00 3 [fld 31 0 0 0xFFFFFFFF] 0, pw 0x1A03 1 [fld 15 0 1024 65535] 0, pw 0x1A04 1 [fld 9 0 10 600] 0,
   pw 0x1D00 1 [fld 12 8 1 24, fld 2 0 1 4] 0, pw 0x1E01 1 [fld 31 0 0 0xFFFFFFFF] 0]

/-- The writable word of a number. -/
def paramWrite (num : Nat) : Option PWrite :=
  (paramWrites1 ++ paramWrites2).find? (fun r =>
    decide (r.base ≤ num) && (num - r.base) % r.stride == 0 && decide ((num - r.base) / r.stride < r.count))

/-- A field's value lies in its range. -/
def PField.inRange (f : PField) (w : Word) : Bool :=
  let v := bits w.toNat f.hi f.lo
  decide (f.least ≤ v) && decide (v ≤ f.most) && (v - f.least) % f.step == 0

/-- The bits of a field. -/
def PField.mask (f : PField) : Nat := (2 ^ (f.hi + 1 - f.lo) - 1) * 2 ^ f.lo

/-- The bits of the writable fields. -/
def PWrite.mask (p : PWrite) : Word := BitVec.ofNat 32 (p.fields.foldl (fun a f => a + f.mask) 0)

/-- A value sets a reserved bit (R9, R449). -/
def PWrite.reserved (p : PWrite) (w : Word) : Bool := (w &&& ~~~(p.mask ||| p.ro)) != 0

/-- Every field of a value lies in its range; every such write is rejected whole otherwise (R154, R181, R205 to R207). -/
def PWrite.ok (p : PWrite) (w : Word) : Bool := p.fields.all (fun f => f.inRange w)

/-! ### Values in force -/

/-- A static parameter in force. -/
def Chan.stat (c : Chan) (num : Nat) : Nat :=
  match tabGet c.params.static num with
  | some w => w.toNat
  | none => paramReset num

/-- A cycle-latched parameter's active copy. -/
def Chan.act (c : Chan) (num : Nat) : Nat :=
  match tabGet c.params.active num with
  | some w => w.toNat
  | none => paramReset num

/-- An output's owning task (DOUT.CONF.TASK): from the image, else T1 (R431). -/
def Chan.outTask (c : Chan) (n : Nat) : Nat :=
  match c.image with
  | some i => (i.doTask.lookup n).getD 1
  | none => 1

/-- The task whose release latches a cycle-latched parameter (R431, R206). -/
def Chan.latchTask (c : Chan) (num : Nat) : Option Nat :=
  match paramRow num with
  | some r =>
    match r.cls with
    | .latchT0 => some 0
    | .latchT1 => some 1
    | .latchOwn => some (if num / 256 == 0x0E then c.outTask (num - 0x0E10)
        else if (c.taskDef ((num - 0x0A11) / 16)).present then (num - 0x0A11) / 16 else 1)
    | _ => none
  | none => none

/-- A task's writes latched at a release (R123 step 1, R141): those of the task whose cycle has come, as one
operation. -/
def Params.latch (p : Params) (task cycle : Nat) : Params :=
  let due := p.shadow.filter (fun w => w.task == task && decide (w.cycle ≤ cycle))
  { p with
    active := due.foldl (fun a w => tabPut a w.num w.value) p.active
    shadow := p.shadow.filter (fun w => !(w.task == task && decide (w.cycle ≤ cycle))) }

/-- A write into a shadow: a later write of the same parameter replaces one still waiting (R141). -/
def Params.toShadow (p : Params) (w : PendingLatch) : Params :=
  { p with shadow := p.shadow.filter (fun x => x.num != w.num) ++ [w] }

/-- The copy of the configuration area in force: the valid one of higher count (R435). -/
def cfgInForce (a b : CfgCopy) : Option CfgCopy :=
  if a.crcOk && b.crcOk then some (if a.count < b.count then b else a)
  else if a.crcOk then some a
  else if b.crcOk then some b
  else none

/-- A static write (R140, R435): the older copy is rewritten with a count one higher. -/
def Nv.writeStatic (v : Nv) (num : Nat) (w : Word) : Nv :=
  let cur := (cfgInForce v.cfg0 v.cfg1).getD { count := 0, vals := [], crcOk := true }
  let next : CfgCopy := { count := cur.count + 1, vals := tabPut cur.vals num w, crcOk := true }
  let old0 := !v.cfg0.crcOk || (v.cfg1.crcOk && decide (v.cfg0.count < v.cfg1.count))
  if old0 then { v with cfg0 := next } else { v with cfg1 := next }

end Sys2Proof.Machine
end

