-- ==== Sys2Proof/Machine/Arbiter.lean ====
section
/-! DEFINITION. The memory arbiter (spec/12_memory_and_arbiter.md R336 to R340, R343) and writes of the immediate parameters:
blocks ARB and MEM.FLIP (R329). -/

namespace Sys2Proof.Machine

open Sys2Proof

/-! ### Decisions (R337) -/

/-- A requester's effective priority. -/
def Arb.effective (a : Arb) (r : Nat) : Nat := min (a.prio.getD r 0 + a.boost.getD r 0) a.ceiling

/-- Requester `r` goes before `q`: higher effective priority, then the longer wait; the lower index is met first. -/
def Arb.before (a : Arb) (r q : Nat) : Bool :=
  decide (a.effective q < a.effective r) ||
    (a.effective r == a.effective q && decide (a.waited.getD q 0 < a.waited.getD r 0))

/-- The waiting requester that a decision grants when the entry's owner is idle. -/
def Arb.best (a : Arb) (waiting : BitVec 8) : Option Nat :=
  ((List.range 8).filter (fun r => waiting.getLsbD r)).foldl
    (fun b r => match b with
      | none => some r
      | some q => if a.before r q then some r else some q) none

/-- The requester granted: the entry's owner if it waits, else the best. -/
def Arb.granted (a : Arb) (waiting : BitVec 8) : Option Nat :=
  let owner := a.slot.getD a.entry 0
  if waiting.getLsbD owner then some owner else a.best waiting

/-- BOOST of a requester after a decision: 0 when granted, one more while it waits below the ceiling. -/
def Arb.nextBoost (a : Arb) (waiting : BitVec 8) (granted : Option Nat) (r : Nat) : Nat :=
  if granted == some r then 0
  else if waiting.getLsbD r && decide (a.effective r < a.ceiling) then a.boost.getD r 0 + 1
  else a.boost.getD r 0

/-- One decision; `draw` numbers the free value of the wait in bus cycles. -/
def Arb.step (a : Arb) (waiting : BitVec 8) (draw : Nat) : Arb :=
  let g := a.granted waiting
  let wait := fun r => (Config.waitCycles (a.waited.getD r 0) draw).toNat
  { a with
    entry := (a.entry + 1) % 64
    holder := g
    boost := (List.range 8).map (a.nextBoost waiting g)
    waited := (List.range 8).map (fun r => if waiting.getLsbD r && g != some r then a.waited.getD r 0 + 1 else 0)
    waitMax := (List.range 8).map (fun r => if g == some r then max (a.waitMax.getD r 0) (wait r) else a.waitMax.getD r 0) }

/-- ARBITER_DECISION (R337): one decision among the requests waiting. -/
def execArbiterDecision (ch : Ch) (waiting : BitVec 8) (s : State) : Host.Outcome State Fault Refusal :=
  let n := s.draws
  .next (s.drawn.onLive ch (fun c => { c with arb := c.arb.step waiting n }))

/-- ARBITER_HOLD_CUT (R339): the grant reaches ARB.CTRL.HOLD_MAX and is cut at the next beat. -/
def execArbiterHoldCut (ch : Ch) (s : State) : Host.Outcome State Fault Refusal :=
  .next (s.onLive ch (fun c =>
    match c.arb.holder with
    | some r =>
      { c with arb := { c.arb with holder := none, cut := putBit c.arb.cut r true, cutCnt := inc 16 c.arb.cutCnt } }
    | none => c))

/-! ### Writes -/

/-- Eight owners of an ARB.SLOT word. -/
def slotOwners (w : Word) : List Nat := (List.range 8).map (fun j => bits w.toNat (4 * j + 2) (4 * j))

/-- The slot table with one word replaced. -/
def Arb.withSlot (a : Arb) (k : Nat) (w : Word) : List Nat :=
  a.slot.take (8 * k) ++ slotOwners w ++ a.slot.drop (8 * k + 8)

/-- Every requester owns an entry (R340). -/
def slotsOk (ss : List Nat) : Bool := (List.range 8).all (fun r => ss.contains r)

/-- The word is an immediate parameter that its ranges, its reserved bits and R340 allow; for MEM.FLIP from the host, RANGE
0 (R329, R343, R449). -/
def Chan.immediateOk (c : Chan) (num : Nat) (w : Word) (host : Bool) : Bool :=
  match paramWrite num with
  | none => false
  | some p =>
    p.ok w && !p.reserved w &&
      (if decide (0x0600 ≤ num) && decide (num ≤ 0x0607) then slotsOk (c.arb.withSlot (num - 0x0600) w)
       else if num == 0x0406 then !(host && w.getLsbD 29)
       else true)

/-- A write of an immediate parameter (R140): MEM.FLIP replaces an armed mask and clears DONE (R329); ARB takes it from the
next decision (R338); the CUT bits written 1 clear (R343). -/
def Chan.writeImmediate (c : Chan) (num : Nat) (w : Word) : Chan :=
  if num == 0x0406 then
    { c with
      mem := { c.mem with arm := w.getLsbD 31, done := false, range := w.getLsbD 29, mask := w.setWidth 20 } }
  else if decide (0x0600 ≤ num) && decide (num ≤ 0x0607) then
    { c with arb := { c.arb with slot := c.arb.withSlot (num - 0x0600) w } }
  else if decide (0x0608 ≤ num) && decide (num ≤ 0x060F) then
    { c with arb := { c.arb with prio := c.arb.prio.set (num - 0x0608) (bits w.toNat 3 0) } }
  else if num == 0x0610 then
    { c with arb := { c.arb with holdMax := bits w.toNat 13 8, ceiling := bits w.toNat 4 0 } }
  else if num == 0x0611 then { c with arb := { c.arb with cut := c.arb.cut &&& ~~~(w.setWidth 8) } }
  else c

/-- MEM_FLIP_WRITE (R329): by the host or by firmware; a host write with RANGE 1 is rejected whole. -/
def execMemFlipWrite (ch : Ch) (value : Word) (host : Bool) (s : State) : Host.Outcome State Fault Refusal :=
  .next (s.onLive ch (fun c => if c.immediateOk 0x0406 value host then c.writeImmediate 0x0406 value else c))

/-- ARB_PARAM_WRITE (R338, R340, R343): a write of ARB.SLOT, ARB.PRIO or ARB.CTRL; one out of range is rejected whole. -/
def execArbParamWrite (ch : Ch) (num : Nat) (value : Word) (s : State) : Host.Outcome State Fault Refusal :=
  .next (s.onLive ch (fun c =>
    if decide (0x0600 ≤ num) && decide (num ≤ 0x0610) && c.immediateOk num value false then c.writeImmediate num value
    else c))

/-- ARB_CUT_CLEAR (R343): bits written 1 clear. -/
def execArbCutClear (ch : Ch) (bits : BitVec 8) (s : State) : Host.Outcome State Fault Refusal :=
  .next (s.onLive ch (fun c => c.writeImmediate 0x0611 (bits.setWidth 32)))

end Sys2Proof.Machine
end

