-- ==== Sys2Proof/Machine/Routes.lean ====
section
/-! DEFINITION. The lane's links and routes (spec/10_fabric_routing_messages.md R260, R261, R265), the queue pool's reserves
(R274 to R276), and putting a frame into a queue (R255, R273). -/

namespace Sys2Proof.Machine

open Sys2Proof

/-! ### Links and hop counts -/

/-- A port of the lane. -/
def Frt.port (f : Frt) : Port → PortState
  | .x => f.portX
  | .y => f.portY

/-- A port replaced. -/
def Frt.putPort (f : Frt) (p : Port) (v : PortState) : Frt :=
  match p with
  | .x => { f with portX := v }
  | .y => { f with portY := v }

/-- The neighbour a HELLO names for a port. -/
def Hello.nbr (h : Hello) : Port → Option (Nat × Port)
  | .x => h.nbrX
  | .y => h.nbrY

/-- The neighbour of a key's port: this node's own as heard, another's as its HELLO names it. -/
def Chan.nbrOf (c : Chan) (key : Nat) (p : Port) : Option (Nat × Port) :=
  if key == c.nodeKey then
    let s := c.frt.port p
    if s.up && !s.wrong then s.nbr else none
  else (c.frt.hellos.find? (fun h => h.key == key)).bind (fun h => h.nbr p)

/-- The code of a port. -/
def portCode : Port → Nat
  | .x => 0
  | .y => 1

/-- An end of a link as a number: twice the key, plus 1 for port Y. -/
def endOf (key : Nat) (p : Port) : Nat := 2 * key + portCode p

/-- A link as a pair of ends, the lower first. -/
def linkPair (a b : Nat) : Nat × Nat := (min a b, max a b)

/-- The far end of a link known from both ends and not removed by a LINK_DOWN (R260, R265). -/
def Chan.farEnd (c : Chan) (key : Nat) (p : Port) : Option (Nat × Port) :=
  match c.nbrOf key p with
  | some (k, q) =>
    if c.nbrOf k q == some (key, p) && !c.frt.lostLinks.contains (linkPair (endOf key p) (endOf k q)) then some (k, q) else none
  | none => none

/-- A node other than this one is in SYNC by its HELLO. -/
def Chan.inSync (c : Chan) (key : Nat) : Bool := c.frt.hellos.any (fun h => h.key == key && h.st == 4)

/-- Hops from a key over a port to a node ID, through nodes in SYNC only, within `fuel` hops (R261). -/
def Chan.hopsFrom (c : Chan) (node : Nat) : Nat → Nat → Port → Option Nat
  | 0, _, _ => none
  | fuel + 1, key, p =>
    match c.farEnd key p with
    | none => none
    | some (k, q) =>
      if k / 2 == node then some 1
      else if c.inSync k then (c.hopsFrom node fuel k q.other).map (· + 1)
      else none

/-- The hop count to a node over a port; none where that direction is absent (R261). -/
def Chan.hops (c : Chan) (node : Nat) (p : Port) : Option Nat := c.hopsFrom node 6 c.nodeKey p

/-- The lane has no route to a node. -/
def Chan.noRoute (c : Chan) (node : Nat) : Bool := (c.hops node .x).isNone && (c.hops node .y).isNone

/-- The no-route bitmap of a remote vote set (R271): the nodes of the image's connections and of the link table. -/
def Chan.noRouteMap (c : Chan) : BitVec 64 :=
  (List.range 64).foldl (fun v n => putBit v n (n != c.node && c.noRoute n)) 0#64

/-- Routes have been found: discovery is complete (R259, R260). -/
def Chan.routed (c : Chan) : Bool := c.frt.complete

/-- The direction of a frame to one node: fewer hops, port X on a tie (R261). -/
def Chan.direction (c : Chan) (node : Nat) : Option Port :=
  match c.hops node .x, c.hops node .y with
  | some a, some b => some (if a ≤ b then .x else .y)
  | some _, none => some .x
  | none, some _ => some .y
  | none, none => none

/-- A port in use: up, with its right neighbour (R265). -/
def Chan.portUsed (c : Chan) (p : Port) : Bool := (c.frt.port p).up && !(c.frt.port p).wrong

/-! ### The queue pool -/

/-- Cells of a frame (R274). -/
def frameCells (f : Frame) : Nat := (16 + f.payload.length + 59) / 60

/-- The reserve range of a class and level. -/
def Qm.range (q : Qm) (cls : Nat) (level : Option (Port × Nat)) : Option Range :=
  q.ranges.find? (fun r => r.cls == cls && r.level == level)

/-- Free cells of a range changed. -/
def Qm.setFree (q : Qm) (cls : Nat) (level : Option (Port × Nat)) (free : Nat) : Qm :=
  { q with ranges := q.ranges.map (fun (r : Range) => if r.cls == cls && r.level == level then { r with free := free } else r) }

/-- Cells taken from a range, or none where too few are free or the range is being rebuilt (R276, R278). -/
def Qm.take (q : Qm) (cls : Nat) (level : Option (Port × Nat)) (n : Nat) : Option Qm :=
  match q.range cls level with
  | some r => if r.rebuilding || decide (r.free < n) then none else some (q.setFree cls level (r.free - n))
  | none => none

/-- Cells given back to a range; a range being rebuilt finds its cells by its sweep. -/
def Qm.give (q : Qm) (cls : Nat) (level : Option (Port × Nat)) (n : Nat) : Qm :=
  match q.range cls level with
  | some r => if r.rebuilding then q else q.setFree cls level (r.free + n)
  | none => q

/-- The receive level that holds a frame waiting on a port: none for a frame of this node, else the level of the HOP it
arrived with on the other port (R275). -/
def Chan.levelOf (c : Chan) (p : Port) (f : Frame) : Option (Port × Nat) :=
  if f.origin == c.nodeKey then none else some (p.other, f.hop - 1)

/-- A port's queue. -/
def Fab.queue (f : Fab) : Port → List Frame
  | .x => f.queueX
  | .y => f.queueY

/-- A port's queue replaced. -/
def Fab.putQueue (f : Fab) (p : Port) (q : List Frame) : Fab :=
  match p with
  | .x => { f with queueX := q }
  | .y => { f with queueY := q }

/-- A frame put at the tail of a port's queue with its cells (R276); none where its reserve is full. -/
def Chan.queueFrame (c : Chan) (p : Port) (f : Frame) : Option Chan :=
  (c.qm.take f.cls (c.levelOf p f) (frameCells f)).map (fun q =>
    { c with qm := q, fab := c.fab.putQueue p (c.fab.queue p ++ [f]) })

/-- The FSEQ of this node's next frame of a class (R255). -/
def Fab.nextSeq (f : Fab) (cls : Nat) : Nat := f.fseq.getD cls 0

/-- That FSEQ used. -/
def Fab.useSeq (f : Fab) (cls : Nat) : Fab := { f with fseq := modAt f.fseq cls (fun n => (n + 1) % 65536) }

/-- A frame of this node, not yet sent: HOP 0; CLUSTER, BASIC and LSEQ are set as it is sent. -/
def Chan.ownFrame (c : Chan) (cls kind : Nat) (dest : Option Nat) (payload : List Byte) : Frame :=
  { cls := cls, kind := kind, hop := 0, dest := dest, origin := c.nodeKey, fseq := c.fab.nextSeq cls, lseq := 0, cluster := 0,
    basic := 0, payload := payload }

/-- A frame of this node queued on the given ports with one FSEQ: on those that are in use (R265); a port whose origin reserve is full goes without it,
and its writer learns so (R276, log 42). -/
def Chan.sendFrame (c : Chan) (cls kind : Nat) (dest : Option Nat) (payload : List Byte) (ports : List Port) : Chan :=
  let f := c.ownFrame cls kind dest payload
  let c := { c with fab := c.fab.useSeq cls }
  (ports.filter c.portUsed).foldl (fun c p => (c.queueFrame p f).getD c) c

/-- A management frame of this node to every node, on both ports. -/
def Chan.sendManagement (c : Chan) (kind : Nat) (payload : List Byte) : Chan :=
  c.sendFrame 3 kind none payload [.x, .y]

/-- The ports by which a vital frame to a node leaves: every direction that is present (R261, R273). -/
def Chan.vitalPorts (c : Chan) (node : Nat) : List Port := [Port.x, Port.y].filter (fun p => (c.hops node p).isSome)

/-- A queue flushed and its cells given back (R277). -/
def Chan.flushWhere (c : Chan) (p : Port) (gone : Frame → Bool) : Chan :=
  let out := (c.fab.queue p).filter gone
  if out.isEmpty then c
  else
    let qm := out.foldl (fun q f => q.give f.cls (c.levelOf p f) (frameCells f)) c.qm
    { c with
      qm := { qm with flushes := inc 16 qm.flushes }
      fab := c.fab.putQueue p ((c.fab.queue p).filter (fun f => !gone f)) }

/-- Flushed on both ports. -/
def Chan.flushBoth (c : Chan) (gone : Frame → Bool) : Chan := (c.flushWhere .x gone).flushWhere .y gone

end Sys2Proof.Machine
end

