-- ==== Sys2Proof/Machine/Outputs.lean ====
section
/-! DEFINITION. Writing outputs (spec/05_block_execution.md R123 step 5, R129, R130, R148; spec/07_vital_io.md R191, R197, R199,
R200, R202, R203): the output command interface, the low-side switches, and vital cyclic frames (spec/10 R268, R269,
R273). -/

namespace Sys2Proof.Machine

open Sys2Proof

/-! ### Local outputs -/

/-- The group of an output, 0 to 3 (R17: eight outputs a group). -/
def groupOf (n : Nat) : Nat := n / 8

/-- The kept fault record of an output. -/
def Nv.outFault (v : Nv) (n : Nat) : OutFault := v.outFaults.getD n OutFault.none

/-- DOUT.FAULT.CAUSE of an output: its own cause, else 5 in a locked group (R197). -/
def Nv.outCause (v : Nv) (n : Nat) : Nat :=
  let own := (v.outFault n).cause
  if own != 0 then own else if v.groupLocked.getLsbD (groupOf n) then 5 else 0

/-- A module in unprogrammed mode keeps its outputs off until a claim is applied (R421). -/
def Chan.unclaimed (c : Chan) : Bool := c.boot.unprog && !c.fab.claimed

/-- An output that stays off whatever commands it: locked out here or in the twin partner (R197, R203), unproven by sag (R199),
waiting for a command of a later run (R200, R202), or unclaimed (R421). -/
def Chan.heldOff (c : Chan) (n : Nat) : Bool :=
  c.nv.outCause n != 0 || (c.twin && c.dout.twinLock.getLsbD n) || c.dout.sag.getLsbD (groupOf n) ||
    (c.dout.needFresh.lookup n).isSome || c.unclaimed

/-- A command for one output as the module's: whether it energises, and the times R195 and R198 count from, `us` in task time of
the release that commanded it. The first command of an output that is off counts as its off command (R198). -/
def Dout.command (d : Dout) (n : Nat) (voted on : Bool) (us : Nat) : Dout :=
  let was := d.on.getLsbD n
  { d with
    cmd := putBit d.cmd n voted
    on := putBit d.on n on
    offSince := if on then tabDel d.offSince n else if was || (d.offSince.lookup n).isNone then tabPut d.offSince n us else d.offSince
    onSince := if !on then tabDel d.onSince n else if was then d.onSince else tabPut d.onSince n us }

/-- A command reaches the channel's own high-side switches of an output and reloads its timer (R17, R191); a channel whose own sag
latch of the group stands keeps its switches open (R199). -/
def Dout.drive (d : Dout) (n : Nat) (on : Bool) : Dout :=
  { d with high := putBit d.high n (on && !d.sagLatch.getLsbD (groupOf n)), timerOn := putBit d.timerOn n on }

/-- A command for one output; `mine` says that it reaches the channel's own switches. After a declaration of power-fail none
energises (R14). -/
def Chan.commandOutput (c : Chan) (n : Nat) (voted mine : Bool) (us : Nat) : Chan :=
  let on := voted && !c.heldOff n && !c.supply.powerFail
  let d := c.dout.command n voted on us
  { c with dout := if mine then d.drive n on else d }

/-- Groups in service at this channel: not locked out, not sagged, its own sag latch clear (R191, R193, R197, R199). -/
def Chan.inService (c : Chan) : BitVec 4 := ~~~(c.nv.groupLocked ||| c.dout.sag ||| c.dout.sagLatch)

/-- The outputs of some groups. -/
def groupsMask (gs : BitVec 4) : Word := (List.range 32).foldl (fun m n => putBit m n (gs.getLsbD (groupOf n))) 0

/-- The on-test currents (R190, R195): removed from every output of a group whose low-side switches this channel holds open, and
from a sweep's target. -/
def Chan.setOnTest (c : Chan) : Chan :=
  let swept : Word := match c.dout.sweep with
    | some w => putBit 0 w.out true
    | none => 0
  { c with dout := { c.dout with onTestOff := groupsMask (~~~c.inService) ||| swept } }

/-- The low-side switches follow the groups in service (R191), and the on-test currents with them (R190); after a declaration of
power-fail the switches stay open (R14, R33). -/
def Chan.setLowSide (c : Chan) : Chan :=
  if c.supply.powerFail then c else { c with dout := { c.dout with lowSide := c.inService } }.setOnTest

/-- Outputs that stay off are switched off now (R197, R199); what was voted for them stays in DOUT.CMD. -/
def Chan.forceOff (c : Chan) (us : Nat) : Chan :=
  (List.range 32).foldl (fun c n =>
    if c.heldOff n && c.dout.on.getLsbD n then
      { c with dout := (c.dout.command n (c.dout.cmd.getLsbD n) false us).drive n false }
    else c) c

/-- The channel's commands reach its own switches: in the vote of an active unit, not in SPLIT mode (R17, R166, R177, R180,
R299, R309). -/
def Chan.drives (c : Chan) (me : Ch) : Bool := c.votes me && c.part.role != 2 && !c.split

/-- The local commands of a task's output image, which reach the own switches where `mine` says so. -/
def Chan.writeLocal (c : Chan) (t : Nat) (words : List Word) (mine : Bool) (us : Nat) : Chan :=
  let c := if t == 0 && mine then c.setLowSide else c
  ((c.taskDef t).outs.zip words).foldl
    (fun c e => match e.1.src with
      | .localOut n _ => c.commandOutput n (readBool e.2) mine us
      | _ => c) c

/-! ### Vital frames -/

/-- A vital frame's payload (Table 10-4, R269). -/
def vitalPayload (key : BitVec 256) (seq ts src dst : Nat) (data : List Word) : List Byte :=
  let body := wordsBytes ([w32 seq, w32 ts, w32 (src % 2 ^ 18), w32 (dst % 2 ^ 18)] ++ data)
  body ++ (hmacSha256 key body).take 8

/-- The channel sends vital frames (R166, R177, R180, R230, R298): in the vote, of the unit that holds the claim. -/
def Chan.sendsVital (c : Chan) (me : Ch) : Bool := c.drives me && c.running

/-- A vital message on a connection, on every port with a direction to its peer; none without a route (R261, R273). -/
def Chan.sendVital (c : Chan) (me : Ch) (d : Conn) (cls kind : Nat) (dest : Option Nat) (seq ts : Nat) (data : List Word) :
    Chan :=
  match c.vitalPorts d.peer with
  | [] => c
  | ports => c.sendFrame cls kind dest (vitalPayload (d.key.get me) seq ts d.src d.dst data) ports

/-- The DATA of an outbound cyclic connection: its declared safe values where no entry writes a word. -/
def connData (d : Conn) (k : Nat) (outs : List (OutEntry × Word)) : List Word :=
  outs.foldl (fun ws e => match e.1.src with
    | .remoteOut conn word _ => if conn == k then modAt ws word (fun _ => e.2) else ws
    | _ => ws) d.safe

/-- A task's remote output commands: one cyclic message for each of its outbound connections (R123 step 5, R129, R268). -/
def Chan.writeRemote (c : Chan) (me : Ch) (t : Nat) (words : List Word) (seq ts : Nat) : Chan :=
  match c.image with
  | none => c
  | some im =>
    let outs := (c.taskDef t).outs.zip words
    im.conns.zipIdx.foldl
      (fun c e =>
        if !e.1.inbound && !e.1.event && e.1.task == t then
          c.sendVital me e.1 0 0x10 (some e.1.peer) seq ts (connData e.1 e.2 outs)
        else c) c

/-! ### A task's output image -/

/-- Whether an entry of a task's image is a local output. -/
def OutEntry.isLocal (o : OutEntry) : Bool :=
  match o.src with
  | .localOut _ _ => true
  | _ => false

/-- The declared safe image of a task (R127, R130). -/
def Chan.safeWords (c : Chan) (t : Nat) : List Word := (c.taskDef t).outs.map (fun o => o.safe)

/-- An output image issued to the output command interface and the fabric (R123 step 5, R129): `cycle` numbers the message
and `us` times the command. -/
def Chan.issue (c : Chan) (me : Ch) (t : Nat) (words : List Word) (cycle ts us : Nat) : Chan :=
  let c := c.writeLocal t words (c.drives me) us
  if c.sendsVital me then c.writeRemote me t words cycle ts else c

/-- The held image issued again at a skipped release (R129) or at a takeover (R311). -/
def Chan.reissue (c : Chan) (me : Ch) (t cycle us : Nat) : Chan :=
  let k := c.task t
  if k.voted.isEmpty then c else c.issue me t k.voted cycle c.sync.cluster us

/-- The safe image written in place of a run (R130, R173): it is what other tasks read from now on. It is no voted image, so the
main cycle of the task's voted outputs stays (R216). -/
def Chan.writeSafe (c : Chan) (me : Ch) (t cycle us : Nat) : Chan :=
  let words := c.safeWords t
  let c := c.modTask t (fun k => { k with voted := words, votedCycle := cycle })
  c.issue me t words cycle c.sync.cluster us

/-- The safe value of every entry of every task (R49, R173). -/
def Chan.writeAllSafe (c : Chan) (me : Ch) : Chan :=
  let us := c.taskTime c.mainCycle c.din.offset
  (List.range 8).foldl (fun c t =>
    if (c.taskDef t).present then c.writeSafe me t (c.task t).cycle us else c) c

end Sys2Proof.Machine
end

