-- ==== Sys2Proof/Machine/Exclusion.lean ====
section
/-! DEFINITION. Leaving the vote: exclusion (R166), withdrawal (R167), safe shutdown (R173), shared by every family that
can put a channel out of the vote (spec/06_triplex_voting.md). -/

namespace Sys2Proof.Machine

open Sys2Proof

/-- Causes of an exclusion as REINT and the recorded event name them: the outcomes 0x2 to 0x4 of Table 06-3, then cases
2 and 3 of R166, the seal of R405 and a latched voter fault (numbering: DESIGN CHOICE, log 27). -/
def causeByPartners : Nat := 0x12
/-- R166 case 3. -/
def causeOneSided : Nat := 0x13
/-- R405, seal. -/
def causeSeal : Nat := 0x14

/-- The task whose run is in progress, the highest-priority first: the lowest index (R167). -/
def Chan.currentTask (c : Chan) : Nat :=
  ((List.range 8).find? (fun t => (c.task t).running)).getD 0

/-- Every run ended without step 5: the tasks no longer execute. -/
def TaskState.stopRun (t : TaskState) : TaskState := { t with running := false, sent := false, own := none }

/-- Vital frames queued for the lane are flushed (R166, R277). -/
def Chan.flushVital (c : Chan) : Chan := c.flushBoth (fun q => decide (q.cls < 2))

/-- What an excluded channel does at its own exclusion (R166): its switches open, its vital tasks stop, EXCL_ACK on both
links, no further transfer block on its partner link, an exclusion event with task, task cycle and cause; from then on it is
no longer in the vote, and it begins to wait for reintegration (R176). -/
def Chan.leave (c : Chan) (me : Ch) (task cycle cause : Nat) : Chan :=
  let c := c.openSwitches
  let c :=
    { c with
      tasks := c.tasks.map TaskState.stopRun
      vote :=
        { c.vote with
          inVote := putBit c.vote.inVote me.code false
          mode := if c.vote.mode == 1 then 2 else c.vote.mode
          exclCause := cause
          single := 0, naming := none }
      reint :=
        { c.reint with phase := 0, join := none, acks := Tri.const false, commanded := false, source := none, since := c.clock }
      part := { c.part with sending := none, feeding := false }
      xwait := [], pwait := [] }
  let c := c.flushVital
  let c := c.xsendBoth me (.exclAck me cycle)
  c.emitTask task .exclusion me.code [w32 task, w32 cycle, w32 cause]

/-- A channel latches MODE at SAFE (R173): the safe value of every entry written, switches open, vital tasks stopped, the
shutdown recorded. -/
def Chan.toSafe (c : Chan) (me : Ch) (cause : Nat) : Chan :=
  if c.vote.mode == 3 then c
  else
    let c := (c.writeAllSafe me).openSwitches
    let c := { c with vote := { c.vote with mode := 3 }, tasks := c.tasks.map TaskState.stopRun }
    c.emit .safeShutdown 0 [w32 cause]

/-- Channels in the vote by their own account that execute in P7 and have not shut down. -/
def State.votersCount (s : State) : Nat :=
  (Ch.all.filter (fun x => (s.ch x).running && (s.ch x).votes x && (s.ch x).vote.mode != 3)).length

/-- Whenever fewer than two channels remain in the vote in P7, MODE reads SAFE in every channel that runs (R173); `cause` is
what the shutdown records. -/
def State.settle (s : State) (cause : Nat) : State :=
  if decide (s.votersCount < 2) then
    let s := Ch.all.foldl (fun t x => if (t.ch x).running && !(t.ch x).split then t.mod x (fun c => c.toSafe x cause) else t) s
    Ch.all.foldl (fun t x => if (t.ch x).running then t.setAlive x false else t) s
  else s

/-- A channel is excluded: its own part, its alive line, and R173 for the module. -/
def State.exclude (s : State) (ch : Ch) (task cycle cause : Nat) : State :=
  if (s.ch ch).running && (s.ch ch).votes ch then
    let s := s.mod ch (fun c => c.leave ch task cycle cause)
    (s.setAlive ch false).settle cause
  else s

/-- VOTE.OUTCOME of a decision (Table 06-19). -/
def outcomeWord (task cycle outcome resNext resPrev : Nat) : Word :=
  w32 (resPrev + resNext * 2 ^ 4 + outcome * 2 ^ 8 + task * 2 ^ 12 + cycle % 65536 * 2 ^ 16)

/-- Withdrawal (R167): no vote set for the current run, a VERDICT with outcome 0x4, exclusion under case 1. -/
def State.withdraw (s : State) (ch : Ch) : State :=
  let c := s.ch ch
  if c.running && c.votes ch then
    let t := c.currentTask
    let cycle := (c.task t).runCycle
    let v : Verdict :=
      { task := t, ch := ch, taskCycle := cycle, outcome := 4, resNext := 0, resPrev := 0, ack := false, again := [] }
    let s := s.mod ch (fun c =>
      let c := { c with vote := { c.vote with withdrawn := true, outcome := outcomeWord t cycle 4 0 0 } }
      c.xsendBoth ch (.verdict v))
    s.exclude ch t cycle 4
  else s

/-- Safe shutdown by a channel in the vote (R173, R175): safe outputs, switches open, MODE SAFE, the Hedgehog commanded; a
pair that has lost one of its two is no vote, so MODE reads SAFE in every channel that runs. -/
def State.safeShutdown (s : State) (ch : Ch) (cause : Nat) : State :=
  let s := s.mod ch (fun c => c.toSafe ch cause)
  ((s.setAlive ch false).settle cause).trip .command

end Sys2Proof.Machine
end

