-- ==== Sys2Proof/Machine/Station.lean ====
section
/-! DEFINITION. The station model read out of the tile set (spec/03_station_model.md): element, route, overlap and list
records from canonical payload words (R58, R63 to R70), element types and their permissive codes (R56, R57), the state
records (R65, R71), the three forms (R73), tiles as stored (R59 to R61), the checks of a set (R79) and its digest
(R80). -/

namespace Sys2Proof.Machine

open Sys2Proof

/-! ### Elements and links -/

/-- The permissive STATE codes of an element type (Table 03-1). -/
def permissive (typ : Nat) : List Byte :=
  match typ with
  | 0x01 => [0x96, 0x69]
  | 0x02 => [0x96, 0x5A, 0xA5, 0x69]
  | 0x03 => [0x96, 0x69]
  | 0x08 | 0x09 | 0x0A => [0xC3]
  | 0x10 => [0xA5]
  | 0x18 | 0x19 | 0x1A => [0x3C]
  | 0x20 | 0x21 | 0x28 => [0x5A]
  | _ => []

/-- A STATE value as it reads (R57): a permissive code of its type, else the restrictive 0x00. -/
def readState (typ : Nat) (b : Byte) : Byte := if (permissive typ).contains b then b else 0

/-- Points, double slips and derailers. -/
def isPointType (typ : Nat) : Bool := typ == 1 || typ == 2 || typ == 3

/-- Main, shunt and indicator signals. -/
def isSignalType (typ : Nat) : Bool := typ == 8 || typ == 9 || typ == 0x0A

/-- Ends of an element type (Table 03-1). -/
def endsOf (typ : Nat) : Nat :=
  match typ with
  | 0x01 => 3
  | 0x02 => 4
  | 0x03 | 0x10 => 2
  | _ => 0

/-- The element a link word names, if valid (R58). -/
def linkElem (w : Word) : Option Nat := if w.getLsbD 31 then some (bits w.toNat 17 0) else none

/-- The end a link word names. -/
def linkEnd (w : Word) : Nat := bits w.toNat 29 28

/-- The node of an 18-bit ID. -/
def idNode (id : Nat) : Nat := bits id 17 12

/-- The local index of an 18-bit ID. -/
def idLocal (id : Nat) : Nat := id % 4096

/-! ### Records from tiles -/

/-- Canonical payload word `k` of tile `i`. -/
def Image.word (im : Image) (i k : Nat) : Word :=
  match im.tiles[i]? with
  | some t => wordAt t.payload k
  | none => 0

/-- Word `k` of the SET directory (Table 03-5). -/
def Image.setWord (im : Image) (k : Nat) : Nat := (im.word 1 k).toNat

/-- First index and number of tiles of a kind. -/
def Image.run (im : Image) (kind : Nat) : Nat × Nat :=
  let w := im.setWord (8 + kind)
  (bits w 25 16, bits w 9 0)

/-- Highest element local index in use, plus 1. -/
def Image.elemSpan (im : Image) : Nat := bits (im.setWord 2) 12 0

/-- N: highest route local index in use, plus 1. -/
def Image.routeCount (im : Image) : Nat := bits (im.setWord 3) 11 0

/-- Overlap records. -/
def Image.ovlCount (im : Image) : Nat := bits (im.setWord 4) 12 0

/-- Tiles in the set. -/
def Image.tileCount (im : Image) : Nat := bits (im.setWord 5) 9 0

/-- Conflict row words W. -/
def Image.rowWords (im : Image) : Nat := bits (im.setWord 6) 6 0

/-- Rows per CONF tile. -/
def Image.rowsPerTile (im : Image) : Nat := bits (im.setWord 6) 25 16

/-- An element record (Table 03-6). -/
structure Elem where
  id : Nat
  typ : Nat
  sub : Nat
  links : List Word
  srcKind : Nat
  src : Nat
  param : Word
  attach : Word
  deriving DecidableEq, Repr, Inhabited

/-- Word `w` of element record `i` (R64). -/
def Image.elemWord (im : Image) (i w : Nat) : Word := im.word ((im.run 2).1 + i / 127) (8 * (i % 127) + w)

/-- Element record `i`. -/
def Image.elem (im : Image) (i : Nat) : Elem :=
  let w0 := (im.elemWord i 0).toNat
  let w5 := (im.elemWord i 5).toNat
  { id := bits w0 17 0, typ := bits w0 23 18, sub := bits w0 27 24,
    links := [im.elemWord i 1, im.elemWord i 2, im.elemWord i 3, im.elemWord i 4],
    srcKind := bits w5 31 30, src := bits w5 17 0, param := im.elemWord i 6, attach := im.elemWord i 7 }

/-- A list entry (Table 03-9). -/
structure LEntry where
  elem : Nat
  req : Nat
  role : Nat
  group : Nat
  deriving DecidableEq, Repr, Inhabited

/-- A list entry word read. -/
def lentry (w : Word) : LEntry :=
  let n := w.toNat
  { elem := bits n 17 0, req := bits n 23 18, role := bits n 27 24, group := bits n 31 28 }

/-- The entry words of a list reference (R68). -/
def Image.listWords (im : Image) (ref : Word) : List Word :=
  if ref.getLsbD 31 then
    let n := ref.toNat
    (List.range (bits n 10 0)).map (fun k => im.word (bits n 30 21) (bits n 20 11 + k))
  else []

/-- The entries of a list reference. -/
def Image.listOf (im : Image) (ref : Word) : List LEntry := (im.listWords ref).map lentry

/-- A route record (Table 03-8). -/
structure RouteDef where
  id : Nat
  cls : Nat
  entry : Word
  exit : Word
  path : Word
  flank : Word
  approach : Word
  ovlFirst : Nat
  ovlCount : Nat
  appTime : Nat
  edge : Word
  aspect : Nat
  deriving DecidableEq, Repr, Inhabited

/-- Word `w` of route record `r` (R67). -/
def Image.routeWord (im : Image) (r w : Nat) : Word := im.word ((im.run 3).1 + r / 63) (16 * (r % 63) + w)

/-- Route record `r`. -/
def Image.route (im : Image) (r : Nat) : RouteDef :=
  let w0 := (im.routeWord r 0).toNat
  let w6 := (im.routeWord r 6).toNat
  { id := bits w0 17 0, cls := bits w0 21 18, entry := im.routeWord r 1, exit := im.routeWord r 2,
    path := im.routeWord r 3, flank := im.routeWord r 4, approach := im.routeWord r 5,
    ovlFirst := bits w6 11 0, ovlCount := bits w6 14 12, appTime := bits (im.routeWord r 7).toNat 9 0,
    edge := im.routeWord r 8, aspect := bits (im.routeWord r 9).toNat 7 0 }

/-- A route local index in use: ENTRY with V = 1 (R67). -/
def Image.routeUsed (im : Image) (r : Nat) : Bool :=
  decide (r < im.routeCount) && (im.routeWord r 1).getLsbD 31

/-- An overlap record (R69). -/
structure OvlDef where
  route : Nat
  rank : Nat
  path : Word
  time : Nat
  exit : Word
  deriving DecidableEq, Repr, Inhabited

/-- Overlap record `j`. -/
def Image.ovl (im : Image) (j : Nat) : OvlDef :=
  let w := fun k => im.word ((im.run 4).1 + j / 255) (4 * (j % 255) + k)
  { route := bits (w 0).toNat 17 0, rank := bits (w 0).toNat 21 18, path := w 1, time := bits (w 2).toNat 8 0,
    exit := w 3 }

/-- Routes `r` and `q` conflict (R70). -/
def Image.conflict (im : Image) (r q : Nat) : Bool :=
  let rpt := im.rowsPerTile
  if rpt == 0 then false
  else (im.word ((im.run 5).1 + r / rpt) (im.rowWords * (r % rpt) + q / 32)).getLsbD (q % 32)

/-! ### Door elements of the set (Table 08-1) -/

/-- The elements of a type, in ascending ID. -/
def Image.ofType (im : Image) (typ : Nat) : List Elem :=
  ((List.range im.elemSpan).map im.elem).filter (fun e => e.typ == typ)

/-- Door gates (Table 08-1). -/
def Image.gates (im : Image) : List GateDef :=
  (im.ofType 0x19).map (fun e =>
    let s := (im.gateSrcs.find? (fun s => s.elem == e.id)).getD default
    let p := e.param.toNat
    { elem := e.id, edge := bits e.attach.toNat 17 0, gateNo := bits p 15 10, slot := bits p 9 0, serviceK := bits p 31 20
      lk1 := s.lk1, lk2 := s.lk2 })

/-- The entry signals of every route whose EDGE word names an edge (R216). -/
def Image.edgeSignals (im : Image) (edge : Nat) : List Nat :=
  ((List.range im.routeCount).filterMap (fun r =>
    if im.routeUsed r && linkElem (im.route r).edge == some edge then linkElem (im.route r).entry else none)).eraseDups

/-- Platform edges (Table 08-1). -/
def Image.edges (im : Image) : List EdgeDef :=
  (im.ofType 0x1A).map (fun e =>
    let s := (im.edgeSrcs.find? (fun s => s.elem == e.id)).getD default
    let p := e.param.toNat
    { elem := e.id, sideRight := e.param.getLsbD 31, gateCount := bits p 25 20, berth := bits p 17 0
      pfSection := bits e.attach.toNat 17 0, releaseReq := s.releaseReq, closeReq := s.closeReq
      trainClosed := s.trainClosed, signals := im.edgeSignals e.id })

/-- The source that the door configuration gives an element. -/
def sourceOf (ss : List OneSrc) (elem : Nat) : DoorSrc := ((ss.find? (fun s => s.elem == elem)).map (fun s => s.src)).getD default

/-- Berths (Table 08-1). -/
def Image.berths (im : Image) : List BerthDef :=
  (im.ofType 0x18).map (fun e =>
    { elem := e.id, pfSection := bits e.param.toNat 17 0, stopWin := sourceOf im.berthSrcs e.id })

/-- Emergency stop plungers (Table 08-1). -/
def Image.plungers (im : Image) : List PlungerDef :=
  (im.ofType 0x20).map (fun e => { elem := e.id, edge := bits e.param.toNat 17 0, src := sourceOf im.plungerSrcs e.id })

/-! ### Types of the function block library (R132, Table 05-3) -/

/-- The family of a named block. -/
def BlockKind.family : BlockKind → Nat
  | .logicAnd | .logicOr | .logicNot => 1
  | .risingEdge | .fallingEdge | .setLatch | .resetLatch => 2
  | .onDelay | .offDelay | .pulse | .minOn | .flasher => 3
  | .library => 0

/-- The block a TYPE and VERSION is: a named member of its family, or one of the library's others. -/
def blockKind (typ version : Nat) : BlockKind :=
  let k := Config.memberKind (typ % 256) version
  if k.family == typ / 256 then k else .library

/-- The bits of each declared word of a TYPE and VERSION whose bytes carry fields (R132, R135): a BOOL or a flag has one byte,
a time the whole word. The layouts of the named blocks are the model's (log 22). -/
def typeMask (typ version : Nat) : List Word :=
  match blockKind typ version with
  | .logicAnd | .logicOr | .logicNot | .setLatch | .resetLatch => [0xFF]
  | .risingEdge | .fallingEdge => [0xFF, 0xFF]
  | .onDelay | .offDelay | .minOn | .flasher => [0xFF, 0xFFFFFFFF, 0xFF]
  | .pulse => [0xFF, 0xFFFFFFFF, 0xFF, 0xFF]
  | .library => (List.range (Config.blockDecl typ version)).map (Config.blockMask typ version)

/-- Declared words of an instance (DECL). -/
def InstDef.decl (d : InstDef) : Nat := (typeMask d.typ d.version).length

/-- The block an instance is of. -/
def InstDef.kind (d : InstDef) : BlockKind := blockKind d.typ d.version

/-! ### State records -/

/-- ESTATE word 0 (Table 03-7). -/
def ERec.word0 (e : ERec) : Word :=
  w32 (e.state.toNat + e.detail.toNat * 2 ^ 8 + e.locks.toNat * 2 ^ 16 + e.fault.toNat * 2 ^ 24)

/-- ESTATE word 1. -/
def ERec.word1 (e : ERec) : Word := w32 (e.owner % 2 ^ 18 + e.okind % 4 * 2 ^ 18 + e.flank % 256 * 2 ^ 20)

/-- The four words of an RSTATE record (R71). -/
def RRec.words (r : RRec) : List Word :=
  [w32 r.state.toNat, w32 (r.timer % 65536 + r.tkind % 16 * 2 ^ 16), w32 r.ovl, w32 r.groups.toNat]

/-- The route life-cycle codes (R71). -/
def routeCodes : List Byte := [0x00, 0x11, 0x22, 0x33, 0x44, 0x55, 0x66, 0x77, 0x88, 0x99]

/-- An element at STATE 0x00 without owner (R80). -/
def ERec.clear : ERec := { state := 0, detail := 0, locks := 0, fault := 0, owner := 0, okind := 0, flank := 0 }

/-- A RELEASED route (R80). -/
def RRec.released : RRec := { state := 0, timer := 0, tkind := 0, ovl := 0x1FFF, groups := 0 }

/-! ### Tiles as stored -/

/-- The kind the SET directory gives a tile index (R62). -/
def Image.kindAt (im : Image) (i : Nat) : Option Nat :=
  (List.range 32).find? (fun k => decide ((im.run k).1 ≤ i) && decide (i < (im.run k).1 + (im.run k).2))

/-- The key of a tile (R73). -/
def Image.tileKey (im : Image) (i : Nat) : Word := if i == 0 then 0x5A3C96E1 else im.word 0 i

/-- A canonical word in a channel's form (R73). -/
def encodeForm (ch : Ch) (key : Word) (i : Nat) (v : Word) : Word :=
  match ch with
  | .a => v
  | .b => ~~~v
  | .c => (v ^^^ key).rotateLeft (i % 32)

/-- A stored word back in canonical form (R73). -/
def decodeForm (ch : Ch) (key : Word) (i : Nat) (s : Word) : Word :=
  match ch with
  | .a => s
  | .b => ~~~s
  | .c => s.rotateRight (i % 32) ^^^ key

/-- Payload words padded to the tile's 1,022 (R59). -/
def padPayload (p : List Word) : List Word := (p ++ List.replicate (1022 - p.length) 0).take 1022

/-- A tile header word (Table 03-3). -/
def tileHeader (kind form gen index count : Nat) : Word :=
  w32 (kind % 32 * 2 ^ 27 + form % 4 * 2 ^ 25 + gen % 8 * 2 ^ 22 + index % 1024 * 2 ^ 12 + count % 4096)

/-- The CRC of a tile over its first 1,023 words as stored (R61). -/
def tileCrc (ws : List Word) : Word := crc32c (wordsBytes (ws.take 1023))

/-- A tile's 1,024 stored words: payload in the channel's form, header, CRC. -/
def storedTile (ch : Ch) (key : Word) (kind gen index count : Nat) (payload : List Word) : List Word :=
  let ws := (padPayload payload).map (encodeForm ch key index) ++ [tileHeader kind ch.code gen index count]
  ws ++ [tileCrc ws]

/-- The first check of R81 that stored words fail, by its cause code of Table 03-15; 0 when all pass. -/
def tileCause (ws : List Word) (ch : Ch) (kind gen index : Nat) : Nat :=
  let h := (wordAt ws 1022).toNat
  if wordAt ws 1023 != tileCrc ws then 1
  else if bits h 31 27 != kind then 2
  else if bits h 26 25 != ch.code then 3
  else if bits h 21 12 != index then 4
  else if bits h 24 22 != gen then 5
  else 0

/-! ### The checks of a set (R79) and its digest (R80) -/

/-- The key rules of R74. -/
def Image.keysOk (im : Image) : Bool :=
  let n := im.tileCount
  let ks := (List.range (n - 1)).map (fun i => im.word 0 (i + 1))
  im.word 0 0 == 0 && ks.all (fun k => k != 0 && k != 0xFFFFFFFF) && decide ks.Nodup &&
    (List.range (1022 - n)).all (fun i => im.word 0 (n + i) == 0)

/-- An element record is well placed: its own node and index, or unused and all zero; links of own elements symmetric
(R55, R58, R64). -/
def Image.elemOk (im : Image) (i : Nat) : Bool :=
  let e := im.elem i
  if e.typ == 0 then (List.range 8).all (fun w => im.elemWord i w == 0)
  else
    e.id == im.node * 4096 + i &&
      (List.range 4).all (fun k =>
        match linkElem (e.links.getD k 0) with
        | none => true
        | some y =>
          if idNode y == im.node then
            let back := (im.elem (idLocal y)).links.getD (linkEnd (e.links.getD k 0)) 0
            linkElem back == some e.id && linkEnd back == k
          else true)

/-- A list reference lies within one LIST tile (R68). -/
def Image.refOk (im : Image) (ref : Word) : Bool :=
  if ref.getLsbD 31 then
    let n := ref.toNat
    let t := bits n 30 21
    decide ((im.run 6).1 ≤ t) && decide (t < (im.run 6).1 + (im.run 6).2) &&
      decide (bits n 20 11 + bits n 10 0 ≤ 1022)
  else true

/-- A route record is well placed (R55, R67). -/
def Image.routeOk (im : Image) (r : Nat) : Bool :=
  if im.routeUsed r then
    (im.route r).id == im.node * 4096 + r && im.refOk (im.route r).path && im.refOk (im.route r).flank &&
      im.refOk (im.route r).approach
  else (List.range 16).all (fun w => im.routeWord r w == 0)

/-- The conflict row of a route is symmetric with zero diagonal (R70). -/
def Image.rowOk (im : Image) (r : Nat) : Bool :=
  !im.conflict r r && (List.range im.routeCount).all (fun q => im.conflict r q == im.conflict q r)

/-- Element local indices of a variant (R1, R55). -/
def maxElems (v : Variant) : Nat :=
  match v with
  | .hx4096 => 4096
  | .hx1024 => 1024

/-- Route local indices of a variant (R1, R55). -/
def maxRoutes (v : Variant) : Nat :=
  match v with
  | .hx4096 => 2048
  | .hx1024 => 512

/-- The tile kinds in the order of Table 03-4. -/
def tileKinds : List Nat := [0x00, 0x01, 0x02, 0x03, 0x04, 0x05, 0x06, 0x10, 0x11, 0x12, 0x18]

/-- The runs of a directory stand one after another in the order of Table 03-4 from tile `next` on, an absent kind being 0;
the index after the last of them. -/
def runsEnd (run : Nat → Nat × Nat) (next : Nat) : List Nat → Option Nat
  | [] => some next
  | k :: ks =>
    let (first, n) := run k
    if n == 0 then (if first == 0 then runsEnd run next ks else none)
    else if first == next then runsEnd run (next + n) ks
    else none

/-- The directory's runs are those of R62: KEYS at 0, SET at 1, one tile each, all in order, no other kind, at most 1,022
tiles, and every kind but PROG wholly below index 448. -/
def Image.runsOk (im : Image) : Bool :=
  (im.run 0).2 == 1 && (im.run 1).2 == 1 && runsEnd im.run 0 tileKinds == some im.tileCount &&
    ((List.range 32).filter (fun k => !tileKinds.contains k)).all (fun k => im.run k == (0, 0)) &&
    decide (im.tileCount ≤ 1022) && decide (im.tileCount - (im.run 0x18).2 ≤ 448)

/-- The set keeps the limits of its variant (R1, R2, R55, R69) and those of the door elements (R210). -/
def Image.limitsOk (im : Image) (v : Variant) : Bool :=
  let gates := im.gates
  decide (im.elemSpan ≤ maxElems v) && decide (im.routeCount ≤ maxRoutes v) && decide (im.ovlCount ≤ 4096) &&
    decide (im.berths.length ≤ 64) && decide (im.edges.length ≤ 64) && decide (gates.length ≤ 1024) &&
    im.edges.all (fun e => decide ((gates.filter (fun g => g.edge == e.elem)).length ≤ 48))

/-- The tile that fails a check of R79, if any; `bad` is what the CRC and header checks of the stored tiles found. A set whose
runs break R62, or that exceeds the limits of its variant, fails in its SET tile (DESIGN CHOICE, log 69). -/
def Image.setFault (im : Image) (v : Variant) (bad : Option Nat) : Option Nat :=
  match bad with
  | some i => some i
  | none =>
    if !im.runsOk || !im.limitsOk v then some 1
    else
      match (List.range im.tileCount).find? (fun i => im.kindAt i != some (im.tiles.getD i default).kind) with
      | some i => some i
      | none =>
        if !im.keysOk then some 0
        else
          match (List.range im.elemSpan).find? (fun i => !im.elemOk i) with
          | some i => some ((im.run 2).1 + i / 127)
          | none =>
            match (List.range im.routeCount).find? (fun r => !im.routeOk r) with
            | some r => some ((im.run 3).1 + r / 63)
            | none =>
              match (List.range im.ovlCount).find? (fun j => !im.refOk (im.ovl j).path) with
              | some j => some ((im.run 4).1 + j / 255)
              | none =>
                ((List.range im.routeCount).find? (fun r => !im.rowOk r)).map
                  (fun r => (im.run 5).1 + r / max 1 im.rowsPerTile)

/-- A kind held as constant data in the set digest: not ESTATE, RSTATE or RIN (R80). -/
def digestKind (k : Nat) : Bool := k != 0x10 && k != 0x11 && k != 0x12

/-- The set digest (R80). -/
def Image.setDigest (im : Image) : BitVec 64 :=
  im.tiles.foldl (fun d t => if digestKind t.kind then (wordsBytes (padPayload t.payload)).foldl crc64Byte d else d) 0

end Sys2Proof.Machine
end

