-- ==== Sys2Proof/Machine/Inputs.lean ====
section
/-! DEFINITION. Input circuits and the consolidation of three readings (spec/07_vital_io.md R182 to R188), and the commands
about one circuit: debounce, circuit test, discrepancy, sampler stall (R22). -/

namespace Sys2Proof.Machine

open Sys2Proof

/-! ### One value from the counted sets (Table 07-2) -/

/-- The value taken from the counted readings, and whether two of them disagreed without a majority. -/
def takeValue (rs : List Bool) (safe : Bool) : Bool × Bool :=
  match rs with
  | [a, b, c] => (if a == b then a else c, false)
  | [a, b] => if a == b then (a, false) else (safe, true)
  | _ => (safe, false)

/-- The reading of input `n` in a set: DI00 to DI63, then FB00 to FB31. -/
def inputBit (t : InputSet) (n : Nat) : Bool := if n < 64 then t.di.getLsbD n else t.fb.getLsbD (n - 64)

/-- The INV bit of input `n` in a set. -/
def inputInv (t : InputSet) (n : Nat) : Bool := if n < 64 then t.invDi.getLsbD n else t.invFb.getLsbD (n - 64)

/-- The set is of the open release instant (R186). -/
def Chan.setOfInstant (c : Chan) (t : InputSet) : Bool := t.mainCycle == c.din.mainCycle && t.offset == c.din.offset

/-- The sets that count: of the channels in the vote, arrived, of the instant, STALL at 0 (R186). -/
def Chan.countedSets (c : Chan) : List InputSet :=
  (c.voters.filterMap (fun x => c.din.sets.get x)).filter (fun t => c.setOfInstant t && !t.stall)

/-- The readings of an input that count: not marked by INV, nor by a faulty circuit (R186, R188). -/
def Chan.readings (c : Chan) (n : Nat) : List Bool :=
  (c.countedSets.filter (fun t => !inputInv t n && !(c.din.faulty.get t.ch).getLsbD n)).map (fun t => inputBit t n)

/-- The declared safe value of an input (R127). -/
def Chan.inputSafe (c : Chan) (n : Nat) : Bool :=
  match c.image with
  | some i => i.diSafe.getLsbD n
  | none => false

/-- A vector built bit by bit. -/
def buildBits (n : Nat) (f : Nat → Bool) : BitVec n :=
  (List.range n).foldl (fun v k => putBit v k (f k)) 0#n

/-- The consolidated inputs. -/
def Chan.consInputs (c : Chan) : BitVec 96 := buildBits 96 (fun n => (takeValue (c.readings n) (c.inputSafe n)).1)

/-- Inputs whose two counted readings disagree without a majority (R188). -/
def Chan.consSplit (c : Chan) : BitVec 96 := buildBits 96 (fun n => (takeValue (c.readings n) false).2)

/-- A word bit consolidated under Table 07-2 with its safe value. -/
def Chan.consWord (c : Chan) (f : InputSet → Word) (safe : Bool) : Word :=
  buildBits 32 (fun k => (takeValue (c.countedSets.map (fun t => (f t).getLsbD k)) safe).1)

/-- A group bit consolidated under Table 07-2 with safe value 1. -/
def Chan.consGroup (c : Chan) (f : InputSet → BitVec 4) : BitVec 4 :=
  buildBits 4 (fun k => (takeValue (c.countedSets.map (fun t => (f t).getLsbD k)) true).1)

/-- LSF: one channel's finding suffices; with fewer than two counted sets the safe value 1 (R186, log 29). -/
def Chan.consLsf (c : Chan) : BitVec 4 :=
  buildBits 4 (fun k => decide (c.countedSets.length < 2) || c.countedSets.any (fun t => t.lsf.getLsbD k))

/-- Readings of a channel's set that differ from the consolidated values. A reading that is marked by INV, of a stalled set or
missing counts as none: R188 does not say (DESIGN CHOICE, log 72). -/
def discrepancies (cons : BitVec 96) (t : Option InputSet) : BitVec 96 :=
  match t with
  | none => 0
  | some t => if t.stall then 0 else buildBits 96 (fun n => !inputInv t n && inputBit t n != cons.getLsbD n)

/-- Readings of a channel's set that agree with the consolidated values; one that is marked, stalled or missing does not (log 72). -/
def agreements (cons : BitVec 96) (t : Option InputSet) : BitVec 96 :=
  match t with
  | none => 0
  | some t => if t.stall then 0 else buildBits 96 (fun n => !inputInv t n && inputBit t n == cons.getLsbD n)

/-- Circuits that any channel's counted set reports invalid, or that are marked faulty (Table 07-8). -/
def Chan.consInvalid (c : Chan) : BitVec 96 :=
  buildBits 96 (fun n =>
    c.countedSets.any (fun t => inputInv t n) || Ch.all.any (fun x => (c.din.faulty.get x).getLsbD n))

/-- Since when each bit of a vector has stood at every instant, in µs of task time. -/
def sinceTable (old : List (Nat × Nat)) (split : BitVec 96) (now : Nat) : List (Nat × Nat) :=
  (List.range 96).filterMap (fun n => if split.getLsbD n then some (n, (old.lookup n).getD now) else none)

/-- The three channels' sets of the open instant. -/
def Chan.instantSets (c : Chan) : Tri (Option InputSet) :=
  { a := c.din.sets.a.filter c.setOfInstant, b := c.din.sets.b.filter c.setOfInstant, c := c.din.sets.c.filter c.setOfInstant }

/-- Three values made from three. -/
def triZip {α β γ : Type} (f : α → β → γ) (x : Tri α) (y : Tri β) : Tri γ := { a := f x.a y.a, b := f x.b y.b, c := f x.c y.c }

/-- The marks that each channel's readings leave at an instant (R188): which differ, since when, and since when those of faulty
circuits have agreed. -/
def Din.judgeReadings (d : Din) (cons : BitVec 96) (sets : Tri (Option InputSet)) (now : Nat) : Din :=
  let off : Tri (BitVec 96) := triZip (fun t _ => discrepancies cons t) sets d.faulty
  let same : Tri (BitVec 96) := triZip (fun t f => agreements cons t &&& f) sets d.faulty
  { d with
    discrepant := off
    differs := triZip (fun old v => sinceTable old v now) d.differs off
    agrees := triZip (fun old v => sinceTable old v now) d.agrees same }

/-- The declared safe value of every input (R127). -/
def Chan.safeInputs (c : Chan) : BitVec 96 := buildBits 96 c.inputSafe

/-- The local part of the input image built from the sets held (R186, R188); while a sampler stall stands, every local input
value is its safe value (R22). -/
def Chan.consolidate (c : Chan) : Chan :=
  let cons := if c.din.stall then c.safeInputs else c.consInputs
  let split := c.consSplit
  let now := c.taskTime c.din.mainCycle c.din.offset
  let since := sinceTable c.din.since split now
  let limit := c.act 0x0D09 * 10000
  { c with
    din :=
      { c.din.judgeReadings cons c.instantSets now with
        cons := cons
        anyInvalid := c.consInvalid
        unresolved := split
        since := since
        disagree := buildBits 96 (fun n =>
          match since.lookup n with
          | some t => decide (limit < now - t)
          | none => false)
        rb := c.consWord (fun t => t.rb) true
        warn := c.consGroup (fun t => t.warn)
        low := c.consGroup (fun t => t.low)
        lsf := c.consLsf
        dip := c.consWord (fun t => t.dip) false
        sweep := c.consWord (fun t => t.sweep) false } }

/-! ### Commands about one circuit -/

/-- INPUT_DEBOUNCE (R183, R189): the debounced value of an input, or the filtered readback of an output, changes. -/
def execInputDebounce (ch : Ch) (t : Terminal) (level : Bool) (s : State) : Host.Outcome State Fault Refusal :=
  .next (s.onLive ch (fun c =>
    match t with
    | .input n => if n < 96 then { c with din := { c.din with raw := putBit c.din.raw n level } } else c
    | .readback n => if n < 32 then { c with dout := { c.dout with readback := putBit c.dout.readback n level } } else c))

/-- The outcome of a circuit test (R184): a failure marks the circuit invalid; eight passes in a row clear the mark. -/
def Chan.circuitTest (c : Chan) (n : Nat) (pass : Bool) : Chan :=
  if pass then
    if c.din.invalid.getLsbD n then
      let k := (c.din.passes.lookup n).getD 0 + 1
      if 8 ≤ k then
        let c := { c with din := { c.din with invalid := putBit c.din.invalid n false, passes := tabDel c.din.passes n } }
        c.emit .circuitClear n []
      else { c with din := { c.din with passes := tabPut c.din.passes n k } }
    else c
  else
    let c := { c with din := { c.din with invalid := putBit c.din.invalid n true, passes := tabDel c.din.passes n } }
    c.emit .circuitFail n []

/-- INPUT_CIRCUIT_TEST (R184): only a circuit that reads ON is tested. -/
def execInputCircuitTest (ch : Ch) (n : Nat) (pass : Bool) (s : State) : Host.Outcome State Fault Refusal :=
  .next (s.onLive ch (fun c => if n < 96 && c.din.raw.getLsbD n then c.circuitTest n pass else c))

/-- The time of the last release instant in µs of task time. -/
def Chan.lastInstant (c : Chan) : Nat := c.taskTime c.din.mainCycle c.din.offset

/-- A channel's reading of an input has differed at every instant over more than DIN.DISC_TIME (R188). -/
def Chan.differsLong (c : Chan) (who : Ch) (n : Nat) : Bool :=
  match (c.din.differs.get who).lookup n with
  | some t => decide (c.act 0x0D09 * 10000 < c.lastInstant - t)
  | none => false

/-- The reading of a faulty circuit has agreed at every instant for 60 s (R188). -/
def Chan.agreesLong (c : Chan) (who : Ch) (n : Nat) : Bool :=
  match (c.din.agrees.get who).lookup n with
  | some t => decide (60000000 ≤ c.lastInstant - t)
  | none => false

/-- A circuit's faulty mark set or cleared. -/
def Chan.setFaulty (c : Chan) (who : Ch) (n : Nat) (b : Bool) : Chan :=
  { c with din := { c.din with faulty := c.din.faulty.set who (putBit (c.din.faulty.get who) n b) } }

/-- DISCREPANCY_TIMEOUT (R188): the channel's reading of the input has differed at every instant over more than
DIN.DISC_TIME; every channel in the vote marks its circuit faulty. -/
def execDiscrepancyTimeout (ch who : Ch) (n : Nat) (s : State) : Host.Outcome State Fault Refusal :=
  .next (s.onLive ch (fun c => if decide (n < 96) && c.votes ch && c.differsLong who n then c.setFaulty who n true else c))

/-- DISCREPANCY_CLEAR (R188): the reading has agreed at every instant for 60 s; the mark clears. -/
def execDiscrepancyClear (ch who : Ch) (n : Nat) (s : State) : Host.Outcome State Fault Refusal :=
  .next (s.onLive ch (fun c => if decide (n < 96) && c.agreesLong who n then c.setFaulty who n false else c))

/-- SAMPLER_STALL (R22, R167): no snapshot for 100 µs; the channel records a sampler fault, reads its local inputs as
safe from its next images on, and withdraws. -/
def execSamplerStall (ch : Ch) (s : State) : Host.Outcome State Fault Refusal :=
  let c := s.ch ch
  if c.live && !c.din.stall && decide (6 ≤ c.boot.phase) then
    let s := s.mod ch (fun c =>
      let c := { c with din := { c.din with stall := true, stallCnt := inc 16 c.din.stallCnt } }
      c.emit .samplerStall 0 [])
    .next (s.withdraw ch)
  else .next s

end Sys2Proof.Machine
end

