-- ==== Sys2Proof/Machine/Links.lean ====
section
/-! DEFINITION. Reading transfers out of the alignment queues (spec/06_triplex_voting.md R160 to R162), the vote sets kept
for their instant or run, and the cycle-start markers (spec/01_architecture.md R23). -/

namespace Sys2Proof.Machine

open Sys2Proof

/-! ### Transfers read from a partner's queue -/

/-- Every task, as a corrupt transfer stands for whichever set of its sender then stays out. -/
def allTasks : List Nat := List.range 8

/-- A transfer read out of a partner's queue: refused and counted as corrupt where its CRC, KIND or LEN fails or SEQ shows a
gap, else taken. SEQ counts from P4 on; in SPLIT mode the links carry nothing (R159, R160, R180). One that finds the queue full
is discarded as it arrives, and its sender dissents (R21, R165); the gap in SEQ stays. A transfer whose CRC fails moves the
expected SEQ on by one, for its header is not trusted (log 67). -/
def Chan.receive (c : Chan) (frm : Ch) (l : Link) (m : XMsg) : Chan × Bool :=
  let v := c.vote
  if c.split || decide (c.boot.phase < 4) then (c, false)
  else if l.full then ({ c with vote := { v with full := v.full.set frm allTasks } }, false)
  else
    let crcOk := l.crcOk m.payload
    let next := (if crcOk then l.seq + 1 else v.rxSeq.get frm + 1) % 16384
    let good := l.intact m.kind m.payload && l.seq == v.rxSeq.get frm
    let v := { v with rxSeq := v.rxSeq.set frm next }
    if good then ({ c with vote := v }, true)
    else
      ({ c with
         vote :=
           { v with
             corruptCnt := v.corruptCnt.set frm (inc 16 (v.corruptCnt.get frm)), corrupt := v.corrupt.set frm allTasks } },
       false)

/-- A transfer from a partner taken by a channel that executes, and acted on if it was not refused. -/
def State.taken (s : State) (ch frm : Ch) (l : Link) (m : XMsg) (f : Chan → Chan) : State :=
  if ch == frm then s
  else
    s.onLive ch (fun c =>
      let (c, ok) := c.receive frm l m
      if ok then f c else c)

/-! ### Vote sets (R162, R186, R187) -/

/-- A run is earlier than the channel's current run of the task. -/
def Chan.runEarlier (c : Chan) (t : TaskSet) : Bool := decide (t.taskCycle < (c.task t.task).runCycle)

/-- A task vote set: kept for its run, or discarded and counted as late or stale (R162). -/
def Chan.takeTaskSet (c : Chan) (frm : Ch) (t : TaskSet) : Chan :=
  let v := c.vote
  if v.decided.contains (t.task, t.taskCycle) then
    { c with vote := { v with lateCnt := v.lateCnt.set frm (inc 8 (v.lateCnt.get frm)) } }
  else if c.runEarlier t then
    { c with
      vote :=
        { v with staleCnt := v.staleCnt.set frm (inc 8 (v.staleCnt.get frm)), stale := v.stale.set frm (t.task :: v.stale.get frm) } }
  else
    let rest := (v.kept.get frm).filter (fun k => !(k.task == t.task && k.taskCycle == t.taskCycle))
    { c with vote := { v with kept := v.kept.set frm (rest ++ [t]) } }

/-- The release instant (main cycle, offset) of a set has passed: it is earlier than the last one, or that one and its
agreement is no longer open. -/
def Chan.instantPassed (c : Chan) (main offset : Nat) : Bool :=
  decide (main < c.din.mainCycle) || (main == c.din.mainCycle && decide (offset < c.din.offset)) ||
    (main == c.din.mainCycle && offset == c.din.offset && !c.din.openInstant && c.released)

/-- A set of a release instant: kept, or late (R187). -/
def Chan.takeInstantSet (c : Chan) (frm : Ch) (main offset : Nat) (keep : Din → Din) : Chan :=
  if c.instantPassed main offset then
    { c with vote := { c.vote with lateCnt := c.vote.lateCnt.set frm (inc 8 (c.vote.lateCnt.get frm)) } }
  else { c with din := keep c.din }

/-- A vote set of any KIND, by task and task cycle, by release instant, by heartbeat instant, or at P6. Its sender is the
channel of the link it came on: CH is not compared (R159). -/
def Chan.takeSet (c : Chan) (frm : Ch) (s : VoteSet) : Chan :=
  match s with
  | .task t => if t.task < 8 then c.takeTaskSet frm t else c
  | .input t => c.takeInstantSet frm t.mainCycle t.offset (fun d => { d with sets := d.sets.set frm (some t) })
  | .remote t => c.takeInstantSet frm t.mainCycle t.offset (fun d => { d with remoteSets := d.remoteSets.set frm (some t) })
  | .command t => c.takeInstantSet frm t.mainCycle t.offset (fun d => { d with cmdSets := d.cmdSets.set frm (some t) })
  | .partner t => { c with din := { c.din with partSets := c.din.partSets.set frm (some t) } }
  | .agreement t =>
    if c.boot.phase == 6 then { c with boot := { c.boot with agree := c.boot.agree.set frm (some t) } } else c

/-! ### Markers and skew (R23) -/

/-- The offsets of the channels in the vote as this channel knows them, its own 0 among them, with their channels. -/
def Chan.voteOffsets (c : Chan) : List (Ch × Int) := c.voters.filterMap (fun x => (c.vote.offsets.get x).map (fun o => (x, o)))

/-- The median of three, the mean of two; none of fewer. The mean is rounded down to a whole unit of 25 ns: R23 names no
rounding (DESIGN CHOICE, log 66). -/
def medianOf : List Int → Option Int
  | [a, b, d] => some (max (min a b) (min (max a b) d))
  | [a, b] => some ((a + b) / 2)
  | _ => none

/-- The median offset over the channels in the vote. -/
def Chan.median (c : Chan) : Option Int := medianOf (c.voteOffsets.map Prod.snd)

/-- A channel in the vote stands more than 50 µs, 2,000 units of 25 ns, from the median. -/
def Chan.skewed (c : Chan) (x : Ch) : Bool :=
  match c.median, c.voteOffsets.find? (fun e => e.1 == x) with
  | some m, some e => decide (2000 < (e.2 - m).natAbs)
  | _, _ => false

/-- A move limited to 10 µs, 400 units, in a cycle (R23). -/
def limitMove (m : Int) : Int := max (-400) (min 400 m)

/-- The channels that stand too far from the median, one bit each. -/
def Chan.skewBits (c : Chan) : BitVec 3 := Ch.all.foldl (fun v x => putBit v x.code (c.skewed x)) 0

/-- The skew of a main cycle judged, once (R23): CLK.SKEW, the next release's move where there is no fabric or the lane is not in SYNC (R248), and the channels
that dissent in every run of the cycle; the own skew fault is recorded. The skew is kept in 0.1 µs, rounded down (log 66). -/
def Chan.judgeSkew (c : Chan) (me : Ch) : Chan :=
  match c.vote.skewJudged, c.median with
  | false, some m =>
    let own := (c.vote.offsets.get me).getD 0
    let who := c.skewBits
    let c :=
      { c with
        vote :=
          { c.vote with
            skewOffset := (own - m) / 4
            moveNext := if c.onFabric && c.sync.st == 4 then 0 else limitMove m
            skewJudged := true
            skews := if who == 0 then c.vote.skews else (c.mainCycle, who) :: c.vote.skews } }
    if who.getLsbD me.code then
      { c with vote := { c.vote with skewCnt := inc 16 c.vote.skewCnt } }.emit .skewFault me.code []
    else c
  | _, _ => c

/-- A partner's offset formed; with the offsets of every channel in the vote the skew is judged. -/
def Chan.takeOffset (c : Chan) (me frm : Ch) (o : Int) : Chan :=
  let c := { c with vote := { c.vote with offsets := c.vote.offsets.set frm (some o) } }
  if c.voters.all (fun x => (c.vote.offsets.get x).isSome) then c.judgeSkew me else c

/-- The skew judged on the offsets that have come, when a run of this main cycle is decided before every marker is in (log
66). -/
def Chan.judgeSkewFor (c : Chan) (me : Ch) (main : Nat) : Chan := if main == c.mainCycle then c.judgeSkew me else c

/-- A channel counts as dissenting for its skew in a run of a main cycle (R23). -/
def Chan.skewIn (c : Chan) (x : Ch) (main : Nat) : Bool := ((c.vote.skews.lookup main).getD 0).getLsbD x.code

/-- The main-cycle number of this channel's next T1 release. -/
def Chan.nextMain (c : Chan) : Nat := if c.released then c.mainCycle + 1 else 0

/-- MARKER (R23): the marker of a main cycle, arrived at `arrival` on this channel's clock and begun `wait` after its release,
both in units of 25 ns; the transit time of 0.6 µs is 24 units. One that comes before this channel's own release of that cycle
waits for it. -/
def execMarker (ch frm : Ch) (l : Link) (cycle localTime wait arrival : Nat) (s : State) : Host.Outcome State Fault Refusal :=
  .next (s.taken ch frm l (.marker cycle localTime wait) (fun c =>
    let at_ : Int := (arrival : Int) - wait - 24
    if c.running && c.released && cycle == c.mainCycle then c.takeOffset ch frm (at_ - c.t1Clock * 40)
    else if c.running && cycle == c.nextMain then
      { c with vote := { c.vote with early := c.vote.early.set frm (some (cycle, at_)) } }
    else c))

end Sys2Proof.Machine
end

