-- ==== Sys2Proof/Machine/Signals.lean ====
section
/-! DEFINITION. Signals as a task reads them (spec/05_block_execution.md R124, R125, R127), the resolver's results (R114),
DETAIL of a platform edge (Table 08-4), and the state of an element from its input source (R57, R72, Table 03-6). -/

namespace Sys2Proof.Machine

open Sys2Proof

/-- The definition of an instance in an image. -/
def Image.inst (im : Image) (id : Nat) : Option InstDef := im.insts.find? (fun d => d.id == id)

/-- The state of an instance. -/
def Blocks.inst (b : Blocks) (id : Nat) : Option InstState := b.insts.find? (fun i => i.id == id)

/-- One instance's state replaced. -/
def Blocks.putInst (b : Blocks) (i : InstState) : Blocks :=
  { b with insts := b.insts.map (fun j => if j.id == i.id then i else j) }

/-! ### Results of the resolver (Table 04-6) -/

/-- The ESTATE record of an element of this module by its ID. -/
def Resolver.elem (r : Resolver) (id : Nat) : ERec := r.estate.getD (idLocal id) ERec.clear

/-- The RSTATE record of a route of this module by its ID. -/
def Resolver.route (r : Resolver) (id : Nat) : RRec := r.rstate.getD (idLocal id) RRec.released

/-- A result of the resolver. -/
def Resolver.result (r : Resolver) (kind : ResultKind) (id : Nat) : Word :=
  match kind with
  | .permit => w32 (r.elem id).detail.toNat
  | .posCmd => w32 (r.elem id).detail.toNat
  | .keyPermit => if (r.elem id).detail.getLsbD 0 then 1 else 0
  | .routeState => w32 (r.route id).state.toNat
  | .approachLock => if (r.route id).state == 0x77 then 1 else 0
  | .timeRelease =>
    let q := r.route id
    if q.timer != 0 && (q.tkind == 1 || q.tkind == 4) then 1 else 0

/-! ### Door elements as words -/

/-- A gate's step code (Table 08-3). -/
def GateState.detail (g : GateState) : Nat := g.step * 0x11

/-- A gate's STATE: 0x3C in step PROVEN only, and never while isolated (R213, R219). -/
def GateState.state (g : GateState) : Byte := if g.step == 2 && !g.isolated then 0x3C else 0

/-- The gates of an edge. -/
def Chan.edgeGates (c : Chan) (edge : Nat) : List GateState :=
  match c.image with
  | none => []
  | some im => c.doors.gates.filter (fun g => im.gates.any (fun d => d.elem == g.elem && d.edge == edge))

/-- DETAIL of a platform edge (Table 08-4). -/
def Chan.edgeDetail (c : Chan) (e : EdgeState) : Nat :=
  let gs := c.edgeGates e.elem
  bitAt e.release 0 + bitAt e.pending 1 + bitAt e.trainClosed 2 + bitAt (gs.any (fun g => g.isolated)) 3 +
    bitAt (gs.any (fun g => !g.isolated && (g.step == 0 || g.step == 1 || g.step == 4))) 4 +
    bitAt (gs.any (fun g => !g.isolated && g.step == 3)) 5 + bitAt (gs.any (fun g => g.isUnexpected)) 6

/-- FAULT bit 0 of a door element (R211). -/
def Doors.pairFlag (d : Doors) (elem : Nat) : Bool := d.pairs.any (fun p => p.elem == elem && p.flagged)

/-- ESTATE word 0 of a door element as its instance computes it (Tables 03-7 and 08-1). -/
def Chan.doorWord (c : Chan) (elem : Nat) : Word :=
  let fault := bitAt (c.doors.pairFlag elem) 24
  match c.doors.gates.find? (fun g => g.elem == elem) with
  | some g =>
    w32 (g.state.toNat + g.detail * 2 ^ 8 + bitAt g.isolated 21 + bitAt g.unproven 22 + fault)
  | none =>
    match c.doors.edges.find? (fun e => e.elem == elem) with
    | some e => w32 (e.state.toNat + c.edgeDetail e * 2 ^ 8 + fault)
    | none =>
      match c.doors.berths.find? (fun b => b.elem == elem) with
      | some b => w32 (b.state.toNat + fault)
      | none =>
        match c.doors.plungers.find? (fun p => p.elem == elem) with
        | some p => w32 ((if p.latched then 0 else 0x5A) + fault)
        | none => 0

/-- The element types whose SRC_KIND 3 names a door instance (Table 08-1). -/
def isDoorType (typ : Nat) : Bool := typ == 0x18 || typ == 0x19 || typ == 0x1A || typ == 0x20

/-- The element whose door block an instance is: the one whose SRC_KIND 3 names it (R210). -/
def Image.doorElem (im : Image) (d : InstDef) : Option Elem :=
  ((List.range im.elemSpan).map im.elem).find? (fun e => isDoorType e.typ && e.srcKind == 3 && e.src == d.id)

/-! ### The records of door blocks (R133; the layout of their declared words is the model's, log 22) -/

/-- Flags as one word, the first in bit 0. -/
def flagWord (bs : List Bool) : Word := w32 (bs.zipIdx.foldl (fun n e => n + bitAt e.1 e.2) 0)

/-- Inputs of Table 08-2 that feed an element of a type. -/
def doorInputs (typ : Nat) : Nat :=
  match typ with
  | 0x19 => 2
  | 0x1A => 3
  | _ => 1

/-- The discrepancy of one input's pair as two words. -/
def Doors.pairWords (d : Doors) (elem input : Nat) : List Word :=
  match d.pairs.find? (fun p => p.elem == elem && p.input == input) with
  | some p => [flagWord [true, p.flagged], w32 p.ms]
  | none => [0, 0]

/-- The declared words of a gate. -/
def GateState.words (g : GateState) : List Word :=
  [w32 g.step, flagWord [g.lk1, g.lk2, g.bothOpen, g.unproven, g.isolated, g.isolWarn, g.counted, g.isUnexpected], w32 g.split,
    w32 g.isolMs, w32 g.isolPrev, w32 g.total, w32 g.since]

/-- The declared words of a platform edge. -/
def EdgeState.words (e : EdgeState) : List Word :=
  [w32 e.state.toNat, flagWord [e.release, e.pending, e.trainClosed], w32 e.pendMain]

/-- The declared words of a berth. -/
def BerthState.words (b : BerthState) : List Word := [w32 b.state.toNat, flagWord [b.stopped], w32 b.stoppedMs]

/-- The declared words of a plunger. -/
def PlungerState.words (p : PlungerState) : List Word := [flagWord [p.latched, p.operated]]

/-- The declared words of the block that computes a door element: its own, then its inputs' pairs. -/
def Doors.fields (d : Doors) (e : Elem) : List Word :=
  let own :=
    match e.typ with
    | 0x19 => ((d.gates.find? (fun g => g.elem == e.id)).map GateState.words).getD []
    | 0x1A => ((d.edges.find? (fun g => g.elem == e.id)).map EdgeState.words).getD []
    | 0x18 => ((d.berths.find? (fun g => g.elem == e.id)).map BerthState.words).getD []
    | _ => ((d.plungers.find? (fun g => g.elem == e.id)).map PlungerState.words).getD []
  own ++ (List.range (doorInputs e.typ)).flatMap (d.pairWords e.id)

/-! ### Signals -/

/-- A connection of the image. -/
def Chan.conn (c : Chan) (k : Nat) : Option Conn := c.image.bind (fun im => im.conns[k]?)

/-- The entry of a connection in an input image. -/
def InImg.entry (im : InImg) (k : Nat) : Option RemoteEntry := im.remote.find? (fun e => e.conn == k)

/-- A remote value past its freshness, or never received (R272). -/
def Chan.remoteStale (c : Chan) (im : InImg) (k : Nat) : Bool :=
  match c.conn k, im.entry k with
  | some d, some e => decide (d.fresh < e.age)
  | _, _ => true

/-- The voted word of the first output entry of a task that satisfies a test, as a task reads it. -/
def Chan.votedEntry (c : Chan) (im : InImg) (t : Nat) (p : OutEntry → Bool) : Option Word :=
  match (c.taskDef t).outs.findIdx? p with
  | some k => (im.others.getD t [])[k]?
  | none => none

/-- A signal that a task offers to others (R124). -/
def offers (r : SigRef) (o : OutEntry) : Bool :=
  match o.src with
  | .offered _ v => v == r
  | _ => false

/-- The task that computes a signal, if it is one of a task's own: an instance's field, a platform edge's bits of T0, a result
of the resolver in T1. -/
def Chan.producer (c : Chan) : SigRef → Option Nat
  | .field inst _ => (c.image.bind (fun g => g.inst inst)).map (fun d => d.task)
  | .doorBit _ _ | .releaseSide _ _ => some 0
  | .result _ _ => some 1
  | _ => none

/-- RELEASE of a platform edge on the side that its SIDE gives (R216). -/
def Chan.releaseOn (c : Chan) (elem : Nat) (right : Bool) : Bool :=
  (c.doors.edges.find? (fun e => e.elem == elem)).any (fun e => e.release) &&
    (c.image.bind (fun g => g.edges.find? (fun d => d.elem == elem))).any (fun d => d.sideRight == right)

/-- The value a task's own code gives a signal. -/
def Chan.ownSignal (c : Chan) (im : InImg) : SigRef → Word
  | .const w => w
  | .input n => boolWord (im.di.getLsbD n)
  | .remote k n =>
    match im.entry k with
    | some e => wordAt e.data n
    | none => wordAt (((c.conn k).map (fun d => d.safe)).getD []) n
  | .field inst k =>
    match c.blocks.inst inst with
    | some i => wordAt i.fields k
    | none => 0
  | .taskOut t k => wordAt (im.others.getD t []) k
  | .doorBit elem bit => boolWord ((c.doorWord elem).getLsbD (8 + bit))
  | .releaseSide elem right => boolWord (c.releaseOn elem right)
  | .result kind id => c.res.result kind id

/-- The voted value of another task's signal: of the result entry, or of the entry that offers it. -/
def Chan.votedSignal (c : Chan) (im : InImg) (t : Nat) (r : SigRef) : Word :=
  match r with
  | .result kind id => (c.votedEntry im t (fun o => o.src == .result kind id)).getD 0
  | _ => (c.votedEntry im t (offers r)).getD 0

/-- The value of a signal in a run of a task (R124, R125). What another task computes is read only as voted, through the
input image; before that task's first vote after a start-up it reads 0, which R125 leaves open (DESIGN CHOICE, log 70). -/
def Chan.signal (c : Chan) (im : InImg) (r : SigRef) : Word :=
  match c.producer r with
  | some t => if t == im.task then c.ownSignal im r else c.votedSignal im t r
  | none => c.ownSignal im r

/-- A signal read as a BOOL. The reading of a remote element is its DATA word so read, whatever code its STATE byte would have
for another type (R211 names no rule; DESIGN CHOICE, log 70). -/
def Chan.signalOn (c : Chan) (im : InImg) (r : SigRef) : Bool := readBool (c.signal im r)

/-! ### An element from its input source (R72, Table 03-6) -/

/-- STATE of an element type from one input: its one permissive code, or for types with several codes what the input's
evaluation gives (log 23). -/
def stateOfInput (typ : Nat) (on : Bool) : Byte :=
  match permissive typ with
  | [p] => if on then p else 0
  | [] => 0
  | _ => readState typ (Config.inputState typ on)

/-- The connection that carries an element of another node. -/
def Chan.connOf (c : Chan) (src : Nat) : Option Nat :=
  c.image.bind (fun im => im.conns.findIdx? (fun d => d.inbound && !d.event && d.src == src))

/-- Word 0 of a door element as T1 reads it: T0's voted word, and for plungers the latch of T1's own blocks (R210). -/
def Chan.doorInput (c : Chan) (im : InImg) (e : Elem) : Word :=
  if e.typ == 0x20 || im.task == 0 then c.doorWord e.id
  else (c.votedEntry im 0 (fun o => o.src == .doorElem e.id)).getD 0

/-- The low byte of the instance that computes an element: of T1's own as executed, of another task's as voted (R125). -/
def Chan.blockInput (c : Chan) (im : InImg) (inst : Nat) : Byte :=
  match c.image.bind (fun g => g.inst inst) with
  | none => 0
  | some d =>
    if d.task == im.task then (c.ownSignal im (.field inst 0)).setWidth 8
    else ((c.votedEntry im d.task (fun o => o.driver == inst)).getD 0).setWidth 8

/-- STATE and FAULT of an element from its input source; none without one (R57, R72). -/
def Chan.sourceState (c : Chan) (im : InImg) (e : Elem) : Option (Byte × Byte) :=
  match e.srcKind with
  | 1 => some (stateOfInput e.typ (im.di.getLsbD (e.src % 128)), if im.discrepant.getLsbD (e.src % 128) then 1 else 0)
  | 2 =>
    match c.connOf e.src with
    | none => some (0, 0x10)
    | some k =>
      let b := (c.signal im (.remote k 0)).setWidth 8
      if c.remoteStale im k then some (0, 0x10) else some (readState e.typ b, 0)
  | 3 =>
    if isDoorType e.typ then
      let w := c.doorInput im e
      some (readState e.typ (w.setWidth 8), (w >>> 24).setWidth 8)
    else some (readState e.typ (c.blockInput im e.src), 0)
  | _ => none

/-- A section reads occupied in an input image: it does not read clear (R57). -/
def Chan.sectionOccupied (c : Chan) (im : InImg) (id : Nat) : Bool :=
  match c.image with
  | none => true
  | some g =>
    match c.sourceState im (g.elem (idLocal id)) with
    | some (b, _) => b != 0xA5
    | none => true

end Sys2Proof.Machine
end

