-- ==== Sys2Proof/Machine/Blocks.lean ====
section
/-! DEFINITION. Function block instances (spec/05_block_execution.md R126 to R139, R452): one execution of one instance, initial values, and the bytes a digest takes of an instance (R133, R135). The field layouts of the named types
are the model's, and every other type is the library's (log 22). -/

namespace Sys2Proof.Machine

open Sys2Proof

/-- Fields as the type declares them: bytes that carry no field are 0 (R135). -/
def fitFields (typ version : Nat) (ws : List Word) : List Word :=
  (typeMask typ version).zipIdx.map (fun m => wordAt ws m.2 &&& m.1)

/-- The families whose initial values are FALSE and 0 throughout: logic, edges and latches, timers, arithmetic, two-channel
evaluators, counters, selection, status (Table 05-3). -/
def zeroFamily (family : Nat) : Bool := decide (1 ≤ family && family ≤ 6) || family == 0x0B || family == 0x0C

/-- The fields of an instance as initialisation sets them (R138, Table 05-3); for the families whose values the table names
without a code, the library's (log 22). -/
def initialFields (d : InstDef) : List Word :=
  fitFields d.typ d.version (if zeroFamily (d.typ / 256) then [] else Config.blockInitial d.typ d.version d.decl)

/-- An instance at its initial values (R138): FIRST is 1. -/
def initialInst (d : InstDef) : InstState :=
  { id := d.id, first := true, fields := initialFields d, prevCycle := 0, oldPreset := none }

/-! ### Timers (R137)

A timer's fields are Q, elapsed ms, running, and for a pulse the previous input. R137 gives the count and the expiry; what
starts and stops each type, its name says (PRESUMED, log 22). -/

/-- The elapsed time of a timer in an execution: counted on while it runs, 0 in the execution that starts it. -/
def timeOf (fields : List Word) (elapsed : Nat) : Nat :=
  if wordAt fields 2 == 1 then (wordAt fields 1).toNat + elapsed else 0

/-- A timer's fields. -/
def timerFields (q : Bool) (e : Nat) (running : Bool) : List Word := [boolWord q, w32 e, if running then 1 else 0]

/-- On-delay: runs while the input is TRUE, Q from its expiry on. -/
def onDelayStep (fields : List Word) (input : Bool) (elapsed preset : Nat) : List Word :=
  let e := timeOf fields elapsed
  if input then timerFields (decide (preset ≤ e)) e true else timerFields false 0 false

/-- Off-delay: Q while the input is TRUE and until the timer that its end starts expires. -/
def offDelayStep (fields : List Word) (input : Bool) (elapsed preset : Nat) : List Word :=
  let e := timeOf fields elapsed
  if input then timerFields true 0 false
  else if !readBool (wordAt fields 0) then timerFields false 0 false
  else if preset ≤ e then timerFields false e false
  else timerFields true e true

/-- Pulse: a rising input starts Q, which ends with the timer whatever the input does. -/
def pulseStep (fields : List Word) (input first : Bool) (elapsed preset : Nat) : List Word :=
  let e := timeOf fields elapsed
  let running := wordAt fields 2 == 1
  let rise := input && !first && !readBool (wordAt fields 3)
  let on := (running && decide (e < preset)) || (!running && rise && preset != 0)
  timerFields on (if on || running then e else 0) on ++ [boolWord input]

/-- Minimum on-time: Q with the input, and at least until the timer that its start starts expires. -/
def minOnStep (fields : List Word) (input : Bool) (elapsed preset : Nat) : List Word :=
  let e := timeOf fields elapsed
  let running := wordAt fields 2 == 1
  let starts := input && !readBool (wordAt fields 0)
  let runs := (running && decide (e < preset)) || (!running && starts && preset != 0)
  timerFields (input || runs) (if running || starts then e else 0) runs

/-- Cyclic flasher: while the input is TRUE, Q changes at each expiry, and the time starts again. -/
def flasherStep (fields : List Word) (input : Bool) (elapsed preset : Nat) : List Word :=
  let e := timeOf fields elapsed
  if !input then timerFields false 0 false
  else if wordAt fields 2 != 1 then timerFields true 0 true
  else if preset ≤ e then timerFields (!readBool (wordAt fields 0)) 0 true
  else timerFields (readBool (wordAt fields 0)) e true

/-- A timer with these fields runs: a named one by its flag, one of the library's others by what its fields say (Table
05-6). -/
def InstDef.timerRuns (d : InstDef) (fields : List Word) : Bool :=
  if d.kind.family == 3 then wordAt fields 2 == 1
  else d.typ / 256 == 3 && Config.timerRuns d.typ d.version fields

/-! ### One execution -/

/-- The fields of an instance after one execution (R127, R137, R139, R452). -/
def blockFields (d : InstDef) (fields ins : List Word) (first : Bool) (elapsed preset : Nat) : List Word :=
  let on := fun k => readBool (wordAt ins k)
  match d.kind with
  | .logicAnd => [boolWord (ins.all readBool)]
  | .logicOr => [boolWord (ins.any readBool)]
  | .logicNot => [boolWord (!on 0)]
  | .risingEdge => [boolWord (!first && on 0 && !readBool (wordAt fields 1)), boolWord (on 0)]
  | .fallingEdge => [boolWord (!first && !on 0 && readBool (wordAt fields 1)), boolWord (on 0)]
  | .setLatch => [boolWord (on 0 || (!on 1 && readBool (wordAt fields 0)))]
  | .resetLatch => [boolWord (!on 1 && (on 0 || readBool (wordAt fields 0)))]
  | .onDelay => onDelayStep fields (on 0) elapsed preset
  | .offDelay => offDelayStep fields (on 0) elapsed preset
  | .pulse => pulseStep fields (on 0) first elapsed preset
  | .minOn => minOnStep fields (on 0) elapsed preset
  | .flasher => flasherStep fields (on 0) elapsed preset
  | .library => Config.blockStep d.typ d.version preset fields ins first elapsed

/-- The input values of an instance: as many as its type has (R132). -/
def Chan.instInputs (c : Chan) (im : InImg) (d : InstDef) : List Word :=
  let ins := d.ins.map (c.signal im)
  match d.kind with
  | .library => (ins ++ List.replicate (Config.blockInputs d.typ d.version) 0).take (Config.blockInputs d.typ d.version)
  | _ => ins

/-- The ms that an execution in a task cycle adds to an instance's time (R137); the first execution adds none. -/
def elapsedAt (i : InstState) (cycle periodMs : Nat) : Nat := if i.first then 0 else (cycle - i.prevCycle) * periodMs

/-- One execution of one instance (R123 step 3): elapsed time from task cycle numbers (R137), FIRST cleared, a preset kept
across an exchange dropped once the timer stops (Table 05-6). -/
def Chan.runInst (c : Chan) (im : InImg) (d : InstDef) (cycle periodMs : Nat) : Chan :=
  match c.blocks.inst d.id with
  | none => c
  | some i =>
    let raw := blockFields d i.fields (c.instInputs im d) i.first (elapsedAt i cycle periodMs) (i.oldPreset.getD d.preset)
    let fields := fitFields d.typ d.version raw
    { c with
      blocks := c.blocks.putInst { i with
        first := false, fields := fields, prevCycle := cycle, oldPreset := if d.timerRuns fields then i.oldPreset else none } }

/-- The instances of a task that are no door block's. -/
def Image.plainInsts (im : Image) (t : Nat) : List InstDef :=
  im.insts.filter (fun d => d.task == t && (im.doorElem d).isNone)

/-- The instances of a task before, or after, the resolver's place execute once, in program order (R113, R126); the door blocks
run in the order of R211. -/
def Chan.runInsts (c : Chan) (t : Nat) (after : Bool) : Chan :=
  match c.image with
  | none => c
  | some im =>
    let k := c.task t
    ((im.plainInsts t).filter (fun d => d.after == after)).foldl
      (fun c d => c.runInst k.inImg d k.runCycle (c.periodUs t / 1000)) c

/-- The records of a task's door blocks as executed: FIRST cleared. -/
def Chan.doorsRan (c : Chan) (im : Image) (t : Nat) : Chan :=
  let cycle := (c.task t).runCycle
  { c with
    blocks :=
      (im.insts.filter (fun d => d.task == t && (im.doorElem d).isSome)).foldl
        (fun b d => match b.inst d.id with
          | some i => b.putInst { i with first := false, prevCycle := cycle }
          | none => b) c.blocks }

/-- Every instance of a task set to its initial values (R131, R138). -/
def Chan.resetInsts (c : Chan) (t : Nat) : Chan :=
  match c.image with
  | none => c
  | some im =>
    { c with
      blocks := (im.insts.filter (fun d => d.task == t)).foldl (fun b d => b.putInst (initialInst d)) c.blocks }

/-- The four header words of an instance record (Table 05-4). -/
def instHeader (d : InstDef) (first : Bool) : List Word :=
  [w32 (d.id % 2 ^ 18 + d.task % 8 * 2 ^ 18), w32 (d.typ % 65536 + d.version % 256 * 2 ^ 16),
   w32 (d.decl % 65536 + d.size % 65536 * 65536), if first then 1 else 0]

/-- The bytes of a word that a mask declares, in order. -/
def declaredBytes (m w : Word) : List Byte :=
  (wordsBytes [m]).zip (wordsBytes [w]) |>.filterMap (fun e => if e.1 == 0 then none else some e.2)

/-- The bytes that a digest takes of an instance: header words, and every declared byte (R135). -/
def instBytes (d : InstDef) (i : InstState) : List Byte :=
  wordsBytes (instHeader d i.first) ++
    ((typeMask d.typ d.version).zip i.fields).flatMap (fun e => declaredBytes e.1 e.2)

/-- The declared words of an instance's record (Table 05-4): a door block's are those of its element. -/
def Chan.instFields (c : Chan) (im : Image) (d : InstDef) (i : InstState) : List Word :=
  match im.doorElem d with
  | some e => c.doors.fields e
  | none => i.fields

/-- The bytes that a digest takes of an instance of this image; of a door block every word. -/
def Chan.oneBytes (c : Chan) (im : Image) (d : InstDef) (i : InstState) : List Byte :=
  match im.doorElem d with
  | some e => wordsBytes (instHeader d i.first ++ c.doors.fields e)
  | none => Machine.instBytes d i

/-- Header words and declared bytes of every instance of a task, in instance order (R135, R157 item 6). -/
def Chan.instBytes (c : Chan) (t : Nat) : List Byte :=
  match c.image with
  | none => []
  | some im =>
    (im.insts.filter (fun d => d.task == t)).flatMap (fun d => ((c.blocks.inst d.id).map (c.oneBytes im d)).getD [])

/-- A timer would expire in an execution in this task cycle (R137): it runs, and its elapsed time reaches its preset. -/
def expiresAt (d : InstDef) (i : InstState) (cycle periodMs : Nat) : Bool :=
  d.kind.family == 3 && wordAt i.fields 2 == 1 &&
    decide (i.oldPreset.getD d.preset ≤ (wordAt i.fields 1).toNat + elapsedAt i cycle periodMs)

/-- FB_TIMER_EXPIRY (R137): in a run of its task, a timer whose elapsed time reaches its preset is executed and expires; the
run's later execution of it adds no time. -/
def execFbTimerExpiry (ch : Ch) (inst : Nat) (s : State) : Host.Outcome State Fault Refusal :=
  .next (s.onLive ch (fun c =>
    match c.image.bind (fun im => im.inst inst), c.blocks.inst inst with
    | some d, some i =>
      let k := c.task d.task
      let ms := c.periodUs d.task / 1000
      if k.running && k.imageReady && !k.sent && expiresAt d i k.runCycle ms then c.runInst k.inImg d k.runCycle ms else c
    | _, _ => c))

end Sys2Proof.Machine
end

