-- ==== Sys2Proof/Machine/Doors.lean ====
section
/-! DEFINITION. Berths, gates, platform edges and plungers (spec/08_berth_and_doors.md R210 to R223): door inputs, one
execution of each door instance, isolation, counters, and the commands gate fault, door input discrepancy, isolation
lapse and isolation warning. -/

namespace Sys2Proof.Machine

open Sys2Proof

/-! ### Door inputs (R211, Table 08-2) -/

/-- A source past its freshness (R211). -/
def Chan.refStale (c : Chan) (im : InImg) : SigRef → Bool
  | .remote k _ => c.remoteStale im k
  | _ => false

/-- The two readings of a pair in one sense. -/
def Chan.pairReads (c : Chan) (im : InImg) (d : DoorSrc) (a b : SigRef) : Bool × Bool :=
  (c.signalOn im a, if d.antivalent then !c.signalOn im b else c.signalOn im b)

/-- A door input: its non-safe value only where every source shows it (R211). -/
def Chan.doorValue (c : Chan) (im : InImg) (d : DoorSrc) (safe : Bool) : Bool :=
  match d.first, d.second with
  | some a, none => if c.refStale im a then safe else c.signalOn im a
  | some a, some b =>
    let (x, y) := c.pairReads im d a b
    if c.refStale im a || c.refStale im b || x != y then safe else x
  | none, _ => safe

/-- The two inputs of a pair disagree. -/
def Chan.pairDiffers (c : Chan) (im : InImg) (d : DoorSrc) : Bool :=
  match d.first, d.second with
  | some a, some b =>
    let (x, y) := c.pairReads im d a b
    x != y
  | _, _ => false

/-- DOOR.DISC_TIME in ms. -/
def Chan.discMs (c : Chan) : Nat := c.act 0x1101 * 10

/-- What is kept of the other pairs than one. -/
def Doors.pairsBut (d : Doors) (elem input : Nat) : List PairDisc :=
  d.pairs.filter (fun p => !(p.elem == elem && p.input == input))

/-- The discrepancy kept of a pair. -/
def Doors.pair (d : Doors) (elem input : Nat) : Option PairDisc := d.pairs.find? (fun p => p.elem == elem && p.input == input)

/-- One pair in a run (R211): the time it disagrees, FAULT bit 0 beyond DOOR.DISC_TIME, recorded once; all clear when it agrees
again. -/
def Chan.trackPair (c : Chan) (t elem input elapsed : Nat) (differs : Bool) : Chan :=
  let rest := c.doors.pairsBut elem input
  if !differs then { c with doors := { c.doors with pairs := rest } }
  else
    match c.doors.pair elem input with
    | none =>
      { c with doors := { c.doors with pairs := { elem := elem, input := input, ms := 0, flagged := false } :: rest } }
    | some p =>
      let ms := p.ms + elapsed
      let late := decide (c.discMs < ms)
      let c' := { c with doors := { c.doors with pairs := { p with ms := ms, flagged := p.flagged || late } :: rest } }
      if late && !p.flagged then c'.emitTask t .pairFault elem [w32 input] else c'

/-! ### Berths (R212) -/

/-- One berth in a T0 run. -/
def Chan.evalBerth (c : Chan) (im : InImg) (elapsed : Nat) (d : BerthDef) (b : BerthState) : BerthState :=
  if c.sectionOccupied im d.pfSection && c.doorValue im d.stopWin false then
    let ms := if b.stopped then b.stoppedMs + elapsed else 0
    { b with stopped := true, stoppedMs := ms, state := if c.act 0x1102 * 100 ≤ ms then 0x3C else 0 }
  else { b with stopped := false, stoppedMs := 0, state := 0 }

/-- Every berth in a T0 run. -/
def Chan.runBerths (c : Chan) (g : Image) (im : InImg) (elapsed : Nat) : Chan :=
  let run := fun (b : BerthState) =>
    match g.berths.find? (fun d => d.elem == b.elem) with
    | some d => c.evalBerth im elapsed d b
    | none => b
  { c with doors := { c.doors with berths := c.doors.berths.map run } }

/-! ### Gates (R213, R214, R220) -/

/-- A counted cycle (R221). -/
def GateState.count (g : GateState) : GateState :=
  { g with total := inc 32 g.total, since := inc 32 g.since, counted := true }

/-- A gate reaches PROVEN (R213, R214, Table 08-4). -/
def GateState.prove (g : GateState) : GateState := { g with step := 2, unproven := false, isUnexpected := false }

/-- A gate in UNPROVEN with LOCKS bit 6 (R214, R220), as the gate reset command and the end of an isolation leave it. UNEXPECTED
keeps its value, and nothing is recorded as unexpected-open: R215 speaks of a gate that leaves PROVEN, and Table 08-3 lists no
such move for these (DESIGN CHOICE, log 71). -/
def GateState.unprove (g : GateState) : GateState := { g with step := 0, unproven := true }

/-- Isolation over: LOCKS bit 5 clear, the gate back in UNPROVEN (R220). -/
def GateState.lapse (g : GateState) : GateState := { g.unprove with isolated := false, isolMs := 0 }

/-- The moves of Table 08-3 but for the one to FAULT; `release` is RELEASE of the gate's edge. -/
def GateState.move (g : GateState) (lk1 lk2 release : Bool) : GateState :=
  let bothOpen := !lk1 && !lk2
  let closed := lk1 && lk2
  match g.step with
  | 0 => if bothOpen then { g with step := 1 } else g
  | 1 => if closed then g.count.prove else g
  | 2 => if closed then g else { g with step := 3, bothOpen := bothOpen, isUnexpected := g.isUnexpected || !release }
  | 3 =>
    if closed then (if g.bothOpen then g.count.prove else g.prove) else { g with bothOpen := g.bothOpen || bothOpen }
  | _ => g

/-- The time the contacts disagree, kept as `split`. -/
def GateState.track (g : GateState) (lk1 lk2 : Bool) (elapsed : Nat) : GateState :=
  { g with lk1 := lk1, lk2 := lk2, split := if lk1 == lk2 then 0 else if g.split == 0 then 1 else g.split + elapsed }

/-- Isolation time counted in a T0 run (R220). -/
def GateState.countIsolation (g : GateState) (cycle periodMs : Nat) : GateState :=
  if g.isolated then
    let used := (cycle - g.isolPrev) * periodMs
    if g.isolMs ≤ used then g.lapse else { g with isolMs := g.isolMs - used, isolPrev := cycle }
  else g

/-- RELEASE of an edge. -/
def Doors.releaseOf (d : Doors) (edge : Nat) : Bool := d.edges.any (fun e => e.elem == edge && e.release)

/-- A gate's state replaced. -/
def Doors.putGate (d : Doors) (g : GateState) : Doors :=
  { d with gates := d.gates.map (fun x => if x.elem == g.elem then g else x) }

/-- An edge's state replaced. -/
def Doors.putEdge (d : Doors) (e : EdgeState) : Doors :=
  { d with edges := d.edges.map (fun x => if x.elem == e.elem then e else x) }

/-- The gate goes to FAULT, recorded (R213). -/
def Chan.faultGate (c : Chan) (g : GateState) : Chan :=
  ({ c with doors := c.doors.putGate { g with step := 4 } }).emitTask 0 .gateFault g.elem []

/-- The 15 min warning (R220), once for an isolation. -/
def Chan.warnIsolation (c : Chan) (g : GateState) : Chan :=
  if g.isolated && !g.isolWarn && decide (g.isolMs ≤ 900000) then
    ({ c with doors := c.doors.putGate { g with isolWarn := true } }).emitTask 0 .isolWarning g.elem []
  else { c with doors := c.doors.putGate g }

/-- One gate in a T0 run (R213, R214, R220). -/
def Chan.runGate (c : Chan) (im : InImg) (elapsed cycle periodMs : Nat) (d : GateDef) : Chan :=
  match c.doors.gates.find? (fun g => g.elem == d.elem) with
  | none => c
  | some g =>
    let lk1 := c.doorValue im d.lk1 false
    let lk2 := c.doorValue im d.lk2 false
    let c := c.warnIsolation ((g.countIsolation cycle periodMs).track lk1 lk2 elapsed)
    match c.doors.gates.find? (fun g => g.elem == d.elem) with
    | none => c
    | some g =>
      if g.step != 4 && decide (c.discMs + 1 < g.split) then c.faultGate g
      else
        let release := c.doors.releaseOf d.edge
        let g' := g.move lk1 lk2 release
        let c' := { c with doors := c.doors.putGate g' }
        if g.step == 2 && g'.step == 3 && !release then c'.emitTask 0 .unexpectedOpen d.elem [] else c'

/-! ### Platform edges (R215 to R217) -/

/-- Every departure signal of an edge at stop in T1's voted outputs (R216). -/
def Chan.signalsAtStop (c : Chan) (im : InImg) (signals : List Nat) : Bool :=
  signals.all (fun x => c.votedEntry im 1 (fun o => o.src == .result .permit x) == some 0)

/-- The release sequence of an edge in one T0 run of main cycle `main` (R216). -/
def Chan.sequence (c : Chan) (im : InImg) (main : Nat) (d : EdgeDef) (e : EdgeState) : EdgeState :=
  let berth := c.doors.berths.any (fun b => b.elem == d.berth && b.state == 0x3C)
  let wanted := c.doorValue im d.releaseReq false && !c.doorValue im d.closeReq true && berth
  if e.release then (if wanted then e else { e with release := false })
  else if e.pending then
    if !wanted then { e with pending := false }
    else if decide (e.pendMain + 1 ≤ im.otherMain.getD 1 0) && c.signalsAtStop im d.signals then
      { e with pending := false, release := true }
    else e
  else if wanted then { e with pending := true, pendMain := main }
  else e

/-- One edge in a T0 run: the sequence, then the aggregation as the sequence leaves its bits (R211, R215); a release
withdrawn for the berth is recorded (R217). -/
def Chan.runEdge (c : Chan) (im : InImg) (main : Nat) (d : EdgeDef) : Chan :=
  match c.doors.edges.find? (fun e => e.elem == d.elem) with
  | none => c
  | some e =>
    let e' := c.sequence im main d e
    let closed := c.doorValue im d.trainClosed false
    let gates := (c.edgeGates d.elem).all (fun g => g.state == 0x3C || g.isolated)
    let ok := gates && !e'.release && !e'.pending && (!c.sectionOccupied im d.pfSection || closed)
    let c' := { c with doors := c.doors.putEdge { e' with trainClosed := closed, state := if ok then 0x3C else 0 } }
    let berth := c.doors.berths.any (fun b => b.elem == d.berth && b.state == 0x3C)
    if e.release && !berth then c'.emitTask 0 .berthLost d.elem [] else c'

/-! ### The door blocks of a run -/

/-- The inputs of T0's door elements: element, number of the input, source. -/
def Image.pairInputs (im : Image) : List (Nat × Nat × DoorSrc) :=
  im.berths.map (fun d => (d.elem, 0, d.stopWin)) ++ im.gates.flatMap (fun d => [(d.elem, 0, d.lk1), (d.elem, 1, d.lk2)]) ++
    im.edges.flatMap (fun d => [(d.elem, 0, d.releaseReq), (d.elem, 1, d.closeReq), (d.elem, 2, d.trainClosed)])

/-- The inputs of T1's. -/
def Image.plungerInputs (im : Image) : List (Nat × Nat × DoorSrc) := im.plungers.map (fun d => (d.elem, 0, d.src))

/-- The pairs of some inputs followed in a run. -/
def Chan.trackPairs (c : Chan) (t elapsed : Nat) (im : InImg) (ps : List (Nat × Nat × DoorSrc)) : Chan :=
  ps.foldl (fun c p => c.trackPair t p.1 p.2.1 elapsed (c.pairDiffers im p.2.2)) c

/-- The ms since the door blocks of a task were last executed (R137). -/
def Chan.doorElapsed (c : Chan) (t prev : Nat) : Nat := ((c.task t).runCycle - prev) * (c.periodUs t / 1000)

/-- T0's door blocks, in the order of R211. -/
def Chan.runDoors0 (c : Chan) : Chan :=
  match c.image with
  | none => c
  | some g =>
    let k := c.task 0
    let ms := c.periodUs 0 / 1000
    let elapsed := c.doorElapsed 0 c.doors.prev0
    let c := c.trackPairs 0 elapsed k.inImg g.pairInputs
    let c := c.runBerths g k.inImg elapsed
    let c := g.gates.foldl (fun c d => c.runGate k.inImg elapsed k.runCycle ms d) c
    let c := g.edges.foldl (fun c d => c.runEdge k.inImg k.runMain d) c
    { c with doors := { c.doors with prev0 := k.runCycle } }.doorsRan g 0

/-- A plunger latch in a T1 run (R218). -/
def PlungerState.run (p : PlungerState) (operated : Bool) : PlungerState :=
  { p with operated := operated, latched := p.latched || operated }

/-- T1's plunger latches. -/
def Chan.runDoors1 (c : Chan) : Chan :=
  match c.image with
  | none => c
  | some g =>
    let k := c.task 1
    let c := c.trackPairs 1 (c.doorElapsed 1 c.doors.prev1) k.inImg g.plungerInputs
    let run := fun (p : PlungerState) =>
      match g.plungers.find? (fun d => d.elem == p.elem) with
      | some d => p.run (!c.doorValue k.inImg d.src false)
      | none => p
    { c with doors := { c.doors with plungers := c.doors.plungers.map run, prev1 := k.runCycle } }.doorsRan g 1

/-! ### Counters (R221 to R223) -/

/-- The CRC word of a counter record: over its first 12 bytes (R221). -/
def gateCrc (head total since : Word) : Word := crc32c (wordsBytes [head, total, since])

/-- The MRAM record of a gate, CRC word last (R221). -/
def gateRecord (d : GateDef) (total since : Nat) : GateRecord :=
  let head := w32 (d.elem % 2 ^ 18 + 2 ^ 31)
  { slot := d.slot, head := head, total := w32 total, since := w32 since, crc := gateCrc head (w32 total) (w32 since) }

/-- A record passes its CRC. -/
def recordSound (r : GateRecord) : Bool := r.crc == gateCrc r.head r.total r.since

/-- A record has been written for a gate: it is not absent (R222). -/
def recordOf (d : GateDef) (r : GateRecord) : Bool :=
  r.slot == d.slot && r.head.getLsbD 31 && bits r.head.toNat 17 0 == d.elem

/-- A record written into its slot. -/
def Nv.putGateRecord (v : Nv) (r : GateRecord) : Nv :=
  { v with gateRecords := r :: v.gateRecords.filter (fun x => x.slot != r.slot) }

/-- The records of the gates counted in the run, rewritten after step 5 of T0 (R221). -/
def Chan.writeCounted (c : Chan) : Chan :=
  match c.image with
  | none => c
  | some im =>
    let write := fun (v : Nv) (d : GateDef) =>
      match c.doors.gates.find? (fun g => g.elem == d.elem && g.counted) with
      | some g => v.putGateRecord (gateRecord d g.total g.since)
      | none => v
    { c with
      nv := im.gates.foldl write c.nv
      doors := { c.doors with gates := c.doors.gates.map (fun g => { g with counted := false }) } }

/-- Every door element as its instance starts (R136, R138, R214), with its counters, in ascending element order (R225). -/
def Image.initialDoors (im : Image) (records : List GateRecord) : Doors :=
  { gates := im.gates.map (fun d =>
      let r := records.find? (fun r => recordOf d r && recordSound r)
      { (default : GateState) with
        elem := d.elem, unproven := true, total := (r.map (fun r => r.total.toNat)).getD 0
        since := (r.map (fun r => r.since.toNat)).getD 0 })
    edges := im.edges.map (fun d => { (default : EdgeState) with elem := d.elem })
    berths := im.berths.map (fun d => { (default : BerthState) with elem := d.elem })
    plungers := im.plungers.map (fun d => { (default : PlungerState) with elem := d.elem })
    pairs := []
    prev0 := 0
    prev1 := 0 }

/-- The value of a counter from the valid records: the median of three, the larger of two, one, or 0 (R222). -/
def counterOf (xs : List Nat) : Nat :=
  match xs with
  | [a, b, c] => max (min a b) (min (max a b) c)
  | [a, b] => max a b
  | [a] => a
  | _ => 0

/-- One gate's counters taken from the channels' records, rewritten, and a loss recorded (R222). -/
def Chan.settleGate (c : Chan) (sets : List (List GateRecord)) (d : GateDef) : Chan :=
  let rs := sets.filterMap (fun s => s.find? (recordOf d))
  let good := rs.filter recordSound
  let total := counterOf (good.map (fun r => r.total.toNat))
  let since := counterOf (good.map (fun r => r.since.toNat))
  let doors :=
    { c.doors with
      gates := c.doors.gates.map (fun g => if g.elem == d.elem then { g with total := total, since := since } else g) }
  let c := { c with nv := c.nv.putGateRecord (gateRecord d total since), doors := doors }
  if good.isEmpty && !rs.isEmpty then c.emit .counterLost d.elem [] else c

/-- Counters settled with the records of every channel in (R222). -/
def Chan.settleCounters (c : Chan) : Chan :=
  match c.boot.counters, c.image with
  | ⟨some a, some b, some d⟩, some im => im.gates.foldl (fun c g => c.settleGate [a, b, d] g) c
  | _, _ => c

/-- COUNTERS (R222): a partner's records at P6, taken once. -/
def execCounters (ch frm : Ch) (l : Link) (records : List GateRecord) (s : State) : Host.Outcome State Fault Refusal :=
  .next (s.taken ch frm l (.counters records) (fun c =>
    if c.boot.phase == 6 && !c.boot.stopped && (c.boot.counters.get frm).isNone then
      { c with boot := { c.boot with counters := c.boot.counters.set frm (some records) } }.settleCounters
    else c))

/-! ### Effects of host commands at a T0 or T1 release; none where the effect is refused -/

/-- Gate isolation (R219), at the release of task cycle `cycle`. -/
def Chan.isolateGate (c : Chan) (elem minutes cycle : Nat) : Option Chan :=
  let m := if minutes == 0 then c.act 0x1103 else minutes
  (c.doors.gates.find? (fun g => g.elem == elem)).map (fun g =>
    { c with
      doors := c.doors.putGate
        { g with isolated := true, isolMs := m * 60000, isolPrev := cycle, isolWarn := decide (m ≤ 15) } })

/-- Gate isolation end (R220). -/
def Chan.endIsolation (c : Chan) (elem : Nat) : Option Chan :=
  match c.doors.gates.find? (fun g => g.elem == elem) with
  | some g => if g.isolated then some { c with doors := c.doors.putGate g.lapse } else none
  | none => none

/-- Gate reset (R213, R214): refused while isolated or while the contacts disagree. -/
def Chan.resetGate (c : Chan) (elem : Nat) : Option Chan :=
  match c.doors.gates.find? (fun g => g.elem == elem) with
  | some g => if g.isolated || g.lk1 != g.lk2 then none else some { c with doors := c.doors.putGate g.unprove }
  | none => none

/-- Gate service reset (R223). -/
def Chan.serviceGate (c : Chan) (elem : Nat) : Option Chan :=
  (c.doors.gates.find? (fun g => g.elem == elem)).map (fun g => { c with doors := c.doors.putGate { g with since := 0 } })

/-- Plunger reset (R218): accepted only while the plunger reads not operated. -/
def Chan.resetPlunger (c : Chan) (elem : Nat) : Option Chan :=
  match c.doors.plungers.find? (fun p => p.elem == elem) with
  | some p =>
    if p.operated then none
    else
      some { c with
        doors :=
          { c.doors with plungers := c.doors.plungers.map (fun q => if q.elem == elem then { q with latched := false } else q) } }
  | none => none

/-- A gate is flagged for service (R223). -/
def Chan.serviceFlag (c : Chan) (g : GateState) : Bool :=
  match c.image.bind (fun im => im.gates.find? (fun d => d.elem == g.elem)) with
  | some d => d.serviceK != 0 && decide (1000 * d.serviceK ≤ g.since)
  | none => false

/-! ### Commands

Each names what a door block finds in a run of its task (R211, R213, R220), and acts within one: from the run's image to its
vote set. The run's own execution of the block then finds it done. -/

/-- A run of a task has its image and has not sent its vote set. -/
def Chan.inRun (c : Chan) (t : Nat) : Bool := (c.task t).running && (c.task t).imageReady && !(c.task t).sent

/-- GATE_FAULT (R213): with the run's image the contacts of a gate not in FAULT have disagreed longer than DOOR.DISC_TIME. -/
def execGateFault (ch : Ch) (gate : Nat) (s : State) : Host.Outcome State Fault Refusal :=
  .next (s.onLive ch (fun c =>
    match c.image.bind (fun g => g.gates.find? (fun d => d.elem == gate)), c.doors.gates.find? (fun g => g.elem == gate) with
    | some d, some g =>
      let im := (c.task 0).inImg
      let now := g.track (c.doorValue im d.lk1 false) (c.doorValue im d.lk2 false) (c.doorElapsed 0 c.doors.prev0)
      if c.inRun 0 && g.step != 4 && decide (c.discMs + 1 < now.split) then c.faultGate g else c
    | _, _ => c))

/-- The pairs of an element that in a run of a task have disagreed longer than DOOR.DISC_TIME and are not flagged. -/
def Chan.latePairs (c : Chan) (t elapsed elem : Nat) (ps : List (Nat × Nat × DoorSrc)) : List PairDisc :=
  if !c.inRun t then []
  else
    ps.filterMap (fun p =>
      if p.1 == elem && c.pairDiffers (c.task t).inImg p.2.2 then
        (c.doors.pair elem p.2.1).filter (fun q => !q.flagged && decide (c.discMs < q.ms + elapsed))
      else none)

/-- FAULT bit 0 set for a pair, and recorded (R211). -/
def Chan.flagPair (c : Chan) (t : Nat) (p : PairDisc) : Chan :=
  ({ c with
    doors :=
      { c.doors with pairs := { p with flagged := true } :: c.doors.pairsBut p.elem p.input } }).emitTask t .pairFault p.elem
    [w32 p.input]

/-- DOOR_INPUT_DISCREPANCY (R211): pairs that feed the element have disagreed longer than DOOR.DISC_TIME. -/
def execDoorInputDiscrepancy (ch : Ch) (elem : Nat) (s : State) : Host.Outcome State Fault Refusal :=
  .next (s.onLive ch (fun c =>
    match c.image with
    | none => c
    | some g =>
      let c := (c.latePairs 0 (c.doorElapsed 0 c.doors.prev0) elem g.pairInputs).foldl (fun c p => c.flagPair 0 p) c
      (c.latePairs 1 (c.doorElapsed 1 c.doors.prev1) elem g.plungerInputs).foldl (fun c p => c.flagPair 1 p) c))

/-- The isolation time of a gate that a run of T0 has used up (R137, R220). -/
def Chan.isolUsed (c : Chan) (g : GateState) : Nat := ((c.task 0).runCycle - g.isolPrev) * (c.periodUs 0 / 1000)

/-- GATE_ISOLATION_LAPSE (R220): in a T0 run the isolation time is used up. -/
def execGateIsolationLapse (ch : Ch) (gate : Nat) (s : State) : Host.Outcome State Fault Refusal :=
  .next (s.onLive ch (fun c =>
    match c.doors.gates.find? (fun g => g.elem == gate) with
    | some g =>
      if c.inRun 0 && g.isolated && decide (g.isolMs ≤ c.isolUsed g) then { c with doors := c.doors.putGate g.lapse } else c
    | none => c))

/-- GATE_ISOLATION_WARNING (R220): in a T0 run 15 min or less are left of an isolation longer than 15 min. -/
def execGateIsolationWarning (ch : Ch) (gate : Nat) (s : State) : Host.Outcome State Fault Refusal :=
  .next (s.onLive ch (fun c =>
    match c.doors.gates.find? (fun g => g.elem == gate) with
    | some g =>
      if c.inRun 0 && g.isolated && !g.isolWarn && decide (g.isolMs - c.isolUsed g ≤ 900000) then
        ({ c with doors := c.doors.putGate { g with isolWarn := true } }).emitTask 0 .isolWarning gate []
      else c
    | none => c))

end Sys2Proof.Machine
end

