-- ==== Sys2Proof/Machine/Recorder.lean ====
section
/-! DEFINITION. The event recorder (spec/14_recorder.md): records and slots (R359 to R363), the append (R360, R365), the
commit comparator (R366, R367), flushes (R368), power-fail (R370), the recorder's start (R364, R371), the correction
log's expiry (R375), clearing (R374). -/

namespace Sys2Proof.Machine

open Sys2Proof

/-! ### Records and slots -/

/-- The member code of an event: Table 14-4 for the recorder's own, the code list's for the rest (log 20). -/
def EvName.member : EvName → Nat
  | .start => 0x01
  | .pfAnnounced => 0x02
  | .pfUnannounced => 0x03
  | .clear => 0x04
  | .diagLost => 0x05
  | .recDissent => 0x06
  | e => (Config.eventMember e).toNat

/-- CODE of an event (R361): juridical bit, family, member. -/
def EvName.code (e : EvName) : Nat :=
  bitAt (e.cls != .diagnostic) 15 + e.family * 256 + e.member

/-- CLASS of an event's record (Table 14-2, Table 14-4). In SPLIT mode no record is juridical (R367). -/
def EvName.recClass (e : EvName) (split : Bool) : Nat :=
  match e with
  | .start | .pfAnnounced | .pfUnannounced => 2
  | _ => if e.cls == .diagnostic || split then 0 else 1

/-- DATA words 6 to 12 (R361): Table 14-4 for the recorder's own codes, else as the code list lays down. -/
def Event.dataWords (e : Event) : List Word :=
  let ws := if e.name.family == 1 then e.data else Config.eventData e.name e.data
  (ws ++ List.replicate 7 0).take 7

/-- The record of an event with the SEQ it takes (Table 14-2); VALID not yet written. -/
def Event.record (e : Event) (seq : Nat) (me : Ch) (start : Nat) (split : Bool) (commit : Nat) : Record :=
  { seq := seq, cls := e.name.recClass split, commit := commit, ch := me, mainCycle := e.mainCycle, offset := e.offset,
    task := e.task, code := e.name.code, start := start, data := e.obj :: e.dataWords, valid := 0, damaged := false }

/-- VALID of a record (Table 14-2). -/
def validWord (seq : Nat) : Word := w32 seq ^^^ 0xA5C33C5A

/-- Words 2 to 12 of a record. -/
def Record.body (r : Record) : List Word :=
  [w32 r.mainCycle, w32 (r.offset % 2 ^ 20 + r.task % 8 * 2 ^ 20), w32 (r.code % 65536 + r.start % 65536 * 65536)] ++
    (r.data ++ List.replicate 8 0).take 8

/-- RCRC (Table 14-2): over words 2 to 12. -/
def Record.rcrc (r : Record) : Word := crc32c (wordsBytes r.body)

/-- Words 0 to 13 of a record. -/
def Record.words (r : Record) : List Word :=
  [w32 r.seq, w32 (r.seq / 2 ^ 32 % 65536 + r.cls % 4 * 2 ^ 16 + r.commit % 4 * 2 ^ 18 + r.ch.code * 2 ^ 20)] ++
    r.body ++ [r.rcrc]

/-- The sixteen words of a record, CRC and VALID included. -/
def Record.allWords (r : Record) : List Word := r.words ++ [crc32c (wordsBytes r.words), r.valid]

/-- A slot holds this record: VALID written and its CRC sound (R360). -/
def Record.holds (r : Record) : Bool := r.valid == validWord r.seq && !r.damaged

/-- The place of a SEQ: permanent or circulating, and the slot (R363). -/
def slotOf (permBase seq : Nat) : Bool × Nat :=
  if permBase != 0 && decide (permBase ≤ seq) && decide (seq < permBase + 65536) then (true, seq - permBase)
  else (false, seq % 978944)

/-- What a SEQ's slot holds. -/
def Nv.slotRecord (v : Nv) (seq : Nat) : Option Record :=
  let (perm, k) := slotOf v.permBase seq
  tabGet (if perm then v.permanent else v.circulating) k

/-- The record of a SEQ, if its slot holds it. -/
def Nv.recordOf (v : Nv) (seq : Nat) : Option Record :=
  match v.slotRecord seq with
  | some r => if r.seq == seq && r.holds then some r else none
  | none => none

/-- A record written into its slot. -/
def Nv.writeSlot (v : Nv) (r : Record) : Nv :=
  let (perm, k) := slotOf v.permBase r.seq
  if perm then { v with permanent := tabPut v.permanent k r } else { v with circulating := tabPut v.circulating k r }

/-- A record made valid: its slot written with VALID, and HEAD after it (R360 step 4, R364). -/
def Nv.validate (v : Nv) (r : Record) : Nv :=
  { v.writeSlot { r with valid := validWord r.seq } with head := r.seq }

/-! ### Appending -/

/-- A flush begins unless one runs. -/
def Rec.startFlush (r : Rec) (cause : Nat) : Rec :=
  if r.flushing then r else { r with flushing := true, flushCause := cause }

/-- A juridical record of families 0x06, 0x07, 0x0B or 0x0D starts a flush (R368). -/
def flushFamily (f : Nat) : Bool := f == 6 || f == 7 || f == 0x0B || f == 0x0D

/-- A CLEAR record sets FLOOR to the SEQ it takes, which is also its DATA (R374). -/
def Chan.floorAt (c : Chan) (e : Event) : Chan × Event :=
  if e.name == .clear then
    ({ c with nv := { c.nv with floor := c.recd.nextSeq } }, { e with data := [w32 c.recd.nextSeq] })
  else (c, e)

/-- An event appended and made valid at once with a given COMMIT. -/
def Chan.appendNow (c : Chan) (me : Ch) (e : Event) (commit : Nat) : Chan :=
  let (c, e) := c.floorAt e
  let r := e.record c.recd.nextSeq me c.nv.start c.split commit
  { c with nv := c.nv.validate r, recd := { c.recd with nextSeq := c.recd.nextSeq + 1 } }

/-- An event of the recorder's own. -/
def Chan.ownEvent (c : Chan) (name : EvName) (data : List Word) : Event :=
  { name := name, mainCycle := c.mainCycle, offset := c.din.offset, task := 0, obj := 0, data := data, ordinal := 0 }

/-- A channel makes no presentation when it is excluded, in probation or alone, when the comparator's voter fault is
latched, or in SPLIT mode (Table 14-5, R367). -/
def Chan.presents (c : Chan) (me : Ch) : Bool :=
  c.votes me && decide (2 ≤ c.voters.length) && !c.vote.recFault && !c.split

/-- The DIAG_LOST record at the head of a flush, if records were dropped (R368). -/
def Chan.diagLost (c : Chan) (me : Ch) : Chan :=
  let r := c.recd
  if r.dropFull == 0 && r.dropLane == 0 && r.dropEarly == 0 then c
  else
    let c := c.appendNow me (c.ownEvent .diagLost [w32 r.dropFull, w32 r.dropLane, w32 r.dropEarly]) 0
    { c with recd := { c.recd with dropFull := 0, dropLane := 0, dropEarly := 0 } }

/-- The oldest buffered diagnostic record appended; the flush ends with the buffer empty (R368). -/
def Chan.flushOne (c : Chan) (me : Ch) : Chan :=
  let c := c.diagLost me
  match c.recd.diag with
  | [] => { c with recd := { c.recd with flushing := false } }
  | e :: rest =>
    let c := c.appendNow me e 0
    { c with recd := { c.recd with diag := rest, flushing := !rest.isEmpty } }

/-- Records that a flush takes, `n` of them. -/
def Chan.flushMany (c : Chan) (me : Ch) : List Event → Chan
  | [] => c
  | e :: rest => (c.appendNow me e 0).flushMany me rest

/-- A voted record awaiting its decision is presented; any other is valid at once (R360, R365). -/
def Chan.appendHead (c : Chan) (me : Ch) (e : Event) : Chan × Option Presentation :=
  let c :=
    if flushFamily e.name.family && e.name.cls != .diagnostic then { c with recd := c.recd.startFlush 2 } else c
  if e.name.cls == .voted && c.presents me then
    let (c, e) := c.floorAt e
    let r := e.record c.recd.nextSeq me c.nv.start c.split 0
    let key : PairKey := { mainCycle := e.mainCycle, offset := e.offset, ordinal := e.ordinal }
    let (perm, k) := slotOf c.nv.permBase r.seq
    ({ c with
        nv := c.nv.writeSlot r
        recd :=
          { c.recd with
            nextSeq := c.recd.nextSeq + 1
            pending := some { key := key, permanent := perm, slot := k, record := r } } },
      some { key := key, ch := me, rcrc := r.rcrc })
  else (c.appendNow me e (if e.name.cls == .channelLocal && !c.split then 3 else 0), none)

/-- The run in which an event was found is still under way: its record comes after the run's outputs (R25 item 4). An event
found outside tasks carries TASK 0, so it waits for a T0 run of its own release instant (log 84). -/
def Chan.runUnderWay (c : Chan) (e : Event) : Bool :=
  let k := c.task e.task
  k.running && k.runMain == e.mainCycle && k.runOffset == e.offset

/-- No run of a task is under way, so a diagnostic flush may run (R25 item 5). -/
def Chan.idleTime (c : Chan) : Bool := !c.tasks.any TaskState.running

/-- RECORD_APPEND (R25, R360, R365, R369): with no voted record pending, the oldest juridical event whose run is over is
appended; with none waiting, the flush in progress appends its next record in idle time. -/
def execRecordAppend (ch : Ch) (s : State) : Host.Outcome State Fault Refusal :=
  let c := s.ch ch
  if !c.live || !c.recd.started || c.recd.pending.isSome then .next s
  else
    match c.recd.queue.find? (fun e => !c.runUnderWay e) with
    | some e =>
      let (c', p) := { c with recd := { c.recd with queue := c.recd.queue.erase e } }.appendHead ch e
      .next { s.put ch c' with comparator := s.comparator ++ p.toList }
    | none => .next (if c.recd.flushing && c.idleTime then s.put ch (c.flushOne ch) else s)

/-- DIAG_FLUSH (R25, R368, R369): in idle time the flush in progress runs until the buffer is empty; a juridical append goes
first. -/
def execDiagFlush (ch : Ch) (s : State) : Host.Outcome State Fault Refusal :=
  .next (s.onLive ch (fun c =>
    if c.recd.started && c.recd.flushing && c.recd.pending.isNone && c.recd.queue.isEmpty && c.idleTime then
      let c := c.diagLost ch
      let c := c.flushMany ch c.recd.diag
      { c with recd := { c.recd with diag := [], flushing := false } }
    else c))

/-! ### The commit decision -/

/-- COMMIT of a presentation (Table 14-5): 1 with two alike, 2 against two that agree, else 0. -/
def commitOf (ps : List Presentation) (mine : Word) : Nat :=
  let same := (ps.filter (fun p => p.rcrc == mine)).length
  let pair := ps.any (fun p => decide (2 ≤ (ps.filter (fun q => q.rcrc == p.rcrc)).length))
  if 2 ≤ same then 1 else if pair then 2 else 0

/-- The decided record made valid; a dissent is counted and noted (R360 steps 3 and 4, R366). -/
def Chan.decided (c : Chan) (p : PendingRec) (commit : Nat) : Chan :=
  let c := { c with nv := c.nv.validate { p.record with commit := commit } }
  let run := if commit == 2 then c.recd.dissentRun + 1 else 0
  let c :=
    { c with
      recd :=
        { c.recd with
          pending := none
          dissentRun := run % 3
          dissentCnt := if commit == 2 then inc 8 c.recd.dissentCnt else c.recd.dissentCnt } }
  if commit == 2 then c.emit .recDissent 0 [w32 p.record.seq, p.record.rcrc] else c

/-- The decision as it comes to one channel; the third dissent in a row withdraws it (R367). -/
def State.decideFor (s : State) (key : PairKey) (ps : List Presentation) (ch : Ch) : State :=
  let c := s.ch ch
  match c.recd.pending with
  | some p =>
    if p.key == key && c.live then
      let commit := if c.vote.recFault then 0 else commitOf ps p.record.rcrc
      let third := commit == 2 && c.recd.dissentRun == 2
      let s := s.put ch (c.decided p commit)
      if third then s.withdraw ch else s
    else s
  | none => s

/-- COMMIT_DECISION (R366): the comparator decides the presentations of one pairing key. -/
def execCommitDecision (key : PairKey) (s : State) : Host.Outcome State Fault Refusal :=
  let ps := s.comparator.filter (fun p => p.key == key)
  let s := Ch.all.foldl (fun t ch => t.decideFor key ps ch) s
  .next { s with comparator := s.comparator.filter (fun p => p.key != key) }

/-! ### Power-fail and start -/

/-- The records still under way at a power-fail (R370): the pending one finishes uncommitted if nothing decided it, and
juridical events already created are written. -/
def Chan.finishPending (c : Chan) (me : Ch) : Chan :=
  let c :=
    match c.recd.pending with
    | some p => { c with nv := c.nv.validate p.record, recd := { c.recd with pending := none } }
    | none => c
  let c :=
    c.recd.queue.foldl (fun c e => c.appendNow me e (if e.name.cls == .channelLocal && !c.split then 3 else 0)) c
  { c with recd := { c.recd with queue := [] } }

/-- The power-fail flush (R370): at most 98,304 diagnostic records, the rest dropped, then PF_ANNOUNCED. -/
def Chan.powerFailFlush (c : Chan) (me : Ch) : Chan :=
  let c := c.finishPending me
  let n := min c.recd.diag.length 98304
  let dropped := c.recd.diag.length - n
  let c := c.flushMany me (c.recd.diag.take n)
  let c := c.appendNow me (c.ownEvent .pfAnnounced [w32 n, w32 dropped]) 0
  { c with recd := { c.recd with diag := [], flushing := false, lostCnt := satAdd 16 c.recd.lostCnt dropped } }

/-- PF_ANNOUNCED (R33, R370): the flush completes and the channel halts. A power-fail before P2 writes nothing. -/
def execPfAnnounced (ch : Ch) (s : State) : Host.Outcome State Fault Refusal :=
  .next (s.onLive ch (fun c =>
    if c.supply.powerFail then
      let c := if c.recd.started then c.powerFailFlush ch else c
      { c with supply := { c.supply with halted := true } }
    else c))

/-- H of R364: the highest of HEAD and HEAD + 1 whose slot holds its record, else HEAD. -/
def Nv.highest (v : Nv) : Nat :=
  if (v.recordOf (v.head + 1)).isSome then v.head + 1 else v.head

/-- The record H is a PF_ANNOUNCED marker (R371). -/
def Nv.announced (v : Nv) (h : Nat) : Bool :=
  match v.recordOf h with
  | some r => r.code == 0x0102
  | none => false

/-- The recorder's start (R364, R371): find H, declare a loss where no PF_ANNOUNCED closes the record, raise START, append
START. -/
def Chan.startRecorder (c : Chan) (me : Ch) : Chan :=
  if c.recd.started then c
  else
    let h := c.nv.highest
    let c := { c with recd := { c.recd with started := true, nextSeq := h + 1 } }
    let c :=
      if h == 0 || c.nv.announced h then c
      else
        let c := { c with nv := { c.nv with lost := (h + 1) :: c.nv.lost }, recd := { c.recd with nextSeq := h + 2 } }
        c.appendNow me (c.ownEvent .pfUnannounced [w32 (h + 1)]) 0
    let phase := c.nv.lastPhase
    let c := { c with nv := { c.nv with start := inc 16 c.nv.start, lastPhase := c.boot.phase } }
    c.appendNow me (c.ownEvent .start [w32 phase, w32 h]) 0

/-- RECORDER_START (R364): at P2. -/
def execRecorderStart (ch : Ch) (s : State) : Host.Outcome State Fault Refusal :=
  .next (s.onLive ch (fun c => if c.boot.phase == 2 && !c.boot.stopped then c.startRecorder ch else c))

/-! ### Clearing and the correction log -/

/-- A recorder clear takes effect (R374): a CLEAR record, which as a voted juridical record goes its usual way and sets
FLOOR as it is appended. -/
def Chan.clearRecorder (c : Chan) : Chan := c.emit .clear 0 [w32 c.recd.nextSeq]

/-- CORRECTION_LOG_EXPIRY (R375): an entry whose first correction lies more than 24 h back, in main cycles, is freed. -/
def execCorrectionLogExpiry (ch : Ch) (addr lane : Nat) (s : State) : Host.Outcome State Fault Refusal :=
  .next (s.onLive ch (fun c =>
    let old := fun (e : Correction) =>
      decide (86400000000 < (c.mainCycle - e.mainCycle) * c.periodUs 1) || e.start != c.nv.start
    { c with
      nv := { c.nv with corrections := c.nv.corrections.filter (fun e => !(e.addr == addr && e.lane == lane && old e)) } }))

/-- A corrected error entered in the correction log (R375) and written as a diagnostic record. -/
def Chan.logCorrection (c : Chan) (addr lane : Nat) : Chan :=
  let log := c.nv.corrections
  let log :=
    match log.find? (fun e => e.addr == addr && e.lane == lane) with
    | some _ => log.map (fun e => if e.addr == addr && e.lane == lane then { e with count := e.count + 1 } else e)
    | none =>
      let e : Correction := { addr := addr, lane := lane, count := 1, start := c.nv.start, mainCycle := c.mainCycle }
      if 1024 ≤ log.length then log.drop 1 ++ [e] else log ++ [e]
  let c := { c with nv := { c.nv with corrections := log } }
  c.emit .correction addr [w32 lane]

end Sys2Proof.Machine
end

