-- ==== Sys2Proof/Machine/Memory.lean ====
section
/-! DEFINITION. The memories of a channel and their byte lanes (spec/12_memory_and_arbiter.md R318, R322 to R327): the address
map, bytes written and copied, check bits, poisoned lanes, initialisation marks. Addresses are physical, before the bank
map of R334 (log 48). -/

namespace Sys2Proof.Machine

open Sys2Proof

/-! ### The address map (Table 12-1) -/

/-- Last 1 MiB DRAM region of a variant, plus one. -/
def dramRegions : Variant → Nat
  | .hx4096 => 512
  | .hx1024 => 128

/-- An address in on-chip SRAM. -/
def inSram (a : Nat) : Bool := decide (0x10000000 ≤ a) && decide (a < 0x10200000)

/-- An address in DRAM. -/
def inDram (v : Variant) (a : Nat) : Bool :=
  decide (0x40000000 ≤ a) && decide (a < 0x40000000 + dramRegions v * 0x100000)

/-- An address that Table 12-1 lists; any other is a bus fault (R318). -/
def listed (v : Variant) (a : Nat) : Bool :=
  inSram a || inDram v a || (decide (0x60000000 ≤ a) && decide (a < 0x64000000))

/-- An address in the tile store. -/
def inTileStore (a : Nat) : Bool := decide (0x10000000 ≤ a) && decide (a < 0x101C0000)

/-- The tile slot of an address in the tile store. -/
def slotOfAddr (a : Nat) : Nat := (a - 0x10000000) / 4096

/-- The 1 MiB region of a DRAM address (R327). -/
def regionOf (a : Nat) : Nat := (a - 0x40000000) / 0x100000

/-- The 4 KiB page of a DRAM address, counted from 0x4000_0000 (Table 12-18). -/
def pageOf (a : Nat) : Nat := (a - 0x40000000) / 4096

/-- Bank of a DRAM address (R318). -/
def bankOf (a : Nat) : Nat := (a - 0x40000000) / 0x4000000

/-- The first address of image staging's half `h` (R411). -/
def stagingBase (v : Variant) (h : Nat) : Nat :=
  (match v with
    | .hx4096 => 0x48000000
    | .hx1024 => 0x43800000) + h * 0x2000000

/-- The first address of the queue pool. -/
def poolBase : Variant → Nat
  | .hx4096 => 0x47000000
  | .hx1024 => 0x42800000

/-- The first address of the diagnostic buffer. -/
def bufferBase : Variant → Nat
  | .hx4096 => 0x4C000000
  | .hx1024 => 0x47800000

/-- First address after instance data. -/
def instEnd : Variant → Nat
  | .hx4096 => 0x47000000
  | .hx1024 => 0x42800000

/-- An address lies in a range of a length. -/
def within (lo len a : Nat) : Bool := decide (lo ≤ a) && decide (a < lo + len)

/-! ### Cells in canonical form -/

/-- The table with the entries of a range replaced by others, which lie in that range in rising order. -/
def spliced {α : Type} (t : List (Nat × α)) (lo len : Nat) (new : List (Nat × α)) : List (Nat × α) :=
  t.filter (fun e => decide (e.1 < lo)) ++ new ++ t.filter (fun e => decide (lo + len ≤ e.1))

/-- A table's entries in a range, moved to begin at `dst`. -/
def moved {α : Type} (t : List (Nat × α)) (src len dst : Nat) : List (Nat × α) :=
  (t.filter (fun e => within src len e.1)).map (fun e => (e.1 - src + dst, e.2))

/-- One byte as a cell; 0x00 is what an unlisted address reads as (log 14). -/
def cellOf (a : Nat) (b : Byte) : List Host.Cell := if b == 0 then [] else [(a, b)]

/-- A lane's check bits as an entry; none where they are the valid ones. -/
def checkOf (a : Nat) (x : BitVec 5) : List (Nat × BitVec 5) := if x == 0 then [] else [(a, x)]

/-- What is listed for an address; 0 where nothing is. -/
def Mem.byte (m : Mem) (a : Nat) : Byte := (m.data.lookup a).getD 0

/-- How a lane's check bits differ from the valid ones. -/
def Mem.diff (m : Mem) (a : Nat) : BitVec 5 := (m.check.lookup a).getD 0

/-- A lane's listing replaced: data and check bits together (R322, R323). -/
def Mem.putLane (m : Mem) (a : Nat) (b : Byte) (x : BitVec 5) : Mem :=
  { m with data := spliced m.data a 1 (cellOf a b), check := spliced m.check a 1 (checkOf a x) }

/-- A range with nothing listed. -/
def Mem.clearRange (m : Mem) (lo len : Nat) : Mem :=
  { m with data := spliced m.data lo len [], check := spliced m.check lo len [] }

/-- A range with the data listed of another, and valid check bits. -/
def Mem.copyRange (m : Mem) (src dst len : Nat) : Mem :=
  { m with data := spliced m.data dst len (moved m.data src len dst), check := spliced m.check dst len [] }

/-! ### Lanes (R322, R324) -/

/-- Check bits 4 and 3 inverted: the mark of a poisoned lane whose data is 0x00 (R324). -/
def poisonDiff : BitVec 5 := 0x18

/-- Number of inverted check bits. -/
def flips (x : BitVec 5) : Nat := ((List.range 5).filter (fun k => x.getLsbD k)).length

/-- What a checker decodes from a lane (R322, R324, R329): one inverted check bit is corrected, two are uncorrectable. What
three or more decode as the manual does not say (log 49). -/
def laneKind (b : Byte) (x : BitVec 5) : LaneKind :=
  match flips x with
  | 0 => .sound
  | 1 => .corrected
  | 2 => if b == 0 && x == poisonDiff then .poisoned else .uncorrectable
  | _ => Config.manyFlips b x

/-- A lane that delivers no data. -/
def laneBad (k : LaneKind) : Bool :=
  match k with
  | .uncorrectable => true
  | .poisoned => true
  | _ => false

/-- The initialisation mark of an address (R327); SRAM and MRAM have none. -/
def Mem.marked (m : Mem) (v : Variant) (a : Nat) : Bool := !inDram v a || m.marks.contains (regionOf a)

/-- Regions marked, in rising order. -/
def Mem.markRegions (m : Mem) (new : List Nat) : Mem :=
  { m with marks := (List.range 512).filter (fun r => m.marks.contains r || new.contains r) }

/-! ### The canonical form -/

/-- Addresses strictly rising. -/
def rising {α : Type} : List (Nat × α) → Bool
  | [] => true
  | [_] => true
  | a :: b :: t => decide (a.1 < b.1) && rising (b :: t)

/-- The memory is in canonical form: addresses strictly rising, no byte listed that reads 0x00 unlisted, no check bits
listed that are the valid ones. -/
def Mem.wf (m : Mem) : Bool :=
  rising m.data && m.data.all (fun e => e.2 != 0) && rising m.check && m.check.all (fun e => e.2 != 0)

/-! ### Errors logged (R322, R341, R375) -/

/-- MASTER of MEM.LAST_ERR (Table 12-13). -/
def masterIndex : Reader → Nat
  | .core => 0
  | .atomic _ => 0
  | .dma e => 1 + e
  | .queueManager => 5
  | .scrubber => 6
  | .bist => 7
  | .resolver _ => 8
  | .checkValue => 9

/-- KIND of MEM.LAST_ERR. -/
def kindCode : LaneKind → Nat
  | .sound => 0
  | .corrected => 1
  | .uncorrectable => 2
  | .poisoned => 3

/-- The most recent error. -/
def Mem.lastErr (m : Mem) (r : Reader) (addr lane : Nat) (k : LaneKind) : Mem :=
  { m with errAddr := addr / 4 * 4, errMaster := masterIndex r, errLane := lane % 4, errKind := kindCode k }

/-- A corrected lane counted, by memory (R341, R375). -/
def Mem.countCe (m : Mem) (addr : Nat) : Mem :=
  if inSram addr then { m with ceSram := inc 16 m.ceSram } else { m with ceDram := inc 16 m.ceDram }

/-- An uncorrectable or poisoned lane counted. -/
def Mem.countUe (m : Mem) (addr : Nat) : Mem :=
  if inSram addr then { m with ueSram := inc 16 m.ueSram } else { m with ueDram := inc 16 m.ueDram }

end Sys2Proof.Machine
end

