-- ==== Sys2Proof/Machine/Store.lean ====
section
/-! DEFINITION. What a channel keeps in its memories in its own form (spec/03_station_model.md R65, R71 to R77, R81;
spec/05_block_execution.md R133, R134, R149): the content of its tile slots, its master copies and its instance data; the
byte that an address holds; lanes read and written there. Every other part of the model holds canonical values (log 74). -/

namespace Sys2Proof.Machine

open Sys2Proof

/-! ### Content of state and input tiles -/

/-- The part of a list that tile `k` of a run holds with `per` records a tile. -/
def chunk {α : Type} (l : List α) (per k : Nat) : List α := (l.drop (per * k)).take per

/-- One RIN input word (R72): STATE and FAULT of an element from its source, 0 without one. -/
def Chan.rinWord (c : Chan) (im : InImg) (g : Image) (i : Nat) : Word :=
  match c.sourceState im (g.elem i) with
  | some (st, fault) => w32 (st.toNat + fault.toNat * 2 ^ 8)
  | none => 0

/-- The words of an entry of the request tile (R72). -/
def ReqEntry.words (e : ReqEntry) : List Word :=
  w32 (e.target % 2 ^ 18 + e.data.length % 1024 * 2 ^ 18 + e.op % 16 * 2 ^ 28) :: e.data

/-- Data word 0 of a reservation's messages (R72). -/
def rsvWord (id node : Nat) : Word := w32 (id % 65536 + node % 64 * 2 ^ 16)

/-- The report block of a reservation (R72): what the latest consolidated REPORT gives, zeros when it is stale. -/
def OutRsv.entry (r : OutRsv) : ReqEntry :=
  { op := 0xE, target := r.route
    data := rsvWord r.id r.owner :: (r.entries.mapIdx (fun k _ => if r.fresh then wordAt r.report k else 0)) }

/-- The payload of the request tile of a T1 run (R72). -/
def Chan.requestPayload (c : Chan) (im : InImg) : List Word :=
  (im.requests ++ (c.res.outRsv.filter (fun r => r.granted)).map OutRsv.entry).flatMap ReqEntry.words

/-- The two words of an ESTATE record. -/
def ERec.words (e : ERec) : List Word := [ERec.word0 e, ERec.word1 e]

/-- KIND, GEN, COUNT and canonical payload of the tile in a slot (R60, R65, R71, R72, R81). -/
def Chan.tileContent (c : Chan) (g : Image) (i : Nat) : Nat × Nat × Nat × List Word :=
  let kind := (g.kindAt i).getD 0
  let k := i - (g.run kind).1
  let im := (c.task 1).inImg
  if kind == 0x10 then
    let rs := chunk c.res.estate 511 k
    (kind, c.res.gen, rs.length, rs.flatMap ERec.words)
  else if kind == 0x11 then
    let rs := chunk c.res.rstate 255 k
    (kind, c.res.gen, rs.length, rs.flatMap RRec.words)
  else if kind == 0x12 then
    if k + 1 == (g.run kind).2 then (kind, c.mainCycle % 8, im.requests.length, c.requestPayload im)
    else
      let is := chunk (List.range g.elemSpan) 1022 k
      (kind, c.mainCycle % 8, is.length, is.map (c.rinWord im g))
  else
    let t := g.tiles.getD i default
    (kind, g.imageSeq % 8, t.count, t.payload)

/-! ### Instance data (R133, R134) -/

/-- The words of an instance's record, padded to its size (Table 05-4). -/
def Chan.instRecord (c : Chan) (im : Image) (d : InstDef) : List Word :=
  let ws := match c.blocks.inst d.id with
    | some i => instHeader d i.first ++ c.instFields im d i
    | none => []
  (ws ++ List.replicate (d.size - ws.length) 0).take d.size

/-- A page of instance data with the words of one record in their place; records stand on 16-byte boundaries (R133). -/
def putRecord (n : Nat) (page : List Word) (d : InstDef) (record : List Word) : List Word :=
  record.zipIdx.foldl (fun (ws : List Word) e =>
    let a := d.offset * 4 + e.2
    if a / 1024 == n then ws.set (a % 1024) e.1 else ws) page

/-- An instance's record reaches into a page. -/
def onPage (n : Nat) (d : InstDef) : Bool :=
  decide (d.offset * 4 < 1024 * (n + 1)) && decide (1024 * n < d.offset * 4 + d.size)

/-- A page of instance data in canonical form: 1,024 words (R178). -/
def Chan.pageWords (c : Chan) (n : Nat) : List Word :=
  match c.image with
  | none => []
  | some im => (im.insts.filter (onPage n)).foldl (fun ws d => putRecord n ws d (c.instRecord im d)) (List.replicate 1024 0)

/-- The pages an instance occupies. -/
def instPages (d : InstDef) : List Nat :=
  let first := d.offset * 4 / 1024
  let last := (d.offset * 4 + d.size - 1) / 1024
  (List.range (last + 1 - first)).map (fun k => first + k)

/-- The pages of instance data in use, of one task or of all. -/
def Image.pages (im : Image) (ofTask : InstDef → Bool) : List Nat :=
  ((im.insts.filter ofTask).flatMap instPages).eraseDups

/-- The pages of instance data in use by the running image. -/
def Chan.pagesInUse (c : Chan) : List Nat :=
  match c.image with
  | some im => im.pages (fun _ => true)
  | none => []

/-- A page as it stands in memory: with the records that the preparation of an armed exchange has written into free space
(R149). -/
def Chan.pageNow (c : Chan) (n : Nat) : List Word :=
  let page := c.pageWords n
  match c.image, c.blocks.staged.bind (fun k => k.image) with
  | some _, some new =>
    c.blocks.newInsts.foldl (fun ws i =>
      match new.inst i.id with
      | some d =>
        if onPage n d then
          let r := instHeader d i.first ++ i.fields
          putRecord n ws d ((r ++ List.replicate (d.size - r.length) 0).take d.size)
        else ws
      | none => ws) page
  | _, _ => page

/-- The key of a page (R134). -/
def Image.pageKey (im : Image) (p : Nat) : Word := im.instKeys.getD p 0

/-! ### Places -/

/-- A tile's slot (R76). -/
def slotAddr (i : Nat) : Nat := 0x10000000 + 4096 * i

/-- A tile's place in the master copy of a half of image staging (R77, R411). -/
def masterIn (v : Variant) (half i : Nat) : Nat := stagingBase v half + 0x1C00000 + 4096 * i

/-- A tile's place in the running image's master copy. -/
def Chan.masterAddr (c : Chan) (v : Variant) (i : Nat) : Nat := masterIn v c.blocks.half i

/-- The first address of instance data (Table 12-1). -/
def instBase : Nat := 0x41000000

/-! ### What the units last wrote at an address -/

/-- A tile of the running set as its writer stores it. -/
def Chan.storedAt (c : Chan) (me : Ch) (g : Image) (i : Nat) : List Word :=
  let (kind, gen, count, payload) := c.tileContent g i
  storedTile me (g.tileKey i) kind gen i count payload

/-- A tile of a staged set as its image carries it (R149). -/
def Image.stagedAt (g : Image) (me : Ch) (i : Nat) : List Word :=
  let t := g.tiles.getD i default
  storedTile me (g.tileKey i) t.kind (if digestKind t.kind then g.imageSeq % 8 else 0) i t.count t.payload

/-- A list of state records of the new set: each kept by its ID, new ones at their first value (R80, R150). -/
def carryRecords {α : Type} (old : List α) (used : Nat → Bool) (fresh : α) (n : Nat) : List α :=
  (List.range n).map (fun i => if used i then old.getD i fresh else fresh)

/-- The resolver's state by element and route ID (R80, R150). -/
def Chan.switchedRes (c : Chan) (old new : Image) : Resolver :=
  let elemKept := fun i => decide (i < old.elemSpan) && (old.elem i).typ != 0 && (new.elem i).typ != 0
  let routeKept := fun r => old.routeUsed r && new.routeUsed r
  { c.res with
    estate := carryRecords c.res.estate elemKept ERec.clear new.elemSpan
    rstate := carryRecords c.res.rstate routeKept RRec.released new.routeCount
    aux := carryRecords c.res.aux routeKept default new.routeCount }

/-- The channel as it stands with a new set in place of the running one. -/
def Chan.withSet (c : Chan) (old new : Image) : Chan := { c with image := some new, res := c.switchedRes old new }

/-- A tile of a set that R150 writes between the boundary check and the switch: not a PROG tile, nor a RIN tile. -/
def Image.stationTile (g : Image) (i : Nat) : Bool :=
  decide (i < g.tileCount) && g.kindAt i != some 0x18 && g.kindAt i != some 0x12

/-- The staged set whose tiles the boundary has written (R150). -/
def Chan.atBoundary (c : Chan) : Option Image :=
  if c.blocks.boundaryOk then c.blocks.staged.bind (fun s => s.image) else none

/-- The word of a tile slot as its unit last wrote it: of the running set, or from the boundary to the switch of the new one. -/
def Chan.slotWord (c : Chan) (me : Ch) (g : Image) (i k : Nat) : Word :=
  let own := if i < g.tileCount then wordAt (c.storedAt me g i) k else 0
  match c.atBoundary with
  | some n => if n.stationTile i then wordAt ((c.withSet g n).storedAt me n i) k else own
  | none => own

/-- The word of the staged set's master copy: as its image carries it once the exchange is prepared, the state tiles as built from
the old state once the boundary has passed (R149, R150). RIN tiles have none. -/
def Chan.stagedWord (c : Chan) (me : Ch) (g : Image) (i k : Nat) : Word :=
  match c.blocks.prepared, c.blocks.staged.bind (fun s => s.image) with
  | true, some n =>
    if i < n.tileCount && n.kindAt i != some 0x12 then
      let state := n.kindAt i == some 0x10 || n.kindAt i == some 0x11
      wordAt (if state && c.blocks.boundaryOk then (c.withSet g n).storedAt me n i else n.stagedAt me i) k
    else 0
  | _, _ => 0

/-- An address in the page table area (Table 12-1). -/
def inTables (a : Nat) : Bool := decide (0x40800000 ≤ a) && decide (a < 0x40900000)

/-- PPN of a page table entry (Table 12-2). -/
def ppn (w : Word) : Nat := w.toNat / 4096

/-- A page table entry with the pages that retirement has moved since, in the order of the list (R333). -/
def Nv.moveEntry (nv : Nv) (w : Word) : Word :=
  nv.retired.foldl (fun w e =>
    if e.valid && ppn w == 0x40000 + e.page then w32 (w.toNat % 4096 + (0x40900 + e.spare) * 4096) else w) w

/-- The bank whose addresses reach the spare bank of a DRAM address (R334); the address in it. -/
def Nv.bankHome (nv : Nv) (a : Nat) : Nat :=
  match (List.range 8).find? (fun k => decide (0x40000000 ≤ a) && k != bankOf a && nv.bankMap.getD k k == bankOf a) with
  | some k => a - bankOf a * 0x4000000 + k * 0x4000000
  | none => a

/-- The address whose content a DRAM address holds: for a spare page in use that of the page it stands for, for a spare bank in use
that of its bank. Memory is kept by the addresses before pages and banks were retired (R333, R334; log 48). -/
def Nv.home (nv : Nv) (a : Nat) : Nat :=
  nv.bankHome <| nv.retired.foldr (fun e a =>
    let spare := 0x40900000 + 4096 * e.spare
    if e.valid && decide (spare ≤ a) && decide (a < spare + 4096) then 0x40000000 + 4096 * e.page + (a - spare) else a) a

/-- A word of the page table area as firmware last wrote it. -/
def Chan.tableWord (c : Chan) (a : Nat) : Word :=
  if c.mem.tables then c.nv.moveEntry (Config.tableEntry ((a - 0x40800000) / 4)) else 0

/-- The word that a unit last wrote at the place of an address: a page table entry, a tile in its slot or master copy (RIN tiles
have none there), a tile of the staged set once the exchange is prepared, a page of instance data. 0 elsewhere. -/
def Chan.baseWord (c : Chan) (me : Ch) (v : Variant) (a : Nat) : Word :=
  if inTables a then c.tableWord a
  else
  match c.image with
  | none => 0
  | some g =>
    let k := a % 4096 / 4
    let other := masterIn v (1 - c.blocks.half) 0
    if inTileStore a then c.slotWord me g (slotOfAddr a) k
    else if within (c.masterAddr v 0) 0x400000 a then
      let i := (a - c.masterAddr v 0) / 4096
      if i < g.tileCount && g.kindAt i != some 0x12 then wordAt (c.storedAt me g i) k else 0
    else if within other 0x400000 a then c.stagedWord me g ((a - other) / 4096) k
    else if decide (instBase ≤ a) && decide (a < instEnd v) then
      let p := (a - instBase) / 4096
      if c.pagesInUse.contains p || !c.blocks.newInsts.isEmpty then encodeForm me (g.pageKey p) p (wordAt (c.pageNow p) k)
      else 0
    else 0

/-- A range holds an address at which units keep what they write. -/
def Chan.hasBase (c : Chan) (v : Variant) (lo len : Nat) : Bool :=
  let meets := fun (a n : Nat) => decide (lo < a + n) && decide (a < lo + len)
  (c.mem.tables && meets 0x40800000 0x100000) ||
    (c.image.isSome &&
      (meets 0x10000000 0x1C0000 || meets instBase (instEnd v - instBase) || meets (masterIn v 0 0) 0x400000 ||
        meets (masterIn v 1 0) 0x400000))

/-- A byte that a unit last wrote at an address. -/
def Chan.baseByte (c : Chan) (me : Ch) (v : Variant) (a : Nat) : Byte :=
  if c.hasBase v a 1 then (c.baseWord me v a >>> (8 * (a % 4))).setWidth 8 else 0

/-! ### Lanes -/

/-- The data bits of the lane at an address: what a unit last wrote there, with what is listed of later changes. -/
def Chan.byteAt (c : Chan) (me : Ch) (v : Variant) (a : Nat) : Byte := c.baseByte me v a ^^^ c.mem.byte a

/-- The bytes of a range. -/
def Chan.bytesAt (c : Chan) (me : Ch) (v : Variant) (lo len : Nat) : List Byte :=
  (List.range len).map (fun k => c.byteAt me v (lo + k))

/-- What a checker finds in the lane at an address (R322, R324). -/
def Chan.kindAt (c : Chan) (me : Ch) (v : Variant) (a : Nat) : LaneKind := laneKind (c.byteAt me v a) (c.mem.diff a)

/-- Some lane of a range delivers no data. -/
def Chan.rangeBad (c : Chan) (me : Ch) (v : Variant) (lo len : Nat) : Bool :=
  c.mem.check.any (fun e => within lo len e.1 && laneBad (c.kindAt me v e.1))

/-- A lane written: data and check bits together (R322, R323). -/
def Chan.putLane (c : Chan) (me : Ch) (v : Variant) (a : Nat) (b : Byte) (x : BitVec 5) : Chan :=
  { c with mem := c.mem.putLane a (c.baseByte me v a ^^^ b) x }

/-- A lane poisoned (R324). -/
def Chan.poisonAt (c : Chan) (me : Ch) (v : Variant) (a : Nat) : Chan := c.putLane me v a 0 poisonDiff

/-- Listings that make a range hold these bytes, in rising order. -/
def Chan.cellsFor (c : Chan) (me : Ch) (v : Variant) (lo : Nat) (bs : List Byte) : List Host.Cell :=
  bs.zipIdx.flatMap (fun e => cellOf (lo + e.2) (e.1 ^^^ c.baseByte me v (lo + e.2)))

/-- A range written with bytes and valid check bits. -/
def Chan.putBytes (c : Chan) (me : Ch) (v : Variant) (lo : Nat) (bs : List Byte) : Chan :=
  { c with
    mem :=
      { c.mem with
        data := spliced c.mem.data lo bs.length (c.cellsFor me v lo bs), check := spliced c.mem.check lo bs.length [] } }

/-- A range written with zero data and valid check bits. -/
def Chan.zeroRange (c : Chan) (me : Ch) (v : Variant) (lo len : Nat) : Chan :=
  if c.hasBase v lo len then c.putBytes me v lo (List.replicate len 0) else { c with mem := c.mem.clearRange lo len }

/-- A range written with what another holds, with valid check bits. -/
def Chan.copyRange (c : Chan) (me : Ch) (v : Variant) (src dst len : Nat) : Chan :=
  if c.hasBase v src len || c.hasBase v dst len then c.putBytes me v dst (c.bytesAt me v src len)
  else { c with mem := c.mem.copyRange src dst len }

/-- A range that its unit writes afresh (R323). -/
def Chan.rewrite (c : Chan) (lo len : Nat) : Chan := { c with mem := c.mem.clearRange lo len }

/-- A correction at an SRAM lane counted; MEM.RETIRE_THRESH of them within 24 h, in main cycles, set the bank's bit (R332). -/
def Chan.countSram (c : Chan) (a : Nat) : Chan :=
  let here := fun (e : Correction) => e.addr == a / 4 * 4 && e.lane == a % 4
  let young := fun (e : Correction) => decide ((c.mainCycle - e.mainCycle) * c.periodUs 1 ≤ 86400000000)
  let e := match c.mem.sramLog.find? (fun e => here e && young e) with
    | some e => { e with count := e.count + 1 }
    | none => { addr := a / 4 * 4, lane := a % 4, count := 1, start := c.nv.start, mainCycle := c.mainCycle }
  let m := { c.mem with sramLog := e :: c.mem.sramLog.filter (fun e => !here e && young e) }
  if c.stat 0x0407 ≤ e.count then
    { c with mem := { m with sramHard := putBit m.sramHard ((a - 0x10000000) / 0x40000) true } }
  else { c with mem := m }

/-- A correction at a lane address: logged in LAST_ERR; in SRAM counted, in DRAM entered in the correction log (R322, R332,
R375). -/
def Chan.noteCorrected (c : Chan) (v : Variant) (r : Reader) (a : Nat) : Chan :=
  let c := { c with mem := c.mem.lastErr r a (a % 4) .corrected }
  if inDram v a then c.logCorrection (a / 4 * 4) (a % 4) else if inSram a then c.countSram a else c

/-- A demand read's correction at a lane address. -/
def Chan.corrected (c : Chan) (v : Variant) (r : Reader) (a : Nat) : Chan :=
  { c with mem := c.mem.countCe a }.noteCorrected v r a

/-! ### Slots and the master copy -/

/-- The mark of a slot cleared: a writer of R78 has written into it (R82). -/
def TileState.unmark (t : TileState) (i : Nat) : TileState := { t with marks := tabDel t.marks i }

/-- The marks of the slots that a range reaches into cleared. -/
def TileState.unmarkRange (t : TileState) (lo len : Nat) : TileState :=
  { t with marks := t.marks.filter (fun m => !(decide (lo < slotAddr (m.1 + 1)) && decide (slotAddr m.1 < lo + len))) }

/-- A tile slot written by the commit port or the resolver-input writer (R78, R82). -/
def Chan.rewriteSlot (c : Chan) (i : Nat) : Chan := { c.rewrite (slotAddr i) 4096 with tiles := c.tiles.unmark i }

/-- A tile slot loaded from the master copy by DMA engine 0 (R84): both hold the tile as its writer stored it, and what the
master copy's bytes differ by goes with them. -/
def Chan.reloadSlot (c : Chan) (v : Variant) (i : Nat) : Chan :=
  { c with mem := c.mem.copyRange (c.masterAddr v i) (slotAddr i) 4096, tiles := c.tiles.unmark i }

/-- A lane of a tile slot delivers no data (R84). -/
def Chan.slotBad (c : Chan) (me : Ch) (v : Variant) (i : Nat) : Bool := c.rangeBad me v (slotAddr i) 4096

/-- The word at an address with what is listed of changes to it. -/
def Mem.wordDiff (m : Mem) (a : Nat) : Word :=
  w32 ((m.byte a).toNat + (m.byte (a + 1)).toNat * 2 ^ 8 + (m.byte (a + 2)).toNat * 2 ^ 16 + (m.byte (a + 3)).toNat * 2 ^ 24)

/-- The 1,024 words of a tile as memory holds them at an address: as stored, with the changes listed. -/
def Chan.tileWordsAt (c : Chan) (me : Ch) (g : Image) (i addr : Nat) : List Word :=
  (c.storedAt me g i).zipIdx.map (fun w => w.1 ^^^ c.mem.wordDiff (addr + 4 * w.2))

end Sys2Proof.Machine
end

