-- ==== Sys2Proof/Machine/Tiles.lean ====
section
/-! DEFINITION. Tiles of a channel as its store holds them (spec/03_station_model.md R77 to R90): verification at use, reload,
writes into slots and master copies, and PROG tiles. -/

namespace Sys2Proof.Machine

open Sys2Proof

/-- The words with bits flipped. -/
def flipped (ws : List Word) (flips : List (Nat × Word)) : List Word :=
  flips.foldl (fun w f => modAt w f.1 (· ^^^ f.2)) ws

/-- An RSTATE record of a tile holds a code that R71 does not list. -/
def badCode (ch : Ch) (key : Word) (index : Nat) (ws : List Word) (count : Nat) : Bool :=
  (List.range count).any (fun r =>
    !routeCodes.contains ((decodeForm ch key index (wordAt ws (4 * r))).setWidth 8))

/-- What a check-value unit finds in the words of a tile: a cause of Table 03-15, or 0 (R81, R84); `lost` says that a lane of it
delivers no data. -/
def Chan.wordsFinding (c : Chan) (me : Ch) (g : Image) (i : Nat) (ws : List Word) (lost : Bool) : Nat :=
  if lost then 6
  else
    let (kind, gen, count, _) := c.tileContent g i
    match tileCause ws me kind gen i with
    | 0 => if kind == 0x11 && badCode me (g.tileKey i) i ws count then 7 else 0
    | n => n

/-- What the unit finds in a slot, bits flipped on the way apart. -/
def Chan.tileFinding (c : Chan) (me : Ch) (v : Variant) (g : Image) (i : Nat) (flips : List (Nat × Word)) (poison : Bool) : Nat :=
  c.wordsFinding me g i (flipped (c.tileWordsAt me g i (slotAddr i)) flips) (poison || c.slotBad me v i)

/-! ### Marks (R81 to R85) -/

/-- The mark of a slot. -/
def TileState.mark (t : TileState) (i : Nat) : Mark := (tabGet t.marks i).getD .unverified

/-- A slot's mark set. -/
def TileState.setMark (t : TileState) (i : Nat) (m : Mark) : TileState := { t with marks := tabPut t.marks i m }

/-- The cause for which a slot is marked failed. -/
def TileState.failedFor (t : TileState) (i : Nat) : Option Nat :=
  match t.mark i with
  | .failed cause => some cause
  | _ => none

/-- A failed check counted and kept as the most recent failure (R89). -/
def TileState.failure (t : TileState) (main cause i : Nat) : TileState :=
  { t with vfailCnt := inc 16 t.vfailCnt, failCycle := main % 65536, failCause := cause, failIndex := i }

/-- A resolver pass runs: from the input image of T1's run to its vote set (TILE.STATUS.PASS_ACTIVE). -/
def Chan.passActive (c : Chan) : Bool := c.inRun 1

/-- A resident tile of the running set that a pass under way may read. -/
def Chan.resolverTile (c : Chan) (i : Nat) : Option Image :=
  match c.image with
  | some g => if c.boot.phase == 7 && c.passActive && decide (i < 448) && decide (i < g.tileCount) then some g else none
  | none => none

/-- A tile fails its check: counted, marked, recorded (R84). -/
def Chan.failTile (c : Chan) (i cause : Nat) : Chan :=
  { c with tiles := (c.tiles.failure c.mainCycle cause i).setMark i (.failed cause) }.emitTask 1 .tileFail i [w32 cause]

/-- Every mark cleared and the reload count at 0 (R82). -/
def TileState.begin (t : TileState) : TileState := { t with marks := [], used := 0 }

/-- The marks of a task's PROG tiles end with its next release (R88). -/
def TileState.beginTask (t : TileState) (task : Nat) : TileState :=
  { t with
    progMarks := t.progMarks.filter (fun m => m.1 != task)
    progFailed := t.progFailed.filter (fun m => m.1 != task)
    progUsed := tabDel t.progUsed task }

/-- TILE.RELOAD_BUDGET. -/
def Chan.reloadBudget (c : Chan) : Nat := c.act 0x0705

/-- A task's run abandoned over a tile and the channel withdrawn (R85). -/
def State.abandonRun (s : State) (ch : Ch) (task i : Nat) : State :=
  let s := s.mod ch (fun c =>
    let c := { c with tiles := c.tiles.failure c.mainCycle 8 i }
    let c := c.emitTask task .tileReloadFault i [w32 8]
    c.modTask task TaskState.stopRun)
  s.withdraw ch

/-- One tile before a lane reads it (R81, R83, R84): a verified tile is read without a further check and fails only over a lane
that delivers no data; a failed one waits for its reload; any other is streamed through the unit. -/
def Chan.verifyTile (c : Chan) (me : Ch) (v : Variant) (g : Image) (i : Nat) (flips : List (Nat × Word)) (poison : Bool) : Chan :=
  match c.tiles.mark i with
  | .failed _ => c
  | .verified => if poison || c.slotBad me v i then c.failTile i 6 else c
  | _ =>
    match c.tileFinding me v g i flips poison with
    | 0 => { c with tiles := c.tiles.setMark i .verified }
    | cause => c.failTile i cause

/-- The tiles that a pass reads: every one but PROG tiles (that it reads each of them is a DESIGN CHOICE, log 75). -/
def Image.passTiles (g : Image) : List Nat := (List.range g.tileCount).filter (fun i => g.kindAt i != some 0x18)

/-- A pass's tiles verified before their first read. -/
def Chan.verifyPass (c : Chan) (me : Ch) (v : Variant) : Chan :=
  match c.image with
  | none => c
  | some g => g.passTiles.foldl (fun c i => c.verifyTile me v g i [] false) c

/-- Every tile that a pass reads is marked verified; otherwise its lanes wait (R83). -/
def Chan.passReady (c : Chan) : Bool :=
  match c.image with
  | none => true
  | some g => g.passTiles.all (fun i => c.tiles.mark i == .verified)

/-! ### Writes into slots and master copies (R77, R78, R82, R86, R87) -/

/-- Tiles of a kind. -/
def Image.indicesOf (g : Image) (kind : Nat) : List Nat := (List.range (g.run kind).2).map (fun k => (g.run kind).1 + k)

/-- The state tiles. -/
def Image.stateTiles (g : Image) : List Nat := g.indicesOf 0x10 ++ g.indicesOf 0x11

/-- A tile of the running set's master copy delivers no data (R88); RIN tiles have none (R77). -/
def Chan.masterBad (c : Chan) (me : Ch) (v : Variant) (g : Image) (i : Nat) : Bool :=
  g.kindAt i != some 0x12 && c.rangeBad me v (c.masterAddr v i) 4096

/-- A tile of the master copy written afresh; a constant one from the container, only while the running container is sound
(Table 12-5). -/
def Chan.rebuildMaster (c : Chan) (v : Variant) (g : Image) (i : Nat) : Chan :=
  if c.mem.stagingDamaged && !g.stateTiles.contains i then c else c.rewrite (c.masterAddr v i) 4096

/-- The state tiles written through the commit port, and their master copies brought up to date (R77, R86). -/
def Chan.writeStates (c : Chan) (v : Variant) : Chan :=
  match c.image with
  | none => c
  | some g => g.stateTiles.foldl (fun c i => (c.rewriteSlot i).rebuildMaster v g i) c

/-- The state tiles written outside a pass: stamped with one GEN, which the resolver expects from then on (R87). -/
def Chan.stampStates (c : Chan) (v : Variant) (gen : Nat) : Chan := { c with res := { c.res with gen := gen % 8 } }.writeStates v

/-- The RIN tiles written by the resolver-input writer before the pass (R78). -/
def Chan.writeRin (c : Chan) : Chan :=
  match c.image with
  | none => c
  | some g => (g.indicesOf 0x12).foldl (fun c i => c.rewriteSlot i) c

/-- The whole tile store and master copy written from the running image, every mark cleared (R77, R79, R85). -/
def Chan.buildStore (c : Chan) (v : Variant) : Chan :=
  { (c.rewrite (slotAddr 0) 0x1C0000).rewrite (c.masterAddr v 0) 0x400000 with tiles := c.tiles.begin }

/-- A slot loaded as R84 says: a RIN tile by the resolver-input writer, any other from the master copy. -/
def Chan.loadSlot (c : Chan) (v : Variant) (g : Image) (i : Nat) : Chan :=
  if g.kindAt i == some 0x12 then c.rewriteSlot i else c.reloadSlot v i

/-- A tile that the scrubber found damaged, reloaded by firmware; one found sound is left (R88). A master copy that delivers no
data is rebuilt first, if it can be; if not the slot stays as it is. -/
def Chan.firmwareReload (c : Chan) (me : Ch) (v : Variant) (i : Nat) : Chan :=
  match c.image with
  | none => c
  | some g =>
    if !c.slotBad me v i then c
    else
      let c := if c.masterBad me v g i then c.rebuildMaster v g i else c
      if c.masterBad me v g i then c
      else
        { c.loadSlot v g i with tiles := { c.tiles.unmark i with reloadCnt := inc 16 c.tiles.reloadCnt } }.emitTask 1 .tileReload i
          [w32 6]

/-- After a pass has committed (R86, R88, Table 12-5): the state tiles and their master copies are written, and what was
deferred is done. -/
def Chan.afterCommit (c : Chan) (me : Ch) (v : Variant) : Chan :=
  match c.image with
  | none => c
  | some g =>
    let c := c.writeStates v
    let c := c.tiles.masterDue.foldl (fun c i => c.rebuildMaster v g i) c
    let c := c.tiles.reloadDue.foldl (fun c i => c.firmwareReload me v i) c
    { c with tiles := { c.tiles with reloadDue := [], masterDue := [] } }

/-! ### Commands -/

/-- TILE_VERIFY (R81, R84): a tile streamed through the tile check-value unit in a pass is marked verified or failed. -/
def execTileVerify (ch : Ch) (tile : Nat) (flips : List (Nat × Word)) (poison : Bool) (s : State) :
    Host.Outcome State Fault Refusal :=
  .next (s.onLive ch (fun c =>
    match c.resolverTile tile with
    | none => c
    | some g => c.verifyTile ch s.factory.variant g tile flips poison))

/-- TILE_RELOAD (R84, R85): a failed tile is reloaded and verified again; a second failure or an exhausted budget
abandons the pass. -/
def execTileReload (ch : Ch) (tile : Nat) (flips : List (Nat × Word)) (poison : Bool) (s : State) :
    Host.Outcome State Fault Refusal :=
  let v := s.factory.variant
  let c := s.ch ch
  match c.resolverTile tile, c.tiles.failedFor tile, c.live with
  | some g, some cause, true =>
    if c.reloadBudget ≤ c.tiles.used then .next (s.abandonRun ch 1 tile)
    else
      let lost := poison || c.masterBad ch v g tile
      let s := s.mod ch (fun c =>
        let t := { c.tiles with used := c.tiles.used + 1, reloadCnt := inc 16 c.tiles.reloadCnt }
        ({ c with tiles := t }.emitTask 1 .tileReload tile [w32 cause]).loadSlot v g tile)
      match (s.ch ch).tileFinding ch v g tile flips lost with
      | 0 => .next (s.mod ch (fun c => { c with tiles := c.tiles.setMark tile .verified }))
      | _ => .next (s.abandonRun ch 1 tile)
  | _, _, _ => .next s

/-! ### PROG tiles (R88) -/

/-- A PROG tile of the running set. -/
def Chan.progTile (c : Chan) (task i : Nat) : Option Image :=
  match c.image with
  | some g =>
    if c.boot.phase == 7 && g.kindAt i == some 0x18 && (c.taskDef task).present then some g else none
  | none => none

/-- Where a PROG tile is read from: its slot, or for one without a slot, or one whose slot still holds the tile of the image
before a switch, the master copy (R76, R88, R151). -/
def Chan.progAddr (c : Chan) (v : Variant) (i : Nat) : Nat :=
  if i < 448 && !c.tiles.stale.contains i then slotAddr i else c.masterAddr v i

/-- The copy of a PROG tile in firmware-private SRAM. -/
def progCopyAddr (i : Nat) : Nat := 0x101C0000 + 4096 * (Config.progPlace i).toNat

/-- What the general check-value unit finds in a PROG tile. -/
def Chan.progFinding (c : Chan) (me : Ch) (v : Variant) (g : Image) (i : Nat) (flips : List (Nat × Word)) (poison : Bool) : Nat :=
  let a := c.progAddr v i
  c.wordsFinding me g i (flipped (c.tileWordsAt me g i a) flips) (poison || c.rangeBad me v a 4096)

/-- A PROG tile found sound for a run: marked, and copied where it is not read in a slot. -/
def Chan.progSound (c : Chan) (me : Ch) (v : Variant) (g : Image) (task i : Nat) : Chan :=
  let a := c.progAddr v i
  let c := if a == slotAddr i then c else c.putBytes me v (progCopyAddr i) (wordsBytes (c.tileWordsAt me g i a))
  { c with
    tiles :=
      { c.tiles with
        progMarks := (task, i) :: c.tiles.progMarks
        progFailed := c.tiles.progFailed.filter (fun m => !(m.1 == task && m.2.1 == i)) } }

/-- A PROG tile found unsound for a run. -/
def Chan.progFails (c : Chan) (task i cause : Nat) : Chan :=
  let t := c.tiles.failure c.mainCycle cause i
  { c with tiles := { t with progFailed := (task, i, cause) :: t.progFailed } }.emitTask task .tileFail i [w32 cause]

/-- The cause for which a PROG tile failed for a task's run. -/
def TileState.progFailedFor (t : TileState) (task i : Nat) : Option Nat :=
  (t.progFailed.find? (fun m => m.1 == task && m.2.1 == i)).map (fun m => m.2.2)

/-- A PROG tile before its first use in a task's run: verified, or marked failed and left to its reload. -/
def Chan.verifyProg (c : Chan) (me : Ch) (v : Variant) (g : Image) (task i : Nat) (flips : List (Nat × Word)) (poison : Bool) :
    Chan :=
  if c.tiles.progMarks.contains (task, i) || (c.tiles.progFailedFor task i).isSome then c
  else
    match c.progFinding me v g i flips poison with
    | 0 => c.progSound me v g task i
    | cause => c.progFails task i cause

/-- The PROG tiles that a task's run uses. -/
def Image.progTiles (g : Image) (task : Nat) : List Nat := (g.indicesOf 0x18).filter (Config.progUses task)

/-- The PROG tiles of a task's run verified before their use. -/
def Chan.verifyProgs (c : Chan) (me : Ch) (v : Variant) (task : Nat) : Chan :=
  match c.image with
  | none => c
  | some g => (g.progTiles task).foldl (fun c i => c.verifyProg me v g task i [] false) c

/-- Every PROG tile that a task's run uses is verified. -/
def Chan.progReady (c : Chan) (task : Nat) : Bool :=
  match c.image with
  | none => true
  | some g => (g.progTiles task).all (fun i => c.tiles.progMarks.contains (task, i))

/-- PROG_TILE_VERIFY (R88): the first use of a PROG tile in a task cycle verifies it, resident or copied; a tile that
failed is reloaded and verified at its next command, under the budget and outcome of R84 and R85. -/
def execProgTileVerify (ch : Ch) (task tile : Nat) (flips : List (Nat × Word)) (poison : Bool) (s : State) :
    Host.Outcome State Fault Refusal :=
  let v := s.factory.variant
  let c := s.ch ch
  match c.progTile task tile, c.live with
  | some g, true =>
    match c.tiles.progFailedFor task tile with
    | some cause =>
      let used := (tabGet c.tiles.progUsed task).getD 0
      if c.reloadBudget ≤ used then .next (s.abandonRun ch task tile)
      else
        let lost := poison || c.masterBad ch v g tile
        let s := s.mod ch (fun c =>
          let t := { c.tiles with progUsed := tabPut c.tiles.progUsed task (used + 1), reloadCnt := inc 16 c.tiles.reloadCnt }
          let c := { c with tiles := t }.emitTask task .tileReload tile [w32 cause]
          if c.progAddr v tile == slotAddr tile then c.reloadSlot v tile else c)
        if (s.ch ch).progFinding ch v g tile flips lost == 0 then .next (s.mod ch (fun c => c.progSound ch v g task tile))
        else .next (s.abandonRun ch task tile)
    | none => .next (s.mod ch (fun c => c.verifyProg ch v g task tile flips poison))
  | _, _ => .next s

end Sys2Proof.Machine
end

