-- ==== Sys2Proof/Machine/Locks.lean ====
section
/-! DEFINITION. Locks on elements (spec/04_route_resolver.md R94 to R106, R451): what a pass works on, freedom of an
element, flank chains, overlaps, taking and giving back. -/

namespace Sys2Proof.Machine

open Sys2Proof

/-- What a pass reads and does not change: the set, T1's input image, the timer settings, the main cycle, the cluster
cycle, the T1 period in µs, the elements that a welded contactor serves (R198), and the elements whose FLANK_CNT stands in a
lane that delivers no data (R325). -/
structure PassCtx where
  g : Image
  im : InImg
  posTime : Nat
  rsvTime : Nat
  holdTime : Nat
  main : Nat
  cluster : Nat
  periodUs : Nat
  welded : List Nat
  stuck : List Nat
  deriving DecidableEq, Repr, Inhabited

/-- What a pass changes: the resolver, and the events it records in order. -/
structure Pass where
  res : Resolver
  log : List (EvName × Nat × List Word)
  deriving DecidableEq, Repr, Inhabited

/-! ### Reading and writing -/

/-- An element's record. -/
def Pass.elem (p : Pass) (id : Nat) : ERec := p.res.elem id

/-- An element's record changed. -/
def Pass.setElem (p : Pass) (id : Nat) (f : ERec → ERec) : Pass :=
  { p with res := { p.res with estate := modAt p.res.estate (idLocal id) f } }

/-- A route's record by local index. -/
def Pass.route (p : Pass) (r : Nat) : RRec := p.res.rstate.getD r RRec.released

/-- A route's record changed. -/
def Pass.setRoute (p : Pass) (r : Nat) (f : RRec → RRec) : Pass :=
  { p with res := { p.res with rstate := modAt p.res.rstate r f } }

/-- What is held for a route beside its record. -/
def Pass.aux (p : Pass) (r : Nat) : RouteAux := p.res.aux.getD r default

/-- The same changed. -/
def Pass.setAux (p : Pass) (r : Nat) (f : RouteAux → RouteAux) : Pass :=
  { p with res := { p.res with aux := modAt p.res.aux r f } }

/-- An event of the pass. -/
def Pass.note (p : Pass) (name : EvName) (obj : Nat) (data : List Word) : Pass := { p with log := p.log ++ [(name, obj, data)] }

/-- The ID of an own route. -/
def PassCtx.rid (x : PassCtx) (r : Nat) : Nat := x.g.node * 4096 + r

/-- The type of an own element; 0 for another module's. -/
def PassCtx.typ (x : PassCtx) (id : Nat) : Nat := if idNode id == x.g.node then (x.g.elem (idLocal id)).typ else 0

/-- An element of this module. -/
def PassCtx.own (x : PassCtx) (id : Nat) : Bool := x.typ id != 0

/-- A route takes a state, recorded (R93). -/
def Pass.become (p : Pass) (x : PassCtx) (r : Nat) (code : Byte) : Pass :=
  (p.setRoute r (fun q => { q with state := code })).note .routeState (x.rid r)
    [w32 (p.route r).state.toNat, w32 code.toNat]

/-- A timer loaded with 10 × P + 1 (R110). -/
def Pass.load (p : Pass) (r seconds kind : Nat) : Pass :=
  p.setRoute r (fun q => { q with timer := 10 * seconds + 1, tkind := kind })

/-- A timer cleared. -/
def Pass.stopTimer (p : Pass) (r : Nat) : Pass := p.setRoute r (fun q => { q with timer := 0, tkind := 0 })

/-- DETAIL of a route's entry signal set. -/
def Pass.setSignal (p : Pass) (x : PassCtx) (r : Nat) (detail : Byte) : Pass :=
  match linkElem (x.g.route r).entry with
  | some id => if x.own id then p.setElem id (fun e => { e with detail := detail }) else p
  | none => p

/-! ### Lists of a route -/

/-- The position code a REQ names (Table 03-9). -/
def posCode (req : Nat) : Option Byte :=
  match req with
  | 1 | 3 => some 0x96
  | 2 | 6 => some 0x69
  | 4 => some 0x5A
  | 5 => some 0xA5
  | _ => none

/-- Types that a route takes ownership of (R94). -/
def isLockable (typ : Nat) : Bool := isPointType typ || typ == 0x10 || isSignalType typ

/-- Path entries. -/
def PassCtx.path (x : PassCtx) (r : Nat) : List LEntry := (x.g.listOf (x.g.route r).path).filter (fun e => e.role == 1)

/-- Release triggers. -/
def PassCtx.triggers (x : PassCtx) (r : Nat) : List LEntry := (x.g.listOf (x.g.route r).path).filter (fun e => e.role == 6)

/-- Entries of an overlap record. -/
def PassCtx.overlap (x : PassCtx) (j : Nat) : List LEntry := x.g.listOf (x.g.ovl j).path

/-- Entries of the overlap a route has selected. -/
def PassCtx.selected (x : PassCtx) (p : Pass) (r : Nat) : List LEntry :=
  let j := (p.route r).ovl
  if j == 0x1FFF then [] else x.overlap j

/-- Approach sections. -/
def PassCtx.approach (x : PassCtx) (r : Nat) : List LEntry := x.g.listOf (x.g.route r).approach

/-- One entry more of a flank list: an entry of ROLE 0x3 begins a chain. -/
def addFlank (cs : List (List Word)) (w : Word) : List (List Word) :=
  if (lentry w).role == 3 then cs ++ [[w]]
  else
    match cs.reverse with
    | [] => [[w]]
    | last :: rest => rest.reverse ++ [last ++ [w]]

/-- Flank entry words as chains (R105). -/
def chainsOf (ws : List Word) : List (List Word) := ws.foldl addFlank []

/-- The flank chains of a route. -/
def PassCtx.chains (x : PassCtx) (r : Nat) : List (List LEntry) :=
  (chainsOf (x.g.listWords (x.g.route r).flank)).map (fun c => c.map lentry)

/-- The group a chain is tied to (R106). -/
def chainGroup (c : List LEntry) : Nat := (c.head?.map (fun e => e.group)).getD 0

/-- The group of a route's chain by its number. -/
def PassCtx.groupOf (x : PassCtx) (r k : Nat) : Nat := chainGroup ((x.chains r).getD k [])

/-- The part of a chain that the module of its first entry of another module searches: that entry and those of the same module
that follow it (R105; which part it is, is a DESIGN CHOICE, log 76). -/
def remotePart (own : Nat) (c : List Word) : List Word :=
  match c.dropWhile (fun w => idNode (lentry w).elem == own) with
  | [] => []
  | w :: ws => w :: ws.takeWhile (fun u => idNode (lentry u).elem == idNode (lentry w).elem)

/-- The last sectional release group of a route. -/
def PassCtx.lastGroup (x : PassCtx) (r : Nat) : Nat := (x.path r).foldl (fun m e => max m e.group) 0

/-! ### Reports of other modules (R98) -/

/-- ESTATE word 0 of an element of another module as reported for a route. -/
def Pass.reported (p : Pass) (rid id : Nat) : Option Word :=
  p.res.outRsv.findSome? (fun v =>
    if v.route == rid && v.granted && v.fresh then
      match v.entries.findIdx? (fun w => (lentry w).elem == id) with
      | some k => v.report[k]?
      | none => none
    else none)

/-- ESTATE word 0 that a route's list entry is evaluated from; restrictive where it is not reported (R57, R98). -/
def Pass.word (p : Pass) (x : PassCtx) (rid id : Nat) : Word :=
  if x.own id then ERec.word0 (p.elem id) else (p.reported rid id).getD 0

/-- STATE of a list entry. -/
def Pass.state (p : Pass) (x : PassCtx) (rid id : Nat) : Byte := (p.word x rid id).setWidth 8

/-- An entry is a section: an own one by its type, another module's by its membership entry (log 33). -/
def PassCtx.isSection (x : PassCtx) (e : LEntry) : Bool :=
  if idNode e.elem == x.g.node then x.typ e.elem == 0x10 else e.req == 0

/-- A section entry reads occupied: it does not read clear. -/
def Pass.occupied (p : Pass) (x : PassCtx) (rid : Nat) (e : LEntry) : Bool :=
  x.isSection e && p.state x rid e.elem != 0xA5

/-- A point entry is detected in its required position: the code stands and FAULT bit 1 is clear (R99). -/
def Pass.detected (p : Pass) (x : PassCtx) (rid : Nat) (e : LEntry) : Bool :=
  match posCode e.req with
  | none => true
  | some code => p.state x rid e.elem == code && !(p.word x rid e.elem).getLsbD 25

/-- The permissive codes that an entry's STATE can show: those of an own element's type; of another module's element, whose
type this module's set does not hold, those of every type (R56, R57, log 33). -/
def PassCtx.permits (x : PassCtx) (id : Nat) : List Byte :=
  if idNode id == x.g.node then permissive (x.typ id) else [0x96, 0x69, 0x5A, 0xA5, 0xC3, 0x3C]

/-- An entry is evaluated from something: its own element, or a fresh report (R98). -/
def Pass.known (p : Pass) (x : PassCtx) (rid : Nat) (e : LEntry) : Bool :=
  x.own e.elem || (p.reported rid e.elem).isSome

/-- An entry reads its REQ state (R57, R101, R105). -/
def Pass.inState (p : Pass) (x : PassCtx) (rid : Nat) (e : LEntry) : Bool :=
  p.known x rid e &&
    match posCode e.req with
    | some _ => p.detected x rid e
    | none =>
      let w := p.word x rid e.elem
      if e.req == 9 then w.setWidth 8 != 0xC3#8 && (w >>> 8).setWidth 8 == 0#8
      else if e.req == 8 then (x.permits e.elem).contains (w.setWidth 8)
      else true

/-! ### Freedom (R96, R451) -/

/-- Key locks attached to a point (R96). -/
def PassCtx.keyLocks (x : PassCtx) (id : Nat) : List Nat :=
  ((List.range x.g.elemSpan).filter (fun i =>
    (x.g.elem i).typ == 0x21 && linkElem (x.g.elem i).attach == some id)).map (fun i => x.g.node * 4096 + i)

/-- An attached key lock is out, or its release is permitted. -/
def Pass.keyOut (p : Pass) (x : PassCtx) (id : Nat) : Bool :=
  (x.keyLocks id).any (fun k => (p.elem k).state != 0x5A || (p.elem k).detail.getLsbD 0)

/-- FAULT bits 0 to 4. -/
def faultBits (e : ERec) : Bool := e.fault &&& 0x1F != 0#8

/-- The element is held in flank in another position than `req` names (R96, R106). -/
def flankAgainst (e : ERec) (req : Nat) : Bool := e.flank != 0 && posCode req != some e.detail

/-- Why an element is not free for a route, by R451; 0 when it is free. -/
def Pass.whyNot (p : Pass) (x : PassCtx) (rid req id : Nat) : Nat :=
  let e := p.elem id
  let t := x.typ id
  if (e.okind != 0 && e.owner != rid) || (isPointType t && flankAgainst e req) then 2
  else if e.locks.getLsbD 4 then 3
  else if (e.locks.getLsbD 5 && !isDoorType t) || faultBits e then 4
  else if (t == 1 || t == 2) && p.keyOut x id then 0xE
  else 0

/-- The detection section of a point reads clear. -/
def Pass.detectionClear (p : Pass) (x : PassCtx) (id : Nat) : Bool :=
  let s := bits (x.g.elem (idLocal id)).param.toNat 17 0
  x.own s && (p.elem s).state == 0xA5

/-- Why a point is not free for a POINT request, or with `key` false for a KEY_RELEASE request (R96, R451). -/
def Pass.whyPoint (p : Pass) (x : PassCtx) (key : Bool) (id : Nat) : Nat :=
  let e := p.elem id
  if e.okind != 0 || e.flank != 0 || e.locks &&& 0xF != 0#8 then 2
  else if key && p.keyOut x id then 0xE
  else if !p.detectionClear x id then 6
  else 0

/-! ### Giving back -/

/-- The owner's lock taken off an element: ownership and LOCKS bits 0, 1 and 3. -/
def unown (e : ERec) : ERec := { e with owner := 0, okind := 0, locks := e.locks &&& 0xF4 }

/-- A flank count lowered; LOCKS bit 2 clears at 0 (R106). -/
def lowered (e : ERec) : ERec :=
  let n := e.flank - 1
  { e with flank := n, locks := if n == 0 then e.locks &&& 0xFB else e.locks }

/-- The atomic decrement of an element's flank count (R95): where a lane that it reads delivers no data it writes nothing
(R325). -/
def Pass.lower (p : Pass) (x : PassCtx) (id : Nat) : Pass := if x.stuck.contains id then p else p.setElem id lowered

/-- The words of a reservation that stand for flank entries. -/
def flankWords (ws : List Word) : List Word := ws.filter (fun w => (lentry w).role == 3 || (lentry w).role == 4)

/-- Its other words. -/
def otherWords (ws : List Word) : List Word := ws.filter (fun w => !((lentry w).role == 3 || (lentry w).role == 4))

/-- Entry words of a reservation without those given back: entries of path, overlap and approach one by one, flank entries by
whole chains (R282). -/
def dropWords (ws gone : List Word) : List Word :=
  (otherWords gone).foldl List.erase (otherWords ws) ++
    ((chainsOf (flankWords gone)).foldl List.erase (chainsOf (flankWords ws))).flatten

/-- A reservation without the entries given back: every entry left keeps its report. -/
def OutRsv.drop (v : OutRsv) (gone : List Word) : OutRsv :=
  let left := dropWords v.entries gone
  { v with entries := left, report := left.map (fun w => ((v.entries.zip v.report).lookup w).getD 0) }

/-- UNRESERVE naming the entry words of a route's reservations that `f` picks (R282); the rest stays held. -/
def Pass.unreserve (p : Pass) (x : PassCtx) (rid : Nat) (f : List Word → List Word) : Pass :=
  let step := fun (acc : List OutRsv × List (Nat × ReqEntry)) (v : OutRsv) =>
    let gone := f v.entries
    if v.route == rid && !gone.isEmpty then
      let ask : ReqEntry := { op := 0xA, target := rid, data := rsvWord v.id x.g.node :: gone }
      let left := v.drop gone
      ((if left.entries.isEmpty then acc.1 else acc.1 ++ [left]), acc.2 ++ [(v.owner, ask)])
    else (acc.1 ++ [v], acc.2)
  let out := p.res.outRsv.foldl step ([], p.res.asks)
  { p with res := { p.res with outRsv := out.1, asks := out.2 } }

/-- UNRESERVE for all of a route's reservations, in descending node ID order (R97, R282). -/
def Pass.unreserveAll (p : Pass) (x : PassCtx) (rid : Nat) : Pass :=
  let mine := (p.res.outRsv.filter (fun v => v.route == rid)).mergeSort (fun a b => decide (b.owner ≤ a.owner))
  let asks := mine.map (fun v => (v.owner, ({ op := 0xA, target := rid, data := [rsvWord v.id x.g.node] } : ReqEntry)))
  { p with
    res := { p.res with outRsv := p.res.outRsv.filter (fun v => v.route != rid), asks := p.res.asks ++ asks } }

/-- The overlap of a route released (R104): its elements, its timer of TKIND 2, its record. -/
def Pass.releaseOverlap (p : Pass) (x : PassCtx) (r : Nat) : Pass :=
  let rid := x.rid r
  let es := x.selected p r
  let p := es.foldl (fun p e =>
    if x.own e.elem && (p.elem e.elem).okind == 2 && (p.elem e.elem).owner == rid then p.setElem e.elem unown else p) p
  let p := p.unreserve x rid (fun ws => ws.filter (fun w => (lentry w).role == 2))
  p.setRoute r (fun q =>
    { q with ovl := 0x1FFF, timer := if q.tkind == 2 then 0 else q.timer, tkind := if q.tkind == 2 then 0 else q.tkind })

/-- The flank counts of the chains that satisfy a test given back. -/
def Pass.releaseFlanks (p : Pass) (x : PassCtx) (r : Nat) (f : Nat → Bool) : Pass :=
  let p' := ((p.aux r).flanks.filter (fun k => f k.2)).foldl (fun p k => p.lower x k.1) p
  p'.setAux r (fun a => { a with flanks := a.flanks.filter (fun k => !f k.2), atOwners := a.atOwners.filter (fun k => !f k) })

/-- The words that a RESERVE carries for a chain: its part of another module, headed by an entry of ROLE 0x3 (log 76). -/
def chainWords (part : List Word) : List Word :=
  match part with
  | [] => []
  | w :: ws => ((w &&& 0xF0FFFFFF#32) ||| 0x03000000#32) :: ws

/-- The words of the route's chain `k` that another module searches. -/
def PassCtx.partOf (x : PassCtx) (r k : Nat) : List Word :=
  remotePart x.g.node ((chainsOf (x.g.listWords (x.g.route r).flank)).getD k [])

/-- A sectional release group given back (R108). -/
def Pass.releaseGroup (p : Pass) (x : PassCtx) (r n : Nat) : Pass :=
  let rid := x.rid r
  let p := ((x.path r).filter (fun e => e.group == n)).foldl (fun p e =>
    if x.own e.elem && (p.elem e.elem).okind == 1 && (p.elem e.elem).owner == rid then p.setElem e.elem unown else p) p
  let parts := (((p.aux r).atOwners.filter (fun k => x.groupOf r k == n)).map (fun k => chainWords (x.partOf r k))).filter
    (fun ws => !ws.isEmpty)
  let p := p.releaseFlanks x r (fun k => x.groupOf r k == n)
  let p := p.unreserve x rid (fun ws =>
    ws.filter (fun w => (lentry w).role == 1 && (lentry w).group == n) ++
      ((chainsOf (flankWords ws)).filter (fun c => parts.contains c)).flatten)
  p.setRoute r (fun q => { q with groups := putBit q.groups n true })

/-- Every element the route owns given back. -/
def Resolver.disown (v : Resolver) (rid : Nat) : Resolver :=
  { v with estate := v.estate.map (fun e => if e.okind != 0 && e.owner == rid then unown e else e) }

/-- The last rejection of a route and of the module, with the element that caused it (R117, R118). -/
def Pass.reason (p : Pass) (r reason target elem : Nat) : Pass :=
  let p := p.setAux r (fun a => { a with lastReject := { reason := reason, target := elem } })
  { p with res := { p.res with lastReject := { reason := reason, target := target } } }

/-- A route returns to RELEASED and gives back whatever it holds (R94, R97); `why` is a reason of Table 04-7, or 0, and `elem` the
element it names, or 0. -/
def Pass.toReleased (p : Pass) (x : PassCtx) (r why elem : Nat) : Pass :=
  let rid := x.rid r
  let st := (p.route r).state
  let p := if st == 0x66 || st == 0x77 then p.setSignal x r 0 else p
  let p := { p with res := p.res.disown rid }
  let p := p.releaseFlanks x r (fun _ => true)
  let p := p.unreserveAll x rid
  let p := p.become x r 0
  let p := p.setRoute r (fun _ => RRec.released)
  let p := p.setAux r (fun a => { (default : RouteAux) with lastReject := a.lastReject })
  if why == 0 then p else p.reason r why rid elem

/-! ### Overlaps and take-over (R103, R104) -/

/-- A route whose last group holds an occupied section (R104). -/
def Pass.givesOverlap (p : Pass) (x : PassCtx) (q : Nat) : Bool :=
  (x.path q).any (fun e => e.group == x.lastGroup q && p.occupied x (x.rid q) e)

/-- The overlaps taken over by route `rid` that needs these elements. -/
def Pass.takeOver (p : Pass) (x : PassCtx) (rid : Nat) (ids : List Nat) : Pass :=
  ids.foldl (fun p id =>
    let e := p.elem id
    if x.own id && e.okind == 2 && e.owner != rid && idNode e.owner == x.g.node && p.givesOverlap x (idLocal e.owner) then
      p.releaseOverlap x (idLocal e.owner)
    else p) p

/-- The first own entry among those that `f` picks by type that is not free, with its reason. -/
def Pass.firstNotFree (p : Pass) (x : PassCtx) (rid : Nat) (f : Nat → Bool) (es : List LEntry) : Option (Nat × Nat) :=
  es.findSome? (fun e =>
    if x.own e.elem && f (x.typ e.elem) then
      match p.whyNot x rid e.req e.elem with
      | 0 => none
      | why => some (why, e.elem)
    else none)

/-- The first own element of an overlap that is not free, a condition as well (R96, R103). -/
def Pass.overlapNotFree (p : Pass) (x : PassCtx) (rid : Nat) (es : List LEntry) : Option (Nat × Nat) :=
  p.firstNotFree x rid (fun _ => true) es

/-- The overlap records of a route by RANK, then by index (R103). -/
def PassCtx.overlaps (x : PassCtx) (r : Nat) : List Nat :=
  let d := x.g.route r
  ((List.range d.ovlCount).map (fun k => d.ovlFirst + k)).mergeSort (fun a b => decide ((x.g.ovl a).rank ≤ (x.g.ovl b).rank))

/-- The overlap selected, with the take-overs it needs: the first whose every own element is free (R103). -/
def Pass.selectOverlap (p : Pass) (x : PassCtx) (r : Nat) (among : List Nat) : Option (Nat × Pass) :=
  among.findSome? (fun j =>
    let es := x.overlap j
    let p := p.takeOver x (x.rid r) (es.map (fun e => e.elem))
    if (p.overlapNotFree x (x.rid r) es).isNone then some (j, p) else none)

/-! ### Flank chains (R105) -/

/-- Another route holds the element and a command stands for another position (R105). -/
def Pass.ownedAgainst (p : Pass) (x : PassCtx) (rid : Nat) (e : LEntry) : Bool :=
  let w := p.elem e.elem
  let t := x.typ e.elem
  let other := w.okind != 0 && w.owner != rid
  if isPointType t then
    (other || w.flank != 0) && (permissive t).contains w.detail && posCode e.req != some w.detail
  else other

/-- What the search along a flank chain comes to (R105): an own element secures it, its first entry of another module is
reached, or it cannot be secured. -/
inductive Secured where
  | by (e : LEntry)
  | atOwner (node : Nat)
  | failed
  deriving DecidableEq, Repr, Inhabited

/-- The search along a flank chain (R105). It passes beyond an element that another route's path or overlap lock holds; an
entry of another module is searched by its owner, under its reservation (R98, log 76). -/
def Pass.secure (p : Pass) (x : PassCtx) (rid : Nat) : List LEntry → Secured
  | [] => .failed
  | e :: rest =>
    let w := p.elem e.elem
    if idNode e.elem != x.g.node then .atOwner (idNode e.elem)
    else if p.inState x rid e && !p.ownedAgainst x rid e then .by e
    else if p.whyNot x rid e.req e.elem == 0 && isPointType (x.typ e.elem) && w.locks &&& 0xF == 0#8 then .by e
    else if (w.okind == 1 || w.okind == 2) && w.owner != rid then p.secure x rid rest
    else .failed

/-- The chains searched in their order, but for those that a reservation already held covers: the own securing elements with
their chains' numbers, and the numbers of the chains left to owners that `ask` can still reach; none when one cannot be
secured. -/
def Pass.secureAll (p : Pass) (x : PassCtx) (rid : Nat) (held : List Nat) (ask : Nat → Bool) (chains : List (List LEntry)) :
    Option (List (LEntry × Nat) × List Nat) :=
  chains.zipIdx.foldl (fun acc c =>
    match acc with
    | none => none
    | some (es, ks) =>
      if held.contains c.2 then some (es, ks ++ [c.2])
      else
        match p.secure x rid c.1 with
        | .by e => some (es ++ [(e, c.2)], ks)
        | .atOwner n => if ask n then some (es, ks ++ [c.2]) else none
        | .failed => none) (some ([], []))

/-- The first point that has to move while its detection section reads occupied (R97, check 6). -/
def Pass.cannotMove (p : Pass) (x : PassCtx) (rid : Nat) (es : List LEntry) : Option Nat :=
  (es.find? (fun e =>
    isPointType (x.typ e.elem) && !p.detected x rid e && !p.detectionClear x e.elem)).map (fun e => e.elem)

/-! ### Taking (R94, R97, R106) -/

/-- A point commanded to a position, unless LOCKS bits 0 to 3 hold it (R94, R99). -/
def commanded (e : ERec) (req : Nat) : ERec :=
  match posCode req with
  | some code => if e.locks &&& 0xF == 0#8 then { e with detail := code } else e
  | none => e

/-- Ownership of the own lockable entries of a list, with the point commands planned for them. -/
def Pass.takeList (p : Pass) (x : PassCtx) (rid kind : Nat) (es : List LEntry) : Pass :=
  es.foldl (fun p e =>
    let t := x.typ e.elem
    if isLockable t then
      p.setElem e.elem (fun w =>
        let w := if isPointType t then commanded w e.req else w
        if w.okind == 1 && w.owner == rid then w else { w with owner := rid, okind := kind })
    else p) p

/-- A flank count raised; from 0 it writes the flank position (R106). -/
def Pass.raiseFlank (p : Pass) (x : PassCtx) (e : LEntry) : Pass :=
  p.setElem e.elem (fun w =>
    let w' :=
      if w.flank == 0 && isPointType (x.typ e.elem) then
        match posCode e.req with
        | some code => { w with detail := code }
        | none => w
      else w
    { w' with flank := w.flank + 1 })

/-- LOCKS bits set on own elements. -/
def Pass.lockBits (p : Pass) (x : PassCtx) (mask : Byte) (ids : List Nat) : Pass :=
  ids.foldl (fun p id => if x.own id then p.setElem id (fun w => { w with locks := w.locks ||| mask }) else p) p

/-- LOCKS bits 0, 1 and 2 at entry to LOCKED (R94). -/
def Pass.lockRoute (p : Pass) (x : PassCtx) (r : Nat) : Pass :=
  let lockable := fun (es : List LEntry) => (es.filter (fun e => isLockable (x.typ e.elem))).map (fun e => e.elem)
  let p := p.lockBits x 0x01 (lockable (x.path r))
  let p := p.lockBits x 0x02 (lockable (x.selected p r))
  p.lockBits x 0x04 ((p.aux r).flanks.map (fun k => k.1))

/-- The module that searches a route's chain `k` beyond its own entries. -/
def PassCtx.ownerOf (x : PassCtx) (r k : Nat) : Nat :=
  ((x.partOf r k).head?.map (fun w => idNode (lentry w).elem)).getD 64

/-- The local step of a SET (R97): checks 1 to 6 and the taking of the locks; else the reason and the element. A chain whose
search reaches another module is left to it: to a lower one where its reservation is held, to a higher one that is still to be
asked (log 76). An element that secures two chains of the route counts twice (R94: once for each chain it secures; Table 03-7
and R66 speak of routes: DESIGN CHOICE, log 76). -/
def Pass.localStep (p : Pass) (x : PassCtx) (r : Nat) (among : List Nat) : Except (Nat × Nat) Pass :=
  let rid := x.rid r
  let d := x.g.route r
  let path := x.path r
  let signal := (linkElem d.entry).getD 0
  if (List.range x.g.routeCount).any (fun q => x.g.conflict r q && (p.route q).state != 0) then .error (1, 0)
  else if x.own signal && (p.elem signal).locks.getLsbD 4 then .error (7, signal)
  else
    let p1 := p.takeOver x rid (path.map (fun e => e.elem))
    match p1.firstNotFree x rid isLockable path with
    | some why => .error why
    | none =>
      match p1.selectOverlap x r among, d.cls == 0 with
      | none, true => .error (0xC, 0)
      | sel, _ =>
        let j := (sel.map Prod.fst).getD 0x1FFF
        let p2 := (sel.map Prod.snd).getD p1
        let ovl := if j == 0x1FFF then [] else x.overlap j
        let held := (p.aux r).atOwners.filter (fun k => decide (x.ownerOf r k < x.g.node))
        match p2.secureAll x rid held (fun n => decide (x.g.node < n)) (x.chains r) with
        | none => .error (5, 0)
        | some (fs, ks) =>
          match p2.cannotMove x rid (path ++ ovl ++ fs.map Prod.fst) with
          | some id => .error (6, id)
          | none =>
            let p3 := (p2.takeList x rid 1 path).takeList x rid 2 ovl
            let p4 := fs.foldl (fun p f => p.raiseFlank x f.1) p3
            let p5 := p4.setRoute r (fun q => { q with ovl := j })
            .ok (p5.setAux r (fun a =>
              { a with flanks := fs.map (fun f => (f.1.elem, f.2)), atOwners := ks, localDone := true }))

end Sys2Proof.Machine
end

