-- ==== Sys2Proof/Machine/Requests.lean ====
section
/-! DEFINITION. The requests of a pass (spec/04_route_resolver.md R91 to R100, R107, R109, R112, spec/10 R281 to R285,
spec/11 R313): one function per OP code of Table 15-7. Each answers the reason of Table 04-7 and the pass after it. -/

namespace Sys2Proof.Machine

open Sys2Proof

/-! ### Setting a route and gathering reservations (R97, R282) -/

/-- The list entry words that a RESERVE to a node carries for a route with overlap `j`: those of its path list, overlap and
approach list that name the node's elements, then the parts of the flank chains `ks` that are left to the node (log 76). -/
def PassCtx.wordsAt (x : PassCtx) (r j : Nat) (ks : List Nat) (node : Nat) : List Word :=
  let d := x.g.route r
  let ovl := if j == 0x1FFF then [] else x.g.listWords (x.g.ovl j).path
  (x.g.listWords d.path ++ ovl ++ x.g.listWords d.approach).filter (fun w => idNode (lentry w).elem == node) ++
    (ks.filter (fun k => x.ownerOf r k == node)).flatMap (fun k => chainWords (x.partOf r k))

/-- The nodes of other modules that a route needs, in ascending order. -/
def PassCtx.others (x : PassCtx) (r j : Nat) (ks : List Nat) : List Nat :=
  (List.range 64).filter (fun n => n != x.g.node && !(x.wordsAt r j ks n).isEmpty)

/-- An overlap record that names elements of other modules. -/
def PassCtx.remoteOverlap (x : PassCtx) (j : Nat) : Bool := (x.overlap j).any (fun e => idNode e.elem != x.g.node)

/-- RESERVEs that the routes in REQUESTED still have to send (R97). -/
def Pass.toSend (p : Pass) (x : PassCtx) : Nat :=
  ((List.range x.g.routeCount).filter (fun q => (p.route q).state == 0x11)).foldl (fun m q =>
    m + ((x.others q (p.route q).ovl (p.aux q).atOwners).filter (fun n =>
      !p.res.outRsv.any (fun v => v.route == x.rid q && v.owner == n))).length) 0

/-- A RESERVE to the owner of a node's elements (R72, R281, R282). -/
def Pass.reserve (p : Pass) (x : PassCtx) (r node ticks first : Nat) : Pass :=
  let rid := x.rid r
  let ws := x.wordsAt r (p.route r).ovl (p.aux r).atOwners node
  let id := p.res.nextRsv
  let v : OutRsv :=
    { id := id, route := rid, owner := node, first := first, entries := ws, granted := false, report := [], fresh := false,
      age := 0, ticks := ticks }
  let ask : ReqEntry := { op := 9, target := rid, data := rsvWord id x.g.node :: w32 first :: ws }
  { p with
    res := { p.res with outRsv := p.res.outRsv ++ [v], asks := p.res.asks ++ [(node, ask)], nextRsv := (id + 1) % 65536 } }

/-- The overlaps that the local step chooses among: the one that reservations already sent name, and where they name none only
those that need none (R97, R103; log 76). -/
def PassCtx.overlapsLeft (x : PassCtx) (r j : Nat) : List Nat :=
  if j != 0x1FFF then [j] else (x.overlaps r).filter (fun k => !x.remoteOverlap k)

/-- The reservation sequence of a route in REQUESTED carried on as far as it goes, over the nodes from the lowest still to be
looked at: the local step in its place, the next RESERVE, or CHECKED when everything is held (R97, R282). A step that fails ends
the sequence: everything held is given back, with its reason. -/
def Pass.carryOn (p : Pass) (x : PassCtx) (r ticks first : Nat) : List Nat → Pass
  | [] => p.become x r 0x22
  | n :: rest =>
    if n == x.g.node then
      if (p.aux r).localDone then p.carryOn x r ticks first rest
      else
        match p.localStep x r (x.overlapsLeft r (p.route r).ovl) with
        | .ok p' =>
          let p' := if (p'.route r).ovl == 0x1FFF then
              p'.unreserve x (x.rid r) (fun ws => ws.filter (fun w => (lentry w).role == 2))
            else p'
          p'.carryOn x r ticks first rest
        | .error (why, elem) => p.toReleased x r why elem
    else if (x.wordsAt r (p.route r).ovl (p.aux r).atOwners n).isEmpty then p.carryOn x r ticks first rest
    else
      match p.res.outRsv.find? (fun v => v.route == x.rid r && v.owner == n) with
      | some v => if v.granted then p.carryOn x r ticks first rest else p
      | none => if 32 ≤ p.res.outRsv.length then p.toReleased x r 0xB 0 else p.reserve x r n ticks first

/-- An own securing element stands in its REQ state; a chain left to another module shows an entry in it in the report of that
module's reservation, which does not say which of them secures the chain (R101, log 76). -/
def Pass.chainHolds (p : Pass) (x : PassCtx) (r k : Nat) (c : List LEntry) : Bool :=
  let rid := x.rid r
  if (p.aux r).atOwners.contains k then ((x.partOf r k).map lentry).any (fun e => p.inState x rid e)
  else (c.filter (fun e => (p.aux r).flanks.contains (e.elem, k))).any (fun e => p.inState x rid e)

/-- R101 and R102 hold for a route, as a SET for a withdrawn signal asks and as route evaluation asks. -/
def Pass.proved (p : Pass) (x : PassCtx) (r : Nat) : Bool :=
  let rid := x.rid r
  let d := x.g.route r
  let path := x.path r
  let ovl := x.selected p r
  let owned := fun (e : LEntry) =>
    !isLockable (x.typ e.elem) || ((p.elem e.elem).okind != 0 && (p.elem e.elem).owner == rid)
  let required := fun (e : LEntry) =>
    if x.own e.elem then ((posCode e.req).isNone && e.req != 8) || p.inState x rid e else p.inState x rid e
  let remote := fun (e : LEntry) => idNode e.elem == x.g.node || p.inState x rid e
  let clear := fun (e : LEntry) => !p.occupied x rid e
  let signal := match linkElem d.entry with
    | some id => !(p.elem id).locks.getLsbD 4 && !faultBits (p.elem id)
    | none => false
  let edge := match linkElem d.edge with
    | some id => p.state x rid id == 0x3C
    | none => true
  (path ++ ovl).all (fun e => owned e && required e) && (x.triggers r ++ x.approach r).all remote &&
    (d.cls == 2 || path.all clear) && (d.cls != 0 || ovl.all clear) &&
    (x.chains r).zipIdx.all (fun c => p.chainHolds x r c.2 c.1) && signal && edge

/-- A route's target names an own route in use. -/
def PassCtx.ownRoute (x : PassCtx) (id : Nat) : Option Nat :=
  if idNode id == x.g.node && x.g.routeUsed (idLocal id) then some (idLocal id) else none

/-- A request refused with a reason (R92, R117). -/
def Pass.refuse (p : Pass) (target why : Nat) : Nat × Pass :=
  (why, { p with res := { p.res with lastReject := { reason := why, target := target } } })

/-- A request for a route refused: kept in its ROUTE.LAST_REJECT too, with the element that caused it (R118). -/
def Pass.refuseRoute (p : Pass) (x : PassCtx) (target why elem : Nat) : Nat × Pass :=
  match x.ownRoute target with
  | some r => (why, p.reason r why target elem)
  | none => p.refuse target why

/-- A new SET (R97): the overlap and the flank chains of other modules planned on the state it finds, the limit of reservations,
the local step at once where no lower module comes before it, then the next RESERVE. -/
def Pass.setNew (p : Pass) (x : PassCtx) (r target : Nat) : Nat × Pass :=
  let rid := x.rid r
  let j := ((p.selectOverlap x r (x.overlaps r)).map Prod.fst).getD 0x1FFF
  let ks := (x.chains r).zipIdx.filterMap (fun c => match p.secure x rid c.1 with
    | .atOwner _ => some c.2
    | _ => none)
  let others := x.others r j ks
  if 32 < p.res.outRsv.length + p.toSend x + others.length then p.refuseRoute x target 0xB 0
  else if others.any (fun n => decide (n < x.g.node)) then
    let p := ((p.become x r 0x11).setRoute r (fun q => { q with ovl := j })).setAux r (fun a => { a with atOwners := ks })
    (0, p.carryOn x r (x.rsvTime + 1) x.cluster (List.range 64))
  else
    match p.localStep x r (x.overlaps r) with
    | .error (why, elem) => p.refuseRoute x target why elem
    | .ok p' => (0, (p'.become x r 0x11).carryOn x r (x.rsvTime + 1) x.cluster (List.range 64))

/-- SET (R92, R97, R107, R112). -/
def Pass.set (p : Pass) (x : PassCtx) (target : Nat) : Nat × Pass :=
  match x.ownRoute target with
  | none => p.refuse target 0xD
  | some r =>
    let q := p.route r
    if p.res.hold || (p.aux r).restartHeld then p.refuseRoute x target 0x10 0
    else if q.state == 0x77 then
      let off := match linkElem (x.g.route r).entry with
        | some id => (p.elem id).detail == 0
        | none => false
      if off && q.tkind != 4 && p.proved x r then
        (0, (p.stopTimer r).setSignal x r (BitVec.ofNat 8 (x.g.route r).aspect))
      else p.refuseRoute x target 0xD 0
    else if q.state != 0 then p.refuseRoute x target 0xD 0
    else p.setNew x r target

/-! ### Cancel and emergency release (R93, R107, R109) -/

/-- An approach section of a route reads occupied. -/
def Pass.approachOccupied (p : Pass) (x : PassCtx) (r : Nat) : Bool :=
  (x.approach r).any (fun e => p.state x (x.rid r) e.elem != 0xA5)

/-- CANCEL (R93, R107, R109). -/
def Pass.cancel (p : Pass) (x : PassCtx) (target : Nat) : Nat × Pass :=
  match x.ownRoute target with
  | none => p.refuse target 0xD
  | some r =>
    let q := p.route r
    let st := q.state
    if (p.aux r).restartHeld then p.refuseRoute x target 0x10 0
    else if st == 0x11 || st == 0x22 || st == 0x33 || st == 0x44 || st == 0x55 then (0, p.toReleased x r 0 0)
    else if st == 0x66 then
      if q.tkind == 4 && p.approachOccupied x r then (0, p)
      else (0, (p.setSignal x r 0).setAux r (fun a => { a with cancelled := true }))
    else if st == 0x77 then
      let p := p.setSignal x r 0
      if q.tkind == 1 || q.tkind == 4 then (0, p) else (0, p.load r (x.g.route r).appTime 1)
    else p.refuseRoute x target 0xD 0

/-- States from LOCKED to SECTION_RELEASED. -/
def emergencyStates : List Byte := [0x44, 0x55, 0x66, 0x77, 0x88, 0x99]

/-- EMERGENCY_RELEASE (R109). -/
def Pass.emergency (p : Pass) (x : PassCtx) (target : Nat) : Nat × Pass :=
  match x.ownRoute target with
  | none => p.refuse target 0xD
  | some r =>
    if (p.aux r).restartHeld then p.refuseRoute x target 0x10 0
    else if emergencyStates.contains (p.route r).state then
      (0, ((p.setSignal x r 0).load r (x.g.route r).appTime 4).note .emergency target [])
    else p.refuseRoute x target 0xD 0

/-! ### Points, keys and blocks (R92, R96, R100) -/

/-- LOCKS bit 3 of an element stands in restart state (R313). -/
def Pass.restartLocked (p : Pass) (id : Nat) : Bool := p.res.restart && (p.elem id).locks.getLsbD 3

/-- POINT_NORMAL and POINT_REVERSE (R100): timed by RES.POS_TIME. -/
def Pass.point (p : Pass) (x : PassCtx) (code : Byte) (target : Nat) : Nat × Pass :=
  if !isPointType (x.typ target) then p.refuse target 0xD
  else if p.res.hold || p.restartLocked target then p.refuse target 0x10
  else
    match p.whyPoint x true target with
    | 0 =>
      let p := p.setElem target (fun e => { e with detail := code })
      (0, { p with res := { p.res with pointTimers := tabPut p.res.pointTimers target (10 * x.posTime + 1) } })
    | why => p.refuse target why

/-- KEY_RELEASE (R96): permitted when the attached point is free. -/
def Pass.key (p : Pass) (x : PassCtx) (target : Nat) : Nat × Pass :=
  if x.typ target != 0x21 then p.refuse target 0xD
  else
    match linkElem (x.g.elem (idLocal target)).attach with
    | none => p.refuse target 0xD
    | some pt =>
      if p.res.hold || p.restartLocked target || p.restartLocked pt then p.refuse target 0x10
      else
        match p.whyPoint x false pt with
        | 0 => (0, p.setElem target (fun e => { e with detail := e.detail ||| 1 }))
        | why => p.refuse target why

/-- The element a BLOCK or UNBLOCK acts on: the target, or a route's entry signal (R92). -/
def PassCtx.blocked (x : PassCtx) (target : Nat) : Option Nat :=
  if x.own target then some target
  else
    match x.ownRoute target with
    | some r =>
      match linkElem (x.g.route r).entry with
      | some id => if x.own id then some id else none
      | none => none
    | none => none

/-- A BLOCK or UNBLOCK refused: kept for the route where it names one. -/
def Pass.refuseBlock (p : Pass) (x : PassCtx) (target : Nat) : Nat × Pass :=
  if x.own target then p.refuse target 0xD else p.refuseRoute x target 0xD 0

/-- BLOCK (R92). -/
def Pass.block (p : Pass) (x : PassCtx) (target : Nat) : Nat × Pass :=
  match x.blocked target with
  | some id => (0, p.setElem id (fun e => { e with locks := putBit e.locks 4 true }))
  | none => p.refuseBlock x target

/-- UNBLOCK (R92): accepted where the element is blocked. -/
def Pass.unblock (p : Pass) (x : PassCtx) (target : Nat) : Nat × Pass :=
  match x.blocked target with
  | some id =>
    if (p.elem id).locks.getLsbD 4 then (0, p.setElem id (fun e => { e with locks := putBit e.locks 4 false }))
    else p.refuseBlock x target
  | none => p.refuseBlock x target

/-! ### Reservations of other modules' routes (R98, R283, R285) -/

/-- RSV_ID and node of data word 0 (R72). -/
def rsvOf (d : List Word) : Nat × Nat := (bits (wordAt d 0).toNat 15 0, bits (wordAt d 0).toNat 21 16)

/-- An answer to a reservation, sent at step 5 (R283). -/
def Pass.answer (p : Pass) (op target : Nat) (data : List Word) : Pass :=
  { p with res := { p.res with answers := p.res.answers ++ [{ op := op, target := target, data := data }] } }

/-- GRANT of a reservation held: ESTATE word 0 of each element (R72, R281). -/
def Pass.granted (p : Pass) (x : PassCtx) (v : InRsv) : Pass :=
  p.answer 0xC v.route (rsvWord v.id x.g.node :: v.entries.map (fun w => ERec.word0 (p.elem (lentry w).elem)))

/-- Entries of a reservation by role. -/
def InRsv.role (v : InRsv) (k : Nat) : List LEntry := (v.entries.map lentry).filter (fun e => e.role == k)

/-- A reservation refused (R72, R117, R283). -/
def Pass.refuseRsv (p : Pass) (x : PassCtx) (id target why elem : Nat) : Nat × Pass :=
  (p.answer 0xD target [rsvWord id x.g.node, w32 (elem % 2 ^ 18 + why * 2 ^ 24)]).refuse target why

/-- RESERVE (R92, R98, R283): refused with 0x0D where it names an element that this module does not have, else checked as for a
local route of the same roles, which includes the take-over of an overlap by which a SET gets its elements (R104 names a SET only:
DESIGN CHOICE, log 76); granted or refused. -/
def Pass.onReserve (p : Pass) (x : PassCtx) (target : Nat) (data : List Word) : Nat × Pass :=
  let (id, node) := rsvOf data
  let v : InRsv := { id := id, route := target, node := node, entries := data.drop 2, flanks := [] }
  match p.res.inRsv.find? (fun u => u.id == id && u.route == target) with
  | some u => (0, p.granted x u)
  | none =>
    match (v.entries.map lentry).find? (fun e => !x.own e.elem) with
    | some e => p.refuseRsv x id target 0xD e.elem
    | none =>
      let path := v.role 1
      let ovl := v.role 2
      let p1 := p.takeOver x target ((path ++ ovl).map (fun e => e.elem))
      match (p1.firstNotFree x target isLockable path).or (p1.overlapNotFree x target ovl) with
      | some (why, elem) => p.refuseRsv x id target why elem
      | none =>
        match p1.secureAll x target [] (fun _ => false) ((chainsOf (flankWords v.entries)).map (fun c => c.map lentry)) with
        | none => p.refuseRsv x id target 5 0
        | some (fs, _) =>
          match p1.cannotMove x target (path ++ ovl ++ fs.map Prod.fst) with
          | some elem => p.refuseRsv x id target 6 elem
          | none =>
            let p2 := (p1.takeList x target 1 path).takeList x target 2 ovl
            let p3 := fs.foldl (fun p f => p.raiseFlank x f.1) p2
            let v := { v with flanks := fs.map (fun f => f.1.elem) }
            (0, ({ p3 with res := { p3.res with inRsv := p3.res.inRsv ++ [v] } }).granted x v)

/-- Ownership of the elements that entries of a reservation name, given back. -/
def Pass.giveOwned (p : Pass) (x : PassCtx) (v : InRsv) (ws : List Word) : Pass :=
  ((otherWords ws).map (fun w => (lentry w).elem)).foldl (fun p id =>
    if x.own id && (p.elem id).okind != 0 && (p.elem id).owner == v.route then p.setElem id unown else p) p

/-- A reservation given back as a whole: its elements, and one flank count for each chain it secures. -/
def Pass.giveBack (p : Pass) (x : PassCtx) (v : InRsv) : Pass :=
  let p := v.flanks.foldl (fun p id => p.lower x id) (p.giveOwned x v v.entries)
  { p with res := { p.res with inRsv := p.res.inRsv.filter (fun u => !(u.id == v.id && u.route == v.route)) } }

/-- A chain of a reservation given back: its words and the element that secures it. -/
def dropChain (cs : List (List Word × Nat)) (c : List Word) : List (List Word × Nat) × Option Nat :=
  match cs.find? (fun e => e.1 == c) with
  | some e => (cs.erase e, some e.2)
  | none => (cs, none)

/-- Entries of a reservation given back (R282, R283). -/
def Pass.givePart (p : Pass) (x : PassCtx) (v : InRsv) (gone : List Word) : Pass × InRsv :=
  let held := (otherWords gone).filter (fun w => v.entries.contains w)
  let p := p.giveOwned x v held
  let step := fun (acc : Pass × List (List Word × Nat)) (c : List Word) =>
    match dropChain acc.2 c with
    | (cs, some id) => (acc.1.lower x id, cs)
    | _ => acc
  let (p, cs) := (chainsOf (flankWords gone)).foldl step (p, (chainsOf (flankWords v.entries)).zip v.flanks)
  (p, { v with entries := dropWords v.entries gone, flanks := cs.map Prod.snd })

/-- UNRESERVE (R282, R283): the entries named, or all; ignored for a reservation not held. -/
def Pass.onUnreserve (p : Pass) (x : PassCtx) (target : Nat) (data : List Word) : Nat × Pass :=
  let (id, _) := rsvOf data
  match p.res.inRsv.find? (fun u => u.id == id && u.route == target) with
  | none => (0, p)
  | some v =>
    if (data.drop 1).isEmpty then (0, p.giveBack x v)
    else
      let (p, left) := p.givePart x v (data.drop 1)
      (0, { p with
        res := { p.res with inRsv := p.res.inRsv.map (fun (u : InRsv) => if u.id == id && u.route == target then left else u) } })

/-- RELEASE_ALL (R285): every reservation held for routes of the node. -/
def Pass.onReleaseAll (p : Pass) (x : PassCtx) (target : Nat) : Nat × Pass :=
  (0, (p.res.inRsv.filter (fun v => v.node == idNode target)).foldl (fun p v => p.giveBack x v) p)

/-- GRANT (R97, R284): the step outstanding towards the owner is held, and the sequence goes on. -/
def Pass.onGrant (p : Pass) (x : PassCtx) (target : Nat) (data : List Word) : Nat × Pass :=
  let (id, node) := rsvOf data
  match x.ownRoute target with
  | none => p.refuse target 0xD
  | some r =>
    match p.res.outRsv.find? (fun v => v.id == id && v.route == target && v.owner == node && !v.granted),
      (p.route r).state == 0x11 with
    | some v, true =>
      let held := { v with granted := true, report := data.drop 1, fresh := true }
      let p := { p with
        res := { p.res with outRsv := p.res.outRsv.map (fun (u : OutRsv) => if u.id == id && u.route == target then held else u) } }
      (0, p.carryOn x r v.ticks v.first (List.range 64))
    | _, _ => p.refuseRoute x target 0xD 0

/-- REFUSE (R97): the route gives back everything, reason 0x09. -/
def Pass.onRefuse (p : Pass) (x : PassCtx) (target : Nat) (data : List Word) : Nat × Pass :=
  let (id, node) := rsvOf data
  match x.ownRoute target with
  | none => p.refuse target 0xD
  | some r =>
    if (p.route r).state == 0x11 &&
        p.res.outRsv.any (fun v => v.id == id && v.route == target && v.owner == node && !v.granted) then
      (0, p.toReleased x r 9 (bits (wordAt data 1).toNat 17 0))
    else p.refuseRoute x target 0xD 0

/-! ### The request phase (R92, R113 phase 3) -/

/-- One entry of the request tile. -/
def Pass.request (p : Pass) (x : PassCtx) (e : ReqEntry) : Nat × Pass :=
  match e.op with
  | 1 => p.set x e.target
  | 2 => p.cancel x e.target
  | 3 => p.emergency x e.target
  | 4 => p.point x 0x96 e.target
  | 5 => p.point x 0x69 e.target
  | 6 => p.key x e.target
  | 7 => p.block x e.target
  | 8 => p.unblock x e.target
  | 9 => p.onReserve x e.target e.data
  | 10 => p.onUnreserve x e.target e.data
  | 11 => p.onReleaseAll x e.target
  | 12 => p.onGrant x e.target e.data
  | 13 => p.onRefuse x e.target e.data
  | _ => p.refuse e.target 0xD

/-- One entry with its count, its REJECT result and, for an operator request, its record. -/
def Pass.takeRequest (p : Pass) (x : PassCtx) (e : ReqEntry) : Pass :=
  let (why, p) := p.request x e
  let v := p.res
  let p :=
    { p with
      res :=
        { v with
          rejects := v.rejects ++ [why]
          acceptCnt := if why == 0 then inc 16 v.acceptCnt else v.acceptCnt
          rejectCnt := if why == 0 then v.rejectCnt else inc 16 v.rejectCnt } }
  if 1 ≤ e.op && e.op ≤ 8 then p.note .request e.target [w32 e.op, w32 why] else p

end Sys2Proof.Machine
end

