-- ==== Sys2Proof/Machine/Resolver.lean ====
section
/-! DEFINITION. The resolver pass (spec/04_route_resolver.md R93 to R114, spec/11 R312, R313): input merge, timers, requests,
route evaluation, commit; and the commands that are an expiry of one route's timer or of the start-up hold. -/

namespace Sys2Proof.Machine

open Sys2Proof

/-! ### Start and input merge (R113 phases 0 and 1, R100) -/

/-- DETAIL and LOCKS bits 5 and 6 that a door element's word carries into ESTATE (log 31). -/
def doorMerge (typ : Nat) (w : Word) (e : ERec) : ERec :=
  if typ == 0x18 || typ == 0x19 || typ == 0x1A then
    { e with detail := (w >>> 8).setWidth 8, locks := (e.locks &&& 0x9F) ||| ((w >>> 16).setWidth 8 &&& 0x60) }
  else e

/-- An element's STATE and FAULT from its source; FAULT bit 1 is the resolver's, bit 3 comes of a welded contactor
(R100, R198). -/
def Chan.mergeElem (c : Chan) (x : PassCtx) (i : Nat) (e : ERec) : ERec :=
  let d := x.g.elem i
  let weld : Byte := if x.welded.contains d.id then 8 else 0
  match c.sourceState x.im d with
  | some (st, fault) =>
    let e := { e with state := st, fault := (fault &&& 0xF5) ||| (e.fault &&& 0x02) ||| weld }
    if d.srcKind == 3 then doorMerge d.typ (c.doorInput x.im d) e else e
  | none => { e with fault := (e.fault &&& 0xF7) ||| weld }

/-- Input merge of every element in use. -/
def Chan.merge (c : Chan) (x : PassCtx) (v : Resolver) : Resolver :=
  { v with estate := v.estate.mapIdx (fun i e => if (x.g.elem i).typ == 0 then e else c.mergeElem x i e) }

/-- Loss of detection of a locked point, and its end after two passes (R100). -/
def Pass.detection (p : Pass) (x : PassCtx) (i : Nat) : Pass :=
  let id := x.g.node * 4096 + i
  let e := p.elem id
  let here := e.state == e.detail && e.state != 0
  let once := p.res.detectedOnce
  if !isPointType (x.typ id) then p
  else if !here then
    let p := { p with res := { p.res with detectedOnce := once.filter (fun k => k != i) } }
    if e.locks &&& 0x07 != 0#8 then p.setElem id (fun e => { e with fault := e.fault ||| 2 }) else p
  else if !e.fault.getLsbD 1 then p
  else if once.contains i then
    ({ p with res := { p.res with detectedOnce := once.filter (fun k => k != i) } }).setElem id
      (fun e => { e with fault := e.fault &&& 0xFD })
  else { p with res := { p.res with detectedOnce := i :: once } }

/-- The entries that secure the flank chains of a reservation. -/
def InRsv.securing (v : InRsv) : List LEntry :=
  ((chainsOf (flankWords v.entries)).zip v.flanks).filterMap (fun c => (c.1.map lentry).find? (fun e => e.elem == c.2))

/-- LOCKS bits of the elements reserved for another module's route, once its points are detected here (R98). -/
def Pass.lockReserved (p : Pass) (x : PassCtx) (v : InRsv) : Pass :=
  let path := v.role 1
  let ovl := v.role 2
  let ids := fun (es : List LEntry) => (es.filter (fun e => isLockable (x.typ e.elem))).map (fun e => e.elem)
  if (path ++ ovl ++ v.securing).all (fun e => p.detected x v.route e) then
    ((p.lockBits x 0x01 (ids path)).lockBits x 0x02 (ids ovl)).lockBits x 0x04 v.flanks
  else p

/-! ### Restart state (R313) -/

/-- Points, double slips and derailers that a route names. -/
def PassCtx.pointsOf (x : PassCtx) (r : Nat) : List Nat :=
  let d := x.g.route r
  let ovls := (x.overlaps r).flatMap x.overlap
  ((x.path r ++ ovls ++ x.g.listOf d.flank).map (fun e => e.elem)).filter (fun id => isPointType (x.typ id))

/-- One route restart-held. -/
def Pass.hold (p : Pass) (x : PassCtx) (r : Nat) : Pass :=
  if x.g.routeUsed r then
    let p := p.become x r 0x77
    let p := (p.setSignal x r 0).load r (x.g.route r).appTime 1
    let p := p.setAux r (fun a => { a with restartHeld := true })
    p.lockBits x 0x08 (x.pointsOf r)
  else p

/-- The first pass in restart state. -/
def Pass.startRestart (p : Pass) (x : PassCtx) : Pass :=
  if p.res.restartFirst then
    let p := (List.range x.g.routeCount).foldl (fun p r => p.hold x r) p
    { p with res := { p.res with restartFirst := false } }
  else p

/-- RELEASE_ALL to every node (R285): carried to step 5 as the entry for node 64. -/
def Pass.releaseAll (p : Pass) (x : PassCtx) : Pass :=
  { p with res := { p.res with asks := p.res.asks ++ [(64, { op := 0xB, target := x.g.node * 4096, data := [] })] } }

/-- LOCKS bit 3 of a point kept while a restart-held route names it or its owner stands approach-locked. -/
def Pass.freeRestart (p : Pass) (x : PassCtx) (id : Nat) : Pass :=
  let named := (List.range x.g.routeCount).any (fun q => (p.aux q).restartHeld && (x.pointsOf q).contains id)
  let e := p.elem id
  let held := e.okind == 1 && idNode e.owner == x.g.node && (p.route (idLocal e.owner)).state == 0x77
  if named || held then p else p.setElem id (fun e => { e with locks := e.locks &&& 0xF7 })

/-- A restart-held route released at the expiry of its timer; with the last one restart state ends. -/
def Pass.endHeld (p : Pass) (x : PassCtx) (r : Nat) : Pass :=
  let p := p.toReleased x r 0 0
  let p := (x.pointsOf r).foldl (fun p id => p.freeRestart x id) p
  if p.res.restart && (List.range x.g.routeCount).all (fun q => !(p.aux q).restartHeld) then
    ({ p with res := { p.res with restart := false } }).releaseAll x
  else p

/-! ### Timers (R110, R112) -/

/-- A timer lowered by `n` ticks. -/
def tickRoute (n : Nat) (q : RRec) : RRec := { q with timer := q.timer - n }

/-- Point requests whose time is up without detection (R100). -/
def Pass.pointExpiry (p : Pass) (k : Nat × Nat) : Pass :=
  let e := p.elem k.1
  if e.state == e.detail && e.state != 0 then
    { p with res := { p.res with pointTimers := tabDel p.res.pointTimers k.1 } }
  else if k.2 == 0 then
    ({ p with res := { p.res with pointTimers := tabDel p.res.pointTimers k.1 } }).note .posTimeout k.1 []
  else p

/-- The start-up hold ends (R112, R285). -/
def Pass.endHold (p : Pass) (x : PassCtx) : Pass :=
  ({ p with res := { p.res with hold := false, holdTicks := 0 } }).releaseAll x

/-- Phase 2: the accumulator, route timers, reservation times, point request times and the start-up hold. -/
def Pass.timers (p : Pass) (x : PassCtx) : Pass :=
  let v := p.res
  let first := !v.committed
  let acc := if first then 0 else v.acc + x.periodUs * (x.main - v.cycle)
  let n := acc / 100000
  let v := { v with
    acc := acc % 100000
    rstate := v.rstate.map (tickRoute n)
    outRsv := v.outRsv.map (fun u => if u.granted then u else { u with ticks := u.ticks - n })
    pointTimers := v.pointTimers.map (fun k => (k.1, k.2 - n))
    holdTicks := if v.hold && first then 10 * x.holdTime + 1 else v.holdTicks - n }
  let p := { p with res := v }
  let p := v.pointTimers.foldl Pass.pointExpiry p
  if v.hold && v.holdTicks == 0 then p.endHold x else p

/-! ### Route evaluation (R93 to R109, phase 4) -/

/-- Points of a route that are not detected in their required position (R99): those of its path and overlap, own or another
module's, and those that secure its flank chains; of a chain left to another module the first of its points, where none of its
entries stands in its REQ state (log 76). -/
def Pass.undetected (p : Pass) (x : PassCtx) (r : Nat) : List Nat :=
  let rid := x.rid r
  let own := (x.path r ++ x.selected p r).filter (fun e => !p.detected x rid e)
  let flank := (x.chains r).zipIdx.flatMap (fun c =>
    if (p.aux r).atOwners.contains c.2 then
      let part := ((x.partOf r c.2).map lentry).filter (fun e => (posCode e.req).isSome)
      if p.chainHolds x r c.2 c.1 then [] else part.take 1
    else c.1.filter (fun e => (p.aux r).flanks.contains (e.elem, c.2) && !p.detected x rid e))
  ((own ++ flank).map (fun e => e.elem)).eraseDups

/-- Every point of path, overlap and flank is detected in its required position (Table 04-3). -/
def Pass.allDetected (p : Pass) (x : PassCtx) (r : Nat) : Bool := (p.undetected x r).isEmpty

/-- Entry to LOCKED (R94). -/
def Pass.toLocked (p : Pass) (x : PassCtx) (r : Nat) : Pass := ((p.stopTimer r).lockRoute x r).become x r 0x44

/-- Positioning timed out: each point that caused it is recorded, and the first is kept with the reason (R99, R118). -/
def Pass.posTimeout (p : Pass) (x : PassCtx) (snap : Pass) (r : Nat) : Pass :=
  let ids := snap.undetected x r
  (ids.foldl (fun p id => p.note .posTimeout id [w32 (x.rid r)]) p).toReleased x r 8 (ids.headD 0)

/-- Entry to APPROACH_LOCKED (R107): LOCKS bit 3 on path elements. -/
def Pass.enterApproach (p : Pass) (x : PassCtx) (r : Nat) : Pass :=
  let ids := ((x.path r).filter (fun e => isLockable (x.typ e.elem))).map (fun e => e.elem)
  (p.lockBits x 0x08 ids).become x r 0x77

/-- A route in CLEARED. After a CANCEL in the pass that follows CLEARED, a route with an empty approach list meets the conditions
of two rows of Table 04-3; it goes to APPROACH_LOCKED with its time release (DESIGN CHOICE, log 76). -/
def Pass.evalCleared (p : Pass) (x : PassCtx) (snap : Pass) (r : Nat) : Pass :=
  let failing := !snap.proved x r || p.res.withdrawAll
  let occ := snap.approachOccupied x r
  let noList := (x.approach r).isEmpty
  let emergency := (p.route r).tkind == 4
  if (p.aux r).cancelled then
    let shown := match linkElem (x.g.route r).entry with
      | some id => snap.state x (x.rid r) id == 0xC3
      | none => false
    if !emergency && (occ || noList) then ((p.setSignal x r 0).load r (x.g.route r).appTime 1).enterApproach x r
    else if !occ && !shown then p.toReleased x r 0 0
    else p
  else if emergency then (if failing && !occ && !noList then p.become x r 0x44 else p)
  else if occ || noList then (if failing then p.setSignal x r 0 else p).enterApproach x r
  else if failing then (p.setSignal x r 0).become x r 0x44
  else p

/-- Sections of a route's path seen occupied since OCCUPIED (R108). -/
def Pass.markSeen (p : Pass) (x : PassCtx) (snap : Pass) (r : Nat) : Pass :=
  let occ := ((x.path r).filter (fun e => snap.occupied x (x.rid r) e)).map (fun e => e.elem)
  p.setAux r (fun a => { a with seen := a.seen ++ occ.filter (fun id => !a.seen.contains id) })

/-- The lowest group not yet released. -/
def Pass.nextGroup (p : Pass) (x : PassCtx) (r : Nat) : Option Nat :=
  (List.range (x.lastGroup r + 1)).find? (fun g => !(p.route r).groups.getLsbD g)

/-- A group's release conditions (R108). -/
def Pass.groupDone (p : Pass) (x : PassCtx) (snap : Pass) (r g : Nat) : Bool :=
  let rid := x.rid r
  let secs := (x.path r).filter (fun e => e.group == g && x.isSection e)
  secs.all (fun e => (p.aux r).seen.contains e.elem && !snap.occupied x rid e) &&
    (x.triggers r).any (fun e => e.group == g && snap.state x rid e.elem != 0xA5)

/-- The overlap timer: loaded once every group but the last is released and the last holds an occupied section; at its
end the overlap is released as soon as its sections read clear (R104). -/
def Pass.overlapTimer (p : Pass) (x : PassCtx) (snap : Pass) (r : Nat) : Pass :=
  let q := p.route r
  let rid := x.rid r
  let last := x.lastGroup r
  if q.ovl == 0x1FFF then p
  else if q.tkind == 2 && q.timer == 0 then
    if (x.selected p r).all (fun e => !snap.occupied x rid e) then p.releaseOverlap x r else p
  else if q.tkind == 0 && (List.range last).all (fun g => q.groups.getLsbD g) &&
      (x.path r).any (fun e => e.group == last && snap.occupied x rid e) then
    p.load r (x.g.ovl q.ovl).time 2
  else p

/-- A route in OCCUPIED or SECTION_RELEASED: at most one group a pass (R108). -/
def Pass.evalOccupied (p : Pass) (x : PassCtx) (snap : Pass) (r : Nat) : Pass :=
  let p := p.markSeen x snap r
  let st := (p.route r).state
  match p.nextGroup x r with
  | none => p.toReleased x r 0 0
  | some g =>
    let p :=
      if p.groupDone x snap r g then
        let p := p.releaseGroup x r g
        let p := if g == x.lastGroup r then p.releaseOverlap x r else p
        if st == 0x88 then p.become x r 0x99 else if g == x.lastGroup r then p.toReleased x r 0 0 else p
      else p
    if (p.route r).state == 0 then p else p.overlapTimer x snap r

/-- The first path section of a route reads occupied (R107). -/
def Pass.trainIn (p : Pass) (x : PassCtx) (r : Nat) : Bool :=
  match (x.path r).find? x.isSection with
  | some e => p.occupied x (x.rid r) e
  | none => false

/-- A route in APPROACH_LOCKED: the train first, then the time release (R107). -/
def Pass.evalApproach (p : Pass) (x : PassCtx) (snap : Pass) (r : Nat) : Pass :=
  let q := p.route r
  let rid := x.rid r
  if snap.trainIn x r then
    let p := p.setSignal x r 0
    let p := (x.path r).foldl (fun p e =>
      if x.own e.elem && (p.elem e.elem).owner == rid then p.setElem e.elem (fun w => { w with locks := w.locks &&& 0xF7 })
      else p) p
    let p := if q.tkind == 1 then p.stopTimer r else p
    let p := (p.become x r 0x88).markSeen x snap r
    p.overlapTimer x snap r
  else if q.tkind == 1 && q.timer == 0 then p.toReleased x r 0 0
  else if !snap.proved x r || p.res.withdrawAll then p.setSignal x r 0
  else p

/-- A reservation of a route is not held within RES.RSV_TIMEOUT (R97). -/
def Pass.rsvLate (p : Pass) (x : PassCtx) (r : Nat) : Bool :=
  p.res.outRsv.any (fun v => v.route == x.rid r && !v.granted && v.ticks == 0)

/-- One route in the route phase (Table 04-3): at most one transition, on the state as the phase found it. -/
def Pass.evalRoute (p : Pass) (x : PassCtx) (snap : Pass) (r : Nat) : Pass :=
  let q := p.route r
  if (p.aux r).restartHeld then (if q.tkind == 1 && q.timer == 0 then p.endHeld x r else p)
  else if q.tkind == 4 && q.timer == 0 && emergencyStates.contains q.state then
    (p.toReleased x r 0 0).note .emergencyExpiry (x.rid r) []
  else if q.state == 0x11 then
    (if p.rsvLate x r then p.toReleased x r 0xA 0 else p)
  else if q.state == 0x22 then
    (if snap.allDetected x r then p.toLocked x r else (p.become x r 0x33).load r x.posTime 3)
  else if q.state == 0x33 then
    (if snap.allDetected x r then p.toLocked x r
     else if q.tkind == 3 && q.timer == 0 then p.posTimeout x snap r
     else p)
  else if q.state == 0x44 then (if snap.proved x r && q.tkind != 4 then p.become x r 0x55 else p)
  else if q.state == 0x55 then
    (if !snap.proved x r then p.become x r 0x44
     else if q.tkind != 4 then (p.become x r 0x66).setSignal x r (BitVec.ofNat 8 (x.g.route r).aspect)
     else p)
  else if q.state == 0x66 then p.evalCleared x snap r
  else if q.state == 0x77 then p.evalApproach x snap r
  else if q.state == 0x88 || q.state == 0x99 then p.evalOccupied x snap r
  else p

/-! ### The pass (R113) -/

/-- The lanes of an own element's FLANK_CNT deliver data (R65, R325). -/
def Chan.flankSound (c : Chan) (me : Ch) (v : Variant) (g : Image) (i : Nat) : Bool :=
  let a := slotAddr ((g.run 0x10).1 + i / 511) + 8 * (i % 511)
  !c.rangeBad me v (a + 6) 2

/-- What a pass of a channel reads. -/
def Chan.passCtx (c : Chan) (me : Ch) (v : Variant) (g : Image) : PassCtx :=
  let k := c.task 1
  { g := g, im := k.inImg, posTime := c.act 0x0804, rsvTime := c.act 0x0805, holdTime := c.stat 0x0806, main := k.runMain
    cluster := c.sync.cluster, periodUs := c.periodUs 1
    welded := (List.range 32).filterMap (fun n =>
      if (c.nv.outFaults.getD n OutFault.none).cause == 1 then g.doElem.lookup n else none)
    stuck := if c.mem.check.isEmpty then []
      else ((List.range g.elemSpan).filter (fun i => !c.flankSound me v g i)).map (fun i => g.node * 4096 + i) }

/-- The commit (R81, R110, R113 phase 6). -/
def Resolver.commit (v : Resolver) (main : Nat) : Resolver :=
  { v with cycle := main, committed := true, gen := main % 8, withdrawAll := false }

/-- A pass up to its timers (phases 0 to 2). -/
def Chan.passFront (c : Chan) (x : PassCtx) : Pass :=
  let p : Pass := { res := c.merge x { c.res with rejects := [] }, log := [] }
  let p := p.startRestart x
  ((List.range x.g.elemSpan).foldl (fun p i => p.detection x i) p).timers x

/-- The phases in order. -/
def Chan.passResult (c : Chan) (x : PassCtx) : Pass :=
  let p := (x.im.requests.take 64).foldl (fun p e => p.takeRequest x e) (c.passFront x)
  let snap := p
  let p := (List.range x.g.routeCount).foldl (fun p r => p.evalRoute x snap r) p
  p.res.inRsv.foldl (fun p v => p.lockReserved x v) p

/-- Events of a pass recorded in T1's run. -/
def Chan.record (c : Chan) (log : List (EvName × Nat × List Word)) : Chan :=
  log.foldl (fun c e => c.emitTask 1 e.1 e.2.1 e.2.2) c

/-- The resolver pass of a T1 run, taking `us` µs (R113, R117). -/
def Chan.resolverPass (c : Chan) (me : Ch) (v : Variant) (us : Nat) : Chan :=
  match c.image with
  | none => c
  | some g =>
    let x := c.passCtx me v g
    let p := c.passResult x
    let v := p.res.commit x.main
    { c with res := { v with passLast := min us 65535, passMax := max v.passMax (min us 65535) } }.record p.log

/-! ### Expiry of one timer

A timer advances in the pass (R110), which does what its expiry asks. A command that names an expiry does that part of the
pass of T1's run ahead of the rest, where this pass is the one in which the time is up and has no request to act on first; it
does nothing where the time is not up (DESIGN CHOICE, log 77). -/

/-- The pass under way up to its timers, where it has no request. -/
def Chan.quietPass (c : Chan) (x : PassCtx) : Option Pass :=
  if c.inRun 1 && x.im.requests.isEmpty then some (c.passFront x) else none

/-- The part of a pass that a route's expiry asks for, where `due` holds of the state after the timers. -/
def Chan.expire (c : Chan) (me : Ch) (v : Variant) (route : Nat) (due : PassCtx → Pass → Nat → Bool)
    (f : PassCtx → Pass → Pass → Nat → Pass) : Chan :=
  match c.image with
  | none => c
  | some g =>
    let x := c.passCtx me v g
    match c.quietPass x, x.ownRoute route, c.vital me with
    | some snap, some r, true =>
      if due x snap r then
        let p := f x snap (({ res := c.res, log := [] } : Pass).setRoute r (fun q => { q with timer := (snap.route r).timer })) r
        { c with res := p.res }.record p.log
      else c
    | _, _, _ => c

/-- A timer of a kind has reached 0 in one of these states. -/
def Pass.timeUp (p : Pass) (states : List Byte) (kind r : Nat) : Bool :=
  let q := p.route r
  states.contains q.state && q.tkind == kind && q.timer == 0

/-- POSITIONING_TIMEOUT (R99): detection takes precedence. -/
def execPositioningTimeout (ch : Ch) (route : Nat) (s : State) : Host.Outcome State Fault Refusal :=
  .next (s.onLive ch (fun c => c.expire ch s.factory.variant route
    (fun x snap r => snap.timeUp [0x33] 3 r && !snap.allDetected x r) (fun x snap p r => p.posTimeout x snap r)))

/-- APPROACH_TIME_RELEASE (R107, R313): the train takes precedence. -/
def execApproachTimeRelease (ch : Ch) (route : Nat) (s : State) : Host.Outcome State Fault Refusal :=
  .next (s.onLive ch (fun c => c.expire ch s.factory.variant route
    (fun x snap r => snap.timeUp [0x77] 1 r && ((snap.aux r).restartHeld || !snap.trainIn x r))
    (fun x snap p r => p.evalRoute x snap r)))

/-- OVERLAP_RELEASE_TIMER (R104): the overlap is released once its sections read clear. -/
def execOverlapReleaseTimer (ch : Ch) (route : Nat) (s : State) : Host.Outcome State Fault Refusal :=
  .next (s.onLive ch (fun c => c.expire ch s.factory.variant route (fun _ snap r => snap.timeUp [0x88, 0x99] 2 r)
    (fun x snap p r => p.overlapTimer x snap r)))

/-- EMERGENCY_RELEASE_EXPIRY (R109). -/
def execEmergencyReleaseExpiry (ch : Ch) (route : Nat) (s : State) : Host.Outcome State Fault Refusal :=
  .next (s.onLive ch (fun c => c.expire ch s.factory.variant route (fun _ snap r => snap.timeUp emergencyStates 4 r)
    (fun x snap p r => p.evalRoute x snap r)))

/-- RSV_TIMEOUT (R97, R282): the route gives everything back with reason 0x0A. -/
def execRsvTimeout (ch : Ch) (route : Nat) (s : State) : Host.Outcome State Fault Refusal :=
  .next (s.onLive ch (fun c => c.expire ch s.factory.variant route
    (fun x snap r => (snap.route r).state == 0x11 && snap.rsvLate x r) (fun x _ p r => p.toReleased x r 0xA 0)))

/-- STARTUP_HOLD_END (R112, R285): in the pass in which the hold's time is up, requests are accepted again and RELEASE_ALL goes
out. -/
def execStartupHoldEnd (ch : Ch) (s : State) : Host.Outcome State Fault Refusal :=
  .next (s.onLive ch (fun c =>
    match c.image with
    | none => c
    | some g =>
      let x := c.passCtx ch s.factory.variant g
      if c.vital ch && c.inRun 1 && c.res.hold && !(c.passFront x).res.hold then
        { c with res := (({ res := c.res, log := [] } : Pass).endHold x).res }
      else c))

end Sys2Proof.Machine
end

