-- ==== Sys2Proof/Machine/Remote.lean ====
section
/-! DEFINITION. Three lanes brought to one image (spec/10_fabric_routing_messages.md R271, R272), and reservation messages on
their way out of and into the module (R281 to R285, Table 10-6). -/

namespace Sys2Proof.Machine

open Sys2Proof

/-! ### Messages sent at step 5 of T1 (R281 to R285) -/

/-- The outbound event connection to a node. -/
def Image.eventConn (im : Image) (node : Nat) : Option (Nat × Conn) :=
  (im.conns.zipIdx.find? (fun e => !e.1.inbound && e.1.event && e.1.peer == node)).map (fun e => (e.2, e.1))

/-- The inbound event connection from a node. -/
def Image.eventIn (im : Image) (node : Nat) : Option Conn := im.conns.find? (fun d => d.inbound && d.event && d.peer == node)

/-- The class of a reservation message (Table 10-2): a REPORT is vital cyclic. -/
def eventClass (kind : Nat) : Nat := if kind == 0x16 then 0 else 1

/-- An event message on a connection with its next SEQ (R268). Every channel counts it; a channel that sends vital frames
sends it. REPORTs of several reservations follow one another in one run, so they take the same counter (log 33). -/
def Chan.sendEvent (c : Chan) (me : Ch) (k : Nat) (d : Conn) (kind : Nat) (dest : Option Nat) (data : List Word) : Chan :=
  let seq := (c.fab.evSeq.lookup k).getD 0 + 1
  let c := { c with fab := { c.fab with evSeq := tabPut c.fab.evSeq k seq } }
  if c.sendsVital me then c.sendVital me d (eventClass kind) kind dest seq (c.task 1).runCluster data else c

/-- An event message to a node; none without a connection to it. -/
def Chan.eventTo (c : Chan) (me : Ch) (im : Image) (node kind : Nat) (data : List Word) : Chan :=
  match im.eventConn node with
  | some (k, d) => c.sendEvent me k d kind (some node) data
  | none => c

/-- An answer to a reservation (Table 10-6). -/
def Chan.sendAnswer (c : Chan) (me : Ch) (im : Image) (e : ReqEntry) : Chan :=
  let id := w32 (bits (wordAt e.data 0).toNat 15 0)
  let route := w32 e.target
  if e.op == 0xC then c.eventTo me im (idNode e.target) 0x12 (id :: route :: e.data.drop 1)
  else
    let w := (wordAt e.data 1).toNat
    c.eventTo me im (idNode e.target) 0x13 [id, route, w32 (bits w 31 24), w32 (bits w 17 0)]

/-- RELEASE_ALL on every outbound event connection, to all (R285). -/
def Chan.sendReleaseAll (c : Chan) (me : Ch) (im : Image) : Chan :=
  im.conns.zipIdx.foldl
    (fun c e => if !e.1.inbound && e.1.event then c.sendEvent me e.2 e.1 0x15 none [w32 im.node, 1] else c) c

/-- A RESERVE, UNRESERVE or RELEASE_ALL (Table 10-6); node 64 stands for all. -/
def Chan.sendAsk (c : Chan) (me : Ch) (im : Image) (a : Nat × ReqEntry) : Chan :=
  let e := a.2
  let id := w32 (bits (wordAt e.data 0).toNat 15 0)
  let route := w32 e.target
  if e.op == 9 then
    let ws := e.data.drop 2
    c.eventTo me im a.1 0x11 (id :: route :: wordAt e.data 1 :: w32 ws.length :: ws)
  else if e.op == 0xA then
    let ws := e.data.drop 1
    c.eventTo me im a.1 0x14 (id :: route :: w32 ws.length :: ws)
  else c.sendReleaseAll me im

/-- The REPORT of a reservation held for another module (R98, Table 10-6). -/
def Chan.sendReport (c : Chan) (me : Ch) (im : Image) (v : InRsv) : Chan :=
  c.eventTo me im v.node 0x16
    (w32 v.id :: w32 v.route :: v.entries.map (fun w => ERec.word0 (c.res.elem (lentry w).elem)))

/-- Everything the pass has to say to other modules, at step 5 of T1 (R283). -/
def Chan.sendReservations (c : Chan) (me : Ch) : Chan :=
  match c.image with
  | none => c
  | some im =>
    let c := c.res.answers.foldl (fun c e => c.sendAnswer me im e) c
    let c := c.res.asks.foldl (fun c a => c.sendAsk me im a) c
    let c := c.res.inRsv.foldl (fun c v => c.sendReport me im v) c
    { c with res := { c.res with answers := [], asks := [] } }

/-! ### Remote vote sets (R271) -/

/-- The remote vote sets that count: of the channels whose input sets count (R186, R271). -/
def Chan.countedRemote (c : Chan) : List RemoteSet :=
  c.countedSets.filterMap (fun t =>
    (c.din.remoteSets.get t.ch).filter (fun r => r.mainCycle == c.din.mainCycle && r.offset == c.din.offset))

/-- Two reports of a connection agree. -/
def sameReport (a b : RemoteEntry) : Bool := a.seq == b.seq && a.data == b.data

/-- The report of a connection that two or more channels agree on, with the largest of their ages. -/
def agreedReport (rs : List RemoteEntry) : Option RemoteEntry :=
  (rs.find? (fun r => decide (2 ≤ (rs.filter (sameReport r)).length))).map (fun r =>
    { r with age := ((rs.filter (sameReport r)).map (fun (e : RemoteEntry) => e.age)).foldl max 0 })

/-- A cyclic connection consolidated: the report taken, or the last one an instant older (R271). -/
def Chan.consConn (c : Chan) (report : Option RemoteEntry) (k : Nat) : ConnState :=
  let old : ConnState := (tabGet c.fab.cons k).getD { seq := none, age := 0, data := [], isSafe := true }
  match report with
  | some e => { seq := some e.seq, age := e.age, data := e.data, isSafe := false }
  | none => { old with age := old.age + 1 }

/-- The report of a connection taken from the counted sets. -/
def agreedConn (sets : List RemoteSet) (k : Nat) : Option RemoteEntry :=
  agreedReport (sets.filterMap (fun t => t.conns.find? (fun e => e.conn == k)))

/-- A consolidated message past its freshness, or none (R272). -/
def ConnState.past (t : ConnState) (d : Conn) : Bool := t.seq.isNone || decide (d.fresh < t.age)

/-- The inbound cyclic connections of the image by number. -/
def Image.inbound (im : Image) : List (Nat × Conn) :=
  (im.conns.zipIdx.filter (fun e => e.1.inbound && !e.1.event)).map (fun e => (e.2, e.1))

/-- A node is unreachable (R272). -/
def nodeLost (im : Image) (cons : List (Nat × ConnState)) (noRoute : Bool) (node : Nat) : Bool :=
  let cs := im.inbound.filter (fun e => e.2.peer == node)
  noRoute || (!cs.isEmpty && cs.all (fun e => match tabGet cons e.1 with | some t => t.past e.2 | none => true))

/-- The consolidated no-route bit of a node (R271). -/
def Chan.consNoRoute (c : Chan) (node : Nat) : Bool :=
  (takeValue (c.countedRemote.map (fun t => t.noRoute.getLsbD node)) true).1

/-- The entry a task reads of a connection: its message, or its safe value past its freshness or from an unreachable
node (R272). -/
def imageEntry (lost : Bool) (k : Nat) (d : Conn) (t : ConnState) : RemoteEntry :=
  if t.past d || lost then { conn := k, seq := t.seq.getD 0, age := max t.age (d.fresh + 1), data := d.safe }
  else { conn := k, seq := t.seq.getD 0, age := t.age, data := t.data }

/-! ### Event messages (R271, R283) -/

/-- An event message as an entry of the request tile (R72, Table 10-6); a REPORT is none. -/
def eventEntry (peer : Nat) (e : RemoteEvent) : Option ReqEntry :=
  let id := bits (wordAt e.data 0).toNat 15 0
  let route := bits (wordAt e.data 1).toNat 17 0
  let w0 := rsvWord id peer
  match e.kind with
  | .reserve => some { op := 9, target := route, data := w0 :: wordAt e.data 2 :: e.data.drop 4 }
  | .grant => some { op := 0xC, target := route, data := w0 :: e.data.drop 2 }
  | .refuse =>
    some { op := 0xD, target := route
           data := [w0, w32 (bits (wordAt e.data 3).toNat 17 0 + bits (wordAt e.data 2).toNat 7 0 * 2 ^ 24)] }
  | .unreserve => some { op := 0xA, target := route, data := w0 :: e.data.drop 3 }
  | .releaseAll => some { op := 0xB, target := bits (wordAt e.data 0).toNat 5 0 * 4096, data := [] }
  | .other => none

/-- The order of fabric entries: main cycle of consolidation, FIRST, originator, RSV_ID (R283); a RELEASE_ALL names its node in
TARGET (R72). -/
def entryKey (e : Nat × ReqEntry) : Nat :=
  let first := if e.2.op == 9 then (wordAt e.2.data 1).toNat else 0
  let node := if e.2.op == 0xB then idNode e.2.target else bits (wordAt e.2.data 0).toNat 21 16
  ((e.1 * 2 ^ 32 + first) * 64 + node) * 65536 + bits (wordAt e.2.data 0).toNat 15 0

/-- An entry put in its place behind those of no higher key. -/
def insertEntry (e : Nat × ReqEntry) : List (Nat × ReqEntry) → List (Nat × ReqEntry)
  | [] => [e]
  | x :: xs => if entryKey x ≤ entryKey e then x :: insertEntry e xs else e :: x :: xs

/-- A REPORT consolidated: the reservation it names takes the owner's states (R98). -/
def Resolver.takeReport (v : Resolver) (peer : Nat) (data : List Word) : Resolver :=
  let id := bits (wordAt data 0).toNat 15 0
  let route := bits (wordAt data 1).toNat 17 0
  { v with
    outRsv := v.outRsv.map (fun (r : OutRsv) =>
      if r.id == id && r.route == route && r.owner == peer && r.granted then
        { r with report := data.drop 2, fresh := true, age := 0 }
      else r) }

/-- An event message taken: its connection's last SEQ, and its entry or report. -/
def Chan.takeEvent (c : Chan) (e : RemoteEvent) : Chan :=
  let peer := match c.conn e.conn with
    | some d => d.peer
    | none => 0
  let fab := { c.fab with cons := tabPut c.fab.cons e.conn { seq := some e.seq, age := 0, data := [], isSafe := false } }
  match eventEntry peer e with
  | some r => { c with fab := { fab with entries := insertEntry (c.din.mainCycle, r) fab.entries } }
  | none => { c with fab := fab, res := c.res.takeReport peer e.data }

/-- An event message is later than the last one taken on its connection. -/
def Chan.eventNew (c : Chan) (e : RemoteEvent) : Bool :=
  match tabGet c.fab.cons e.conn with
  | some t => match t.seq with
    | some n => decide (n < e.seq)
    | none => true
  | none => true

/-- One reported event message: taken when a second channel reports it alike, else kept waiting (R271). -/
def Chan.consEvent (c : Chan) (sets : List RemoteSet) (e : RemoteEvent) : Chan :=
  if !c.eventNew e then c
  else
    let now := (sets.filter (fun t => t.events.contains e)).length
    let held := c.fab.waiting.any (fun w => w.ev == e)
    if 2 ≤ now + (if held then 1 else 0) then
      ({ c with fab := { c.fab with waiting := c.fab.waiting.filter (fun w => w.ev != e) } }).takeEvent e
    else if held then c
    else { c with fab := { c.fab with waiting := c.fab.waiting ++ [{ ev := e, age := 0 }] } }

/-- Events that have waited for the freshness of their connection dropped and counted, at each cluster cycle (R271). -/
def Chan.ageEvents (c : Chan) : Chan :=
  if c.din.offset != 0 then c
  else
    let limit := fun (w : WaitingEvent) => match c.conn w.ev.conn with
      | some d => d.fresh
      | none => 0
    let old := c.fab.waiting.filter (fun w => decide (limit w ≤ w.age))
    { c with
      fab :=
        { c.fab with
          waiting := (c.fab.waiting.filter (fun w => decide (w.age < limit w))).map (fun w => { w with age := w.age + 1 })
          eventDrop := satAdd 16 c.fab.eventDrop old.length } }

/-- Reports of held reservations grow older with each main cycle and turn stale past the freshness of the connection they come
on (R72, R98). -/
def Chan.ageReports (c : Chan) : Chan :=
  if c.din.offset != 0 then c
  else
    let fresh := fun (node : Nat) => match c.image.bind (fun im => im.eventIn node) with
      | some d => d.fresh
      | none => 2
    { c with
      res := { c.res with
        outRsv := c.res.outRsv.map (fun (r : OutRsv) =>
          { r with age := r.age + 1, fresh := r.fresh && decide (r.age + 1 ≤ fresh r.owner) }) } }

/-- The cyclic connections brought up to date from the report taken of each and the nodes without a route (R271, R272). -/
def Chan.takeConns (c : Chan) (im : Image) (report : Nat → Option RemoteEntry) (noRoute : Nat → Bool) : Chan :=
  let cyc := im.inbound.map (fun e => (e.1, c.consConn (report e.1) e.1))
  let events := c.fab.cons.filter (fun e => !(cyc.any (fun k => k.1 == e.1)))
  let unreach : BitVec 64 :=
    (List.range 64).foldl (fun v n => putBit v n (n != c.node && nodeLost im cyc (noRoute n) n)) 0#64
  let safe := fun (e : Nat × Conn) (t : ConnState) => t.past e.2 || unreach.getLsbD e.2.peer
  let marked := (im.inbound.zip cyc).map (fun p => (p.1.1, { p.2.2 with isSafe := safe p.1 p.2.2 }))
  let turned := (im.inbound.zip marked).filter (fun p =>
    p.2.2.isSafe && p.2.2.seq.isSome &&
      !((tabGet c.fab.cons p.1.1).map (fun (t : ConnState) => t.isSafe)).getD true)
  { c with
    fab := { c.fab with
      cons := marked ++ events, unreach := unreach, staleSafe := satAdd 16 c.fab.staleSafe turned.length } }

/-- The remote part of the input image built from the sets held (R271, R272). -/
def Chan.consolidateRemote (c : Chan) : Chan :=
  match c.image with
  | none => c
  | some im =>
    let sets := c.countedRemote
    let c := c.ageReports.ageEvents.takeConns im (agreedConn sets) c.consNoRoute
    (sets.flatMap (fun t => t.events)).eraseDups.foldl (fun c e => c.consEvent sets e) c

/-- The same in SPLIT mode, from what the channel itself has received (R124, R180). -/
def Chan.ownRemote (c : Chan) (me : Ch) : Chan :=
  match c.image, c.din.remoteSets.get me with
  | some im, some t =>
    let c := c.ageReports.takeConns im (fun k => t.conns.find? (fun e => e.conn == k)) (fun n => t.noRoute.getLsbD n)
    (t.events.filter c.eventNew).foldl (fun c e => c.takeEvent e) c
  | _, _ => c

/-- The remote inputs of an image from the consolidated connections. -/
def Chan.remoteImage (c : Chan) : List RemoteEntry :=
  match c.image with
  | none => []
  | some im =>
    im.inbound.filterMap (fun e =>
      (tabGet c.fab.cons e.1).map (fun t => imageEntry (c.fab.unreach.getLsbD e.2.peer) e.1 e.2 t))

/-- This channel's remote vote set at a release instant (R271). -/
def Chan.remoteSet (c : Chan) (me : Ch) (main offset : Nat) : RemoteSet :=
  { ch := me, offset := offset, mainCycle := main, noRoute := c.noRouteMap
    conns := c.fab.rx.filterMap (fun e => match c.conn e.1, e.2.seq with
      | some d, some n =>
        if d.event then none
        else some { conn := e.1, seq := n, age := c.sync.cluster - e.2.ts, data := e.2.data }
      | _, _ => none)
    events := c.fab.events }

end Sys2Proof.Machine
end

