-- ==== Sys2Proof/Machine/Switch.lean ====
section
/-! DEFINITION. The online program exchange (spec/05_block_execution.md R143 to R153): verification, arming, preparation, the
check at the boundary and the switch, and the version checks of an application (spec/16 Table 16-5). -/

namespace Sys2Proof.Machine

open Sys2Proof

/-! ### Version and compatibility (R415) -/

/-- The first check of Table 16-5 that an application container fails, by its code; 0 when all pass. -/
def Chan.versionFault (c : Chan) (me : Ch) (k : Container) : Nat :=
  let api := bits c.boot.fwApi.toNat 15 0
  let least := bits k.api.toNat 15 0
  let most := bits k.api.toNat 31 16
  if api < least || most < api then 0x0504
  else if k.libMajor != c.boot.libMajor || c.boot.libMinor < k.libMinor then 0x0505
  else if k.node != c.node then 0x0506
  else if c.split then (if k.kind == 3 && k.channel == me.code then 0 else 0x0507)
  else if k.kind == 2 then 0 else 0x0507

/-! ### Verification (R144, R145) -/

/-- Two definitions name the same instance (R145). -/
def sameInst (a b : InstDef) : Bool := a.id == b.id && a.typ == b.typ && a.version == b.version

/-- The definition matched to one of another image. -/
def Image.matching (im : Image) (d : InstDef) : Option InstDef := im.insts.find? (sameInst d)

/-- Instances of `im` that `other` does not match. -/
def Image.unmatched (im other : Image) : List InstDef := im.insts.filter (fun d => (other.matching d).isNone)

/-- The first matched instance at another place or of another size (R145). -/
def Image.misplaced (old new : Image) : Option Nat :=
  (old.insts.find? (fun d => match new.matching d with
    | some e => e.offset != d.offset || e.size != d.size
    | none => false)).map (fun d => d.id)

/-- Words of instance data of a list of instances. -/
def instWordsOf (ds : List InstDef) : Nat := ds.foldl (fun n d => n + d.size) 0

/-- Two records share space. -/
def recordsMeet (a b : InstDef) : Bool :=
  decide (a.offset * 4 < b.offset * 4 + b.size) && decide (b.offset * 4 < a.offset * 4 + a.size)

/-- Words of the instance data region: 96 MiB or 24 MiB (R133). -/
def regionWords (v : Variant) : Nat :=
  match v with
  | .hx4096 => 96 * 2 ^ 18
  | .hx1024 => 24 * 2 ^ 18

/-- The new instances fit (R145): each within the region, in space that the running image leaves free and that no other instance of
the new image takes, and all data together within the region. -/
def newFit (v : Variant) (old new : Image) : Bool :=
  let fresh := new.unmatched old
  fresh.all (fun d =>
    decide (d.offset * 4 + d.size ≤ regionWords v) && !old.insts.any (recordsMeet d) &&
      !new.insts.any (fun e => e != d && recordsMeet d e)) &&
    decide (instWordsOf old.insts + instWordsOf fresh ≤ regionWords v)

/-- The first check of R144 that a staged container fails: its result code and the instance it names. -/
def Chan.verifyFault (c : Chan) (me : Ch) (v : Variant) (old : Image) (k : Container) : Nat × Nat :=
  match k.image with
  | none => (1, 0)
  | some new =>
    if (new.setFault v k.tileBad).isSome then (1, 0)
    else if c.versionFault me k != 0 then (2, 0)
    else if (new.tasks.getD 1 default).period4 != (old.tasks.getD 1 default).period4 then (3, 0)
    else if new.schedule != old.schedule then (4, 0)
    else
      match old.misplaced new with
      | some id => (5, id)
      | none => if newFit v old new then (0, 0) else (6, 0)

/-- The slots that the boundary has written hold the running set's tiles again, where the switch is not made. -/
def Chan.undoBoundary (c : Chan) : Chan :=
  match c.atBoundary with
  | none => c
  | some new =>
    let c := ((List.range 448).filter new.stationTile).foldl (fun c i => c.rewriteSlot i) c
    { c with tiles := { c.tiles with stale := [] } }

/-- The exchange moved to a state with a result, naming an object (R143, R155). -/
def Chan.exchTo (c : Chan) (st result kind id : Nat) : Chan :=
  let c := if st == 3 || st == 4 then c else c.undoBoundary
  let c := { c with
    blocks := { c.blocks with
      exch := st, result := result, refuseKind := kind, refuseId := id
      prepared := if st == 3 then c.blocks.prepared else false
      boundaryOk := if st == 3 then c.blocks.boundaryOk else false } }
  c.emit .exchange st [w32 result, w32 id]

/-- EXCH_VERIFY on the staged container: VERIFIED with the instance match computed, or REFUSED (R143 to R145); none where
the exchange is not STAGED. -/
def Chan.exchVerify (c : Chan) (me : Ch) (v : Variant) : Option Chan :=
  match c.blocks.exch, c.blocks.staged, c.image with
  | 1, some k, some old =>
    match c.verifyFault me v old k, k.image with
    | (0, _), some new =>
      let fresh := (new.unmatched old).length
      let c := c.exchTo 2 0 0 0
      some { c with
        blocks := { c.blocks with
          matched := new.insts.length - fresh, fresh := fresh, vanished := (old.unmatched new).length } }
    | (code, id), _ => some (c.exchTo 5 code (if code == 5 then 2 else 0) id)
  | _, _, _ => none

/-- EXCH_ABORT (R143): from VERIFIED or REFUSED to IDLE, from ARMED to VERIFIED, result 0x10; none elsewhere. -/
def Chan.exchAbort (c : Chan) : Option Chan :=
  match c.blocks.exch with
  | 2 => some (c.exchTo 0 0x10 0 0)
  | 3 => some (c.exchTo 2 0x10 0 0)
  | 5 => some (c.exchTo 0 0x10 0 0)
  | _ => none

/-! ### Arming and preparation (R147, R149) -/

/-- The largest ratio m of R121 among an image's tasks. -/
def Image.ratioM (im : Image) : Nat :=
  let p1 := (im.tasks.getD 1 default).period4
  im.tasks.foldl (fun m t => if t.present && p1 != 0 then max m (t.period4 / p1) else m) 1

/-- A switch cycle N accepted in main cycle `now` (R147, R314). -/
def switchCycleOk (now n m : Nat) : Bool := decide (now + 32 ≤ n) && decide (n ≤ now + 65536) && n % m == 0

/-- The larger ratio of the running and the staged image. -/
def Chan.ratioBoth (c : Chan) : Nat :=
  let m := fun (i : Option Image) => match i with
    | some im => im.ratioM
    | none => 1
  max (m c.image) (m (c.blocks.staged.bind (fun k => k.image)))

/-- The arm takes effect in main cycle `now`: ARMED, or VERIFIED with result 0x08; none outside VERIFIED (R143, R147). -/
def Chan.exchArm (c : Chan) (now n : Nat) : Option (Bool × Chan) :=
  if c.blocks.exch != 2 then none
  else if switchCycleOk now n c.ratioBoth then
    let c := { c with blocks := { c.blocks with exchCycle := n, prepared := false, boundaryOk := false, newInsts := [] } }
    some (true, c.exchTo 3 0 0 0)
  else some (false, c.exchTo 2 8 0 0)

/-- The space of vanished instances that the new image does not use (R145). -/
def Chan.vacatedBy (c : Chan) (old new : Image) : List (Nat × Nat) :=
  (c.blocks.vacated ++ (old.unmatched new).map (fun d => (d.offset, d.size))).filter (fun r =>
    !(new.insts.any (fun d => decide (4 * r.1 < 4 * d.offset + d.size) && decide (4 * d.offset < 4 * r.1 + r.2))))

/-- The preparation of an armed exchange (R149): the record of every new instance in its place, and the master copy of the new
set in the staged half. -/
def Chan.prepareExchange (c : Chan) (v : Variant) (old new : Image) : Chan :=
  let fresh := new.unmatched old
  let c := fresh.foldl (fun c d => c.rewrite (instBase + 16 * d.offset) (4 * d.size)) c
  let c := c.rewrite (masterIn v (1 - c.blocks.half) 0) 0x400000
  { c with blocks := { c.blocks with prepared := true, newInsts := fresh.map initialInst } }

/-- EXCH_PREPARE_DONE (R149): the idle-time preparation of an armed exchange is complete. -/
def execExchPrepareDone (ch : Ch) (s : State) : Host.Outcome State Fault Refusal :=
  .next (s.onLive ch (fun c =>
    match c.blocks.exch, c.image, c.blocks.staged.bind (fun k => k.image) with
    | 3, some old, some new => c.prepareExchange s.factory.variant old new
    | _, _, _ => c))

/-- At the T1 release of cycle N − 1 an unprepared exchange returns to VERIFIED with result 0x0A (R149). -/
def Chan.checkPrepared (c : Chan) (main : Nat) : Chan :=
  if c.blocks.exch == 3 && main + 1 == c.blocks.exchCycle && !c.blocks.prepared then c.exchTo 2 0xA 0 0 else c

/-! ### The boundary (R150, R152) -/

/-- The list words that a route's references name in an image, with REQ, ROLE and GROUP (R68, R152). -/
def Image.routeLists (im : Image) (r : Nat) : List (List Word) :=
  let d := im.route r
  [im.listWords d.path, im.listWords d.flank, im.listWords d.approach]

/-- The overlap records of a route, their lists and all but RELEASE_TIME (R69, R152). -/
def Image.routeOverlaps (im : Image) (r : Nat) : List (Nat × Nat × Nat × Word × Word × List Word) :=
  let d := im.route r
  (List.range d.ovlCount).map (fun k =>
    let o := im.ovl (d.ovlFirst + k)
    (d.ovlFirst + k, o.route, o.rank, o.path, o.exit, im.listWords o.path))

/-- The ELEM records of the elements of this module that a route's lists name (R152). -/
def Image.routeElems (im : Image) (r : Nat) : List (List Word) :=
  let ws := (im.routeLists r).flatten ++ (im.routeOverlaps r).flatMap (fun o => o.2.2.2.2.2)
  (ws.map (fun w => (lentry w).elem)).eraseDups.map (fun id =>
    if idNode id == im.node then (List.range 8).map (im.elemWord (idLocal id)) else [])

/-- The new image changes the topology of a route, among the locked routes of a list (R152). -/
def topologyChanged (old new : Image) (locked : List Nat) (r : Nat) : Bool :=
  !new.routeUsed r ||
    ([0, 1, 2, 3, 4, 5, 6, 8].any (fun w => old.routeWord r w != new.routeWord r w)) ||
    old.routeLists r != new.routeLists r || old.routeOverlaps r != new.routeOverlaps r ||
    old.routeElems r != new.routeElems r || locked.any (fun q => old.conflict r q != new.conflict r q)

/-- The routes locked for the purpose of an exchange: not RELEASED (R152). -/
def Chan.lockedRoutes (c : Chan) (im : Image) : List Nat :=
  (List.range im.routeCount).filter (fun r => (c.res.rstate.getD r RRec.released).state != 0)

/-- Resident PROG tiles of the running set whose slots the new set's station tiles take (R151). -/
def staleProgs (old new : Image) : List Nat :=
  ((List.range 448).filter (fun i => new.stationTile i && old.kindAt i == some 0x18))

/-- The new set's tiles written into the tile store by DMA engine 0, the state tiles built from the old state, their master copies
brought up to date (R150). GEN of the state tiles is the main cycle of the commit they carry over (R87). -/
def Chan.writeBoundary (c : Chan) (v : Variant) (old new : Image) : Chan :=
  let c := { c with blocks := { c.blocks with boundaryOk := true }, tiles := { c.tiles with stale := staleProgs old new } }
  let c := ((List.range 448).filter new.stationTile).foldl (fun c i => c.rewriteSlot i) c
  new.stateTiles.foldl (fun c i => c.rewrite (masterIn v (1 - c.blocks.half) i) 4096) c

/-- After step 5 of T1 of cycle N − 1: the check of the committed route state, which refuses with 0x20 or lets the tiles
be written (R150, R152). -/
def Chan.boundary (c : Chan) (v : Variant) (main : Nat) : Chan :=
  match c.image, c.blocks.staged.bind (fun k => k.image) with
  | some old, some new =>
    if c.blocks.exch == 3 && main + 1 == c.blocks.exchCycle then
      let locked := c.lockedRoutes old
      match locked.find? (topologyChanged old new locked) with
      | some r => c.exchTo 2 0x20 1 (old.node * 4096 + r)
      | none => c.writeBoundary v old new
    else c
  | _, _ => c

/-! ### The switch (R146, R148, R150, R151) -/

/-- Two entries of output images go to the same place. -/
def sameDest : OutSrc → OutSrc → Bool
  | .localOut n _, .localOut m _ => n == m
  | .remoteOut a i _, .remoteOut b j _ => a == b && i == j
  | .offered a _, .offered b _ => a == b
  | .result k i, .result l j => k == l && i == j
  | .reject i, .reject j => i == j
  | .doorElem e, .doorElem f => e == f
  | .slot i, .slot j => i == j
  | _, _ => false

/-- The period of a task of an image in units of 4 ms. -/
def Image.period4 (im : Image) (t : Nat) : Nat := (im.tasks.getD t default).period4

/-- The task cycle number in the new image, at the release of cycle N, of an execution in task cycle `prev` of the old one: so
many whole new periods before N as have passed, so that no timer runs out sooner (R121, R137, R146). -/
def carryCycle (p1 p q n prev : Nat) : Nat := n * p1 / q - (n * p1 / p - prev) * p / q

/-- A matched instance after the switch (Table 05-6): its fields kept, the cycle of its previous execution in the new task's
numbers; a running timer whose new preset is lower keeps its old one. -/
def carryInst (oldIm newIm : Image) (n : Nat) (old new : InstDef) (i : InstState) : InstState :=
  let was := i.oldPreset.getD old.preset
  { i with
    prevCycle := carryCycle (oldIm.period4 1) (oldIm.period4 old.task) (newIm.period4 new.task) n i.prevCycle
    oldPreset := if old.timerRuns i.fields && decide (new.preset < was) then some was else none }

/-- The instances of the new image (R146): matched ones carried, new ones as the preparation has written them. -/
def Chan.switchedInsts (c : Chan) (old new : Image) : List InstState :=
  new.insts.map (fun d =>
    match old.matching d, c.blocks.inst d.id with
    | some o, some i => carryInst old new c.blocks.exchCycle o d i
    | _, _ => (c.blocks.newInsts.find? (fun i => i.id == d.id)).getD (initialInst d))

/-- The IDs of the instances that vanish. -/
def vanishedIds (old new : Image) : List Nat := (old.unmatched new).map (fun d => d.id)

/-- The old image's entry that goes where an entry goes: its task, its place, and itself. -/
def Image.entryTo (im : Image) (src : OutSrc) : Option (Nat × Nat × OutEntry) :=
  (List.range 8).findSome? (fun t =>
    ((im.tasks.getD t default).outs.zipIdx.find? (fun o => sameDest o.1.src src)).map (fun o => (t, o.2, o.1)))

/-- A vanished instance drove the entry. -/
def droveBy (gone : List Nat) (o : OutEntry) : Bool := o.driver != 0 && gone.contains o.driver

/-- Entries of a task's new output image that a vanished instance drove, in whatever task (R148). -/
def vanishedEntries (old new : Image) (t : Nat) : List (Nat × Nat) :=
  let gone := vanishedIds old new
  (new.tasks.getD t default).outs.zipIdx.filterMap (fun e =>
    match old.entryTo e.1.src with
    | some (_, _, o) => if droveBy gone o then some (t, e.2) else none
    | none => none)

/-- Local outputs that a vanished instance drove and that no task of the new image writes: each with the task that is to write it
safe, its owner or, where that has gone, T1 (R148; T1 is a DESIGN CHOICE, log 78). -/
def absentEntries (old new : Image) : List (Nat × Nat × Word) :=
  let gone := vanishedIds old new
  (List.range 8).flatMap (fun t =>
    (old.tasks.getD t default).outs.filterMap (fun o =>
      match o.src with
      | .localOut n _ =>
        if droveBy gone o && (new.entryTo o.src).isNone then
          some (if (new.tasks.getD t default).present then t else 1, n, o.safe)
        else none
      | _ => none))

/-- A task's voted image in the new layout: every entry that the old image had, in whatever task, keeps its voted word, but for
one that a vanished instance drove; that one and a new one read safe (R148). A task that nothing was voted for has none. -/
def carryVoted (old new : Image) (voted : Nat → List Word) (t : Nat) : List Word :=
  let gone := vanishedIds old new
  let words := (new.tasks.getD t default).outs.map (fun e =>
    (e.safe, match old.entryTo e.src with
      | some (u, k, o) => if droveBy gone o then none else (voted u)[k]?
      | none => none))
  if !(new.tasks.getD t default).present || ((voted t).isEmpty && words.all (fun w => w.2.isNone)) then []
  else words.map (fun w => w.2.getD w.1)

/-- The door block of an element is carried over: its instance is matched, and computes the same element (R146). -/
def doorKept (old new : Image) (elem : Nat) : Bool :=
  old.insts.any (fun d =>
    (old.doorElem d).any (fun e => e.id == elem) &&
      (new.matching d).any (fun e => (new.doorElem e).any (fun x => x.id == elem)))

/-- The door elements: those of matched instances kept with their pairs' discrepancies, their times in the new tasks' cycle
numbers; new ones at their start (R146). -/
def Chan.switchedDoors (c : Chan) (old new : Image) : Doors :=
  let d := new.initialDoors c.nv.gateRecords
  let o := c.doors
  let kept := doorKept old new
  let cycle := fun (t prev : Nat) => carryCycle (old.period4 1) (old.period4 t) (new.period4 t) c.blocks.exchCycle prev
  { o with
    gates := d.gates.map (fun g =>
      match o.gates.find? (fun x => x.elem == g.elem && kept x.elem) with
      | some x => { x with isolPrev := cycle 0 x.isolPrev }
      | none => g)
    edges := d.edges.map (fun g => (o.edges.find? (fun x => x.elem == g.elem && kept x.elem)).getD g)
    berths := d.berths.map (fun g => (o.berths.find? (fun x => x.elem == g.elem && kept x.elem)).getD g)
    plungers := d.plungers.map (fun g => (o.plungers.find? (fun x => x.elem == g.elem && kept x.elem)).getD g)
    pairs := o.pairs.filter (fun p => kept p.elem)
    prev0 := cycle 0 o.prev0
    prev1 := cycle 1 o.prev1 }

/-! ### Reaction times (R204) -/

/-- A REACT entry's time in µs (R204, Table 07-5): of a path that Gnoret's data flow connects, as the image carries it (log
24). -/
def Chan.reactUs (c : Chan) (im : Image) (p : ReactPath) : Nat :=
  let head :=
    if p.srcKind == 0 then c.act (0x0D10 + p.srcId) * 10 + 20
    else if p.srcKind == 1 then p.remoteSrcUs + p.carriage
    else p.fresh * 64000
  let run := p.tasks.foldl (fun n t => n + im.period4 t * 4000 + (im.tasks.getD t default).budgetUs) 0
  head + 200 + run + (if p.dstKind == 1 then p.outUs else 0) + (if p.toOff then 200 else 500)

/-- The REACT entries computed, at P7 and after an exchange (R204). -/
def Chan.computeReact (c : Chan) : Chan :=
  match c.image with
  | some im => { c with react := im.react.map (c.reactUs im) }
  | none => { c with react := [] }

/-- The new image switched in (R151): program and instance tables, tiles and state in the new layout; marks begin unverified, the
set digest is the new one. The resident PROG slots are taken as rewritten by DMA engine 0 within the switch (log 75). -/
def Chan.switchImage (c : Chan) (old new : Image) : Chan :=
  let insts := c.switchedInsts old new
  let res := c.switchedRes old new
  let doors := c.switchedDoors old new
  let voted := fun (t : Nat) => (c.task t).voted
  let tasks := c.tasks.mapIdx (fun t k => { k with voted := carryVoted old new voted t })
  let progs := (List.range 448).filter (fun i => !new.stationTile i)
  let c := progs.foldl (fun c i => c.rewriteSlot i) c
  let c := { c with
    image := some new
    res := res
    doors := doors
    tasks := tasks
    tiles := { c.tiles.begin with digest := new.setDigest, stale := [] }
    mem := { c.mem with stagingDamaged := false }
    blocks :=
      { c.blocks with
        insts := insts, half := 1 - c.blocks.half, vanishedOuts := (List.range 8).flatMap (vanishedEntries old new)
        absentOuts := absentEntries old new, newInsts := [], vacated := c.vacatedBy old new, firstVote := true } }
  c.computeReact.exchTo 4 0 0 0

/-- The release of cycle N (R151, R153): the switch, or a refusal with 0x21 while a run is incomplete. -/
def Chan.switchAtRelease (c : Chan) (main : Nat) : Chan :=
  match c.image, c.blocks.staged.bind (fun k => k.image) with
  | some old, some new =>
    if c.blocks.exch == 3 && main == c.blocks.exchCycle then
      if c.blocks.boundaryOk && !(c.tasks.any (fun k => k.running)) then c.switchImage old new
      else c.exchTo 2 0x21 0 0
    else c
  | _, _ => c

/-- After the first T1 vote of the new image its slot runs, and the former one is valid (R151, R410). -/
def Chan.settleSwitch (c : Chan) : Chan :=
  if c.blocks.firstVote then
    let move := fun (t : Slot) =>
      if t.marker == 4 then { t with marker := 3 } else if t.marker == 3 then { t with marker := 1 } else t
    let digest := match c.blocks.staged with
      | some k => k.digest
      | none => c.boot.appDigest
    { c with
      nv := { c.nv with app0 := move c.nv.app0, app1 := move c.nv.app1 }
      boot := { c.boot with appDigest := digest, appSlot := c.boot.appSlot.map (fun k => 1 - k) }
      blocks := { c.blocks with firstVote := false } }
  else c

end Sys2Proof.Machine
end

