-- ==== Sys2Proof/Machine/Containers.lean ====
section
/-! DEFINITION. The checks of a Birnik container (spec/16_startup_images_identity.md R408 to R416): signature, versions, tile
set, task periods (spec/05 R119), windows (spec/09 R235), instance data (spec/05 R133), each with its code and DETAIL of
Table 16-2; and the flash slots. -/

namespace Sys2Proof.Machine

open Sys2Proof

/-! ### Flash slots (R408) -/

/-- A firmware slot. -/
def Nv.fw (v : Nv) (k : Nat) : Slot := if k == 0 then v.fw0 else v.fw1

/-- An application slot. -/
def Nv.app (v : Nv) (k : Nat) : Slot := if k == 0 then v.app0 else v.app1

/-- A firmware slot replaced. -/
def Nv.putFw (v : Nv) (k : Nat) (t : Slot) : Nv := if k == 0 then { v with fw0 := t } else { v with fw1 := t }

/-- An application slot replaced. -/
def Nv.putApp (v : Nv) (k : Nat) (t : Slot) : Nv := if k == 0 then { v with app0 := t } else { v with app1 := t }

/-- The slot marked NEXT, or else the one marked RUNNING (R409, R410). -/
def takenSlot (a b : Slot) : Option Nat :=
  if a.marker == 2 then some 0
  else if b.marker == 2 then some 1
  else if a.marker == 3 then some 0
  else if b.marker == 3 then some 1
  else none

/-- The slot a load is written to: the one that is not RUNNING (R411). -/
def freeSlot (a : Slot) : Nat := if a.marker == 3 then 1 else 0

/-- At entry to P7 the slot taken, if NEXT, becomes RUNNING and the former RUNNING slot VALID (R409, R410; log 47). -/
def settleSlots (taken : Option Nat) (a b : Slot) : Slot × Slot :=
  let former := fun (t : Slot) => if t.marker == 3 then { t with marker := 1 } else t
  match taken with
  | some 0 => if a.marker == 2 then ({ a with marker := 3 }, former b) else (a, b)
  | some _ => if b.marker == 2 then (former a, { b with marker := 3 }) else (a, b)
  | none => (a, b)

/-! ### Firmware (R409, R415) -/

/-- A firmware container passes format and signature (R413, R414). -/
def Container.fwSigned (k : Container) : Bool := k.kind == 1 && k.formatCode == 0 && k.romSigned

/-- A firmware container that passes every check for a hardware revision. -/
def Container.fwRuns (k : Container) (hwrev : Nat) : Bool := k.fwSigned && k.hwrev.contains hwrev

/-- The firmware slot the boot ROM runs, and whether it is a fallback (R409). -/
def Nv.fwChoice (v : Nv) (hwrev : Nat) : Option (Nat × Bool) :=
  let good := fun (k : Nat) => (v.fw k).marker != 0 && ((v.fw k).cont.map (fun c => c.fwRuns hwrev)).getD false
  match takenSlot v.fw0 v.fw1 with
  | some k => if good k then some (k, false) else if good (1 - k) then some (1 - k, true) else none
  | none => if good 0 then some (0, true) else if good 1 then some (1, true) else none

/-- Bitmap of the firmware slots that are not EMPTY. -/
def Nv.fwBitmap (v : Nv) : Nat := bitAt (v.fw0.marker != 0) 0 + bitAt (v.fw1.marker != 0) 1

/-- Some firmware slot passes its signature. -/
def Nv.fwAnySigned (v : Nv) : Bool :=
  [v.fw0, v.fw1].any (fun t => t.marker != 0 && (t.cont.map Container.fwSigned).getD false)

/-! ### Applications (R414 to R416) -/

/-- A key slot in use: a slot that fails its CRC counts as empty (R416). -/
def KeySlot.enrolled (k : KeySlot) : Bool := k.state == 1 && k.crcOk

/-- The key slot of a KEY_ID. -/
def Nv.keyIndex (v : Nv) (keyId : BitVec 64) : Option Nat := v.keys.findIdx? (fun k => k.enrolled && k.keyId == keyId)

/-- The container's signature verifies under an enrolled key. -/
def KeySlot.verifies (k : KeySlot) (c : Container) : Bool :=
  rsaVerify k.modulus k.exponent (digestBytes c.signedHash) c.signature

/-- DETAIL of a version fault (Table 16-2). -/
def Container.versionDetail (k : Container) (code : Nat) : Nat :=
  match code with
  | 0x0504 => bits k.api.toNat 15 0
  | 0x0505 => k.libMajor * 256 + k.libMinor
  | 0x0506 => k.node
  | _ => k.kind + k.channel * 256

/-- A task whose period breaks R119; `fabric` says that the image carries a schedule. -/
def Image.badPeriod (im : Image) : Option Nat :=
  let t0 := (im.tasks.getD 0 default).period4
  let t1 := (im.tasks.getD 1 default).period4
  let bad := fun (n : Nat) =>
    let t := im.tasks.getD n default
    if !t.present then decide (n < 2)
    else if t.period4 == 0 || decide (256 < t.period4) || decide (t.period4 < t0) then true
    else if n == 1 then (if im.schedule.isSome then t.period4 != 16 else decide (t.period4 < 4))
    else !(t1 % t.period4 == 0 || (t1 != 0 && t.period4 % t1 == 0))
  (List.range 8).find? bad

/-- Two windows meet in some basic cycle (R235). -/
def windowsMeet (a b : Window) : Bool :=
  a.port == b.port && decide (a.start < b.start + b.len) && decide (b.start < a.start + a.len) &&
    (List.range 64).any (fun k => k % 2 ^ a.rep == a.base && k % 2 ^ b.rep == b.base)

/-- A window entry that breaks R235 by itself. -/
def windowBad (w : Window) : Bool :=
  decide (w.start < 100) || decide (740 < w.start + w.len) || (w.arbitrating && decide (w.len < 15))

/-- The first window entry that breaks R235. -/
def badWindow (ws : List Window) : Option Nat :=
  (List.range ws.length).find? (fun i =>
    match ws[i]? with
    | none => false
    | some w =>
      windowBad w || decide (512 < ((ws.take (i + 1)).filter (fun v => v.port == w.port)).length) ||
        (ws.take i).any (windowsMeet w))

/-- KiB of instance data that an image needs. -/
def Image.instKib (im : Image) : Nat := (instWordsOf im.insts + 255) / 256

/-- No entry of a list stands twice in it. -/
def distinct {α : Type} [BEq α] : List α → Bool
  | [] => true
  | x :: xs => !xs.contains x && distinct xs

/-- The instance table of R133: at most 262,143 instances, IDs from 1 to 262,143, each once, sizes of whole units of four words;
and the keys of the pages in use as R74 asks (R134). -/
def Image.instsOk (im : Image) : Bool :=
  let ids := im.insts.map (fun d => d.id)
  let keys := (im.pages (fun _ => true)).map im.pageKey
  decide (ids.length ≤ 262143) && ids.all (fun n => n != 0 && decide (n ≤ 262143)) && distinct ids &&
    im.insts.all (fun d => d.size % 4 == 0 && decide (d.decl + 4 ≤ d.size)) &&
    keys.all (fun k => k != 0#32 && k != 0xFFFFFFFF#32) && distinct keys

/-- The first check of format, key and signature that an application container fails, with its DETAIL (R413, R414). A program
data section whose tables break R133 or R134 fails its format (DESIGN CHOICE, log 69). -/
def Chan.signatureFault (c : Chan) (k : Container) : Option (Nat × Nat) :=
  if k.formatCode != 0 then some (0x0501, k.formatCode - 1)
  else if (k.image.map (fun im => !im.instsOk)).getD false then some (0x0501, 0x13)
  else
    match c.nv.keyIndex k.keyId with
    | none => some (0x0502, k.keyId.toNat % 2 ^ 32)
    | some n => if (c.nv.keys.getD n default).verifies k then none else some (0x0503, n)

/-- The first check that an image fails once its versions pass (R79, R119, R133, R235). -/
def imageFault (v : Variant) (im : Image) (tileBad : Option Nat) : Option (Nat × Nat) :=
  match im.setFault v tileBad with
  | some i => some (0x0508, i)
  | none =>
    match im.badPeriod with
    | some t => some (0x0509, t)
    | none =>
      match im.schedule.bind (fun s => badWindow s.windows) with
      | some i => some (0x050A, i)
      | none => if regionWords v < instWordsOf im.insts then some (0x050B, im.instKib) else none

/-- The first check that an application container fails, with its code and DETAIL (R404, Table 16-2). -/
def Chan.appFault (c : Chan) (me : Ch) (v : Variant) (k : Container) : Option (Nat × Nat) :=
  match c.signatureFault k with
  | some e => some e
  | none =>
    match c.versionFault me k, k.image with
    | 0, some im => imageFault v im k.tileBad
    | 0, none => some (0x0501, 0x0013)
    | n, _ => some (n, k.versionDetail n)

end Sys2Proof.Machine
end

