-- ==== Sys2Proof/Machine/Boot.lean ====
section
/-! DEFINITION. A start-up that stops (spec/16_startup_images_identity.md R403, R404, R407). -/

namespace Sys2Proof.Machine

open Sys2Proof

/-- A channel whose check fails stops at status-only with a code of Table 16-2 and its DETAIL, and records it; it keeps the
phase it has reached (R403, R404). -/
def Chan.stop (c : Chan) (code : Nat) (detail : Word) : Chan :=
  if c.boot.stopped then c
  else
    let c := c.openSwitches
    { c with boot := { c.boot with stopped := true, code := code, detail := detail } }.emit .startupStop code [detail]

/-- The channel is starting up in a phase and has not stopped. -/
def Chan.starting (c : Chan) (phase : Nat) : Bool := c.live && !c.boot.stopped && c.boot.phase == phase

end Sys2Proof.Machine
end

