-- ==== Sys2Proof/Machine/Pages.lean ====
section
/-! DEFINITION. Vital state on its way to another channel or to the partner: pages of instance data (spec/06 R177, R178), STATE
and XSTATE transfers, and the COMMIT digest (spec/11 R306, R307). -/

namespace Sys2Proof.Machine

open Sys2Proof

/-- The state that a STATE transfer carries (Table 06-2). -/
def Chan.stateXfer (c : Chan) : StateXfer :=
  { commit := c.res.cycle, estate := c.res.estate, rstate := c.res.rstate, acc := c.res.acc, exch := c.blocks.exch
    active := c.params.active, pending := c.params.shadow, queue := c.host.queue, results := c.host.results
    nextTag := c.host.nextTag }

/-- The earlier of the two sources of a reintegrating channel (R177). -/
def earlierSource (me x : Ch) : Bool :=
  let other := Ch.third me x
  decide (me.code < other.code)

/-- A number put in its place in an ascending list. -/
def insertNat (n : Nat) : List Nat → List Nat
  | [] => [n]
  | m :: ms => if n ≤ m then n :: m :: ms else m :: insertNat n ms

/-- Numbers in ascending order. -/
def sortNat (ns : List Nat) : List Nat := ns.foldl (fun ms n => insertNat n ms) []

/-- A source's own pages: the even ones of the earlier source, the odd ones of the other (R177). -/
def ownPage (me x : Ch) (n : Nat) : Bool := (n % 2 == 0) == earlierSource me x

/-- Pages sent to the channel being reintegrated, each in one PAGE (R178). -/
def Chan.sendPages (c : Chan) (x : Ch) (ns : List Nat) : Chan := ns.foldl (fun c n => c.xsend x (.page n (c.pageWords n))) c

/-- A DMA engine has stopped at a fault (R335) and moves nothing. -/
def Chan.engineStopped (c : Chan) (e : Nat) : Bool := (c.mem.dma.getD e default).stopped

/-- Every page waiting is read by DMA engine 2 and sent. -/
def Chan.flushPages (c : Chan) : Chan :=
  match c.reint.source with
  | none => c
  | some x =>
    if c.engineStopped 2 then c
    else
      let ns := (c.reint.toSend ++ c.reint.dirty).eraseDups
      let c := { c with reint := { c.reint with toSend := [], dirty := [] } }
      c.sendPages x ns

/-- The pages of a task that a run has written (R178). -/
def Chan.taskPages (c : Chan) (t : Nat) : List Nat :=
  match c.image with
  | some im => im.pages (fun d => d.task == t)
  | none => []

/-- After a run, its pages are dirty for whoever copies them: the channel being reintegrated, or the standby (R178,
R306). -/
def Chan.markDirty (c : Chan) (me : Ch) (t : Nat) : Chan :=
  let ns := c.taskPages t
  let c := match c.reint.source with
    | some x =>
      if c.reint.join.isNone then
        { c with reint := { c.reint with dirty := (c.reint.dirty ++ ns.filter (ownPage me x)).eraseDups } }
      else c
    | none => c
  match c.part.sending with
  | some ps => { c with part := { c.part with sending := some ((ps ++ ns).eraseDups) } }
  | none => c

/-! ### Vital state read out of pages (R133, R178, R306) -/

/-- The record of an instance in canonical pages. -/
def recordOfPages (pages : List (Nat × List Word)) (d : InstDef) : List Word :=
  (List.range d.size).map (fun k => let a := d.offset * 4 + k; wordAt ((tabGet pages (a / 1024)).getD []) (a % 1024))

/-- An instance read out of the pages: FIRST from header word 3 and the declared words (Table 05-4), last executed in task cycle
`prev`. -/
def instOfPages (pages : List (Nat × List Word)) (prev : Nat) (d : InstDef) : InstState :=
  let ws := recordOfPages pages d
  { id := d.id, first := (wordAt ws 3).getLsbD 0, fields := (ws.drop 4).take d.decl, prevCycle := prev, oldPreset := none }

/-- The words of a gate read back. -/
def GateState.ofWords (elem : Nat) (ws : List Word) : GateState :=
  let f := fun (k : Nat) => (wordAt ws 1).getLsbD k
  let n := fun (k : Nat) => (wordAt ws k).toNat
  { elem := elem, step := n 0, lk1 := f 0, lk2 := f 1, bothOpen := f 2, split := n 2, unproven := f 3, isolated := f 4
    isolMs := n 3, isolPrev := n 4, isolWarn := f 5, total := n 5, since := n 6, counted := f 6, isUnexpected := f 7 }

/-- The words of a platform edge read back. -/
def EdgeState.ofWords (elem : Nat) (ws : List Word) : EdgeState :=
  let f := fun (k : Nat) => (wordAt ws 1).getLsbD k
  { elem := elem, state := (wordAt ws 0).setWidth 8, release := f 0, pending := f 1, pendMain := (wordAt ws 2).toNat
    trainClosed := f 2 }

/-- The words of a berth read back. -/
def BerthState.ofWords (elem : Nat) (ws : List Word) : BerthState :=
  { elem := elem, state := (wordAt ws 0).setWidth 8, stopped := (wordAt ws 1).getLsbD 0, stoppedMs := (wordAt ws 2).toNat }

/-- The words of a plunger read back. -/
def PlungerState.ofWords (elem : Nat) (ws : List Word) : PlungerState :=
  { elem := elem, latched := (wordAt ws 0).getLsbD 0, operated := (wordAt ws 0).getLsbD 1 }

/-- Words of an element's own in its block's record, before those of its pairs. -/
def doorOwnWords (typ : Nat) : Nat :=
  match typ with
  | 0x19 => 7
  | 0x1A => 3
  | 0x18 => 3
  | _ => 1

/-- The discrepancies of an element's pairs read back. -/
def pairsOfWords (e : Elem) (ws : List Word) : List PairDisc :=
  (List.range (doorInputs e.typ)).filterMap (fun k =>
    let at_ := doorOwnWords e.typ + 2 * k
    if (wordAt ws at_).getLsbD 0 then
      some { elem := e.id, input := k, ms := (wordAt ws (at_ + 1)).toNat, flagged := (wordAt ws at_).getLsbD 1 }
    else none)

/-- The door elements read out of their blocks' records; one that no block computes stands as it starts. -/
def Image.doorsOfPages (im : Image) (records : List GateRecord) (pages : List (Nat × List Word)) (prev0 prev1 : Nat) : Doors :=
  let blocks := im.insts.filterMap (fun d => (im.doorElem d).map (fun e => (e, (recordOfPages pages d).drop 4)))
  let words := fun (elem : Nat) => (blocks.find? (fun b => b.1.id == elem)).map Prod.snd
  let d := im.initialDoors records
  { gates := d.gates.map (fun g => ((words g.elem).map (GateState.ofWords g.elem)).getD g)
    edges := d.edges.map (fun g => ((words g.elem).map (EdgeState.ofWords g.elem)).getD g)
    berths := d.berths.map (fun g => ((words g.elem).map (BerthState.ofWords g.elem)).getD g)
    plungers := d.plungers.map (fun g => ((words g.elem).map (PlungerState.ofWords g.elem)).getD g)
    pairs := blocks.flatMap (fun b => pairsOfWords b.1 b.2)
    prev0 := prev0, prev1 := prev1 }

/-- Instance data read out of pages: `prev` gives the task cycle of each task's previous run. -/
def Chan.takePages (c : Chan) (pages : List (Nat × List Word)) (prev : Nat → Nat) : Chan :=
  match c.image with
  | none => c
  | some im =>
    { c with
      blocks := { c.blocks with insts := im.insts.map (fun d => instOfPages pages (prev d.task) d) }
      doors := im.doorsOfPages c.nv.gateRecords pages (prev 0) (prev 1) }

/-- The resolver's state at the end of a commit taken over. What the transfer does not list is a free value (log 34); no start-up
hold runs with a state taken over (R112). -/
def Resolver.takeOver (v : Resolver) (estate : List ERec) (rstate : List RRec) (acc commit : Nat) : Resolver :=
  let rest := Config.routeMemory estate rstate
  { v with
    estate := estate, rstate := rstate, acc := acc, cycle := commit, committed := true
    aux := rest.aux, outRsv := rest.outRsv, inRsv := rest.inRsv, nextRsv := rest.nextRsv
    pointTimers := rest.pointTimers, detectedOnce := rest.detectedOnce, hold := false, holdTicks := 0
    restart := rest.restart, restartFirst := rest.restartFirst }

/-! ### Ends of an attempt (R179) -/

/-- A reintegration attempt fails (R179): it uses one of the tries, its tasks stop, both sources are told, and its cause is
recorded. -/
def Chan.failAttempt (c : Chan) (me : Ch) (cause : Nat) : Chan :=
  if c.reint.phase == 0 || c.reint.phase == 5 then c
  else
    let attempt := c.reint.attempt
    let c := { c with
      tasks := c.tasks.map TaskState.stopRun
      vote := { c.vote with probation := putBit c.vote.probation me.code false }
      reint :=
        { c.reint with
          phase := 5, triesLeft := c.reint.triesLeft - 1, agreed := 0, join := none, commanded := false
          acks := Tri.const false, pages := [], taken := none, again := [], since := c.clock } }
    (c.xsendBoth me (.reintReq true attempt)).emit .reintegration 5 [w32 cause]

/-- A source ends its part in an attempt: what waits for the channel is dropped. -/
def Chan.endSource (c : Chan) : Chan :=
  match c.reint.source with
  | none => c
  | some x =>
    { c.xdrop x with
      vote := { c.vote with probation := putBit c.vote.probation x.code false }
      reint := { c.reint with source := none, join := none, agreed := 0, toSend := [], dirty := [], judged := none } }

/-- A source abandons an attempt (R179): it tells the channel and ends its part. -/
def Chan.abandonSource (c : Chan) : Chan :=
  match c.reint.source with
  | some x => (c.xsend x (.reintReq true c.reint.attempt)).endSource
  | none => c

/-- An exchange is armed (R179): an attempt under way fails, at a source as at the channel itself. -/
def Chan.armedAttempt (c : Chan) (me : Ch) : Chan := c.abandonSource.failAttempt me 5

/-! ### The partner (R306, R307) -/

/-- The CRC-32C of a page (R306). -/
def pageCrc (ws : List Word) : Word := crc32c (wordsBytes ws)

/-- A page sent to the standby in XFER. -/
def Chan.sendXfer (c : Chan) (n : Nat) : Chan :=
  let ws := c.pageWords n
  c.psend (.xfer n (pageCrc ws) ws)

/-- The pages waiting for the standby read by DMA engine 3 and sent (R306). -/
def Chan.flushXfers (c : Chan) : Chan :=
  match c.part.sending with
  | some ps =>
    if c.engineStopped 3 then c else ps.foldl Chan.sendXfer { c with part := { c.part with sending := some [] } }
  | none => c

/-- The state that XSTATE carries (Table 11-1). -/
def Chan.xstateXfer (c : Chan) : XStateXfer :=
  { commit := c.res.cycle, estate := c.res.estate, rstate := c.res.rstate, acc := c.res.acc, exch := c.blocks.exch
    taskCycles := c.tasks.map (fun k => k.cycle), skips := c.tasks.map (fun k => k.skips)
    lockCauses := c.nv.outFaults.map (fun f => f.cause)
    maint := c.nv.outFaults.zipIdx.foldl (fun m f => putBit m f.2 f.1.maint) 0
    counters := c.nv.gateRecords }

/-- The COMMIT digest: CRC-64 over the CRC of every page in use, in page order, and the XSTATE payload (R307). -/
def commitDigest (crcs : List Word) (x : XStateXfer) : BitVec 64 := crc64 (wordsBytes (crcs ++ Config.xstatePayload x))

end Sys2Proof.Machine
end

