-- ==== Sys2Proof/Machine/Supervision.lean ====
section
/-! DEFINITION. The supervision of outputs in a T0 run (spec/07_vital_io.md R192 to R200, R352, R453) and the commands about
outputs: off-test pulse, low-side test, output timeout, sag, return to service, Hedgehog trip; and the effects of clearing
a lockout (R197) and re-arming the Hedgehog (R202). -/

namespace Sys2Proof.Machine

open Sys2Proof

/-! ### Outputs and groups -/

/-- The outputs of a group. -/
def groupOuts (g : Nat) : List Nat := (List.range 8).map (fun k => 8 * g + k)

/-- The mask of a group's outputs. -/
def groupMask (g : Nat) : Word := BitVec.ofNat 32 (255 * 2 ^ (8 * g))

/-- DOUT.CONF[n].FB_TIME in µs. -/
def Chan.fbTimeUs (c : Chan) (n : Nat) : Nat := bits (c.act (0x0E10 + n)) 24 16 * 1000

/-- DOUT.CONF[n].OFF_MASK in µs. -/
def Chan.offMaskUs (c : Chan) (n : Nat) : Nat := bits (c.act (0x0E10 + n)) 13 8 * 10000

/-- An output's kept fault record changed. -/
def Chan.setOutFault (c : Chan) (n : Nat) (f : OutFault → OutFault) : Chan :=
  { c with nv := { c.nv with outFaults := modAt c.nv.outFaults n f } }

/-- A switch test has to be passed anew by the outputs of a group (R353). -/
def Chan.needSwitchTest (c : Chan) (g : Nat) : Chan :=
  { c with
    dout := { c.dout with switchOwn := c.dout.switchOwn &&& ~~~(groupMask g), switchAll := c.dout.switchAll &&& ~~~(groupMask g) }
    bist := { c.bist with due := putBit c.bist.due g true } }

/-- An output locked out with its cause (R194, R196, R198, R352), once; recorded as a juridical event, with its suspect
switches for cause 3. One that carries a cause of its own keeps it, but a maintenance latch is set and recorded all the same. -/
def Chan.lockOutput (c : Chan) (n : Nat) (f : OutFault) : Chan :=
  let old := c.nv.outFault n
  if old.cause != 0 then
    if f.maint && !old.maint then
      (c.setOutFault n (fun k => { k with maint := true })).emitTask 0 .lockout n [w32 f.cause, w32 f.pair, w32 f.partner]
    else c
  else
    let c := c.setOutFault n (fun old => { f with maint := f.maint || old.maint, openLoad := old.openLoad })
    let c := if f.cause == 3 then (c.needSwitchTest (groupOf n)).emitTask 0 .switchSuspect n [w32 f.pair] else c
    c.emitTask 0 .lockout n [w32 f.cause, w32 f.pair, w32 f.partner]

/-- A group locked out (R193, R196). -/
def Chan.lockGroup (c : Chan) (g : Nat) (byTest : Bool) : Chan :=
  if c.nv.groupLocked.getLsbD g then c
  else
    let c := { c with
      nv := { c.nv with
        groupLocked := putBit c.nv.groupLocked g true
        groupLsf := if byTest then putBit c.nv.groupLsf g true else c.nv.groupLsf } }
    let c := if byTest then c.needSwitchTest g else c
    c.emitTask 0 .lockout (0x81 + g) [if byTest then 1 else 0]

/-! ### Field supply and low-side findings (R193, R199) -/

/-- One group's LOW, WARN and LSF as consolidated. -/
def Chan.superviseGroup (c : Chan) (im : InImg) (g : Nat) : Chan :=
  let c :=
    if im.low.getLsbD g && !c.dout.sag.getLsbD g then
      { c with dout := { c.dout with sag := putBit c.dout.sag g true } }.emitTask 0 .sag (g + 1) []
    else c
  let warn := im.warn.getLsbD g
  let c :=
    if warn && !im.low.getLsbD g && !c.dout.warned.getLsbD g then c.emitTask 0 .warn (g + 1) [] else c
  let c := { c with
    dout := { c.dout with
      warned := putBit c.dout.warned g warn
      restore := putBit c.dout.restore g (c.dout.sag.getLsbD g && !warn) } }
  if im.lsf.getLsbD g then c.lockGroup g true else c

/-! ### Contactor feedback (R198) -/

/-- A local output's command as T0 reads it: its owning task's voted entry (R125, R198). -/
def Chan.readCommand (c : Chan) (im : InImg) (n : Nat) : Bool :=
  ((c.votedEntry im (c.outTask n) (fun o => match o.src with
    | .localOut m _ => m == n
    | _ => false)).map readBool).getD false

/-- One contactor output: welded while off, not picked while on. FBn reads ON while the contactor is dropped. The off command
counts once T0 has read it, or where the supervision itself holds the output off. The not-picked warning clears once FBn reads OFF
while the output is on: R198 does not say when (DESIGN CHOICE, log 79). -/
def Chan.superviseContactor (c : Chan) (im : InImg) (us n : Nat) : Chan :=
  let dropped := im.di.getLsbD (64 + n)
  if c.dout.on.getLsbD n then
    match c.dout.onSince.lookup n with
    | some t =>
      if dropped && decide (t + c.fbTimeUs n ≤ us) && !(c.nv.outFault n).notPicked then
        (c.setOutFault n (fun f => { f with notPicked := true })).emitTask 0 .notPicked n []
      else if !dropped then c.setOutFault n (fun f => { f with notPicked := false })
      else c
    | none => c
  else
    let due := match c.dout.offSince.lookup n with
      | some t => decide (t + c.fbTimeUs n ≤ us)
      | none => false
    if due && !dropped && (!c.readCommand im n || c.heldOff n) then c.lockOutput n { OutFault.none with cause := 1, maint := true } else c

/-- Every contactor output. -/
def Chan.superviseContactors (c : Chan) (im : InImg) (us : Nat) : Chan :=
  match c.image with
  | none => c
  | some g => (List.range 32).foldl (fun c n => if g.contactor.getLsbD n then c.superviseContactor im us n else c) c

/-! ### Off-test pulses (R194) -/

/-- The finding on an output whose three pairs have been judged (Table 07-3). -/
def Chan.pulseFinding (c : Chan) (r : Repeat) : Chan :=
  let dips := (r.dips.filter (fun d => d.2)).length
  if dips == 0 then c.lockOutput r.out { OutFault.none with cause := 2 }
  else c.lockOutput r.out { OutFault.none with cause := 3, maint := true, pair := r.failed.code }

/-- One consolidated pulse result. -/
def Chan.judgePulse (c : Chan) (e : Nat × Pair × Bool) : Chan :=
  let (n, pair, dip) := e
  match c.dout.repeats.find? (fun r => r.out == n) with
  | some r =>
    if pair == r.failed || r.dips.any (fun d => d.1 == pair) then c
    else
      let r := { r with dips := r.dips ++ [(pair, dip)] }
      let others := c.dout.repeats.filter (fun q => q.out != n)
      if 2 ≤ r.dips.length then { c with dout := { c.dout with repeats := others } }.pulseFinding r
      else { c with dout := { c.dout with repeats := others ++ [r] } }
  | none =>
    if dip then c
    else { c with dout := { c.dout with repeats := c.dout.repeats ++ [{ out := n, failed := pair, dips := [] }] } }

/-- The results carried by this run's image, and repeats of outputs since commanded off dropped (R194). -/
def Chan.judgePulses (c : Chan) : Chan :=
  let js := c.dout.judged.filter (fun e => c.dout.on.getLsbD e.1)
  let c := { c with dout := { c.dout with judged := [], repeats := c.dout.repeats.filter (fun r => c.dout.on.getLsbD r.out) } }
  js.foldl Chan.judgePulse c

/-! ### Off-high outputs and sweeps (R195, R196) -/

/-- Readback of a group is checked (R195). -/
def Chan.readbackChecked (c : Chan) (im : InImg) (tripped : Bool) (g : Nat) : Bool :=
  !tripped && !im.warn.getLsbD g && !im.low.getLsbD g && !c.nv.groupLocked.getLsbD g && !c.dout.sag.getLsbD g

/-- An output is off-high, whatever lockout it carries. -/
def Chan.offHigh (c : Chan) (im : InImg) (us : Nat) (tripped : Bool) (n : Nat) : Bool :=
  let masked := match c.dout.offSince.lookup n with
    | some t => decide (us < t + c.offMaskUs n)
    | none => false
  !c.dout.on.getLsbD n && im.rb.getLsbD n && !masked && c.readbackChecked im tripped (groupOf n)

/-- A sweep ends: its target's on-test current comes back. -/
def Chan.endSweep (c : Chan) : Chan := { c with dout := { c.dout with sweep := none } }.setOnTest

/-- An output shorted to its field supply (R196): its group locked out. -/
def Chan.shorted (c : Chan) (n : Nat) : Chan := c.lockGroup (groupOf n) false

/-- The decision on a completed sweep (R196): open load where the target read low at every instant of it, tied outputs where it
dipped in slots and read high at every instant, a short where it dipped in none. Otherwise R196 decides nothing, and the output is
judged again. -/
def Chan.decideSweep (c : Chan) (w : Sweep) : Chan :=
  let c := c.endSweep
  if w.low then
    if (c.nv.outFault w.out).openLoad then c
    else (c.setOutFault w.out (fun f => { f with openLoad := true })).emitTask 0 .openLoad w.out []
  else if w.dipped.isEmpty then c.shorted w.out
  else if !w.high then c
  else
    let lowest := w.dipped.foldl min 31
    let c := c.lockOutput w.out { OutFault.none with cause := 4, partner := lowest }
    w.dipped.foldl (fun c n => c.lockOutput n { OutFault.none with cause := 4, partner := w.out }) c

/-- A sweep ordered for one off-high output: each energised output is to be pulsed with the pair AB (R195). -/
def Chan.startSweep (c : Chan) (n : Nat) : Chan :=
  let on := (List.range 32).filter (fun k => c.dout.on.getLsbD k)
  { c with dout := { c.dout with sweep := some { out := n, left := on, dipped := [], done := false, low := true, high := true } } }.setOnTest

/-- An open-load finding ends once the output, its on-test current on, reads low: R196 does not say when (DESIGN CHOICE, log
79). -/
def Chan.endOpenLoad (c : Chan) (im : InImg) (tripped : Bool) (n : Nat) : Chan :=
  if (c.nv.outFault n).openLoad && !c.dout.on.getLsbD n && !c.dout.onTestOff.getLsbD n && !im.rb.getLsbD n &&
      c.readbackChecked im tripped (groupOf n) then
    c.setOutFault n (fun f => { f with openLoad := false })
  else c

/-- Off-high judgement, the sweep under way included. -/
def Chan.superviseReadback (c : Chan) (im : InImg) (us : Nat) (tripped : Bool) : Chan :=
  let c := (List.range 32).foldl (fun c n => c.endOpenLoad im tripped n) c
  let c := match c.dout.sweep with
    | some w =>
      if !c.readbackChecked im tripped (groupOf w.out) then c.endSweep
      else if w.done then c.decideSweep w
      else c
    | none => c
  let high := (List.range 32).filter (fun n => c.offHigh im us tripped n)
  match high, c.dout.sweep with
  | [], _ => c
  | [n], none => c.startSweep n
  | [_], some _ => c
  | ns, w =>
    let c := match w with
      | some _ => c.endSweep
      | none => c
    ns.foldl Chan.shorted c

/-- The switch-test findings that wait for this write (R352). -/
def Chan.switchFindings (c : Chan) : Chan :=
  let hot := c.dout.switchHot
  let c := { c with dout := { c.dout with switchHot := [] } }
  hot.foldl (fun c h =>
    c.lockOutput h.1 { OutFault.none with cause := 3, pair := h.2.code, psrc := true, maint := true }) c

/-! ### Slots (R192 to R195, R453) -/

/-- A task of the image has a release at an offset of a main cycle (R121). -/
def Chan.dueAt (c : Chan) (main offset t : Nat) : Bool :=
  let p := c.periodUs t
  (c.taskDef t).present && p != 0 &&
    (if p ≤ c.periodUs 1 then offset % p == 0 else offset == 0 && (main * c.periodUs 1) % p == 0)

/-- The tasks released at an instant. -/
def Chan.dueTasks (c : Chan) (main offset : Nat) : List Nat := (List.range 8).filter (c.dueAt main offset)

/-- Slots between two release instants (R192): from 0.20 ms after the first, 0.45 ms apart, the last no later than 0.60 ms before
the second. -/
def slotsIn (gapUs : Nat) : Nat := if gapUs < 800 then 0 else (gapUs - 800) / 450 + 1

/-- The steps of a rising list. -/
def stepsOf : List Nat → List Nat
  | a :: b :: rest => (b - a) :: stepsOf (b :: rest)
  | _ => []

/-- The slots of a T0 run's span, from its write to the next: as many as one T0 period holds. -/
def Chan.slotCount (c : Chan) (main offset : Nat) : Nat :=
  let n := c.periodUs 0 / 4000
  let at_ := (List.range n).filter (fun k => k == 0 || !(c.dueTasks main (offset + 4000 * k)).isEmpty)
  (stepsOf (at_ ++ [n])).foldl (fun m g => m + slotsIn (4000 * g)) 0

/-- The pair of an output's next pulse (R192). -/
def Dout.pairOf (d : Dout) (n : Nat) : Pair := (d.nextPair.lookup n).getD .ab

/-- Energised outputs that may be pulsed: none while the Hedgehog is tripped, none of a group with WARN (R192, R199). -/
def Chan.pulsable (c : Chan) (im : InImg) (tripped : Bool) (n : Nat) : Bool :=
  !tripped && decide (n < 32) && c.dout.on.getLsbD n && !im.warn.getLsbD (groupOf n)

/-- TPG.INTERVAL in µs. -/
def Chan.intervalUs (c : Chan) : Nat := c.act 0x0F01 * 100000

/-- Something last done at a time has to be done again in this run's slots, or the next run could come too late for it (R192,
R193, R453). -/
def Chan.slotDue (c : Chan) (us last : Nat) : Bool := decide (last + c.intervalUs ≤ us + 2 * c.periodUs 0)

/-- The repeats that wait for their results (R194). -/
def Dout.repeatUses (d : Dout) : List SlotUse :=
  d.repeats.flatMap (fun r =>
    ([.ab, .bc, .ca].filter (fun p => p != r.failed && !r.dips.any (fun e => e.1 == p))).map (fun p => SlotUse.pulse r.out p))

/-- The channel after another in the order A, B, C tests next; its tests join those that wait, when its turn has come or the
firmware gives them out early (R193, R453). -/
def Chan.turnLowSide (c : Chan) (us cycle : Nat) : Chan :=
  let d := c.dout
  if c.vote.mode == 1 && d.lowLeft.isEmpty && (c.slotDue us (d.lowAt.get d.lowTurn) || Config.earlyLowSide cycle) then
    let gs := (List.range 4).filter (fun g => c.inService.getLsbD g)
    { c with
      dout :=
        { d with lowLeft := gs.map (fun g => (d.lowTurn, g)), lowAt := d.lowAt.set d.lowTurn us, lowTurn := d.lowTurn.next } }
  else if c.vote.mode == 1 then c
  else { c with dout := { d with lowLeft := [] } }

/-- The off-test pulses of a run: every output whose pulse is due, then those that the firmware adds (R192, R453). -/
def Chan.pulseUses (c : Chan) (im : InImg) (tripped : Bool) (us cycle : Nat) : List SlotUse :=
  let d := c.dout
  let free := fun (n : Nat) => c.pulsable im tripped n && !d.repeats.any (fun r => r.out == n)
  let due := (List.range 32).filter (fun n =>
    c.slotDue us (max ((d.pulseAt.lookup n).getD 0) ((d.onSince.lookup n).getD 0)))
  ((due ++ Config.earlyPulses cycle).eraseDups.filter free).map (fun n => SlotUse.pulse n (d.pairOf n))

/-- The slots of this run's span given out: repeats, then a sweep, then low-side tests, then off-test pulses (R453). They are in
force from the run's write on. -/
def Chan.planSlots (c : Chan) (im : InImg) (tripped : Bool) (main offset us cycle : Nat) : Chan :=
  let c := c.turnLowSide us cycle
  let d := c.dout
  let sweep := match d.sweep with
    | some w => (w.left.filter (c.pulsable im tripped)).map SlotUse.sweep
    | none => []
  let reps := d.repeatUses.filter (fun u => match u with
    | .pulse n _ => c.pulsable im tripped n
    | _ => false)
  let uses := reps ++ sweep ++ d.lowLeft.map (fun e => SlotUse.lowSide e.1 e.2) ++ c.pulseUses im tripped us cycle
  let plan := uses.take (c.slotCount main offset)
  { c with
    dout :=
      { d with
        planNext := plan
        pulseAt := plan.foldl (fun t u => match u with
          | .pulse n _ => tabPut t n us
          | _ => t) d.pulseAt
        lowLeft := d.lowLeft.filter (fun e => !plan.contains (.lowSide e.1 e.2)) } }

/-- The supervision of a T0 run on its consolidated image (R192 to R199, R453), `tripped` telling of the Hedgehog. -/
def Chan.supervise (c : Chan) (tripped : Bool) : Chan :=
  let k := c.task 0
  let im := k.inImg
  let us := c.taskTime k.runMain k.runOffset
  let c := (List.range 4).foldl (fun c g => c.superviseGroup im g) c
  let c := c.superviseContactors im us
  let c := c.switchFindings
  let c := c.judgePulses
  let c := c.superviseReadback im us tripped
  c.planSlots im tripped k.runMain k.runOffset us k.runCycle

/-! ### Results taken at a release instant -/

/-- A sweep at a release instant: the slots since the previous one, outputs commanded off taken off its list, what the target
reads (R195, R196). Bit n of SWEEP stands for the slot in which output n was pulsed: Table 07-1 gives no index (DESIGN CHOICE, log
79). -/
def Sweep.atInstant (w : Sweep) (on sweep rb : Word) : Sweep :=
  let left := w.left.filter (fun n => on.getLsbD n)
  { w with
    left := left
    dipped := w.dipped ++ (List.range 32).filter (fun n => sweep.getLsbD n && !w.dipped.contains n)
    done := left.isEmpty
    low := w.low && !rb.getLsbD w.out
    high := w.high && rb.getLsbD w.out }

/-- Since when the consolidated WARN of each group has been clear at every instant (R200). -/
def clearSince (old : List (Nat × Nat)) (warn : BitVec 4) (now : Nat) : List (Nat × Nat) :=
  (List.range 4).filterMap (fun g => if warn.getLsbD g then none else some (g, (old.lookup g).getD now))

/-- The results of the pulses and sweep slots since the previous instant, from the consolidated DIP and SWEEP words (R194,
R195), and the time of every group without WARN (R200). -/
def Chan.takeResults (c : Chan) : Chan :=
  let d := c.dout
  let judged := d.judged ++ d.pulsed.map (fun e => (e.1, e.2, c.din.dip.getLsbD e.1))
  { c with
    dout :=
      { d with
        judged := judged, pulsed := [], sweep := d.sweep.map (fun w => w.atInstant d.on c.din.sweep c.din.rb)
        warnClear := clearSince d.warnClear c.din.warn c.lastInstant } }

/-! ### Commands -/

/-- The channel's output stage carries the module's commands: it drives its switches, or is the twin stage of a standby (R203). -/
def Chan.stageDrives (c : Chan) (me : Ch) : Bool :=
  c.drives me || (c.twin && c.part.role == 2 && c.votes me && !c.split)

/-- The slots left once one has come: those before it have passed. -/
def passedTo (u : SlotUse) (plan : List SlotUse) : List SlotUse := (plan.dropWhile (fun x => x != u)).drop 1

/-- One pulse made and judged: TPG.LAST and TPG.COUNTS (R207), the result for the next input vote set. In a sweep the pair is fixed
and the output's own turn of pairs stays; `target` is then whether the sweep's target dipped. -/
def Chan.pulse (c : Chan) (n : Nat) (pair : Pair) (target : Option Bool) (dip discard : Bool) : Chan :=
  let d := c.dout
  let result := if discard then 3 else if dip then 1 else 2
  let last := w32 (n + bitAt target.isSome 5 + pair.code * 2 ^ 8 + result * 2 ^ 12 + c.mainCycle % 65536 * 2 ^ 16)
  let d := { d with
    tpgLast := last
    pulseCnt := inc 16 d.pulseCnt
    pulseFail := if !discard && !dip then inc 16 d.pulseFail else d.pulseFail }
  let d := match target with
    | some t =>
      { d with
        sweep := d.sweep.map (fun w => { w with left := w.left.filter (fun k => k != n) })
        sweepNow := if t && !discard then putBit d.sweepNow n true else d.sweepNow }
    | none => if d.repeats.any (fun r => r.out == n) then d else { d with nextPair := tabPut d.nextPair n (d.pairOf n).succ }
  let d :=
    if discard then d
    else { d with pulsed := d.pulsed ++ [(n, pair)], dipNow := if dip then putBit d.dipNow n true else d.dipNow }
  { c with dout := d }

/-- What a pulse's slot was given to. -/
def useOf (n : Nat) (pair : Pair) (sweep : Bool) : SlotUse := if sweep then .sweep n else .pulse n pair

/-- OFF_TEST_PULSE (R192, R194, R195): the slot given to this pulse, a sweep's with the pair AB. `dip` is what this channel judged
of the output, `sweep` in a sweep what it judged of the target. A command to de-energise written during the pulse, or a trip of the
Hedgehog during it (`cut`), discards its result; an output that is not energised is not pulsed. -/
def execOffTestPulse (ch : Ch) (n : Nat) (pair : Pair) (sweep : Option Bool) (dip cut : Bool) (s : State) :
    Host.Outcome State Fault Refusal :=
  let tripped := s.hedgehog.copy1 || s.hedgehog.copy2
  .next (s.onLive ch (fun c =>
    let u := useOf n pair sweep.isSome
    if c.running && c.stageDrives ch && c.dout.plan.contains u && (sweep.isNone || pair == .ab) &&
        (cut || (c.dout.on.getLsbD n && !tripped)) then
      { c with dout := { c.dout with plan := passedTo u c.dout.plan } }.pulse n pair sweep dip cut
    else c))

/-- LOW_SIDE_TEST (R193): with all three channels in the vote, the slot given to this channel's test of a group in service. -/
def execLowSideTest (ch : Ch) (g : Nat) (ok : Bool) (s : State) : Host.Outcome State Fault Refusal :=
  .next (s.onLive ch (fun c =>
    let u := SlotUse.lowSide ch (g - 1)
    if decide (1 ≤ g) && c.running && c.vote.mode == 1 && c.drives ch && c.dout.plan.contains u && c.inService.getLsbD (g - 1) then
      { c with
        dout :=
          { c.dout with
            plan := passedTo u c.dout.plan, lsfNow := if ok then c.dout.lsfNow else putBit c.dout.lsfNow (g - 1) true } }
    else c))

/-- OUTPUT_TIMEOUT (R191): the output's timer runs out and this channel opens its high-side switches of it. -/
def execOutputTimeout (ch : Ch) (n : Nat) (s : State) : Host.Outcome State Fault Refusal :=
  .next (s.onLive ch (fun c =>
    if decide (n < 32) && c.dout.timerOn.getLsbD n then
      { c with dout := { c.dout with high := putBit c.dout.high n false, timerOn := putBit c.dout.timerOn n false } }
    else c))

/-- FIELD_SUPPLY_SAG (R199): below 16.0 V for more than 5 ms; the channel latches, opens its switches of the group, and removes its
on-test currents from it (R190). -/
def execFieldSupplySag (ch : Ch) (g : Nat) (s : State) : Host.Outcome State Fault Refusal :=
  .next (s.onLive ch (fun c =>
    if decide (1 ≤ g) && decide (g ≤ 4) then
      let m := ~~~(groupMask (g - 1))
      { c with
        dout := { c.dout with
          sagLatch := putBit c.dout.sagLatch (g - 1) true
          high := c.dout.high &&& m
          timerOn := c.dout.timerOn &&& m
          lowSide := putBit c.dout.lowSide (g - 1) false } }.setOnTest
    else c))

/-- Consolidated WARN of a group has been clear at every release instant for 1 s of task time (R200). -/
def Chan.warnClearLong (c : Chan) (g : Nat) : Bool :=
  match c.dout.warnClear.lookup g with
  | some t => !c.din.warn.getLsbD g && decide (t + 1000000 ≤ c.lastInstant)
  | none => false

/-- Outputs wait for a command of a run released after an instant (R200, R202). -/
def Dout.awaitFresh (d : Dout) (ns : List Nat) (us : Nat) : Dout :=
  { d with needFresh := ns.foldl (fun t n => tabPut t n us) d.needFresh }

/-- GROUP_RETURN_TO_SERVICE (R200): WARN has been clear for 1 s; the sag latches clear, and each output of the group waits
for a command of a run released from now on. -/
def execGroupReturnToService (ch : Ch) (g : Nat) (s : State) : Host.Outcome State Fault Refusal :=
  .next (s.onLive ch (fun c =>
    if decide (1 ≤ g) && decide (g ≤ 4) && c.running && c.warnClearLong (g - 1) &&
        (c.dout.sag.getLsbD (g - 1) || c.dout.sagLatch.getLsbD (g - 1)) then
      let c := { c with
        dout := { c.dout.awaitFresh (groupOuts (g - 1)) c.lastInstant with
          sag := putBit c.dout.sag (g - 1) false
          sagLatch := putBit c.dout.sagLatch (g - 1) false
          restore := putBit c.dout.restore (g - 1) false } }
      if c.stageDrives ch then c.setLowSide else c
    else c))

/-- Whether a cause of R201 can come about now: two channels silent, a channel's command, a voter fault latched; the bus and
the copies are the Hedgehog's own finding. -/
def State.tripCauseHolds (s : State) (cause : TripCause) : Bool :=
  match cause with
  | .silent => decide (s.aliveCount < 2)
  | .command => s.chans.toList.any (fun c => c.seals.acted || c.vote.mode == 3 || c.split)
  | .voter => s.net.voterFault
  | .supply => true
  | .copies => true

/-- HEDGEHOG_TRIP (R201). -/
def execHedgehogTrip (cause : TripCause) (s : State) : Host.Outcome State Fault Refusal :=
  .next (if s.tripCauseHolds cause then s.trip cause else s)

/-! ### Effects of critical commands at a T0 release (R197, R202); none where the effect is refused -/

/-- Every output of a group reads back low in the consolidated image. -/
def Chan.groupLow (c : Chan) (g : Nat) : Bool := (c.din.rb &&& groupMask g) == 0

/-- The switch test of every output of a group has been passed since the fault (R197, R353). -/
def Chan.groupTested (c : Chan) (g : Nat) : Bool := (c.dout.switchAll &&& groupMask g) == groupMask g

/-- A lockout cause of one output has gone (R197). -/
def Chan.causeGone (c : Chan) (n : Nat) : Bool :=
  match (c.nv.outFault n).cause with
  | 1 => c.din.cons.getLsbD (64 + n)
  | 3 => c.dout.switchAll.getLsbD n
  | _ => c.groupLow (groupOf n)

/-- CLEAR_LOCKOUT of an output, 0 to 31, or a group, 0x81 to 0x84 (R197, R392). -/
def Chan.clearLockout (c : Chan) (what : Nat) : Option Chan :=
  if what < 32 then
    if (c.nv.outFault what).cause != 0 && c.causeGone what then
      let c := c.setOutFault what (fun f => { f with cause := 0, pair := 0, psrc := false, partner := 0 })
      some (c.emitAt c.mainCycle c.din.offset 0 .lockoutClear what [])
    else none
  else
    let g := what - 0x81
    if decide (0x81 ≤ what) && decide (what ≤ 0x84) && c.nv.groupLocked.getLsbD g && c.groupLow g &&
        (!c.nv.groupLsf.getLsbD g || c.groupTested g) then
      let c := { c with
        nv := { c.nv with groupLocked := putBit c.nv.groupLocked g false, groupLsf := putBit c.nv.groupLsf g false } }
      some (c.emitAt c.mainCycle c.din.offset 0 .lockoutClear what [])
    else none

/-- HEDGEHOG_REARM at one channel (R202): refused while a cause stands, or where another command has armed it. The first
channel to act arms it; at each, every output then waits for a command of a later run. -/
def State.rearm (s : State) (ch : Ch) (tag : Nat) : Option State :=
  let mine := s.hedgehog.armTag == some tag
  if s.causeStands tag || (s.hedgehog.st == 1 && !mine) then none
  else
    let s := s.mod ch (fun c => { c with dout := c.dout.awaitFresh (List.range 32) c.lastInstant })
    some (if mine then s else { s with hedgehog := { s.hedgehog.arm with armTag := some tag } })

end Sys2Proof.Machine
end

