-- ==== Sys2Proof/Machine/Supply.lean ====
section
/-! DEFINITION. Logic supply, power-fail and reset (spec/02_connectors_supplies_seal.md R32, R33, spec/01_architecture.md
R14), the host hub (R15) and the sealed switches while the module runs (R49). -/

namespace Sys2Proof.Machine

open Sys2Proof

/-! ### Feeds -/

/-- A supply monitor's finding on one feed: present or lost, with the voltage it reads (R32, R438). -/
def Supply.setFeed (p : Supply) (f : Feed) (present : Bool) (volts : Nat) : Supply :=
  match f with
  | .one => { p with present1 := present, volts1 := volts }
  | .two => { p with present2 := present, volts2 := volts }

/-- A feed counts as present. -/
def Supply.present (p : Supply) (f : Feed) : Bool :=
  match f with
  | .one => p.present1
  | .two => p.present2

/-- Both feeds are lost. -/
def Supply.dark (p : Supply) : Bool := !p.present1 && !p.present2

/-- A reading below 15.0 V (log 21). -/
def lowReading (n : Nat) : Nat := (Config.feedReading n).toNat % 150

/-- A reading of 16.8 V or above (log 21). -/
def goodReading (n : Nat) : Nat := 168 + (Config.feedReading n).toNat % 344

/-- Power-fail declared (R33, R370): own switches open, vital tasks and frames stop, the recorder's flush starts. -/
def Chan.declarePowerFail (c : Chan) : Chan :=
  let c := c.openSwitches
  { c with
    supply := { c.supply with powerFail := true }
    tasks := c.tasks.map TaskState.stopRun
    fab := { c.fab with queueX := [], queueY := [] }
    recd := if c.recd.started then { c.recd with flushing := true, flushCause := 3 } else c.recd }

/-- A feed's number, the object of its events. -/
def feedNum : Feed → Nat
  | .one => 1
  | .two => 2

/-- FEED_LOSS (R32, R33, R14): a feed that was present counts as lost; with both lost a channel that executes declares
power-fail. -/
def execFeedLoss (ch : Ch) (feed : Feed) (s : State) : Host.Outcome State Fault Refusal :=
  if !(s.ch ch).supply.present feed then .next s
  else
    let n := s.draws
    let s := s.drawn.mod ch (fun c => { c with supply := c.supply.setFeed feed false (lowReading n) })
    let c := s.ch ch
    if c.live then
      let s := s.mod ch (fun c => c.emit .feedLoss (feedNum feed) [])
      if c.supply.dark && !c.supply.powerFail then
        .next ((s.mod ch Chan.declarePowerFail).setAlive ch false)
      else .next s
    else .next s

/-- FEED_RESTORED (R32, R33): a feed that was lost counts as present again. A channel that declared power-fail does not
resume. -/
def execFeedRestored (ch : Ch) (feed : Feed) (s : State) : Host.Outcome State Fault Refusal :=
  if (s.ch ch).supply.present feed then .next s
  else
    let n := s.draws
    let s := s.drawn.mod ch (fun c => { c with supply := c.supply.setFeed feed true (goodReading n) })
    .next (s.onLive ch (fun c => c.emit .feedRestored (feedNum feed) []))

/-- A channel held in reset by its supply monitor: its switches lose their drive (R14, R33). -/
def Chan.holdReset (c : Chan) : Chan :=
  let c := c.openSwitches
  { c with supply := { c.supply with inReset := true }, safe := { c.safe with alive := false } }

/-- HOLDUP_EXHAUSTED (R14, R33): each supply monitor that sees neither feed holds its channel in reset. -/
def execHoldupExhausted (s : State) : Host.Outcome State Fault Refusal :=
  .next (Ch.all.foldl (fun t ch => if (t.ch ch).supply.dark then t.mod ch Chan.holdReset else t) s)

/-- The fault record of an output as a start-up finds it: cause, maintenance latch and PSRC come from MRAM, the other fields of
DOUT.FAULT are 0 (Table 07-15). -/
def OutFault.kept (f : OutFault) : OutFault := { OutFault.none with cause := f.cause, maint := f.maint, psrc := f.psrc }

/-- What a channel holds as P0 begins: its non-volatile memory and its supply monitor's view; all else at reset (R33,
R402). -/
def Chan.fresh (c : Chan) : Chan :=
  let r := Chan.volatile { c.nv with outFaults := c.nv.outFaults.map OutFault.kept }
  { r with
    supply := { c.supply with powerFail := false, halted := false, inReset := false }
    reint := { r.reint with triesLeft := 3 } }

/-- The shared hardware as a start-up of the module finds it: Hedgehog held, latches clear (R172, R202). -/
def State.freshShared (s : State) : State :=
  { s with
    hedgehog := { s.hedgehog with copy1 := true, copy2 := true, st := 0, cause := 0, tried := false, armTag := none }
    net := default
    comparator := [] }

/-- POWER_ON_RESET (R33, R402): a channel in reset, or halted after a power-fail, starts at P0 once a feed is present.
The first channel to start while none executes finds the shared hardware reset (log 6). -/
def execPowerOnReset (ch : Ch) (s : State) : Host.Outcome State Fault Refusal :=
  let c := s.ch ch
  if !c.live && !c.supply.dark then
    let s := if Ch.all.any (fun x => (s.ch x).live) then s else s.freshShared
    .next (s.mod ch Chan.fresh)
  else .next s

/-! ### The host hub -/

/-- HOST_HUB_FAILURE (R15): no command arrives and no reply leaves; the indicators go dark. -/
def execHostHubFailure (s : State) : Host.Outcome State Fault Refusal :=
  .next { s with hub := { s.hub with alive := false } }

/-- HOST_HUB_RECOVERY (R15): commands are accepted and indicators driven once more. -/
def execHostHubRecovery (s : State) : Host.Outcome State Fault Refusal :=
  let s := { s with hub := { s.hub with alive := true } }
  .next (s.allLive (fun _ c => { c with host := { c.host with lost := false } }))

/-- HOST_PORT_LOST (R15): within 1 s of the hub's last frame the channel records the loss, once. -/
def execHostPortLost (ch : Ch) (s : State) : Host.Outcome State Fault Refusal :=
  if s.hub.alive then .next s
  else
    .next (s.onLive ch (fun c =>
      if c.host.lost then c
      else { c with host := { c.host with lost := true } }.emit .hostPortLost 0 []))

/-! ### The sealed switches -/

/-- SEAL_SAMPLE (R49): the 1 ms sample from the end of P1 on. Two differing samples in a row confirm a change, which is
recorded once; a single one is counted as a glitch when the next agrees. -/
def Chan.sealSample (c : Chan) (pos : Word) : Chan :=
  let q := c.seals
  let pos := pos &&& 0xFFFF
  if pos == q.bootPos then
    { c with
      seals := { q with livePos := pos, differed := 0, glitch := if q.differed == 1 then inc 16 q.glitch else q.glitch } }
  else if q.differed == 0 then { c with seals := { q with livePos := pos, differed := 1 } }
  else
    let c' := { c with seals := { q with livePos := pos, differed := 2, changed := true } }
    if q.changed then c' else c'.emit .sealChanged 0 [pos]

/-- SEAL_SAMPLE. -/
def execSealSample (ch : Ch) (pos : Word) (s : State) : Host.Outcome State Fault Refusal :=
  .next (s.onLive ch (fun c => if 2 ≤ c.boot.phase then c.sealSample pos else c))

end Sys2Proof.Machine
end

