-- ==== Sys2Proof/Machine/Effects.lean ====
section
/-! DEFINITION. What an agreed command does at its effect release (spec/15_host_commands.md R388, R392, Table 15-4): one
function by opcode, answering whether the command was carried out or refused. -/

namespace Sys2Proof.Machine

open Sys2Proof

/-! ### Calibration (R423 to R425) -/

/-- The copy of the user area in force: the valid one of higher count. -/
def calInForce (a b : CalCopy) : Option CalCopy :=
  if a.crcOk && b.crcOk then some (if a.count < b.count then b else a)
  else if a.crcOk then some a
  else if b.crcOk then some b
  else none

/-- The user copy without a valid one: every value 0 or its default. -/
def CalCopy.plain (count : Nat) : CalCopy :=
  { count := count, di := List.replicate 96 0, rb := List.replicate 32 0, feedWarn := 180, crcOk := true }

/-- The older copy rewritten with a count one higher (R424). -/
def Nv.writeCal (v : Nv) (k : CalCopy) : Nv :=
  let count := ((calInForce v.cal0 v.cal1).map (fun x => x.count)).getD 0
  let k := { k with count := count + 1, crcOk := true }
  let old0 := !v.cal0.crcOk || (v.cal1.crcOk && decide (v.cal0.count < v.cal1.count))
  if old0 then { v with cal0 := k } else { v with cal1 := k }

/-- The calibration in force after a user copy is taken. -/
def Cal.take (k : Cal) (u : CalCopy) : Cal :=
  { k with count := u.count, feedWarn := u.feedWarn, di := u.di, rb := u.rb, userDefault := false }

/-- An offset field as a number: signed, eight bits (R428). -/
def offsetOf (w : Word) : Int := (w.setWidth 8).toInt

/-- One entry of a CAL_WRITE applied to a copy. -/
def CalCopy.entry (k : CalCopy) (num : Nat) (w : Word) : CalCopy :=
  if num == 0x1C01 then { k with feedWarn := bits w.toNat 7 0 }
  else if decide (0x1C10 ≤ num) && decide (num < 0x1C70) then { k with di := k.di.set (num - 0x1C10) (offsetOf w) }
  else { k with rb := k.rb.set (num - 0x1C70) (offsetOf w) }

/-- A copy written and taken into force. -/
def Chan.writeCal (c : Chan) (k : CalCopy) : Chan :=
  let nv := c.nv.writeCal k
  { c with nv := nv, cal := c.cal.take ((calInForce nv.cal0 nv.cal1).getD k) }

/-- A number in parameter bytes. -/
def fieldAt (p : List Byte) (off len : Nat) : Nat := natOfBytes ((p.drop off).take len)

/-- The entries of a CAL_WRITE: channel, number, value (R424). -/
def calEntries (p : List Byte) : List (Nat × Nat × Word) :=
  (List.range (fieldAt p 0 2)).map (fun k => (fieldAt p (2 + 8 * k) 1, fieldAt p (4 + 8 * k) 2, w32 (fieldAt p (6 + 8 * k) 4)))

/-- CAL_WRITE at its T1 release: the entries that name the channel (R424). -/
def Chan.calWrite (c : Chan) (me : Ch) (p : List Byte) : Chan :=
  let es := (calEntries p).filter (fun e => e.1 == me.code)
  if es.isEmpty then c
  else
    let base := (calInForce c.nv.cal0 c.nv.cal1).getD (CalCopy.plain 0)
    c.writeCal (es.foldl (fun k e => k.entry e.2.1 e.2.2) base)

/-- RESTORE_FACTORY (R425). -/
def Chan.restoreFactory (c : Chan) : Chan := (c.writeCal (CalCopy.plain 0)).emit .calRestored 0 []

/-! ### Tasks and reintegration -/

/-- The door instances of a task at their initial values, counters kept (R131, R138, R221). -/
def Chan.resetDoors (c : Chan) (t : Nat) : Chan :=
  match c.image with
  | none => c
  | some im =>
    let d := im.initialDoors c.nv.gateRecords
    if t == 0 then { c with doors := { d with plungers := c.doors.plungers, prev0 := c.doors.prev0, prev1 := c.doors.prev1 } }
    else if t == 1 then { c with doors := { c.doors with plungers := d.plungers } }
    else c

/-- CLEAR_TASK_FAULT (R131, R392). -/
def Chan.clearFault (c : Chan) (t : Nat) : Option Chan :=
  if (c.task t).fault then
    some (((c.modTask t (fun k => { k with fault := false, skips := 0 })).resetInsts t).resetDoors t)
  else none

/-- REINTEGRATE at the channel it names (R176): the full count of tries. -/
def Chan.allowReint (c : Chan) (me : Ch) (x : Nat) : Chan :=
  if x == me.code then
    { c with reint := { c.reint with commanded := true, triesLeft := bits (c.act 0x0C05) 3 0 } }
  else c

/-! ### The partner (R305, R308, R314) -/

/-- Both heartbeat paths are live in this channel (R303, R314). -/
def Chan.pathsLive (c : Chan) : Bool := c.part.seen && c.part.runX3 == 0 && c.part.runLane == 0

/-- SWITCHOVER at its T1 release (R314): the conditions, then SWITCH to the standby. -/
def Chan.armSwitchover (c : Chan) (now n : Nat) : Option Chan :=
  let standbyLevel := match c.part.beat with
    | some b => b.role == 2 && b.sync == 2
    | none => false
  if c.part.role == 1 && standbyLevel && c.pathsLive && c.blocks.exch != 3 && !c.res.restart &&
      switchCycleOk now n c.ratioBoth then
    some ({ c with part := { c.part with switchAt := n, swReady := false } }.psend (.switchAt n))
  else none

/-- RESYNC at a standby (R305). -/
def Chan.resync (c : Chan) : Option Chan :=
  if c.part.role == 2 && c.part.sync == 0 then some { c with part := { c.part with commanded := true } } else none

/-- What a unit drops of a full transfer under way (R308). -/
def Part.dropTransfer (p : Part) : Part :=
  { p with
    sync := if p.role == 2 then 0 else p.sync
    phase := 0, pagesLeft := 0, pages := [], xstate := none, commit := none, commitOwn := 0, sending := none, refused := [], asked := []
    feeding := if p.role == 1 then false else p.feeding
    backlog := if p.role == 2 then [] else p.backlog }

/-- A full transfer abandoned for a cause of PART.STATE (R308, R317): counted and recorded. -/
def Chan.abandon (c : Chan) (cause : Nat) : Chan :=
  { c with
    part := { c.part.dropTransfer with cause := cause, commanded := false, since := c.clock }
    pwait := []
    nv := { c.nv with abandonCnt := inc 8 c.nv.abandonCnt } }.emit .syncChange cause []

/-- A full transfer is under way at this channel, as the active or as the standby. -/
def Chan.transferring (c : Chan) : Bool := c.part.phase != 0 && c.part.phase != 4

/-- XFER_ABANDON (R308): REQ 3, and the transfer dropped. -/
def Chan.abandonXfer (c : Chan) : Option Chan :=
  if c.transferring then some ((c.psend (.req 3 0)).abandon 11) else none

/-! ### By opcode -/

/-- An effect that changes one channel only. -/
def State.byChan (s : State) (ch : Ch) (f : Chan → Option Chan) : Bool × State :=
  match f (s.ch ch) with
  | some c => (true, s.put ch c)
  | none => (false, s)

/-- What a command does at its effect release at one channel: whether it was carried out, and the state after. `main` is
the main-cycle number of the release and `cycle` the task cycle number. -/
def State.effect (s : State) (ch : Ch) (opcode : Nat) (p : List Byte) (tag main cycle : Nat) : Bool × State :=
  match opcode with
  | 0x0203 => s.byChan ch (fun c => c.clearFault (fieldAt p 0 1))
  | 0x0204 => s.byChan ch (fun c => c.clearLockout (fieldAt p 0 1))
  | 0x0205 =>
    match s.rearm ch tag with
    | some t => (true, t)
    | none => (false, s)
  | 0x0206 => s.byChan ch (fun c => c.isolateGate (fieldAt p 0 4) (fieldAt p 4 2) cycle)
  | 0x0207 => s.byChan ch (fun c => c.resetPlunger (fieldAt p 0 4))
  | 0x0208 => (true, s.mod ch (fun c => c.allowReint ch (fieldAt p 0 1)))
  | 0x0209 =>
    match (s.ch ch).exchArm main (fieldAt p 0 4) with
    | some (ok, c) => (ok, s.put ch (if ok then (c.abandonXfer.getD c).armedAttempt ch else c))
    | none => (false, s)
  | 0x020A => s.byChan ch (fun c => c.armSwitchover main (fieldAt p 0 4))
  | 0x020B => (true, s.mod ch Chan.clearRecorder)
  | 0x020C => (true, s.mod ch Chan.restoreFactory)
  | 0x0304 => s.byChan ch Chan.exchAbort
  | 0x0507 => s.byChan ch (fun c => c.resetGate (fieldAt p 0 4))
  | 0x0508 => s.byChan ch (fun c => c.endIsolation (fieldAt p 0 4))
  | 0x0509 => s.byChan ch (fun c => c.serviceGate (fieldAt p 0 4))
  | 0x0701 => (true, s.mod ch (fun c => c.calWrite ch p))
  | 0x0800 => s.byChan ch Chan.resync
  | 0x0801 => s.byChan ch Chan.abandonXfer
  | _ => (true, s)

/-- The effects that a standby, or a channel out of the vote, applies at a release it does not run (R310, R386). -/
def effectOutsideTasks (opcode : Nat) : Bool :=
  opcode == 0x0208 || opcode == 0x020B || opcode == 0x020C || opcode == 0x0800 || opcode == 0x0801

/-- A tagged command entered PENDING (R395): the most recent 256. -/
def HostState.addResult (h : HostState) (tag session : Nat) : HostState :=
  { h with results := ({ tag := tag, session := session, result := 0, reason := 0, cycle := 0 } :: h.results).take 256 }

/-- A tagged command has acted in a main cycle (R395): OK, or REFUSED with its reason. -/
def HostState.finish (h : HostState) (tag result reason main : Nat) : HostState :=
  { h with
    results := h.results.map (fun (r : TagResult) =>
      if r.tag == tag then { r with result := result, reason := reason, cycle := main } else r) }

end Sys2Proof.Machine
end

