-- ==== Sys2Proof/Machine/Follow.lean ====
section
/-! DEFINITION. The standby's own state and the runs it replays (spec/11_partner_redundancy.md R309, R310), and what an image
starts with (R80, R138). -/

namespace Sys2Proof.Machine

open Sys2Proof

/-! ### The state an image starts with -/

/-- The resolver of an image at its start: every element without state or owner, every route RELEASED (R80). Numbers of
RSV_IDs and counters go on. -/
def Resolver.start (v : Resolver) (im : Image) : Resolver :=
  { v with
    estate := List.replicate im.elemSpan ERec.clear
    rstate := List.replicate im.routeCount RRec.released
    aux := List.replicate im.routeCount default
    acc := 0, committed := false, gen := 0, outRsv := [], inRsv := [], answers := [], asks := [], pointTimers := [], detectedOnce := []
    rejects := [], withdrawAll := false }

/-- The instance data region written from the instances' records, pages in the channel's own form (R134, R138). -/
def Chan.writeInstances (c : Chan) (v : Variant) : Chan := c.rewrite instBase (instEnd v - instBase)

/-- Instance data and state tiles at the initial values of the running image, the tile store and master copy built with them (R77,
R80, R138, R310, R313). -/
def Chan.startImage (c : Chan) (v : Variant) : Chan :=
  match c.image with
  | none => c
  | some im =>
    ({ c with
      blocks := { c.blocks with insts := im.insts.map initialInst }
      doors := im.initialDoors c.nv.gateRecords
      res := c.res.start im }.buildStore v).writeInstances v

/-- Every task unreleased, its last voted image forgotten. -/
def Chan.forgetRuns (c : Chan) : Chan :=
  { c with tasks := c.tasks.map (fun (k : TaskState) => { k.stopRun with voted := [], imageReady := false, skips := 0 }) }

/-- A standby discards its state and holds none (R310). -/
def Chan.loseSync (c : Chan) (v : Variant) (cause : Nat) : Chan :=
  if c.part.role == 2 && c.part.sync != 0 then
    let c := c.forgetRuns.startImage v
    { c with
      part := { c.part.dropTransfer with cause := cause, applied := 0, since := c.clock }
      nv := { c.nv with syncLossCnt := inc 8 c.nv.syncLossCnt } }.emit .syncChange cause []
  else c

/-- A synchronised standby (R309). -/
def Chan.follows (c : Chan) : Bool := c.part.role == 2 && c.part.sync == 2

/-! ### Runs under replay -/

/-- The oldest run not yet replayed. -/
def Part.nextRun (p : Part) : Option RunInput := (p.backlog.find? (fun r => r.own.isNone)).map (fun r => r.run)

/-- The image of a replayed run (R309). -/
def runImage (r : RunInput) : InImg :=
  { task := r.task, di := r.di, rb := r.rb, warn := r.warn, low := r.low, lsf := r.lsf, dip := r.dip, sweep := r.sweep, remote := r.remote
    others := r.others, otherMain := r.otherMain, requests := r.requests, tags := [], discrepant := r.discrepant }

/-- The latched writes of a replayed run applied (R309). -/
def Params.replay (p : Params) (ws : List (Nat × Word)) : Params :=
  { p with active := ws.foldl (fun a w => tabPut a w.1 w.2) p.active }

/-- A run of a task begun with its numbers (R121, R156). -/
def TaskState.begin (k : TaskState) (main offset cycle cluster : Nat) (im : InImg) (ready : Bool) : TaskState :=
  { k with
    running := true, imageReady := ready, sent := false, own := none
    cycle := cycle, runCycle := cycle, runMain := main, runOffset := offset, runCluster := cluster, inImg := im }

/-- Verification marks begin anew for a run (R82, R88). -/
def TileState.beginRun (t : TileState) (task : Nat) : TileState :=
  let t := t.beginTask task
  if task == 1 then t.begin else t

/-- The vital state as it stands. -/
def Chan.saved (c : Chan) : Saved :=
  { image := c.image, res := c.res, blocks := c.blocks, doors := c.doors, tasks := c.tasks, params := c.params
    gateRecords := c.nv.gateRecords }

/-- The vital state put back. -/
def Chan.restore (c : Chan) (v : Variant) (k : Saved) : Chan :=
  ({ c with
    image := k.image, res := k.res, blocks := k.blocks, doors := k.doors, tasks := k.tasks, params := k.params
    nv := { c.nv with gateRecords := k.gateRecords } }.buildStore v).writeInstances v

/-- The state before the replay of a run kept with it. -/
def Part.keepBefore (p : Part) (r : RunInput) (k : Saved) : Part :=
  { p with
    backlog := p.backlog.map (fun (b : Replay) =>
      if b.run.task == r.task && b.run.taskCycle == r.taskCycle then { b with before := some k } else b) }

/-- The next run of the backlog started, when no run is under way and no transfer before it is missing (R309). -/
def State.replayNext (s : State) (ch : Ch) : State :=
  let c := s.ch ch
  match c.part.nextRun, c.follows && c.part.refused.isEmpty && !(c.tasks.any (fun k => k.running)) with
  | some r, true =>
    let s := s.mod ch (fun c =>
      let c := { c with part := c.part.keepBefore r c.saved }
      if r.task == 1 then (c.checkPrepared r.mainCycle).switchAtRelease r.mainCycle else c)
    let s := r.commands.foldl (fun s e => (s.effect ch e.1 e.2 0 r.mainCycle r.taskCycle).2) s
    s.mod ch (fun c =>
      let c := { c with
        params := c.params.replay r.latched, tiles := c.tiles.beginRun r.task, released := true }
      let c := c.modTask r.task (fun k => k.begin r.mainCycle r.offset r.taskCycle c.sync.cluster (runImage r) true)
      if r.task == 1 then c.writeRin else c)
  | _, _ => s

/-- What stands once every run that is not verified is discarded (R110, R311): the state before the first of them that has been
replayed. -/
def Chan.discardRuns (c : Chan) (v : Variant) : Chan :=
  match c.part.backlog.findSome? (fun b => b.before) with
  | some k => c.restore v k
  | none => c

/-- A replayed run has been decided with this digest. -/
def Part.replayed (p : Part) (task cycle : Nat) (d : BitVec 64) : Part :=
  { p with
    backlog := p.backlog.map (fun (r : Replay) =>
      if r.run.task == task && r.run.taskCycle == cycle then { r with own := some d } else r) }

/-- The active's RUN_END for a run. -/
def Part.runEnded (p : Part) (task cycle : Nat) (d : BitVec 64) : Part :=
  { p with
    backlog := p.backlog.map (fun (r : Replay) =>
      if r.run.task == task && r.run.taskCycle == cycle then { r with ended := some d } else r) }

/-- Both digests of a run are known and equal. -/
def Replay.isVerified (r : Replay) : Bool := r.own.isSome && r.own == r.ended

/-- Both are known and differ. -/
def Replay.differs (r : Replay) : Bool := r.own.isSome && r.ended.isSome && r.own != r.ended

/-- Verified runs leave the backlog, the last T1 run among them being what has been applied; a difference discards the
state of a standby (R309, R310). Runs of cycle N − 1 that a handover has left outstanding leave it likewise (R315). -/
def Chan.verifyRuns (c : Chan) (v : Variant) : Chan :=
  if c.follows && c.part.backlog.any Replay.differs then c.loseSync v 4
  else
    let t1 := (c.part.backlog.filter (fun r => r.isVerified && r.run.task == 1)).map (fun r => r.run.mainCycle)
    { c with
      part :=
        { c.part with
          backlog := c.part.backlog.filter (fun r => !r.isVerified && !r.differs)
          applied := t1.foldl max c.part.applied } }

end Sys2Proof.Machine
end

