-- ==== Sys2Proof/Machine/Vote.lean ====
section
/-! DEFINITION. The vote (spec/06_triplex_voting.md R156 to R175): a run's vote set and digest, the comparison, the outcome,
what completing a run writes, verdicts, exclusion of a partner, one-sided naming, cut lines, 2oo2 time. -/

namespace Sys2Proof.Machine

open Sys2Proof

/-! ### The state digest (R157, R158) -/

/-- A frozen input image as words, each remote input with its age (R157 item 5). The manual lays out no order of its words: the
order and packing here are the model's (DESIGN CHOICE, log 73). -/
def InImg.words (im : InImg) : List Word :=
  words96 im.di ++
    [im.rb, w32 (im.warn.toNat + im.low.toNat * 16 + im.lsf.toNat * 256), im.dip, im.sweep] ++
    im.remote.flatMap (fun e => [w32 e.conn, w32 e.seq, w32 e.age] ++ e.data) ++ im.others.flatten ++
    im.otherMain.map w32 ++ im.requests.flatMap ReqEntry.words ++ words96 im.discrepant

/-- The values of the vital parameters a task owns, in number order: the active values of its cycle-latched ones, and for
T1 the static ones in force (R157 item 4, R432). -/
def Chan.ownedParams (c : Chan) (t : Nat) : List Word :=
  (paramRows.filter (fun r => r.vital)).flatMap (fun r =>
    ((List.range r.count).map (fun k => r.base + k * r.stride)).filterMap (fun n =>
      if r.cls == .static then (if t == 1 then some (w32 (c.stat n)) else none)
      else if c.latchTask n == some t then some (w32 (c.act n))
      else none))

/-- The payloads of the state tiles and RES.TICK.ACC (R157 item 7). -/
def Chan.stateWords (c : Chan) : List Word :=
  match c.image with
  | none => []
  | some g =>
    ((List.range g.tileCount).filter (fun i => g.kindAt i == some 0x10 || g.kindAt i == some 0x11)).flatMap
      (fun i => padPayload (c.tileContent g i).2.2.2) ++ [w32 c.res.acc]

/-- Words 0 to 4 of a vote set, CH and PROB taken as 0 (R157 item 1). -/
def Chan.setHeader (c : Chan) (t outs : Nat) : List Word :=
  let k := c.task t
  let seq := match c.image with
    | some g => g.imageSeq
    | none => 0
  [w32 (0x01010000 + t * 2 ^ 8), w32 k.runCycle, w32 k.runMain, w32 seq, w32 outs]

/-- SEAL.BOOT as item 2 takes it: the active's, from the heartbeat, in a standby (R157, R309). -/
def Chan.digestSeal (c : Chan) : Word :=
  match c.part.role, c.part.beat with
  | 2, some b => b.sealPos
  | _, _ => c.seals.bootPos

/-- The bytes the state digest of a run is taken over, in the order of R157. -/
def Chan.digestBytes (c : Chan) (t outs : Nat) : List Byte :=
  wordsBytes (c.setHeader t outs ++ c.digestSeal :: words64 c.tiles.digest ++ c.ownedParams t ++ (c.task t).inImg.words) ++
    c.instBytes t ++ (if t == 1 then wordsBytes c.stateWords else [])

/-- The state digest. -/
def Chan.runDigest (c : Chan) (t outs : Nat) : BitVec 64 := crc64 (c.digestBytes t outs)

/-- This channel's vote set of a run (R156). -/
def Chan.ownSet (c : Chan) (me : Ch) (t : Nat) (out : List Word) : TaskSet :=
  let k := c.task t
  { ch := me, version := 1, task := t, taskCycle := k.runCycle, mainCycle := k.runMain
    imageSeq := (c.image.map (fun g => g.imageSeq)).getD 0
    prob := c.reint.phase == 4
    digest := c.runDigest t out.length
    out := out }

/-! ### Comparing sets (R159, R165) -/

/-- Two sets agree (R159). -/
def setsAgree (a b : TaskSet) : Bool := compareSets (taskSetWords a) (taskSetWords b) == 0

/-- A partner's set of a run, as kept (R162). -/
def Chan.setFrom (c : Chan) (x : Ch) (t cycle : Nat) : Option TaskSet :=
  (c.vote.kept.get x).find? (fun k => k.task == t && k.taskCycle == cycle)

/-- A set of a later run of the task has been kept from a channel: its numbers are not those of the own run (R159). -/
def Chan.laterSet (c : Chan) (x : Ch) (t cycle : Nat) : Bool :=
  (c.vote.kept.get x).any (fun k => k.task == t && decide (cycle < k.taskCycle))

/-- What stands for a set that a partner has not sent (R159, R165): the alignment queue was full, a transfer was corrupt, or a
stale set came in its place; else it is missing. -/
def Chan.absenceOf (c : Chan) (own : TaskSet) (x : Ch) : Nat :=
  if (c.vote.full.get x).contains own.task then 6
  else if (c.vote.corrupt.get x).contains own.task then 4
  else if (c.vote.stale.get x).contains own.task || c.laterSet x own.task own.taskCycle then 3
  else 5

/-- The result code for a partner against the own set (R165). -/
def Chan.resultFor (c : Chan) (own : TaskSet) (x : Ch) : Nat :=
  if c.skewIn x own.mainCycle then 7
  else
    match c.setFrom x own.task own.taskCycle with
    | some t => compareSets (taskSetWords own) (taskSetWords t)
    | none => c.absenceOf own x

/-- The two partners' sets agree with each other (R163). -/
def Chan.partnersAgree (c : Chan) (me : Ch) (own : TaskSet) : Bool :=
  match c.setFrom me.next own.task own.taskCycle, c.setFrom me.prev own.task own.taskCycle with
  | some a, some b => setsAgree a b && !c.skewIn me.next own.mainCycle && !c.skewIn me.prev own.mainCycle
  | _, _ => false

/-- The outcome of Table 06-3 from the votes that count and the results for them. -/
def outcomeOf (withNext withPrev : Bool) (agreeNext agreePrev partners : Bool) : Nat :=
  match withNext, withPrev with
  | true, true =>
    if agreeNext && agreePrev then 0
    else if agreeNext || agreePrev then 1
    else if partners then 2
    else 3
  | true, false => if agreeNext then 5 else 6
  | false, true => if agreePrev then 5 else 6
  | false, false => 6

/-- A decision: outcome and result codes. -/
structure Decision where
  outcome : Nat
  resNext : Nat
  resPrev : Nat
  deriving DecidableEq, Repr, Inhabited

/-- The decision on a run (R163 to R165). A channel with a skew fault of its own agrees with nobody (R23). -/
def Chan.judge (c : Chan) (me : Ch) (own : TaskSet) : Decision :=
  let rn := c.resultFor own me.next
  let rp := c.resultFor own me.prev
  let mine := !c.skewIn me own.mainCycle
  { outcome :=
      outcomeOf (c.votes me.next) (c.votes me.prev) (rn == 0 && mine) (rp == 0 && mine) (c.partnersAgree me own)
    resNext := rn
    resPrev := rp }

/-- The partner an outcome names (R165). -/
def namedBy (me : Ch) (outcome resNext resPrev : Nat) : Option Ch :=
  if outcome == 1 then
    if resNext != 0 then some me.next else if resPrev != 0 then some me.prev else none
  else none

/-- The partner a verdict names. -/
def verdictNames (v : Verdict) : Option Ch := namedBy v.ch v.outcome v.resNext v.resPrev

/-! ### Completing a run: step 5 (R123) and its place in the order of R25 -/

/-- The mask of a task's local outputs. -/
def Chan.outMask (c : Chan) (t : Nat) : Word :=
  (c.taskDef t).outs.foldl (fun m o => match o.src with
    | .localOut n _ => putBit m n true
    | _ => m) 0

/-- The locked-out outputs (R197). -/
def Chan.lockMask (c : Chan) : Word :=
  (List.range 32).foldl (fun m n => putBit m n (c.nv.outCause n != 0)) 0

/-- Outputs of a mask, commanded by a run released at `us`, wait for no later run any more (R200, R202). -/
def Dout.freshFrom (d : Dout) (mask : Word) (us : Nat) : Dout :=
  { d with needFresh := d.needFresh.filter (fun e => !(mask.getLsbD e.1 && decide (e.2 < us))) }

/-- The local outputs of vanished blocks that a task writes safe in its first run after a switch (R148). -/
def Chan.absentOf (c : Chan) (t : Nat) : List (Nat × Word) :=
  (c.blocks.absentOuts.filter (fun e => e.1 == t)).map Prod.snd

/-- They are written, once. -/
def Chan.writeAbsent (c : Chan) (me : Ch) (t us : Nat) : Chan :=
  let mine := c.drives me
  let c := (c.absentOf t).foldl (fun c e => c.commandOutput e.1 (readBool e.2) mine us) c
  { c with blocks := { c.blocks with absentOuts := c.blocks.absentOuts.filter (fun e => e.1 != t) } }

/-- The slots that a T0 run has given out come into force at its write (R453). -/
def Chan.takePlan (c : Chan) : Chan := { c with dout := { c.dout with plan := c.dout.planNext, planNext := [] } }

/-- A transfer to the partner of a run the standby follows, by a channel in the vote of the active (R166, R309). -/
def Chan.feed (c : Chan) (me : Ch) (msg : PMsg) : Chan :=
  if c.part.feeding && c.part.role == 1 && c.votes me then c.psend msg else c

/-- What follows step 5 of a T1 run: messages to other modules, the boundary of an exchange, the partner delta, the STATE
transfer of a source (R25, R150, R177, R309, R410). -/
def Chan.afterT1 (c : Chan) (me : Ch) (v : Variant) (main : Nat) : Chan :=
  let c := c.settleSwitch.sendReservations me
  let c := c.boundary v main
  let c := c.feed me (.deltaEnd main c.part.runsSince)
  let c := if c.part.role == 2 then c else { c with part := { c.part with runsSince := 0 } }
  let c := match c.reint.source with
    | some x => (if earlierSource me x then c.xsend x (.state c.stateXfer) else c).flushPages
    | none => c
  c.flushXfers

/-- A run's outputs written and the run at its end, `execUs` after its release (R123 step 5, R128, R148, R154, R309): RUN_END
before, CMD after. -/
def Chan.completeRun (c : Chan) (me : Ch) (v : Variant) (own : TaskSet) (execUs : Nat) : Chan :=
  let t := own.task
  let k := c.task t
  let us := c.taskTime k.runMain k.runOffset
  let c := c.feed me (.runEnd t own.taskCycle own.digest)
  let c := if c.part.role == 2 then c else { c with part := { c.part with runsSince := c.part.runsSince + 1 } }
  let c := c.modTask t (fun k =>
    { k with
      running := false, sent := false, own := none, skips := 0, voted := own.out, votedMain := own.mainCycle
      votedCycle := own.taskCycle, execLast := execUs, execMax := max k.execMax execUs })
  let mask := (c.absentOf t).foldl (fun m e => putBit m e.1 true) (c.outMask t)
  let c := { c with dout := c.dout.freshFrom mask us }
  let c := (c.issue me t own.out own.taskCycle k.runCluster us).writeAbsent me t us
  let c := if t == 0 then (c.forceOff us).writeCounted.takePlan else c
  let c := c.markDirty me t
  let c := { c with
    blocks := { c.blocks with vanishedOuts := c.blocks.vanishedOuts.filter (fun v => v.1 != t) } }
  let c := if mask == 0 then c else c.feed me (.cmd t own.taskCycle mask (c.dout.cmd &&& mask) c.lockMask)
  let c := if t == 1 then c.afterT1 me v own.mainCycle else c
  if c.part.backlog.isEmpty then c else { c with part := c.part.replayed t own.taskCycle own.digest }.verifyRuns v

/-! ### After the decision -/

/-- The 2oo2 time limit in force, in hours (R46, R174). -/
def Chan.degLimitHours (c : Chan) : Nat :=
  let bound := [72, 24, 168, 8].getD (bits c.seals.bootPos.toNat 13 12) 72
  min (bits (c.stat 0x0C03) 7 0) bound

/-- The same in µs. -/
def Chan.degLimitUs (c : Chan) : Nat := c.degLimitHours * 3600000000

/-- A main cycle decided in 2oo2 or 2oo3 counted (R174). -/
def Chan.countCycle (c : Chan) (outcome : Nat) : Chan :=
  if outcome == 5 then { c with vote := { c.vote with degUs := c.vote.degUs + c.periodUs 1, goodUs := 0 } }
  else if outcome ≤ 1 then { c with vote := { c.vote with goodUs := c.vote.goodUs + c.periodUs 1 } }
  else c

/-- Cut lines after a decision (R169): against the partner it names, and against a partner that is out of the vote. -/
def Chan.setCuts (c : Chan) (me : Ch) (named : Option Ch) : Chan :=
  let line := fun (x : Ch) => named == some x || !c.votes x
  { c with vote := { c.vote with cut := (c.vote.cut.set me.next (line me.next)).set me.prev (line me.prev) } }

/-- A naming kept in VOTE.LAST_DISSENT and VOTE.DISSENT_CNT (R181). -/
def Chan.noteNaming (c : Chan) (named : Option Ch) (code t cycle : Nat) : Chan :=
  match named with
  | none => c
  | some x =>
    { c with
      vote :=
        { c.vote with
          lastDissent := w32 (x.code + code * 2 ^ 8 + t * 2 ^ 12 + cycle % 65536 * 2 ^ 16)
          dissentCnt := c.vote.dissentCnt.set x (inc 10 (c.vote.dissentCnt.get x)) } }

/-- The sets and flags that a decided run has used up: those of its own task. -/
def Vote.used (v : Vote) (t cycle : Nat) : Vote :=
  let keep := fun (ks : List TaskSet) => ks.filter (fun k => !(k.task == t && decide (k.taskCycle ≤ cycle)))
  let rest := fun (ts : List Nat) => ts.filter (fun n => n != t)
  { v with
    kept := { a := keep v.kept.a, b := keep v.kept.b, c := keep v.kept.c }
    stale := { a := rest v.stale.a, b := rest v.stale.b, c := rest v.stale.c }
    corrupt := { a := rest v.corrupt.a, b := rest v.corrupt.b, c := rest v.corrupt.c }
    full := { a := rest v.full.a, b := rest v.full.b, c := rest v.full.c }
    decided := ((t, cycle) :: v.decided).take 32 }

/-- A verdict of this channel (R165), with its acknowledgement as a source (Table 06-5). -/
def Chan.verdictOf (c : Chan) (me : Ch) (t cycle : Nat) (d : Decision) : Verdict :=
  { task := t, ch := me, taskCycle := cycle, outcome := d.outcome, resNext := d.resNext, resPrev := d.resPrev
    ack := c.reint.source.isSome, again := [] }

/-- The decision recorded and told (R165, R169, R181). -/
def Chan.recordDecision (c : Chan) (me : Ch) (own : TaskSet) (d : Decision) : Chan :=
  let t := own.task
  let named := namedBy me d.outcome d.resNext d.resPrev
  let code := if named == some me.next then d.resNext else d.resPrev
  let word := outcomeWord t own.taskCycle d.outcome d.resNext d.resPrev
  let v := c.verdictOf me t own.taskCycle d
  let c := c.noteNaming named code t own.taskCycle
  let c := c.setCuts me named
  let c := { c with
    vote := { (c.vote.used t own.taskCycle) with outcome := word, verdicts := c.vote.verdicts.set me (some v) } }
  let c := if t == 1 then c.countCycle d.outcome else c
  c.xsendBoth me (.verdict v)

/-- A partner leaves the vote in this channel's view (R164, R166): MODE 2oo2, its cut line stays asserted, its EXCL_ACK
is due unless it has come. -/
def Chan.loseChannel (c : Chan) (x : Ch) : Chan :=
  if c.votes x then
    { c with
      vote :=
        { c.vote with
          inVote := putBit c.vote.inVote x.code false
          mode := if c.vote.mode == 1 then 2 else c.vote.mode
          cut := c.vote.cut.set x true
          ackDue := c.vote.ackDue.set x (!c.vote.acked.get x)
          acked := c.vote.acked.set x false
          single := 0, naming := none } }
  else c

/-- Two verdicts are of one run. -/
def sameRun (v w : Verdict) : Bool := v.task == w.task && v.taskCycle == w.taskCycle

/-- The verdict stored from a channel for the run of `v`. -/
def Chan.verdictFor (c : Chan) (x : Ch) (v : Verdict) : Option Verdict := (c.vote.verdicts.get x).filter (sameRun v)

/-- The channel that a single naming selects, with the other side (R168): the one that names, or of two that name each
other the later in the order A, B, C. -/
def selectedBy (ns : List (Ch × Ch)) : Option (Ch × Ch) :=
  match ns with
  | [(x, y)] => some (x, y)
  | [(x, y), (u, v)] => if x == v && y == u then (if x.code < y.code then some (y, x) else some (x, y)) else none
  | _ => none

/-- The standing one-sided or mutual naming counted when the third verdict of a run is known (R168). -/
def Chan.countNaming (c : Chan) (v : Verdict) : Chan :=
  match c.verdictFor .a v, c.verdictFor .b v, c.verdictFor .c v with
  | some a, some b, some d =>
    let vs := [a, b, d]
    let ns := vs.filterMap (fun w => (verdictNames w).map (fun x => (w.ch, x)))
    if vs.all (fun w => decide (w.outcome ≤ 1)) then
      match selectedBy ns with
      | some n =>
        let k := if c.vote.naming == some n then c.vote.single + 1 else 1
        { c with vote := { c.vote with naming := some n, single := k } }
      | none => { c with vote := { c.vote with naming := none, single := 0 } }
    else c
  | _, _, _ => c

/-- What the verdicts of a run settle for this channel's view: a partner that it and the third channel both name leaves
the vote (R166 case 2); else the naming is counted (R168). -/
def Chan.settleVerdicts (c : Chan) (me : Ch) (v : Verdict) : Chan :=
  match (c.verdictFor me v).bind verdictNames with
  | none => c.countNaming v
  | some x =>
    match (c.verdictFor (Ch.third me x) v).bind verdictNames with
    | some y => if y == x then c.loseChannel x else c.countNaming v
    | none => c.countNaming v

/-- Both partners' verdicts of a run name this channel (R166 case 2). -/
def Chan.namedByBoth (c : Chan) (me : Ch) (v : Verdict) : Bool :=
  (c.verdictFor me.next v).bind verdictNames == some me && (c.verdictFor me.prev v).bind verdictNames == some me

/-- A run of probation judged by the channel itself (R177, R179): agreement with both sources, or the attempt fails. -/
def Chan.judgeProbation (c : Chan) (me : Ch) (d : Decision) (t main : Nat) : Chan :=
  if d.resNext == 0 && d.resPrev == 0 then
    if t == 1 then
      { c with reint := { c.reint with agreed := min 3 (c.reint.agreed + 1), judged := some main } }
    else c
  else c.failAttempt me 1

/-- A run of probation judged by a source (R177, R179): its own set against the probationer's. -/
def Chan.judgeAsSource (c : Chan) (own : TaskSet) : Chan :=
  match c.reint.source, c.reint.join with
  | some x, some j =>
    if own.mainCycle < j then c
    else if c.resultFor own x == 0 then
      if own.task == 1 then { c with reint := { c.reint with agreed := min 3 (c.reint.agreed + 1) } } else c
    else c.abandonSource
  | _, _ => c

/-- A channel out of the vote follows what its partners decide: sets of a run that agree are the voted image (R125, R177,
log 39). -/
def Chan.followVotes (c : Chan) (me : Ch) (t cycle : Nat) : Chan :=
  if c.votes me || c.reint.phase == 4 then c
  else
    match c.setFrom me.next t cycle, c.setFrom me.prev t cycle with
    | some a, some b =>
      if setsAgree a b then
        let c := c.modTask t (fun k =>
          { k with voted := a.out, votedMain := a.mainCycle, votedCycle := a.taskCycle, cycle := max k.cycle a.taskCycle })
        { c with vote := c.vote.used t cycle }
      else c
    | _, _ => c

/-! ### Commands -/

/-- VOTE (R162, R187, R304, R385, R404). -/
def execVote (ch frm : Ch) (l : Link) (t : VoteSet) (s : State) : Host.Outcome State Fault Refusal :=
  .next (s.taken ch frm l (.vote t) (fun c =>
    let c := c.takeSet frm t
    match t with
    | .task k => c.followVotes ch k.task k.taskCycle
    | _ => c))

/-- A run of a channel in probation compared without a vote (R177). -/
def Chan.decideProbation (c : Chan) (me : Ch) (v : Variant) (own : TaskSet) (d : Decision) (execUs : Nat) : Chan :=
  let c := { c with vote := c.vote.used own.task own.taskCycle }
  let c := c.judgeProbation me d own.task own.mainCycle
  if c.reint.phase == 4 then c.completeRun me v own execUs else c

/-- The decision of a channel in the vote carried out (Table 06-3, R165). -/
def State.carryOut (s : State) (ch : Ch) (own : TaskSet) (d : Decision) (execUs : Nat) : State :=
  let v := (s.ch ch).verdictOf ch own.task own.taskCycle d
  let s := s.mod ch (fun c => (c.judgeAsSource own).recordDecision ch own d)
  if d.outcome == 6 then s.safeShutdown ch 6
  else if d.outcome == 2 || d.outcome == 3 then s.exclude ch own.task own.taskCycle d.outcome
  else (s.mod ch (fun c => (c.completeRun ch s.factory.variant own execUs).settleVerdicts ch v)).replayNext ch

/-- VOTE_DECISION (R163, R164): the wait is over. The channel compares, records, tells its partners, and writes, leaves the
vote or shuts the module down as the outcome says. A channel in probation compares without a vote. -/
def execVoteDecision (ch : Ch) (task execUs : Nat) (s : State) : Host.Outcome State Fault Refusal :=
  let c := s.ch ch
  let k := c.task task
  match c.vital ch && k.running && k.sent, k.own with
  | true, some own =>
    let s := s.mod ch (fun c => c.judgeSkewFor ch own.mainCycle)
    let d := (s.ch ch).judge ch own
    if c.reint.phase == 4 then .next (s.mod ch (fun c => c.decideProbation ch s.factory.variant own d execUs))
    else .next (s.carryOut ch own d execUs)
  | _, _ => .next s

/-- Pages asked for again of a source: read anew, or after the cut at J as they were sent, for the channel takes them as they stood
at the end of J − 1 (R177, R178). -/
def Chan.sendAgainPages (c : Chan) (x : Ch) (ns : List Nat) : Chan :=
  if c.reint.join.isNone then { c with reint := { c.reint with toSend := ns ++ c.reint.toSend } }
  else
    ns.foldl (fun c n =>
      match (c.xout.filter (fun e => e.dst == x)).reverse.findSome? (fun e => match e.msg with
        | .page m ws => if m == n then some ws else none
        | _ => none) with
      | some ws => c.xsend x (.page n ws)
      | none => c) c

/-- A source's acknowledgement and a request for pages again, read from a verdict (Table 06-5, R178). -/
def Chan.takeReintSigns (c : Chan) (frm : Ch) (v : Verdict) : Chan :=
  let c :=
    if v.ack && c.reint.phase == 1 && c.reint.asked then { c with reint := { c.reint with acks := c.reint.acks.set frm true } } else c
  let c :=
    if c.reint.phase == 1 && (Ch.all.filter (fun x => c.reint.acks.get x)).length == 2 then
      { c with reint := { c.reint with phase := 2, acks := Tri.const false } }
    else c
  if c.reint.source == some frm then c.sendAgainPages frm v.again else c

/-- VERDICT (R165, R166, R168): kept, and what the verdicts of its run settle. -/
def execVerdict (ch frm : Ch) (l : Link) (v : Verdict) (s : State) : Host.Outcome State Fault Refusal :=
  let c := s.ch ch
  if ch == frm || !c.live then .next s
  else
    let (c1, ok) := c.receive frm l (.verdict v)
    let s := s.put ch c1
    if !ok || !c1.running || v.ch != frm then .next s
    else
      let s := s.mod ch (fun c =>
        let c := { c with vote := { c.vote with verdicts := c.vote.verdicts.set frm (some v) } }
        c.takeReintSigns frm v)
      let c2 := s.ch ch
      if !c2.votes ch || !c2.votes frm then .next s
      else if c2.namedByBoth ch v then .next (s.exclude ch v.task v.taskCycle causeByPartners)
      else .next (s.mod ch (fun c => c.settleVerdicts ch v))

/-- EXCL_ACK (R166): the excluded channel has confirmed; an attempt under way at another channel fails, for it was a source
(R179). -/
def execExclAck (ch frm : Ch) (l : Link) (who : Ch) (taskCycle : Nat) (s : State) : Host.Outcome State Fault Refusal :=
  .next (s.taken ch frm l (.exclAck who taskCycle) (fun c =>
    if who == frm then
      let c := c.failAttempt ch 3
      { c with
        vote :=
          { c.vote with ackDue := c.vote.ackDue.set who false, acked := c.vote.acked.set who (c.votes who) } }
    else c))

/-- EXCL_ACK_TIMEOUT (R166): the exclusion is recorded as unconfirmed. -/
def execExclAckTimeout (ch who : Ch) (s : State) : Host.Outcome State Fault Refusal :=
  .next (s.onLive ch (fun c =>
    if c.vote.ackDue.get who then
      { c with vote := { c.vote with ackDue := c.vote.ackDue.set who false } }.emit .exclUnconfirmed who.code []
    else c))

/-- The drive of a channel as both partners' cut lines leave it; the lines of a channel whose own drive is cut are
ignored (R169). -/
def Network.evalDrive (n : Network) (x : Ch) : Bool :=
  (n.cut.get x.next).get x && (n.cut.get x.prev).get x && !n.driveCut.get x.next && !n.driveCut.get x.prev

/-- The drives as the lines leave them: first that of the channel whose line changed, then the others, whose partners' lines
may count again (R169). -/
def Network.settleDrives (n : Network) (whom : Ch) : Network :=
  [whom, whom.next, whom.prev].foldl (fun (n : Network) x => { n with driveCut := n.driveCut.set x (n.evalDrive x) }) n

/-- CUT_LINE_CHANGE (R169): the network sees a line of `frm` towards `whom` change as that channel drives it. In SPLIT mode
the rule is set aside (R180). -/
def execCutLineChange (frm whom : Ch) (level : Bool) (s : State) : Host.Outcome State Fault Refusal :=
  let c := s.ch frm
  if frm != whom && c.live && !c.split && c.vote.cut.get whom == level then
    let n := { s.net with cut := s.net.cut.set frm ((s.net.cut.get frm).set whom level) }
    .next { s with net := n.settleDrives whom }
  else .next s

/-- ONE_SIDED_LIMIT (R168): the naming has stood for VOTE.SINGLE_LIMIT decisions; the channel it selects excludes itself,
and leaves the others' view. -/
def execOneSidedLimit (ch : Ch) (s : State) : Host.Outcome State Fault Refusal :=
  let c := s.ch ch
  match c.vote.naming, c.running && c.votes ch && decide (bits (c.act 0x0C02) 3 0 ≤ c.vote.single) with
  | some (x, _), true =>
    if x == ch then .next (s.exclude ch c.currentTask (c.task c.currentTask).runCycle causeOneSided)
    else .next (s.mod ch (fun c => c.loseChannel x))
  | _, _ => .next s

/-- A voter fault latched at the network and in a channel, which records it (R172). -/
def Chan.latchVoter (c : Chan) (unit : Duplicated) : Chan :=
  match unit with
  | .outputNetwork => { c with vote := { c.vote with outFault := true } }.emit .voterFault 0 []
  | .commitComparator => { c with vote := { c.vote with recFault := true } }.emit .voterFault 1 []

/-- VOTER_FAULT (R172): the copies have differed longer than 2 µs; the fault latches and each channel records it. That of
the output network trips the Hedgehog. In SPLIT mode the rule is set aside (R180). -/
def execVoterFault (unit : Duplicated) (s : State) : Host.Outcome State Fault Refusal :=
  if s.chans.toList.any Chan.split then .next s
  else
    let s := s.allLive (fun _ c => c.latchVoter unit)
    match unit with
    | .outputNetwork => .next ({ s with net := { s.net with voterFault := true } }.trip .voter)
    | .commitComparator => .next { s with net := { s.net with recFault := true } }

/-! ### The 2oo2 limit (R174, R175) -/

/-- DEG_LIMIT_WARNING (R175): within one hour of the limit. -/
def execDegLimitWarning (ch : Ch) (s : State) : Host.Outcome State Fault Refusal :=
  .next (s.onLive ch (fun c =>
    if c.running && c.votes ch && !c.vote.degWarn && decide (c.degLimitUs ≤ c.vote.degUs + 3600000000) then
      { c with vote := { c.vote with degWarn := true } }.emit .degWarn 0 []
    else c))

/-- The cause of a safe shutdown after the 2oo2 limit. -/
def causeDegLimit : Nat := 0x15

/-- DEG_LIMIT_EXPIRED (R175): the limit is reached and a T1 release has followed; safe shutdown, cause 2oo2 time expired. -/
def execDegLimitExpired (ch : Ch) (s : State) : Host.Outcome State Fault Refusal :=
  let c := s.ch ch
  if c.running && c.votes ch && c.vote.mode != 3 && decide (c.degLimitUs ≤ c.vote.degUs) &&
      decide ((c.task 1).votedMain < c.mainCycle) then
    .next ((s.mod ch (fun c => { c with reint := { c.reint with barred := true } })).safeShutdown ch causeDegLimit)
  else .next s

/-- DEG_COUNT_RESET (R174): an hour of unbroken 2oo3 decisions; the count starts again. -/
def execDegCountReset (ch : Ch) (s : State) : Host.Outcome State Fault Refusal :=
  .next (s.onLive ch (fun c =>
    if c.running && c.vote.mode == 1 && decide (3600000000 ≤ c.vote.goodUs) then
      { c with vote := { c.vote with degUs := 0, degWarn := false } }
    else c))

end Sys2Proof.Machine
end

