-- ==== Sys2Proof/Machine/Agreement.lean ====
section
/-! DEFINITION. Vital commands from the host on their way to agreement (spec/15_host_commands.md R384 to R395, R399) and what
their agreement does: tags, prepares and confirms, the request queue, parameter writes (spec/17 R433). -/

namespace Sys2Proof.Machine

open Sys2Proof

/-! ### Replies -/

/-- A status that carries no DETAIL (R398) has a code below 0x0020. -/
def detailed (status detail : Nat) : List Byte := if status < 0x20 then [] else bytesOfNat 4 detail

/-- A session's record of the packet of this SEQ answered. -/
def Session.answered (t : Session) (r : Reply) : Session :=
  if t.heard.any (fun h => h.seq == r.seq && h.reply.isNone) then
    { t with
      waiting := t.waiting - 1
      heard := t.heard.map (fun (h : Heard) => if h.seq == r.seq then { h with reply := some r } else h) }
  else t

/-- A reply sent through the hub and kept for its session (R378, R382). -/
def State.respond (s : State) (r : Reply) : State :=
  let s := s.mod r.ch (fun c =>
    { c with
      host := { c.host with
        sessions := c.host.sessions.map (fun (t : Session) => if t.id == r.session then t.answered r else t)
        lastReject :=
          if r.status < 0x10 then c.host.lastReject else w32 (r.status % 65536 + r.opcode % 65536 * 65536) } })
  s.reply r

/-- The reply to a listed command. -/
def Listed.reply (l : Listed) (ch : Ch) (status : Nat) (params : List Byte) : Reply :=
  { ch := ch, addr := l.addr, port := l.port, session := l.session, opcode := l.opcode, seq := l.seq, status := status
    params := params }

/-! ### Listing (R385) -/

/-- The entry of a listed command. -/
def Listed.entry (l : Listed) : CmdEntry :=
  { opcode := l.opcode, session := l.session, age := l.listings, seq := l.seq, digest := l.digest }

/-- The commands listed at a release instant, oldest first and at most 32, each counted once more (R385). -/
def HostState.list (h : HostState) : HostState :=
  let now := h.listed.take 32
  { h with
    now := now.map Listed.entry
    listed := now.map (fun (l : Listed) => { l with listings := l.listings + 1 }) ++ h.listed.drop 32 }

/-- This channel's command vote set (Table 15-3). -/
def Chan.commandSet (c : Chan) (me : Ch) (main offset : Nat) : CommandSet :=
  { ch := me, offset := offset, mainCycle := main, entries := c.host.now }

/-! ### Agreement (R386, R387) -/

/-- Two entries name the same command: OPCODE, SESSION, SEQ and DIGEST; AGE is not compared. -/
def sameEntry (a b : CmdEntry) : Bool :=
  a.opcode == b.opcode && a.session == b.session && a.seq == b.seq && a.digest == b.digest

/-- The command set of a channel that counts at the open instant (R186, R386). -/
def Chan.countedCmd (c : Chan) (x : Ch) : Option CommandSet :=
  let stalled := match c.din.sets.get x with
    | some t => t.stall && c.setOfInstant t
    | none => false
  (c.din.cmdSets.get x).filter (fun t => t.mainCycle == c.din.mainCycle && t.offset == c.din.offset && !stalled)

/-- An entry is listed by every channel in the vote. -/
def Chan.entryAgreed (c : Chan) (e : CmdEntry) : Bool :=
  c.voters.all (fun x => match c.countedCmd x with
    | some t => t.entries.any (sameEntry e)
    | none => false)

/-- The order of acceptance: SESSION, then SEQ (R387). -/
def entryBefore (a b : CmdEntry) : Bool :=
  decide (a.session < b.session) || (a.session == b.session && decide (a.seq.toNat ≤ b.seq.toNat))

/-- An entry put in its place. -/
def insertCmd (e : CmdEntry) : List CmdEntry → List CmdEntry
  | [] => [e]
  | x :: xs => if entryBefore e x then e :: x :: xs else x :: insertCmd e xs

/-- The commands agreed at the open instant, in order. -/
def Chan.agreedNow (c : Chan) : List CmdEntry :=
  match c.voters with
  | [] => []
  | x :: _ =>
    match c.countedCmd x with
    | none => []
    | some t => (t.entries.filter (fun e => c.entryAgreed e)).foldl (fun es e => insertCmd e es) []

/-! ### Effect releases (R388) -/

/-- Task cycle number of the first release of a task after an instant (R121, R388). -/
def Chan.nextCycle (c : Chan) (t main offset : Nat) : Nat := (main * c.periodUs 1 + offset) / c.periodUs t + 1

/-- The instant of a task's release of a number, in µs of task time. -/
def Chan.cycleUs (c : Chan) (t cycle : Nat) : Nat := cycle * c.periodUs t

/-- The task of an opcode's effect (Table 15-4). -/
def effectTask (opcode : Nat) (p : List Byte) : Nat :=
  match opcode with
  | 0x0203 => fieldAt p 0 1
  | 0x0204 => 0
  | 0x0205 => 0
  | 0x0206 => 0
  | 0x0507 => 0
  | 0x0508 => 0
  | 0x0509 => 0
  | _ => 1

/-- The request code of an opcode (Table 15-7). -/
def requestOp (opcode : Nat) : Option Nat :=
  match opcode with
  | 0x0500 => some 1
  | 0x0501 => some 2
  | 0x0201 => some 3
  | 0x0502 => some 4
  | 0x0503 => some 5
  | 0x0504 => some 6
  | 0x0505 => some 7
  | 0x0202 => some 8
  | _ => none

/-- Opcodes whose agreed commands take a TAG (R389). -/
def isTagged (opcode : Nat) : Bool :=
  opcode / 256 == 2 || (decide (0x0500 ≤ opcode) && decide (opcode ≤ 0x0509) && opcode != 0x0506)

/-- The parameters of an ACCEPTED reply (R389). -/
def acceptedParams (main offset task cycle tag : Nat) : List Byte :=
  bytesOfNat 4 main ++ bytesOfNat 4 offset ++ bytesOfNat 1 task ++ bytesOfNat 4 cycle ++ bytesOfNat 4 tag

/-! ### Parameter writes (R433) -/

/-- The entries of a WRITE_PARAM: number and value. -/
def writeEntries (p : List Byte) : List (Nat × Word) :=
  (List.range (fieldAt p 0 2)).map (fun k => (fieldAt p (2 + 8 * k) 2, w32 (fieldAt p (6 + 8 * k) 4)))

/-- A per-session selector set (R431, class Se). -/
def HostState.setSelector (h : HostState) (session num : Nat) (w : Word) : HostState :=
  { h with
    sessions := h.sessions.map (fun (t : Session) =>
      if t.id == session then { t with selectors := tabPut t.selectors num w } else t) }

/-- A value as a write leaves it: read-only bits are ignored (R449). -/
def writtenValue (num : Nat) (w : Word) : Word :=
  match paramWrite num with
  | some p => w &&& p.mask
  | none => w

/-- One entry applied at an instant: static stored, immediate at once, cycle-latched into its shadow for the first release
after it (R140 to R142, R433). `all` is false in an excluded channel, which takes no cycle-latched entry (R386). -/
def Chan.applyEntry (c : Chan) (session : Nat) (all : Bool) (e : Nat × Word) : Chan :=
  match paramRow e.1 with
  | none => c
  | some r =>
    match r.cls, c.latchTask e.1 with
    | .static, _ => { c with nv := c.nv.writeStatic e.1 (writtenValue e.1 e.2) }
    | .immediate, _ => c.writeImmediate e.1 e.2
    | .session, _ => { c with host := c.host.setSelector session e.1 e.2 }
    | _, some t =>
      if all then
        { c with
          params := c.params.toShadow
            { num := e.1, value := writtenValue e.1 e.2, task := t, cycle := c.nextCycle t c.din.mainCycle c.din.offset } }
      else c
    | _, none => c

/-- The latest effect release of a vital packet: task and task cycle; T1 before T0 when they coincide, and 0xFF where no
entry is latched (R389, R433). -/
def Chan.latestEffect (c : Chan) (es : List (Nat × Word)) : Nat × Nat :=
  let main := c.din.mainCycle
  let offset := c.din.offset
  let ts := (es.filterMap (fun e => c.latchTask e.1)).map (fun t => (t, c.nextCycle t main offset))
  ts.foldl (fun b e =>
    let better := decide (c.cycleUs b.1 b.2 < c.cycleUs e.1 e.2) || (c.cycleUs b.1 b.2 == c.cycleUs e.1 e.2 && e.1 == 1)
    if b.1 == 0xFF || better then e else b) (0xFF, 0xFFFFFFFF)

/-! ### Critical commands (R390, R391) -/

/-- The challenge of a prepare: CRC-32C over its digest, MAIN_CYCLE and OFFSET (R390). -/
def challengeOf (digest : BitVec 64) (main offset : Nat) : BitVec 16 :=
  (crc32c (bytesOfNat 8 digest.toNat ++ bytesOfNat 4 main ++ bytesOfNat 4 offset)).setWidth 16

/-- The session's pending prepare changed. -/
def HostState.setPrepare (h : HostState) (session : Nat) (p : Option Prepare) : HostState :=
  { h with
    sessions := h.sessions.map (fun (t : Session) => if t.id == session then { t with prepare := p } else t) }

/-- The session of an ID. -/
def HostState.session (h : HostState) (id : Nat) : Option Session := h.sessions.find? (fun t => t.id == id)

/-- Elapsed time of a confirm agreed at the open instant, in µs (R391). -/
def Chan.elapsedUs (c : Chan) (p : Prepare) : Nat :=
  (c.din.mainCycle * c.periodUs 1 + c.din.offset) - (p.mainCycle * c.periodUs 1 + p.offset)

/-- The decision on a confirm (Table 15-6): its status, 1 for ACCEPTED, and the pending prepare after it. One past 30 s
counts as discarded (R392). -/
def Chan.judgeConfirm (c : Chan) (l : Listed) : Nat × Option Prepare :=
  let pending := (c.host.session l.session).bind (fun t => t.prepare)
  match pending with
  | none => (0x50, none)
  | some p =>
    if p.opcode != l.opcode || decide (30000000 < c.elapsedUs p) then (0x50, some p)
    else if l.params.drop 4 != p.params then (0x53, none)
    else if fieldAt l.params 2 2 != p.challenge.toNat then (0x52, none)
    else if c.elapsedUs p < 5000000 then (0x51, some p)
    else (1, none)

/-! ### What agreement does -/

/-- A tagged command accepted: its TAG taken, its result PENDING, and it waits for its effect (R388, R389, R394). The
status and the reply parameters. -/
def Chan.accept (c : Chan) (l : Listed) (p : List Byte) : Chan × Nat × List Byte :=
  let h := c.host
  let main := c.din.mainCycle
  let offset := c.din.offset
  let tag := if isTagged l.opcode then h.nextTag else 0
  let h := if tag == 0 then h else { h.addResult tag l.session with nextTag := h.nextTag + 1 }
  let t := effectTask l.opcode p
  let reply := acceptedParams main offset t (c.nextCycle t main offset) tag
  match requestOp l.opcode with
  | some op =>
    if 256 ≤ h.queue.length then
      ({ c with host := h.finish tag 2 0x41 main }, 0x41, bytesOfNat 4 tag)
    else
      let q : QueuedReq := { tag := tag, op := op, target := bits (fieldAt p 0 4) 17 0 }
      ({ c with host := { h with queue := h.queue ++ [q] } }, 1, reply)
  | none =>
    let e : Agreed := { tag := tag, opcode := l.opcode, session := l.session, params := p, task := t }
    ({ c with host := { h with effects := h.effects ++ [e] } }, 1, reply)

/-- ACCEPTED_CNT: a vital command agreed, prepares among them (Table 15-18, R390). -/
def Chan.countAgreed (c : Chan) : Chan := { c with host := { c.host with acceptedCnt := inc 16 c.host.acceptedCnt } }

/-- The agreement of one command in a channel that takes part (R386 to R395): the channel after it, status, reply. -/
def Chan.onAgreed (c : Chan) (me : Ch) (v : Variant) (l : Listed) : Chan × Nat × List Byte :=
  let main := c.din.mainCycle
  let offset := c.din.offset
  let c := c.countAgreed.emit .cmdAgreed l.opcode [w32 l.session, l.seq]
  if l.opcode / 256 == 2 then
    if fieldAt l.params 0 1 == 1 then
      let old := (c.host.session l.session).bind (fun t => t.prepare)
      let x := challengeOf l.digest main offset
      let p : Prepare :=
        { opcode := l.opcode, params := l.params.drop 4, mainCycle := main, offset := offset, challenge := x }
      let c := if old.isSome then c.emit .prepReplaced l.opcode [w32 l.session] else c
      ({ c with host := c.host.setPrepare l.session (some p) }, 2,
        bytesOfNat 4 main ++ bytesOfNat 4 offset ++ bytesOfNat 2 x.toNat ++ [0, 0])
    else
      let (status, p) := c.judgeConfirm l
      let c := { c with host := c.host.setPrepare l.session p }
      if status == 1 then c.accept l (l.params.drop 4) else (c, status, bytesOfNat 4 0)
  else if l.opcode == 0x0102 then
    let es := writeEntries l.params
    let (t, n) := c.latestEffect es
    let c := es.foldl (fun c e => c.applyEntry l.session true e) c
    (c, 1, acceptedParams main offset t n 0)
  else if l.opcode == 0x0303 then
    match c.exchVerify me v with
    | some c => (c, 0, bytesOfNat 4 c.blocks.result)
    | none => (c, 0x60, bytesOfNat 4 0)
  else c.accept l l.params

/-- An excluded channel takes the static and the immediate entries only, and the command that allows its own reintegration
(R176, R386). -/
def Chan.onAgreedOut (c : Chan) (me : Ch) (v : Variant) (l : Listed) : Chan :=
  if l.opcode == 0x0102 then (writeEntries l.params).foldl (fun c e => c.applyEntry l.session false e) c
  else if l.opcode == 0x0208 then (c.onAgreed me v l).1
  else c

/-- One agreed entry at one channel; a channel that has not received the command itself has nothing to apply. -/
def State.agree (s : State) (ch : Ch) (e : CmdEntry) : State :=
  let c := s.ch ch
  match c.host.listed.find? (fun l => sameEntry e l.entry) with
  | none => s
  | some l =>
    let c := { c with host := { c.host with listed := c.host.listed.filter (fun x => !sameEntry e x.entry) } }
    if c.votes ch then
      let (c, status, ps) := c.onAgreed ch s.factory.variant l
      (s.put ch c).respond (l.reply ch status ps)
    else
      let c := if c.reint.phase == 4 then (c.onAgreed ch s.factory.variant l).1 else c.onAgreedOut ch s.factory.variant l
      (s.put ch c).respond (l.reply ch 0x13 [])

/-- Commands listed three times without agreement are dropped and answered NOT_AGREED (R386). -/
def State.dropUnagreed (s : State) (ch : Ch) : State :=
  let c := s.ch ch
  let gone := c.host.listed.filter (fun l => decide (3 ≤ l.listings))
  let s := s.put ch
    { c with
      host :=
        { c.host with
          listed := c.host.listed.filter (fun l => decide (l.listings < 3)), now := []
          notAgreedCnt := satAdd 8 c.host.notAgreedCnt gone.length } }
  gone.foldl (fun s l => s.respond (l.reply ch 0x40 (bytesOfNat 4 0))) s

/-- The commands of the open instant consolidated at a channel (R386). -/
def State.consolidateCommands (s : State) (ch : Ch) : State :=
  ((s.ch ch).agreedNow.foldl (fun s e => s.agree ch e) s).dropUnagreed ch

end Sys2Proof.Machine
end

