-- ==== Sys2Proof/Machine/Roles.lean ====
section
/-! DEFINITION. Entering and leaving the active role (spec/11_partner_redundancy.md R295, R296, R299, R311 to R313). -/

namespace Sys2Proof.Machine

open Sys2Proof

/-- The claim number of an epoch: (E << 16) | rank (R295). -/
def Chan.claimOf (c : Chan) (epoch : Nat) : Word := w32 (epoch % 65536 * 65536 + c.rank)

/-- Every entry into the active role raises the epoch: E_SEEN + 1, written to MRAM by the channels in the vote and recorded
(R296). -/
def Chan.enterActive (c : Chan) (cause : Nat) : Chan :=
  let e := (c.nv.eSeen + 1) % 65536
  let claim := c.claimOf e
  let c := { c with
    nv := { c.nv with eSeen := e }
    part := { c.part with role := 1, claim := claim, cause := cause, applied := 0, feeding := false, sending := none } }
  c.emit .claimChange 1 [claim]

/-- Bytes cut into parts of `n`, as many as `fuel` allows. -/
def cutParts (n : Nat) : Nat → List Byte → List (List Byte)
  | 0, _ => []
  | fuel + 1, bs => if bs.isEmpty then [] else bs.take n :: cutParts n fuel (bs.drop n)

/-- The claim of an I/O node sent to it in CLAIM frames, each with its part number and the number of parts before at most 1,004
bytes (R266; log 30), by the direction of fewer hops (R261). -/
def Chan.sendClaimTo (c : Chan) (me : Ch) (node : Nat) (block : List Byte) : Chan :=
  match c.direction node with
  | none => c
  | some p =>
    let bs := Config.claimBytes me block c.part.claim
    let parts := cutParts 1004 bs.length bs
    parts.zipIdx.foldl
      (fun c e => c.sendFrame 3 0x0D (some node) (wordBytes (w32 (e.2 + parts.length * 2 ^ 16)) ++ e.1) [p]) c

/-- The I/O blocks of the image in force: node and block. -/
def Chan.ioBlocks (c : Chan) : List (Nat × List Byte) :=
  match c.image with
  | some im => if c.boot.unprog then [] else im.claims
  | none => []

/-- Every claim sent on the lane in the next dynamic segment, under the claim number in force (R266, R311). -/
def Chan.sendClaim (c : Chan) (me : Ch) : Chan :=
  c.ioBlocks.foldl (fun c e => c.sendClaimTo me e.1 e.2) { c with frt := { c.frt with acked := [] } }

/-- Every voted image issued again at once, as R129 does for a skipped release (R311). -/
def Chan.reissueAll (c : Chan) (me : Ch) : Chan :=
  let us := c.taskTime c.mainCycle c.din.offset
  (List.range 8).foldl (fun c t =>
    if (c.taskDef t).present then c.reissue me t (c.task t).cycle us else c) c

/-- A takeover at a heartbeat instant (R110, R311 to R313): active under a new epoch; the runs not verified are dropped, the state
going back to that before them, and the last verified images issued again; without state the unit comes up in restart state. -/
def Chan.takeOver (c : Chan) (me : Ch) (v : Variant) : Chan :=
  let behind := match c.part.beat with
    | some b => decide (c.part.applied < b.cycle) || c.part.backlog.any (fun r => r.run.task == 1)
    | none => c.part.backlog.any (fun r => r.run.task == 1)
  let level := c.part.sync == 2
  let c := if level then c.discardRuns v else c
  let c := { c with nv := { c.nv with takeoverCnt := inc 8 c.nv.takeoverCnt } }
  let c := c.enterActive 1
  let c := { c with
    tasks := c.tasks.map TaskState.stopRun
    part := { c.part with backlog := [], sync := 0, phase := 0, pages := [], xstate := none, commit := none } }
  if level then
    let c := { c with res := { c.res with withdrawAll := behind } }
    (c.reissueAll me).sendClaim me
  else
    let c := c.forgetRuns.startImage v
    { c with res := { c.res with restart := true, restartFirst := true, hold := false, holdTicks := 0 } }.stampStates v c.mainCycle |>.sendClaim me

/-- Demotion (R299): switches open, vital tasks stopped, standby with claim 0; after a commanded switchover the state is
kept, else it is discarded. -/
def Chan.demote (c : Chan) (v : Variant) (kept : Bool) : Chan :=
  let c := c.openSwitches.flushVital
  let c := { c with
    tasks := c.tasks.map TaskState.stopRun
    nv := { c.nv with demoteCnt := inc 8 c.nv.demoteCnt }
    part :=
      { c.part with
        role := 2, claim := 0, cause := if kept then 2 else 3, switchAt := 0, swReady := false, handover := false
        feeding := false, sending := none, phase := 0, sync := if kept then 2 else 0, since := c.clock
        applied := if kept then c.mainCycle - 1 else 0 }
    pwait := [] }
  let c := c.emit .claimChange 2 [0]
  if kept then c else c.forgetRuns.startImage v

/-- A commanded switchover at the standby (R315): active at the release of N. -/
def Chan.takeHandover (c : Chan) (me : Ch) : Chan :=
  let c := c.enterActive 2
  { c with part := { c.part with switchAt := 0, swReady := false, sync := 0 } }.sendClaim me

end Sys2Proof.Machine
end

