-- ==== Sys2Proof/Machine/Release.lean ====
section
/-! DEFINITION. The task cycle (spec/05_block_execution.md R119 to R131): a release instant with its sets and markers, the input
agreement, a task's run; and the joining of a channel at a release (spec/06 R177). -/

namespace Sys2Proof.Machine

open Sys2Proof

/-! ### Which tasks an instant releases (R121) -/

/-- The task cycle number of a release (R121). -/
def Chan.cycleNumber (c : Chan) (t main offset : Nat) : Nat := (main * c.periodUs 1 + offset) / c.periodUs t

/-- The module's own runs take place in this unit: it is active, or in SPLIT mode (R180, R309). -/
def Chan.runsTasks (c : Chan) (me : Ch) : Bool := c.vital me && (c.part.role == 1 || c.split)

/-! ### Release, skip, fault (R123 steps 1 and 2, R128 to R130) -/

/-- TASK.SKIP_LIMIT. -/
def Chan.skipLimit (c : Chan) (t : Nat) : Nat := bits (c.act (0x0A11 + 16 * t)) 2 0

/-- A task that an instant releases and that is neither faulted nor still running starts a run. -/
def Chan.startsRun (c : Chan) (t : Nat) : Bool := !(c.task t).fault && !(c.task t).running

/-- A skipped release (R128, R129): an overrun warning, and the held image issued again. -/
def Chan.skipRelease (c : Chan) (me : Ch) (t cycle us : Nat) : Chan :=
  let first := (c.task t).skips == 0
  let c := c.modTask t (fun k =>
    { k with
      skips := k.skips + 1, cycle := cycle, skipCnt := inc 16 k.skipCnt
      ovrCnt := if first then inc 16 k.ovrCnt else k.ovrCnt })
  let c := c.emitAt c.mainCycle c.din.offset t .overrun t [w32 cycle]
  c.reissue me t cycle us

/-- A release with the skips at their limit (R130): the run is abandoned, the safe image written, the fault latched. Where no skip
is allowed it is the overrun's first release, and counts as one (R128, R154). -/
def Chan.faultTask (c : Chan) (me : Ch) (t main cycle us : Nat) : Chan :=
  let c := c.modTask t (fun k =>
    { k.stopRun with fault := true, cycle := cycle, ovrCnt := if k.skips == 0 then inc 16 k.ovrCnt else k.ovrCnt })
  let c := c.emitAt main c.din.offset t .taskFault t [w32 cycle]
  c.writeSafe me t cycle us

/-- The release of a task that does not start a run: its safe image again, a skip, or a fault. -/
def Chan.heldRelease (c : Chan) (me : Ch) (main offset t : Nat) : Chan :=
  let cycle := c.cycleNumber t main offset
  let us := c.taskTime main offset
  if (c.task t).fault then (c.modTask t (fun k => { k with cycle := cycle })).writeSafe me t cycle us
  else if (c.task t).skips < c.skipLimit t then c.skipRelease me t cycle us
  else c.faultTask me t main cycle us

/-- The latch of a starting task, remembered for RUN_IN (R123 step 1, R300). -/
def Chan.latchTaskParams (c : Chan) (main offset t : Nat) : Chan :=
  let cycle := c.cycleNumber t main offset
  let due := (c.params.shadow.filter (fun w => w.task == t && decide (w.cycle ≤ cycle))).map (fun w => (w.num, w.value))
  let c := { c with params := c.params.latch t cycle }
  c.modTask t (fun k => { k with latched := due, acted := [] })

/-- A starting task's run begins: its marks begin anew, and it takes what other tasks had last written before the instant
(R125). -/
def Chan.beginRun (c : Chan) (main offset : Nat) (others : List (List Word)) (mains : List Nat) (t : Nat) : Chan :=
  let im : InImg := { (default : InImg) with task := t, others := others, otherMain := mains }
  let c := { c with tiles := c.tiles.beginRun t }
  c.modTask t (fun k => k.begin main offset (c.cycleNumber t main offset) c.sync.cluster im false)

/-! ### Effects at a release (R388, R392) -/

/-- The effects whose release this is: of a starting task, of a faulted task's own clearing, and outside tasks those of R386
and R310. -/
def Chan.effectsDue (c : Chan) (me : Ch) (starting due : List Nat) (t1 : Bool) (e : Agreed) : Bool :=
  if c.runsTasks me then
    starting.contains e.task || (e.opcode == 0x0203 && due.contains e.task && !(c.task e.task).running) ||
      (!(c.taskDef e.task).present && t1)
  else t1 && effectOutsideTasks e.opcode

/-- One effect, its result kept (R395) and remembered for RUN_IN. -/
def State.applyEffect (s : State) (ch : Ch) (main offset : Nat) (e : Agreed) : State :=
  let cycle := (s.ch ch).cycleNumber e.task main offset
  let (ok, s) := s.effect ch e.opcode e.params e.tag main cycle
  s.mod ch (fun c =>
    let c := { c with host := c.host.finish e.tag (if ok then 1 else 2) (if ok then 0 else 0x60) main }
    c.modTask e.task (fun k => { k with acted := k.acted ++ [(e.opcode, e.params)] }))

/-- Every effect whose release this is, in order of acceptance. -/
def State.applyEffects (s : State) (ch : Ch) (main offset : Nat) (starting due : List Nat) : State :=
  let c := s.ch ch
  let now := c.host.effects.filter (c.effectsDue ch starting due (offset == 0))
  let s := s.mod ch (fun c =>
    { c with host := { c.host with effects := c.host.effects.filter (fun e => !(now.contains e)) } })
  now.foldl (fun s e => s.applyEffect ch main offset e) s

/-! ### Sets and markers (R23, R185, R271, R385) -/

/-- This channel's input vote set (Table 07-1). -/
def Chan.inputSet (c : Chan) (me : Ch) (main offset : Nat) (warn : BitVec 4) : InputSet :=
  let d := c.din
  let inv : BitVec 96 := if d.stall then BitVec.allOnes 96 else d.invalid
  { ch := me, offset := offset, mainCycle := main, di := d.raw.setWidth 64, fb := (d.raw >>> 64).setWidth 32
    rb := c.dout.readback, invDi := inv.setWidth 64, invFb := (inv >>> 64).setWidth 32, warn := warn, low := c.dout.sagLatch
    lsf := c.dout.lsfNow, stall := d.stall, dip := c.dout.dipNow, sweep := c.dout.sweepNow }

/-- A partner's stored set survives into a new instant only if it is for that instant or a later one. -/
def keepLater {α : Type} (main offset : Nat) (at_ : α → Nat × Nat) (x : Option α) : Option α :=
  x.filter (fun t => decide (main < (at_ t).1) || ((at_ t).1 == main && decide (offset ≤ (at_ t).2)))

/-- The three stored sets pruned for an instant, this channel's own being put in. -/
def pruned {α : Type} (main offset : Nat) (at_ : α → Nat × Nat) (t : Tri (Option α)) (me : Ch) (own : Option α) :
    Tri (Option α) :=
  Tri.set { a := keepLater main offset at_ t.a, b := keepLater main offset at_ t.b, c := keepLater main offset at_ t.c } me own

/-- The sets of a release instant formed, kept and sent; what they report is then taken off (R185, R271, R385). In SPLIT mode they
are kept only (R180). -/
def Chan.sendSets (c : Chan) (me : Ch) (main offset : Nat) (warn : BitVec 4) : Chan :=
  let c := { c with host := c.host.list }
  let i := c.inputSet me main offset warn
  let r := c.remoteSet me main offset
  let k := c.commandSet me main offset
  let d := c.din
  let c := { c with
    din :=
      { d with
        openInstant := true, mainCycle := main, offset := offset
        sets := pruned main offset (fun t => (t.mainCycle, t.offset)) d.sets me (some i)
        remoteSets := pruned main offset (fun t => (t.mainCycle, t.offset)) d.remoteSets me (some r)
        cmdSets := pruned main offset (fun t => (t.mainCycle, t.offset)) d.cmdSets me (some k) } }
  let c := ((c.xsendBoth me (.vote (.input i))).xsendBoth me (.vote (.remote r))).xsendBoth me (.vote (.command k))
  { c with dout := { c.dout with dipNow := 0, sweepNow := 0, lsfNow := 0 }, fab := { c.fab with events := [] } }

/-- Skews of main cycles that still have a run undecided. -/
def Chan.oldSkews (c : Chan) : List (Nat × BitVec 3) :=
  c.vote.skews.filter (fun e => c.tasks.any (fun k => k.running && k.runMain == e.1))

/-- A marker that came before this channel's own release of its main cycle counts from that release on (R23). -/
def Chan.takeEarly (c : Chan) (me : Ch) (early : Tri (Option (Nat × Int))) (x : Ch) : Chan :=
  match early.get x with
  | some (m, at_) => if x != me && m == c.mainCycle then c.takeOffset me x (at_ - c.t1Clock * 40) else c
  | none => c

/-- A T1 release instant's numbers: main cycle, clock, skew judgement begun anew, the marker sent on each link with the WAIT that
the link inserts (R23). -/
def Chan.beginCycle (c : Chan) (me : Ch) (main now : Nat) (waits : Nat × Nat) : Chan :=
  let early := c.vote.early
  let c := { c with
    mainCycle := main, released := true, t1Clock := now, part := { c.part with instant := 0 }
    vote :=
      { c.vote with
        skewJudged := false, skews := c.oldSkews, offsets := Tri.set (Tri.const none) me (some 0), early := Tri.const none
        moveNext := 0 } }
  let c := Ch.all.foldl (fun c x => c.takeEarly me early x) c
  (c.xsend me.next (.marker main now waits.1)).xsend me.prev (.marker main now waits.2)

/-- The input snapshot at a release: its raw readback states kept, gaps counted, a stall ended by a new snapshot (Table 01-4, R22,
R438). -/
def Din.snapshot (d : Din) (snaps : Nat) (back : Word) : Din :=
  { d with
    gapCnt := satAdd 16 d.gapCnt (snaps - 4), stall := d.stall && snaps == 0
    rawBack := if snaps == 0 then d.rawBack else back }

/-! ### Joining (R177) -/

/-- This channel joins at the release of J + 3 with three agreeing cycles: in the vote again, its cut lines released, the
full count of tries. -/
def Chan.joinSelf (c : Chan) (me : Ch) : Chan :=
  let c := { c with
    vote :=
      { c.vote with
        inVote := putBit c.vote.inVote me.code true, probation := putBit c.vote.probation me.code false, mode := 1
        cut := Tri.const false, ackDue := Tri.const false, acked := Tri.const false, withdrawn := false, goodUs := 0 }
    reint := { c.reint with phase := 0, join := none, agreed := 0, triesLeft := bits (c.act 0x0C05) 3 0, judged := none } }
  c.emit .reintegration 0 []

/-- A source takes the channel back at the release of J + 3. -/
def Chan.joinOther (c : Chan) (x : Ch) : Chan :=
  { c with
    vote :=
      { c.vote with
        inVote := putBit c.vote.inVote x.code true, probation := putBit c.vote.probation x.code false, mode := 1
        cut := c.vote.cut.set x false, ackDue := c.vote.ackDue.set x false, acked := c.vote.acked.set x false, goodUs := 0 }
    reint := { c.reint with source := none, join := none, agreed := 0, toSend := [], dirty := [] } }

/-- The join at a T1 release, on either side. -/
def State.joinAtRelease (s : State) (ch : Ch) (main : Nat) : State :=
  let c := s.ch ch
  match c.reint.join with
  | none => s
  | some j =>
    if main == j + 3 && c.reint.agreed == 3 then
      match c.reint.source with
      | some x => s.mod ch (fun c => c.joinOther x)
      | none => if c.reint.phase == 4 then (s.mod ch (fun c => c.joinSelf ch)).setAlive ch true else s
    else s

/-! ### Sources at a release (R177, R178) -/

/-- A source may cut at a boundary: every page sent once, 32 or fewer dirty, its DMA engine moving (R177). -/
def Chan.sourceReady (c : Chan) (x : Ch) : Bool :=
  c.reint.source == some x && c.reint.join.isNone && c.reint.toSend.isEmpty && decide (c.reint.dirty.length ≤ 32) &&
    !c.engineStopped 2

/-- The final step of a source at J: its remaining pages as they stand, then JOIN (R177). -/
def Chan.sendJoin (c : Chan) (x : Ch) (main : Nat) : Chan :=
  let n := c.reint.dirty.length
  let c := c.flushPages
  let c := { c with
    reint := { c.reint with join := some main, finalPages := n, agreed := 0 }
    vote := { c.vote with probation := putBit c.vote.probation x.code true } }
  c.xafter x (.join main n)

/-- At the release of a cycle divisible by TASK.GLOBAL.M both sources cut, if both report that they may; what the first of them
to release decides, the other follows (R177; how they tell each other is a DESIGN CHOICE, log 68). -/
def State.finalStep (s : State) (ch : Ch) (main : Nat) : State :=
  let c := s.ch ch
  match c.reint.source, c.image with
  | some x, some im =>
    let o := s.ch (Ch.third ch x)
    let both := o.reint.source == some x && o.reint.join == some main ||
      (c.sourceReady x && o.sourceReady x && (!o.released || decide (o.mainCycle < main)))
    if c.reint.join.isNone && main % im.ratioM == 0 && both then s.mod ch (fun c => c.sendJoin x main) else s
  | _, _ => s

/-- The FINAL phase of a full transfer at the active (R306, R307): at the release of a cycle J divisible by TASK.GLOBAL.M with
32 or fewer pages waiting, these as they stood at the end of J − 1, then XSTATE and COMMIT; every run from J on is fed. -/
def Chan.finalTransfer (c : Chan) (me : Ch) (main : Nat) : Chan :=
  match c.part.sending, c.image with
  | some ps, some im =>
    if c.part.role == 1 && c.votes me && decide (ps.length ≤ 32) && main % im.ratioM == 0 && !c.engineStopped 3 then
      let c := c.flushXfers
      let x := c.xstateXfer
      let ns := sortNat c.pagesInUse
      let d := commitDigest (ns.map (fun n => pageCrc (c.pageWords n))) x
      let c := c.pafter [.xstate x, .commit (main - 1) ns.length d]
      { c with part := { c.part with sending := none, phase := 2, feeding := true, runsSince := 0, pagesLeft := 0 } }
    else { c with part := { c.part with pagesLeft := ps.length } }
  | _, _ => c

/-! ### The release instant -/

/-- A confirmed seal change acted on at the release (R49): the channel drives all its outputs to the safe state, stops its vital
tasks, leaves the vote for good and commands the Hedgehog. -/
def State.actOnSeal (s : State) (ch : Ch) : State :=
  let s := s.mod ch (fun c =>
    { (c.writeAllSafe ch).openSwitches with
      seals := { c.seals with acted := true }
      reint := { c.reint with barred := true } })
  let s := s.mod ch (fun c => { c with tasks := c.tasks.map TaskState.stopRun })
  let s := if (s.ch ch).votes ch then s.mod ch (fun c => c.leave ch 0 (c.task 0).cycle causeSeal) else s
  ((s.setAlive ch false).settle causeSeal).trip .command

/-- The active at the release of a switchover's cycle N (R315): no task released when the standby is ready, else the
switchover cancelled. -/
def Chan.atSwitchover (c : Chan) (me : Ch) (main : Nat) : Chan :=
  if c.part.role == 1 && c.part.switchAt == main && main != 0 then
    if c.part.swReady then { c with part := { c.part with handover := true } }
    else { c with part := { c.part with switchAt := 0 } }.emit .switchoverCancelled main []
  else if c.part.role == 2 && c.part.switchAt == main && main != 0 && c.part.swReady && c.part.sync == 2 then c.takeHandover me
  else c

/-- The tasks that an instant releases in this unit: none where the active hands over (R315). -/
def Chan.releasedNow (c : Chan) (me : Ch) (main offset : Nat) : List Nat :=
  if c.runsTasks me && !c.part.handover then c.dueTasks main offset else []

/-- The tasks of an instant released, skipped or faulted. The writes of the starting tasks are latched first, then an exchange
switches, and the tasks released are those of the image then running (R123, R151). -/
def State.releaseTasks (s : State) (ch : Ch) (main offset : Nat) : State :=
  let s := s.mod ch (fun c =>
    let c := ((c.releasedNow ch main offset).filter c.startsRun).foldl (fun c t => c.latchTaskParams main offset t) c
    if offset == 0 then (c.checkPrepared main).switchAtRelease main else c)
  let c := s.ch ch
  let due := c.releasedNow ch main offset
  let starting := due.filter (fun t => c.startsRun t)
  let others := c.tasks.map (fun k => k.voted)
  let mains := c.tasks.map (fun k => k.votedMain)
  let s := s.mod ch (fun c =>
    (due.filter (fun t => !starting.contains t)).foldl (fun c t => c.heldRelease ch main offset t) c)
  let s := s.applyEffects ch main offset starting due
  s.mod ch (fun c => starting.foldl (fun c t => c.beginRun main offset others mains t) c)

/-- The main-cycle number of an instant: the T1 release begins the next one, 0 at the first; other releases lie in the
current one after its last instant. -/
def Chan.instantMain (c : Chan) (offset : Nat) : Option Nat :=
  if offset == 0 then some (if c.released then c.mainCycle + 1 else 0)
  else if c.released && decide (c.din.offset < offset) && decide (offset < c.periodUs 1) && !(c.dueTasks c.mainCycle offset).isEmpty
  then some c.mainCycle
  else none

/-- A channel in COPY or FINAL asks in a VERDICT for the pages it has refused (R178, log 39). -/
def Chan.askAgain (c : Chan) (me : Ch) : Chan :=
  if c.reint.again.isEmpty then c
  else
    let v : Verdict :=
      { task := 1, ch := me, taskCycle := c.mainCycle, outcome := 0, resNext := 0, resPrev := 0, ack := false
        again := c.reint.again }
    { c with reint := { c.reint with again := [] } }.xsendBoth me (.verdict v)

/-- A channel in SYNC releases T1 at a cluster cycle start of its lane (R226). -/
def Chan.atClusterStart (c : Chan) : Bool := !c.onFabric || c.sync.st != 4 || c.sync.basic == 0

/-- What comes first at a T1 release: the cycle's numbers, a switchover, a join, and the cuts of transfers under way (R23, R177,
R306, R315). -/
def State.beginMain (s : State) (ch : Ch) (main now : Nat) : State :=
  let waits := ((Config.markerWait s.draws).toNat, (Config.markerWait (s.draws + 1)).toNat)
  let s := { s with draws := s.draws + 2 }.mod ch (fun c => (c.beginCycle ch main now waits).atSwitchover ch main)
  ((s.joinAtRelease ch main).finalStep ch main).mod ch (fun c => (c.finalTransfer ch main).askAgain ch)

/-- TASK_RELEASE (R49, R123, R128 to R130, R177, R185, R226, R315): a release instant at `offset` µs after the T1 release, at
`now` µs of the channel's clock, with `snaps` snapshots since the previous one, the last with the raw readback states `back`, and
`warn` the groups whose field supply was below 19.2 V at any sample since then. -/
def execTaskRelease (ch : Ch) (offset now snaps : Nat) (back : Word) (warn : BitVec 4) (s : State) :
    Host.Outcome State Fault Refusal :=
  let c := s.ch ch
  match c.running && !c.statusOnly && !c.supply.powerFail && (offset != 0 || c.atClusterStart), c.instantMain offset with
  | true, some main =>
    if c.seals.changed then .next (s.actOnSeal ch)
    else
      let s := s.mod ch (fun c => { c with clock := now, din := c.din.snapshot snaps back })
      let s := s.mod ch (fun c => { c with din := { c.din with mainCycle := main, offset := offset } })
      let s := if offset == 0 then s.beginMain ch main now else s
      let s := s.releaseTasks ch main offset
      .next (s.mod ch (fun c => c.sendSets ch main offset warn))
  | _, _ => .next s

/-! ### The input agreement (R186 to R188, R271, R386) -/

/-- In SPLIT mode a channel reads its own inputs, as its set of the instant holds them: an invalid circuit, and every one while a
sampler stall stands, reads its safe value (R22, R24, R180). -/
def Chan.ownInputs (c : Chan) (me : Ch) : Chan :=
  match c.din.sets.get me with
  | none => c
  | some t =>
    { c with
      din :=
        { c.din with
          cons := buildBits 96 (fun n => if t.stall || inputInv t n then c.inputSafe n else inputBit t n)
          rb := t.rb, warn := t.warn, low := t.low, lsf := t.lsf, dip := 0, sweep := 0 } }

/-- The request tile of a T1 run (R72, R91, R283): fabric entries, then operator requests, 64 at most; with the TAG of each,
0 for fabric entries. -/
def Chan.takeRequests (c : Chan) : Chan × List ReqEntry × List Nat :=
  let fab := c.fab.entries.take 64
  let ops := c.host.queue.take (64 - fab.length)
  let entries := fab.map Prod.snd ++ ops.map (fun q => ({ op := q.op, target := q.target, data := [] } : ReqEntry))
  let tags := fab.map (fun _ => 0) ++ ops.map (fun q => q.tag)
  ({ c with
     fab := { c.fab with entries := c.fab.entries.drop 64 }
     host := { c.host with queue := c.host.queue.drop ops.length } }, entries, tags)

/-- The frozen image of a run filled with the consolidated values (R123 step 2, R124). -/
def Chan.fillImage (c : Chan) (t : Nat) (remote : List RemoteEntry) (requests : List ReqEntry) (tags : List Nat) : Chan :=
  let d := c.din
  c.modTask t (fun k =>
    { k with
      imageReady := true
      inImg :=
        { k.inImg with
          di := d.cons, rb := d.rb, warn := d.warn, low := d.low, lsf := d.lsf, dip := d.dip, sweep := d.sweep
          remote := remote, requests := requests, tags := tags, discrepant := d.disagree } })

/-- The RUN_IN of a run whose image is frozen (R300, R309). -/
def Chan.runInput (c : Chan) (t : Nat) : RunInput :=
  let k := c.task t
  let im := k.inImg
  { mainCycle := k.runMain, task := t, taskCycle := k.runCycle, offset := k.runOffset, di := im.di, rb := im.rb
    warn := im.warn, low := im.low, lsf := im.lsf, dip := im.dip, sweep := im.sweep, remote := im.remote
    others := im.others, otherMain := im.otherMain, discrepant := im.discrepant, latched := k.latched, commands := k.acted
    requests := im.requests }

/-- The tasks whose runs wait for the image of the open instant. -/
def Chan.awaitingImage (c : Chan) : List Nat :=
  (List.range 8).filter (fun t =>
    let k := c.task t
    k.running && !k.imageReady && k.runMain == c.din.mainCycle && k.runOffset == c.din.offset)

/-- The images of the instant's runs frozen, in task order, the RIN tiles written from that of T1, and RUN_IN sent for each (R78,
R123, R309). -/
def Chan.freezeImages (c : Chan) (me : Ch) : Chan :=
  let remote := c.remoteImage
  c.awaitingImage.foldl (fun c t =>
    let (c, requests, tags) := if t == 1 then c.takeRequests else (c, [], [])
    let c := c.fillImage t remote requests tags
    let c := if t == 1 then c.writeRin else c
    c.feed me (.runIn (c.runInput t))) c

/-- The values of the instant built. A standby builds them too: its runs take the active's images, request entries among them, so
it keeps none of its own (R185, R309; log 38). -/
def Chan.buildImage (c : Chan) (me : Ch) : Chan :=
  if c.split then (c.ownInputs me).ownRemote me
  else
    let c := c.consolidate.takeResults.consolidateRemote
    if c.part.role == 2 then { c with fab := { c.fab with entries := [] } } else c

/-- INPUT_AGREEMENT (R186, R187, R271, R386): the wait is over; the image of the instant is built, results of pulses taken,
the runs' images frozen, and the instant's commands consolidated. -/
def execInputAgreement (ch : Ch) (s : State) : Host.Outcome State Fault Refusal :=
  let c := s.ch ch
  if c.running && !c.statusOnly && c.din.openInstant then
    let s := s.mod ch (fun c => (c.buildImage ch).freezeImages ch)
    let s := s.consolidateCommands ch
    .next (s.mod ch (fun c => { c with din := { c.din with openInstant := false } }))
  else .next s

/-! ### The run (R25, R123 steps 3 and 4) -/

/-- No task of a higher priority is between its release and the end of its step 5 (R25). -/
def Chan.mayRun (c : Chan) (t : Nat) : Bool :=
  !((List.range 8).any (fun u => u != t && (c.task u).running && decide ((c.taskDef u).prio < (c.taskDef t).prio)))

/-- The value of an output entry after the run (R124). -/
def Chan.outValue (c : Chan) (im : InImg) (src : OutSrc) : Word :=
  match src with
  | .localOut _ v => boolWord (c.signalOn im v)
  | .remoteOut _ _ v => c.signal im v
  | .offered _ v => c.signal im v
  | .result kind id => c.res.result kind id
  | .reject k => w32 (c.res.rejects.getD k 0)
  | .doorElem e => c.doorWord e
  | .slot k => Config.slotEntry c.dout.planNext[k]?

/-- The output image of a run, each entry as its type holds it (R127); in the first run after a switch the entries of vanished instances are safe (R148). -/
def Chan.outImage (c : Chan) (t : Nat) : List Word :=
  let im := (c.task t).inImg
  (c.taskDef t).outs.zipIdx.map (fun e =>
    if c.blocks.vanishedOuts.contains (t, e.2) then e.1.safe else fitType e.1.typ (c.outValue im e.1.src))

/-- The results of the operator requests of a pass (R395). -/
def Chan.requestResults (c : Chan) : Chan :=
  let k := c.task 1
  let h := k.inImg.tags.zipIdx.foldl (fun (h : HostState) e =>
    if e.1 == 0 then h
    else
      let why := c.res.rejects.getD e.2 0
      h.finish e.1 (if why == 0 then 1 else 2) why k.runMain) c.host
  { c with host := h }

/-- The records of a task's instances as the executor leaves them in memory (R134, R135). -/
def Chan.writeRecords (c : Chan) (t : Nat) : Chan :=
  match c.image with
  | none => c
  | some im =>
    (im.insts.filter (fun d => d.task == t)).foldl (fun c d => c.rewrite (instBase + 16 * d.offset) (4 * d.size)) c

/-- The resolver pass of T1 at its place: the pass, its commit, and the requests' results (R113, R395). -/
def Chan.passOfRun (c : Chan) (me : Ch) (v : Variant) (passUs : Nat) : Chan :=
  ((c.resolverPass me v passUs).afterCommit me v).requestResults

/-- The code of a task: for T0 the supervision of outputs and the door blocks, for T1 the plunger latches and the resolver
pass at its place (R25, R113, R123 step 3). The records of its instances are written in the channel's own form (R134). -/
def Chan.runTask (c : Chan) (me : Ch) (v : Variant) (t passUs : Nat) (tripped : Bool) : Chan :=
  let c := if t == 0 then c.supervise tripped else c
  let c := c.runInsts t false
  let c := if t == 0 then c.runDoors0 else if t == 1 then c.runDoors1 else c
  let c := if t == 1 then c.passOfRun me v passUs else c
  (c.runInsts t true).writeRecords t

/-- The tiles that a run reads verified before their use (R81, R88). -/
def Chan.verifyTiles (c : Chan) (me : Ch) (v : Variant) (t : Nat) : Chan :=
  let c := c.verifyProgs me v t
  if t == 1 then c.verifyPass me v else c

/-- None of them has failed; otherwise the run waits for the reload (R83, R84, R88). -/
def Chan.tilesReady (c : Chan) (t : Nat) : Bool := c.progReady t && (t != 1 || c.passReady)

/-- The vote set of a run built and sent to both partners; in SPLIT mode the run completes at once (R156, R163, R180). -/
def Chan.voteRun (c : Chan) (me : Ch) (v : Variant) (t execUs : Nat) : Chan :=
  let own := c.ownSet me t (c.outImage t)
  let c := c.modTask t (fun k => { k with sent := true, own := some own })
  let c := if t == 1 then { c with vote := { c.vote with t1Digest := own.digest } } else c
  if c.split then c.completeRun me v own execUs else c.xsendBoth me (.vote (.task own))

/-- TASK_RUN (R25, R123, R156): the task's tiles are verified, its instances execute, and its vote set is built and sent. `passUs`
is what the resolver pass took, `execUs` the time from the release to a write that follows at once. -/
def execTaskRun (ch : Ch) (task passUs execUs : Nat) (s : State) : Host.Outcome State Fault Refusal :=
  let v := s.factory.variant
  let c := s.ch ch
  let k := c.task task
  let tripped := s.hedgehog.copy1 || s.hedgehog.copy2
  if c.vital ch && decide (task < 8) && k.running && k.imageReady && !k.sent && c.mayRun task then
    .next (s.mod ch (fun c =>
      let c := c.verifyTiles ch v task
      if c.tilesReady task then (c.runTask ch v task passUs tripped).voteRun ch v task execUs else c))
  else .next s

end Sys2Proof.Machine
end

