-- ==== Sys2Proof/Machine/Partner.lean ====
section
/-! DEFINITION. The partner link and its heartbeats (spec/11_partner_redundancy.md R292 to R304, R311, R315). -/

namespace Sys2Proof.Machine

open Sys2Proof

/-! ### Transfers from the partner (R300) -/

/-- The standby's state or transfer is given up for a transfer that stays missing (R308, R310). -/
def Chan.missingTransfer (c : Chan) (v : Variant) : Chan :=
  if c.follows then c.loseSync v 5 else if c.transferring then c.abandon 5 else c

/-- Transfers refused: a standby asks for them again with its next heartbeat (R308, R310). -/
def Chan.refuseTransfers (c : Chan) (ns : List Nat) : Chan :=
  if c.part.role == 2 then { c with part := { c.part with refused := (c.part.refused ++ ns).eraseDups } } else c

/-- The SEQ from the one expected to the one that arrived: lost, or refused for the gap (R300). -/
def gapSeqs (wanted seq : Nat) : List Nat :=
  if laterMod 14 seq wanted then (List.range ((seq + 16384 - wanted) % 16384 + 1)).map (fun k => (wanted + k) % 16384)
  else [seq]

/-- A transfer sent again has arrived. -/
def Part.resent (p : Part) (seq : Nat) : Part :=
  { p with refused := p.refused.filter (fun n => n != seq), asked := p.asked.filter (fun n => n != seq) }

/-- A transfer whose CRC fails: its header is not trusted, so it counts as the one expected, or as the second sending of one that
has been asked for, which is then missing for good (R308; log 67). -/
def Chan.damagedTransfer (c : Chan) (v : Variant) : Chan :=
  if c.part.asked.isEmpty then
    let wanted := c.part.rxSeq
    { c with part := { c.part with rxSeq := (wanted + 1) % 16384 } }.refuseTransfers [wanted]
  else { c with part := { c.part with refused := [], asked := [] } }.missingTransfer v

/-- A transfer read from the partner link: refused for its CRC, its KIND or a gap in SEQ, else taken (R300); one that has been
asked for keeps its SEQ. With the presence loop open the link is silent (R36). One that finds the queue full is discarded as it
arrives, and the next one shows the gap (R21). -/
def Chan.receiveP (c : Chan) (v : Variant) (l : PLink) (m : PMsg) : Chan × Bool :=
  let c := { c with part := { c.part with loop := l.loop } }
  let seq := l.link.seq
  if c.split || decide (c.boot.phase < 6) || !l.loop || l.link.full then (c, false)
  else if !l.link.crcOk m.payload then (c.damagedTransfer v, false)
  else if c.part.asked.contains seq && l.link.intact m.kind m.payload then ({ c with part := c.part.resent seq }, true)
  else
    let wanted := c.part.rxSeq
    let c := { c with part := { c.part with rxSeq := (seq + 1) % 16384 } }
    if l.link.intact m.kind m.payload && seq == wanted then (c, true) else (c.refuseTransfers (gapSeqs wanted seq), false)

/-- A transfer from the partner taken by a channel that executes and has not stopped, and acted on if not refused. -/
def State.takenP (s : State) (ch : Ch) (l : PLink) (m : PMsg) (f : Chan → Chan) : State :=
  s.onLive ch (fun c =>
    if c.boot.stopped then c
    else
      let (c, ok) := c.receiveP s.factory.variant l m
      if ok then f c else c)

/-! ### Heartbeats (R302, R303) -/

/-- PART.HB.PERIOD in µs. -/
def Chan.hbPeriodUs (c : Chan) : Nat := 8000 * 2 ^ bits (c.act 0x1804) 9 8

/-- PART.HB.COUNT. -/
def Chan.hbCount (c : Chan) : Nat := bits (c.act 0x1804) 3 0

/-- The main cycle that a heartbeat names (Table 11-2). -/
def Chan.beatCycle (c : Chan) : Nat := if c.part.role == 2 then c.part.applied else c.mainCycle

/-- A channel's heartbeat at an instant (Table 11-2). -/
def Chan.beat (c : Chan) (me : Ch) (ready : Bool) : Beat :=
  { role := c.part.role, sync := c.part.sync, restart := c.res.restart, swReady := ready, invote := c.vote.inVote, ch := me
    node := c.node, rankBit := c.rankBit, claim := c.part.claim, eSeen := BitVec.ofNat 16 c.nv.eSeen, cycle := c.beatCycle
    hbSeq := c.part.hbSeq, imageSeq := (c.image.map (fun g => g.imageSeq)).getD 0, sealPos := c.seals.bootPos
    fw := c.boot.fwDigest.setWidth 32 }

/-- The last heartbeat instant before the release of a switchover's cycle N (R315). -/
def Chan.lastBefore (c : Chan) (n offset : Nat) : Bool :=
  c.mainCycle + 1 == n && decide (c.periodUs 1 ≤ offset + c.hbPeriodUs)

/-- The condition of SW_READY at a standby's instant (R315). -/
def Chan.readyFor (c : Chan) (offset : Nat) : Bool :=
  c.follows && c.part.switchAt != 0 && c.lastBefore c.part.switchAt offset && c.part.backlog.isEmpty &&
    c.part.refused.isEmpty

/-- This channel reports LOST: both paths have missed PART.HB.COUNT heartbeats in a row (R303). -/
def Chan.lost (c : Chan) : Bool := decide (c.hbCount ≤ c.part.runX3) && decide (c.hbCount ≤ c.part.runLane)

/-- A partner claim higher than the own one has been heard (Table 11-3). -/
def Chan.higher (c : Chan) : Bool := decide (c.part.claim.toNat < c.part.partnerClaim.toNat)

/-- This channel's partner vote set (Table 11-3). -/
def Chan.partnerSet (c : Chan) (me : Ch) (offset : Nat) (ready : Bool) : PartnerSet :=
  { ch := me, offset := offset, mainCycle := c.mainCycle, lost := c.lost, higher := c.higher, swReady := ready
    pClaim := c.part.partnerClaim, commit := c.part.commitOwn }

/-- The channel takes part in heartbeats: from P6 on, not stopped, not in SPLIT mode (R180, R297, R302). -/
def Chan.beats (c : Chan) : Bool :=
  decide (6 ≤ c.boot.phase) && !c.boot.stopped && !c.split && !c.supply.powerFail

/-- A heartbeat on both paths. An excluded channel sends no transfers on its partner link, and management frames still
(R166, R243, R302). -/
def Chan.sendBeat (c : Chan) (me : Ch) (ready : Bool) : Chan :=
  let b := c.beat me ready
  let c := if c.boot.phase == 6 || c.votes me then c.psend (.heartbeat b) else c
  let c := if c.onFabric then c.sendManagement 0x0F (wordsBytes (beatWords b)) else c
  { c with part := { c.part with hbSeq := c.part.hbSeq + 1 } }

/-- REQ 2 for each transfer that is refused and has not been asked for (R310). -/
def Chan.askTransfers (c : Chan) : Chan :=
  if c.part.role == 2 then
    let ns := c.part.refused.filter (fun n => !c.part.asked.contains n)
    ns.foldl (fun c n => c.psend (.req 2 n)) { c with part := { c.part with asked := c.part.asked ++ ns } }
  else c

/-- HEARTBEAT_INSTANT (R36, R302, R304, R310, R315): heartbeats on both paths, the partner vote set to both partners, and REQ 2 for
refused transfers. `loop` is the presence loop as the channel reads it then. -/
def execHeartbeatInstant (ch : Ch) (loop : Bool) (s : State) : Host.Outcome State Fault Refusal :=
  .next (s.onLive ch (fun c =>
    let c := { c with part := { c.part with loop := loop } }
    let offset := c.part.instant * c.hbPeriodUs
    if c.beats && (!c.released || decide (offset < c.periodUs 1)) then
      let ready := c.readyFor offset
      let k := c.partnerSet ch offset ready
      let c := { c with
        part := { c.part with instant := c.part.instant + 1 }
        din := { c.din with partSets := c.din.partSets.set ch (some k) } }
      ((c.sendBeat ch ready).xsendBoth ch (.vote (.partner k))).askTransfers
    else c))

/-! ### Heartbeats that arrive (R293, R298, R299, R303) -/

/-- The other unit's key, and the node ID that go with a heartbeat. -/
def beatKey (b : Beat) : Nat := 2 * b.node + bitAt b.rankBit 0

/-- A heartbeat names the partner (R303). -/
def Chan.fromPartner (c : Chan) (b : Beat) : Bool := b.node == c.node && b.rankBit != c.rankBit

/-- A pairing fault (R293, R406): the partner counts as absent; before P7 it stops start-up. -/
def Chan.pairingFault (c : Chan) (b : Beat) : Chan :=
  let c :=
    if c.part.pairing then c
    else { c with part := { c.part with pairing := true, cause := 10 } }.emit .pairingFault (beatKey b) []
  if c.boot.phase < 7 then c.stop 0x0605 (w32 (beatKey b)) else c

/-- The last HB_SEQ accepted on a path. -/
def Part.lastSeq (p : Part) : Path → Option Nat
  | .x3 => p.seqX3
  | .lane => p.seqLane

/-- HB_SEQ is later than the last accepted on the path, or the heartbeat is of a partner that starts anew (R303). -/
def Part.seqOk (p : Part) (path : Path) (b : Beat) : Bool :=
  match p.lastSeq path with
  | none => true
  | some n => decide (n < b.hbSeq) || b.role == 0

/-- A valid heartbeat noted on its path (R303). -/
def Part.noteBeat (p : Part) (path : Path) (b : Beat) : Part :=
  match path with
  | .x3 => { p with seqX3 := some b.hbSeq, runX3 := 0, seen := true }
  | .lane => { p with seqLane := some b.hbSeq, runLane := 0, seen := true }

/-- The higher of two claim numbers. -/
def higherClaim (a b : Word) : Word := if a.toNat < b.toNat then b else a

/-- E_SEEN after a heartbeat (R295): the epoch of the claim, and the E_SEEN of a partner that is not starting. -/
def Nv.seeEpoch (v : Nv) (b : Beat) : Nv :=
  { v with eSeen := max v.eSeen (max (b.claim.toNat / 65536) (if b.role == 0 then 0 else b.eSeen.toNat)) }

/-- What a unit learns of its partner from a valid heartbeat (R297, R298, R303, R305, R315). -/
def Part.learn (p : Part) (b : Beat) : Part :=
  let p := { p with
    partnerClaim := higherClaim p.partnerClaim b.claim, partnerRole := b.role, beat := some b
    heardActive := p.heardActive || b.role == 1
    heardStarting := if b.role == 0 then some (b.eSeen.toNat, bitAt b.rankBit 8 + b.node) else p.heardStarting }
  if p.role == 1 && b.role == 2 then
    { p with
      swReady := p.switchAt != 0 && b.swReady
      phase := if p.feeding && b.sync == 0 then 0 else if p.feeding && b.sync == 2 then 4 else p.phase
      feeding := p.feeding && b.sync != 0 }
  else p

/-- The active demotes on hearing a higher claim (R299); after a commanded switchover its state is kept. -/
def Chan.demoteOn (c : Chan) (v : Variant) (claim : Word) : Chan :=
  if c.part.role == 1 && decide (c.part.claim.toNat < claim.toNat) then c.demote v c.part.handover else c

/-- The active has switched at an online program exchange to an image that a synchronised standby neither runs nor holds staged and
verified (R310). -/
def Chan.switchedAway (c : Chan) (b : Beat) : Bool :=
  let staged := (c.blocks.exch == 2 || c.blocks.exch == 3) &&
    (c.blocks.staged.bind (fun k => k.image)).any (fun g => g.imageSeq == b.imageSeq)
  c.follows && b.role == 1 && b.imageSeq != (c.image.map (fun g => g.imageSeq)).getD 0 && !staged

/-- A heartbeat on a path: checked, noted and acted on (R293, R299, R303). -/
def Chan.takeBeat (c : Chan) (v : Variant) (path : Path) (b : Beat) : Chan :=
  if !c.beats then c
  else if !c.fromPartner b then
    if path == .x3 || b.node == c.node then c.pairingFault b else c
  else if c.part.pairing || !c.part.seqOk path b then c
  else
    let c := { c with part := (c.part.noteBeat path b).learn b, nv := c.nv.seeEpoch b }
    let c := if path == .x3 && c.switchedAway b then c.loseSync v 7 else c
    c.demoteOn v b.claim

/-- HEARTBEAT (R300, R303): a heartbeat transfer on the partner link. -/
def execHeartbeat (ch : Ch) (l : PLink) (b : Beat) (s : State) : Host.Outcome State Fault Refusal :=
  .next (s.takenP ch l (.heartbeat b) (fun c => c.takeBeat s.factory.variant .x3 b))

/-- A missed heartbeat counted on its path; with PART.HB.COUNT in a row the path accepts any HB_SEQ next (R303). -/
def Chan.countMiss (c : Chan) (path : Path) : Chan :=
  let p := c.part
  let p := match path with
    | .x3 =>
      let k := min 15 (p.runX3 + 1)
      { p with runX3 := k, missX3 := inc 8 p.missX3, seqX3 := if c.hbCount ≤ k then none else p.seqX3 }
    | .lane =>
      let k := min 15 (p.runLane + 1)
      { p with runLane := k, missLane := inc 8 p.missLane, seqLane := if c.hbCount ≤ k then none else p.seqLane }
  let c := { c with part := p }
  { c with part := { c.part with seen := c.part.seen && !c.lost } }

/-- HEARTBEAT_MISS (R36, R303). -/
def execHeartbeatMiss (ch : Ch) (path : Path) (s : State) : Host.Outcome State Fault Refusal :=
  .next (s.onLive ch (fun c => if c.beats then c.countMiss path else c))

/-! ### Decisions on the partner (R304, R311, R315) -/

/-- The partner sets that count: of the channels in the vote, for the own set's instant (R186, R304). -/
def Chan.countedPartner (c : Chan) (me : Ch) : List PartnerSet :=
  match c.din.partSets.get me with
  | none => []
  | some own =>
    c.voters.filterMap (fun x =>
      (c.din.partSets.get x).filter (fun t => t.mainCycle == own.mainCycle && t.offset == own.offset))

/-- The release instant at which a standby takes over, if the heartbeat instant is one: its runs start on the images of the input
agreement that its own sets have opened, at once where that agreement is over (R185, R311 item 3). -/
def State.startRuns (s : State) (ch : Ch) (offset : Nat) : State :=
  let c := s.ch ch
  if c.released && c.din.offset == offset && c.din.mainCycle == c.mainCycle then
    let s := s.releaseTasks ch c.mainCycle offset
    if c.din.openInstant then s else s.mod ch (fun c => c.freezeImages ch)
  else s

/-- The active has lost its standby (R304): recorded, and nothing more is sent to it (R308). It goes on, also where it had given
the runs of a switchover's cycle away. -/
def Chan.standbyLost (c : Chan) : Chan :=
  if c.part.lostCons then c
  else
    let c := c.emit .partnerLost 0 []
    let c := if c.transferring then c.abandon 1 else c
    { c with part := { c.part with feeding := false, sending := none, seen := false, handover := false }, pwait := [] }

/-- PARTNER_AGREEMENT (R299, R304, R311, R315): the partner sets of the heartbeat instant consolidated, and what follows:
takeover at a standby, demotion or the loss of its standby at an active, readiness for a switchover. -/
def execPartnerAgreement (ch : Ch) (s : State) : Host.Outcome State Fault Refusal :=
  let c := s.ch ch
  match c.live && c.running && !c.statusOnly && c.beats, c.din.partSets.get ch with
  | true, some own =>
    let sets := c.countedPartner ch
    let lost := (takeValue (sets.map (fun t => t.lost)) false).1
    let higher := (takeValue (sets.map (fun t => t.higher)) Config.higherUnmatched).1
    let ready := (takeValue (sets.map (fun t => t.swReady)) false).1
    let note := fun (c : Chan) => { c with part := { c.part with lostCons := lost } }
    if c.part.role == 2 then
      let s := s.mod ch (fun c => { note c with part := { (note c).part with swReady := ready } })
      if lost then .next ((s.mod ch (fun c => c.takeOver ch s.factory.variant)).startRuns ch own.offset) else .next s
    else if c.part.role == 1 then
      if higher then .next (s.mod ch (fun c => (note c).demote s.factory.variant c.part.handover))
      else if lost then .next (s.mod ch (fun c => note c.standbyLost))
      else .next (s.mod ch note)
    else .next (s.mod ch note)
  | _, _ => .next s

end Sys2Proof.Machine
end

