-- ==== Sys2Proof/Machine/Lane.lean ====
section
/-! DEFINITION. A frame on the lane: its header and CRC-32 and its checks on arrival (spec/10_fabric_routing_messages.md R255 to R257,
R265, spec/09_fabric_timing.md R229), its relay (R232, R259, R261), keys heard with two serial numbers (R251), credits (R279, R280), and a frame put on the
line (R228). -/

namespace Sys2Proof.Machine

open Sys2Proof

/-! ### Ports -/

/-- The fabric controller runs: from P6 on, not stopped, with power (R33, R243). -/
def Chan.laneLive (c : Chan) : Bool := c.live && decide (6 ≤ c.boot.phase) && !c.boot.stopped && !c.supply.powerFail

/-- The channel takes part in its lane: its node state is not OFF (R243). -/
def Chan.laneOpen (c : Chan) : Bool := c.laneLive && c.sync.st != 0

/-- A babble fault closes the port for every kind of window (R231). -/
def Guard.babble (g : Guard) : Port → Bool
  | .x => g.babbleX
  | .y => g.babbleY

/-- The line driver of a port can be enabled at all: a transceiver powered, the port not kept out of use, no babble fault (R38,
R230, R231, R265). A port that is down sends what needs no credits, or no neighbour could find it live again (log 82). -/
def Chan.portOpen (c : Chan) (p : Port) : Bool :=
  c.laneOpen && (c.frt.port p).optics && !(c.frt.port p).wrong && !c.guard.babble p

/-- The measured delay of a port's link (R239). -/
def Sync.delay (y : Sync) : Port → Option Nat
  | .x => y.delayX
  | .y => y.delayY

/-- The delay a port counts with: 0 until it has been measured, as its register reads (Table 09-16). -/
def Sync.delayNs (y : Sync) (p : Port) : Nat := (y.delay p).getD 0

/-- A link delay above 12 µs leaves the port unused for time, and down (R239, R265). -/
def Chan.delayOk (c : Chan) (p : Port) : Bool := decide (c.sync.delayNs p ≤ 12000)

/-- The unit holds the higher claim of its pair, or has no partner (R230, R259, R298). -/
def Chan.holdsClaim (c : Chan) : Bool := c.part.role == 1

/-- What a port holds of the basic cycle under way. -/
def Guard.line (g : Guard) : Port → PortLine
  | .x => g.lineX
  | .y => g.lineY

/-- That changed. -/
def Guard.modLine (g : Guard) (p : Port) (f : PortLine → PortLine) : Guard :=
  match p with
  | .x => { g with lineX := f g.lineX }
  | .y => { g with lineY := f g.lineY }

/-! ### The header and the CRC-32 of a frame (R255 to R257) -/

/-- The class of a frame kind; none where the kind is undefined (Table 10-2). -/
def kindClass (kind : Nat) : Option Nat :=
  if decide (1 ≤ kind) && decide (kind ≤ 0x0F) then some 3
  else if kind == 0x10 || kind == 0x16 then some 0
  else if decide (0x11 ≤ kind) && decide (kind ≤ 0x15) then some 1
  else if kind == 0x20 then some 2
  else none

/-- The header of a frame on a lane (Table 10-1). -/
def Frame.header (f : Frame) (lane : Ch) : List Word :=
  [w32 (2 ^ 28 + f.cls % 4 * 2 ^ 26 + f.kind % 64 * 2 ^ 20 + f.hop % 8 * 2 ^ 17 + lane.code * 2 ^ 15 +
      bitAt f.dest.isNone 14 + f.payload.length % 1024),
    w32 (f.fseq % 65536 * 2 ^ 16 + f.dest.getD 0 % 64 * 2 ^ 8 + f.origin % 128),
    w32 f.cluster, w32 (f.lseq % 65536 * 2 ^ 16 + f.basic % 64)]

/-- The CRC-32 over header and payload (R257). -/
def frameCrc (header : List Word) (payload : List Byte) : Word := crc32 (wordsBytes header ++ payload)

/-- The frame as it stands on a lane when it reaches a port at a time. -/
def Frame.onLine (f : Frame) (lane : Ch) (port : Port) (arrival : Nat) : FrameRx :=
  let h := f.header lane
  { port := port, w0 := wordAt h 0, w1 := wordAt h 1, w2 := wordAt h 2, w3 := wordAt h 3, payload := f.payload
    crc := frameCrc h f.payload, full := false, arrival := arrival }

/-- The CRC-32 checks, over as many payload bytes as LEN says, 1,008 at most (R255, R257). -/
def frameCrcOk (f : FrameRx) : Bool :=
  f.crc == frameCrc [f.w0, f.w1, f.w2, f.w3] f.payload && f.len == f.payload.length && decide (f.len ≤ 1008)

/-! ### The window of an arrival (R227 to R229, R232, R234; log 81) -/

/-- The frames that travel in static slots on the start-up schedule (Table 10-2). -/
def isStatic (kind : Nat) : Bool := kind == 2 || kind == 3 || (decide (0x10 ≤ kind) && decide (kind ≤ 0x16))

/-- Start delimiter and end both arrive between two macroticks, less the port's link delay. -/
def Chan.arrivesIn (c : Chan) (f : FrameRx) (start stop : Nat) : Bool :=
  let d := c.sync.delayNs f.port
  decide (start * 1000 + d ≤ f.arrival) && decide (f.arrival + (f.payload.length + 32) * 8 ≤ stop * 1000 + d)

/-- A window of the compiled schedule opens in a basic cycle (R234). -/
def windowOpens (w : Window) (basic : Nat) : Bool := basic % 2 ^ w.rep == w.base

/-- A frame of an origin key and class may stand in a window (Table 09-2). -/
def windowTakes (w : Window) (origin cls : Nat) : Bool :=
  if w.arbitrating then decide (cls < 4) && w.mask.getLsbD cls else origin / 2 == w.origin && cls == w.cls

/-- The schedule in force: the image's, or a claim's once applied (R267). -/
def Chan.schedule (c : Chan) : Option Schedule := c.image.bind (fun im => im.schedule)

/-- The windows in which a port receives (log 81). -/
def Chan.rxWindows (c : Chan) (p : Port) : List Window :=
  match c.schedule with
  | some sc => sc.rxWindows.filter (fun w => w.port == p)
  | none => []

/-- The frame arrived inside a window that admits it (R229). A reference has no window of a length, a node below INTEGRATING has
no time to judge by, and a coldstart frame is judged by a node in SYNC only (log 81). -/
def Chan.inWindow (c : Chan) (f : FrameRx) : Bool :=
  let b := c.sync.basic
  if decide (c.sync.st < 3) || f.kind == 1 || (f.kind == 2 && c.sync.st != 4) then true
  else if c.sync.compiled then
    (decide (2 ≤ f.cls) && c.arrivesIn f 740 996) ||
      (c.rxWindows f.port).any (fun w =>
        windowOpens w b && windowTakes w f.origin f.cls && c.arrivesIn f w.start (w.start + w.len))
  else if isStatic f.kind then
    let slot := 100 + 10 * (f.origin / 2)
    f.origin % 2 == b % 2 && c.arrivesIn f slot (slot + 10)
  else c.arrivesIn f 740 996

/-! ### Arrival (R21, R229, R255 to R257, R265) -/

/-- A frame that fails its CRC (R257). -/
def Qm.badCrc (q : Qm) : Port → Qm
  | .x => { q with crcX := inc 16 q.crcX }
  | .y => { q with crcY := inc 16 q.crcY }

/-- A frame outside the window that would admit it (R229). -/
def Guard.rejected (g : Guard) : Port → Guard
  | .x => { g with rejectX := inc 16 g.rejectX }
  | .y => { g with rejectY := inc 16 g.rejectY }

/-- The next LSEQ expected on a port for a class and level (R279). -/
def Qm.noteLseq (q : Qm) (p : Port) (cls level lseq : Nat) : Qm :=
  { q with
    rxNext := (p, cls, level, (lseq + 1) % 65536) ::
      q.rxNext.filter (fun e => !(e.1 == p && e.2.1 == cls && e.2.2.1 == level)) }

/-- The neighbour that the description names for a port; none where it names none. -/
def Chan.described (c : Chan) (p : Port) : Option Nat :=
  c.schedule.bind (fun sc => match p with
    | .x => sc.nbrX
    | .y => sc.nbrY)

/-- A port notes a valid frame: that it lives, its neighbour by a frame with HOP 0, and a HELLO or TIME_STATUS of the described
neighbour, for its return (R265). -/
def Chan.noteValid (c : Chan) (f : FrameRx) : Chan :=
  let named := fun (p : Port) => (f.kind == 3 || f.kind == 4) && c.described p == some f.origin
  let st := c.frt.port f.port
  let frt := c.frt.putPort f.port { st with
    heard := true, near := if f.hop == 0 then some f.origin else st.near }
  { c with
    frt := { frt with
      portX := { frt.portX with named := frt.portX.named || named .x }
      portY := { frt.portY with named := frt.portY.named || named .y } } }

/-- A frame as it arrives on a lane's port: queue, CRC, window, version, lane, HOP, kind and class (R21, R229, R255 to R257). One
that passes tells that the port lives; it is acted on where the port is in use and the frame is of the command's kind. -/
def Chan.hear (c : Chan) (me : Ch) (f : FrameRx) (kind : Nat) : Chan × Bool :=
  if !(c.laneLive && (c.frt.port f.port).optics) then (c, false)
  else if f.full then ({ c with qm := { c.qm with rxFull := c.qm.rxFull + 1 } }, false)
  else if !frameCrcOk f then ({ c with qm := c.qm.badCrc f.port }, false)
  else if !c.inWindow f then ({ c with guard := c.guard.rejected f.port }, false)
  else if f.ver != 1 || f.lane != me.code || decide (6 < f.hop) then (c, false)
  else if kindClass f.kind != some f.cls then ({ c with fab := { c.fab with rxErr := inc 16 c.fab.rxErr } }, false)
  else
    let c := c.noteValid f
    if c.laneOpen && c.portUsed f.port && f.kind == kind then
      ({ c with qm := c.qm.noteLseq f.port f.cls f.hop f.lseq }, true)
    else (c, false)

/-- The payload as words. -/
def frameWords (f : FrameRx) : List Word := bytesWords f.payload

/-- The frame is for this node (R255). -/
def Chan.addressed (c : Chan) (f : FrameRx) : Bool := f.bcast || f.dest == c.node

/-! ### Keys heard with two serial numbers (R251) -/

/-- The back-off of the d-th detection: 2 × (S_d + 1) cluster cycles, S_d being bits 6d − 1 to 6d − 6. -/
def backoffOf (serial : BitVec 64) (d : Nat) : Nat := 2 * (bits serial.toNat (6 * d - 1) (6 * d - 6) + 1)

/-- A duplicate-ID fault: latched, recorded, the Badger closed; at the third detection the node stays in OFF. -/
def Chan.duplicateId (c : Chan) (serial : BitVec 64) : Chan :=
  let d := min 3 (c.sync.dupDetect + 1)
  let c := { c with
    sync :=
      { c.sync with
        st := 0, rank := 0, tookRank := 0, owlKey := 0x7F, dupLatched := true, dupDetect := d, dupKey := c.nodeKey
        backoff := if d == 3 then 0 else backoffOf serial d } }
  c.emit .duplicateId c.nodeKey [w32 d]

/-- A serial number heard under a key: the own key under another one is a duplicate ID; another key heard under two is
recorded as duplicated. -/
def Chan.noteSerial (c : Chan) (own : BitVec 64) (key : Nat) (serial : BitVec 64) : Chan :=
  if key == c.nodeKey then (if serial == own then c else c.duplicateId own)
  else
    match tabGet c.sync.serials key with
    | none => { c with sync := { c.sync with serials := tabPut c.sync.serials key serial } }
    | some n =>
      if n == serial || c.sync.duplicated.contains key then c
      else { c with sync := { c.sync with duplicated := key :: c.sync.duplicated } }.emit .duplicateKey key []

/-- A 64-bit serial number from two words, the low one first. -/
def serialOf (ws : List Word) (k : Nat) : BitVec 64 := (wordAt ws (k + 1)) ++ (wordAt ws k)

/-! ### Relay (R232, R259, R261, R265, R275) -/

/-- The other unit of this node's pair is in the link table. -/
def Chan.partnerSeen (c : Chan) : Bool := c.frt.hellos.any (fun h => h.key == 2 * c.node + bitAt (!c.rankBit) 0)

/-- The route to a frame's destination leaves by a port (R259, R261). -/
def Chan.leadsOn (c : Chan) (f : FrameRx) (p : Port) : Bool :=
  f.kind == 3 || f.bcast || !c.routed ||
    ((f.dest != c.node || c.partnerSeen) && (c.hops f.dest p).isSome)

/-- A frame as it is sent on: one hop more. -/
def relayed (f : FrameRx) : Frame :=
  { cls := f.cls, kind := f.kind, hop := f.hop + 1, dest := if f.bcast then none else some f.dest, origin := f.origin
    fseq := f.fseq, lseq := 0, cluster := f.cluster, basic := f.basic, payload := f.payload }

/-- A frame sent on by the other port: held in the receive level of its HOP until then; a static frame arms its slot two
basic cycles on. A frame for which the level has no cells is discarded and counted (R232, R259, R275, R276). -/
def Chan.relay (c : Chan) (f : FrameRx) : Chan :=
  let p := f.port.other
  if decide (f.hop < 6) && f.origin != c.nodeKey && !c.sync.duplicated.contains f.origin && c.portUsed p &&
      c.leadsOn f p then
    match c.queueFrame p (relayed f) with
    | none => { c with qm := { c.qm with discards := inc 8 c.qm.discards } }
    | some c =>
      if isStatic f.kind && !c.sync.compiled then
        { c with guard := { c.guard with armed := c.guard.armed ++ [(p, f.origin / 2, (c.sync.basic + 2) % 64)] } }
      else c
  else c

/-- A frame heard and relayed, and whether it is one to act on: not this node's own come round. -/
def Chan.hearRelay (c : Chan) (me : Ch) (f : FrameRx) (kind : Nat) : Chan × Bool :=
  let (c, ok) := c.hear me f kind
  if ok && f.origin != c.nodeKey then (c.relay f, true) else (c, false)

/-! ### Credits (R279, R280) -/

/-- The credits of a port for a class and level. -/
def Qm.credit (q : Qm) (p : Port) (cls level : Nat) : Option Credit :=
  q.credits.find? (fun k => k.port == p && k.cls == cls && k.level == level)

/-- A credit entry replaced. -/
def Qm.putCredit (q : Qm) (k : Credit) : Qm :=
  { q with credits := k :: q.credits.filter (fun e => !(e.port == k.port && e.cls == k.cls && e.level == k.level)) }

/-- A port's credits dropped, as one that comes up or goes down holds none (R280). -/
def Qm.dropCredits (q : Qm) (p : Port) : Qm :=
  { q with
    credits := q.credits.map (fun (k : Credit) => if k.port == p then { k with cells := 0, known := false, log := [] } else k) }

/-- Reference, coldstart and CREDIT frames need no credits: the first two are never stored by a port (R239, R250, R279). -/
def needsCredit (kind : Nat) : Bool := kind != 1 && kind != 2 && kind != 9

/-- The port holds the credits for a frame. -/
def Chan.credited (c : Chan) (p : Port) (f : Frame) : Bool :=
  !needsCredit f.kind ||
    (match c.qm.credit p f.cls f.hop with
     | some k => k.known && decide (frameCells f ≤ k.cells)
     | none => false)

/-- A frame counted out: its LSEQ and its cells (R279). -/
def Qm.spend (q : Qm) (p : Port) (f : Frame) : Qm × Nat :=
  let k : Credit :=
    (q.credit p f.cls f.hop).getD { port := p, cls := f.cls, level := f.hop, cells := 0, lseq := 0, known := false, log := [] }
  let n := frameCells f
  (q.putCredit { k with
    cells := if needsCredit f.kind then k.cells - n else k.cells
    lseq := (k.lseq + 1) % 65536
    log := if needsCredit f.kind then k.log ++ [(k.lseq, n)] else k.log }, k.lseq)

/-! ### Sending (R228, R255) -/

/-- The time a frame occupies the line, in ns (R227). -/
def frameNs (f : Frame) : Nat := (f.payload.length + 32) * 8

/-- A frame put on the line at a time: LSEQ of its class and level, and for a frame of this node the cycle it is sent in. The port
is busy until the frame has ended. -/
def Chan.launch (c : Chan) (p : Port) (at_ : Nat) (f : Frame) : Chan :=
  let (qm, n) := c.qm.spend p f
  let f := { f with lseq := n }
  let f := if f.hop == 0 then { f with cluster := c.sync.cluster, basic := c.sync.basic } else f
  { c with
    qm := qm, fab := { c.fab with sent := c.fab.sent ++ [(p, f)] }
    guard := c.guard.modLine p (fun l => { l with busy := at_ + frameNs f }) }

/-- A management frame of this node built and put on the line at once, on a port that is open. -/
def Chan.launchOwn (c : Chan) (p : Port) (at_ kind : Nat) (payload : List Byte) : Chan :=
  if c.portOpen p then
    let f := c.ownFrame 3 kind none payload
    { c with fab := c.fab.useSeq 3 }.launch p at_ f
  else c

/-! ### Claims of pairs (R298) -/

/-- The highest claim heard for a key of a node. -/
def Fab.noteClaim (f : Fab) (node key : Nat) (claim : Word) : Fab :=
  let old := ((f.pairClaims.find? (fun e => e.1 == node && e.2.1 == key)).map (fun e => e.2.2)).getD 0
  { f with
    pairClaims := (node, key, higherClaim old claim) ::
      f.pairClaims.filter (fun e => !(e.1 == node && e.2.1 == key)) }

/-- The key whose claim is the highest heard for a node; none while none has been heard (R298). -/
def Fab.holder (f : Fab) (node : Nat) : Option Nat :=
  let es := f.pairClaims.filter (fun e => e.1 == node && e.2.2 != 0)
  (es.foldl (fun (b : Option (Nat × Word)) e => match b with
    | some (_, w) => if w.toNat < e.2.2.toNat then some (e.2.1, e.2.2) else b
    | none => some (e.2.1, e.2.2)) none).map Prod.fst

end Sys2Proof.Machine
end

