-- ==== Sys2Proof/Machine/FabricTime.lean ====
section
/-! DEFINITION. Fabric time: references, node states, the Owl and its backups, cold start (spec/09_fabric_timing.md R237 to
R251). -/

namespace Sys2Proof.Machine

open Sys2Proof

/-! ### Node states (R243) -/

/-- Eligible for the Owl and backup roles (R245). -/
def Chan.owlEligible (c : Chan) : Bool :=
  !c.boot.unprog && !c.split && (match c.image with | some im => im.owlElig | none => false)

/-- This node is the Owl: in SYNC with RANK 1 (R243). -/
def Sync.isOwl (y : Sync) : Bool := y.st == 4 && y.rank == 1

/-- RANK of a node in SYNC by the names of the backups (R245). -/
def Sync.backupRank (y : Sync) (key : Nat) : Nat :=
  if key == y.b2 then 2 else if key == y.b3 then 3 else if key == y.b4 then 4 else 0

/-- Back to LISTEN: a lane is listened for anew, on the start-up schedule (R237, R243, R249). -/
def Sync.toListen (y : Sync) : Sync :=
  { y with
    st := 1, rank := 0, tookRank := 0, owlKey := 0x7F, compiled := false, good := 0, missing := 0, copy := none, cold := false
    drifted := false, listened := 0, listenOver := false, coldSent := 0, switchAt := 0, nextSched := false }

/-- To INTEGRATING, as a follower. -/
def Sync.toIntegrating (y : Sync) : Sync :=
  { y with st := 3, rank := 0, tookRank := 0, good := 0, coldSent := 0, listenOver := false }

/-- The Owl role taken (R246, R250). The new Owl is no backup of its own; the other names stand until the next cluster cycle
start (R245). A backup sends its first reference at its next basic cycle start, so none is due in this one. -/
def Chan.becomeOwl (c : Chan) (took : Nat) (sends : Bool) : Chan :=
  let but := fun (k : Nat) => if k == c.nodeKey then 0x7F else k
  { c with
    sync :=
      { c.sync with
        st := 4, rank := 1, tookRank := took, owlKey := c.nodeKey, missing := 0, unsent := 0, refSent := !sends, cold := false
        takeoverCnt := inc 8 c.sync.takeoverCnt, b2 := but c.sync.b2, b3 := but c.sync.b3, b4 := but c.sync.b4 } }

/-! ### Reference frames (R238, R239) -/

/-- The payload of a reference frame (Table 09-4). -/
structure Ref where
  cluster : Nat
  basic : Nat
  sched : Bool
  hop : Nat
  rank : Nat
  owl : Nat
  acc : Nat
  switchAt : Nat
  next : Bool
  b2 : Nat
  b3 : Nat
  b4 : Nat
  deriving DecidableEq, Repr, Inhabited

/-- The eight words of a reference. -/
def refWords (r : Ref) : List Word :=
  [w32 r.cluster,
    w32 (r.basic + bitAt r.sched 8 + r.hop * 2 ^ 12 + r.rank * 2 ^ 16 + r.owl * 2 ^ 24),
    w32 r.acc, w32 r.switchAt, w32 (bitAt r.next 0), w32 (r.b2 + r.b3 * 2 ^ 8 + r.b4 * 2 ^ 16), 0, 0]

/-- A reference read from its words. -/
def refOf (ws : List Word) : Ref :=
  let w1 := (wordAt ws 1).toNat
  let w5 := (wordAt ws 5).toNat
  { cluster := (wordAt ws 0).toNat, basic := bits w1 5 0, sched := w1.testBit 8, hop := bits w1 14 12, rank := bits w1 18 16
    owl := bits w1 30 24, acc := (wordAt ws 2).toNat, switchAt := (wordAt ws 3).toNat, next := (wordAt ws 4).getLsbD 0
    b2 := bits w5 6 0, b3 := bits w5 14 8, b4 := bits w5 22 16 }

/-- The reference this Owl sends. -/
def Chan.ownRef (c : Chan) : Ref :=
  let y := c.sync
  { cluster := y.cluster, basic := y.basic, sched := y.compiled, hop := 0, rank := y.tookRank, owl := c.nodeKey, acc := 0
    switchAt := y.switchAt, next := y.nextSched, b2 := y.b2, b3 := y.b3, b4 := y.b4 }

/-- REFERENCE_SEND (R238): at macrotick 0 the Owl's reference goes out on both ports. -/
def execReferenceSend (ch : Ch) (s : State) : Host.Outcome State Fault Refusal :=
  .next (s.onLive ch (fun c =>
    if c.laneOpen && c.sync.isOwl && !c.sync.refSent && (c.portOpen .x || c.portOpen .y) then
      let ps := wordsBytes (refWords c.ownRef)
      let c := (c.launchOwn .x 0 1 ps).launchOwn .y 0 1 ps
      { c with sync := { c.sync with refSent := true, unsent := 0 } }
    else c))

/-- OWL_GIVE_UP (R247): two basic cycles without its own reference. -/
def execOwlGiveUp (ch : Ch) (s : State) : Host.Outcome State Fault Refusal :=
  .next (s.onLive ch (fun c =>
    if c.laneOpen && c.sync.isOwl && decide (2 ≤ c.sync.unsent) then
      { c with sync := { c.sync.toIntegrating with owlKey := 0x7F, missing := 0 } }
    else c))

/-- A reference has been relayed on a port in this basic cycle. -/
def Sync.relayedOn (y : Sync) : Port → Bool
  | .x => y.relayedX
  | .y => y.relayedY

/-- Noted. -/
def Sync.noteRelay (y : Sync) : Port → Sync
  | .x => { y with relayedX := true }
  | .y => { y with relayedY := true }

/-- The relay of a reference 4 µs after its arrival, once per port and basic cycle: HOP one more, in the header as in the payload,
ACC with the link delay and the residence time. A port unused for time is no source of one (R239, Table 09-2). -/
def Chan.relayRef (c : Chan) (f : FrameRx) (r : Ref) : Chan :=
  let p := f.port.other
  if decide (r.hop < 6) && c.delayOk f.port && c.portOpen p && !c.sync.relayedOn p then
    let r' := { r with hop := r.hop + 1, acc := r.acc + c.sync.delayNs f.port + 4000 }
    let out := { relayed f with payload := wordsBytes (refWords r') }
    { c with
      sync := c.sync.noteRelay p
      guard := c.guard.modLine p (fun l => { l with relayAt := some f.arrival }) }.launch p (f.arrival + 4000) out
  else c

/-! ### Following (R240, R243, R244, R247, R264) -/

/-- OFFSET of a copy (R240). -/
def Chan.offsetOf (c : Chan) (f : FrameRx) (acc : Nat) : Int := (f.arrival : Int) - acc - c.sync.delayNs f.port

/-- A drift beyond 1.5 µs takes a node in SYNC to INTEGRATING, to come back at a cluster cycle start (R244). -/
def Chan.drift (c : Chan) (off : Int) : Chan :=
  if c.sync.st == 4 && decide (1500 < off.natAbs) then
    let c := { c with sync := { c.sync.toIntegrating with dropCnt := inc 16 c.sync.dropCnt, drifted := true } }
    (c.emit .drift c.nodeKey [BitVec.ofInt 32 off]).sendManagement 7 (wordsBytes [w32 c.nodeKey])
  else c

/-- An OFFSET taken: the idle part of this basic cycle follows it; the largest in SYNC is kept (R240, R252). -/
def Chan.takeOffsetNs (c : Chan) (off : Int) : Chan :=
  let y := c.sync
  let y := { y with
    offset := off, idleAdj := off
    maxNs := if y.st == 4 then max y.maxNs (min off.natAbs 65535) else y.maxNs }
  { c with sync := y }.drift off

/-- A copy used: the node follows its Owl, time and announcements. -/
def Chan.useRef (c : Chan) (r : Ref) (off : Int) : Chan :=
  let y := c.sync
  let fresh := y.st == 1 || y.st == 2 || y.cold
  let y := if y.st == 1 || y.st == 2 then y.toIntegrating else y
  let y := { y with
    takeoverCnt := if y.owlKey != 0x7F && y.owlKey != r.owl then inc 8 y.takeoverCnt else y.takeoverCnt
    owlKey := r.owl, cluster := if y.st == 4 then y.cluster else r.cluster, basic := if y.st == 4 then y.basic else r.basic
    compiled := if fresh then r.sched else y.compiled
    switchAt := r.switchAt, nextSched := r.next, b2 := r.b2, b3 := r.b3, b4 := r.b4
    missing := 0, gotRef := true, cold := false, copy := some (r.hop, off) }
  { c with sync := { y with rank := if y.st == 4 then y.backupRank c.nodeKey else 0 } }.takeOffsetNs off

/-- A reference conflict counted, once in a basic cycle (R247). -/
def Sync.conflict (y : Sync) : Sync :=
  if y.conflictNow then y else { y with conflictCnt := inc 8 y.conflictCnt, conflictNow := true }

/-- One copy of a reference that the node follows: the copy of lower HOP, port X on a tie, is used; two copies more than
0.5 µs apart are a port discrepancy (R240). A copy counts as it comes: a better one that follows replaces its OFFSET, not what it
has already led to (log 83). -/
def Chan.takeCopy (c : Chan) (f : FrameRx) (r : Ref) : Chan :=
  let off := c.offsetOf f r.acc
  match c.sync.copy with
  | none => c.useRef r off
  | some (h, o) =>
    let c := if decide (500 < (off - o).natAbs) then { c with sync := { c.sync with conflictCnt := inc 8 c.sync.conflictCnt } } else c
    if decide (r.hop < h) || (r.hop == h && f.port == .x) then c.useRef r off else c

/-- What a node does with a reference (R240, R243, R247, R264). -/
def Chan.followRef (c : Chan) (f : FrameRx) (r : Ref) : Chan :=
  let y := c.sync
  let other := y.owlKey != 0x7F && r.owl != y.owlKey
  let held := y.gotRef || y.missing == 0
  if y.isOwl then
    if r.owl < c.nodeKey then
      if y.compiled then
        if y.switchAt == 0 then { c with sync := { y with switchAt := (y.cluster + 2) % 2 ^ 32, nextSched := false } } else c
      else { c with sync := { y.toIntegrating with owlKey := 0x7F, copy := none } }.takeCopy f r
    else c
  else if decide (3 ≤ y.st) && other && y.compiled && held then { c with sync := y.conflict }
  else if decide (3 ≤ y.st) && other && !y.compiled && r.owl < y.owlKey then
    { c with sync := { y.toIntegrating with copy := none } }.takeCopy f r
  else if decide (3 ≤ y.st) && other && !y.compiled && held then c
  else c.takeCopy f r

/-- REFERENCE (R239, R240, R243, R244, R247): relayed and followed; a port whose delay is above 12 µs is unused for time. -/
def execReference (ch : Ch) (f : FrameRx) (s : State) : Host.Outcome State Fault Refusal :=
  .next (s.onLive ch (fun c =>
    let (c, ok) := c.hear ch f 1
    let r := refOf (frameWords f)
    if ok && f.origin != c.nodeKey && c.delayOk f.port then (c.relayRef f r).followRef f r else c))

/-- REFERENCE_MISSING (R243, R250): no valid reference by macrotick 100, counted once in a basic cycle. A node that follows coldstart frames counts only in
basic cycles of the candidate's parity. -/
def execReferenceMissing (ch : Ch) (s : State) : Host.Outcome State Fault Refusal :=
  .next (s.onLive ch (fun c =>
    let y := c.sync
    if c.laneOpen && decide (3 ≤ y.st) && !y.isOwl && !y.gotRef && !y.judged && (!y.cold || y.basic % 2 == y.owlKey % 2) then
      let y := { y with judged := true, missing := y.missing + 1, missCnt := inc 16 y.missCnt, good := 0 }
      { c with sync := if 8 ≤ y.missing then y.toListen else y }
    else c))

/-- OWL_TAKEOVER (R246): Owl k after 2 × (k − 1) missing references. -/
def execOwlTakeover (ch : Ch) (s : State) : Host.Outcome State Fault Refusal :=
  .next (s.onLive ch (fun c =>
    let y := c.sync
    if c.laneOpen && y.st == 4 && decide (2 ≤ y.rank) && decide (2 * (y.rank - 1) ≤ y.missing) then c.becomeOwl y.rank false
    else c))

/-- A TOPO_FAULT of this node: its cause kept in FRT.STATUS and told to every node (R263 to R265). -/
def Chan.topologyFault (c : Chan) (cause : Nat) : Chan :=
  let c := { c with frt := { c.frt with fault := true, cause := cause } }
  (c.emit .topoFault c.nodeKey [w32 cause]).sendManagement 0x0C (wordsBytes [w32 c.nodeKey, w32 cause])

/-- REFERENCE_CONFLICT_LIMIT (R264): conflicts in 8 consecutive basic cycles on the compiled schedule. -/
def execReferenceConflictLimit (ch : Ch) (s : State) : Host.Outcome State Fault Refusal :=
  .next (s.onLive ch (fun c =>
    if c.laneOpen && c.sync.compiled && decide (8 ≤ c.sync.conflictRun) then
      { c.topologyFault 4 with sync := { c.sync with conflictRun := 0 } }
    else c))

/-! ### Cold start (R249 to R251) -/

/-- LISTEN_TIMEOUT (R249): two cluster cycles, 128 basic cycles on the own clock, without a reference. -/
def execListenTimeout (ch : Ch) (s : State) : Host.Outcome State Fault Refusal :=
  .next (s.onLive ch (fun c =>
    if c.laneOpen && c.sync.st == 1 && decide (128 ≤ c.sync.listened) then
      { c with sync := { c.sync with listenOver := true } }
    else c))

/-- COLDSTART_ENTRY (R250): at its next T1 release an eligible node begins basic cycle 0 as a candidate. -/
def execColdstartEntry (ch : Ch) (s : State) : Host.Outcome State Fault Refusal :=
  .next (s.onLive ch (fun c =>
    if c.laneOpen && c.sync.st == 1 && c.sync.listenOver && c.owlEligible then
      { c with sync := { c.sync with st := 2, basic := 0, cluster := 0, coldSent := 0, compiled := false } }
    else c))

/-- COLDSTART_COMPLETE (R250): eight frames sent without a lower key or a reference: the candidate is Owl from basic cycle 16 on,
where its first reference goes out. -/
def execColdstartComplete (ch : Ch) (s : State) : Host.Outcome State Fault Refusal :=
  .next (s.onLive ch (fun c =>
    if c.laneOpen && c.sync.st == 2 && c.sync.coldSent == 8 && c.sync.basic == 16 then c.becomeOwl 1 true else c))

/-- The payload of a coldstart frame: CLUSTER 0, BASIC, key and serial number (R250; log 30). -/
def Chan.coldstartWords (c : Chan) (serial : BitVec 64) : List Word :=
  [0, w32 c.sync.basic, w32 c.nodeKey, serial.setWidth 32, (serial >>> 32).setWidth 32]

/-- The node takes a candidate's coldstart frame as its reference (R243, R250). -/
def Chan.followsCold (c : Chan) (key : Nat) : Bool :=
  let lower := !c.owlEligible || decide (key < c.nodeKey)
  match c.sync.st with
  | 1 => lower
  | 2 => decide (key < c.nodeKey)
  | 3 => c.sync.cold && decide (key ≤ c.sync.owlKey)
  | _ => false

/-- COLDSTART (R250, R251): taken as a reference sent at its slot's start + 3 µs with ACC 0. -/
def execColdstart (ch : Ch) (f : FrameRx) (s : State) : Host.Outcome State Fault Refusal :=
  let own := s.factory.serial
  .next (s.onLive ch (fun c =>
    let (c, ok) := c.hear ch f 2
    let ws := frameWords f
    let key := bits (wordAt ws 2).toNat 6 0
    if !ok then c
    else
      let c := c.noteSerial own key (serialOf ws 3)
      if key != c.nodeKey && c.sync.st != 0 && c.followsCold key then
        let off := c.offsetOf f ((103 + 10 * (key / 2)) * 1000)
        let y := if c.sync.st == 3 then c.sync else c.sync.toIntegrating
        { c with
          sync := { y with
            cold := true, owlKey := key, cluster := 0, basic := bits (wordAt ws 1).toNat 5 0, gotRef := true, missing := 0
            compiled := false } }.takeOffsetNs off
      else c))

/-- DUP_BACKOFF_END (R251): the back-off run out, the node listens again, but not after the third detection. -/
def execDupBackoffEnd (ch : Ch) (s : State) : Host.Outcome State Fault Refusal :=
  .next (s.onLive ch (fun c =>
    if c.laneLive && c.sync.st == 0 && c.sync.dupLatched && decide (c.sync.dupDetect < 3) && c.sync.backoff == 0 then
      { c with sync := c.sync.toListen }
    else c))

/-! ### Cycle starts (R237, R240, R245, R248) -/

/-- SCHEDULE_SWITCH (R237, R277): at the announced cluster cycle the lane changes its schedule; vital queues are flushed, and
on the start-up schedule it discovers again (R264). -/
def execScheduleSwitch (ch : Ch) (s : State) : Host.Outcome State Fault Refusal :=
  .next (s.onLive ch (fun c =>
    let y := c.sync
    if c.laneOpen && decide (3 ≤ y.st) && y.switchAt != 0 && y.switchAt == y.cluster && y.basic == 0 then
      let c := if y.nextSched != y.compiled then c.flushVital else c
      let c := { c with sync := { y with compiled := y.nextSched, switchAt := 0, nextSched := false } }
      if y.nextSched then c
      else { c with frt := { c.frt with complete := false, stable := 0, ready := [], acked := [] } }
    else c))

/-- The three lowest keys of a list. -/
def lowest (ks : List Nat) : List Nat := (sortNat ks.eraseDups).take 3

/-- A number limited to a range about 0. -/
def clampInt (k : Nat) (x : Int) : Int := max (-(k : Int)) (min (k : Int) x)

/-- The Owl's steering towards the median of its module's markers, limited: longer when it is early (R248). -/
def steer (early : Int) (most amount : Nat) : Int :=
  if early == 0 then 0 else if 0 < early then ((min most amount : Nat) : Int) else -((min most amount : Nat) : Int)

/-- What a cluster cycle start brings (R240, R245, R248, R260): the macrotick rate, the names of the backups, the frames sent
once per cluster cycle. -/
def Chan.clusterStart (c : Chan) (serial : BitVec 64) (variant draw : Nat) : Chan :=
  let y := c.sync
  let skew := c.vote.skewOffset
  let rate :=
    if y.isOwl then y.rate + steer (-skew) 100 (Config.steerRate skew draw)
    else if y.offNum == 0 then y.rate
    else Config.macrotickRate y.rate y.offSum y.offNum
  let names := lowest (y.announced.filter (fun k => k != c.nodeKey))
  let y := { y with
    rate := clampInt 5000 rate, offSum := 0, offNum := 0, announced := [], laneSkew := skew
    backoff := y.backoff - 1
    b2 := if y.isOwl then names.getD 0 0x7F else y.b2
    b3 := if y.isOwl then names.getD 1 0x7F else y.b3
    b4 := if y.isOwl then names.getD 2 0x7F else y.b4 }
  let c := { c with
    sync := y
    guard := { c.guard with nowX := 0, nowY := 0 }
    frt := { c.frt with stable := if c.frt.changed then 0 else c.frt.stable + 1, changed := false } }
  let c :=
    if decide (3 ≤ y.st) then
      [Port.x, Port.y].foldl (fun c p =>
        c.sendFrame 3 5 ((c.frt.port p).nbr.map (fun n => n.1 / 2)) (wordsBytes [0]) [p]) c
    else c
  let c := if y.st == 4 && c.owlEligible then c.sendManagement 4 (wordsBytes [w32 c.nodeKey, w32 y.st]) else c
  if c.boot.unprog && decide (3 ≤ y.st) then
    c.sendManagement 8
      (wordsBytes ([serial.setWidth 32, (serial >>> 32).setWidth 32, w32 c.node, w32 variant,
        c.boot.fwDigest.setWidth 32, (c.boot.fwDigest >>> 32).setWidth 32]))
  else c

/-- A port's dynamic segment closed: counted with or without a valid frame (R265). Only a node with time, from INTEGRATING on, has
dynamic segments to find a port quiet by (log 82). -/
def PortState.closeSegment (p : PortState) (timed : Bool) : PortState :=
  if p.heard then { p with heard := false, quiet := 0, lively := p.lively + 1 }
  else { p with quiet := if timed then p.quiet + 1 else 0, lively := 0 }

/-- The ports and Badgers as a basic cycle closes. -/
def Chan.closeSegments (c : Chan) : Chan :=
  let timed := decide (3 ≤ c.sync.st)
  { c with
    frt := { c.frt with portX := c.frt.portX.closeSegment timed, portY := c.frt.portY.closeSegment timed }
    guard := { c.guard with lineX := default, lineY := default, downAfter := 0 } }

/-- A basic cycle closed: its OFFSET counted, missing and conflict marks judged, a basic cycle of a listen counted (R249). -/
def Sync.closeCycle (y : Sync) : Sync :=
  let (good, sum, num) := match y.copy with
    | some (_, o) => (if o.natAbs ≤ 1000 then y.good + 1 else 0, y.offSum + o, y.offNum + 1)
    | none => (y.good, y.offSum, y.offNum)
  { y with
    good := good, offSum := sum, offNum := num
    unsent := if y.isOwl then (if y.refSent then 0 else y.unsent + 1) else 0
    conflictRun := if y.conflictNow then y.conflictRun + 1 else 0
    listened := if y.st == 1 then y.listened + 1 else 0
    copy := none, gotRef := false, judged := false, refSent := false, relayedX := false, relayedY := false, conflictNow := false, idleAdj := 0 }

/-- The next basic cycle begins: index and number, and SYNC for a node that has qualified (R226, R243): on the compiled schedule,
and after a drift (R244), at a cluster cycle start only. -/
def Sync.advance (y : Sync) (key : Nat) : Sync :=
  let wrap := y.basic == 63
  let y := { y with
    basic := (y.basic + 1) % 64
    cluster := if wrap then (y.cluster + 1) % 2 ^ 32 else y.cluster }
  if y.st == 3 && decide (8 ≤ y.good) && ((!y.compiled && !y.drifted) || wrap) then
    { y with st := 4, rank := y.backupRank key, missing := 0, drifted := false }
  else y

/-- The lane's cluster cycle start stands more than 50 µs from this channel's own T1 release, the channel being in P7 and in the vote
(R248): the basic cycle that begins at `now` has index BASIC, and both recur every 64 ms. -/
def Chan.offLane (c : Chan) (me : Ch) (now : Nat) : Bool :=
  let d := (now + 64000 - c.sync.basic * 1000 + 64000 - c.t1Clock % 64000) % 64000
  c.running && c.released && c.votes me && decide (50 < d) && decide (d < 63950)

/-- One basic cycle start of a channel: the cycle before closed, the next begun, the Owl's steering, and at a cluster cycle start
what that brings. -/
def Chan.basicCycle (c : Chan) (serial : BitVec 64) (variant draw : Nat) : Chan :=
  let wrap := c.sync.basic == 63
  let c := c.closeSegments
  if c.sync.st == 0 && !c.sync.dupLatched then c
  else
    let c := { c with sync := (c.sync.closeCycle).advance c.nodeKey }
    let c :=
      if c.sync.isOwl then
        { c with
          sync := { c.sync with
            idleAdj := steer (-c.vote.skewOffset) 10 (Config.steerPhase c.vote.skewOffset draw) } }
      else c
    if wrap then c.clusterStart serial variant draw else c

/-- BASIC_CYCLE_START (R226, R240, R243, R248, R265), at `now` µs of the channel's clock. A node in OFF has no cycles but
those of its back-off, on its own clock (R251). A channel of the vote that enters SYNC too far from its own T1 release does not step it: it records a skew fault
and leaves the vote (R23, R248). -/
def execBasicCycleStart (ch : Ch) (now : Nat) (s : State) : Host.Outcome State Fault Refusal :=
  let c := s.ch ch
  let serial := s.factory.serial
  let variant := match s.factory.variant with
    | .hx4096 => 0
    | .hx1024 => 1
  let draw := s.draws
  if c.laneLive then
    let s := s.drawn.mod ch (fun c => c.basicCycle serial variant draw)
    if c.sync.st != 4 && (s.ch ch).sync.st == 4 && (s.ch ch).offLane ch now then
      .next ((s.mod ch (fun c =>
        { c with vote := { c.vote with skewCnt := inc 16 c.vote.skewCnt } }.emit .skewFault ch.code [])).withdraw ch)
    else .next s
  else .next s

end Sys2Proof.Machine
end

