-- ==== Sys2Proof/Machine/Transmit.lean ====
section
/-! DEFINITION. Transmit windows and the Badger (spec/09_fabric_timing.md R227 to R236; spec/10_fabric_routing_messages.md R259, R265,
R276, R279, R280). -/

namespace Sys2Proof.Machine

open Sys2Proof

/-! ### Frames and windows -/

/-- A frame started at a time ends by a macrotick. -/
def endsBy (at_ until_ : Nat) (f : Frame) : Bool := decide (at_ + frameNs f ≤ until_ * 1000)

/-- The frame of lowest rank value that is admitted, the oldest among equals. -/
def pickFrame (q : List Frame) (admits : Frame → Bool) (rank : Frame → Nat) : Option Frame :=
  (q.filter admits).foldl (fun (b : Option Frame) f => match b with
    | some g => if rank f < rank g then some f else some g
    | none => some f) none

/-- A frame taken from a port's queue, its cells given back (R276). -/
def Chan.dequeue (c : Chan) (p : Port) (f : Frame) : Chan :=
  { c with
    qm := c.qm.give f.cls (c.levelOf p f) (frameCells f)
    fab := c.fab.putQueue p ((c.fab.queue p).erase f) }

/-- The windows of a port's compiled schedule that open in this basic cycle (R234). -/
def Chan.txWindows (c : Chan) (p : Port) : List Window :=
  match c.schedule with
  | some sc => sc.windows.filter (fun w => w.port == p && windowOpens w c.sync.basic)
  | none => []

/-- The window whose transmit window holds a time (R228). -/
def Chan.windowAt (c : Chan) (p : Port) (at_ : Nat) : Option Window :=
  (c.txWindows p).find? (fun w => decide ((w.start + 3) * 1000 ≤ at_) && decide (at_ < (w.start + w.len - 3) * 1000))

/-- The port is free, and sends on in the window or slot that starts there (R233, R236). -/
def Chan.mayStart (c : Chan) (p : Port) (at_ start : Nat) : Bool :=
  decide ((c.guard.line p).busy ≤ at_) && (c.guard.line p).spent != some start

/-- The port sends nothing more in a window or slot of this basic cycle. -/
def Chan.spend (c : Chan) (p : Port) (start : Nat) : Chan :=
  { c with guard := c.guard.modLine p (fun l => { l with spent := some start }) }

/-! ### The dynamic segment (R233, R265, R279) -/

/-- The free cells and next LSEQ of a receive level, as CREDIT carries them (R279). -/
def Qm.creditWord (q : Qm) (p : Port) (cls level : Nat) : Word :=
  let free := ((q.range cls (some (p, level))).map (fun r => r.free)).getD 0
  let next := ((q.rxNext.find? (fun e => e.1 == p && e.2.1 == cls && e.2.2.1 == level)).map (fun e => e.2.2.2)).getD 0
  w32 (min free 65535 + next * 65536)

/-- The 28 words of a CREDIT frame, class by class. -/
def Qm.creditWords (q : Qm) (p : Port) : List Word :=
  (List.range 28).map (fun k => q.creditWord p (k / 7) (k % 7))

/-- The claim holder's HEARTBEAT has an exclusive window of the compiled schedule (R302). -/
def Chan.windowedBeat (c : Chan) (f : Frame) : Bool :=
  f.kind == 0x0F && c.sync.compiled &&
    (if f.origin == c.nodeKey then c.holdsClaim else c.fab.holder (f.origin / 2) == some f.origin)

/-- The frames that the dynamic segment carries at a mini-slot boundary: a relayed LINK_DOWN 4 µs after its reception at the earliest
(R233, R265, Table 10-2). -/
def Chan.inDynamic (c : Chan) (at_ : Nat) (f : Frame) : Bool :=
  decide (2 ≤ f.cls) && f.kind != 3 && !c.windowedBeat f &&
    !(f.kind == 0x0A && f.origin != c.nodeKey && decide (at_ < c.guard.downAfter))

/-- Rank in the dynamic segment: a relayed LINK_DOWN first, then management before non-vital, lower origin key, older
(R233, R265). -/
def dynamicRank (me : Nat) (f : Frame) : Nat :=
  if f.kind == 0x0A && f.origin != me then 0 else if f.cls == 3 then 1 + f.origin else 129 + f.origin

/-- The Badger opens the port in the dynamic segment: SYNC, or INTEGRATING with the last OFFSET at 3.0 µs or less (R243). -/
def Chan.dynamicOpen (c : Chan) : Bool := c.sync.st == 4 || (c.sync.st == 3 && decide (c.sync.offset.natAbs ≤ 3000))

/-- The time fields of the link delay frames, written as they leave (R239). -/
def stampDelay (f : Frame) (at_ : Nat) : Frame :=
  if f.kind == 5 then { f with payload := wordsBytes [w32 at_] }
  else if f.kind == 6 then
    let ws := bytesWords f.payload
    { f with payload := wordsBytes [wordAt ws 0, wordAt ws 1, w32 at_] }
  else f

/-- A mini-slot boundary: CREDIT in the first, then the frame of highest rank if it ends by macrotick 993 and its credits
are held; a frame that does not fit lets no other pass (R233, R279). -/
def Chan.sendDynamic (c : Chan) (p : Port) (at_ : Nat) : Chan :=
  if !c.dynamicOpen || at_ % 1000 != 0 || decide (at_ < (c.guard.line p).busy) then c
  else if at_ == 743000 then c.launchOwn p at_ 9 (wordsBytes (c.qm.creditWords p))
  else
    match pickFrame (c.fab.queue p) (c.inDynamic at_) (dynamicRank c.nodeKey) with
    | none => c
    | some f => if endsBy at_ 993 f && c.credited p f then (c.dequeue p f).launch p at_ (stampDelay f at_) else c

/-! ### Static slots (R232, R250, R259) -/

/-- This node's HELLO (Table 10-3). -/
def Chan.helloWords (c : Chan) (serial : BitVec 64) : List Word :=
  let half := fun (p : Port) => match (c.frt.port p).nbr with
    | some (k, q) => if (c.frt.port p).up then k + bitAt (q == .y) 7 + 2 ^ 15 else 0
    | none => 0
  let digest := ((c.image.bind (fun im => im.schedule)).map (fun sc => sc.topology)).getD 0
  [serial.setWidth 32, (serial >>> 32).setWidth 32,
    w32 (c.nodeKey + c.sync.st * 2 ^ 8 + bitAt c.holdsClaim 11 + bitAt c.boot.unprog 12 + bitAt c.split 13),
    w32 (half .x + half .y * 2 ^ 16), w32 (c.sync.delayNs .x % 2 ^ 14), w32 (c.sync.delayNs .y % 2 ^ 14),
    digest.setWidth 32, (digest >>> 32).setWidth 32, c.part.claim]

/-- The own static slot of the own parity: a coldstart frame on both ports, a HELLO, or the oldest vital frame, one in the slot
(R250, R259). -/
def Chan.sendOwnSlot (c : Chan) (p : Port) (at_ start : Nat) (serial : BitVec 64) : Chan :=
  if c.sync.st == 2 then
    if c.sync.coldSent < 8 && c.sync.basic < 16 then
      let ps := wordsBytes (c.coldstartWords serial)
      let c := (((c.launchOwn .x at_ 2 ps).launchOwn .y at_ 2 ps).spend .x start).spend .y start
      { c with sync := { c.sync with coldSent := c.sync.coldSent + 1 } }
    else c
  else if c.sync.st == 4 then
    if c.sync.basic % 8 < 2 then
      if c.credited p (c.ownFrame 3 3 none (wordsBytes (c.helloWords serial))) then
        (c.launchOwn p at_ 3 (wordsBytes (c.helloWords serial))).spend p start
      else c
    else if c.holdsClaim then
      match pickFrame (c.fab.queue p) (fun f => isStatic f.kind && f.kind != 3 && f.origin == c.nodeKey) (fun _ => 0) with
      | some f =>
        if endsBy at_ (start + 7) f && c.credited p f then ((c.dequeue p f).launch p at_ f).spend p start else c
      | none => c
    else c
  else c

/-- A slot armed by a relay: the frame of that origin sent on, once (R232); a node in INTEGRATING relays too (Table 09-6, log 82). -/
def Chan.sendArmed (c : Chan) (p : Port) (at_ start slot : Nat) : Chan :=
  let arm := (p, slot, c.sync.basic)
  if decide (3 ≤ c.sync.st) && c.guard.armed.contains arm then
    let c := { c with guard := { c.guard with armed := c.guard.armed.erase arm } }
    match pickFrame (c.fab.queue p) (fun f => isStatic f.kind && f.origin / 2 == slot && f.hop != 0) (fun _ => 0) with
    | some f => if endsBy at_ (start + 7) f && c.credited p f then (c.dequeue p f).launch p at_ f else c
    | none => c
  else c

/-- A static slot on the start-up schedule: from START + 3 to START + 7 (Table 09-2). -/
def Chan.sendStatic (c : Chan) (p : Port) (at_ : Nat) (serial : BitVec 64) : Chan :=
  let slot := (at_ / 1000 - 100) / 10
  let start := 100 + 10 * slot
  if (start + 3) * 1000 ≤ at_ && at_ < (start + 7) * 1000 && c.mayStart p at_ start then
    if slot == c.node && c.sync.basic % 2 == bitAt c.rankBit 0 then c.sendOwnSlot p at_ start serial
    else c.sendArmed p at_ start slot
  else c

/-! ### Windows of the compiled schedule (R230, R234, R236) -/

/-- An exclusive window of this node's own vital cyclic frames is left idle for unreachable destinations (R273). -/
def Chan.idleUnreachable (c : Chan) (w : Window) : Bool :=
  w.origin == c.node &&
    (match c.image with
     | some im => (im.conns.filter (fun d => !d.inbound && !d.event)).all (fun d => c.noRoute d.peer)
     | none => false)

/-- An exclusive window without a frame stays idle: one of class vital cyclic counts a transmit underrun (R236, R273). -/
def Chan.idleWindow (c : Chan) (p : Port) (w : Window) : Chan :=
  if w.arbitrating then c
  else
    let c := c.spend p w.start
    if w.cls == 0 && !c.idleUnreachable w then { c with qm := { c.qm with underruns := c.qm.underruns + 1 } } else c

/-- A window: the admitted frame of lowest class, lowest origin key, oldest. One that does not end within it leaves the window
idle for its remainder; one whose credits are not held waits, a vital cyclic frame being counted once (R236, R279, R280). The
unit of a pair that does not hold the claim sends in no window (R230, R233). -/
def Chan.sendWindow (c : Chan) (p : Port) (at_ : Nat) (w : Window) : Chan :=
  if c.sync.st != 4 || !c.holdsClaim || !c.mayStart p at_ w.start then c
  else
    match pickFrame (c.fab.queue p) (fun f => windowTakes w f.origin f.cls) (fun f => f.cls * 128 + f.origin) with
    | none => if at_ == (w.start + 3) * 1000 then c.idleWindow p w else c
    | some f =>
      if !endsBy at_ (w.start + w.len - 3) f then c.spend p w.start
      else if c.credited p f then (c.dequeue p f).launch p at_ f
      else if f.cls == 0 then { c.spend p w.start with qm := { c.qm with late := inc 16 c.qm.late } }
      else c

/-- FRAME_TRANSMIT (R228): at a time of the basic cycle, in ns, the port starts what its window and the Badger let it. -/
def execFrameTransmit (ch : Ch) (port : Port) (at_ : Nat) (s : State) : Host.Outcome State Fault Refusal :=
  let serial := s.factory.serial
  .next (s.onLive ch (fun c =>
    if !c.portOpen port then c
    else if 743000 ≤ at_ && at_ ≤ 993000 then c.sendDynamic port at_
    else if 100000 ≤ at_ && at_ < 740000 then
      if c.sync.compiled then
        match c.windowAt port at_ with
        | some w => c.sendWindow port at_ w
        | none => c
      else c.sendStatic port at_ serial
    else c))

/-! ### The Badger (R228, R230, R231) -/

/-- A time lies between two macroticks. -/
def inTicks (at_ start stop : Nat) : Bool := decide (start * 1000 ≤ at_) && decide (at_ < stop * 1000)

/-- The Badger enables a port's line driver at a time of the basic cycle: what Table 09-2 gives each kind of window, in the mode of
the node state (Table 09-6), by the claim of the pair (R230), and not on a port closed by a fault. -/
def Chan.enables (c : Chan) (p : Port) (at_ : Nat) : Bool :=
  let y := c.sync
  let slot := (at_ / 1000 - 100) / 10
  let own := slot == c.node && y.basic % 2 == bitAt c.rankBit 0
  let relay := match (c.guard.line p).relayAt with
    | some a => decide (a + 3900 ≤ at_) && decide (at_ < a + 4900)
    | none => false
  let inSlot := !y.compiled && inTicks at_ (101 + 10 * slot) (109 + 10 * slot) && inTicks at_ 100 740 &&
    ((own && (y.st == 2 || y.st == 4)) || (decide (3 ≤ y.st) && c.guard.armed.contains (p, slot, y.basic)))
  let window := y.compiled && y.st == 4 && c.holdsClaim &&
    (c.txWindows p).any (fun w => inTicks at_ (w.start + 1) (w.start + w.len - 1))
  c.portOpen p &&
    (relay || (c.dynamicOpen && inTicks at_ 741 995) || (y.isOwl && inTicks at_ 0 1) || inSlot || window)

/-- A violation counted on a port. -/
def Guard.violation (g : Guard) : Port → Guard
  | .x => { g with violX := inc 16 g.violX, nowX := g.nowX + 1 }
  | .y => { g with violY := inc 16 g.violY, nowY := g.nowY + 1 }

/-- Violations of a port in this cluster cycle. -/
def Guard.now (g : Guard) : Port → Nat
  | .x => g.nowX
  | .y => g.nowY

/-- The port closed for every kind of window. -/
def Guard.latch (g : Guard) : Port → Guard
  | .x => { g with babbleX := true }
  | .y => { g with babbleY := true }

/-- A transmission cut by the Badger (R257). -/
def Qm.txCut (q : Qm) : Port → Qm
  | .x => { q with txCutX := inc 16 q.txCutX }
  | .y => { q with txCutY := inc 16 q.txCutY }

/-- BADGER_VIOLATION (R231, R257): the transmit logic drives a port at a time, in ns, at which the Badger does not enable it. The
driver is cut; the fourth violation of a cluster cycle latches a babble fault, which each channel records of its own port. -/
def execBadgerViolation (ch : Ch) (port : Port) (at_ : Nat) (s : State) : Host.Outcome State Fault Refusal :=
  .next (s.onLive ch (fun c =>
    if decide (c.boot.phase < 6) || c.enables port at_ then c
    else
      let c := { c with guard := c.guard.violation port, qm := c.qm.txCut port }
      if 4 ≤ c.guard.now port && !c.guard.babble port then
        { c with guard := c.guard.latch port }.emit .babble (portCode port) []
      else c))

end Sys2Proof.Machine
end

