-- ==== Sys2Proof/Machine/Discovery.lean ====
section
/-! DEFINITION. Ports, discovery, claims and the queue pool (spec/10_fabric_routing_messages.md R254 to R267, R273 to R280;
spec/02_connectors_supplies_seal.md R38). -/

namespace Sys2Proof.Machine

open Sys2Proof

/-! ### Transceivers and ports (R38, R265, R277, R280) -/

/-- A port's queues flushed as it goes down: its transmit queue, and the frames that arrived on it and wait on the other
port; its credits dropped (R277, R280). -/
def Chan.flushPort (c : Chan) (p : Port) : Chan :=
  let c := c.flushWhere p (fun _ => true)
  let c := c.flushWhere p.other (fun f => f.origin != c.nodeKey)
  { c with qm := c.qm.dropCredits p, guard := { c.guard with armed := [] } }

/-- Frames queued for nodes that the lane has lost every route to are flushed (R273), and their claims count as not acknowledged
(log 82). -/
def Chan.flushUnreachable (c : Chan) : Chan :=
  if c.routed then
    { c with frt := { c.frt with acked := c.frt.acked.filter (fun n => n == c.node || !c.noRoute n) } }.flushBoth (fun f => match f.dest with
      | some n => n != c.node && c.noRoute n
      | none => false)
  else c

/-- The words of a LINK_DOWN: key and port of both ends (Table 10-2; log 30). -/
def linkWords (key : Nat) (p : Port) (other : Nat × Port) : List Word :=
  [w32 (key + portCode p * 2 ^ 8 + other.1 * 2 ^ 16 + portCode other.2 * 2 ^ 24)]

/-- A port found down (R265): LINK_DOWN on the other port, the link out of the hop counts, queues flushed. -/
def Chan.portLost (c : Chan) (p : Port) : Chan :=
  let st := c.frt.port p
  if !st.up then c
  else
    let c := c.flushPort p
    let c := match st.nbr with
      | some n =>
        let c := c.emit .linkDown (portCode p) [w32 n.1]
        let c := { c with frt := { c.frt with lostLinks := linkPair (endOf c.nodeKey p) (endOf n.1 n.2) :: c.frt.lostLinks } }
        c.sendFrame 3 0x0A none (wordsBytes (linkWords c.nodeKey p n)) [p.other]
      | none => c.emit .linkDown (portCode p) []
    let c := { c with frt := c.frt.putPort p { st with
      up := false, nbr := none, wrong := false, fell := true, quiet := 0, lively := 0, near := none, named := false } }
    c.flushUnreachable

/-- SFP_INSERTED (R38): a transceiver of a supported code within 1.0 W is powered; any other is left unpowered and
recorded. -/
def execSfpInserted (ch : Ch) (port : Port) (code : Optics) (mw : Nat) (s : State) : Host.Outcome State Fault Refusal :=
  let good := code != .otherCode && decide (mw ≤ 1000)
  .next (s.onLive ch (fun c =>
    if good then { c with frt := c.frt.putPort port { c.frt.port port with optics := true } }
    else
      let c := c.portLost port
      { c with frt := c.frt.putPort port { c.frt.port port with optics := false } }.emit .unsupportedOptics (portCode port)
        []))

/-- SFP_REMOVED (R38): a link loss on that plane. -/
def execSfpRemoved (ch : Ch) (port : Port) (s : State) : Host.Outcome State Fault Refusal :=
  .next (s.onLive ch (fun c =>
    let c := c.portLost port
    { c with frt := c.frt.putPort port { c.frt.port port with optics := false } }))

/-- PORT_DOWN (R265): three dynamic segments ended without a valid frame. -/
def execPortDown (ch : Ch) (port : Port) (s : State) : Host.Outcome State Fault Refusal :=
  .next (s.onLive ch (fun c => if c.laneLive && decide (3 ≤ (c.frt.port port).quiet) then c.portLost port else c))

/-- The neighbour heard on a returning port is another than the description names (R265). -/
def Chan.wrongNeighbour (c : Chan) (p : Port) : Bool :=
  match (c.frt.port p).fell, c.described p, (c.frt.port p).near with
  | true, some k, some n => n != k
  | _, _, _ => false

/-- A port may come up: at once the first time (R243, R249); after it went down with valid frames in three dynamic segments, a
link delay of 12 µs or less, and a HELLO or TIME_STATUS of the neighbour that the description names, if it names one. A
different neighbour heard ends the wait too (R265). -/
def Chan.mayComeUp (c : Chan) (p : Port) : Bool :=
  let st := c.frt.port p
  st.optics && !st.up &&
    (!st.fell ||
      (decide (3 ≤ st.lively) && c.delayOk p && ((c.described p).isNone || st.named || c.wrongNeighbour p)))

/-- PORT_UP (R243, R265, R280): the port comes up without credits; at the first one the node leaves OFF for LISTEN. A wrong
neighbour keeps it out of use and raises TOPO_FAULT, cause 5. -/
def execPortUp (ch : Ch) (port : Port) (s : State) : Host.Outcome State Fault Refusal :=
  .next (s.onLive ch (fun c =>
    if c.laneLive && c.onFabric && c.mayComeUp port then
      let st := c.frt.port port
      let wrong := c.wrongNeighbour port
      let nbr := st.near.map (fun k => (k, port.other))
      let back := match nbr with
        | some n => c.frt.lostLinks.filter (fun l => l != linkPair (endOf c.nodeKey port) (endOf n.1 n.2))
        | none => c.frt.lostLinks
      let c := { c with
        frt := { c.frt.putPort port { st with up := true, wrong := wrong, nbr := nbr, quiet := 0 } with lostLinks := back }
        qm := c.qm.dropCredits port
        sync := if c.sync.st == 0 && !c.sync.dupLatched then c.sync.toListen else c.sync }
      if wrong then c.topologyFault 5 else c
    else c))

/-- LINK_DOWN (R265, R273): relayed ahead of any queued frame, the link out of the hop counts. -/
def execLinkDown (ch : Ch) (f : FrameRx) (s : State) : Host.Outcome State Fault Refusal :=
  .next (s.onLive ch (fun c =>
    let (c, ok) := c.hearRelay ch f 0x0A
    let w := (wordAt (frameWords f) 0).toNat
    let side := fun (k : Nat) => if w.testBit k then Port.y else .x
    if ok then
      { c with
        guard := { c.guard with downAfter := max c.guard.downAfter (f.arrival + 4000) }
        frt := { c.frt with
          lostLinks :=
            (linkPair (endOf (bits w 6 0) (side 8)) (endOf (bits w 22 16) (side 24)) :: c.frt.lostLinks).eraseDups } }.flushUnreachable
    else c))

/-! ### Discovery (R260 to R263) -/

/-- A neighbour half of HELLO word 3. -/
def helloNbr (h : Nat) : Option (Nat × Port) :=
  if h.testBit 15 then some (bits h 6 0, if h.testBit 7 then .y else .x) else none

/-- A HELLO read from its words (Table 10-3). -/
def helloOf (ws : List Word) : Hello :=
  let w2 := (wordAt ws 2).toNat
  let w3 := (wordAt ws 3).toNat
  { key := bits w2 6 0, serial := serialOf ws 0, st := bits w2 10 8, holder := w2.testBit 11, unprog := w2.testBit 12
    split := w2.testBit 13, nbrX := helloNbr (bits w3 15 0), nbrY := helloNbr (bits w3 31 16)
    delayX := bits (wordAt ws 4).toNat 13 0, delayY := bits (wordAt ws 5).toNat 13 0, topology := serialOf ws 6
    claim := wordAt ws 8 }

/-- The port by which a neighbour heard with HOP 0 sends: as its HELLO names this node, else of the other letter (R254,
R260). -/
def Chan.senderPort (c : Chan) (p : Port) (h : Hello) : Port :=
  if (h.nbr p.other).map Prod.fst == some c.nodeKey then p.other
  else if (h.nbr p).map Prod.fst == some c.nodeKey then p
  else p.other

/-- The links that a HELLO newly names come back into the hop counts. -/
def renewedLinks (old : Option Hello) (h : Hello) (lost : List (Nat × Nat)) : List (Nat × Nat) :=
  let names := fun (g : Hello) => [Port.x, Port.y].filterMap (fun p =>
    (g.nbr p).map (fun e => linkPair (endOf g.key p) (endOf e.1 e.2)))
  let before := (old.map names).getD []
  lost.filter (fun l => !((names h).contains l && !before.contains l))

/-- A HELLO entered into the link table: one that changes it ends what discovery had completed (R260). -/
def Frt.enter (f : Frt) (h : Hello) : Frt :=
  let old := f.hellos.find? (fun g => g.key == h.key)
  { f with
    hellos := h :: f.hellos.filter (fun g => g.key != h.key)
    changed := f.changed || old != some h
    stable := if old == some h then f.stable else 0
    complete := f.complete && old == some h
    lostLinks := renewedLinks old h f.lostLinks }

/-- HELLO (R251, R259, R260): relayed in its slot, its serial number compared, the link table updated. -/
def execHello (ch : Ch) (f : FrameRx) (s : State) : Host.Outcome State Fault Refusal :=
  let own := s.factory.serial
  .next (s.onLive ch (fun c =>
    let (c, ok) := c.hear ch f 3
    let h := helloOf (frameWords f)
    if !ok then c
    else
      let c := c.noteSerial own h.key h.serial
      if h.key == c.nodeKey || c.sync.st == 0 then c
      else
        let c := c.relay f
        let c := if f.hop == 0 then
            { c with
              frt := c.frt.putPort f.port { c.frt.port f.port with nbr := some (h.key, c.senderPort f.port h) } }
          else c
        { c with frt := c.frt.enter h, fab := c.fab.noteClaim (h.key / 2) h.key h.claim }))

/-- Every key of the lane: the link table's and the own one. -/
def Chan.laneKeys (c : Chan) : List Nat := c.nodeKey :: (c.frt.hellos.map (fun h => h.key)).filter (fun k => k != c.nodeKey)

/-- The ends of the links of the table: key, port, key, port. -/
def Chan.linkEnds (c : Chan) : List (Nat × Port × Nat × Port) :=
  c.laneKeys.flatMap (fun k => [Port.x, Port.y].filterMap (fun p => (c.nbrOf k p).map (fun n => (k, p, n.1, n.2))))

/-- Every link is known from both ends (R260). -/
def Chan.linksKnown (c : Chan) : Bool := c.linkEnds.all (fun e => c.nbrOf e.2.2.1 e.2.2.2 == some (e.1, e.2.1))

/-- The topology digest (R262). -/
def Chan.topologyDigest (c : Chan) : BitVec 64 :=
  let ls := (c.linkEnds.filter (fun e => decide (e.1 < e.2.2.1))).map (fun e =>
    e.1 * 2 ^ 16 + portCode e.2.1 * 2 ^ 24 + e.2.2.1 + portCode e.2.2.2 * 2 ^ 8)
  crc64 (wordsBytes (w32 c.laneKeys.length :: (sortNat ls).map w32))

/-- A key of the table is beyond 6 hops both ways (R254, R263). -/
def Chan.beyond (c : Chan) : Bool := c.frt.hellos.any (fun h => h.key / 2 != c.node && c.noRoute (h.key / 2))

/-- A link joins two ports of one letter (R263). -/
def Chan.oneLetter (c : Chan) : Bool := c.linkEnds.any (fun e => e.2.1 == e.2.2.2)

/-- The topology digest that this node expects: its image's. -/
def Chan.imageDigest (c : Chan) : Option (BitVec 64) := c.schedule.map (fun sc => sc.topology)

/-- The Owl announces the compiled schedule once every image holder is READY and every I/O node has acknowledged its claim
(R237, R263). -/
def Chan.announce (c : Chan) : Chan :=
  match c.sync.isOwl && !c.sync.compiled && c.sync.switchAt == 0, c.schedule with
  | true, some sc =>
    if sc.imageKeys.all (fun k => c.frt.ready.contains k) && sc.ioNodes.all (fun n => c.frt.acked.contains n) then
      { c with sync := { c.sync with switchAt := (c.sync.cluster + 2) % 2 ^ 32, nextSched := true } }
    else c
  | _, _ => c

/-- DISCOVERY_COMPLETE (R260 to R263): routes and the digest are known; READY is sent, or TOPO_FAULT with its cause. A claimant then
sends its claims (R266; log 82). -/
def execDiscoveryComplete (ch : Ch) (s : State) : Host.Outcome State Fault Refusal :=
  .next (s.onLive ch (fun c =>
    if c.laneOpen && !c.frt.complete && decide (2 ≤ c.frt.stable) && c.sync.st == 4 &&
        c.frt.hellos.all (fun h => h.st == 4) && c.linksKnown then
      let c := { c with frt := { c.frt with complete := true, digest := c.topologyDigest } }
      match c.boot.unprog, c.imageDigest with
      | false, some d =>
        if c.beyond then c.topologyFault 2
        else if c.oneLetter then c.topologyFault 3
        else if !c.sync.duplicated.isEmpty then c.topologyFault 6
        else if c.frt.digest != d then c.topologyFault 1
        else
          let c := c.sendManagement 0x0B
            (wordsBytes [w32 c.nodeKey, c.frt.digest.setWidth 32, (c.frt.digest >>> 32).setWidth 32])
          let c := { c with frt := { c.frt with ready := (c.nodeKey :: c.frt.ready).eraseDups } }.announce
          if c.holdsClaim then c.sendClaim ch else c
      | _, _ => c
    else c))

/-- READY (R263): a node whose discovered digest is its image's. -/
def execReady (ch : Ch) (f : FrameRx) (s : State) : Host.Outcome State Fault Refusal :=
  .next (s.onLive ch (fun c =>
    let (c, ok) := c.hearRelay ch f 0x0B
    if ok then
      { c with
        frt := { c.frt with ready := (bits (wordAt (frameWords f) 0).toNat 6 0 :: c.frt.ready).eraseDups } }.announce
    else c))

/-- TOPO_FAULT (R263): relayed. It asks nothing of the nodes that hear it; the lane stays on the start-up schedule for want
of the sender's READY. -/
def execTopoFault (ch : Ch) (f : FrameRx) (s : State) : Host.Outcome State Fault Refusal :=
  .next (s.onLive ch (fun c => (c.hearRelay ch f 0x0C).1))

/-! ### Frames of the dynamic segment (R239, R244, R245, R256, R279) -/

/-- TIME_STATUS (R245): an eligible node in SYNC. -/
def execTimeStatus (ch : Ch) (f : FrameRx) (s : State) : Host.Outcome State Fault Refusal :=
  .next (s.onLive ch (fun c =>
    let (c, ok) := c.hearRelay ch f 4
    let ws := frameWords f
    if ok && (wordAt ws 1).toNat == 4 then
      { c with sync := { c.sync with announced := (bits (wordAt ws 0).toNat 6 0 :: c.sync.announced).eraseDups } }
    else c))

/-- DELAY_REQ (R239): answered on its port with the time it arrived. -/
def execDelayReq (ch : Ch) (f : FrameRx) (s : State) : Host.Outcome State Fault Refusal :=
  .next (s.onLive ch (fun c =>
    let (c, ok) := c.hear ch f 5
    if ok && f.origin != c.nodeKey then
      c.sendFrame 3 6 (some (f.origin / 2)) (wordsBytes [wordAt (frameWords f) 0, w32 f.arrival, 0]) [f.port]
    else c))

/-- A port's link delay set; above 12 µs it counts as a link fault and leaves the port unused for time (R239). -/
def Chan.setDelay (c : Chan) (p : Port) (ns : Nat) : Chan :=
  let y := c.sync
  let c := { c with sync := match p with
    | .x => { y with delayX := some ns }
    | .y => { y with delayY := some ns } }
  if 12000 < ns then c.emit .linkFault (portCode p) [w32 ns] else c

/-- DELAY_RESP (R239): half the round trip, each part of which lies within a basic cycle. -/
def execDelayResp (ch : Ch) (f : FrameRx) (s : State) : Host.Outcome State Fault Refusal :=
  .next (s.onLive ch (fun c =>
    let (c, ok) := c.hear ch f 6
    let ws := frameWords f
    let cyc := 1000000
    let there := (f.arrival + cyc - (wordAt ws 0).toNat % cyc) % cyc
    let stay := ((wordAt ws 2).toNat + cyc - (wordAt ws 1).toNat % cyc) % cyc
    if ok && f.origin != c.nodeKey && c.addressed f then c.setDelay f.port (((there + cyc - stay) % cyc) / 2) else c))

/-- REINT_NOTICE (R244): the key of a node that has drifted. -/
def execReintNotice (ch : Ch) (f : FrameRx) (s : State) : Host.Outcome State Fault Refusal :=
  .next (s.onLive ch (fun c =>
    let (c, ok) := c.hearRelay ch f 7
    if ok then
      { c with fab := { c.fab with notices := c.fab.notices ++ [bits (wordAt (frameWords f) 0).toNat 6 0] } }
    else c))

/-- The claim of an I/O node sent again: of one that has announced itself and has acknowledged none, to the unit that holds the
claim (R421: a claim is applied again by the claimant; log 82). -/
def Chan.claimAnew (c : Chan) (me : Ch) (node : Nat) : Chan :=
  if c.holdsClaim && c.frt.complete && !c.frt.acked.contains node then
    match c.ioBlocks.lookup node with
    | some block => c.sendClaimTo me node block
    | none => c
  else c

/-- IDENTITY (R251, R256): an unprogrammed module's serial number and node. -/
def execIdentity (ch : Ch) (f : FrameRx) (s : State) : Host.Outcome State Fault Refusal :=
  let own := s.factory.serial
  .next (s.onLive ch (fun c =>
    let (c, ok) := c.hear ch f 8
    let ws := frameWords f
    if !ok then c
    else
      let c := c.noteSerial own f.origin (serialOf ws 0)
      if f.origin == c.nodeKey || c.sync.st == 0 then c
      else
        let c := c.relay f
        let node := bits (wordAt ws 2).toNat 5 0
        let c := { c with fab := { c.fab with identities := ((serialOf ws 0, node) :: c.fab.identities).eraseDups } }
        c.claimAnew ch node))

/-- The cells of the frames of a log that were sent with an LSEQ at or after NEXT (R279). -/
def cellsOut (next : Nat) (log : List (Nat × Nat)) : List (Nat × Nat) :=
  log.filter (fun e => decide ((e.1 + 65536 - next) % 65536 < 32768))

/-- CREDIT (R279, R280): the credits of every class and level of the port. -/
def execCredit (ch : Ch) (f : FrameRx) (s : State) : Host.Outcome State Fault Refusal :=
  .next (s.onLive ch (fun c =>
    let (c, ok) := c.hear ch f 9
    let ws := frameWords f
    if ok then
      { c with
        qm := (List.range 28).foldl (fun (q : Qm) k =>
          let w := (wordAt ws k).toNat
          let old := (q.credit f.port (k / 7) (k % 7)).getD
            { port := f.port, cls := k / 7, level := k % 7, cells := 0, lseq := 0, known := false, log := [] }
          let log := cellsOut (w / 65536) old.log
          q.putCredit { old with cells := w % 65536 - (log.map Prod.snd).sum, known := true, log := log }) c.qm }
    else c))

/-! ### Claims (R266, R267, R421) -/

/-- The digest of a claim's content, which the channels exchange. -/
def claimDigest (k : ClaimBlock) : BitVec 256 := sha256Vec k.content

/-- The certificate verifies against the Sahken device CA key of the running firmware (R267). -/
def Chan.certOk (c : Chan) (k : ClaimBlock) : Bool :=
  let ca := Config.deviceCa c.boot.fwDigest
  rsaVerify ca.1 ca.2 (sha256 k.certified) k.certSignature

/-- The signature verifies under the certified key (R266, R267). -/
def claimSigned (k : ClaimBlock) : Bool := rsaVerify k.modulus k.exponent (sha256 k.signed) k.signature

/-- Debounce settings and output timeouts of a claim in force (R421). -/
def claimParams (k : ClaimBlock) (act : List (Nat × Word)) : List (Nat × Word) :=
  let act := k.debounce.foldl (fun a e => tabPut a (0x0D10 + e.1) (w32 e.2)) act
  k.timeouts.foldl (fun a e =>
    let n := 0x0E10 + e.1
    tabPut a n (((tabGet a n).getD (w32 (paramReset n)) &&& 0xFFFFFFF0) ||| w32 (e.2 % 16))) act

/-- A held claim applied by an I/O node: its windows, connections, debounce and timeouts in force. -/
def Chan.applyClaim (c : Chan) (k : ClaimBlock) : Chan :=
  let sc : Schedule :=
    { windows := k.windows, rxWindows := k.rxWindows, topology := k.topology, keys := [], imageKeys := [], ioNodes := []
      nbrX := none, nbrY := none }
  let c := { c with
    image := c.image.map (fun (im : Image) => { im with conns := k.conns, schedule := some sc })
    params := { c.params with active := claimParams k c.params.active }
    fab := { c.fab with claimed := true, claimant := k.claimant, claim := k.number, rx := [], cons := [] } }
  c.emit .claimApplied k.claimant [k.number]

/-- CLAIM_ACK of the claim in force. -/
def Chan.ackClaim (c : Chan) (k : ClaimBlock) : Chan := c.sendManagement 0x0E (wordsBytes [w32 c.nodeKey, k.number])

/-- The node applies a claim when every channel in its vote holds one of the same content, and sends CLAIM_ACK (R267). One that it
runs under already it acknowledges again (log 82). -/
def Chan.tryClaim (c : Chan) (me : Ch) : Chan :=
  match c.fab.held with
  | none => c
  | some k =>
    let same := fun (x : Ch) => x == me || (c.fab.digests.get x).map (fun e => e.2.2) == some (claimDigest k)
    if c.voters.all same && c.votes me then
      (if c.fab.claimed && c.fab.claim == k.number then c else c.applyClaim k).ackClaim k
    else c

/-- A channel of an I/O node accepts a claim (R180, R267): certificate and signature verify, the topology digest is the one it has
discovered, and the claim number is at least the one it holds. -/
def Chan.acceptsClaim (c : Chan) (k : ClaimBlock) : Bool :=
  let least := match c.fab.held with
    | some h => h.number
    | none => 0
  c.boot.unprog && !c.split && c.certOk k && claimSigned k && c.frt.complete && k.topology == c.frt.digest &&
    decide (least.toNat ≤ k.number.toNat)

/-- A claim accepted: held, its digest sent to the other channels, and applied where every channel of the vote holds it. -/
def Chan.holdClaim (c : Chan) (me : Ch) (k : ClaimBlock) : Chan :=
  let d := claimDigest k
  let c := { c with
    fab := { c.fab with held := some k, digests := c.fab.digests.set me (some (k.number, k.claimant, d)) } }
  (c.xsendBoth me (.claim k.number k.claimant d)).tryClaim me

/-- A part of a claim kept by its origin and number; the first part of a claim begins anew (R266). -/
def Fab.keepPart (f : Fab) (origin part : Nat) (bytes : List Byte) : Fab :=
  { f with
    claimParts := (origin, part, bytes) ::
      f.claimParts.filter (fun e => !(e.1 == origin && (part == 0 || e.2.1 == part))) }

/-- The bytes of an origin's claim once all its parts are there. -/
def Fab.claimText (f : Fab) (origin parts : Nat) : Option (List Byte) :=
  let found := (List.range parts).map (fun k => f.claimParts.find? (fun e => e.1 == origin && e.2.1 == k))
  if parts != 0 && found.all (fun x => x.isSome) then some (found.flatMap (fun x => (x.map (fun e => e.2.2)).getD []))
  else none

/-- CLAIM (R266, R267): a part of a claim for this node; with the last one the claim is accepted or ignored. -/
def execClaim (ch : Ch) (f : FrameRx) (s : State) : Host.Outcome State Fault Refusal :=
  .next (s.onLive ch (fun c =>
    let (c, ok) := c.hearRelay ch f 0x0D
    if ok && c.addressed f then
      let w := (wordAt (frameWords f) 0).toNat
      let fab := c.fab.keepPart f.origin (bits w 15 0) (f.payload.drop 4)
      match fab.claimText f.origin (bits w 31 16) with
      | none => { c with fab := fab }
      | some bytes =>
        let c := { c with fab := { fab with claimParts := fab.claimParts.filter (fun e => e.1 != f.origin) } }
        match Config.claimOf ch bytes with
        | some k => if c.acceptsClaim k then c.holdClaim ch k else c
        | none => c
    else c))

/-- CLAIM_TRANSFER (R267): the digest of the claim that another channel holds. -/
def execClaimTransfer (ch frm : Ch) (l : Link) (number : Word) (claimant : Nat) (digest : BitVec 256) (s : State) :
    Host.Outcome State Fault Refusal :=
  .next (s.taken ch frm l (.claim number claimant digest) (fun c =>
    { c with fab := { c.fab with digests := c.fab.digests.set frm (some (number, claimant, digest)) } }.tryClaim ch))

/-- CLAIM_ACK (R263): an I/O node runs under its claim. -/
def execClaimAck (ch : Ch) (f : FrameRx) (s : State) : Host.Outcome State Fault Refusal :=
  .next (s.onLive ch (fun c =>
    let (c, ok) := c.hearRelay ch f 0x0E
    if ok then { c with frt := { c.frt with acked := (f.origin / 2 :: c.frt.acked).eraseDups } }.announce else c))

/-! ### The queue pool's link words (R278) -/

/-- A frame belongs to a reserve range as it waits on a port. -/
def Chan.inRange (c : Chan) (p : Port) (cls : Nat) (range : Option (Port × Nat)) (f : Frame) : Bool :=
  f.cls == cls && c.levelOf p f == range

/-- QUEUE_LINK_ERROR (R278): every queue of the range flushed, its free list to be rebuilt. -/
def execQueueLinkError (ch : Ch) (cls : Nat) (range : Option (Port × Nat)) (s : State) : Host.Outcome State Fault Refusal :=
  .next (s.onLive ch (fun c =>
    if (c.qm.range cls range).isSome then
      let c := (c.flushWhere .x (c.inRange .x cls range)).flushWhere .y (c.inRange .y cls range)
      { c with
        qm := { c.qm with
          eccUe := inc 8 c.qm.eccUe
          ranges := c.qm.ranges.map (fun (r : Range) =>
            if r.cls == cls && r.level == range then { r with rebuilding := true, free := 0 } else r) } }
    else c))

/-- The size of a range in cells (QM.RESERVE, R275, R290). -/
def Chan.rangeSize (c : Chan) (cls : Nat) (range : Option (Port × Nat)) : Nat :=
  let w := c.stat (0x1600 + cls)
  match range with
  | none => bits w 31 16
  | some _ => bits w 15 0

/-- QUEUE_RANGE_REBUILD (R278): the sweep is complete; counted and recorded. -/
def execQueueRangeRebuild (ch : Ch) (cls : Nat) (range : Option (Port × Nat)) (s : State) :
    Host.Outcome State Fault Refusal :=
  .next (s.onLive ch (fun c =>
    match c.qm.range cls range with
    | some r =>
      if r.rebuilding then
        { c with
          qm := { c.qm with
            rebuilds := inc 8 c.qm.rebuilds
            ranges := c.qm.ranges.map (fun (r : Range) =>
              if r.cls == cls && r.level == range then { r with rebuilding := false, free := c.rangeSize cls range }
              else r) } }.emit .rangeRebuild cls []
      else c
    | none => c))

end Sys2Proof.Machine
end

