-- ==== Sys2Proof/Machine/Startup.lean ====
section
/-! DEFINITION. Start-up, phase by phase (spec/16_startup_images_identity.md R402 to R410, R421 to R423), the switches at P1
(spec/02 R44 to R48), the comparator tests (spec/06 R170, R171), SPLIT mode (R180), the role after the listen (spec/11
R295 to R297), and the flash write of a load (R411, R412). -/

namespace Sys2Proof.Machine

open Sys2Proof

/-! ### Words of the status registers that a stop names -/

/-- SEAL.FAULT without its count (Table 02-11). -/
def SealState.faultWord (q : SealState) : Word := w32 (bitAt q.range 0 + bitAt q.combo 1 + bitAt q.changed 2)

/-- VOTE.INJECT (Table 06-17). -/
def Vote.injectWord (v : Vote) : Word :=
  w32 (v.injWord % 8192 + v.injPath % 4 * 2 ^ 20 + v.injTest % 16 * 2 ^ 24 + bitAt v.injDone 30 + bitAt v.injFail 31)

/-! ### P0 and P1 -/

/-- A phase entered; from P2 on the phase reached is kept for the next START marker (R364). -/
def Chan.enterPhase (c : Chan) (k : Nat) : Chan :=
  { c with boot := { c.boot with phase := k, entered := c.clock }, nv := if c.recd.started then { c.nv with lastPhase := k } else c.nv }

/-- The hardware fill of P0: all SRAM, and on an HX-T3-1024 all DRAM, whose marks then read 1 (R326, R328). -/
def Mem.hardwareFill (m : Mem) (v : Variant) : Mem :=
  { m with
    data := [], check := [], tables := false
    marks := match v with
      | .hx1024 => List.range 128
      | .hx4096 => [] }

/-- P0 ends: the core is released, or the fill met a fault (R326). -/
def Chan.endP0 (c : Chan) (v : Variant) (r : PhaseReport) : Chan :=
  match r.fail with
  | some (0x0201, a) => c.stop 0x0201 a
  | _ => { c with mem := c.mem.hardwareFill v, boot := { c.boot with p0Ms := r.ms } }.enterPhase 1

/-- The switches as read at P1 (R47, R50). -/
def SealState.read (q : SealState) (pos : Word) : SealState :=
  let pos := pos &&& 0xFFFF
  { q with
    bootPos := pos, livePos := pos
    range := bits pos.toNat 7 6 != 0 || bits pos.toNat 15 14 != 0
    combo := pos.getLsbD 9 && (pos.getLsbD 10 || pos.getLsbD 11) }

/-- The static parameters taken from the valid copy of higher count (R435). -/
def Chan.loadStatic (c : Chan) : Chan :=
  match cfgInForce c.nv.cfg0 c.nv.cfg1 with
  | some k => { c with params := { c.params with static := k.vals, cfgDefault := false, cfgCount := k.count } }
  | none =>
    { c with params := { c.params with static := [], cfgDefault := true, cfgCount := 0 } }.emit .cfgDefault 0 []

/-- A stop in P1: the recorder is started first, but for a fault of the MRAM interface, which leaves no record (R364,
R404). -/
def Chan.stopP1 (c : Chan) (me : Ch) (code : Nat) (detail : Word) : Chan :=
  if code == 0x0103 && detail == 4 then { c with boot := { c.boot with stopped := true, code := code, detail := detail } }
  else (c.startRecorder me).stop code detail

/-- P1 ends (R47, R402, R435). -/
def Chan.endP1 (c : Chan) (me : Ch) (r : PhaseReport) : Chan :=
  match r.fail with
  | some (0x0103, d) => c.stopP1 me 0x0103 d
  | _ =>
    let c := { c with seals := c.seals.read r.sealPos }.loadStatic
    if c.seals.range then c.stopP1 me 0x0101 c.seals.faultWord
    else if c.seals.combo then c.stopP1 me 0x0102 c.seals.faultWord
    else c.enterPhase 2

/-! ### The host hub's address (R378) -/

/-- HOST.IP, MASK, GW and PORT as a channel read them at P1. -/
def Chan.hostParams (c : Chan) : List Nat := [c.stat 0x1A00, c.stat 0x1A01, c.stat 0x1A02, c.stat 0x1A03]

/-- A channel has read its HOST parameters. -/
def Chan.hostKnown (c : Chan) : Bool := c.live && (decide (2 ≤ c.boot.phase) || (c.boot.phase == 1 && c.boot.stopped))

/-- What the channels report to the hub. -/
def State.hostReports (s : State) : List (List Nat) :=
  (s.chans.toList.filter Chan.hostKnown).map Chan.hostParams

/-- The address, mask, gateway and port that at least two channels report. -/
def State.hostAddress (s : State) : Option (List Nat) :=
  s.hostReports.find? (fun p => decide (2 ≤ (s.hostReports.filter (fun q => q == p)).length))

/-- With all reports in and no two alike each channel records a host-address fault. -/
def State.judgeAddress (s : State) : State :=
  if s.hostReports.length == 3 && s.hostAddress.isNone then s.allLive (fun _ c => c.emit .hostAddr 0 []) else s

/-! ### P2 and P3 -/

/-- The reserve ranges of the queue pool (R275): per class an origin reserve and seven receive levels for each port. -/
def Chan.buildRanges (c : Chan) : List Range :=
  (List.range 4).flatMap (fun k =>
    let levels := [Port.x, Port.y].flatMap (fun p => (List.range 7).map (fun l => some (p, l)))
    (none :: levels).map (fun v => { cls := k, level := v, free := c.rangeSize k v, rebuilding := false }))

/-- The boot code's fill of DRAM, 200 regions (R327), and its page tables (R319). -/
def Mem.bootFill (m : Mem) (v : Variant) : Mem :=
  match v with
  | .hx4096 => { m with marks := List.range 200, tables := true }
  | .hx1024 => { m with tables := true }

/-- Key slots that fail their CRC are recorded (R416). -/
def Chan.noteKeySlots (c : Chan) : Chan :=
  c.nv.keys.zipIdx.foldl (fun c k => if k.1.crcOk then c else c.emit .keySlotBad k.2 []) c

/-- P2 ends: DRAM filled, START appended, factory calibration checked, queue pool built (R327, R364, R422). -/
def Chan.endP2 (c : Chan) (me : Ch) (v : Variant) (r : PhaseReport) : Chan :=
  match r.fail with
  | some (0x0203, d) => c.stop 0x0203 d
  | _ =>
    let c := { c with mem := c.mem.bootFill v, qm := { c.qm with ranges := c.buildRanges } }.startRecorder me
    let c := { c with cal := { c.cal with factOk := c.nv.factoryCalOk } }
    if c.nv.factoryCalOk then (c.enterPhase 3).noteKeySlots else c.stop 0x0303 0

/-- The firmware of a slot runs (R409, R426). -/
def Chan.runFirmware (c : Chan) (slot : Nat) (fallback : Bool) : Chan :=
  match (c.nv.fw slot).cont with
  | none => c
  | some k =>
    let c := { c with
      boot :=
        { c.boot with
          fwSlot := some slot, fwFallback := fallback, fwVersion := k.version, fwApi := k.api, libMajor := k.libMajor
          libMinor := k.libMinor, fwDigest := k.digest } }
    if fallback then c.emit .fwFallback slot [] else c

/-- P4 begins: a TEST transfer to each partner (R170); skipped in SPLIT mode (R180). -/
def Chan.beginTests (c : Chan) (me : Ch) : Chan :=
  if c.split then c.enterPhase 5
  else
    let c := c.enterPhase 4
    { c with boot := { c.boot with testSets := c.boot.testSets.set me (some testPattern) } }.xsendBoth me (.test testPattern)

/-! ### P5 (R410, R415, R421, R423) -/

/-- The module runs unprogrammed: both application slots EMPTY, or SW3-3 ON at P1. -/
def Chan.unprogrammed (c : Chan) : Bool := c.keyEnrol || (c.nv.app0.marker == 0 && c.nv.app1.marker == 0)

/-- User calibration taken (R423). -/
def Chan.takeCal (c : Chan) : Chan :=
  match calInForce c.nv.cal0 c.nv.cal1 with
  | some k => { c with cal := c.cal.take k }
  | none =>
    { c with cal := { c.cal.take (CalCopy.plain 0) with userDefault := true } }.emit .calDefault 0 []

/-- This channel's configuration digest (R419): the stored static parameters that change vital state, in number order, then
the key slots as stored. -/
def Nv.cfgDigest (v : Nv) : BitVec 256 :=
  let vals := ((cfgInForce v.cfg0 v.cfg1).map (fun k => k.vals)).getD []
  let nums := [0x0500, 0x0806, 0x0C03, 0x1600, 0x1601, 0x1602, 0x1603, 0x1D00]
  let stored := nums.map (fun n => (tabGet vals n).getD (w32 (paramReset n)))
  sha256Vec (wordsBytes stored ++ v.keys.flatMap Config.keySlotImage)

/-- The agreement set's content (R404). -/
def Chan.agreeSet (c : Chan) (me : Ch) : AgreeSet :=
  { ch := me, fw := c.boot.fwDigest, app := c.boot.appDigest, cfg := c.boot.cfgDigest, sealPos := c.seals.bootPos
    setDigest := c.tiles.digest }

/-- P6 begins: agreement set and gate counter records to both partners (R222, R404). -/
def Chan.beginAgreement (c : Chan) (me : Ch) : Chan :=
  let c := { c.enterPhase 6 with boot := { (c.enterPhase 6).boot with cfgDigest := c.nv.cfgDigest } }
  let set := c.agreeSet me
  let records := c.nv.gateRecords
  let c := { c with
    boot :=
      { c.boot with agree := c.boot.agree.set me (some set), counters := c.boot.counters.set me (some records) } }
  ((c.xsendBoth me (.vote (.agreement set))).xsendBoth me (.counters records)).settleCounters

/-- An image taken as the running one, everything at its initial values (R77, R79, R80, R136). -/
def Chan.runImage (c : Chan) (v : Variant) (im : Image) : Chan :=
  let c := { c with image := some im, tiles := { c.tiles with digest := im.setDigest } }
  c.startImage v

/-- P5 skipped for unprogrammed mode, with the firmware's built-in I/O program (R421). -/
def Chan.startUnprogrammed (c : Chan) (me : Ch) (v : Variant) : Chan :=
  let im := Config.builtInImage c.boot.fwDigest
  let c := { c with image := some im, boot := { c.boot with unprog := true } }
  (c.startImage v).beginAgreement me

/-- After P4, or P3 in SPLIT mode: P5, or what replaces it. -/
def Chan.toP5 (c : Chan) (me : Ch) (v : Variant) : Chan := if c.unprogrammed then c.startUnprogrammed me v else c.enterPhase 5

/-- P3 ends: the firmware runs, or no slot serves (R409, R415). -/
def Chan.endP3 (c : Chan) (me : Ch) (v : Variant) (hwrev : Nat) : Chan :=
  match c.nv.fwChoice hwrev with
  | some (k, fb) =>
    let c := (c.runFirmware k fb).beginTests me
    if c.split then c.toP5 me v else c
  | none => if c.nv.fwAnySigned then c.stop 0x0302 (w32 hwrev) else c.stop 0x0301 (w32 c.nv.fwBitmap)

/-- P5 ends: the application container passes every check and its image runs, or start-up stops (R410, R415). -/
def Chan.endP5 (c : Chan) (me : Ch) (v : Variant) : Chan :=
  match takenSlot c.nv.app0 c.nv.app1 with
  | none => c.stop 0x0501 0
  | some n =>
    match (c.nv.app n).cont with
    | none => c.stop 0x0501 0
    | some k =>
      match c.appFault me v k, k.image with
      | none, some im =>
        let c := { c with boot := { c.boot with appSlot := some n, appDigest := k.digest } }
        ((c.runImage v im).takeCal).beginAgreement me
      | some (code, d), _ => c.stop code (w32 d)
      | none, none => c.stop 0x0501 0

/-! ### P6 (R404 to R406, R293, R297) -/

/-- The channel waits for its lane: its image carries a fabric schedule (R248, R406; unprogrammed mode does not wait, log
46). -/
def Chan.needsLane (c : Chan) : Bool :=
  !c.boot.unprog &&
    (match c.image with
    | some im => im.schedule.isSome
    | none => false)

/-- The alignment of R248: the lane in SYNC, and the three lanes' cluster cycle starts within 20 µs. -/
def Chan.aligned (c : Chan) (skew : Nat) : Bool := !c.needsLane || (c.sync.st == 4 && decide (skew ≤ 200))

/-- The listen is skipped: no fabric schedule, unprogrammed, or SPLIT mode, where no partner link runs (R180, R406). -/
def Chan.listenSkipped (c : Chan) : Bool := c.split || !c.needsLane

/-- The channels whose value is not the majority's: one bit each, all three where no two agree (R405). -/
def minority {α : Type} [BEq α] (a b d : α) : BitVec 3 :=
  if a == b && b == d then 0
  else if a == b then 4
  else if a == d then 2
  else if b == d then 1
  else 7

/-- The first digest that differs in the three sets: its code and the channels outside the majority (R405). -/
def digestFault (a b d : AgreeSet) : Option (Nat × BitVec 3) :=
  [(0x0601, minority a.fw b.fw d.fw), (0x0602, minority a.app b.app d.app), (0x0603, minority a.cfg b.cfg d.cfg),
    (0x0608, minority a.setDigest b.setDigest d.setDigest)].find? (fun e => e.2 != 0)

/-- The decision on three agreement sets (R405). -/
def Chan.judgeAgreement (c : Chan) (a b d : AgreeSet) : Chan :=
  match digestFault a b d with
  | some (code, who) => c.stop code (who.setWidth 32)
  | none =>
    let who := minority a.sealPos b.sealPos d.sealPos
    if who == 7 then c.stop 0x0604 7 else { c with boot := { c.boot with agreed := true, sealOut := who } }

/-- AGREEMENT_DECISION (R405). -/
def execAgreementDecision (ch : Ch) (s : State) : Host.Outcome State Fault Refusal :=
  .next (s.onLive ch (fun c =>
    if c.starting 6 && !c.split && !c.boot.agreed then
      match c.boot.agree with
      | ⟨some a, some b, some d⟩ => c.judgeAgreement a b d
      | _ => c
    else c))

/-- The first channel whose agreement set has not come. -/
def Chan.silentChannel (c : Chan) : Option Ch := Ch.all.find? (fun x => (c.boot.agree.get x).isNone)

/-- A time since the entry to the phase has passed at `ms` milliseconds after P0. -/
def Chan.phaseFor (c : Chan) (us ms : Nat) : Bool := decide (c.boot.entered + us ≤ ms * 1000)

/-- AGREEMENT_TIMEOUT (R404), at `ms` milliseconds after P0: 10 s at P6 without a partner's agreement set. -/
def execAgreementTimeout (ch : Ch) (ms : Nat) (s : State) : Host.Outcome State Fault Refusal :=
  .next (s.onLive ch (fun c =>
    match c.silentChannel with
    | some x => if c.starting 6 && !c.split && c.phaseFor 10000000 ms then c.stop 0x0607 (w32 x.code) else c
    | none => c))

/-- ALIGNMENT_TIMEOUT (R406), at `ms` milliseconds after P0: 60 s after entering P6 the lane has not reached the alignment of
R248. -/
def execAlignmentTimeout (ch : Ch) (skew ms : Nat) (s : State) : Host.Outcome State Fault Refusal :=
  .next (s.onLive ch (fun c =>
    if c.starting 6 && !c.aligned skew && c.phaseFor 60000000 ms then c.stop 0x0606 (w32 skew) else c))

/-- The channel will be in the vote at entry to P7 (R405). -/
def Chan.willVote (c : Chan) (me : Ch) : Bool := !c.boot.sealOut.getLsbD me.code

/-- The active role taken at start-up; a channel kept out of the vote writes no E_SEEN (R296, R297). -/
def Chan.startActive (c : Chan) (me : Ch) : Chan :=
  if c.willVote me then c.enterActive 0
  else { c with part := { c.part with role := 1, claim := c.claimOf ((c.nv.eSeen + 1) % 65536) } }

/-- The role by what was heard (R297). -/
def Chan.decideRole (c : Chan) (me : Ch) : Chan :=
  let standby := { c with part := { c.part with role := 2, claim := 0, since := c.clock } }
  if c.part.heardActive then standby
  else
    match c.part.heardStarting with
    | none => c.startActive me
    | some (e, r) =>
      let first := decide (e < c.nv.eSeen) || (e == c.nv.eSeen && decide (r < c.rank))
      if first then { c with nv := { c.nv with eSeen := max c.nv.eSeen e } }.startActive me else standby

/-- PARTNER_LISTEN_END (R297), at `ms` milliseconds after P0: the 2 s listen of a unit that leaves P6. -/
def execPartnerListenEnd (ch : Ch) (ms : Nat) (s : State) : Host.Outcome State Fault Refusal :=
  .next (s.onLive ch (fun c =>
    if c.starting 6 && c.boot.agreed && !c.boot.listened && !c.listenSkipped && c.phaseFor 2000000 ms then
      { c with boot := { c.boot with listened := true } }.decideRole ch
    else c))

/-! ### Entry to P7 -/

/-- The markers of the slots taken, and commissioning (R363, R409, R410). -/
def Chan.settleFlash (c : Chan) : Chan :=
  let (f0, f1) := settleSlots c.boot.fwSlot c.nv.fw0 c.nv.fw1
  let (a0, a1) := settleSlots c.boot.appSlot c.nv.app0 c.nv.app1
  let base := if c.nv.permBase == 0 && !c.boot.unprog then c.recd.nextSeq else c.nv.permBase
  { c with nv := { c.nv with fw0 := f0, fw1 := f1, app0 := a0, app1 := a1, permBase := base } }

/-- The channels in the vote at entry to P7 (R405): one whose switches differ stays out until the next start-up. -/
def Chan.startVote (c : Chan) (me : Ch) : Chan :=
  if c.split then { c with vote := { c.vote with mode := 4 } }
  else
    let out := c.boot.sealOut
    let c := { c with
      vote :=
        { c.vote with
          inVote := ~~~out, mode := if out == 0 then 1 else 2
          cut :=
            (Ch.all.filter (fun x => x != me && out.getLsbD x.code)).foldl (fun (t : Tri Bool) x => t.set x true) c.vote.cut
          exclCause := if c.willVote me then 0 else causeSeal }
      reint := { c.reint with triesLeft := bits (c.act 0x0C05) 3 0, barred := !c.willVote me } }
    if c.willVote me then c else c.emit .exclusion me.code [0, 0, w32 causeSeal]

/-- Entry to P7 at one channel (R112, R204, R297, R402): the REACT table is computed. -/
def Chan.enterP7 (c : Chan) (me : Ch) (ms : Nat) : Chan :=
  let c := { c.enterPhase 7 with boot := { (c.enterPhase 7).boot with ms := ms } }
  let c := (c.settleFlash.startVote me).computeReact
  if c.split || !c.listenSkipped then c else c.startActive me

/-- Every channel that executes has reached P7 or has stopped. -/
def State.allEntered (s : State) : Bool :=
  s.chans.toList.all (fun c => !c.live || c.boot.stopped || c.boot.phase == 7)

/-- The Hedgehog's one arming by itself: at entry to P7, with two alive lines and no cause (R202). -/
def State.armAtEntry (s : State) : State :=
  let h := s.hedgehog
  if h.tried || h.st != 0 then s
  else if decide (2 ≤ s.aliveCount) && !s.causeStands 0 then { s with hedgehog := { h.arm with tried := true } }
  else { s with hedgehog := { h with tried := s.allEntered } }

/-- P6 ends when agreement, alignment, listen and gate counters are complete (R402). -/
def Chan.p6Done (c : Chan) (skew : Nat) : Bool :=
  (c.split || (c.boot.agreed && Ch.all.all (fun x => (c.boot.counters.get x).isSome))) && c.aligned skew &&
    (c.boot.listened || c.listenSkipped)

/-- Entry to P7. -/
def State.enterP7 (s : State) (ch : Ch) (ms : Nat) : State :=
  let s := s.mod ch (fun c => c.enterP7 ch ms)
  let s := if (s.ch ch).votes ch then s.setAlive ch true else s
  s.armAtEntry

/-- STARTUP_PHASE_COMPLETE (R402): the work of the channel's phase ends; it enters the next, or stops with the code of the
check that failed. P4 ends when the tests with both partners have passed, P6 under `p6Done`; before that nothing happens. -/
def execStartupPhaseComplete (ch : Ch) (r : PhaseReport) (s : State) : Host.Outcome State Fault Refusal :=
  let c := s.ch ch
  let v := s.factory.variant
  if !c.live || c.boot.stopped || c.supply.powerFail then .next s
  else
    let c := { c with clock := max c.clock (r.ms * 1000) }
    match c.boot.phase with
    | 0 => .next (s.put ch (c.endP0 v r))
    | 1 => .next (s.put ch (c.endP1 ch r)).judgeAddress
    | 2 => .next (s.put ch (c.endP2 ch v r))
    | 3 => .next (s.put ch (c.endP3 ch v s.factory.hwrev))
    | 4 => .next (if c.boot.testOk.get ch.next && c.boot.testOk.get ch.prev then s.put ch (c.toP5 ch v) else s)
    | 5 => .next (s.put ch (c.endP5 ch v))
    | 6 => .next (if c.p6Done r.laneSkew then (s.put ch c).enterP7 ch r.ms else s)
    | _ => .next s

/-! ### Comparator tests (R170, R171) -/

/-- The cases of a test on one path (Table 06-4): the word, or the bit, line or field, that each concerns. -/
def testWords (test : Nat) : List Nat :=
  match test with
  | 1 => 0 :: (List.range 8189).map (fun k => k + 3)
  | 2 => List.range 64
  | 3 => List.range 4
  | 4 => List.range 32
  | 7 => List.range 2
  | 9 => List.range 6
  | _ => [0]

/-- Every case of Table 06-4, path by path. -/
def testCases : List TestCase :=
  (List.range 3).flatMap (fun p => (List.range 9).flatMap (fun k =>
    (testWords (k + 1)).map (fun w => { test := k + 1, path := p, word := w })))

/-- A bit of a word of a set inverted. -/
def flipSet (ws : List Word) (word bit : Nat) : List Word := modAt ws word (fun w => w ^^^ w32 (2 ^ bit))

/-- The two sets that a path compares: own with next, own with previous, next with previous. -/
def pathSets (own next prev : List Word) (path : Nat) : List Word × List Word :=
  match path with
  | 0 => (own, next)
  | 1 => (own, prev)
  | _ => (next, prev)

/-- Cut lines as test 9 asserts them: one channel's line alone, or the pair that names one channel; the drive is cut only for a
pair, and only the one it names (R169). -/
def cutCase (k : Nat) : Bool :=
  let whom := Ch.all.getD (k % 3) .a
  let n : Network := default
  let named := fun (n : Network) (frm : Ch) => { n with cut := n.cut.set frm ((n.cut.get frm).set whom true) }
  let n := if k < 3 then named n whom.next else named (named n whom.next) whom.prev
  Ch.all.all (fun x => n.evalDrive x == (decide (3 ≤ k) && x == whom))

/-- The result of a comparison with a set that may be missing, by the result codes of R165. -/
def pathResult (a : List Word) (b : Option (List Word)) : Nat :=
  match b with
  | some b => compareSets a b
  | none => 5

/-- The result that the comparison gives in a case of Table 06-4 is the one required. A transfer whose CRC word or SEQ is not the
one expected is corrupt, and one that has not come is missing (R159, R160). -/
def caseHolds (a b : List Word) (t : TestCase) : Bool :=
  match t.test with
  | 1 =>
    let r := compareSets (flipSet a t.word (if t.word == 0 then 16 else t.word % 32)) b
    r == 1 || r == 2
  | 2 => compareSets (flipSet a (6 + t.word / 32) (t.word % 32)) b == 2
  | 3 => compareSets (modAt a (1 + t.word / 2) (fun w => if t.word % 2 == 0 then w + 1 else w - 1)) b == 3
  | 4 =>
    let l := Link.of 9 0 b
    !(Link.intact { l with crc := l.crc ^^^ w32 (2 ^ t.word) } 9 b)
  | 5 => (Link.of 9 1 b).seq != 0
  | 6 => pathResult a none == 5
  | 7 => compareSets (if t.word == 0 then flipSet a 0 0 else flipSet a 4 16) b == 0
  | 8 => pathResult a (some b) == 0
  | _ => cutCase t.word

/-- The first case of Table 06-4 that does not give the result stated: by the sets, or at a comparator at fault, whose cases `odd`
lists (log 67). -/
def firstOdd (own next prev : List Word) (odd : List TestCase) : Option TestCase :=
  testCases.find? (fun t =>
    let p := pathSets own next prev t.path
    odd.contains t || !caseHolds p.1 p.2 t)

/-- A TEST set in; with both partners' the tests are passed through on the three paths (R170, R171). -/
def Chan.takeTest (c : Chan) (me frm : Ch) (set : List Word) (odd : List TestCase) : Chan :=
  let sets := c.boot.testSets.set frm (some set)
  let c := { c with boot := { c.boot with testSets := sets } }
  match sets.get me, sets.get me.next, sets.get me.prev with
  | some own, some next, some prev =>
    match firstOdd own next prev odd with
    | some t =>
      let c := { c with
        vote := { c.vote with injFail := true, injTest := t.test % 16, injPath := t.path % 4, injWord := t.word % 8192 } }
      c.stop 0x0401 c.vote.injectWord
    | none =>
      { c with
        boot := { c.boot with testOk := (c.boot.testOk.set me.next true).set me.prev true }
        vote := { c.vote with injDone := true } }
  | _, _, _ => c

/-- TEST (R170). -/
def execTest (ch frm : Ch) (l : Link) (set : List Word) (odd : List TestCase) (s : State) :
    Host.Outcome State Fault Refusal :=
  .next (s.taken ch frm l (.test set) (fun c => if c.starting 4 then c.takeTest ch frm set odd else c))

/-- TEST_TIMEOUT (R171), at `ms` milliseconds after P0: 5 s at P4 without a TEST from a partner; DETAIL names it. -/
def execTestTimeout (ch : Ch) (ms : Nat) (s : State) : Host.Outcome State Fault Refusal :=
  .next (s.onLive ch (fun c =>
    match [ch.next, ch.prev].find? (fun x => (c.boot.testSets.get x).isNone) with
    | some x => if c.starting 4 && c.phaseFor 5000000 ms then c.stop 0x0402 (w32 x.code) else c
    | none => c))

/-! ### The flash write of a load (R411, R412) -/

/-- The marker that a load sets: NEXT, or STAGED beside a running image (R412). -/
def Chan.loadMarker (c : Chan) (kind : Nat) : Nat := if kind == 1 || c.boot.unprog then 2 else 4

/-- The container written to the slot that is not RUNNING, its marker set; beside a running image the exchange becomes
STAGED (R143, R412). -/
def Chan.writeFlash (c : Chan) (k : Container) : Chan :=
  let kind := c.load.kind
  let slot : Slot := { marker := c.loadMarker kind, cont := some k }
  let nv := if kind == 1 then c.nv.putFw (freeSlot c.nv.fw0) slot else c.nv.putApp (freeSlot c.nv.app0) slot
  let c := { c with nv := nv, load := default, mem := { c.mem with stagingDamaged := c.mem.stagingDamaged && kind == 1 } }
  if kind == 1 || c.boot.unprog then c
  else
    let seq := (k.image.map (fun g => g.imageSeq)).getD 0
    { c with blocks := { c.blocks with staged := some k, exchSeq := seq, newInsts := [] } }.exchTo 1 0 0 0

/-- FLASH_WRITE (R411): the write that LOAD_END started is complete. -/
def execFlashWrite (ch : Ch) (s : State) : Host.Outcome State Fault Refusal :=
  .next (s.onLive ch (fun c =>
    match c.load.cont, c.load.writing && !c.supply.powerFail with
    | some k, true => c.writeFlash k
    | _, _ => c))

end Sys2Proof.Machine
end

