-- ==== Sys2Proof/Machine/Dma.lean ====
section
/-! DEFINITION. Translation through the page tables, DMA descriptors, their stops and traps, read errors and the flip mask
(spec/12_memory_and_arbiter.md R318 to R329, R335, spec/03_station_model.md R78). -/

namespace Sys2Proof.Machine

open Sys2Proof

/-! ### Traps and protection -/

/-- An engine stopped with its cause (Table 12-19) at an offset. -/
def Chan.stopDma (c : Chan) (e cause offset : Nat) : Chan :=
  { c with
    mem := { c.mem with dma := modAt c.mem.dma e (fun (d : Dma) =>
      { d with busy := true, stopped := true, cause := cause, offset := offset }) } }

/-- The offset an engine's stop leaves (Table 12-6): for a plain descriptor the bytes written, for CHECK byte 0, for FILL
the start of the 1 MiB region being filled. -/
def restartOffset (d : Option Descriptor) (offset : Nat) : Nat :=
  match d with
  | none => offset
  | some d =>
    if d.fill then offset - (d.dst + offset) % 0x100000
    else if d.check then 0
    else offset

/-- The abort or stop that a reader takes; other readers have one of their own, with their command. -/
def Chan.abortReader (c : Chan) (r : Reader) (cause : Nat) : Chan :=
  match r with
  | .core => { c with mem := { c.mem with coreAbort := true } }
  | .atomic _ => { c with mem := { c.mem with coreAbort := true } }
  | .dma e =>
    let d := c.mem.dma.getD e default
    c.stopDma e cause (restartOffset d.desc d.offset)
  | _ => c

/-- A trapped access (R327, R328): recorded; from P2 to P6 start-up stops, in P7 the channel withdraws. -/
def State.trapped (s : State) (ch : Ch) (addr : Nat) : State :=
  let s := s.mod ch (fun c => { c with mem := { c.mem with trap := true } }.emit .initTrap addr [])
  let p := (s.ch ch).boot.phase
  if p == 7 then s.withdraw ch
  else if 2 ≤ p then s.mod ch (fun c => c.stop 0x0202 (w32 addr))
  else s

/-- INIT_TRAP (R327, R328): an access to a DRAM region whose mark is 0. -/
def execInitTrap (ch : Ch) (reader : Reader) (addr : Nat) (s : State) : Host.Outcome State Fault Refusal :=
  let c := s.ch ch
  if c.live && inDram s.factory.variant addr && !c.mem.marked s.factory.variant addr then
    .next ((s.mod ch (fun c => c.abortReader reader 2)).trapped ch addr)
  else .next s

/-- Who may write the tile store (R78): DMA engine 0, the commit port, the resolver-input writer, the scrubber for its two
kinds of write, and the BIST controller through DMA 0 (Table 13-1). -/
def mayWriteTiles : Writer → Bool
  | .dma e => e == 0
  | .resolverCommit => true
  | .rinWriter => true
  | .scrubber => true
  | .bist => true
  | .core _ => false
  | .atomic _ => false
  | .queueManager => false

/-- A write blocked and recorded (R78). -/
def Chan.protectionFault (c : Chan) (addr : Nat) : Chan := c.emit .memProtection addr []

/-- MEMORY_PROTECTION_FAULT (R78). -/
def execMemoryProtectionFault (ch : Ch) (w : Writer) (addr : Nat) (s : State) : Host.Outcome State Fault Refusal :=
  .next (s.onLive ch (fun c => if inTileStore addr && !mayWriteTiles w then c.protectionFault addr else c))

/-! ### Translation (R319, R320) -/

/-- What stops an access: its cause (Table 12-19), the address it met, the lane that delivered no data, and whether a table entry
met was poisoned. -/
structure Halt where
  cause : Nat
  addr : Nat
  lane : Option Nat := none
  poisoned : Bool := false
  deriving DecidableEq, Repr, Inhabited

/-- Descriptors name physical addresses until the boot code has written the page tables, at the end of P2 (DEDUCED, log 48). -/
def Chan.translates (c : Chan) : Bool := decide (3 ≤ c.boot.phase)

/-- The root table of an address space: the area's first nine pages, in the order of the spaces (DESIGN CHOICE, log 48). -/
def rootTable (space : Nat) : Nat := 0x40800000 + 4096 * space

/-- The word at an address. -/
def Chan.wordAt (c : Chan) (me : Ch) (v : Variant) (a : Nat) : Word :=
  w32 ((List.range 4).foldl (fun n k => n + (c.byteAt me v (a + k)).toNat * 2 ^ (8 * k)) 0)

/-- An entry of a page table read (R320): stopped by an unlisted address, a trap, or a lane that delivers no data. -/
def Chan.entryAt (c : Chan) (me : Ch) (v : Variant) (a : Nat) : Except Halt Word :=
  let lanes := (List.range 4).map (fun k => (a + k, c.kindAt me v (c.nv.home (a + k))))
  if !listed v a then .error { cause := 4, addr := a }
  else if !c.mem.marked v a then .error { cause := 2, addr := a }
  else
    match lanes.find? (fun l => laneBad l.2) with
    | some l => .error { cause := 1, addr := a, lane := some l.1, poisoned := lanes.any (fun l => l.2 == .poisoned) }
    | none => .ok (c.wordAt me v (c.nv.home a))

/-- V of an entry. -/
def pteValid (w : Word) : Bool := w.getLsbD 0

/-- R, W or X of a page entry lets an access through (Table 12-2). -/
def pteAllows (w : Word) : Access → Bool
  | .read => w.getLsbD 1
  | .write => w.getLsbD 2
  | .execute => w.getLsbD 3

/-- IO of a page entry. -/
def pteIo (w : Word) : Bool := w.getLsbD 5

/-- A virtual address through the two levels of a space's tables; a DMA engine reaches only pages with IO set (R319, R320). -/
def Chan.walk (c : Chan) (me : Ch) (v : Variant) (space va : Nat) (io : Bool) (acc : Access) : Except Halt Nat :=
  let va := va % 2 ^ 32
  match c.entryAt me v (rootTable space + 4 * (va / 2 ^ 22)) with
  | .error h => .error h
  | .ok root =>
    if !pteValid root then .error { cause := 1, addr := va }
    else
      match c.entryAt me v (4096 * ppn root + 4 * (va / 2 ^ 12 % 1024)) with
      | .error h => .error h
      | .ok page =>
        if pteValid page && pteAllows page acc && (!io || pteIo page) then .ok (4096 * ppn page + va % 4096)
        else .error { cause := 1, addr := va }

/-- A page of DRAM in which an uncorrectable error was found; those of the last second are kept (R334). -/
def Chan.seeUe (c : Chan) (v : Variant) (a : Nat) : Chan :=
  if inDram v a then
    { c with
      mem :=
        { c.mem with
          ueSeen := (pageOf a, c.clock) :: c.mem.ueSeen.filter (fun e => e.1 != pageOf a && decide (c.clock - e.2 ≤ 1000000)) } }
  else c

/-- A lane that delivered no data in a read of `r`, counted and logged (R322). -/
def Chan.lostLane (c : Chan) (me : Ch) (v : Variant) (r : Reader) (a : Nat) : Chan :=
  { c with mem := (c.mem.countUe a).lastErr r a (a % 4) (c.kindAt me v (c.nv.home a)) }.seeUe v a

/-- What a stopped access leaves beside its reader's abort or stop: the lane logged, the trap recorded, and the withdrawal over a
poisoned table entry (R320, R322, R328). -/
def State.halted (s : State) (ch : Ch) (r : Reader) (h : Halt) : State :=
  let s := match h.lane with
    | some a => s.mod ch (fun c => c.lostLane ch s.factory.variant r a)
    | none => s
  if h.cause == 2 then s.trapped ch h.addr
  else if h.poisoned then s.withdraw ch
  else s

/-- Readers whose accesses are translated; every other uses physical addresses (R320). -/
def readsTranslated : Reader → Bool
  | .core => true
  | .atomic _ => true
  | .dma _ => true
  | .resolver _ => false
  | .queueManager => false
  | .checkValue => false
  | .scrubber => false
  | .bist => false

/-- A reader is a DMA engine. -/
def isEngine : Reader → Bool
  | .dma _ => true
  | _ => false

/-- TRANSLATION_FAULT (R319, R320): an access of the core or of an engine at a virtual address of a space is translated; where
the tables do not let it through it stops. -/
def execTranslationFault (ch : Ch) (reader : Reader) (space va : Nat) (acc : Access) (s : State) :
    Host.Outcome State Fault Refusal :=
  let c := s.ch ch
  if c.live && c.translates && decide (space ≤ 8) && readsTranslated reader then
    match c.walk ch s.factory.variant space va (isEngine reader) acc with
    | .ok _ => .next s
    | .error h => .next ((s.mod ch (fun c => c.abortReader reader h.cause)).halted ch reader h)
  else .next s

/-! ### Descriptors (R321, R335) -/

/-- A descriptor that R321 admits. -/
def descOk (d : Descriptor) : Bool := decide (1 ≤ d.len) && decide (d.len ≤ 0x1000000) && decide (d.space ≤ 8)

/-- A part of a descriptor that stays within one page, or before translation one SRAM bank, at source and destination. -/
structure Piece where
  src : Nat
  dst : Nat
  len : Nat
  deriving DecidableEq, Repr, Inhabited

/-- Bytes of the largest piece. -/
def Chan.grain (c : Chan) : Nat := if c.translates then 4096 else 0x40000

/-- The physical address of a descriptor's source or destination. -/
def Chan.descAddr (c : Chan) (me : Ch) (v : Variant) (d : Descriptor) (a : Nat) (acc : Access) : Except Halt Nat :=
  let p := if c.translates then c.walk me v d.space a true acc else .ok a
  match p with
  | .error h => .error h
  | .ok a => if listed v a then .ok a else .error { cause := 4, addr := a }

/-- The piece of a descriptor at an offset, or what stops it there. A FILL descriptor has no source, and no mark stops it
(R327). -/
def Chan.pieceAt (c : Chan) (me : Ch) (v : Variant) (d : Descriptor) (k : Nat) : Except Halt Piece :=
  let g := c.grain
  let n := min (d.len - k) (g - (d.dst + k) % g)
  match c.descAddr me v d (d.dst + k) .write with
  | .error h => .error h
  | .ok dst =>
    if d.fill then .ok ⟨0, dst, n⟩
    else
      match c.descAddr me v d (d.src + k) .read with
      | .error h => .error h
      | .ok src =>
        if !c.mem.marked v dst then .error { cause := 2, addr := dst }
        else if !c.mem.marked v src then .error { cause := 2, addr := src }
        else .ok ⟨src, dst, min n (g - (d.src + k) % g)⟩

/-- The least of a list of numbers. -/
def leastOf : List Nat → Option Nat
  | [] => none
  | a :: t => some (t.foldl min a)

/-- Where a physical address's content is kept; before translation boot code addresses no moved page. -/
def Chan.homeOf (c : Chan) (a : Nat) : Nat := if c.translates then c.nv.home a else a

/-- The first lane from which a piece's source delivers no data: its word's lanes are lost with it (R324). -/
def Chan.lostIn (c : Chan) (me : Ch) (v : Variant) (p : Piece) : Option Nat :=
  let lo := c.homeOf (p.src / 4 * 4)
  (leastOf ((c.mem.check.filter (fun e =>
    within lo ((p.src + p.len + 3) / 4 * 4 - p.src / 4 * 4) e.1 && laneBad (c.kindAt me v e.1))).map (fun e => e.1))).map
    (fun a => a - lo + p.src / 4 * 4)

/-- The correctable lanes that a piece reads, each counted and logged (R322). -/
def Chan.correctedIn (c : Chan) (me : Ch) (v : Variant) (e : Nat) (p : Piece) : Chan :=
  let lo := c.homeOf p.src
  (c.mem.check.filter (fun x => within lo p.len x.1 && c.kindAt me v x.1 == .corrected)).foldl
    (fun c x => c.corrected v (.dma e) (x.1 - lo + p.src)) c

/-- A piece carried out. A write into the tile store is engine 0's alone (R78), and clears the marks of its slots (R82). -/
def Chan.carryPiece (c : Chan) (me : Ch) (v : Variant) (e : Nat) (d : Descriptor) (p : Piece) : Chan :=
  let c := if d.fill then c else c.correctedIn me v e p
  if inTileStore p.dst && !mayWriteTiles (.dma e) then c.protectionFault p.dst
  else
    let c := if inTileStore p.dst then { c with tiles := c.tiles.unmarkRange p.dst p.len } else c
    let dst := c.homeOf p.dst
    if d.fill then c.zeroRange me v dst p.len else c.copyRange me v (c.homeOf p.src) dst p.len

/-- A descriptor carried out from an offset on: the channel after, and what stopped it at which offset. -/
def Chan.carryFrom (me : Ch) (v : Variant) (e : Nat) (d : Descriptor) : Nat → Nat → Chan → Chan × Option (Nat × Halt)
  | 0, _, c => (c, none)
  | n + 1, k, c =>
    if d.len ≤ k then (c, none)
    else
      match c.pieceAt me v d k with
      | .error h => (c, some (k, h))
      | .ok p =>
        match if d.fill then none else c.lostIn me v p with
        | some a =>
          let done := a / 4 * 4 - p.src
          (c.carryPiece me v e d { p with len := done }, some (k + done, { cause := 3, addr := a, lane := some a }))
        | none => Chan.carryFrom me v e d n (k + p.len) (c.carryPiece me v e d p)

/-- More pieces than a descriptor has. -/
def Chan.pieceFuel (c : Chan) (d : Descriptor) : Nat := 2 * (d.len / c.grain) + 4

/-- Physical destinations of a descriptor, piece by piece. -/
def Chan.destinations (c : Chan) (me : Ch) (v : Variant) (d : Descriptor) : Nat → Nat → List Piece
  | 0, _ => []
  | n + 1, k =>
    if d.len ≤ k then []
    else
      match c.pieceAt me v d k with
      | .error _ => []
      | .ok p => p :: c.destinations me v d n (k + p.len)

/-- A page that one of the pieces covers. -/
def coversPage (ps : List Piece) (a : Nat) : Bool := ps.any (fun p => decide (p.dst ≤ a) && decide (a + 4096 ≤ p.dst + p.len))

/-- The regions that a FILL descriptor covers whole (R327). -/
def Chan.filledRegions (c : Chan) (me : Ch) (v : Variant) (d : Descriptor) : List Nat :=
  let ps := c.destinations me v d (c.pieceFuel d) 0
  ((ps.filter (fun p => inDram v p.dst)).map (fun p => regionOf p.dst)).eraseDups.filter (fun r =>
    (List.range 256).all (fun k => coversPage ps (0x40000000 + r * 0x100000 + 4096 * k)))

/-- The running value of an algorithm of the general check-value unit over bytes (R258). -/
def checkValue (alg : Nat) (bs : List Byte) : BitVec 256 :=
  match alg with
  | 0 => (crc32c bs).setWidth 256
  | 1 => (crc64 bs).setWidth 256
  | _ => sha256Vec bs

/-- A CHECK descriptor that streams through the engine's context of the general unit; one into the tile store uses the tile unit
(R321). -/
def Chan.checksGeneral (c : Chan) (me : Ch) (v : Variant) (d : Descriptor) : Bool :=
  d.check && !((c.destinations me v d 1 0).any (fun p => inTileStore p.dst))

/-- The context of an engine over the bytes that have streamed through it (R258, R321). -/
def Chan.checkContext (c : Chan) (e : Nat) (bs : List Byte) : Chan :=
  { c with
    qm := { c.qm with ctxs := modAt c.qm.ctxs (9 + e) (fun x =>
      (false, x.2.1, bs.length % 2 ^ 24, checkValue x.2.1 bs)) } }

/-- The bytes of a descriptor's destination. -/
def Chan.destinationBytes (c : Chan) (me : Ch) (v : Variant) (d : Descriptor) : List Byte :=
  (c.destinations me v d (c.pieceFuel d) 0).flatMap (fun p => c.bytesAt me v (c.homeOf p.dst) p.len)

/-- A descriptor completed: the marks of the regions that a FILL covers (R327), the check-value context, and the engine free. -/
def Chan.completeDma (before c : Chan) (me : Ch) (v : Variant) (e : Nat) (d : Descriptor) : Chan :=
  let c := if d.fill then { c with mem := c.mem.markRegions (before.filledRegions me v d) } else c
  let c := if before.checksGeneral me v d then c.checkContext e (c.destinationBytes me v d) else c
  { c with mem := { c.mem with dma := modAt c.mem.dma e (fun (q : Dma) => { (default : Dma) with space := d.space, queue := q.queue }) } }

/-- An engine runs a descriptor from an offset on: it completes, or stops at what it meets, a CHECK descriptor with its context
restarted (Table 12-6). -/
def State.runDma (s : State) (ch : Ch) (e : Nat) (d : Descriptor) (start : Nat) : State :=
  let v := s.factory.variant
  let c := s.ch ch
  match Chan.carryFrom ch v e d (c.pieceFuel d) start c with
  | (c', none) => s.put ch (c.completeDma c' ch v e d)
  | (c', some (k, h)) =>
    let c' := if c.checksGeneral ch v d then c'.checkContext e [] else c'
    let c' := { c' with mem := { c'.mem with dma := modAt c'.mem.dma e (fun (q : Dma) => { q with space := d.space, desc := some d }) } }
    (s.put ch (c'.stopDma e h.cause (restartOffset (some d) k))).halted ch (.dma e) h

/-- An engine of a channel. -/
def Chan.engine (c : Chan) (e : Nat) : Dma := c.mem.dma.getD e default

/-- The descriptors that wait for an engine, one after another, until one stops it (R321). -/
def State.runQueue (ch : Ch) (e : Nat) : Nat → State → State
  | 0, s => s
  | n + 1, s =>
    let q := (s.ch ch).engine e
    match q.stopped, q.queue with
    | false, d :: t =>
      let s := s.mod ch (fun c => { c with mem := { c.mem with dma := modAt c.mem.dma e (fun (q : Dma) => { q with queue := t }) } })
      State.runQueue ch e n (s.runDma ch e d 0)
    | _, _ => s

/-- DMA_DESCRIPTOR (R321, R327, R335): the descriptor completes, or its engine stops at what it meets; behind a stopped engine it
waits its turn. -/
def execDmaDescriptor (ch : Ch) (e : Nat) (d : Descriptor) (s : State) : Host.Outcome State Fault Refusal :=
  let c := s.ch ch
  if !c.live || decide (4 ≤ e) || !descOk d then .next s
  else if (c.engine e).stopped then
    .next (s.mod ch (fun c =>
      { c with mem := { c.mem with dma := modAt c.mem.dma e (fun (q : Dma) => { q with queue := q.queue ++ [d] }) } }))
  else .next (s.runDma ch e d 0)

/-- DMA_STOP (R335, Table 12-6): a stopped engine resumes its descriptor at its restart point, and stops again where what stopped
it still stands; then it goes on with its queue. -/
def execDmaStop (ch : Ch) (e : Nat) (s : State) : Host.Outcome State Fault Refusal :=
  let c := s.ch ch
  let q := c.engine e
  if c.live && decide (e < 4) && q.stopped then
    let s := s.mod ch (fun c =>
      { c with
        mem := { c.mem with dma := modAt c.mem.dma e (fun (q : Dma) => { (default : Dma) with space := q.space, queue := q.queue }) } })
    let s := match q.desc with
      | some d => s.runDma ch e d q.offset
      | none => s
    .next (State.runQueue ch e q.queue.length s)
  else .next s

/-! ### Reads that meet an uncorrectable or poisoned lane (R324) -/

/-- A lane that a read finds uncorrectable, if memory did not hold it so already. -/
def Chan.damage (c : Chan) (me : Ch) (v : Variant) (a : Nat) : Chan :=
  if laneBad (c.kindAt me v a) then c else c.putLane me v a (c.byteAt me v a) 0x03

/-- An uncorrectable error at a lane that has been found so before and is poisoned no longer, so that it has been written afresh
since: a hard fault of its SRAM bank or its page (R332). `was` is what the lane held. -/
def Mem.noteHard (m : Mem) (v : Variant) (was : LaneKind) (a : Nat) : Mem :=
  if was == .poisoned || !m.rewritten.contains (a / 4 * 4, a % 4) then m
  else if inSram a then { m with sramHard := putBit m.sramHard ((a - 0x10000000) / 0x40000) true }
  else if inDram v a then { m with hardPages := (pageOf a :: m.hardPages).eraseDups }
  else m

/-- The cell of the queue pool at an address, 64 bytes each, and the range it lies in: ranges stand in the order of
`buildRanges` (R275; log 49). -/
def Chan.poolRange (c : Chan) (v : Variant) (a : Nat) : Option (Nat × Option (Port × Nat)) :=
  if within (poolBase v) 0x1000000 a then
    let cell := (a - poolBase v) / 64
    (c.qm.ranges.foldl (fun (b : Nat × Option (Nat × Option (Port × Nat))) r =>
      let n := c.rangeSize r.cls r.level
      (b.1 + n, if b.2.isNone && decide (cell < b.1 + n) then some (r.cls, r.level) else b.2)) (0, none)).2
  else none

/-- The oldest frame of a range on a port is discarded, its cells given back (R278). -/
def Chan.dropFirst (c : Chan) (p : Port) (cls : Nat) (range : Option (Port × Nat)) : Chan :=
  match (c.fab.queue p).find? (c.inRange p cls range) with
  | none => c
  | some f =>
    { c with
      qm := c.qm.give f.cls (c.levelOf p f) (frameCells f)
      fab := c.fab.putQueue p ((c.fab.queue p).erase f) }

/-- An uncorrectable lane in a frame's data: the frame is discarded at its read (R278). -/
def Chan.poolReadError (c : Chan) (v : Variant) (a : Nat) : Chan :=
  let c := { c with qm := { c.qm with eccUe := inc 8 c.qm.eccUe } }
  match c.poolRange v a with
  | none => c
  | some (cls, range) =>
    let p := match range with
      | some (p, _) => p.other
      | none => if (c.fab.queueX.any (c.inRange .x cls range)) then .x else .y
    c.dropFirst p cls range

/-- A read of a reader at an address reaches a lane of its word: an atomic operation reads only the lanes it modifies (R325). -/
def readsLane (r : Reader) (lane : Nat) : Bool :=
  match r with
  | .atomic lanes => lanes.getLsbD (lane % 4)
  | _ => true

/-- MEMORY_READ_ERROR (R324, R325): logged and counted; none of the word's data is delivered, and the reader acts. -/
def execMemoryReadError (ch : Ch) (reader : Reader) (addr lane : Nat) (s : State) : Host.Outcome State Fault Refusal :=
  let v := s.factory.variant
  .next (s.onLive ch (fun c =>
    let a := addr / 4 * 4 + lane % 4
    if !listed v addr || !readsLane reader lane then c
    else
      let home := c.nv.home a
      let was := c.kindAt ch v home
      let c := (c.damage ch v home).lostLane ch v reader a
      let c := { c with mem := c.mem.noteHard v was a }
      match reader with
      | .resolver tile =>
        match c.resolverTile tile with
        | some _ => if (c.tiles.failedFor tile).isSome then c else c.failTile tile 6
        | none => c
      | .queueManager => c.poolReadError v home
      | r => c.abortReader r 3))

/-! ### The flip mask (R329) -/

/-- An address in the test page. -/
def inTestPage (a : Nat) : Bool := within 0x40F00000 0x1000 a

/-- The BIST controller, or a firmware service in space 8 (R329). -/
def mayFlip : Writer → Bool
  | .bist => true
  | .core space => space == 8
  | .atomic space => space == 8
  | _ => false

/-- A write that an armed mask takes. -/
def Mem.flipMatches (m : Mem) (v : Variant) (w : Writer) (addr : Nat) : Bool :=
  m.arm && (if m.range then (inSram addr || inDram v addr) && mayFlip w else inTestPage addr)

/-- The lanes of one word written with the mask's bits inverted in their check bits. -/
def Chan.flipWrite (c : Chan) (me : Ch) (v : Variant) (addr : Nat) (lanes : BitVec 4) (data : Word) : Chan :=
  let c := (List.range 4).foldl (fun (c : Chan) k =>
    if lanes.getLsbD k then
      c.putLane me v (c.nv.home (addr / 4 * 4 + k)) ((data >>> (8 * k)).setWidth 8) ((c.mem.mask >>> (5 * k)).setWidth 5)
    else c) c
  { c with mem := { c.mem with arm := false, done := true } }

/-- The first lane that an atomic operation would modify and cannot read (R325). -/
def Chan.atomicLost (c : Chan) (me : Ch) (v : Variant) (w : Writer) (addr : Nat) (lanes : BitVec 4) : Option Nat :=
  match w with
  | .atomic _ =>
    ((List.range 4).find? (fun k => lanes.getLsbD k && laneBad (c.kindAt me v (c.nv.home (addr / 4 * 4 + k))))).map
      (fun k => addr / 4 * 4 + k)
  | _ => none

/-- FLIP_APPLY (R78, R325, R327, R329): the next matching write takes the mask. A write that is blocked or trapped, or an atomic
operation that meets a lane it cannot read, writes nothing and takes none. -/
def execFlipApply (ch : Ch) (w : Writer) (addr : Nat) (lanes : BitVec 4) (data : Word) (s : State) :
    Host.Outcome State Fault Refusal :=
  let v := s.factory.variant
  let c := s.ch ch
  if !c.live || !c.mem.flipMatches v w addr || lanes == 0 then .next s
  else if inTileStore addr && !mayWriteTiles w then .next (s.mod ch (fun c => c.protectionFault addr))
  else if !c.mem.marked v addr then
    .next ((s.mod ch (fun c =>
      match w with
      | .dma e => c.abortReader (.dma e) 2
      | .core _ => c.abortReader .core 2
      | .atomic _ => c.abortReader .core 2
      | _ => c)).trapped ch addr)
  else
    match c.atomicLost ch v w addr lanes with
    | some a => .next (s.mod ch (fun c => (c.lostLane ch v .core a).abortReader .core 3))
    | none =>
      .next (s.mod ch (fun c =>
        let c := if inTileStore addr then { c with tiles := c.tiles.unmark (slotOfAddr addr) } else c
        c.flipWrite ch v addr lanes data))

end Sys2Proof.Machine
end

