-- ==== Sys2Proof/Machine/Scrub.lean ====
section
/-! DEFINITION. The scrubber and retirement (spec/12_memory_and_arbiter.md R330 to R334): one word at a time, firmware's action on
what it finds (Table 12-5), retired pages and banks. -/

namespace Sys2Proof.Machine

open Sys2Proof

/-! ### The scrubber's way through memory (R330) -/

/-- Retired pages: the entries in force of the list (R333). -/
def Nv.retiredPages (v : Nv) : List Nat := (v.retired.filter (fun e => e.valid)).map (fun e => e.page)

/-- A bank is retired: its addresses reach another (R334). -/
def Nv.bankRetired (v : Nv) (k : Nat) : Bool := v.bankMap.getD k k != k

/-- The next boundary of a size after an address. -/
def nextBoundary (a size : Nat) : Nat := (a / size + 1) * size

/-- The first word from `a` on that the scrubber reads in DRAM, and whether the end was passed on the way: regions with mark
1, without retired pages and banks. -/
def nextDram (c : Chan) (v : Variant) : Nat → Nat → Bool → Option (Nat × Bool)
  | 0, _, _ => none
  | n + 1, a, wrapped =>
    if !inDram v a then (if wrapped then none else nextDram c v n 0x40000000 true)
    else if c.nv.bankRetired (bankOf a) then nextDram c v n (nextBoundary a 0x4000000) wrapped
    else if !c.mem.marks.contains (regionOf a) then nextDram c v n (nextBoundary a 0x100000) wrapped
    else if c.nv.retiredPages.contains (pageOf a) then nextDram c v n (nextBoundary a 0x1000) wrapped
    else some (a, wrapped)

/-- Steps that `nextDram` may take: every region, page list entry and bank, twice. -/
def scrubFuel : Nat := 2200

/-! ### One word (R331) -/

/-- A lane uncorrectable or poisoned: poisoned unless it is, logged, and firmware signalled. -/
def Chan.scrubBad (c : Chan) (me : Ch) (v : Variant) (a : Nat) : Chan :=
  let k := c.kindAt me v (c.nv.home a)
  let c := if k == .poisoned then c else c.poisonAt me v (c.nv.home a)
  let m := c.mem
  let due := (a / 4 * 4, a % 4)
  let m := { (m.lastErr .scrubber a (a % 4) k).noteHard v k a with
    scrubUe := if k == .poisoned then m.scrubUe else inc 8 m.scrubUe
    scrubPoisoned := if k == .poisoned then inc 8 m.scrubPoisoned else m.scrubPoisoned
    ueDue := if m.ueDue.contains due then m.ueDue else m.ueDue ++ [due] }
  { c with mem := m }.seeUe v a

/-- A correctable lane written back, its correction logged (R331, R375). -/
def Chan.scrubFix (c : Chan) (me : Ch) (v : Variant) (a : Nat) : Chan :=
  let home := c.nv.home a
  let c := (c.putLane me v home (c.byteAt me v home) 0).noteCorrected v .scrubber a
  if inSram a then { c with mem := c.mem.countCe a } else c

/-- One lane, at its physical address. -/
def Chan.scrubLane (c : Chan) (me : Ch) (v : Variant) (a : Nat) : Chan :=
  match c.kindAt me v (c.nv.home a) with
  | .sound => c
  | .corrected => c.scrubFix me v a
  | _ => c.scrubBad me v a

/-- The four lanes of a word; a word with a lane written back counts once. -/
def Chan.scrubAt (c : Chan) (me : Ch) (v : Variant) (a : Nat) : Chan :=
  let fixed := (List.range 4).any (fun k => c.kindAt me v (c.nv.home (a + k)) == .corrected)
  let c := (List.range 4).foldl (fun c k => c.scrubLane me v (a + k)) c
  if fixed then { c with mem := { c.mem with fixed := inc 16 c.mem.fixed } } else c

/-- The word of SRAM at the scrubber's position, and the position after it. -/
def Chan.scrubSram (c : Chan) (me : Ch) (v : Variant) : Chan :=
  let a := c.mem.posSram
  let c := c.scrubAt me v a
  let wrap := !inSram (a + 4)
  { c with
    mem := { c.mem with
      posSram := if wrap then 0x10000000 else a + 4
      passesSram := if wrap then inc 16 c.mem.passesSram else c.mem.passesSram } }

/-- The next word of DRAM that the scrubber reads, and the position after it. -/
def Chan.scrubDram (c : Chan) (me : Ch) (v : Variant) : Chan :=
  match nextDram c v scrubFuel c.mem.posDram false with
  | none => c
  | some (a, w) =>
    let c := if w then { c with mem := { c.mem with passesDram := inc 16 c.mem.passesDram } } else c
    let c := c.scrubAt me v a
    match nextDram c v scrubFuel (a + 4) false with
    | some (b, false) => { c with mem := { c.mem with posDram := b } }
    | some (b, true) => { c with mem := { c.mem with posDram := b, passesDram := inc 16 c.mem.passesDram } }
    | none => { c with mem := { c.mem with posDram := 0x40000000 } }

/-- SCRUB_WORD (R330, R331): the next word of SRAM or DRAM. -/
def execScrubWord (ch : Ch) (dram : Bool) (s : State) : Host.Outcome State Fault Refusal :=
  .next (s.onLive ch (fun c =>
    if c.boot.phase == 0 then c else if dram then c.scrubDram ch s.factory.variant else c.scrubSram ch s.factory.variant))

/-! ### Firmware's action (Table 12-5) -/

/-- A tile slot: reloaded at once, or after the commit while a pass runs (R88). -/
def Chan.ueInSlot (c : Chan) (me : Ch) (v : Variant) (i : Nat) : Chan :=
  match c.image with
  | none => c.rewriteSlot i
  | some _ =>
    if c.passActive then { c with tiles := { c.tiles with reloadDue := (i :: c.tiles.reloadDue).eraseDups } }
    else c.firmwareReload me v i

/-- The PROG tile whose copy stands in firmware-private SRAM at an address (R88). -/
def Chan.progCopyAt (c : Chan) (v : Variant) (a : Nat) : Option Nat :=
  (c.tiles.progMarks.find? (fun m => c.progAddr v m.2 != slotAddr m.2 && within (progCopyAddr m.2) 4096 a)).map (fun m => m.2)

/-- A PROG copy discarded (R88). -/
def Chan.dropProgCopy (c : Chan) (tile : Nat) : Chan :=
  { c with tiles := { c.tiles with progMarks := c.tiles.progMarks.filter (fun m => m.2 != tile) } }

/-- Image staging (R77, R411): a tile of the running master copy, the running container, or the staged half. -/
def Chan.ueInStaging (c : Chan) (v : Variant) (a : Nat) : Chan :=
  let off := a - stagingBase v 0
  if off / 0x2000000 == c.blocks.half then
    let in_ := off % 0x2000000
    if 0x1C00000 ≤ in_ then
      let i := (in_ - 0x1C00000) / 4096
      { c with tiles := { c.tiles with masterDue := (i :: c.tiles.masterDue).eraseDups } }
    else { c with mem := { c.mem with stagingDamaged := true } }
  else if c.blocks.staged.isSome && c.blocks.exch != 0 && c.blocks.exch != 4 then
    { c with blocks := { c.blocks with staged := none } }.exchTo 0 0x10 0 0
  else c

/-- The diagnostic buffer: the record that the lane belongs to is dropped and counted as lost; slot k holds the k-th of the
buffered records, oldest first (R331, R368; log 49). -/
def Rec.dropAt (r : Rec) (k : Nat) : Rec :=
  if k < r.diag.length then
    { r with diag := r.diag.eraseIdx k, dropLane := r.dropLane + 1, lostCnt := inc 16 r.lostCnt }
  else r

/-- What firmware does to the channel, and whether the channel withdraws. -/
def Chan.ueAct (c : Chan) (me : Ch) (v : Variant) (a : Nat) : Chan × Bool :=
  if inTileStore a then (c.ueInSlot me v (slotOfAddr a), false)
  else if inSram a then
    match c.progCopyAt v a with
    | some t => (c.dropProgCopy t, false)
    | none => (c, true)
  else if !inDram v a then (c, false)
  else if a < 0x40900000 then (c, true)
  else if a < 0x41000000 then (c, false)
  else if a < instEnd v then (c, true)
  else if within (stagingBase v 0) 0x4000000 a then (c.ueInStaging v a, false)
  else if within (bufferBase v) 0x800000 a then ({ c with recd := c.recd.dropAt ((a - bufferBase v) / 64) }, false)
  else (c, false)

/-- SCRUB_UE_ACTION (R331): firmware acts on an error that the scrubber has signalled. -/
def execScrubUeAction (ch : Ch) (addr lane : Nat) (s : State) : Host.Outcome State Fault Refusal :=
  let c := s.ch ch
  let due := (addr / 4 * 4, lane)
  if c.live && c.mem.ueDue.contains due then
    let (c', out) := c.ueAct ch s.factory.variant (c.nv.home (addr / 4 * 4 + lane))
    let c' := { c' with
      mem := { c'.mem with ueDue := c'.mem.ueDue.erase due, rewritten := (due :: c'.mem.rewritten).eraseDups } }
    let s := s.put ch c'
    .next (if out then s.withdraw ch else s)
  else .next s

/-! ### Retired pages (R332, R333) -/

/-- The lowest spare page not in use and not retired itself. -/
def Nv.freeSpare (v : Nv) : Option Nat :=
  (List.range 512).find? (fun k => !(v.retired.any (fun e => e.valid && (e.spare == k || e.page == 0x900 + k))))

/-- The correction log supports a retirement for repeated correction (R332): a lane of the page with MEM.RETIRE_THRESH
corrections. -/
def Chan.repeats (c : Chan) (page : Nat) : Bool :=
  c.nv.corrections.any (fun e => pageOf e.addr == page && decide (0x40000000 ≤ e.addr) && decide (c.stat 0x0407 ≤ e.count))

/-- A page meets R332 for a cause: 1 repeated correction, 2 persistent uncorrectable error. -/
def Chan.mustRetire (c : Chan) (page cause : Nat) : Bool :=
  match cause with
  | 1 => c.repeats page
  | 2 => c.mem.hardPages.contains page
  | _ => false

/-- A page moved to a spare page and listed; its correction log entries are freed (R333, R375). The page tables, or for a page of
the pool its page map, name the spare page from here on (`Nv.moveEntry`); the copy has valid check bits. -/
def Chan.retirePage (c : Chan) (v : Variant) (page cause spare : Nat) : Chan :=
  let src := c.nv.home (0x40000000 + 4096 * page)
  let c :=
    match c.poolRange v src with
    | some (cls, range) =>
      (c.flushWhere .x (c.inRange .x cls range)).flushWhere .y (c.inRange .y cls range)
    | none => c
  let c := { c with
    mem :=
      { c.mem with
        check := spliced c.mem.check src 4096 []
        hardPages := c.mem.hardPages.erase page }
    nv :=
      { c.nv with
        retired := c.nv.retired ++ [(⟨true, cause, spare, page⟩ : Retired)]
        corrections := c.nv.corrections.filter (fun e => !(pageOf e.addr == page && decide (0x40000000 ≤ e.addr))) } }
  c.emit .retirement page [w32 cause, w32 spare]

/-- PAGE_RETIRE (R332, R333): cause 1 repeated correction, 2 persistent uncorrectable error. A page with a lane that delivers no
data stops the copy, and the old mapping stays in force (Table 12-6). With the list full, or no spare page left, the page stays
and SPARE_EXH is set. -/
def execPageRetire (ch : Ch) (page cause : Nat) (s : State) : Host.Outcome State Fault Refusal :=
  let v := s.factory.variant
  .next (s.onLive ch (fun c =>
    if !c.mustRetire page cause || !inDram v (0x40000000 + 4096 * page) || c.nv.retiredPages.contains page then c
    else
      match c.nv.freeSpare, decide (c.nv.retiredPages.length < 512) with
      | some spare, true => if c.rangeBad ch v (c.nv.home (0x40000000 + 4096 * page)) 4096 then c else c.retirePage v page cause spare
      | _, _ => if c.nv.spareExh then c else { c with nv := { c.nv with spareExh := true } }.emit .spareExhausted page []))

/-! ### Retired banks (R334) -/

/-- The lowest spare bank not in use; at most four banks are retired. -/
def Nv.freeBank (v : Nv) (variant : Variant) : Option Nat :=
  match variant with
  | .hx4096 => [4, 5, 6, 7].find? (fun p => !((v.bankMap.take 4).contains p))
  | .hx1024 => none

/-- A bank's addresses reach the spare bank, filled; its retired-page entries are voided (R334). -/
def Chan.moveBank (c : Chan) (me : Ch) (v : Variant) (bank p : Nat) : Chan :=
  let lo := bank * 16384
  let regions := (List.range 64).map (fun r => p * 64 + r)
  let c := c.zeroRange me v (0x40000000 + bank * 0x4000000) 0x4000000
  { c with
    mem := { c.mem.markRegions regions with ueSeen := c.mem.ueSeen.filter (fun e => !within lo 16384 e.1) }
    nv :=
      { c.nv with
        bankMap := c.nv.bankMap.set bank p
        retired := c.nv.retired.map (fun (e : Retired) => if within lo 16384 e.page then { e with valid := false } else e) } }

/-- A bank in use of a variant. -/
def bankInUse (v : Variant) (bank : Nat) : Bool :=
  match v with
  | .hx4096 => decide (bank < 4)
  | .hx1024 => decide (bank < 2)

/-- A bank meets R334: 64 of its pages retired, or uncorrectable errors found in 4 distinct pages within 1 s. -/
def Chan.bankDue (c : Chan) (bank : Nat) : Bool :=
  decide (64 ≤ (c.nv.retiredPages.filter (fun p => within (bank * 16384) 16384 p)).length) ||
    decide (4 ≤ (c.mem.ueSeen.filter (fun e => within (bank * 16384) 16384 e.1)).length)

/-- BANK_RETIRE (R334): the channel withdraws; the bank moves to a spare bank, or the channel stays excluded with a bank
fault. -/
def execBankRetire (ch : Ch) (bank : Nat) (s : State) : Host.Outcome State Fault Refusal :=
  let v := s.factory.variant
  if (s.ch ch).live && bankInUse v bank && (s.ch ch).bankDue bank && !(s.ch ch).mem.bankFault then
    let s := s.withdraw ch
    .next (s.mod ch (fun c =>
      match c.nv.freeBank v with
      | some p => (c.moveBank ch v bank p).emit .retirement bank [w32 p]
      | none => { c with mem := { c.mem with bankFault := true } }.emit .bankFault bank []))
  else .next s

end Sys2Proof.Machine
end

