-- ==== Sys2Proof/Machine/Bist.lean ====
section
/-! DEFINITION. Periodic self-test (spec/13_self_test.md R344 to R356): slices in the channel's turn, their order, abandoned
slices, rounds, signatures and flags, and the output switch test (R351 to R353). -/

namespace Sys2Proof.Machine

open Sys2Proof

/-! ### The order of a round (R347, Table 13-1) -/

/-- Slices of blocks 0 to 16. -/
def bistSlices : List Nat := [16, 4, 16, 448, 64, 2, 4, 1, 3, 2, 1, 1, 2, 1, 2, 3, 4]

/-- Blocks of a round: in SPLIT mode 14, 15 and 16 are skipped (R356). -/
def Chan.bistBlocks (c : Chan) : List Nat := if c.split then bistSlices.take 14 else bistSlices

/-- Slices of a round: 574, or 565 in SPLIT mode. -/
def Chan.roundSlices (c : Chan) : Nat := c.bistBlocks.sum

/-- Block and slice at a place of the round order. -/
def sliceAt : List Nat → Nat → Nat → Option (Nat × Nat)
  | [], _, _ => none
  | n :: ns, b, k => if k < n then some (b, k) else sliceAt ns (b + 1) (k - n)

/-- The next slice of the round order: the completed ones and the abandoned ones lie before it. -/
def Chan.nextSlice (c : Chan) : Option (Nat × Nat) := sliceAt c.bistBlocks 0 (c.bist.done + c.bist.again.length)

/-! ### Turns (R344, R350, R353, R356) -/

/-- The channel that holds the turn of a main cycle (R26). -/
def Chan.inTurn (c : Chan) (me : Ch) : Bool :=
  c.running && c.released && !c.supply.powerFail && c.mainCycle % 3 == me.code

/-- Slices already run in this turn. -/
def Chan.slicesRun (c : Chan) : Nat :=
  match c.bist.turn with
  | some (m, n) => if m == c.mainCycle then n else 0
  | none => 0

/-- A slice may start: in turn, within BIST.CTRL.SLICES, and with no task running. -/
def Chan.mayTest (c : Chan) (me : Ch) : Bool :=
  c.inTurn me && decide (c.slicesRun < bits (c.stat 0x1D00) 2 0) && !c.tasks.any (fun t => t.running)

/-- The abandoned slice to be repeated in this turn: the oldest of an earlier one (R350). -/
def Chan.repeatSlice (c : Chan) : Option (Nat × Nat) :=
  (c.bist.again.find? (fun e => e.1 != c.mainCycle)).map (fun e => e.2)

/-- A switch test brought forward: the lowest group, if its supply allows the test (R351, R353). -/
def Chan.forwardTest (c : Chan) : Option (Nat × Nat) :=
  if c.split then none
  else ((List.range 4).find? (fun g => c.bist.due.getLsbD g && !c.din.warn.getLsbD g)).map (fun g => (16, g))

/-- The slice that comes next: one to be repeated, then a switch test brought forward, then the round's own. -/
def Chan.dueSlice (c : Chan) : Option (Nat × Nat) :=
  match c.repeatSlice, c.forwardTest with
  | some e, _ => some e
  | none, some e => some e
  | none, none => if c.bist.inRound then c.nextSlice else none

/-- This slice is the one that runs now; a group with a consolidated WARN is not tested (R351). -/
def Chan.runsSlice (c : Chan) (me : Ch) (block slice : Nat) : Bool :=
  c.mayTest me && c.dueSlice == some (block, slice) && !(block == 16 && c.din.warn.getLsbD slice)

/-- The slice is a test brought forward, which is not a slice of the round (R347; log 53). -/
def Chan.isForward (c : Chan) (block slice : Nat) : Bool :=
  c.repeatSlice.isNone && c.forwardTest == some (block, slice)

/-- A slice started in this turn. -/
def Bist.started (b : Bist) (main run block : Nat) : Bist := { b with turn := some (main, run + 1), block := block }

/-! ### What a slice leaves -/

/-- A signature that differs (R354): flag, most recent failure, juridical event. -/
def Chan.bistFailed (c : Chan) (block slice : Nat) : Chan :=
  { c with
    bist :=
      { c.bist with
        fail := putBit c.bist.fail block true
        lastFail := w32 (slice % 512 + block % 32 * 2 ^ 9 + c.mainCycle % 65536 * 2 ^ 16) } }.emit .bistFail block
    [w32 block, w32 slice]

/-- The high-side paths of the channel found conducting by the readback of de-energised outputs of the group (R352). -/
def Chan.hotPaths (c : Chan) (me : Ch) (g : Nat) (hot : List (Nat × Pair)) : List (Nat × Pair) :=
  hot.filter (fun h => h.1 / 8 == g && decide (h.1 < 32) && !c.dout.on.getLsbD h.1 && h.2.has me)

/-- A tile slot after its march test: reloaded from the master copy, or where that delivers no data left marked failed. -/
def Chan.slotBack (c : Chan) (me : Ch) (v : Variant) (i : Nat) : Chan :=
  match c.image with
  | some g =>
    if decide (g.tileCount ≤ i) then c.zeroRange me v (slotAddr i) 4096
    else if c.masterBad me v g i then { c with tiles := c.tiles.setMark i (.failed 6) }
    else c.loadSlot v g i
  | none => c.zeroRange me v (slotAddr i) 4096

/-- The test page written by a slice's test. -/
def Chan.testPage (c : Chan) (me : Ch) (v : Variant) (block slice : Nat) : Chan :=
  c.putBytes me v 0x40F00000 ((List.range 4096).map (Config.bistPage block slice))

/-- MEM.FLIP after the injections of a slice's test, the last one taken (R329). -/
def Mem.flipUsed (m : Mem) (w : Word) (range : Bool) : Mem :=
  { m with arm := false, done := true, range := range, mask := w.setWidth 20 }

/-- The block under test after its slice and its return to service (Table 13-1). Private SRAM is copied to the test page and back. -/
def Chan.returned (c : Chan) (me : Ch) (v : Variant) (block slice : Nat) : Chan :=
  let flip := Config.bistFlip block slice
  if block == 1 || block == 6 then c.testPage me v block slice
  else if block == 3 then c.slotBack me v slice
  else if block == 4 then
    let a := 0x101C0000 + 4096 * slice
    if c.rangeBad me v a 4096 then c else (c.copyRange me v a 0x40F00000 4096).copyRange me v 0x40F00000 a 4096
  else if block == 5 then { c with mem := c.mem.flipUsed flip true }
  else if block == 7 then { c with tiles := { c.tiles with marks := [] } }
  else if block == 11 then { c.testPage me v block slice with mem := (c.testPage me v block slice).mem.flipUsed flip (flip.getLsbD 29) }
  else if block == 12 then
    let c := c.zeroRange me v 0x40F00000 4096
    { c with mem := c.mem.flipUsed flip (flip.getLsbD 29) }
  else c

/-- What the switch test of a group leaves: its findings, and its pass (R352, R353). -/
def Chan.switchTested (c : Chan) (me : Ch) (g : Nat) (sigOk : Bool) (hot : List (Nat × Pair)) : Chan :=
  let found := c.hotPaths me g hot
  { c with
    dout :=
      { c.dout with
        switchHot := c.dout.switchHot ++ found
        switchOwn := if sigOk && found.isEmpty then c.dout.switchOwn ||| groupMask g else c.dout.switchOwn }
    bist := { c.bist with due := putBit c.bist.due g false } }

/-- A slice's signature, the CRC-32C over its result words, is the firmware image's (R354). -/
def Chan.signatureOk (c : Chan) (block slice : Nat) (results : List Word) : Bool :=
  crc32c (wordsBytes results) == Config.bistSignature c.boot.fwDigest block slice

/-- A round ends (R347, R357). -/
def Bist.endRound (b : Bist) (now : Nat) : Bist :=
  let us := now - b.roundStart
  { b with
    inRound := false, rounds := inc 16 b.rounds, lastS := min (us / 1000000) 65535
    late := if us ≤ 86400000000 then false else b.late }

/-- A slice of the round counted; the last ends the round. -/
def Bist.complete (b : Bist) (total now : Nat) (forward : Bool) (block slice : Nat) : Bist :=
  let b := { b with sliceCnt := inc 16 b.sliceCnt }
  if forward then b
  else
    let b := { b with done := b.done + 1, again := b.again.filter (fun e => e.2 != (block, slice)) }
    if b.done == total && b.inRound then b.endRound now else b

/-- A slice run to its end. -/
def Chan.slice (c : Chan) (me : Ch) (v : Variant) (block slice : Nat) (results : List Word) (hot : List (Nat × Pair)) : Chan :=
  let sigOk := c.signatureOk block slice results
  let forward := c.isForward block slice
  let total := c.roundSlices
  let c := { c with bist := c.bist.started c.mainCycle c.slicesRun block }
  let c := if sigOk then c else c.bistFailed block slice
  let c := c.returned me v block slice
  let c := if block == 16 then c.switchTested me slice sigOk hot else c
  { c with bist := c.bist.complete total c.clock forward block slice }

/-- BIST.SWITCH: the outputs whose group every channel in the vote has tested since the lockout (R353). -/
def State.testedByAll (s : State) (c : Chan) : Word :=
  c.voters.foldl (fun w x => w &&& (s.ch x).dout.switchOwn) 0xFFFFFFFF

/-- BIST.SWITCH brought up to date in every channel. -/
def State.shareSwitch (s : State) : State :=
  s.allLive (fun _ c => { c with dout := { c.dout with switchAll := s.testedByAll c } })

/-- BIST_SLICE (R344, R351 to R354): a slice runs in the idle time `idleUs` before the next release of at least 1 ms. `results`
are its result words, `hot` names the outputs and paths found conducting. -/
def execBistSlice (ch : Ch) (block slice : Nat) (idleUs : Nat) (results : List Word) (hot : List (Nat × Pair)) (s : State) :
    Host.Outcome State Fault Refusal :=
  let c := s.ch ch
  if decide (1000 ≤ idleUs) && c.runsSlice ch block slice then
    let s := s.put ch (c.slice ch s.factory.variant block slice results hot)
    .next (if block == 16 then s.shareSwitch else s)
  else .next s

/-! ### Abandoned slices (R345, R349, R350) -/

/-- A slice abandoned: its block back in service, counted, and to be repeated at the next turn; a test brought forward stays due. -/
def Chan.abandonSlice (c : Chan) (me : Ch) (v : Variant) (block slice : Nat) : Chan :=
  let forward := c.isForward block slice
  let b := c.bist.started c.mainCycle c.slicesRun block
  let c := c.returned me v block slice
  { c with
    bist :=
      { b with
        abandonCnt := inc 16 b.abandonCnt
        again :=
          if forward then b.again
          else b.again.filter (fun e => e.2 != (block, slice)) ++ [(c.mainCycle, block, slice)] } }

/-- BIST_SLICE_TIMEOUT (R345): the slice has not ended 1.000 ms after its start. -/
def execBistSliceTimeout (ch : Ch) (block slice : Nat) (s : State) : Host.Outcome State Fault Refusal :=
  .next (s.onLive ch (fun c => if c.runsSlice ch block slice then c.abandonSlice ch s.factory.variant block slice else c))

/-- BIST_SLICE_ABANDON (R349): vital work demands the block under test. -/
def execBistSliceAbandon (ch : Ch) (block slice : Nat) (s : State) : Host.Outcome State Fault Refusal :=
  .next (s.onLive ch (fun c => if c.runsSlice ch block slice then c.abandonSlice ch s.factory.variant block slice else c))

/-! ### Rounds (R347) -/

/-- A round may start: none runs, and BIST.CTRL.ROUND_H hours have passed since the start of the previous one. The first starts at
any time (DESIGN CHOICE, log 53). -/
def Chan.roundDue (c : Chan) : Bool :=
  c.running && !c.supply.powerFail && !c.bist.inRound &&
    (c.bist.rounds == 0 || c.past c.bist.roundStart (bits (c.stat 0x1D00) 12 8 * 3600000000))

/-- BIST_ROUND_START (R347): BIST.CTRL.ROUND_H hours have passed since the start of the previous round, or that round took
longer. -/
def execBistRoundStart (ch : Ch) (s : State) : Host.Outcome State Fault Refusal :=
  .next (s.onLive ch (fun c =>
    if c.roundDue then { c with bist := { c.bist with inRound := true, done := 0, again := [], roundStart := c.clock } }
    else c))

/-- BIST_ROUND_LATE (R347): 24 h after its start the round has not completed. -/
def execBistRoundLate (ch : Ch) (s : State) : Host.Outcome State Fault Refusal :=
  .next (s.onLive ch (fun c =>
    if c.bist.inRound && !c.bist.late && c.past c.bist.roundStart 86400000000 then { c with bist := { c.bist with late := true } }.emit .bistLate 0 [] else c))

end Sys2Proof.Machine
end

