-- ==== Sys2Proof/Machine/Flags.lean ====
section
/-! DEFINITION. What a read of a parameter word answers (spec/17_parameter_map.md R431, R434, R436 to R438), block by block from
the field tables of the owning chapters, and what a read clears: every status, flag and counter that the host can see. -/

namespace Sys2Proof.Machine

open Sys2Proof

/-! ### Building words -/

/-- A word from fields: value, width, place. -/
def packed (fs : List (Nat × Nat × Nat)) : Word := w32 (fs.foldl (fun n f => n + f.1 % 2 ^ f.2.1 * 2 ^ f.2.2) 0)

/-- A flag at a place. -/
def flagAt (b : Bool) (k : Nat) : Nat × Nat × Nat := (b.toNat, 1, k)

/-- A signed number as 16 bits. -/
def signed16 (i : Int) : Nat := (BitVec.ofInt 16 i).toNat

/-- The low or high word of a wide value. -/
def wideWord (n k : Nat) : Word := w32 (n / 2 ^ (32 * k))

/-- Two counts of 16 bits. -/
def counts (hi lo : Nat) : Word := packed [(hi, 16, 16), (lo, 16, 0)]

/-- A number divided by another, a part counting as one. -/
def ceilDiv (n d : Nat) : Nat := (n + d - 1) / d

/-- The application image that runs; fields taken from it read 0 where there is none (R435). -/
def Chan.appImage (c : Chan) : Option Image := if c.boot.unprog then none else c.image

/-- A number of the application image, 0 without one. -/
def Chan.ofImage (c : Chan) (f : Image → Nat) : Nat :=
  match c.appImage with
  | some im => f im
  | none => 0

/-- The fabric schedule of the image, or the one a claim has brought (R267). -/
def Chan.scheduled (c : Chan) : Option Schedule :=
  if c.boot.unprog && !c.fab.claimed then none else c.image.bind (fun im => im.schedule)

/-! ### Blocks ID to SEAL -/

/-- The codes of ID.VARIANT (Table 16-9). -/
def variantCode : Variant → Nat
  | .hx4096 => 0
  | .hx1024 => 1

/-- The codes of ID.VARIANT.GRADE. -/
def gradeCode : Grade → Nat
  | .s => 0
  | .e => 1

/-- Block ID (Tables 16-8 to 16-11). -/
def Chan.wordId (c : Chan) (f : Factory) (me : Ch) (num : Nat) : Word :=
  if num == 0 then wideWord f.serial.toNat 0
  else if num == 1 then wideWord f.serial.toNat 1
  else if num == 2 then packed [(f.hwrev, 16, 16), (variantCode f.variant, 4, 8), (gradeCode f.grade, 4, 4), (me.code, 2, 0)]
  else if num == 3 then c.boot.fwVersion
  else if num == 4 then c.boot.fwApi
  else if num < 0x10 then wideWord c.boot.fwDigest.toNat (num - 8)
  else if num < 0x18 then wideWord c.boot.appDigest.toNat (num - 0x10)
  else wideWord c.boot.cfgDigest.toNat (num - 0x18)

/-- Seconds since P0 ended, on the channel's clock (Table 17-6). -/
def Chan.uptime (c : Chan) : Nat := min ((c.clock - c.boot.p0Ms * 1000) / 1000000) 0xFFFFFFFF

/-- SYS.FEEDS (Table 17-5). -/
def Chan.feedsWord (c : Chan) : Word :=
  let p := c.supply
  packed [(p.volts1, 9, 0), flagAt p.present1 12, flagAt (decide (p.volts1 < c.cal.feedWarn)) 13, (p.volts2, 9, 16),
    flagAt p.present2 28, flagAt (decide (p.volts2 < c.cal.feedWarn)) 29]

/-- Blocks SYS, CLK and SEAL (Tables 17-5 to 17-9, 02-9 to 02-11). -/
def Chan.wordSys (c : Chan) (num : Nat) : Word :=
  match num with
  | 0x0100 => c.feedsWord
  | 0x0101 => w32 c.uptime
  | 0x0102 => packed [(c.params.cfgCount, 16, 0), flagAt c.params.cfgDefault 31]
  | 0x0200 => counts c.vote.skewCnt (signed16 c.vote.skewOffset)
  | 0x0201 => counts c.din.stallCnt c.din.gapCnt
  | 0x0300 => c.seals.bootPos
  | 0x0301 => c.seals.livePos
  | 0x0302 => c.seals.faultWord ||| counts c.seals.glitch 0
  | _ => 0

/-! ### Blocks MEM, SCRB and ARB -/

/-- Banks reached through a spare bank (R334). -/
def Nv.banksRetired (v : Nv) : Nat := (v.bankMap.zipIdx.filter (fun e => e.1 != e.2)).length

/-- MEM.CONFIG (Table 12-9). -/
def configWord : Variant → Word
  | .hx4096 => packed [(4, 4, 20), (8, 4, 16), (512, 10, 0)]
  | .hx1024 => packed [(1, 1, 31), (2, 4, 16), (128, 10, 0)]

/-- MEM.STATUS (Table 12-16). -/
def Chan.memStatus (c : Chan) : Word :=
  packed [((c.nv.retired.filter (fun e => e.valid)).length, 10, 22), (c.mem.sramHard.toNat, 8, 8),
    (c.nv.banksRetired, 4, 4), flagAt c.nv.spareExh 2, flagAt c.mem.stagingDamaged 1]

/-- MEM.RETIRE_ENTRY of a list entry (Table 12-18). -/
def retireWord (e : Option Retired) : Word :=
  match e with
  | some r => packed [flagAt r.valid 31, (r.cause, 3, 28), (r.spare, 9, 17), (r.page, 17, 0)]
  | none => 0

/-- MEM.DMA_STATE of an engine (Table 12-19). -/
def Dma.word (d : Dma) : Word :=
  packed [flagAt d.busy 31, flagAt d.stopped 30, (d.cause, 4, 24), (d.space, 4, 16), (d.queue.length, 16, 0)]

/-- Block MEM (Tables 12-9 to 12-20); `sel` is MEM.RETIRE_SEL of the session. -/
def Chan.wordMem (c : Chan) (v : Variant) (sel num : Nat) : Word :=
  let m := c.mem
  match num with
  | 0x0400 => configWord v
  | 0x0401 => packed [flagAt m.trap 31, (m.marks.length, 10, 0)]
  | 0x0402 => counts m.ceDram m.ceSram
  | 0x0403 => counts m.ueDram m.ueSram
  | 0x0404 => w32 m.errAddr
  | 0x0405 => packed [(m.errMaster, 4, 12), (m.errLane, 2, 8), (m.errKind, 2, 0)]
  | 0x0406 => packed [flagAt m.arm 31, flagAt m.done 30, flagAt m.range 29, (m.mask.toNat, 20, 0)]
  | 0x0407 => w32 (c.stat 0x0407)
  | 0x0408 => c.memStatus
  | 0x0409 => packed (c.nv.bankMap.zipIdx.map (fun e => (e.1, 4, 4 * e.2)))
  | 0x040A => w32 sel
  | 0x040B => retireWord c.nv.retired[sel]?
  | _ => if num < 0x0414 then (m.dma.getD (num - 0x0410) default).word else w32 (m.dma.getD (num - 0x0414) default).offset

/-- Blocks SCRB and ARB (Tables 12-21 to 12-29). -/
def Chan.wordArb (c : Chan) (num : Nat) : Word :=
  let m := c.mem
  let a := c.arb
  match num with
  | 0x0500 => w32 (c.stat 0x0500)
  | 0x0501 => w32 m.posSram
  | 0x0502 => w32 m.posDram
  | 0x0503 => packed [(m.fixed, 16, 16), (m.scrubUe, 8, 8), (m.scrubPoisoned, 8, 0)]
  | 0x0504 => counts m.passesDram m.passesSram
  | 0x0610 => packed [(a.holdMax, 6, 8), (a.ceiling, 5, 0)]
  | 0x0611 => packed [(a.cutCnt, 16, 16), (a.cut.toNat, 8, 0)]
  | _ =>
    if num < 0x0608 then packed ((List.range 8).map (fun j => (a.slot.getD (8 * (num - 0x0600) + j) 0, 3, 4 * j)))
    else if num < 0x0610 then w32 (a.prio.getD (num - 0x0608) 0)
    else w32 (a.waitMax.getD (num - 0x0618) 0)

/-! ### Blocks TILE, RES and ROUTE -/

/-- Blocks TILE and RES (Tables 03-11 to 03-16, 04-10 to 04-19). -/
def Chan.wordTile (c : Chan) (num : Nat) : Word :=
  let t := c.tiles
  let r := c.res
  match num with
  | 0x0700 => let n := c.ofImage Image.tileCount; packed [(min n 448, 9, 16), (n, 10, 0)]
  | 0x0701 => w32 (c.ofImage (fun im => im.imageSeq))
  | 0x0702 => packed [((t.marks.filter (fun e => e.2 == Mark.verified)).length, 9, 5), flagAt c.passActive 4, (r.gen, 3, 0)]
  | 0x0703 => counts t.reloadCnt t.vfailCnt
  | 0x0704 => packed [(t.failCycle, 16, 16), (t.failCause, 4, 12), (t.failIndex, 10, 0)]
  | 0x0706 => wideWord t.digest.toNat 0
  | 0x0707 => wideWord t.digest.toNat 1
  | 0x0800 => packed [(c.ofImage (fun im => im.laneMax), 16, 16), (64, 8, 8), (16, 5, 0)]
  | 0x0801 => counts r.passMax r.passLast
  | 0x0802 => w32 r.cycle
  | 0x0803 => w32 r.acc
  | 0x0806 => w32 (c.stat 0x0806)
  | 0x0807 => counts r.rejectCnt r.acceptCnt
  | 0x0808 => packed [(r.lastReject.reason, 8, 24), (r.lastReject.target, 18, 0)]
  | 0x0809 => packed [((r.rstate.filter (fun q => q.state != 0)).length, 12, 16), (r.outRsv.length, 6, 8), flagAt r.hold 0]
  | n => w32 (c.act n)

/-- Block ROUTE of the selected route (Tables 04-20 to 04-23, R118). -/
def Chan.wordRoute (c : Chan) (sel num : Nat) : Word :=
  if num == 0x0900 then w32 sel
  else
    match c.appImage with
    | none => 0
    | some im =>
      let q := c.res.rstate.getD sel default
      let d := im.route sel
      let rej := (c.res.aux.getD sel default).lastReject
      if im.routeCount ≤ sel then 0
      else if num == 0x0901 then packed [(q.timer, 16, 16), (q.tkind, 4, 8), (q.state.toNat, 8, 0)]
      else if num == 0x0902 then packed [(q.groups.toNat, 16, 16), (q.ovl, 13, 0)]
      else if num == 0x0903 then packed [(d.cls, 4, 22), (d.ovlCount, 3, 19), (d.appTime, 10, 0)]
      else packed [(rej.reason, 8, 24), (rej.target, 18, 0)]

/-! ### Blocks TASK and FB -/

/-- TASK.GLOBAL (Table 05-9). -/
def taskGlobal (im : Image) : Word :=
  packed [((im.tasks.getD 1 default).period4, 9, 16), (im.ratioM, 8, 8),
    (im.tasks.zipIdx.foldl (fun n t => n + bitAt t.1.present t.2) 0, 8, 0)]

/-- TASK.LATCH (Table 05-10). -/
def Chan.latchWord (c : Chan) : Word :=
  let ws := c.params.shadow
  packed [((List.range 8).foldl (fun n t => n + bitAt (ws.any (fun w => w.task == t)) t) 0, 8, 8), (min ws.length 255, 8, 0)]

/-- Block TASK (Tables 05-9 to 05-18). -/
def Chan.wordTask (c : Chan) (num : Nat) : Word :=
  if num == 0x0A00 then w32 (c.ofImage (fun im => (taskGlobal im).toNat))
  else if num == 0x0A01 then c.latchWord
  else
    let n := (num - 0x0A10) / 16
    let k := c.task n
    let d := fun (f : TaskDef → Nat) => c.ofImage (fun im => f (im.tasks.getD n default))
    if d (fun t => t.present.toNat) == 0 then 0
    else
    match (num - 0x0A10) % 16 with
    | 0 => packed [(d (fun t => t.present.toNat), 1, 31), (d (fun t => t.prio), 3, 16), (d (fun t => t.period4), 9, 0)]
    | 1 => w32 (c.act num)
    | 2 => packed [flagAt k.fault 31, flagAt k.running 30, (k.skips, 3, 0)]
    | 3 => counts k.skipCnt k.ovrCnt
    | 4 => w32 k.execLast
    | 5 => w32 k.execMax
    | 6 => w32 (d (fun t => t.budgetUs))
    | _ => w32 k.cycle

/-- KiB of instance data in use: the records, each to its 16-byte boundary, and the vanished space not yet reused (R133, R145;
log 54). -/
def Chan.dataKib (c : Chan) (im : Image) : Nat :=
  let bytes := fun (words : Nat) => ceilDiv (4 * words) 16 * 16
  ceilDiv ((im.insts.map (fun d => bytes d.size)).sum + (c.blocks.vacated.map (fun r => bytes r.2)).sum) 1024

/-- Block FB (Tables 05-19 to 05-29). -/
def Chan.wordFb (c : Chan) (sel num : Nat) : Word :=
  let b := c.blocks
  let inst := c.appImage.bind (fun im => im.insts.find? (fun d => d.id == sel))
  match num with
  | 0x0B00 => packed [(c.boot.libMajor, 8, 24), (c.boot.libMinor, 8, 16), (118, 8, 0)]
  | 0x0B01 => w32 (c.ofImage (fun im => im.insts.length))
  | 0x0B02 => w32 (c.ofImage c.dataKib)
  | 0x0B03 => w32 sel
  | 0x0B04 =>
    match inst with
    | some d => packed [(1, 1, 31), (d.task, 3, 24), (d.version, 8, 16), (d.typ, 16, 0)]
    | none => 0
  | 0x0B05 =>
    match inst with
    | some d => packed [(d.offset, 23, 0)]
    | none => 0
  | 0x0B10 => packed [(b.result, 8, 8), (b.exch, 3, 0)]
  | 0x0B11 => w32 b.exchCycle
  | 0x0B12 => w32 b.exchSeq
  | 0x0B13 => w32 b.matched
  | 0x0B14 => w32 b.fresh
  | 0x0B15 => w32 b.vanished
  | _ => packed [(b.refuseKind, 2, 18), (b.refuseId, 18, 0)]

/-! ### Block VOTE -/

/-- VOTE.STATE (Table 06-7). -/
def Chan.voteState (c : Chan) (me : Ch) : Word :=
  let v := c.vote
  packed [flagAt v.degWarn 16, (me.code, 2, 12), (v.probation.toNat, 3, 8), (v.inVote.toNat, 3, 4), (v.mode, 3, 0)]

/-- VOTE.LINK of a partner (Table 06-16). -/
def Vote.linkWord (v : Vote) (x : Ch) : Word :=
  packed [(v.corruptCnt.get x, 16, 16), (v.staleCnt.get x, 8, 8), (v.lateCnt.get x, 8, 0)]

/-- VOTE.VOTER (Table 06-18). -/
def Chan.voterWord (c : Chan) (net : Network) (me : Ch) : Word :=
  packed [flagAt (net.driveCut.get .a) 8, flagAt (net.driveCut.get .b) 9, flagAt (net.driveCut.get .c) 10,
    flagAt (c.vote.cut.get me.next) 4, flagAt (c.vote.cut.get me.prev) 5, flagAt c.vote.recFault 2,
    flagAt c.vote.outFault 1]

/-- Block VOTE (Tables 06-7 to 06-20). -/
def Chan.wordVote (c : Chan) (net : Network) (me : Ch) (num : Nat) : Word :=
  let v := c.vote
  let r := c.reint
  match num with
  | 0x0C00 => c.voteState me
  | 0x0C03 => w32 (c.stat 0x0C03)
  | 0x0C04 => packed [(c.degLimitHours, 8, 20), (v.degUs / 1000000, 20, 0)]
  | 0x0C06 => packed [(r.pagesLeft, 16, 16), (r.triesLeft, 4, 12), (r.agreed, 2, 8), (r.phase, 3, 0)]
  | 0x0C07 => v.lastDissent
  | 0x0C08 => packed [(v.dissentCnt.a, 10, 20), (v.dissentCnt.b, 10, 10), (v.dissentCnt.c, 10, 0)]
  | 0x0C09 => v.linkWord me.next
  | 0x0C0A => v.linkWord me.prev
  | 0x0C0B => v.injectWord
  | 0x0C0C => c.voterWord net me
  | 0x0C0D => v.outcome
  | 0x0C0E => wideWord v.t1Digest.toNat 0
  | 0x0C0F => wideWord v.t1Digest.toNat 1
  | n => w32 (c.act n)

/-! ### Blocks DIN, DOUT, TPG, SAFE and REACT -/

/-- DIN.INV: circuits invalid in any channel, or marked faulty (Table 07-8). -/
def Din.inv (d : Din) : BitVec 96 := d.anyInvalid ||| d.faulty.a ||| d.faulty.b ||| d.faulty.c

/-- Block DIN (Tables 07-6 to 07-10). -/
def Chan.wordDin (c : Chan) (num : Nat) : Word :=
  let d := c.din
  if num < 0x0D03 then wideWord d.raw.toNat (num - 0x0D00)
  else if num < 0x0D06 then wideWord d.cons.toNat (num - 0x0D03)
  else if num < 0x0D09 then wideWord d.inv.toNat (num - 0x0D06)
  else w32 (c.act num)

/-- A word with one bit for each output that a test holds of. -/
def outBits (f : Nat → Bool) : Word := w32 ((List.range 32).foldl (fun n k => n + bitAt (f k) k) 0)

/-- DOUT.GROUP (Table 07-12). -/
def Chan.groupWord (c : Chan) : Word :=
  packed ((List.range 4).flatMap (fun g =>
    [flagAt (c.din.warn.getLsbD g) (8 * g), flagAt (c.dout.sag.getLsbD g) (8 * g + 1),
      flagAt (c.nv.groupLocked.getLsbD g) (8 * g + 2), flagAt (c.dout.restore.getLsbD g) (8 * g + 3)]))

/-- DOUT.FAULT of an output (Table 07-15). -/
def Nv.faultWord (v : Nv) (n : Nat) : Word :=
  let f := v.outFault n
  packed [flagAt f.openLoad 17, flagAt f.notPicked 16, flagAt f.psrc 13, (f.partner, 5, 8), (f.pair, 2, 6), flagAt f.maint 5,
    (v.outCause n, 4, 0)]

/-- DOUT.CONF of an output: CONTACTOR and TASK come from the image (Table 07-14). -/
def Chan.confWord (c : Chan) (n : Nat) : Word :=
  let own := c.appImage.isSome
  packed [(c.act (0x0E10 + n), 28, 0), (c.ofImage (fun im => (im.contactor.getLsbD n).toNat), 1, 31),
    (if own then c.outTask n else 0, 3, 28)]

/-- Blocks DOUT and TPG (Tables 07-11 to 07-19). -/
def Chan.wordDout (c : Chan) (num : Nat) : Word :=
  match num with
  | 0x0E00 => c.dout.cmd
  | 0x0E01 => c.din.rb
  | 0x0E02 => outBits (fun n => c.nv.outCause n != 0)
  | 0x0E03 => c.groupWord
  | 0x0E04 => outBits (fun n => (c.nv.outFault n).maint)
  | 0x0F02 => c.dout.tpgLast
  | 0x0F03 => counts c.dout.pulseFail c.dout.pulseCnt
  | n =>
    if decide (0x0E10 ≤ n) && decide (n < 0x0E30) then c.confWord (n - 0x0E10)
    else if decide (0x0E30 ≤ n) && decide (n < 0x0E50) then c.nv.faultWord (n - 0x0E30)
    else w32 (c.act n)

/-- A prepare of HEDGEHOG_REARM is pending (Table 07-20: STATE 3). -/
def HostState.rearmPrepared (h : HostState) : Bool :=
  h.sessions.any (fun t => match t.prepare with
    | some p => p.opcode == 0x0205
    | none => false)

/-- SAFE.HEDGEHOG as a channel reports it (Table 07-20). -/
def State.hedgehogWord (s : State) (c : Chan) : Word :=
  let h := s.hedgehog
  packed [flagAt s.chans.a.safe.alive 16, flagAt s.chans.b.safe.alive 17, flagAt s.chans.c.safe.alive 18,
    (h.cause.toNat, 6, 8), flagAt h.copy2 5, flagAt h.copy1 4,
    (if h.st != 1 && c.host.rearmPrepared then 3 else h.st, 2, 0)] |||
    (if decide (2 ≤ c.boot.phase) && c.split then 0x2000 else 0)

/-- Block REACT of the selected entry (Tables 07-22 to 07-25). -/
def Chan.wordReact (c : Chan) (sel num : Nat) : Word :=
  if num == 0x1E01 then w32 sel
  else
    match c.appImage, decide (c.boot.phase == 7) with
    | some im, true =>
      if num == 0x1E00 then w32 im.react.length
      else
        match im.react[sel]? with
        | none => 0
        | some p =>
          if num == 0x1E02 then packed [(p.srcKind, 2, 30), (p.srcId, 18, 0)]
          else if num == 0x1E03 then packed [(p.dstKind, 2, 30), (p.dstId, 18, 0)]
          else w32 (c.react.getD sel 0)
    | _, _ => 0

/-! ### Block DOOR -/

/-- DOOR.EDGE of an edge (Table 08-11). -/
def Chan.edgeWord (c : Chan) (e : EdgeState) : Word :=
  let gs := c.edgeGates e.elem
  packed [((gs.filter (fun g => g.isolated)).length, 6, 26), (c.edgeDetail e, 8, 16), (e.state.toNat, 8, 8), (gs.length, 6, 0)]

/-- The four words of a selected gate (Table 08-13). -/
def Chan.gateWord (c : Chan) (g : GateState) (num : Nat) : Word :=
  let service := (c.appImage.bind (fun im => im.gates.find? (fun d => d.elem == g.elem))).map (fun d => d.serviceK)
  match num with
  | 0x1151 =>
    packed [flagAt (c.serviceFlag g) 31, flagAt g.isolated 30, (ceilDiv g.isolMs 60000, 10, 20), flagAt g.lk1 16,
      flagAt g.lk2 17, (g.detail, 8, 8), (g.state.toNat, 8, 0)]
  | 0x1152 => packed [(service.getD 0, 12, 20), (g.elem, 18, 0)]
  | 0x1153 => w32 g.total
  | _ => w32 g.since

/-- Block DOOR (Tables 08-6 to 08-13). -/
def Chan.wordDoor (c : Chan) (sel num : Nat) : Word :=
  let d := c.doors
  if c.appImage.isNone && !(decide (0x1101 ≤ num) && decide (num ≤ 0x1103)) then (if num == 0x1150 then w32 sel else 0)
  else if num == 0x1100 then packed [(d.gates.length, 11, 16), (d.edges.length, 7, 0)]
  else if num ≤ 0x1103 then w32 (c.act num)
  else if num == 0x1104 then
    packed [((d.gates.filter c.serviceFlag).length, 11, 16), ((d.gates.filter (fun g => g.isolated)).length, 11, 0)]
  else if num < 0x1150 then
    match d.edges[num - 0x1110]? with
    | some e => c.edgeWord e
    | none => 0
  else if num == 0x1150 then w32 sel
  else
    match d.gates[sel]? with
    | some g => c.gateWord g num
    | none => 0

/-! ### Blocks FAB, SYNC, GUARD, FRT, QM and CVU -/

/-- FAB.CONN_STATE of a connection (Table 10-13). -/
def Chan.connWord (c : Chan) (k : Nat) : Word :=
  match c.conn k with
  | none => 0
  | some d =>
    let st := (c.fab.cons.lookup k).getD default
    packed [(min st.age 255, 8, 24), (d.fresh, 4, 20), flagAt st.isSafe 19, flagAt d.inbound 18, (d.peer, 6, 6)]

/-- Block FAB (Tables 10-8 to 10-13). -/
def Chan.wordFab (c : Chan) (sel num : Nat) : Word :=
  let f := c.fab
  match num with
  | 0x1200 => packed [flagAt f.claimed 31, (f.claimant, 6, 8)]
  | 0x1201 => f.claim
  | 0x1202 => wideWord f.unreach.toNat 0
  | 0x1203 => wideWord f.unreach.toNat 1
  | 0x1204 => counts f.codeErr f.rxErr
  | 0x1205 => counts f.staleSafe f.eventDrop
  | 0x1206 => w32 sel
  | _ => c.connWord sel

/-- SYNC.DELAY of a port (Table 09-16). -/
def delayWord (d : Option Nat) : Word :=
  match d with
  | some n => packed [flagAt (decide (n ≤ 12000)) 31, (n, 14, 0)]
  | none => 0

/-- Block SYNC (Tables 09-10 to 09-18). -/
def Chan.wordSync (c : Chan) (num : Nat) : Word :=
  let y := c.sync
  match num with
  | 0x1300 => packed [(y.basic, 6, 24), (y.owlKey, 7, 16), (y.rank, 3, 8), flagAt y.compiled 4, (y.st, 3, 0)]
  | 0x1301 => w32 y.cluster
  | 0x1302 => packed [flagAt c.owlEligible 0]
  | 0x1303 => counts (signed16 y.rate) (signed16 y.offset)
  | 0x1304 => counts y.dropCnt y.maxNs
  | 0x1305 => packed [(y.conflictCnt, 8, 24), (y.takeoverCnt, 8, 16), (y.missCnt, 16, 0)]
  | 0x1306 => delayWord y.delayX
  | 0x1307 => delayWord y.delayY
  | 0x1308 => packed [(signed16 y.laneSkew, 16, 16), flagAt y.isOwl 0]
  | _ => packed [flagAt y.dupLatched 31, (y.dupDetect, 2, 24), (y.dupKey, 7, 16), (y.backoff, 16, 0)]

/-- The mode of a port's Badger (Table 09-6, R230, Table 09-19). -/
def Chan.badgerMode (c : Chan) (p : Port) : Nat :=
  if !c.portOpen p || c.sync.dupLatched then 0
  else
    match c.sync.st with
    | 1 => 1
    | 2 => Config.coldstartMode.toNat
    | 3 => if c.sync.offset.natAbs ≤ 3000 then 2 else 1
    | 4 => if c.sync.compiled && !c.holdsClaim then 2 else 3
    | _ => 0

/-- The two words of a window entry (Table 09-3). -/
def Window.words (w : Window) : List Word :=
  [packed [flagAt w.arbitrating 30, (portCode w.port, 1, 29), (w.rep, 3, 26), (w.base, 6, 20), (w.start, 10, 10), (w.len, 10, 0)],
    packed [(if w.arbitrating then 0 else w.origin, 6, 16), (if w.arbitrating then 0 else w.cls, 2, 8),
      (if w.arbitrating then w.mask.toNat else 0, 4, 0)]]

/-- The window entries loaded into the Badgers. -/
def Chan.windows (c : Chan) : List Window := (c.scheduled.map (fun sc => sc.windows)).getD []

/-- GUARD.TABLE_CRC: both ports' entries, port X first (Table 09-21). -/
def Chan.tableCrc (c : Chan) : Word :=
  match c.scheduled with
  | none => 0
  | some sc =>
    crc32c (wordsBytes ((sc.windows.filter (fun w => w.port == Port.x) ++
      sc.windows.filter (fun w => w.port == Port.y)).flatMap Window.words))

/-- Block GUARD (Tables 09-19 to 09-22). -/
def Chan.wordGuard (c : Chan) (num : Nat) : Word :=
  let g := c.guard
  let entries := fun (p : Port) => (c.windows.filter (fun w => w.port == p)).length
  match num with
  | 0x1400 => packed [flagAt g.babbleY 9, flagAt g.babbleX 8, (c.badgerMode .y, 2, 4), (c.badgerMode .x, 2, 0)]
  | 0x1401 => packed [(entries .y, 10, 22), (entries .x, 10, 12), (3, 4, 4), (2, 4, 0)]
  | 0x1402 => c.tableCrc
  | 0x1403 => counts g.rejectX g.violX
  | _ => counts g.rejectY g.violY

/-- The discovered links close a ring: every key has a neighbour on both ports. -/
def Chan.isRing (c : Chan) : Bool := c.linkEnds.length == 2 * c.laneKeys.length

/-- The topology digest expected, 0 without one. -/
def Chan.expectedDigest (c : Chan) : Nat := (c.scheduled.map (fun sc => sc.topology.toNat)).getD 0

/-- FRT.NBR (Table 10-17). -/
def Frt.nbrWord (f : Frt) : Word :=
  let key := fun (p : PortState) => (p.nbr.map (fun n => n.1)).getD 0x7F
  packed [flagAt f.portY.up 31, (key f.portY, 7, 16), flagAt f.portX.up 15, (key f.portX, 7, 0)]

/-- FRT.ROUTE to a node (Table 10-18). -/
def Chan.frtRoute (c : Chan) (node : Nat) : Word :=
  packed [flagAt (c.noRoute node) 31, ((c.fab.holder node).getD 0x7F, 7, 24), ((c.hops node .y).getD 0, 3, 8),
    ((c.hops node .x).getD 0, 3, 0)]

/-- Block FRT (Tables 10-14 to 10-18). -/
def Chan.wordFrt (c : Chan) (sel num : Nat) : Word :=
  let f := c.frt
  match num with
  | 0x1500 =>
    packed [flagAt f.fault 31, flagAt (f.complete && c.scheduled.isSome && f.digest.toNat == c.expectedDigest) 30,
      flagAt f.complete 29, flagAt (f.complete && c.isRing) 28,
      (if f.hellos.isEmpty then 0 else c.laneKeys.length, 7, 16), (f.cause, 4, 8)]
  | 0x1501 => wideWord f.digest.toNat 0
  | 0x1502 => wideWord f.digest.toNat 1
  | 0x1503 => wideWord c.expectedDigest 0
  | 0x1504 => wideWord c.expectedDigest 1
  | 0x1505 => f.nbrWord
  | 0x1506 => w32 sel
  | _ => c.frtRoute sel

/-- Free cells of a class, all reserves (Table 10-20). -/
def Qm.freeOf (q : Qm) (cls : Nat) : Nat := (q.ranges.filter (fun r => r.cls == cls)).foldl (fun n r => n + r.free) 0

/-- Blocks QM and CVU (Tables 10-19 to 10-24). -/
def Chan.wordQm (c : Chan) (sel num : Nat) : Word :=
  let q := c.qm
  let x := q.ctxs.getD sel default
  match num with
  | 0x1608 => packed [(q.eccFixed, 16, 16), (q.eccUe, 8, 8), (q.rebuilds, 8, 0)]
  | 0x1609 => packed [(q.flushes, 16, 16), (q.discards, 8, 8)]
  | 0x160A => packed [(q.late, 16, 16), (q.restarts, 8, 8)]
  | 0x1700 => counts q.crcX q.txCutX
  | 0x1701 => counts q.crcY q.txCutY
  | 0x1702 => w32 sel
  | 0x1703 => packed [flagAt x.1 31, (x.2.1, 2, 24), (x.2.2.1, 24, 0)]
  | 0x1704 => wideWord x.2.2.2.toNat 0
  | 0x1705 => wideWord x.2.2.2.toNat 1
  | n => if n < 0x1604 then w32 (c.stat n) else w32 (q.freeOf (n - 0x1604))

/-! ### Blocks PART and REC -/

/-- PART.STATE (Table 11-6). -/
def Chan.partState (c : Chan) : Word :=
  let p := c.part
  packed [(p.role, 2, 28), flagAt c.res.restart 27, flagAt (p.switchAt != 0) 26, (p.sync, 2, 24), (p.partnerRole, 2, 20),
    flagAt p.seen 19, (p.backlog.length, 8, 8), (p.cause, 4, 0)]

/-- PART.RESTART (Table 11-14). -/
def Chan.restartWord (c : Chan) : Word :=
  let held := (List.range c.res.aux.length).filter (fun r => (c.res.aux.getD r default).restartHeld)
  packed [(held.length, 12, 16), (ceilDiv (held.foldl (fun n r => max n (c.res.rstate.getD r default).timer) 0) 10, 10, 0)]

/-- Block PART (Tables 11-6 to 11-15). -/
def Chan.wordPart (c : Chan) (num : Nat) : Word :=
  let p := c.part
  match num with
  | 0x1800 => c.partState
  | 0x1801 => p.claim
  | 0x1802 => p.partnerClaim
  | 0x1803 => w32 c.nv.eSeen
  | 0x1805 =>
    packed [(p.missX3, 8, 24), (p.missLane, 8, 16), (p.runX3, 4, 12), (p.runLane, 4, 8), flagAt p.loop 2, flagAt p.lostCons 1,
      flagAt c.lost 0]
  | 0x1806 => packed [(p.pagesLeft, 16, 16), (p.phase, 3, 0)]
  | 0x1808 => w32 p.applied
  | 0x1809 => w32 p.switchAt
  | 0x180A => c.restartWord
  | 0x180B =>
    packed [(c.nv.takeoverCnt, 8, 24), (c.nv.demoteCnt, 8, 16), (c.nv.syncLossCnt, 8, 8), (c.nv.abandonCnt, 8, 0)]
  | n => w32 (c.act n)

/-- REC.STATUS (Table 14-7). -/
def Chan.recStatus (c : Chan) : Word :=
  let r := c.recd
  packed [flagAt c.vote.recFault 31, flagAt (c.nv.permBase != 0) 30,
    flagAt (c.nv.permBase != 0 && decide (c.nv.permBase + 65535 ≤ c.nv.head)) 29, flagAt r.flushing 28,
    (r.flushCause, 2, 26), (r.dissentRun, 2, 2), flagAt r.pending.isSome 1]

/-- The high word of a 48-bit SEQ. -/
def seqHigh (n : Nat) : Word := packed [(n / 2 ^ 32, 16, 0)]

/-- Block REC (Tables 14-7 to 14-13). -/
def Chan.wordRec (c : Chan) (num : Nat) : Word :=
  let r := c.recd
  match num with
  | 0x1900 => c.recStatus
  | 0x1901 => w32 c.nv.head
  | 0x1902 => seqHigh c.nv.head
  | 0x1903 => w32 c.nv.permBase
  | 0x1904 => seqHigh c.nv.permBase
  | 0x1905 => w32 c.nv.floor
  | 0x1906 => seqHigh c.nv.floor
  | 0x1907 => w32 r.diag.length
  | 0x1908 => packed [(r.lostCnt, 16, 16), (r.dissentCnt, 8, 8), (r.damagedCnt, 8, 0)]
  | 0x1909 => w32 c.nv.start
  | _ => w32 c.nv.corrections.length

/-! ### Blocks HOST, BOOT, CAL and BIST -/

/-- HOST.SESSIONS (Table 15-16). -/
def HostState.sessionsWord (h : HostState) : Word :=
  packed ((List.range 8).flatMap (fun k =>
    let t := h.sessions.find? (fun t => t.id == k + 1)
    [flagAt t.isSome k, flagAt (match t with
      | some t => t.prepare.isSome
      | none => false) (8 + k)]))

/-- HOST.SESS_INFO (Table 15-21). -/
def Chan.sessInfo (c : Chan) (t : Session) : Word := counts (min ((c.clock - t.lastAt) / 1000000) 65535) t.port

/-- Block HOST (Tables 15-12 to 15-21). -/
def Chan.wordHost (c : Chan) (f : Factory) (num : Nat) : Word :=
  let h := c.host
  match num with
  | 0x1A05 => wideWord f.mac.toNat 0
  | 0x1A06 => wideWord f.mac.toNat 1
  | 0x1A07 => h.sessionsWord
  | 0x1A08 => packed [(h.queue.length, 9, 16), (min h.listed.length 63, 6, 0)]
  | 0x1A09 => counts h.acceptedCnt h.rxCnt
  | 0x1A0A => packed [(h.crcCnt, 8, 24), (h.discardCnt, 8, 16), (h.notAgreedCnt, 8, 8), (h.gapCnt, 8, 0)]
  | 0x1A0B => h.lastReject
  | n =>
    if n < 0x1A05 then w32 (c.stat n)
    else
      let k := (n - 0x1A10) % 8
      match h.sessions.find? (fun t => t.id == k + 1) with
      | none => 0
      | some t => if n < 0x1A18 then t.addr else c.sessInfo t

/-- BOOT.STATUS (Table 16-12). -/
def Chan.bootStatus (c : Chan) : Word := packed [flagAt c.boot.stopped 20, (c.boot.phase, 3, 16), (c.boot.code, 16, 0)]

/-- BOOT.LOAD (Table 16-15); while the flash write runs its progress is a free value. -/
def Chan.loadWord (c : Chan) (draw : Nat) : Word :=
  let l := c.load
  packed [flagAt l.busy 31, flagAt l.writing 30, (l.kind, 2, 28), (l.session, 3, 16),
    (if l.writing then (Config.kibWritten draw).toNat else l.bytes.length / 1024, 16, 0)]

/-- Block BOOT (Tables 16-12 to 16-15). -/
def Chan.wordBoot (c : Chan) (draw num : Nat) : Word :=
  match num with
  | 0x1B00 => c.bootStatus
  | 0x1B01 => c.boot.detail
  | 0x1B02 => w32 c.boot.ms
  | 0x1B03 =>
    packed [flagAt c.boot.unprog 17, flagAt c.boot.fwFallback 16, (c.nv.app1.marker, 4, 12), (c.nv.app0.marker, 4, 8),
      (c.nv.fw1.marker, 4, 4), (c.nv.fw0.marker, 4, 0)]
  | _ => c.loadWord draw

/-- An offset in its field of eight bits (Table 16-18). -/
def offsetWord (i : Int) : Word := w32 (BitVec.ofInt 8 i).toNat

/-- Block CAL (Tables 16-16 to 16-18). -/
def Chan.wordCal (c : Chan) (num : Nat) : Word :=
  let k := c.cal
  if num == 0x1C00 then packed [flagAt k.factOk 31, flagAt k.userDefault 30, (k.count, 16, 0)]
  else if num == 0x1C01 then w32 k.feedWarn
  else if num < 0x1C70 then offsetWord (k.di.getD (num - 0x1C10) 0)
  else offsetWord (k.rb.getD (num - 0x1C70) 0)

/-- Block BIST (Tables 13-3 to 13-9). -/
def Chan.wordBist (c : Chan) (num : Nat) : Word :=
  let b := c.bist
  match num with
  | 0x1D00 => w32 (c.stat 0x1D00)
  | 0x1D01 => packed [flagAt b.active 31, flagAt b.late 30, (b.block, 6, 20), (b.done, 10, 0)]
  | 0x1D02 =>
    packed [flagAt c.mem.bankFault 26, flagAt c.nv.spareExh 25, flagAt (c.mem.sramHard != 0) 24, (b.fail.toNat, 18, 0)]
  | 0x1D03 => counts b.rounds b.lastS
  | 0x1D04 => counts b.abandonCnt b.sliceCnt
  | 0x1D05 => b.lastFail
  | _ => c.dout.switchAll

/-! ### Every parameter -/

/-- The session selector that a block's words are read through (R437). -/
def selectorOf (block : Nat) : Nat :=
  match block with
  | 0x04 => 0x040A
  | 0x09 => 0x0900
  | 0x0B => 0x0B03
  | 0x11 => 0x1150
  | 0x12 => 0x1206
  | 0x15 => 0x1506
  | 0x17 => 0x1702
  | 0x1E => 0x1E01
  | _ => 0

/-- What an assigned parameter reads in one channel, `sel` being the selector of its block in the reading session (R436). -/
def State.word (s : State) (ch : Ch) (sel num : Nat) : Word :=
  let c := s.ch ch
  match num / 256 with
  | 0x00 => c.wordId s.factory ch num
  | 0x01 | 0x02 | 0x03 => c.wordSys num
  | 0x04 => c.wordMem s.factory.variant sel num
  | 0x05 | 0x06 => c.wordArb num
  | 0x07 | 0x08 => c.wordTile num
  | 0x09 => c.wordRoute sel num
  | 0x0A => c.wordTask num
  | 0x0B => c.wordFb sel num
  | 0x0C => c.wordVote s.net ch num
  | 0x0D => c.wordDin num
  | 0x0E | 0x0F => c.wordDout num
  | 0x10 => if num == 0x1000 then s.hedgehogWord c else counts c.safe.tripCycle c.safe.tripCnt
  | 0x11 => c.wordDoor sel num
  | 0x12 => c.wordFab sel num
  | 0x13 => c.wordSync num
  | 0x14 => c.wordGuard num
  | 0x15 => c.wordFrt sel num
  | 0x16 | 0x17 => c.wordQm sel num
  | 0x18 => c.wordPart num
  | 0x19 => c.wordRec num
  | 0x1A => c.wordHost s.factory num
  | 0x1B => c.wordBoot s.draws num
  | 0x1C => c.wordCal num
  | 0x1D => c.wordBist num
  | 0x1E => c.wordReact sel num
  | _ => 0

/-! ### What a read clears (R434) -/

/-- The receive error counts of one link cleared. -/
def Vote.clearLink (v : Vote) (x : Ch) : Vote :=
  { v with corruptCnt := v.corruptCnt.set x 0, staleCnt := v.staleCnt.set x 0, lateCnt := v.lateCnt.set x 0 }

/-- The RC fields of blocks CLK to FB, and of VOTE, cleared. -/
def Chan.clear1 (c : Chan) (me : Ch) (num : Nat) : Chan :=
  match num with
  | 0x0200 => { c with vote := { c.vote with skewCnt := 0 } }
  | 0x0201 => { c with din := { c.din with stallCnt := 0, gapCnt := 0 } }
  | 0x0302 => { c with seals := { c.seals with glitch := 0 } }
  | 0x0402 => { c with mem := { c.mem with ceDram := 0, ceSram := 0 } }
  | 0x0403 => { c with mem := { c.mem with ueDram := 0, ueSram := 0 } }
  | 0x0503 => { c with mem := { c.mem with fixed := 0, scrubUe := 0, scrubPoisoned := 0 } }
  | 0x0611 => { c with arb := { c.arb with cutCnt := 0 } }
  | 0x0703 => { c with tiles := { c.tiles with reloadCnt := 0, vfailCnt := 0 } }
  | 0x0801 => { c with res := { c.res with passMax := 0 } }
  | 0x0807 => { c with res := { c.res with rejectCnt := 0, acceptCnt := 0 } }
  | 0x0C08 => { c with vote := { c.vote with dissentCnt := Tri.const 0 } }
  | 0x0C09 => { c with vote := c.vote.clearLink me.next }
  | 0x0C0A => { c with vote := c.vote.clearLink me.prev }
  | _ => c

/-- The RC fields of blocks TPG to BIST cleared. -/
def Chan.clear2 (c : Chan) (num : Nat) : Chan :=
  match num with
  | 0x0F03 => { c with dout := { c.dout with pulseFail := 0, pulseCnt := 0 } }
  | 0x1001 => { c with safe := { c.safe with tripCnt := 0 } }
  | 0x1204 => { c with fab := { c.fab with codeErr := 0, rxErr := 0 } }
  | 0x1205 => { c with fab := { c.fab with staleSafe := 0, eventDrop := 0 } }
  | 0x1304 => { c with sync := { c.sync with dropCnt := 0, maxNs := 0 } }
  | 0x1305 => { c with sync := { c.sync with conflictCnt := 0, takeoverCnt := 0, missCnt := 0 } }
  | 0x1403 => { c with guard := { c.guard with rejectX := 0, violX := 0 } }
  | 0x1404 => { c with guard := { c.guard with rejectY := 0, violY := 0 } }
  | 0x1608 => { c with qm := { c.qm with eccFixed := 0, eccUe := 0, rebuilds := 0 } }
  | 0x1609 => { c with qm := { c.qm with flushes := 0, discards := 0 } }
  | 0x160A => { c with qm := { c.qm with late := 0, restarts := 0 } }
  | 0x1700 => { c with qm := { c.qm with crcX := 0, txCutX := 0 } }
  | 0x1701 => { c with qm := { c.qm with crcY := 0, txCutY := 0 } }
  | 0x1805 => { c with part := { c.part with missX3 := 0, missLane := 0 } }
  | 0x180B => { c with nv := { c.nv with takeoverCnt := 0, demoteCnt := 0, syncLossCnt := 0, abandonCnt := 0 } }
  | 0x1908 => { c with recd := { c.recd with lostCnt := 0, dissentCnt := 0, damagedCnt := 0 } }
  | 0x1A09 => { c with host := { c.host with acceptedCnt := 0, rxCnt := 0 } }
  | 0x1A0A => { c with host := { c.host with crcCnt := 0, discardCnt := 0, notAgreedCnt := 0, gapCnt := 0 } }
  | 0x1D04 => { c with bist := { c.bist with abandonCnt := 0, sliceCnt := 0 } }
  | _ => c

/-- The RC fields of a word cleared by its read. -/
def Chan.clearRead (c : Chan) (me : Ch) (num : Nat) : Chan :=
  if decide (0x0618 ≤ num) && decide (num < 0x0620) then
    { c with arb := { c.arb with waitMax := c.arb.waitMax.set (num - 0x0618) 0 } }
  else if num / 256 == 0x0A && (num - 0x0A10) % 16 == 3 then
    c.modTask ((num - 0x0A10) / 16) (fun k => { k with skipCnt := 0, ovrCnt := 0 })
  else if num / 256 == 0x0A && (num - 0x0A10) % 16 == 5 then
    c.modTask ((num - 0x0A10) / 16) (fun k => { k with execMax := 0 })
  else (c.clear1 me num).clear2 num

end Sys2Proof.Machine
end

