-- ==== Sys2Proof/Machine/Operands.lean ====
section
/-! DEFINITION. The packet of a host command (spec/15_host_commands.md R379, R380, R385, R390, R396, R454): its bytes, its digest,
the size of its parameters, and the checks of their values (R384, R393, R398, R433, R449). -/

namespace Sys2Proof.Machine

open Sys2Proof

/-! ### Status codes (Table 15-5) -/

/-- BAD_LENGTH. -/
def badLength : Nat := 0x22

/-- BAD_PARAM. -/
def badParam : Nat := 0x23

/-- REFUSED. -/
def refusedCode : Nat := 0x60

/-! ### Bytes of a packet -/

/-- A channel named in the low bits of a mask (Table 15-1). -/
def inMask (m : BitVec 3) (ch : Ch) : Bool := m.getLsbD ch.code

/-- The header of a command packet with the CHMASK given (Table 15-1). -/
def headerBytes (opcode : Nat) (p : Pkt) (chmask : Nat) : List Byte :=
  bytesOfNat 2 p.magic ++ bytesOfNat 1 p.version ++ bytesOfNat 1 (chmask + bitAt p.reply 7) ++ bytesOfNat 2 p.session ++
    bytesOfNat 2 opcode ++ wordBytes p.seq ++ bytesOfNat 2 p.length ++ bytesOfNat 2 0

/-- The CRC-32 of the packet (R379). -/
def packetCrc (opcode : Nat) (p : Pkt) : Word := crc32 (headerBytes opcode p p.chmask.toNat ++ p.params)

/-- The DIGEST of a vital command: CRC-64 over the header with CHMASK 0 and the parameters (Table 15-3). -/
def packetDigest (opcode : Nat) (p : Pkt) : BitVec 64 := crc64 (headerBytes opcode p 0 ++ p.params)

/-- The packet's CRC fails at a channel (R380). -/
def crcFails (opcode : Nat) (p : Pkt) (ch : Ch) : Bool := p.crc.get ch != packetCrc opcode p

/-- The packet is discarded at a channel whatever else it says (R379, R380), its CRC apart. -/
def discarded (p : Pkt) (ch : Ch) : Bool :=
  p.magic != 0x5848 || p.length != p.params.length || decide (1440 < p.params.length) || !inMask p.chmask ch || p.reply

/-! ### Sizes (Table 15-4, R454) -/

/-- Parameter bytes of an opcode beside the 4 bytes of R390; none where they depend on a count. -/
def fixedSize (opcode : Nat) : Option Nat :=
  match opcode with
  | 0x0100 | 0x0102 | 0x0301 | 0x0701 => none
  | 0x0101 | 0x0201 | 0x0202 | 0x0207 | 0x0209 | 0x020A => some 4
  | 0x0203 | 0x0204 | 0x0208 => some 1
  | 0x0206 | 0x0300 => some 6
  | 0x0402 => some 2
  | 0x0500 | 0x0501 | 0x0502 | 0x0503 | 0x0504 | 0x0505 | 0x0506 | 0x0507 | 0x0508 | 0x0509 => some 4
  | 0x050A | 0x0601 | 0x0603 => some 1
  | 0x0600 => some 32
  | 0x0602 => some 424
  | 0x0700 => some 4
  | _ => some 0

/-- Critical opcodes: family 0x02xx (R390). -/
def isCritical (opcode : Nat) : Bool := opcode / 256 == 2

/-- The parameters of the command itself: those of a critical one follow 4 bytes (R390). -/
def ownParams (opcode : Nat) (ps : List Byte) : List Byte := if isCritical opcode then ps.drop 4 else ps

/-- The parameters have the size that the opcode asks for (R396, R454). -/
def sizeFits (opcode : Nat) (ps : List Byte) : Bool :=
  match fixedSize opcode with
  | some n => ps.length == (if isCritical opcode then n + 4 else n)
  | none =>
    match opcode with
    | 0x0100 => decide (2 ≤ ps.length) && ps.length == 2 + 2 * fieldAt ps 0 2
    | 0x0301 => decide (6 ≤ ps.length) && ps.length == 6 + fieldAt ps 4 2 && decide (fieldAt ps 4 2 ≤ 1024)
    | _ => decide (2 ≤ ps.length) && ps.length == 2 + 8 * fieldAt ps 0 2

/-! ### Values -/

/-- An ID of this node with zeros above it (R393, R454). -/
def Chan.ownId (c : Chan) (id : Nat) : Bool := decide (id < 2 ^ 18) && idNode id == c.node

/-- The type of an element of this node; 0 where there is none. -/
def Chan.typeOf (c : Chan) (id : Nat) : Nat :=
  match c.appImage with
  | some im => if c.ownId id && decide (idLocal id < im.elemSpan) then (im.elem (idLocal id)).typ else 0
  | none => 0

/-- A route of this node. -/
def Chan.isRoute (c : Chan) (id : Nat) : Bool :=
  match c.appImage with
  | some im => c.ownId id && im.routeUsed (idLocal id)
  | none => false

/-- STEP, the reserved byte and CHALLENGE of a critical command (R390). -/
def criticalOk (ps : List Byte) : Bool :=
  let step := fieldAt ps 0 1
  (step == 1 && fieldAt ps 1 1 == 0 && fieldAt ps 2 2 == 0) || (step == 2 && fieldAt ps 1 1 == 0)

/-- The values of a vital command with one target (Table 15-4; R219, R393). -/
def Chan.targetOk (c : Chan) (opcode : Nat) (q : List Byte) : Bool :=
  let id := fieldAt q 0 4
  match opcode with
  | 0x0201 => c.isRoute id
  | 0x0202 => c.isRoute id || c.typeOf id != 0
  | 0x0203 => decide (fieldAt q 0 1 < 8)
  | 0x0204 => decide (fieldAt q 0 1 < 32) || (decide (0x81 ≤ fieldAt q 0 1) && decide (fieldAt q 0 1 ≤ 0x84))
  | 0x0206 =>
    let m := fieldAt q 4 2
    c.typeOf id == 0x19 && (m == 0 || (decide (10 ≤ m) && decide (m ≤ 720)))
  | 0x0207 => c.typeOf id == 0x20
  | 0x0208 => decide (fieldAt q 0 1 < 3)
  | 0x0507 | 0x0508 | 0x0509 => c.typeOf id == 0x19
  | 0x0500 | 0x0501 | 0x0502 | 0x0503 | 0x0504 | 0x0505 => c.ownId id
  | _ => true

/-- A number of block CAL that CAL_WRITE names, with a value in its range (R423, R424, R428). -/
def calValueOk (num : Nat) (w : Word) : Bool :=
  let off := offsetOf w
  if num == 0x1C01 then decide (170 ≤ w.toNat) && decide (w.toNat ≤ 240)
  else if decide (0x1C10 ≤ num) && decide (num < 0x1C70) then decide (w.toNat < 256) && decide (off.natAbs ≤ 100)
  else decide (0x1C70 ≤ num) && decide (num < 0x1C90) && decide (w.toNat < 256) && decide (off.natAbs ≤ 50)

/-- The first entry of a CAL_WRITE that fails. -/
def calEntryFault (q : List Byte) : Option Nat :=
  (List.range (fieldAt q 0 2)).find? (fun k =>
    !(decide (fieldAt q (2 + 8 * k) 1 < 3) && fieldAt q (3 + 8 * k) 1 == 0 &&
      calValueOk (fieldAt q (4 + 8 * k) 2) (w32 (fieldAt q (6 + 8 * k) 4))))

/-- What is wrong with one entry of a WRITE_PARAM (R9, R340, R429, R449); 0 if nothing. -/
def Chan.writeFault (c : Chan) (num pad : Nat) (w : Word) : Nat :=
  match paramRow num, paramWrite num with
  | none, _ => 0x25
  | some _, none => 0x26
  | some r, some pw =>
    if pad != 0 || pw.reserved w || !pw.ok w then badParam
    else if r.cls == PClass.immediate && !c.immediateOk num w true then badParam
    else 0

/-- The first failing entry of a WRITE_PARAM: its status and index. Entries are applied in packet order, so each is checked
against the slot table that the ones before it leave (R340, R433). -/
def firstWriteFault : Chan → Nat → List (Nat × Nat × Word) → Option (Nat × Nat)
  | _, _, [] => none
  | c, k, e :: es =>
    match c.writeFault e.1 e.2.1 e.2.2 with
    | 0 => firstWriteFault (if e.1 / 256 == 6 then c.writeImmediate e.1 e.2.2 else c) (k + 1) es
    | st => some (st, k)

/-- The entries of a WRITE_PARAM with the two bytes that are 0. -/
def rawEntries (q : List Byte) : List (Nat × Nat × Word) :=
  (List.range (fieldAt q 0 2)).map (fun k =>
    (fieldAt q (2 + 8 * k) 2, fieldAt q (4 + 8 * k) 2, w32 (fieldAt q (6 + 8 * k) 4)))

/-- A WRITE_PARAM names a parameter that changes vital state (R384, R432). -/
def writesVital (q : List Byte) : Bool :=
  (writeEntries q).any (fun e => match paramRow e.1 with
    | some r => r.vital
    | none => false)

/-- A vital command: marked vital in Table 15-4, or a WRITE_PARAM of a V parameter; none in SPLIT mode (R180, R384). -/
def Chan.isVital (c : Chan) (opcode : Nat) (ps : List Byte) : Bool :=
  !c.split &&
    (isCritical opcode || opcode == 0x0303 || opcode == 0x0304 || opcode == 0x0701 || opcode == 0x0800 || opcode == 0x0801 ||
      (decide (0x0500 ≤ opcode) && decide (opcode ≤ 0x0509) && opcode != 0x0506) ||
      (opcode == 0x0102 && sizeFits opcode ps && writesVital ps))

/-- The first check that the parameters of a vital command, or of any WRITE_PARAM or CAL_WRITE, fail: status and DETAIL
(R384, R398). -/
def Chan.paramFault (c : Chan) (opcode : Nat) (ps : List Byte) : Option (Nat × Nat) :=
  let q := ownParams opcode ps
  let n := fieldAt q 0 2
  if isCritical opcode && !criticalOk ps then some (badParam, 0)
  else if opcode == 0x0102 then
    if n == 0 || decide (64 < n) then some (badParam, 0) else firstWriteFault c 0 (rawEntries q)
  else if opcode == 0x0701 then
    if n == 0 || decide (64 < n) then some (badParam, 0) else (calEntryFault q).map (fun k => (badParam, k))
  else if c.targetOk opcode q then none
  else some (badParam, 0)

end Sys2Proof.Machine
end

