-- ==== Sys2Proof/Machine/Sessions.lean ====
section
/-! DEFINITION. The way of a host packet to its handler (spec/15_host_commands.md R377 to R384, R399): the hub, the discards,
admission, sessions, duplicates and the budget; and the commands about the port and sessions themselves. -/

namespace Sys2Proof.Machine

open Sys2Proof

/-! ### Answers -/

/-- An answer to a packet from one channel (R378, R380, R398). -/
def State.answer (s : State) (ch : Ch) (opcode : Nat) (p : Pkt) (status : Nat) (params : List Byte) : State :=
  s.respond
    { ch := ch, addr := p.addr, port := p.port, session := p.session, opcode := opcode, seq := p.seq, status := status
      params := params }

/-- An answer whose only parameter, if any, is DETAIL. -/
def State.deny (s : State) (ch : Ch) (opcode : Nat) (p : Pkt) (status detail : Nat) : State :=
  s.answer ch opcode p status (detailed status detail)

/-! ### Admission (R383, Table 15-2) -/

/-- GET_STATUS and GET_IDENTITY are admitted in every phase. -/
def alwaysAdmitted (opcode : Nat) : Bool := opcode == 1 || opcode == 2

/-- Requests and gate commands: 0x0500 to 0x0505 and 0x0507 to 0x0509. -/
def isRequest (opcode : Nat) : Bool := decide (0x0500 ≤ opcode) && decide (opcode ≤ 0x0509) && opcode != 0x0506

/-- What SPLIT mode does not admit. -/
def splitAnswer (opcode : Nat) (p : Pkt) : Option Nat :=
  if opcode / 256 == 2 || (decide (0x0500 ≤ opcode) && decide (opcode ≤ 0x0509)) || opcode / 256 == 8 then some 0x14
  else if p.chmask == 1 || p.chmask == 2 || p.chmask == 4 then none
  else some 0x24

/-- What unprogrammed mode does not admit. -/
def noImageAnswer (opcode : Nat) : Option Nat :=
  let allowed := [0x0204, 0x0205, 0x0208, 0x020B, 0x020C].contains opcode
  if (opcode / 256 == 2 && !allowed) || opcode == 0x0303 || opcode == 0x0304 ||
      (decide (0x0500 ≤ opcode) && decide (opcode ≤ 0x0509)) then some 0x15
  else none

/-- What a standby does not admit. -/
def standbyAnswer (opcode : Nat) (ps : List Byte) : Option Nat :=
  let allowed := [0x0208, 0x020B, 0x020C].contains opcode
  if isRequest opcode || (isCritical opcode && !allowed) || (opcode == 0x0102 && sizeFits opcode ps && writesVital ps) then
    some 0x12
  else none

/-- The answer to a packet that is not admitted: the first row of Table 15-2 that applies. `sealed` says that the module's seal has
changed. -/
def Chan.admission (c : Chan) (sealed : Bool) (opcode : Nat) (p : Pkt) : Option Nat :=
  if decide (c.boot.phase < 7) && !c.boot.stopped && !alwaysAdmitted opcode then some 0x10
  else if (c.statusOnly || sealed) && !alwaysAdmitted opcode then some 0x11
  else
    match (if c.split then splitAnswer opcode p else none) with
    | some st => some st
    | none =>
      match (if c.boot.unprog then noImageAnswer opcode else none) with
      | some st => some st
      | none => if c.part.role == 2 then standbyAnswer opcode p.params else none

/-! ### Sessions (R381, R382, R399) -/

/-- The open session that a packet names, bound to its source. -/
def Chan.boundSession (c : Chan) (p : Pkt) : Option Session :=
  (c.host.session p.session).filter (fun t => t.addr == p.addr && t.port == p.port)

/-- A SEQ later than the last one accepted in the session, in its window; any is for the first. -/
def Session.isNew (t : Session) (seq : Word) : Bool :=
  match t.lastSeq with
  | none => true
  | some last =>
    let d := (seq - last).toNat
    decide (0 < d) && decide (d < 2 ^ 31)

/-- A gap before this SEQ. -/
def Session.isGap (t : Session) (seq : Word) : Bool :=
  match t.lastSeq with
  | none => false
  | some last => seq - last != 1

/-- One session changed. -/
def HostState.modSession (h : HostState) (id : Nat) (f : Session → Session) : HostState :=
  { h with sessions := h.sessions.map (fun (t : Session) => if t.id == id then f t else t) }

/-- A packet accepted in its session (R382). -/
def Session.accepted (t : Session) (seq crc : Word) (now : Nat) : Session :=
  { t with
    lastSeq := some seq
    heard := (({ seq := seq, crc := crc, reply := none } : Heard) :: t.heard).take 4
    waiting := t.waiting + 1
    lastAt := now }

/-- The packet accepted at a channel. -/
def Chan.takePacket (c : Chan) (t : Session) (p : Pkt) (crc : Word) : Chan :=
  let h := c.host.modSession t.id (fun u => u.accepted p.seq crc c.clock)
  { c with host := { h with gapCnt := if t.isGap p.seq then inc 8 h.gapCnt else h.gapCnt } }

/-- A session closed: its prepare, snapshot, selectors and results go (R381). -/
def HostState.close (h : HostState) (id : Nat) : HostState :=
  { h with
    sessions := h.sessions.filter (fun t => t.id != id)
    results := h.results.filter (fun r => r.session != id) }

/-! ### The way in -/

/-- The datagram is sent to the module's address and port (R378). -/
def State.forHost (s : State) (p : Pkt) : Bool :=
  match s.hostAddress with
  | some [ip, _, _, port] => p.target.toNat == ip && p.dport == port
  | _ => false

/-- The channel receives host packets: it runs, from P1 on, and the hub knows its address (R33, R378, R403). -/
def State.hears (s : State) (ch : Ch) (p : Pkt) : Bool :=
  let c := s.ch ch
  s.hub.alive && s.forHost p && c.live && !c.supply.powerFail && decide (1 ≤ c.boot.phase) && !inMask p.lost ch

/-- The opcodes of Table 15-4. -/
def isOpcode (n : Nat) : Bool :=
  [0x0001, 0x0002, 0x0003, 0x0004, 0x0005, 0x0100, 0x0101, 0x0102, 0x0300, 0x0301, 0x0302, 0x0303, 0x0304, 0x0400, 0x0401,
    0x0402, 0x0403, 0x0600, 0x0601, 0x0602, 0x0603, 0x0700, 0x0701, 0x0800, 0x0801].contains n ||
    (decide (0x0201 ≤ n) && decide (n ≤ 0x020C)) || (decide (0x0500 ≤ n) && decide (n ≤ 0x050A))

/-- An accepted or sessionless packet: any other opcode is answered BAD_OPCODE (R396), vital commands need every channel
addressed (R384), parameters their size; the rest is the handler's. -/
def State.handle (s : State) (ch : Ch) (opcode : Nat) (p : Pkt) (f : State → State) : State :=
  if !isOpcode opcode then s.deny ch opcode p 0x21 0
  else if (s.ch ch).isVital opcode p.params && p.chmask != 7 then s.deny ch opcode p 0x24 0
  else if !sizeFits opcode p.params then s.deny ch opcode p badLength 0
  else f s

/-- A packet of an open session (R382, R399): a duplicate has its reply sent again, a fifth that awaits its reply is
answered BUDGET, any other is accepted and handled. -/
def State.inSession (s : State) (ch : Ch) (opcode : Nat) (p : Pkt) (t : Session) (f : State → State) : State :=
  let crc := packetCrc opcode p
  if !t.isNew p.seq then
    match t.heard.find? (fun h => h.crc == crc) with
    | some h =>
      match h.reply with
      | some r => s.reply { r with ch := ch }
      | none => s
    | none => s.deny ch opcode p 0x32 0
  else if 4 ≤ t.waiting then s.deny ch opcode p 0x41 0
  else (s.mod ch (fun c => c.takePacket t p crc)).handle ch opcode p f

/-- A packet that no discard check holds back (R381, R383): admission, version, session. -/
def State.admitted (s : State) (ch : Ch) (opcode : Nat) (p : Pkt) (f : State → State) : State :=
  let c := s.ch ch
  match c.admission s.sealActed opcode p with
  | some st => s.deny ch opcode p st 0
  | none =>
    if p.version != 1 then s.deny ch opcode p 0x20 0
    else if opcode == 1 || opcode == 2 || opcode == 3 then s.handle ch opcode p f
    else
      match c.boundSession p with
      | none => s.deny ch opcode p 0x30 0
      | some t => s.inSession ch opcode p t f

/-- A packet at one channel (R380): counted, and discarded or passed on. -/
def State.receive (s : State) (ch : Ch) (opcode : Nat) (p : Pkt) (f : State → State) : State :=
  if !s.hears ch p then s
  else
    let s := s.mod ch (fun c => { c with host := { c.host with rxCnt := inc 16 c.host.rxCnt } })
    if crcFails opcode p ch then s.mod ch (fun c => { c with host := { c.host with crcCnt := inc 8 c.host.crcCnt } })
    else if discarded p ch then
      s.mod ch (fun c => { c with host := { c.host with discardCnt := inc 8 c.host.discardCnt } })
    else s.admitted ch opcode p f

/-- A datagram passed by the hub to the three channels, each of which handles and answers it on its own (R378, R380). -/
def State.packet (s : State) (opcode : Nat) (p : Pkt) (f : Ch → State → State) : State :=
  Ch.all.foldl (fun s ch => s.receive ch opcode p (f ch)) s

/-! ### The port (R377) -/

/-- ARP: the hub answers a request for its address. -/
def execArp (target : Word) (s : State) : Host.Outcome State Fault Refusal :=
  match s.hub.alive, s.hostAddress with
  | true, some (ip :: _) => .next (if target.toNat == ip then { s with hub := { s.hub with arps := s.hub.arps + 1 } } else s)
  | _, _ => .next s

/-- The echoes answered in the second up to a time of the hub in ms. -/
def Hub.echoesSince (h : Hub) (now : Nat) : List Nat := h.echoAt.filter (fun t => decide (now < t + 1000))

/-- ICMP echo at a time of the hub in ms: payloads up to 1,472 bytes, at most 10 answers a second. -/
def execIcmpEcho (target : Word) (size now : Nat) (s : State) : Host.Outcome State Fault Refusal :=
  match s.hub.alive, s.hostAddress with
  | true, some (ip :: _) =>
    .next (if target.toNat == ip && decide (size ≤ 1472) && decide ((s.hub.echoesSince now).length < 10) then
      { s with hub := { s.hub with echoes := s.hub.echoes + 1, echoAt := now :: s.hub.echoesSince now } }
    else s)
  | _, _ => .next s

/-! ### Status and identity -/

/-- The reply parameters of GET_STATUS (Table 15-8). -/
def State.statusBytes (s : State) (ch : Ch) : List Byte :=
  let c := s.ch ch
  bytesOfNat 1 c.boot.phase ++ bytesOfNat 1 c.vote.mode ++ bytesOfNat 2 (if c.boot.phase == 7 then 0 else c.boot.code) ++
    wordsBytes [c.voteState ch, c.partState, s.hedgehogWord c, c.wordSync 0x1300, w32 c.mainCycle,
      w32 (c.ofImage (fun im => im.imageSeq))]

/-- GET_STATUS (R397). -/
def execGetStatus (p : Pkt) (s : State) : Host.Outcome State Fault Refusal :=
  .next (s.packet 0x0001 p (fun ch s => s.answer ch 0x0001 p 0 (s.statusBytes ch)))

/-- P1 has ended in this channel. -/
def Chan.sealKnown (c : Chan) : Bool := decide (2 ≤ c.boot.phase)

/-- The reply parameters of GET_IDENTITY (R420). -/
def State.identityBytes (s : State) (ch : Ch) : List Byte :=
  let c := s.ch ch
  let f := s.factory
  bytesOfNat 8 f.serial.toNat ++ bytesOfNat 1 ch.code ++ bytesOfNat 1 (variantCode f.variant) ++
    bytesOfNat 1 (gradeCode f.grade) ++ bytesOfNat 1 (if c.sealKnown then c.node else 0xFF) ++ bytesOfNat 2 f.hwrev ++
    bytesOfNat 2 (if c.sealKnown then c.rank else 0) ++ bytesOfNat 6 f.mac.toNat ++ [0, 0] ++ wordBytes c.boot.fwVersion ++
    digestBytes c.boot.fwDigest ++ bytesOfNat 4 (c.ofImage (fun im => im.imageSeq)) ++ digestBytes c.boot.appDigest ++
    bytesOfNat 1 (bitAt c.boot.unprog 0 + bitAt (c.sealKnown && c.keyEnrol) 1 + bitAt (c.sealKnown && c.split) 2)

/-- GET_IDENTITY (R420). -/
def execGetIdentity (p : Pkt) (s : State) : Host.Outcome State Fault Refusal :=
  .next (s.packet 0x0002 p (fun ch s => s.answer ch 0x0002 p 0 (s.identityBytes ch)))

/-! ### Opening, keeping and closing -/

/-- The lowest session ID that is free. -/
def HostState.freeId (h : HostState) : Option Nat := (List.range 8).map (· + 1) |>.find? (fun k => (h.session k).isNone)

/-- A new session bound to the packet's source: selectors 0, nothing held. -/
def HostState.openFor (h : HostState) (id : Nat) (p : Pkt) (now : Nat) : HostState :=
  { h with
    sessions := h.sessions ++
      [{ id := id, addr := p.addr, port := p.port, lastSeq := none, heard := [], waiting := 0, prepare := none
         selectors := [], snap := none, lastAt := now }] }

/-- OPEN_SESSION at one channel. -/
def State.openAt (s : State) (ch : Ch) (p : Pkt) : State :=
  match (s.ch ch).host.freeId with
  | none => s.deny ch 0x0003 p 0x31 0
  | some id =>
    let s := s.mod ch (fun c => { c with host := c.host.openFor id p c.clock })
    s.respond
      { ch := ch, addr := p.addr, port := p.port, session := id, opcode := 0x0003, seq := p.seq, status := 0, params := [] }

/-- OPEN_SESSION (R381): the lowest free ID, or SESSION_FULL. -/
def execOpenSession (p : Pkt) (s : State) : Host.Outcome State Fault Refusal :=
  .next (s.packet 0x0003 p (fun ch s => s.openAt ch p))

/-- CLOSE_SESSION (R381). -/
def execCloseSession (p : Pkt) (s : State) : Host.Outcome State Fault Refusal :=
  .next (s.packet 0x0004 p (fun ch s =>
    (s.mod ch (fun c => { c with host := c.host.close p.session })).answer ch 0x0004 p 0 []))

/-- NOP (R396). -/
def execNop (p : Pkt) (s : State) : Host.Outcome State Fault Refusal :=
  .next (s.packet 0x0005 p (fun ch s => s.answer ch 0x0005 p 0 []))

/-- BAD_OPCODE (R396): an opcode that Table 15-4 does not list. One that it lists is another row's. -/
def execBadOpcode (opcode : Nat) (p : Pkt) (s : State) : Host.Outcome State Fault Refusal :=
  .next (if isOpcode opcode then s else s.packet opcode p (fun _ s => s))

/-- SESSION_TIMEOUT (R381): HOST.SESSION_TIMEOUT has passed without a valid packet of the session. -/
def execSessionTimeout (ch : Ch) (session : Nat) (s : State) : Host.Outcome State Fault Refusal :=
  .next (s.onLive ch (fun c =>
    match c.host.session session with
    | some t => if c.past t.lastAt (c.stat 0x1A04 * 1000000) then { c with host := c.host.close session } else c
    | none => c))

/-- PREPARE_EXPIRY (R392): at the first release instant at which E would exceed 30 s the pending prepare is discarded and
the discard recorded. -/
def execPrepareExpiry (ch : Ch) (session : Nat) (s : State) : Host.Outcome State Fault Refusal :=
  .next (s.onLive ch (fun c =>
    match (c.host.session session).bind (fun t => t.prepare) with
    | some k =>
      if decide (30000000 < c.elapsedUs k) then
        { c with host := c.host.setPrepare session none }.emit .prepDiscarded k.opcode [w32 session]
      else c
    | none => c))

end Sys2Proof.Machine
end

