-- ==== Sys2Proof/Machine/HostRead.lean ====
section
/-! DEFINITION. Host commands that read, and those that act at once in the addressed channels: parameters (spec/15 R396, spec/17
R429, R433, R434), recorder snapshots (spec/14 R372, R373), results (spec/15 R395), port restart (spec/09 R231), keys and
attestation (spec/16 R416 to R419), calibration reads (R424). -/

namespace Sys2Proof.Machine

open Sys2Proof

/-! ### Parameters -/

/-- A selector's value in a session; 0 when it opens (R431). -/
def HostState.selector (h : HostState) (session num : Nat) : Nat :=
  match (h.session session).bind (fun t => tabGet t.selectors num) with
  | some w => w.toNat
  | none => 0

/-- One assigned parameter read: its word, and the state with its RC fields cleared in this channel (R434). -/
def State.readOne (s : State) (ch : Ch) (session num : Nat) : Word × State :=
  let sel := (s.ch ch).host.selector session (selectorOf (num / 256))
  let w := s.word ch sel num
  let s := s.mod ch (fun c => c.clearRead ch num)
  (w, if num == 0x1B04 then s.drawn else s)

/-- Parameters read in order; an unassigned number reads 0 (R429). -/
def State.readMany (s : State) (ch : Ch) (session : Nat) : List Nat → List Word × State
  | [] => ([], s)
  | n :: ns =>
    let (w, s) := if (paramRow n).isSome then s.readOne ch session n else (0, s)
    let (ws, s) := s.readMany ch session ns
    (w :: ws, s)

/-- The values of parameters as a reply. -/
def State.replyWords (s : State) (ch : Ch) (opcode : Nat) (p : Pkt) (nums : List Nat) : State :=
  let (ws, s) := s.readMany ch p.session nums
  s.answer ch opcode p 0 (wordsBytes ws)

/-- READ_PARAM at one channel: checked whole before any value is read (R429). -/
def State.readParam (s : State) (ch : Ch) (p : Pkt) : State :=
  let n := fieldAt p.params 0 2
  let nums := (List.range n).map (fun k => fieldAt p.params (2 + 2 * k) 2)
  if n == 0 || decide (128 < n) then s.deny ch 0x0100 p badParam 0
  else
    match nums.findIdx? (fun k => (paramRow k).isNone) with
    | some k => s.deny ch 0x0100 p 0x25 k
    | none => s.replyWords ch 0x0100 p nums

/-- READ_PARAM (R429, R434). -/
def execReadParam (p : Pkt) (s : State) : Host.Outcome State Fault Refusal :=
  .next (s.packet 0x0100 p (fun ch s => s.readParam ch p))

/-- READ_BLOCK at one channel: COUNT from 1 to 256 within one range of 0x100. -/
def State.readBlock (s : State) (ch : Ch) (p : Pkt) : State :=
  let first := fieldAt p.params 0 2
  let n := fieldAt p.params 2 2
  if n == 0 || decide (256 < first % 256 + n) then s.deny ch 0x0101 p badParam 0
  else s.replyWords ch 0x0101 p ((List.range n).map (first + ·))

/-- READ_BLOCK (R396, R429). -/
def execReadBlock (p : Pkt) (s : State) : Host.Outcome State Fault Refusal :=
  .next (s.packet 0x0101 p (fun ch s => s.readBlock ch p))

/-- A value of block CAL read with CAL_READ: first number and count from 1 to 128 (R424). -/
def State.calRead (s : State) (ch : Ch) (p : Pkt) : State :=
  let first := fieldAt p.params 0 2
  let n := fieldAt p.params 2 2
  let nums := (List.range n).map (first + ·)
  if n == 0 || decide (128 < n) then s.deny ch 0x0700 p badParam 0
  else
    match nums.findIdx? (fun k => k / 256 != 0x1C || (paramRow k).isNone) with
    | some k => s.deny ch 0x0700 p 0x25 k
    | none => s.replyWords ch 0x0700 p nums

/-- CAL_READ (R424). -/
def execCalRead (p : Pkt) (s : State) : Host.Outcome State Fault Refusal :=
  .next (s.packet 0x0700 p (fun ch s => s.calRead ch p))

/-! ### Recorder snapshots (R372, R373) -/

/-- The next SEQ of a snapshot's set at or above a place. -/
def Snap.nextIn (v : Snap) (at_ : Nat) : Option Nat :=
  let a := max at_ v.low
  let b := max at_ v.permBase
  let inA := decide (a ≤ v.high)
  let inB := v.permBase != 0 && decide (b ≤ min v.high (v.permBase + 65535))
  if inA && inB then some (min a b) else if inA then some a else if inB then some b else none

/-- Up to `n` SEQs of the set from a place on. -/
def Snap.take (v : Snap) : Nat → Nat → List Nat
  | 0, _ => []
  | n + 1, at_ =>
    match v.nextIn at_ with
    | some q => q :: v.take n (q + 1)
    | none => []

/-- A snapshot opened now: HIGH, LOW and PERM_BASE, the cursor at the lowest SEQ of the set. -/
def Nv.openSnap (v : Nv) : Snap :=
  let k : Snap :=
    { high := v.head, low := max v.floor (max (v.head - 978943) 1), permBase := v.permBase, cursor := 0, window := [] }
  { k with cursor := (k.nextIn 0).getD 1 }

/-- Why a slot does not hold the record of a SEQ: 1 overwritten, 2 lost, 3 damaged (R373). -/
def Nv.missingReason (v : Nv) (seq : Nat) : Nat :=
  match v.slotRecord seq with
  | some r => if r.holds && decide (seq < r.seq) then 1 else if v.lost.contains seq then 2 else 3
  | none => if v.lost.contains seq then 2 else 3

/-- The placeholder of a SEQ (R373). -/
def placeholder (seq reason : Nat) : Record :=
  { (default : Record) with seq := seq, cls := 3, data := [w32 reason, 0, 0, 0, 0, 0, 0, 0], valid := validWord seq }

/-- The entry of a SEQ. -/
def Nv.entryOf (v : Nv) (seq : Nat) : Record :=
  match v.recordOf seq with
  | some r => r
  | none => placeholder seq (v.missingReason seq)

/-- A session's snapshot replaced. -/
def HostState.setSnap (h : HostState) (session : Nat) (k : Option Snap) : HostState :=
  h.modSession session (fun t => { t with snap := k })

/-- The snapshot of a session. -/
def Chan.snapOf (c : Chan) (session : Nat) : Option Snap := (c.host.session session).bind (fun t => t.snap)

/-- The window filled with the next entries (R373); placeholders with REASON 3 are counted (Table 14-12). -/
def Chan.fillWindow (c : Chan) (session : Nat) (k : Snap) : Chan × Nat :=
  let seqs := k.take 64 k.cursor
  let es := seqs.map c.nv.entryOf
  let bad := (seqs.filter (fun q => (c.nv.recordOf q).isNone && c.nv.missingReason q == 3)).length
  let k := { k with cursor := (seqs.getLast?.map (· + 1)).getD k.cursor, window := es }
  ({ c with
     host := c.host.setSnap session (some k), recd := { c.recd with damagedCnt := satAdd 8 c.recd.damagedCnt bad } },
    es.length)

/-- SNAP_OPEN (R372): a snapshot that is open is replaced. -/
def execSnapOpen (p : Pkt) (s : State) : Host.Outcome State Fault Refusal :=
  .next (s.packet 0x0400 p (fun ch s =>
    let k := (s.ch ch).nv.openSnap
    (s.mod ch (fun c => { c with host := c.host.setSnap p.session (some k) })).answer ch 0x0400 p 0
      (bytesOfNat 8 k.high ++ bytesOfNat 8 k.low ++ bytesOfNat 8 k.permBase)))

/-- SNAP_READ (R373). -/
def execSnapRead (p : Pkt) (s : State) : Host.Outcome State Fault Refusal :=
  .next (s.packet 0x0401 p (fun ch s =>
    match (s.ch ch).snapOf p.session with
    | none => s.deny ch 0x0401 p refusedCode 0
    | some k =>
      let (c, n) := (s.ch ch).fillWindow p.session k
      (s.put ch c).answer ch 0x0401 p 0 (bytesOfNat 1 n ++ [0, 0, 0])))

/-- An entry of the window: what the last read placed there; a place that it did not fill holds what the manual does not
say. -/
def Snap.entry (k : Snap) (draw i : Nat) : List Word :=
  match k.window[i]? with
  | some r => r.allWords
  | none => (List.range 16).map (Config.windowRest draw i)

/-- WINDOW_GET (R396): from an entry, a count of 1 to 16. -/
def execWindowGet (p : Pkt) (s : State) : Host.Outcome State Fault Refusal :=
  .next (s.packet 0x0402 p (fun ch s =>
    let first := fieldAt p.params 0 1
    let n := fieldAt p.params 1 1
    if n == 0 || decide (16 < n) || decide (64 < first + n) then s.deny ch 0x0402 p badParam 0
    else
      match (s.ch ch).snapOf p.session with
      | none => s.deny ch 0x0402 p refusedCode 0
      | some k => s.drawn.answer ch 0x0402 p 0 (wordsBytes ((List.range n).flatMap (fun i => k.entry s.draws (first + i))))))

/-- SNAP_CLOSE (R372). -/
def execSnapClose (p : Pkt) (s : State) : Host.Outcome State Fault Refusal :=
  .next (s.packet 0x0403 p (fun ch s =>
    (s.mod ch (fun c => { c with host := c.host.setSnap p.session none })).answer ch 0x0403 p 0 []))

/-! ### Results (R395) -/

/-- REQUEST_RESULT (R395, R454). -/
def execRequestResult (p : Pkt) (s : State) : Host.Outcome State Fault Refusal :=
  .next (s.packet 0x0506 p (fun ch s =>
    match (s.ch ch).host.results.find? (fun r => r.tag == fieldAt p.params 0 4) with
    | none => s.deny ch 0x0506 p 0x61 0
    | some r =>
      s.answer ch 0x0506 p 0 (bytesOfNat 1 r.result ++ [0] ++ bytesOfNat 2 r.reason ++ bytesOfNat 4 r.cycle)))

/-! ### Port restart (R231) -/

/-- A port's babble fault cleared. -/
def Guard.restart (g : Guard) (port : Nat) : Guard :=
  if port == 0 then { g with babbleX := false, nowX := 0 } else { g with babbleY := false, nowY := 0 }

/-- PORT_RESTART (R231): port 0 X or 1 Y. -/
def execPortRestart (p : Pkt) (s : State) : Host.Outcome State Fault Refusal :=
  .next (s.packet 0x050A p (fun ch s =>
    let port := fieldAt p.params 0 1
    if 2 ≤ port then s.deny ch 0x050A p badParam 0
    else (s.mod ch (fun c => { c with guard := c.guard.restart port })).answer ch 0x050A p 0 []))

/-! ### Attestation and keys (R416 to R419) -/

/-- The body of a QUOTE (Table 16-6). -/
def State.quoteBody (s : State) (ch : Ch) (nonce : List Byte) : List Byte :=
  let c := s.ch ch
  bytesOfNat 4 0x45544F51 ++ bytesOfNat 1 ch.code ++ bytesOfNat 1 c.boot.phase ++ bytesOfNat 1 c.vote.mode ++ [0] ++
    bytesOfNat 8 s.factory.serial.toNat ++ nonce ++ digestBytes c.boot.fwDigest ++ digestBytes c.boot.appDigest ++
    digestBytes c.nv.cfgDigest ++ wordBytes c.seals.bootPos ++ bytesOfNat 4 c.mainCycle

/-- QUOTE (R419): the body and its signature; in P7 only. -/
def execQuote (p : Pkt) (s : State) : Host.Outcome State Fault Refusal :=
  .next (s.packet 0x0600 p (fun ch s =>
    if (s.ch ch).boot.phase != 7 then s.deny ch 0x0600 p refusedCode 0
    else
      let body := s.quoteBody ch (p.params.take 32)
      s.drawn.answer ch 0x0600 p 0 (body ++ Config.identitySign ch body s.draws)))

/-- GET_CERT (R418): PART, the number of parts, LENGTH and up to 1,024 bytes of the certificate. -/
def execGetCert (p : Pkt) (s : State) : Host.Outcome State Fault Refusal :=
  .next (s.packet 0x0601 p (fun ch s =>
    let cert := Config.certificate ch
    let parts := ceilDiv cert.length 1024
    let k := fieldAt p.params 0 1
    let bytes := (cert.drop (1024 * k)).take 1024
    if parts ≤ k then s.deny ch 0x0601 p badParam 0
    else
      s.answer ch 0x0601 p 0
        (bytesOfNat 1 k ++ bytesOfNat 1 parts ++ bytesOfNat 2 bytes.length ++ bytes)))

/-- The key that a KEY_ENROL carries (R417). -/
def enrolledKey (q : List Byte) (start : Nat) : KeySlot :=
  let exponent := fieldAt q 4 4
  let modulus := natOfBytesBE ((q.drop 8).take 384)
  { state := 1, keyId := keyIdOf modulus exponent, exponent := exponent, modulus := modulus
    label := (q.drop 392).take 32, start := start, crcOk := true }

/-- The parameters of a KEY_ENROL stand: slot, operation and zeros; an enrolled key of exponent 65,537 with 3,072 bits that
no other slot holds (R417). -/
def Nv.enrolOk (v : Nv) (q : List Byte) (k : KeySlot) : Bool :=
  let slot := fieldAt q 0 1
  let op := fieldAt q 1 1
  decide (slot < 4) && fieldAt q 2 2 == 0 &&
    (op == 2 ||
      (op == 1 && k.exponent == 65537 && decide (2 ^ 3071 ≤ k.modulus) &&
        !v.keys.zipIdx.any (fun e => e.2 != slot && e.1.enrolled && e.1.keyId == k.keyId)))

/-- The slot written: enrolled, or revoked. -/
def Nv.writeKey (v : Nv) (q : List Byte) (k : KeySlot) : Nv :=
  let slot := fieldAt q 0 1
  { v with keys := modAt v.keys slot (fun old => if fieldAt q 1 1 == 1 then k else { old with state := 2, crcOk := true }) }

/-- KEY_ENROL (R417): only while SW3-3 was ON at P1. -/
def execKeyEnrol (p : Pkt) (s : State) : Host.Outcome State Fault Refusal :=
  .next (s.packet 0x0602 p (fun ch s =>
    let c := s.ch ch
    let k := enrolledKey p.params c.nv.start
    if !c.keyEnrol then s.deny ch 0x0602 p refusedCode 0
    else if !c.nv.enrolOk p.params k then s.deny ch 0x0602 p badParam 0
    else
      let c := { c with nv := c.nv.writeKey p.params k }.emit .keyEvent (fieldAt p.params 0 1)
        [w32 (fieldAt p.params 1 1), k.keyId.setWidth 32]
      (s.put ch c).answer ch 0x0602 p 0 []))

/-- KEY_READ (R417): the contents of a slot. -/
def execKeyRead (p : Pkt) (s : State) : Host.Outcome State Fault Refusal :=
  .next (s.packet 0x0603 p (fun ch s =>
    match (s.ch ch).nv.keys[fieldAt p.params 0 1]? with
    | some k => s.answer ch 0x0603 p 0 (Config.keySlotImage k)
    | none => s.deny ch 0x0603 p badParam 0))

end Sys2Proof.Machine
end

