-- ==== Sys2Proof/Machine/Vital.lean ====
section
/-! DEFINITION. Vital commands on arrival (spec/15_host_commands.md R384, R385): parameters checked, then listed for agreement;
in SPLIT mode, where no command is vital, applied at once (spec/06 R180). What agreement does stands in
`Sys2Proof.Machine.Agreement` and `Sys2Proof.Machine.Effects`. -/

namespace Sys2Proof.Machine

open Sys2Proof

/-- A checked vital command waits for its listing, oldest first (R385). -/
def Chan.listVital (c : Chan) (opcode : Nat) (p : Pkt) : Chan :=
  let l : Listed :=
    { opcode := opcode, session := p.session, seq := p.seq, digest := packetDigest opcode p, params := p.params
      addr := p.addr, port := p.port, listings := 0 }
  { c with host := { c.host with listed := c.host.listed ++ [l] } }

/-- A vital command at one channel: a failing check is answered at once and nothing is listed (R384). -/
def State.submit (s : State) (ch : Ch) (opcode : Nat) (p : Pkt) : State :=
  match (s.ch ch).paramFault opcode p.params with
  | some (st, d) => s.deny ch opcode p st d
  | none => s.mod ch (fun c => c.listVital opcode p)

/-! ### Critical commands (family 0x02xx) -/

/-- EMERGENCY_RELEASE (R109). -/
def execEmergencyRelease (p : Pkt) (s : State) : Host.Outcome State Fault Refusal :=
  .next (s.packet 0x0201 p (fun ch s => s.submit ch 0x0201 p))

/-- UNBLOCK (Table 04-1). -/
def execUnblock (p : Pkt) (s : State) : Host.Outcome State Fault Refusal :=
  .next (s.packet 0x0202 p (fun ch s => s.submit ch 0x0202 p))

/-- CLEAR_TASK_FAULT (R131). -/
def execClearTaskFault (p : Pkt) (s : State) : Host.Outcome State Fault Refusal :=
  .next (s.packet 0x0203 p (fun ch s => s.submit ch 0x0203 p))

/-- CLEAR_LOCKOUT (R197). -/
def execClearLockout (p : Pkt) (s : State) : Host.Outcome State Fault Refusal :=
  .next (s.packet 0x0204 p (fun ch s => s.submit ch 0x0204 p))

/-- HEDGEHOG_REARM (R202). -/
def execHedgehogRearm (p : Pkt) (s : State) : Host.Outcome State Fault Refusal :=
  .next (s.packet 0x0205 p (fun ch s => s.submit ch 0x0205 p))

/-- GATE_ISOLATE (R219). -/
def execGateIsolate (p : Pkt) (s : State) : Host.Outcome State Fault Refusal :=
  .next (s.packet 0x0206 p (fun ch s => s.submit ch 0x0206 p))

/-- PLUNGER_RESET (R218). -/
def execPlungerReset (p : Pkt) (s : State) : Host.Outcome State Fault Refusal :=
  .next (s.packet 0x0207 p (fun ch s => s.submit ch 0x0207 p))

/-- REINTEGRATE (R176). -/
def execReintegrate (p : Pkt) (s : State) : Host.Outcome State Fault Refusal :=
  .next (s.packet 0x0208 p (fun ch s => s.submit ch 0x0208 p))

/-- EXCH_ARM (R147). -/
def execExchArm (p : Pkt) (s : State) : Host.Outcome State Fault Refusal :=
  .next (s.packet 0x0209 p (fun ch s => s.submit ch 0x0209 p))

/-- SWITCHOVER (R314). -/
def execSwitchover (p : Pkt) (s : State) : Host.Outcome State Fault Refusal :=
  .next (s.packet 0x020A p (fun ch s => s.submit ch 0x020A p))

/-- RECORDER_CLEAR (R374). -/
def execRecorderClear (p : Pkt) (s : State) : Host.Outcome State Fault Refusal :=
  .next (s.packet 0x020B p (fun ch s => s.submit ch 0x020B p))

/-- RESTORE_FACTORY (R425). -/
def execRestoreFactory (p : Pkt) (s : State) : Host.Outcome State Fault Refusal :=
  .next (s.packet 0x020C p (fun ch s => s.submit ch 0x020C p))

/-! ### Operator requests (R393) -/

/-- ROUTE_SET: request SET. -/
def execRouteSet (p : Pkt) (s : State) : Host.Outcome State Fault Refusal :=
  .next (s.packet 0x0500 p (fun ch s => s.submit ch 0x0500 p))

/-- ROUTE_CANCEL: request CANCEL. -/
def execRouteCancel (p : Pkt) (s : State) : Host.Outcome State Fault Refusal :=
  .next (s.packet 0x0501 p (fun ch s => s.submit ch 0x0501 p))

/-- POINT_NORMAL. -/
def execPointNormal (p : Pkt) (s : State) : Host.Outcome State Fault Refusal :=
  .next (s.packet 0x0502 p (fun ch s => s.submit ch 0x0502 p))

/-- POINT_REVERSE. -/
def execPointReverse (p : Pkt) (s : State) : Host.Outcome State Fault Refusal :=
  .next (s.packet 0x0503 p (fun ch s => s.submit ch 0x0503 p))

/-- KEY_RELEASE. -/
def execKeyRelease (p : Pkt) (s : State) : Host.Outcome State Fault Refusal :=
  .next (s.packet 0x0504 p (fun ch s => s.submit ch 0x0504 p))

/-- BLOCK. -/
def execBlockRequest (p : Pkt) (s : State) : Host.Outcome State Fault Refusal :=
  .next (s.packet 0x0505 p (fun ch s => s.submit ch 0x0505 p))

/-! ### Gates -/

/-- GATE_RESET (R214). -/
def execGateReset (p : Pkt) (s : State) : Host.Outcome State Fault Refusal :=
  .next (s.packet 0x0507 p (fun ch s => s.submit ch 0x0507 p))

/-- GATE_ISOL_END (R220). -/
def execGateIsolEnd (p : Pkt) (s : State) : Host.Outcome State Fault Refusal :=
  .next (s.packet 0x0508 p (fun ch s => s.submit ch 0x0508 p))

/-- GATE_SERVICE_RESET (R223). -/
def execGateServiceReset (p : Pkt) (s : State) : Host.Outcome State Fault Refusal :=
  .next (s.packet 0x0509 p (fun ch s => s.submit ch 0x0509 p))

/-! ### The partner -/

/-- RESYNC (R305). -/
def execResync (p : Pkt) (s : State) : Host.Outcome State Fault Refusal :=
  .next (s.packet 0x0800 p (fun ch s => s.submit ch 0x0800 p))

/-- XFER_ABANDON (R308). -/
def execXferAbandon (p : Pkt) (s : State) : Host.Outcome State Fault Refusal :=
  .next (s.packet 0x0801 p (fun ch s => s.submit ch 0x0801 p))

/-! ### Commands that SPLIT mode admits -/

/-- WRITE_PARAM at one channel (R433): a packet with a V parameter waits for agreement, any other is applied on receipt. -/
def State.writeParam (s : State) (ch : Ch) (p : Pkt) : State :=
  let c := s.ch ch
  match c.paramFault 0x0102 p.params with
  | some (st, d) => s.deny ch 0x0102 p st d
  | none =>
    if c.isVital 0x0102 p.params then s.put ch (c.listVital 0x0102 p)
    else
      (s.put ch ((writeEntries p.params).foldl (fun c e => c.applyEntry p.session true e) c)).answer ch 0x0102 p 0 []

/-- WRITE_PARAM (R384, R433). -/
def execWriteParam (p : Pkt) (s : State) : Host.Outcome State Fault Refusal :=
  .next (s.packet 0x0102 p (fun ch s => s.writeParam ch p))

/-- A command that SPLIT mode applies at once in the addressed channel: carried out, or REFUSED. -/
def State.applyNow (s : State) (ch : Ch) (opcode : Nat) (p : Pkt) (r : Option (Chan × List Byte)) : State :=
  match r with
  | some (c, bytes) => (s.put ch c).answer ch opcode p 0 bytes
  | none => s.deny ch opcode p refusedCode 0

/-- EXCH_VERIFY (R143 to R145). -/
def execExchVerify (p : Pkt) (s : State) : Host.Outcome State Fault Refusal :=
  .next (s.packet 0x0303 p (fun ch s =>
    let c := s.ch ch
    if c.split then
      s.applyNow ch 0x0303 p ((c.exchVerify ch s.factory.variant).map (fun c => (c, bytesOfNat 4 c.blocks.result)))
    else s.submit ch 0x0303 p))

/-- EXCH_ABORT (R143). -/
def execExchAbort (p : Pkt) (s : State) : Host.Outcome State Fault Refusal :=
  .next (s.packet 0x0304 p (fun ch s =>
    let c := s.ch ch
    if c.split then s.applyNow ch 0x0304 p (c.exchAbort.map (fun c => (c, [])))
    else s.submit ch 0x0304 p))

/-- CAL_WRITE (R424). -/
def execCalWrite (p : Pkt) (s : State) : Host.Outcome State Fault Refusal :=
  .next (s.packet 0x0701 p (fun ch s =>
    let c := s.ch ch
    if c.split then
      match c.paramFault 0x0701 p.params with
      | some (st, d) => s.deny ch 0x0701 p st d
      | none => s.applyNow ch 0x0701 p (some (c.calWrite ch p.params, []))
    else s.submit ch 0x0701 p))

end Sys2Proof.Machine
end

