-- ==== Sys2Proof/Machine/Load.lean ====
section
/-! DEFINITION. Loading an image (spec/16_startup_images_identity.md R411 to R415): the Birnik container as its bytes spell it,
and the commands LOAD_BEGIN, LOAD_DATA and LOAD_END. The flash write stands in `Sys2Proof.Machine.Startup`. -/

namespace Sys2Proof.Machine

open Sys2Proof

/-! ### The container (R413, R414) -/

/-- One entry of the section table (Table 16-3). -/
structure Section where
  typ : Nat
  flags : Nat
  offset : Nat
  length : Nat
  crc : Word
  deriving DecidableEq, Repr

/-- The section entries in use. -/
def sections (b : List Byte) : List Section :=
  (List.range (fieldAt b 12 2)).map (fun k =>
    let o := 64 + 16 * k
    { typ := fieldAt b o 2, flags := fieldAt b (o + 2) 2, offset := fieldAt b (o + 4) 4, length := fieldAt b (o + 8) 4
      crc := w32 (fieldAt b (o + 12) 4) })

/-- The bytes of a section. -/
def sectionBytes (b : List Byte) (t : Section) : List Byte := (b.drop t.offset).take t.length

/-- The bytes of the section of a type; none where the container has no such section. -/
def sectionOf (b : List Byte) (typ : Nat) : List Byte :=
  match (sections b).find? (fun t => t.typ == typ) with
  | some t => sectionBytes b t
  | none => []

/-- The header is that of a container of `size` bytes whose KIND suits the load: 1 firmware, 2 application (R411, R413). -/
def headerOk (b : List Byte) (size kind : Nat) : Bool :=
  let k := fieldAt b 6 1
  let ch := fieldAt b 7 1
  fieldAt b 0 4 == 0x4B4E5242 && fieldAt b 4 2 == 1 && (if kind == 1 then k == 1 else k == 2 || k == 3) &&
    (if k == 3 then decide (ch < 3) else ch == 0xFF) && fieldAt b 8 4 == size && decide (1088 ≤ size) &&
    decide (1 ≤ fieldAt b 12 2) && decide (fieldAt b 12 2 ≤ 32) && fieldAt b 14 2 == 0 && fieldAt b 27 1 == 0 &&
    fieldAt b 44 20 == 0 && (if k == 1 then fieldAt b 26 1 == 0xFF else fieldAt b 28 16 == 0)

/-- The signature block's KEY_ID stands with ALG 1 and zeros (R414). -/
def blockOk (b : List Byte) (size : Nat) : Bool :=
  fieldAt b (size - 504) 2 == 1 && fieldAt b (size - 502) 118 == 0

/-- Section types that a KIND requires (Table 16-4). -/
def requiredTypes (kind ch : Nat) : List Nat :=
  if kind == 1 then [1, 2, 3, 4] else if kind == 2 then [0x10, 0x11, 0x12, 0x13] else [0x10 + ch, 0x13]

/-- A section lies on a 4 KiB boundary inside the container, before the signature block, and its CRC checks (R413). -/
def sectionOk (b : List Byte) (size : Nat) (t : Section) : Bool :=
  t.flags == 0 && t.offset % 4096 == 0 && decide (4096 ≤ t.offset) && decide (t.offset + t.length + 512 ≤ size) &&
    crc32c (sectionBytes b t) == t.crc

/-- What the checks of R413 find: 0 nothing, 1 the header or signature block, else the type of the section at fault plus 1. -/
def formatFault (b : List Byte) (size kind : Nat) : Nat :=
  if !(headerOk b size kind && blockOk b size) then 1
  else
    let ts := sections b
    match (requiredTypes (fieldAt b 6 1) (fieldAt b 7 1)).find? (fun r => (ts.filter (fun t => t.typ == r)).length != 1) with
    | some r => r + 1
    | none =>
      match ts.find? (fun t => !sectionOk b size t) with
      | some t => t.typ + 1
      | none => 0

/-! ### The tile set of a channel (R59, R73 to R75, R79) -/

/-- The stored tiles of a section, 1,024 words each. -/
def storedTiles (sec : List Byte) : List (List Word) :=
  (List.range ((sec.length + 4095) / 4096)).map (fun i => bytesWords ((sec.drop (4096 * i)).take 4096))

/-- The canonical payload of stored tile words under a key. -/
def canonicalPayload (ch : Ch) (key : Word) (i : Nat) (ws : List Word) : List Word :=
  (List.range 1022).map (fun j => decodeForm ch key i (wordAt ws j))

/-- The keys that a stored set carries in its tile 0 (R74). -/
def storedKeys (ch : Ch) (ts : List (List Word)) : List Word :=
  canonicalPayload ch 0x5A3C96E1 0 (ts.getD 0 [])

/-- One stored tile in canonical form. -/
def canonicalTile (ch : Ch) (keys : List Word) (i : Nat) (ws : List Word) : Tile :=
  let h := (wordAt ws 1022).toNat
  { kind := bits h 31 27, count := bits h 11 0
    payload := canonicalPayload ch (if i == 0 then 0x5A3C96E1 else wordAt keys i) i ws }

/-- A stored tile fails its CRC, FORM, INDEX or, for a constant kind, GEN (R79). -/
def storedBad (ch : Ch) (seq i : Nat) (ws : List Word) : Bool :=
  let h := (wordAt ws 1022).toNat
  let kind := bits h 31 27
  tileCause ws ch kind (if digestKind kind then seq % 8 else bits h 24 22) i != 0

/-- The image that an application's sections decode to in a channel, and the first stored tile that fails. IMAGE_SEQ and NODE are
those of the SET tile (R63). -/
def decodeImage (b : List Byte) (ch : Ch) : Image × Option Nat :=
  let ts := storedTiles (sectionOf b (0x10 + ch.code))
  let keys := storedKeys ch ts
  let tiles := ts.zipIdx.map (fun e => canonicalTile ch keys e.2 e.1)
  let set := (tiles.getD 1 default).payload
  let seq := (wordAt set 0).toNat
  let rest := Config.sectionImage (sectionOf b 0x13) (sectionOf b 0x14) (sectionOf b 0x15)
  ({ rest with imageSeq := seq, node := (wordAt set 1).toNat % 64, tiles := tiles },
    (ts.zipIdx.find? (fun e => storedBad ch seq e.2 e.1)).map (fun e => e.2))

/-- The signature verifies under the Sahken firmware key of that KEY_ID in the boot ROM (R414). -/
def romVerifies (keyId : BitVec 64) (hash : BitVec 256) (signature : Nat) : Bool :=
  match Config.romKey keyId with
  | some (m, e) => rsaVerify m e (digestBytes hash) signature
  | none => false

/-- A container read from its bytes in a channel, for a load of a kind. -/
def readContainer (b : List Byte) (size kind : Nat) (ch : Ch) : Container :=
  let code := formatFault b size kind
  let keyId := BitVec.ofNat 64 (fieldAt b (size - 512) 8)
  let hash := sha256Vec (b.take (size - 384))
  let sig := natOfBytesBE (b.drop (size - 384))
  let app := decodeImage b ch
  { kind := fieldAt b 6 1, channel := fieldAt b 7 1, size := size, version := w32 (fieldAt b 16 4)
    api := w32 (fieldAt b 20 4), libMajor := fieldAt b 25 1, libMinor := fieldAt b 24 1, node := fieldAt b 26 1
    hwrev := ((List.range 8).map (fun k => fieldAt b (28 + 2 * k) 2)).filter (fun n => n != 0)
    keyId := keyId, signedHash := hash, signature := sig, digest := sha256Vec b, formatCode := code
    tileBad := if kind == 1 then none else app.2
    romSigned := romVerifies keyId hash sig
    image := if kind == 1 || code != 0 then none else some app.1 }

/-! ### The commands (R411, R412) -/

/-- IMAGE_ERROR with its code of Table 16-2 (Table 15-6). -/
def State.imageError (s : State) (ch : Ch) (opcode : Nat) (p : Pkt) (code : Nat) : State := s.deny ch opcode p 0x70 code

/-- The exchange state forbids a load of a kind (R412). -/
def Chan.loadBarred (c : Chan) (kind : Nat) : Bool :=
  c.blocks.exch == 2 || c.blocks.exch == 3 || (kind == 1 && c.blocks.exch == 1)

/-- Largest SIZE of a kind: 8 MiB of firmware, 28 MiB of application (R411). -/
def largestLoad (kind : Nat) : Nat := if kind == 1 then 8 * 2 ^ 20 else 28 * 2 ^ 20

/-- LOAD_BEGIN at one channel. -/
def State.loadBegin (s : State) (ch : Ch) (p : Pkt) : State :=
  let c := s.ch ch
  let kind := fieldAt p.params 0 1
  let size := fieldAt p.params 2 4
  if !(kind == 1 || kind == 2) || fieldAt p.params 1 1 != 0 then s.deny ch 0x0300 p badParam 0
  else if c.load.writing || (c.load.busy && c.load.session != p.session) then s.deny ch 0x0300 p refusedCode 0
  else if c.loadBarred kind then s.imageError ch 0x0300 p 0x0803
  else if largestLoad kind < size then s.imageError ch 0x0300 p 0x0802
  else
    let l : Load := { (default : Load) with busy := true, kind := kind, size := size, session := p.session }
    (s.mod ch (fun c => { c with load := l })).answer ch 0x0300 p 0 []

/-- The session owns the channel's open load. -/
def Load.ownedBy (l : Load) (session : Nat) : Bool := l.busy && !l.writing && l.session == session

/-- Data bytes written at an offset of the staged half: a later packet overwrites an earlier one. -/
def Load.write (l : Load) (off : Nat) (data : List Byte) : Load :=
  { l with bytes := data.zipIdx.foldl (fun t e => tabPut t (off + e.2) e.1) l.bytes }

/-- LOAD_DATA at one channel. -/
def State.loadData (s : State) (ch : Ch) (p : Pkt) : State :=
  let c := s.ch ch
  let off := fieldAt p.params 0 4
  let data := p.params.drop 6
  if !c.load.ownedBy p.session then s.deny ch 0x0301 p refusedCode 0
  else if c.load.size < off + data.length then s.deny ch 0x0301 p badParam 0
  else (s.mod ch (fun c => { c with load := c.load.write off data })).answer ch 0x0301 p 0 []

/-- The first offset that no packet has written. -/
def Load.missing (l : Load) : Option Nat := (List.range l.size).find? (fun k => (tabGet l.bytes k).isNone)

/-- The loaded bytes in order. -/
def Load.image (l : Load) : List Byte := (List.range l.size).map (fun k => (tabGet l.bytes k).getD 0)

/-- The first check that a loaded container fails (R411, R413 to R415), by its code; 0 when it passes. -/
def Chan.loadFault (c : Chan) (me : Ch) (f : Factory) (k : Container) : Nat :=
  if c.load.kind == 1 then
    if k.formatCode != 0 then 0x0501 else if !k.fwSigned then 0x0301 else if !k.fwRuns f.hwrev then 0x0302 else 0
  else
    match c.appFault me f.variant k with
    | some (code, _) => code
    | none => 0

/-- The checked container on its way to the slot that is not RUNNING: that slot reads EMPTY until its write is complete
(R408, R411). -/
def Chan.beginWrite (c : Chan) (k : Container) : Chan :=
  let nv := if c.load.kind == 1 then c.nv.putFw (freeSlot c.nv.fw0) { marker := 0, cont := none }
    else c.nv.putApp (freeSlot c.nv.app0) { marker := 0, cont := none }
  { c with nv := nv, load := { c.load with busy := false, writing := true, cont := some k } }

/-- LOAD_END at one channel. -/
def State.loadEnd (s : State) (ch : Ch) (p : Pkt) : State :=
  let c := s.ch ch
  if !c.load.ownedBy p.session then s.deny ch 0x0302 p refusedCode 0
  else if c.load.missing.isSome then s.imageError ch 0x0302 p 0x0801
  else
    let k := readContainer c.load.image c.load.size c.load.kind ch
    match c.loadFault ch s.factory k with
    | 0 => (s.put ch (c.beginWrite k)).answer ch 0x0302 p 0 []
    | code => s.imageError ch 0x0302 p code

/-- LOAD_BEGIN (R411, R412). -/
def execLoadBegin (p : Pkt) (s : State) : Host.Outcome State Fault Refusal :=
  .next (s.packet 0x0300 p (fun ch s => s.loadBegin ch p))

/-- LOAD_DATA (R411). -/
def execLoadData (p : Pkt) (s : State) : Host.Outcome State Fault Refusal :=
  .next (s.packet 0x0301 p (fun ch s => s.loadData ch p))

/-- LOAD_END (R411, R413 to R415). -/
def execLoadEnd (p : Pkt) (s : State) : Host.Outcome State Fault Refusal :=
  .next (s.packet 0x0302 p (fun ch s => s.loadEnd ch p))

end Sys2Proof.Machine
end

