-- ==== Sys2Proof/Machine/Messages.lean ====
section
/-! DEFINITION. Vital messages, heartbeats and application frames as they arrive on the lane (spec/10_fabric_routing_messages.md R261,
R268 to R271, R281; spec/11_partner_redundancy.md R298, R303). -/

namespace Sys2Proof.Machine

open Sys2Proof

/-! ### The safety layer (R268 to R270) -/

/-- A vital message's fields (Table 10-4): `body` is what CODE is taken over. -/
structure VMsg where
  seq : Nat
  ts : Nat
  src : Nat
  dst : Nat
  data : List Word
  body : List Byte
  code : List Byte
  deriving DecidableEq, Repr, Inhabited

/-- A payload read as a vital message. -/
def vmsgOf (ps : List Byte) : VMsg :=
  let body := ps.take (ps.length - 8)
  let ws := bytesWords body
  { seq := (wordAt ws 0).toNat, ts := (wordAt ws 1).toNat, src := bits (wordAt ws 2).toNat 17 0
    dst := bits (wordAt ws 3).toNat 17 0, data := ws.drop 4, body := body, code := ps.drop (ps.length - 8) }

/-- CODE checks under the key of a connection for this lane (R269). -/
def codeOk (me : Ch) (d : Conn) (m : VMsg) : Bool := (hmacSha256 (d.key.get me) m.body).take 8 == m.code

/-- The inbound connections of a class of messages by number. -/
def Chan.inboundOf (c : Chan) (event : Bool) : List (Nat × Conn) :=
  match c.image with
  | none => []
  | some im => (im.conns.zipIdx.filter (fun e => e.1.inbound && e.1.event == event)).map (fun e => (e.2, e.1))

/-- A failure of KIND, DST, SRC or SEQ, or a gap, counted (R270). -/
def Chan.rxError (c : Chan) : Chan := { c with fab := { c.fab with rxErr := inc 16 c.fab.rxErr } }

/-- What the checks of R270 make of a message: its connection, or a failure counted. CODE first, then DST and SRC. -/
def Chan.checkMessage (c : Chan) (me : Ch) (event : Bool) (m : VMsg) : Chan × Option (Nat × Conn) :=
  match (c.inboundOf event).filter (fun e => codeOk me e.2 m) with
  | [] => ({ c with fab := { c.fab with codeErr := inc 16 c.fab.codeErr } }, none)
  | es =>
    match es.find? (fun e => e.2.dst == m.dst && e.2.src == m.src) with
    | some e => (c, some e)
    | none => (c.rxError, none)

/-- The frame's origin is the unit whose claim is the highest heard for its node (R298). -/
def Chan.fromHolder (c : Chan) (f : FrameRx) : Bool :=
  match c.fab.holder (f.origin / 2) with
  | some k => k == f.origin
  | none => true

/-- A vital frame heard, relayed, and for this unit to read: addressed to it, from the claim holder of its node, and this unit the one
that holds the claim of its own (R180, R261, R298). -/
def Chan.hearVital (c : Chan) (me : Ch) (f : FrameRx) (kind : Nat) : Chan × Bool :=
  let (c, ok) := c.hearRelay me f kind
  (c, ok && !c.split && c.addressed f && c.holdsClaim && c.fromHolder f)

/-- The receive side of a connection. -/
def Fab.rxOf (f : Fab) (k : Nat) : ConnRx := (tabGet f.rx k).getD { seq := none, ts := 0, data := [] }

/-- A cyclic message taken: a later SEQ than the last; an earlier or equal one is a duplicate (R270). -/
def Chan.takeCyclic (c : Chan) (k : Nat) (m : VMsg) : Chan :=
  let fresh := match (c.fab.rxOf k).seq with
    | some n => decide (n < m.seq)
    | none => true
  if fresh then { c with fab := { c.fab with rx := tabPut c.fab.rx k { seq := some m.seq, ts := m.ts, data := m.data } } } else c

/-- VITAL_DATA (R261, R270, R298). -/
def execVitalData (ch : Ch) (f : FrameRx) (s : State) : Host.Outcome State Fault Refusal :=
  .next (s.onLive ch (fun c =>
    let (c, ok) := c.hearVital ch f 0x10
    if ok then
      let m := vmsgOf f.payload
      match c.checkMessage ch false m with
      | (c, some (k, _)) => c.takeCyclic k m
      | (c, none) => c
    else c))

/-- An event message taken for the next remote vote set: the next SEQ, or a later one with its gap counted (R270, R271). -/
def Chan.takeEventMsg (c : Chan) (k : Nat) (kind : EventKind) (m : VMsg) : Chan :=
  let last := (c.fab.rxOf k).seq
  let fresh := match last with
    | some n => decide (n < m.seq)
    | none => true
  let gap := match last with
    | some n => decide (n + 1 < m.seq)
    | none => false
  if fresh then
    let c := if gap then c.rxError else c
    { c with
      fab := { c.fab with
        rx := tabPut c.fab.rx k { seq := some m.seq, ts := m.ts, data := m.data }
        events := c.fab.events ++ [{ conn := k, seq := m.seq, kind := kind, data := m.data }] } }
  else c

/-- An event frame of a kind of Table 10-6. -/
def State.eventFrame (s : State) (ch : Ch) (f : FrameRx) (kind : Nat) (e : EventKind) : State :=
  s.onLive ch (fun c =>
    let (c, ok) := c.hearVital ch f kind
    if ok then
      let m := vmsgOf f.payload
      match c.checkMessage ch true m with
      | (c, some (k, _)) => c.takeEventMsg k e m
      | (c, none) => c
    else c)

/-- RESERVE (R281, R283). -/
def execReserve (ch : Ch) (f : FrameRx) (s : State) : Host.Outcome State Fault Refusal :=
  .next (s.eventFrame ch f 0x11 .reserve)

/-- GRANT (R281, R284). -/
def execGrant (ch : Ch) (f : FrameRx) (s : State) : Host.Outcome State Fault Refusal :=
  .next (s.eventFrame ch f 0x12 .grant)

/-- REFUSE (R281, R282). -/
def execRefuse (ch : Ch) (f : FrameRx) (s : State) : Host.Outcome State Fault Refusal :=
  .next (s.eventFrame ch f 0x13 .refuse)

/-- UNRESERVE (R281, R283). -/
def execUnreserve (ch : Ch) (f : FrameRx) (s : State) : Host.Outcome State Fault Refusal :=
  .next (s.eventFrame ch f 0x14 .unreserve)

/-- RELEASE_ALL (R281, R285). -/
def execReleaseAll (ch : Ch) (f : FrameRx) (s : State) : Host.Outcome State Fault Refusal :=
  .next (s.eventFrame ch f 0x15 .releaseAll)

/-- REPORT (R98, R281), of class vital cyclic. -/
def execReport (ch : Ch) (f : FrameRx) (s : State) : Host.Outcome State Fault Refusal :=
  .next (s.eventFrame ch f 0x16 .other)

/-! ### Heartbeats and application frames -/

/-- A heartbeat read from its words (Table 11-2). -/
def beatOf (ws : List Word) : Beat :=
  let w := (wordAt ws 0).toNat
  { role := bits w 1 0, sync := bits w 5 4, restart := w.testBit 6, swReady := w.testBit 7, invote := BitVec.ofNat 3 (bits w 10 8)
    ch := if bits w 13 12 == 1 then .b else if bits w 13 12 == 2 then .c else .a
    node := bits w 21 16, rankBit := w.testBit 24, claim := wordAt ws 1, eSeen := (wordAt ws 2).setWidth 16
    cycle := (wordAt ws 3).toNat, hbSeq := (wordAt ws 4).toNat, imageSeq := (wordAt ws 5).toNat, sealPos := wordAt ws 6
    fw := wordAt ws 7 }

/-- HEARTBEAT_FRAME (R298, R299, R303): the claim noted for every pair, and the partner's heartbeat checked. -/
def execHeartbeatFrame (ch : Ch) (f : FrameRx) (s : State) : Host.Outcome State Fault Refusal :=
  .next (s.onLive ch (fun c =>
    let (c, ok) := c.hearRelay ch f 0x0F
    let b := beatOf (frameWords f)
    if ok then
      { c with fab := c.fab.noteClaim b.node (beatKey b) b.claim }.takeBeat s.factory.variant .lane b
    else c))

/-- NONVITAL (R256): application data for this node. -/
def execNonvital (ch : Ch) (f : FrameRx) (s : State) : Host.Outcome State Fault Refusal :=
  .next (s.onLive ch (fun c =>
    let (c, ok) := c.hearRelay ch f 0x20
    if ok && c.addressed f then { c with fab := { c.fab with nonvital := c.fab.nonvital ++ [(f.origin, f.payload)] } }
    else c))

end Sys2Proof.Machine
end

