-- ==== Sys2Proof/Machine/Reintegration.lean ====
section
/-! DEFINITION. Reintegration of an excluded channel (spec/06_triplex_voting.md R176 to R179): the attempt, its requests, pages
and state, and the start of probation. -/

namespace Sys2Proof.Machine

open Sys2Proof

/-! ### The attempt -/

/-- None of the channel's own BIST failure flags is set (R176, R332 to R334, R355). -/
def Chan.bistClean (c : Chan) : Bool :=
  c.bist.fail == 0 && c.mem.sramHard == 0 && !c.nv.spareExh && !c.mem.bankFault &&
    !c.mem.stagingDamaged

/-- The conditions of R176. -/
def Chan.mayReintegrate (c : Chan) (me : Ch) : Bool :=
  c.running && !c.statusOnly && !c.votes me && !c.reint.barred && !c.vote.outFault &&
    (c.reint.phase == 0 || c.reint.phase == 5) && ((c.act 0x0C05).testBit 31 || c.reint.commanded) &&
    decide (0 < c.reint.triesLeft) && c.bistClean && c.votes me.next && c.votes me.prev &&
    (c.blocks.exch == 0 || c.blocks.exch == 4 || c.blocks.exch == 5)

/-- REINT_START (R176): VOTE.REINT_CTRL.DELAY seconds have passed since the exclusion or the last failed attempt, and an attempt
begins in PREPARE. -/
def execReintStart (ch : Ch) (s : State) : Host.Outcome State Fault Refusal :=
  .next (s.onLive ch (fun c =>
    if c.mayReintegrate ch && c.past c.reint.since (bits (c.act 0x0C05) 15 8 * 1000000) then
      { c with
        reint :=
          { c.reint with
            phase := 1, attempt := c.reint.attempt + 1, asked := false, acks := Tri.const false, pages := [], taken := none
            again := [], agreed := 0, join := none, judged := none, source := none, pagesLeft := c.pagesInUse.length } }
    else c))

/-- REINT_PREPARE_DONE (R85, R87, R177, Table 12-5): firmware area, page tables, tile store and master copy are rebuilt, the
instance data cleared, and REINT_REQ goes to both sources. -/
def execReintPrepareDone (ch : Ch) (s : State) : Host.Outcome State Fault Refusal :=
  let v := s.factory.variant
  .next (s.onLive ch (fun c =>
    if c.running && c.reint.phase == 1 && !c.reint.asked then
      let c := (((c.rewrite 0x40000000 0x900000).takePages [] (fun _ => 0)).writeInstances v).buildStore v
      let c := c.stampStates v c.mainCycle
      { c with reint := { c.reint with asked := true, since := c.clock } }.xsendBoth ch (.reintReq false c.reint.attempt)
    else c))

/-- REINT_TIMEOUT (R179): the COPY phase has not ended within VOTE.REINT_CTRL.TIMEOUT of the REINT_REQ, begun or not (log
39). -/
def execReintTimeout (ch : Ch) (s : State) : Host.Outcome State Fault Refusal :=
  .next (s.onLive ch (fun c =>
    if (c.reint.phase == 1 || c.reint.phase == 2) && c.reint.asked &&
        c.past c.reint.since (bits (c.act 0x0C05) 30 24 * 1000000) then c.failAttempt ch 2
    else c))

/-! ### At a source -/

/-- A request taken by a source (R177, R178): acknowledged in its next VERDICT, every one of its pages sent once. -/
def Chan.serve (c : Chan) (me x : Ch) (attempt : Nat) : Chan :=
  let c := { c with
    reint :=
      { c.reint with
        source := some x, attempt := attempt, join := none, agreed := 0, dirty := []
        toSend := c.pagesInUse.filter (ownPage me x), judged := some c.mainCycle } }
  c.flushPages

/-- REINT_REQ (R177, R179): a request at a source in the vote, or an abandonment at either side. While an exchange is armed a
source abandons what is asked of it. -/
def execReintReq (ch frm : Ch) (l : Link) (abandon : Bool) (attempt : Nat) (s : State) : Host.Outcome State Fault Refusal :=
  .next (s.taken ch frm l (.reintReq abandon attempt) (fun c =>
    if !c.running then c
    else if abandon then
      if c.reint.source == some frm then c.endSource
      else if c.votes ch then c
      else c.failAttempt ch 4
    else if c.votes ch && !c.votes frm && c.vote.mode == 2 then
      if c.blocks.exch == 3 then c.xsend frm (.reintReq true attempt) else c.serve ch frm attempt
    else c))

/-! ### At the channel -/

/-- Pages of the running image not yet received. -/
def Chan.pagesMissing (c : Chan) : Nat := (c.pagesInUse.filter (fun n => (tabGet c.reint.pages n).isNone)).length

/-- The vital state of the sources at the end of cycle J − 1 taken over (R177). The start-up hold goes on where its time is not
over (R112). What their transfers do not list is a free value (log 34). -/
def Chan.adopt (c : Chan) (v : Variant) (x : StateXfer) (pages : List (Nat × List Word)) (j : Nat) : Chan :=
  let ticks := ((x.commit - c.res.cycle) * c.periodUs 1 + c.res.acc) / 100000
  let held := c.res.hold && decide (ticks < c.res.holdTicks)
  let res :=
    { c.res.takeOver x.estate x.rstate x.acc x.commit with
      hold := held, holdTicks := if held then c.res.holdTicks - ticks else 0 }
  let c := c.takePages pages (fun t => c.cycleNumber t j 0 - 1)
  let c := { c with
    res := res
    blocks := { c.blocks with exch := x.exch }
    params := { c.params with active := x.active, shadow := x.pending }
    host := { c.host with queue := x.queue, results := x.results, nextTag := x.nextTag, effects := [] } }
  (c.writeInstances v).stampStates v c.mainCycle

/-- Probation begins (R177): the tasks of cycle J are released on the channel's own inputs, at the instant of J. -/
def State.startProbation (s : State) (ch : Ch) (x : StateXfer) (j : Nat) : State :=
  let v := s.factory.variant
  let s := s.mod ch (fun c =>
    let c := c.adopt v x c.reint.pages j
    { c with
      reint := { c.reint with phase := 4, agreed := 0, pages := [], taken := none }
      vote := { c.vote with probation := putBit c.vote.probation ch.code true } })
  let c := s.ch ch
  if c.mainCycle == j && c.din.offset == 0 then
    let s := s.releaseTasks ch j 0
    if c.din.openInstant then s else s.mod ch (fun c => c.freezeImages ch)
  else s

/-- With JOIN from both sources, the state of the commit and every page held, probation starts. -/
def State.tryProbation (s : State) (ch : Ch) : State :=
  let c := s.ch ch
  match c.reint.taken, c.reint.join, c.reint.phase == 3 && c.reint.acks.get ch.next && c.reint.acks.get ch.prev &&
      c.pagesMissing == 0 with
  | some x, some j, true => s.startProbation ch x j
  | _, _, _ => s

/-- The channel copies: from its REINT_REQ to probation. -/
def Chan.copying (c : Chan) : Bool :=
  (c.reint.phase == 1 && c.reint.asked) || c.reint.phase == 2 || c.reint.phase == 3

/-- PAGE (R178): stored in the channel's form; one that is refused is asked for again. -/
def execPage (ch frm : Ch) (l : Link) (page : Nat) (data : List Word) (s : State) : Host.Outcome State Fault Refusal :=
  let c := s.ch ch
  if ch == frm || !c.live then .next s
  else
    let (c, ok) := c.receive frm l (.page page data)
    if !c.copying then .next (s.put ch c)
    else if ok then
      let c := { c with reint := { c.reint with pages := tabPut c.reint.pages page data } }
      .next ((s.put ch { c with reint := { c.reint with pagesLeft := c.pagesMissing } }).tryProbation ch)
    else .next (s.put ch (if l.full then c else { c with reint := { c.reint with again := (c.reint.again ++ [page]).eraseDups } }))

/-- STATE (R177, R179): the state of a commit; an exchange armed in the sources fails the attempt. -/
def execStateTransfer (ch frm : Ch) (l : Link) (x : StateXfer) (s : State) : Host.Outcome State Fault Refusal :=
  .next (s.taken ch frm l (.state x) (fun c =>
    if c.copying then
      if x.exch == 3 then c.failAttempt ch 5 else { c with reint := { c.reint with taken := some x } }
    else c))

/-- JOIN (R177): the join cycle is named; the sources' JOINs count together only for one cycle. -/
def execJoin (ch frm : Ch) (l : Link) (cycle pages : Nat) (s : State) : Host.Outcome State Fault Refusal :=
  let c := s.ch ch
  if ch == frm || !c.live then .next s
  else
    let (c, ok) := c.receive frm l (.join cycle pages)
    if ok && (c.reint.phase == 2 || c.reint.phase == 3) then
      let acks := if c.reint.join == some cycle then c.reint.acks else Tri.const false
      let c := { c with
        reint := { c.reint with phase := 3, join := some cycle, acks := acks.set frm true, finalPages := pages } }
      .next ((s.put ch c).tryProbation ch)
    else .next (s.put ch c)

end Sys2Proof.Machine
end

