-- ==== Sys2Proof/Machine/Transfer.lean ====
section
/-! DEFINITION. The full state transfer, the standby's replay and the twin stage (spec/11_partner_redundancy.md R305 to R310, R314,
R316; spec/07_vital_io.md R203). -/

namespace Sys2Proof.Machine

open Sys2Proof

/-! ### Asking for a transfer (R305, R308) -/

/-- Both units report the same image and firmware. -/
def Chan.sameImage (c : Chan) (b : Beat) : Bool :=
  b.imageSeq == (c.image.map (fun g => g.imageSeq)).getD 0 && b.fw == c.boot.fwDigest.setWidth 32

/-- XFER_REQUEST (R305): PART.XFER_CTRL.DELAY has passed; a standby without state asks with REQ 1, or reports that the image
differs. -/
def execXferRequest (ch : Ch) (s : State) : Host.Outcome State Fault Refusal :=
  .next (s.onLive ch (fun c =>
    match c.part.beat with
    | none => c
    | some b =>
      let wanted := (c.act 0x1807).testBit 31 || c.part.commanded
      if c.running && !c.statusOnly && c.votes ch && c.part.role == 2 && c.part.sync == 0 && wanted && b.role == 1 &&
          c.past c.part.since (bits (c.act 0x1807) 15 8 * 1000000) then
        if c.sameImage b then
          { c with
            part :=
              { c.part.dropTransfer with
                sync := 1, phase := 1, pagesLeft := c.pagesInUse.length, commanded := false, since := c.clock } }.psend
            (.req 1 0)
        else { c with part := { c.part with cause := 7 } }
      else c))

/-- The active's exchange state allows a transfer (R305). -/
def Chan.exchAllows (c : Chan) : Bool := c.blocks.exch == 0 || c.blocks.exch == 4 || c.blocks.exch == 5

/-- REQ 1 at the active (R305, R306): PAGES begins with every page in use; where the exchange state forbids it, REQ 3. -/
def Chan.startPages (c : Chan) (me : Ch) : Chan :=
  if c.part.role == 1 && c.votes me then
    if c.exchAllows then
      { c with
        part := { c.part with phase := 1, feeding := false, sending := some (sortNat c.pagesInUse), since := c.clock }
        pwait := [] }.flushXfers
    else c.psend (.req 3 0)
  else c

/-- The transfers that the active keeps: those since the previous DELTA_END, and that one (R309). -/
def Chan.keptTransfers (c : Chan) : List (Nat × PMsg) :=
  let isDelta := fun (e : Nat × PMsg) => match e.2 with
    | .deltaEnd _ _ => true
    | _ => false
  let (since, before) := c.pout.reverse.span (fun e => !isDelta e)
  since ++ before.take 1

/-- REQ 2 at the active (R309, R310): the transfer of a SEQ sent again as it was, if it is kept (log 80). -/
def Chan.sendAgain (c : Chan) (n : Nat) : Chan :=
  match c.keptTransfers.find? (fun e => e.1 == n) with
  | some e => { c with pout := c.pout ++ [e] }
  | none => c

/-- REQ (R300, R305, R306, R308): a transfer asked for, a transfer sent again, or the end of the one under way. -/
def execReq (ch : Ch) (l : PLink) (code n : Nat) (s : State) : Host.Outcome State Fault Refusal :=
  .next (s.takenP ch l (.req code n) (fun c =>
    if !c.running then c
    else if code == 1 then c.startPages ch
    else if code == 2 then (if c.part.role == 1 && c.votes ch then c.sendAgain n else c)
    else if code == 3 then (if c.transferring then c.abandon 11 else c)
    else c))

/-- XFER_TIMEOUT (R308): PART.XFER_CTRL.TIMEOUT has passed since REQ 1. -/
def execXferTimeout (ch : Ch) (s : State) : Host.Outcome State Fault Refusal :=
  .next (s.onLive ch (fun c =>
    if c.running && c.transferring && c.past c.part.since (bits (c.act 0x1807) 30 24 * 1000000) then c.abandon 8 else c))

/-! ### The transfer at the standby (R306, R307) -/

/-- A standby that is being brought level. -/
def Chan.receiving (c : Chan) : Bool := c.running && c.part.role == 2 && c.part.sync == 1

/-- Pages of the running image not yet held. -/
def Chan.xferMissing (c : Chan) : Nat := (c.pagesInUse.filter (fun n => (tabGet c.part.pages n).isNone)).length

/-- XFER (R306): a page whose PAGE_CRC checks enters the page table; one that fails is asked for again. -/
def execXfer (ch : Ch) (l : PLink) (page : Nat) (crc : Word) (data : List Word) (s : State) : Host.Outcome State Fault Refusal :=
  .next (s.takenP ch l (.xfer page crc data) (fun c =>
    if !c.receiving then c
    else if pageCrc data == crc then
      let c := { c with part := { c.part with pages := tabPut c.part.pages page (crc, data) } }
      { c with part := { c.part with pagesLeft := c.xferMissing } }
    else c.refuseTransfers [l.link.seq]))

/-- XSTATE (R306): the state of the commit of J − 1. -/
def execXstate (ch : Ch) (l : PLink) (x : XStateXfer) (s : State) : Host.Outcome State Fault Refusal :=
  .next (s.takenP ch l (.xstate x) (fun c =>
    if c.receiving then { c with part := { c.part with xstate := some x, phase := 2 } } else c))

/-- The digest the standby computes from its page table and XSTATE (R307). -/
def Chan.ownCommit (c : Chan) (x : XStateXfer) : BitVec 64 :=
  commitDigest ((sortNat c.pagesInUse).map (fun n => ((tabGet c.part.pages n).map Prod.fst).getD 0)) x

/-- The output lockouts and maintenance latches of an XSTATE (R306). -/
def Nv.adoptFaults (v : Nv) (x : XStateXfer) : Nv :=
  { v with
    outFaults := v.outFaults.zipIdx.map (fun (e : OutFault × Nat) =>
      { e.1 with cause := x.lockCauses.getD e.2 0, maint := x.maint.getLsbD e.2 })
    gateRecords := x.counters }

/-- The active's vital state at the end of cycle `main` taken over, in the channel's own form, with ESTATE and RSTATE tiles and their
master copies (R87, R306); restart state as the active's heartbeat says. What the transfer does not list is a free value (log
34). -/
def Chan.adoptX (c : Chan) (v : Variant) (x : XStateXfer) (main : Nat) : Chan :=
  let pages := c.part.pages.map (fun p => (p.1, p.2.2))
  let c := { c with nv := c.nv.adoptFaults x }
  let c := c.takePages pages (fun t => x.taskCycles.getD t 0)
  let c := { c with
    res :=
      { c.res.takeOver x.estate x.rstate x.acc x.commit with
        restart := (c.part.beat.map (fun (b : Beat) => b.restart)).getD false, restartFirst := false }
    blocks := { c.blocks with exch := x.exch }
    tasks := c.tasks.zipIdx.map (fun (e : TaskState × Nat) =>
      { e.1.stopRun with cycle := x.taskCycles.getD e.2 0, skips := x.skips.getD e.2 0 })
    part := { c.part with applied := main } }
  (c.writeInstances v).stampStates v c.mainCycle

/-- COMMIT (R306 to R308): VERIFY begins. The standby computes its digest and rebuilds the state, or gives the transfer up
where the digest differs. -/
def execCommit (ch : Ch) (l : PLink) (cycle pages : Nat) (digest : BitVec 64) (s : State) : Host.Outcome State Fault Refusal :=
  .next (s.takenP ch l (.commit cycle pages digest) (fun c =>
    if !c.receiving then c
    else
      match c.part.xstate with
      | none => c.abandon 5
      | some x =>
        let own := c.ownCommit x
        if c.xferMissing == 0 && pages == c.pagesInUse.length && own == digest then
          let c := c.adoptX s.factory.variant x cycle
          { c with part := { c.part with phase := 3, commit := some (cycle, pages, digest), commitOwn := own } }
        else c.abandon 9))

/-- XFER_VERIFY (R304, R306, R307): two channels of the vote hold a digest equal to that of COMMIT; the standby is synchronised
and replays from cycle J. -/
def execXferVerify (ch : Ch) (s : State) : Host.Outcome State Fault Refusal :=
  let c := s.ch ch
  match c.live && c.receiving && c.part.phase == 3, c.part.commit with
  | true, some (_, _, d) =>
    if c.part.commitOwn == d && decide (2 ≤ ((c.countedPartner ch).filter (fun t => t.commit == d)).length) then
      let s := s.mod ch (fun c =>
        { c with
          part := { c.part with sync := 2, phase := 4, pages := [], xstate := none, commit := none, pagesLeft := 0 } }.emit
          .syncChange 0 [])
      .next (s.replayNext ch)
    else .next s
  | _, _ => .next s

/-! ### Following the active (R309, R310) -/

/-- A standby that takes the active's runs: while it is brought level it buffers them, for the delta goes before XSTATE, COMMIT and
pages on the link (R301, R306); synchronised it replays them. -/
def Chan.takesRuns (c : Chan) : Bool := c.running && c.part.role == 2 && c.part.sync != 0

/-- More than one main cycle of runs waits for replay (R310). -/
def Chan.backlogFull (c : Chan) (main : Nat) : Bool :=
  c.part.backlog.any (fun r => decide (r.run.mainCycle + 1 < main))

/-- A run comes before another in the order in which the active sends them: by release instant, then by task (R309). -/
def runBefore (a b : RunInput) : Bool :=
  decide (a.mainCycle < b.mainCycle) ||
    (a.mainCycle == b.mainCycle && (decide (a.offset < b.offset) || (a.offset == b.offset && decide (a.task < b.task))))

/-- A run put in its place in the backlog: a transfer sent again comes late (R309, R310). -/
def Part.addRun (p : Part) (r : RunInput) : Part :=
  let old := p.backlog.filter (fun (b : Replay) => b.own.isSome || b.before.isSome || runBefore b.run r)
  let new := p.backlog.filter (fun (b : Replay) => !(b.own.isSome || b.before.isSome || runBefore b.run r))
  { p with backlog := old ++ ({ run := r, own := none, ended := none, before := none } : Replay) :: new }

/-- RUN_IN (R309, R310): the run joins the backlog, and the main cycle is the active's. -/
def execRunIn (ch : Ch) (l : PLink) (r : RunInput) (s : State) : Host.Outcome State Fault Refusal :=
  let v := s.factory.variant
  let s := s.takenP ch l (.runIn r) (fun c =>
    if !c.takesRuns then c
    else if c.follows && c.backlogFull r.mainCycle then c.loseSync v 6
    else { c with mainCycle := max c.mainCycle r.mainCycle, part := c.part.addRun r })
  .next (s.replayNext ch)

/-- A run of this unit's backlog is still to be verified. -/
def Part.outstanding (p : Part) (task cycle : Nat) : Bool :=
  p.backlog.any (fun r => r.run.task == task && r.run.taskCycle == cycle)

/-- RUN_END (R309, R310, R315): the active's digest of a run, also of one that a handover has left outstanding. -/
def execRunEnd (ch : Ch) (l : PLink) (task taskCycle : Nat) (digest : BitVec 64) (s : State) :
    Host.Outcome State Fault Refusal :=
  let v := s.factory.variant
  .next (s.takenP ch l (.runEnd task taskCycle digest) (fun c =>
    if c.takesRuns then
      let p := c.part.runEnded task taskCycle digest
      let c := { c with part := { p with runsSince := p.runsSince + 1 } }
      if c.follows then c.verifyRuns v else c
    else if c.running && c.part.role == 1 && c.part.outstanding task taskCycle then
      { c with part := c.part.runEnded task taskCycle digest }.verifyRuns v
    else c))

/-- A twin standby tells the active of its lockouts with the delta, in a CMD without commands (R203; that it is a CMD is a DESIGN
CHOICE, log 80). -/
def Chan.sendLockouts (c : Chan) (me : Ch) (cycle : Nat) : Chan :=
  if c.twin && c.votes me && c.part.role == 2 then c.psend (.cmd 1 cycle 0 0 c.lockMask) else c

/-- DELTA_END (R203, R309, R310): the delta of a cycle is closed; a transfer still refused, or a run not counted, discards the
state. -/
def execDeltaEnd (ch : Ch) (l : PLink) (cycle runs : Nat) (s : State) : Host.Outcome State Fault Refusal :=
  let v := s.factory.variant
  .next (s.takenP ch l (.deltaEnd cycle runs) (fun c =>
    if !c.takesRuns then c
    else
      let missing := !c.part.refused.isEmpty || c.part.runsSince != runs
      let c := { c with part := { c.part with runsSince := 0 } }
      (if missing then c.missingTransfer v else c).sendLockouts ch cycle))

/-- SWITCH (R314): the switchover's cycle at a synchronised standby. -/
def execSwitchTransfer (ch : Ch) (l : PLink) (cycle : Nat) (s : State) : Host.Outcome State Fault Refusal :=
  .next (s.takenP ch l (.switchAt cycle) (fun c =>
    if c.running && c.follows then { c with part := { c.part with switchAt := cycle, swReady := false } } else c))

/-! ### The twin stage (R203, R316) -/

/-- The partner's lockouts taken: an output locked out in either unit is forced off (R203). -/
def Chan.takeLockouts (c : Chan) (lockouts : Word) (us : Nat) : Chan :=
  { c with dout := { c.dout with twinLock := lockouts } }.forceOff us

/-- Commands for this channel's stage from the unit with the higher claim: outputs of the mask as commanded, but for those that stay
off (R203). -/
def Chan.twinCommand (c : Chan) (mask outs lockouts : Word) (us : Nat) : Chan :=
  let c := { c with
    dout := { c.dout.freshFrom mask us with twinCmd := (c.dout.twinCmd &&& ~~~mask) ||| (outs &&& mask), twinLock := lockouts } }
  ((List.range 32).foldl (fun c n => if mask.getLsbD n then c.commandOutput n (outs.getLsbD n) true us else c) c.setLowSide).forceOff
    us

/-- CMD (R203, R298, R316): the stage of a twin standby follows the active's commands; the active takes the standby's lockouts. -/
def execCmd (ch : Ch) (l : PLink) (task taskCycle : Nat) (mask outs lockouts : Word) (s : State) :
    Host.Outcome State Fault Refusal :=
  .next (s.takenP ch l (.cmd task taskCycle mask outs lockouts) (fun c =>
    let us := taskCycle * c.periodUs task
    if !c.running || c.statusOnly || !c.twin || !c.votes ch || c.supply.powerFail then c
    else if c.takesRuns && c.higher then c.twinCommand mask outs lockouts us
    else if c.part.role == 1 then c.takeLockouts lockouts us
    else c))

end Sys2Proof.Machine
end

