-- ==== Sys2Proof/Machine/Dispatch.lean ====
section
/-! DEFINITION. The command at hand and its meaning: one arm per row of the table. -/

namespace Sys2Proof.Machine

open Sys2Proof

def exec (i : Instr) (s : State) : Host.Outcome State Fault Refusal :=
  match i with
  | .feedLoss ch feed => Sys2Proof.Machine.execFeedLoss ch feed s
  | .pfAnnounced ch => Sys2Proof.Machine.execPfAnnounced ch s
  | .feedRestored ch feed => Sys2Proof.Machine.execFeedRestored ch feed s
  | .holdupExhausted => Sys2Proof.Machine.execHoldupExhausted s
  | .powerOnReset ch => Sys2Proof.Machine.execPowerOnReset ch s
  | .startupPhaseComplete ch r => Sys2Proof.Machine.execStartupPhaseComplete ch r s
  | .agreementDecision ch => Sys2Proof.Machine.execAgreementDecision ch s
  | .agreementTimeout ch ms => Sys2Proof.Machine.execAgreementTimeout ch ms s
  | .alignmentTimeout ch skew ms => Sys2Proof.Machine.execAlignmentTimeout ch skew ms s
  | .testTimeout ch ms => Sys2Proof.Machine.execTestTimeout ch ms s
  | .partnerListenEnd ch ms => Sys2Proof.Machine.execPartnerListenEnd ch ms s
  | .hostHubFailure => Sys2Proof.Machine.execHostHubFailure s
  | .hostPortLost ch => Sys2Proof.Machine.execHostPortLost ch s
  | .sfpInserted ch port code mw => Sys2Proof.Machine.execSfpInserted ch port code mw s
  | .sfpRemoved ch port => Sys2Proof.Machine.execSfpRemoved ch port s
  | .sealSample ch pos => Sys2Proof.Machine.execSealSample ch pos s
  | .samplerStall ch => Sys2Proof.Machine.execSamplerStall ch s
  | .inputDebounce ch t level => Sys2Proof.Machine.execInputDebounce ch t level s
  | .inputCircuitTest ch n pass => Sys2Proof.Machine.execInputCircuitTest ch n pass s
  | .taskRelease ch offset now snaps back warn => Sys2Proof.Machine.execTaskRelease ch offset now snaps back warn s
  | .marker ch frm l cycle localTime wait arrival => Sys2Proof.Machine.execMarker ch frm l cycle localTime wait arrival s
  | .inputAgreement ch => Sys2Proof.Machine.execInputAgreement ch s
  | .taskRun ch task passUs execUs => Sys2Proof.Machine.execTaskRun ch task passUs execUs s
  | .positioningTimeout ch route => Sys2Proof.Machine.execPositioningTimeout ch route s
  | .approachTimeRelease ch route => Sys2Proof.Machine.execApproachTimeRelease ch route s
  | .overlapReleaseTimer ch route => Sys2Proof.Machine.execOverlapReleaseTimer ch route s
  | .emergencyReleaseExpiry ch route => Sys2Proof.Machine.execEmergencyReleaseExpiry ch route s
  | .rsvTimeout ch route => Sys2Proof.Machine.execRsvTimeout ch route s
  | .startupHoldEnd ch => Sys2Proof.Machine.execStartupHoldEnd ch s
  | .tileVerify ch tile flips poison => Sys2Proof.Machine.execTileVerify ch tile flips poison s
  | .tileReload ch tile flips poison => Sys2Proof.Machine.execTileReload ch tile flips poison s
  | .progTileVerify ch task tile flips poison => Sys2Proof.Machine.execProgTileVerify ch task tile flips poison s
  | .fbTimerExpiry ch inst => Sys2Proof.Machine.execFbTimerExpiry ch inst s
  | .groupReturnToService ch g => Sys2Proof.Machine.execGroupReturnToService ch g s
  | .gateFault ch gate => Sys2Proof.Machine.execGateFault ch gate s
  | .doorInputDiscrepancy ch elem => Sys2Proof.Machine.execDoorInputDiscrepancy ch elem s
  | .gateIsolationLapse ch gate => Sys2Proof.Machine.execGateIsolationLapse ch gate s
  | .gateIsolationWarning ch gate => Sys2Proof.Machine.execGateIsolationWarning ch gate s
  | .discrepancyTimeout ch who n => Sys2Proof.Machine.execDiscrepancyTimeout ch who n s
  | .discrepancyClear ch who n => Sys2Proof.Machine.execDiscrepancyClear ch who n s
  | .vote ch frm l x => Sys2Proof.Machine.execVote ch frm l x s
  | .voteDecision ch task execUs => Sys2Proof.Machine.execVoteDecision ch task execUs s
  | .verdict ch frm l v => Sys2Proof.Machine.execVerdict ch frm l v s
  | .exclAck ch frm l who taskCycle => Sys2Proof.Machine.execExclAck ch frm l who taskCycle s
  | .exclAckTimeout ch who => Sys2Proof.Machine.execExclAckTimeout ch who s
  | .cutLineChange frm whom level => Sys2Proof.Machine.execCutLineChange frm whom level s
  | .oneSidedLimit ch => Sys2Proof.Machine.execOneSidedLimit ch s
  | .voterFault unit => Sys2Proof.Machine.execVoterFault unit s
  | .degLimitWarning ch => Sys2Proof.Machine.execDegLimitWarning ch s
  | .degLimitExpired ch => Sys2Proof.Machine.execDegLimitExpired ch s
  | .degCountReset ch => Sys2Proof.Machine.execDegCountReset ch s
  | .reintStart ch => Sys2Proof.Machine.execReintStart ch s
  | .reintPrepareDone ch => Sys2Proof.Machine.execReintPrepareDone ch s
  | .reintTimeout ch => Sys2Proof.Machine.execReintTimeout ch s
  | .reintReq ch frm l abandon attempt => Sys2Proof.Machine.execReintReq ch frm l abandon attempt s
  | .page ch frm l page data => Sys2Proof.Machine.execPage ch frm l page data s
  | .stateTransfer ch frm l x => Sys2Proof.Machine.execStateTransfer ch frm l x s
  | .join ch frm l cycle pages => Sys2Proof.Machine.execJoin ch frm l cycle pages s
  | .test ch frm l set odd => Sys2Proof.Machine.execTest ch frm l set odd s
  | .counters ch frm l records => Sys2Proof.Machine.execCounters ch frm l records s
  | .claimTransfer ch frm l number claimant digest => Sys2Proof.Machine.execClaimTransfer ch frm l number claimant digest s
  | .offTestPulse ch n pair sweep dip cut => Sys2Proof.Machine.execOffTestPulse ch n pair sweep dip cut s
  | .lowSideTest ch g ok => Sys2Proof.Machine.execLowSideTest ch g ok s
  | .outputTimeout ch n => Sys2Proof.Machine.execOutputTimeout ch n s
  | .fieldSupplySag ch g => Sys2Proof.Machine.execFieldSupplySag ch g s
  | .hedgehogTrip cause => Sys2Proof.Machine.execHedgehogTrip cause s
  | .referenceSend ch => Sys2Proof.Machine.execReferenceSend ch s
  | .owlGiveUp ch => Sys2Proof.Machine.execOwlGiveUp ch s
  | .reference ch f => Sys2Proof.Machine.execReference ch f s
  | .referenceMissing ch => Sys2Proof.Machine.execReferenceMissing ch s
  | .owlTakeover ch => Sys2Proof.Machine.execOwlTakeover ch s
  | .referenceConflictLimit ch => Sys2Proof.Machine.execReferenceConflictLimit ch s
  | .listenTimeout ch => Sys2Proof.Machine.execListenTimeout ch s
  | .coldstartEntry ch => Sys2Proof.Machine.execColdstartEntry ch s
  | .coldstartComplete ch => Sys2Proof.Machine.execColdstartComplete ch s
  | .coldstart ch f => Sys2Proof.Machine.execColdstart ch f s
  | .dupBackoffEnd ch => Sys2Proof.Machine.execDupBackoffEnd ch s
  | .scheduleSwitch ch => Sys2Proof.Machine.execScheduleSwitch ch s
  | .frameTransmit ch port at_ => Sys2Proof.Machine.execFrameTransmit ch port at_ s
  | .badgerViolation ch port at_ => Sys2Proof.Machine.execBadgerViolation ch port at_ s
  | .hello ch f => Sys2Proof.Machine.execHello ch f s
  | .discoveryComplete ch => Sys2Proof.Machine.execDiscoveryComplete ch s
  | .timeStatus ch f => Sys2Proof.Machine.execTimeStatus ch f s
  | .delayReq ch f => Sys2Proof.Machine.execDelayReq ch f s
  | .delayResp ch f => Sys2Proof.Machine.execDelayResp ch f s
  | .reintNotice ch f => Sys2Proof.Machine.execReintNotice ch f s
  | .identity ch f => Sys2Proof.Machine.execIdentity ch f s
  | .credit ch f => Sys2Proof.Machine.execCredit ch f s
  | .portDown ch port => Sys2Proof.Machine.execPortDown ch port s
  | .portUp ch port => Sys2Proof.Machine.execPortUp ch port s
  | .linkDown ch f => Sys2Proof.Machine.execLinkDown ch f s
  | .ready ch f => Sys2Proof.Machine.execReady ch f s
  | .topoFault ch f => Sys2Proof.Machine.execTopoFault ch f s
  | .claim ch f => Sys2Proof.Machine.execClaim ch f s
  | .claimAck ch f => Sys2Proof.Machine.execClaimAck ch f s
  | .heartbeatFrame ch f => Sys2Proof.Machine.execHeartbeatFrame ch f s
  | .vitalData ch f => Sys2Proof.Machine.execVitalData ch f s
  | .reserve ch f => Sys2Proof.Machine.execReserve ch f s
  | .grant ch f => Sys2Proof.Machine.execGrant ch f s
  | .refuse ch f => Sys2Proof.Machine.execRefuse ch f s
  | .unreserve ch f => Sys2Proof.Machine.execUnreserve ch f s
  | .releaseAll ch f => Sys2Proof.Machine.execReleaseAll ch f s
  | .report ch f => Sys2Proof.Machine.execReport ch f s
  | .nonvital ch f => Sys2Proof.Machine.execNonvital ch f s
  | .queueLinkError ch cls range => Sys2Proof.Machine.execQueueLinkError ch cls range s
  | .queueRangeRebuild ch cls range => Sys2Proof.Machine.execQueueRangeRebuild ch cls range s
  | .heartbeatInstant ch loop => Sys2Proof.Machine.execHeartbeatInstant ch loop s
  | .heartbeat ch l b => Sys2Proof.Machine.execHeartbeat ch l b s
  | .heartbeatMiss ch path => Sys2Proof.Machine.execHeartbeatMiss ch path s
  | .partnerAgreement ch => Sys2Proof.Machine.execPartnerAgreement ch s
  | .xferRequest ch => Sys2Proof.Machine.execXferRequest ch s
  | .req ch l code n => Sys2Proof.Machine.execReq ch l code n s
  | .xfer ch l page pageCrc data => Sys2Proof.Machine.execXfer ch l page pageCrc data s
  | .xstate ch l x => Sys2Proof.Machine.execXstate ch l x s
  | .commit ch l cycle pages digest => Sys2Proof.Machine.execCommit ch l cycle pages digest s
  | .xferVerify ch => Sys2Proof.Machine.execXferVerify ch s
  | .xferTimeout ch => Sys2Proof.Machine.execXferTimeout ch s
  | .runIn ch l r => Sys2Proof.Machine.execRunIn ch l r s
  | .runEnd ch l task taskCycle digest => Sys2Proof.Machine.execRunEnd ch l task taskCycle digest s
  | .cmd ch l task taskCycle mask outs lockouts => Sys2Proof.Machine.execCmd ch l task taskCycle mask outs lockouts s
  | .deltaEnd ch l cycle runs => Sys2Proof.Machine.execDeltaEnd ch l cycle runs s
  | .switchTransfer ch l cycle => Sys2Proof.Machine.execSwitchTransfer ch l cycle s
  | .dmaDescriptor ch e d => Sys2Proof.Machine.execDmaDescriptor ch e d s
  | .dmaStop ch e => Sys2Proof.Machine.execDmaStop ch e s
  | .translationFault ch reader space va acc => Sys2Proof.Machine.execTranslationFault ch reader space va acc s
  | .initTrap ch reader addr => Sys2Proof.Machine.execInitTrap ch reader addr s
  | .memoryReadError ch reader addr lane => Sys2Proof.Machine.execMemoryReadError ch reader addr lane s
  | .memoryProtectionFault ch w addr => Sys2Proof.Machine.execMemoryProtectionFault ch w addr s
  | .scrubWord ch dram => Sys2Proof.Machine.execScrubWord ch dram s
  | .scrubUeAction ch addr lane => Sys2Proof.Machine.execScrubUeAction ch addr lane s
  | .pageRetire ch page cause => Sys2Proof.Machine.execPageRetire ch page cause s
  | .bankRetire ch bank => Sys2Proof.Machine.execBankRetire ch bank s
  | .correctionLogExpiry ch addr lane => Sys2Proof.Machine.execCorrectionLogExpiry ch addr lane s
  | .arbiterDecision ch waiting => Sys2Proof.Machine.execArbiterDecision ch waiting s
  | .arbiterHoldCut ch => Sys2Proof.Machine.execArbiterHoldCut ch s
  | .memFlipWrite ch value host => Sys2Proof.Machine.execMemFlipWrite ch value host s
  | .flipApply ch w addr lanes data => Sys2Proof.Machine.execFlipApply ch w addr lanes data s
  | .arbParamWrite ch num value => Sys2Proof.Machine.execArbParamWrite ch num value s
  | .arbCutClear ch bits => Sys2Proof.Machine.execArbCutClear ch bits s
  | .bistSlice ch block slice idleUs results hot => Sys2Proof.Machine.execBistSlice ch block slice idleUs results hot s
  | .bistSliceTimeout ch block slice => Sys2Proof.Machine.execBistSliceTimeout ch block slice s
  | .bistSliceAbandon ch block slice => Sys2Proof.Machine.execBistSliceAbandon ch block slice s
  | .bistRoundStart ch => Sys2Proof.Machine.execBistRoundStart ch s
  | .bistRoundLate ch => Sys2Proof.Machine.execBistRoundLate ch s
  | .recordAppend ch => Sys2Proof.Machine.execRecordAppend ch s
  | .commitDecision key => Sys2Proof.Machine.execCommitDecision key s
  | .diagFlush ch => Sys2Proof.Machine.execDiagFlush ch s
  | .recorderStart ch => Sys2Proof.Machine.execRecorderStart ch s
  | .sessionTimeout ch session => Sys2Proof.Machine.execSessionTimeout ch session s
  | .prepareExpiry ch session => Sys2Proof.Machine.execPrepareExpiry ch session s
  | .flashWrite ch => Sys2Proof.Machine.execFlashWrite ch s
  | .arp target => Sys2Proof.Machine.execArp target s
  | .icmpEcho target size now => Sys2Proof.Machine.execIcmpEcho target size now s
  | .getStatus p => Sys2Proof.Machine.execGetStatus p s
  | .getIdentity p => Sys2Proof.Machine.execGetIdentity p s
  | .openSession p => Sys2Proof.Machine.execOpenSession p s
  | .closeSession p => Sys2Proof.Machine.execCloseSession p s
  | .nop p => Sys2Proof.Machine.execNop p s
  | .readParam p => Sys2Proof.Machine.execReadParam p s
  | .readBlock p => Sys2Proof.Machine.execReadBlock p s
  | .writeParam p => Sys2Proof.Machine.execWriteParam p s
  | .emergencyRelease p => Sys2Proof.Machine.execEmergencyRelease p s
  | .unblock p => Sys2Proof.Machine.execUnblock p s
  | .clearTaskFault p => Sys2Proof.Machine.execClearTaskFault p s
  | .clearLockout p => Sys2Proof.Machine.execClearLockout p s
  | .hedgehogRearm p => Sys2Proof.Machine.execHedgehogRearm p s
  | .gateIsolate p => Sys2Proof.Machine.execGateIsolate p s
  | .plungerReset p => Sys2Proof.Machine.execPlungerReset p s
  | .reintegrate p => Sys2Proof.Machine.execReintegrate p s
  | .exchArm p => Sys2Proof.Machine.execExchArm p s
  | .switchover p => Sys2Proof.Machine.execSwitchover p s
  | .recorderClear p => Sys2Proof.Machine.execRecorderClear p s
  | .restoreFactory p => Sys2Proof.Machine.execRestoreFactory p s
  | .loadBegin p => Sys2Proof.Machine.execLoadBegin p s
  | .loadData p => Sys2Proof.Machine.execLoadData p s
  | .loadEnd p => Sys2Proof.Machine.execLoadEnd p s
  | .exchVerify p => Sys2Proof.Machine.execExchVerify p s
  | .exchAbort p => Sys2Proof.Machine.execExchAbort p s
  | .exchPrepareDone ch => Sys2Proof.Machine.execExchPrepareDone ch s
  | .snapOpen p => Sys2Proof.Machine.execSnapOpen p s
  | .snapRead p => Sys2Proof.Machine.execSnapRead p s
  | .windowGet p => Sys2Proof.Machine.execWindowGet p s
  | .snapClose p => Sys2Proof.Machine.execSnapClose p s
  | .routeSet p => Sys2Proof.Machine.execRouteSet p s
  | .routeCancel p => Sys2Proof.Machine.execRouteCancel p s
  | .pointNormal p => Sys2Proof.Machine.execPointNormal p s
  | .pointReverse p => Sys2Proof.Machine.execPointReverse p s
  | .keyRelease p => Sys2Proof.Machine.execKeyRelease p s
  | .blockRequest p => Sys2Proof.Machine.execBlockRequest p s
  | .requestResult p => Sys2Proof.Machine.execRequestResult p s
  | .gateReset p => Sys2Proof.Machine.execGateReset p s
  | .gateIsolEnd p => Sys2Proof.Machine.execGateIsolEnd p s
  | .gateServiceReset p => Sys2Proof.Machine.execGateServiceReset p s
  | .portRestart p => Sys2Proof.Machine.execPortRestart p s
  | .quote p => Sys2Proof.Machine.execQuote p s
  | .getCert p => Sys2Proof.Machine.execGetCert p s
  | .keyEnrol p => Sys2Proof.Machine.execKeyEnrol p s
  | .keyRead p => Sys2Proof.Machine.execKeyRead p s
  | .calRead p => Sys2Proof.Machine.execCalRead p s
  | .calWrite p => Sys2Proof.Machine.execCalWrite p s
  | .resync p => Sys2Proof.Machine.execResync p s
  | .xferAbandon p => Sys2Proof.Machine.execXferAbandon p s
  | .hostHubRecovery => Sys2Proof.Machine.execHostHubRecovery s
  | .basicCycleStart ch now => Sys2Proof.Machine.execBasicCycleStart ch now s
  | .badOpcode opcode p => Sys2Proof.Machine.execBadOpcode opcode p s

end Sys2Proof.Machine
end

