-- ==== Sys2Proof/Machine/Step.lean ====
section
/-! DEFINITION. One step: the command at the front of the queue takes effect, with the queue's rest; on an empty queue the
module idles, and each free link of its channels begins a transfer that waits (logs 1 and 65). -/

namespace Sys2Proof.Machine

open Sys2Proof

/-- What the module does while nothing is commanded: each free link of a channel begins one waiting transfer (R161, R301; log
65). -/
def State.idle (s : State) : State := s.allLive (fun me c => c.drainLinks me)

/-- One step. -/
def step (s : State) : Host.Outcome State Fault Refusal :=
  match s.pending with
  | [] => .next s.idle
  | c :: rest => exec c { s with pending := rest }

/-- The state with the command that a word spells put at the front of its queue. -/
def State.withFetchWord (s : State) (nbits w : Nat) : State :=
  match decodeTableWord nbits w with
  | some c => { s with pending := c :: s.pending }
  | none => s

end Sys2Proof.Machine
end

