-- ==== Sys2Proof/Machine/Indicators.lean ====
section
/-! DEFINITION. What the module shows on its output terminals (spec/01_architecture.md R17, spec/06_triplex_voting.md R169,
spec/07_vital_io.md R201) and on its front panel (spec/02_connectors_supplies_seal.md R51, Table 02-12): functions of the
state, nothing stored. -/

namespace Sys2Proof.Machine

open Sys2Proof

/-! ### Output terminals -/

/-- A channel's drive reaches the output network: not cut off (R169). -/
def State.driving (s : State) (x : Ch) : Bool := !s.net.driveCut.get x

/-- A channel holds both its high-side switches of an output closed (R17). -/
def State.highClosed (s : State) (x : Ch) (n : Nat) : Bool := s.driving x && (s.ch x).dout.high.getLsbD n

/-- A channel holds its low-side switches of an output's group closed (R17, R191). -/
def State.lowClosed (s : State) (x : Ch) (n : Nat) : Bool := s.driving x && (s.ch x).dout.lowSide.getLsbD (groupOf n)

/-- Two channels of the three: a path of the network with both its switches closed. -/
def twoOf (p : Ch → Bool) : Bool := (p .a && p .b) || (p .b && p .c) || (p .c && p .a)

/-- An output terminal is energised: a high-side and a low-side path closed, the Hedgehog armed in both its copies (R17,
R201, R202). -/
def State.energised (s : State) (n : Nat) : Bool :=
  !s.hedgehog.copy1 && !s.hedgehog.copy2 && twoOf (fun x => s.highClosed x n) && twoOf (fun x => s.lowClosed x n)

/-! ### Front indicators -/

/-- What a lamp shows; `red` only on the lamps of two colours. -/
inductive Lamp where
  | dark
  | steady (red : Bool)
  | flashing (red : Bool)
  deriving DecidableEq, Repr, Inhabited

/-- A lamp over a value that all three channels report: what two agree on, flashing when no two agree. -/
def agreedLamp (a b c : Lamp) : Lamp := if a == b || a == c then a else if b == c then b else .flashing false

/-- The host hub's lamp from what each channel that executes reports from P1 on; dark while the hub has failed or the module is
unpowered (R15, R51). -/
def State.lamp (s : State) (view : Ch → Chan → Lamp) : Lamp :=
  let shown := fun (x : Ch) => if (s.ch x).live && decide (1 ≤ (s.ch x).boot.phase) then view x (s.ch x) else .dark
  if s.hub.alive then agreedLamp (shown .a) (shown .b) (shown .c) else .dark

/-- On or off. -/
def lit (b : Bool) : Lamp := if b then .steady false else .dark

/-- PWR1 and PWR2. -/
def State.lampPwr (s : State) (f : Feed) : Lamp :=
  let view := fun (x : Ch) => lit (match f with | .one => (s.ch x).supply.present1 | .two => (s.ch x).supply.present2)
  if s.hub.alive then agreedLamp (view .a) (view .b) (view .c) else .dark

/-- STATUS. -/
def State.lampStatus (s : State) : Lamp :=
  s.lamp (fun _ c => if c.boot.phase == 7 && !c.statusOnly && !s.sealActed then .steady false else .flashing false)

/-- A, B and C: a channel's own report of a failure or a reintegration, else its place in the vote as two channels have
it. -/
def State.lampChannel (s : State) (x : Ch) : Lamp :=
  if !s.hub.alive || !(s.ch x).live then .dark
  else if !(s.ch x).bistClean then .flashing true
  else if (s.ch x).reint.phase != 0 && (s.ch x).reint.phase != 5 then .flashing false
  else s.lamp (fun _ c => .steady (!c.votes x))

/-- VOTE. -/
def State.lampVote (s : State) : Lamp :=
  s.lamp (fun _ c => if c.vote.degWarn then .flashing false else lit (c.vote.mode == 2))

/-- SAFE: STATE of SAFE.HEDGEHOG as each channel reports it (R202, Table 07-20). -/
def State.lampSafe (s : State) : Lamp :=
  s.lamp (fun _ c =>
    if s.hedgehog.st == 1 then .dark else if c.host.rearmPrepared then .flashing true else .steady true)

/-- MODE. -/
def State.lampMode (s : State) : Lamp :=
  s.lamp (fun _ c => if c.split then .steady false else if c.keyEnrol || c.boot.unprog then .flashing false else .dark)

/-- FAB. -/
def State.lampFab (s : State) : Lamp :=
  s.lamp (fun _ c => if !c.onFabric then .dark else if c.frt.fault || !c.sync.compiled then .flashing false else .steady false)

/-- The lamp of a cage, which one channel owns (R37); a frame received in the dynamic segment under way, or one just sent or
relayed in this basic cycle, is activity (log 28). -/
def State.lampCage (s : State) (x : Ch) (p : Port) : Lamp :=
  let c := s.ch x
  let q := c.frt.port p
  if !s.hub.alive || !c.live || !q.up then .dark
  else if q.heard || (c.guard.line p).busy != 0 then .flashing false
  else .steady false

/-- A lamp of the I/O field, 0 to 127: DI00 to DI63, FB00 to FB31, DO00 to DO31. -/
def State.lampIo (s : State) (k : Nat) : Lamp :=
  s.lamp (fun x c =>
    if k < 96 then
      if c.din.disagree.getLsbD k || c.din.invalid.getLsbD k || (c.din.faulty.get x).getLsbD k then .flashing false
      else lit (c.din.cons.getLsbD k)
    else
      let n := k - 96
      if c.nv.outCause n != 0 || (c.nv.outFault n).maint then .flashing false else lit (c.dout.readback.getLsbD n))

end Sys2Proof.Machine
end

