-- ==== Sys2Proof/Safety.lean ====
section
/-! DEFINITION. The words in which claims about the module are stated: what the Hedgehog and the output network keep in every
state (spec/06_triplex_voting.md R169, spec/07_vital_io.md R201, R202), what an event may touch, when a host packet is
accepted (spec/15_host_commands.md R380 to R384), the rows of host commands by opcode. -/

namespace Sys2Proof

open Sys2Proof.Machine

/-- The channel a row's event happens in, where it can reach no other channel and no shared hardware; none for a row whose
event concerns the module or can put a channel out of the vote. -/
def Instr.home (i : Instr) : Option Ch :=
  match i with
  | .feedRestored ch _ => some ch
  | .pfAnnounced ch => some ch
  | .agreementDecision ch => some ch
  | .agreementTimeout ch _ => some ch
  | .alignmentTimeout ch _ _ => some ch
  | .testTimeout ch _ => some ch
  | .partnerListenEnd ch _ => some ch
  | .hostPortLost ch => some ch
  | .sfpInserted ch _ _ _ => some ch
  | .sfpRemoved ch _ => some ch
  | .sealSample ch _ => some ch
  | .inputDebounce ch _ _ => some ch
  | .inputCircuitTest ch _ _ => some ch
  | .marker ch _ _ _ _ _ _ => some ch
  | .taskRun ch _ _ _ => some ch
  | .positioningTimeout ch _ => some ch
  | .approachTimeRelease ch _ => some ch
  | .overlapReleaseTimer ch _ => some ch
  | .emergencyReleaseExpiry ch _ => some ch
  | .rsvTimeout ch _ => some ch
  | .startupHoldEnd ch => some ch
  | .tileVerify ch _ _ _ => some ch
  | .fbTimerExpiry ch _ => some ch
  | .groupReturnToService ch _ => some ch
  | .gateFault ch _ => some ch
  | .doorInputDiscrepancy ch _ => some ch
  | .gateIsolationLapse ch _ => some ch
  | .gateIsolationWarning ch _ => some ch
  | .discrepancyTimeout ch _ _ => some ch
  | .discrepancyClear ch _ _ => some ch
  | .vote ch _ _ _ => some ch
  | .exclAck ch _ _ _ _ => some ch
  | .exclAckTimeout ch _ => some ch
  | .degLimitWarning ch => some ch
  | .degCountReset ch => some ch
  | .reintStart ch => some ch
  | .reintPrepareDone ch => some ch
  | .reintTimeout ch => some ch
  | .reintReq ch _ _ _ _ => some ch
  | .stateTransfer ch _ _ _ => some ch
  | .test ch _ _ _ _ => some ch
  | .counters ch _ _ _ => some ch
  | .claimTransfer ch _ _ _ _ _ => some ch
  | .offTestPulse ch _ _ _ _ _ => some ch
  | .lowSideTest ch _ _ => some ch
  | .outputTimeout ch _ => some ch
  | .fieldSupplySag ch _ => some ch
  | .referenceSend ch => some ch
  | .owlGiveUp ch => some ch
  | .reference ch _ => some ch
  | .referenceMissing ch => some ch
  | .owlTakeover ch => some ch
  | .referenceConflictLimit ch => some ch
  | .listenTimeout ch => some ch
  | .coldstartEntry ch => some ch
  | .coldstartComplete ch => some ch
  | .coldstart ch _ => some ch
  | .dupBackoffEnd ch => some ch
  | .scheduleSwitch ch => some ch
  | .frameTransmit ch _ _ => some ch
  | .badgerViolation ch _ _ => some ch
  | .hello ch _ => some ch
  | .discoveryComplete ch => some ch
  | .timeStatus ch _ => some ch
  | .delayReq ch _ => some ch
  | .delayResp ch _ => some ch
  | .reintNotice ch _ => some ch
  | .identity ch _ => some ch
  | .credit ch _ => some ch
  | .portDown ch _ => some ch
  | .portUp ch _ => some ch
  | .linkDown ch _ => some ch
  | .ready ch _ => some ch
  | .topoFault ch _ => some ch
  | .claim ch _ => some ch
  | .claimAck ch _ => some ch
  | .heartbeatFrame ch _ => some ch
  | .vitalData ch _ => some ch
  | .reserve ch _ => some ch
  | .grant ch _ => some ch
  | .refuse ch _ => some ch
  | .unreserve ch _ => some ch
  | .releaseAll ch _ => some ch
  | .report ch _ => some ch
  | .nonvital ch _ => some ch
  | .queueLinkError ch _ _ => some ch
  | .queueRangeRebuild ch _ _ => some ch
  | .heartbeatInstant ch _ => some ch
  | .heartbeat ch _ _ => some ch
  | .heartbeatMiss ch _ => some ch
  | .xferRequest ch => some ch
  | .req ch _ _ _ => some ch
  | .xfer ch _ _ _ _ => some ch
  | .xstate ch _ _ => some ch
  | .commit ch _ _ _ _ => some ch
  | .xferTimeout ch => some ch
  | .runEnd ch _ _ _ _ => some ch
  | .cmd ch _ _ _ _ _ _ => some ch
  | .deltaEnd ch _ _ _ => some ch
  | .switchTransfer ch _ _ => some ch
  | .memoryReadError ch _ _ _ => some ch
  | .memoryProtectionFault ch _ _ => some ch
  | .scrubWord ch _ => some ch
  | .pageRetire ch _ _ => some ch
  | .correctionLogExpiry ch _ _ => some ch
  | .arbiterDecision ch _ => some ch
  | .arbiterHoldCut ch => some ch
  | .memFlipWrite ch _ _ => some ch
  | .arbParamWrite ch _ _ => some ch
  | .arbCutClear ch _ => some ch
  | .bistSliceTimeout ch _ _ => some ch
  | .bistSliceAbandon ch _ _ => some ch
  | .bistRoundStart ch => some ch
  | .bistRoundLate ch => some ch
  | .diagFlush ch => some ch
  | .recorderStart ch => some ch
  | .sessionTimeout ch _ => some ch
  | .prepareExpiry ch _ => some ch
  | .flashWrite ch => some ch
  | .exchPrepareDone ch => some ch
  | _ => none

/-- The reply of a channel to a packet (R380). -/
def Pkt.replyOf (p : Pkt) (ch : Ch) (opcode status : Nat) (params : List Byte) : Reply :=
  { ch := ch, addr := p.addr, port := p.port, session := p.session, opcode := opcode, seq := p.seq, status := status
    params := params }

/-- The rows whose event can arm the Hedgehog (R202): the entry to P7, and those that hold a release at which a re-arm command
may take effect, or replay one. -/
def Instr.mayArm : Instr → Bool
  | .startupPhaseComplete _ _ => true
  | .taskRelease _ _ _ _ _ _ => true
  | .page _ _ _ _ _ => true
  | .join _ _ _ _ _ => true
  | .partnerAgreement _ => true
  | .runIn _ _ _ => true
  | .voteDecision _ _ _ => true
  | .xferVerify _ => true
  | _ => false

end Sys2Proof

namespace Sys2Proof.Machine

open Sys2Proof

/-! ### What every state keeps -/

/-- The two copies of the Hedgehog agree, and they are released exactly while it stands armed (R201, R202, Table 07-20). -/
def Hedgehog.Consistent (h : Hedgehog) : Prop := h.st ≤ 2 ∧ h.copy1 = h.copy2 ∧ (h.copy1 = false ↔ h.st = 1)

/-- The output network has removed at most one channel's drive (R169). -/
def Network.OneCut (n : Network) : Prop :=
  ∀ x y, n.driveCut.get x = true → n.driveCut.get y = true → x = y

/-- The invariant of the hardware that the channels share. -/
def State.Inv (s : State) : Prop := s.hedgehog.Consistent ∧ s.net.OneCut

/-- What every command leaves alone: what the factory set, the commands that wait, and the invariant. -/
structure State.Keeps (s t : State) : Prop where
  factory : t.factory = s.factory
  pending : t.pending = s.pending
  inv : s.Inv → t.Inv

/-! ### What an event may touch -/

/-- Nothing but one channel differs, the free values' index apart (log 3). -/
def State.OnlyAt (s t : State) (ch : Ch) : Prop := t = { s.put ch (t.ch ch) with draws := t.draws }

/-! ### Transfers and frames that are taken -/

/-- A transfer from a partner channel is read and not refused (R21, R159, R160, R180): the links run, the queue has room,
CRC, KIND and LEN are right, SEQ is the next. -/
structure Chan.TakesFrom (c : Chan) (frm : Ch) (l : Link) (m : XMsg) : Prop where
  split : c.split = false
  phase : 4 ≤ c.boot.phase
  room : l.full = false
  intact : l.intact m.kind m.payload = true
  seq : l.seq = c.vote.rxSeq.get frm

/-- The channel that has read it: the next SEQ is expected. -/
def Chan.readFrom (c : Chan) (frm : Ch) (l : Link) : Chan :=
  { c with vote := { c.vote with rxSeq := c.vote.rxSeq.set frm ((l.seq + 1) % 16384) } }

/-- A transfer on the partner link is read and not refused (R21, R36, R180, R300): the presence loop is closed, and the transfer
is the next one and no second sending of one that was asked for. -/
structure Chan.TakesPartner (c : Chan) (l : PLink) (m : PMsg) : Prop where
  split : c.split = false
  phase : 6 ≤ c.boot.phase
  started : c.boot.stopped = false
  loop : l.loop = true
  room : l.link.full = false
  intact : l.link.intact m.kind m.payload = true
  fresh : c.part.asked.contains l.link.seq = false
  seq : l.link.seq = c.part.rxSeq

/-- The channel that has read it: the loop reads closed (R36), and the next SEQ is expected. -/
def Chan.readPartner (c : Chan) (l : PLink) : Chan :=
  { c with part := { c.part with loop := true, rxSeq := (l.link.seq + 1) % 16384 } }

/-- A frame of a kind on a port of the lane passes every check on arrival and is acted on (R21, R229, R255 to R257). -/
structure Chan.HearsFrame (c : Chan) (me : Ch) (f : FrameRx) (kind : Nat) : Prop where
  isOpen : c.laneOpen = true
  optics : (c.frt.port f.port).optics = true
  used : c.portUsed f.port = true
  room : f.full = false
  crc : frameCrcOk f = true
  window : c.inWindow f = true
  version : f.ver = 1
  lane : f.lane = me.code
  hop : f.hop ≤ 6
  cls : kindClass kind = some f.cls
  named : f.kind = kind

/-- The channel that has heard it: its port lives (R265), and the next LSEQ of its class and level is expected (R279). -/
def Chan.heardFrame (c : Chan) (f : FrameRx) : Chan :=
  { c.noteValid f with qm := c.qm.noteLseq f.port f.cls f.hop f.lseq }

/-! ### Host packets -/

/-- The packet CRC, checked against SEQ, is new in its session, and the session has room for it (R382, R399). -/
def Session.Takes (t : Session) (p : Pkt) : Prop := t.isNew p.seq = true ∧ t.waiting < 4

/-- A command packet is passed to its handler at a channel (R379 to R384, R396, R399): the channel hears it, no discard check
holds it back, Table 15-2 admits it, the version is 1, its session is open and takes it unless the opcode needs none, the
mask and the size are those the opcode asks for. -/
structure State.Accepts (s : State) (ch : Ch) (opcode : Nat) (p : Pkt) : Prop where
  heard : s.hears ch p = true
  crc : crcFails opcode p ch = false
  kept : discarded p ch = false
  listed : isOpcode opcode = true
  admitted : (s.ch ch).admission s.sealActed opcode p = none
  version : p.version = 1
  session : opcode = 1 ∨ opcode = 2 ∨ opcode = 3 ∨ ∃ t, (s.ch ch).boundSession p = some t ∧ t.Takes p
  mask : (s.ch ch).isVital opcode p.params = true → p.chmask = 7
  size : sizeFits opcode p.params = true

/-- The channel once the packet has been counted and, in a session, accepted (R380, R382). -/
def Chan.afterIntake (c : Chan) (opcode : Nat) (p : Pkt) : Chan :=
  let c := { c with host := { c.host with rxCnt := inc 16 c.host.rxCnt } }
  if opcode == 1 || opcode == 2 || opcode == 3 then c
  else
    match c.boundSession p with
    | some t => c.takePacket t p (packetCrc opcode p)
    | none => c

/-- The replies of one channel. -/
def State.repliesOf (s : State) (ch : Ch) : List Reply := s.hub.replies.filter (fun r => r.ch == ch)

/-- The replies a channel has sent grew by this one and no other (R378, R380). -/
def State.Answered (s t : State) (ch : Ch) (r : Reply) : Prop := t.repliesOf ch = s.repliesOf ch ++ [r]

/-- Only the host port's own part of a channel differs. -/
def Chan.HostOnly (c d : Chan) : Prop := d = { c with host := d.host }

/-- The critical commands, by opcode (Table 15-4, family 0x02). -/
def criticalRows : List (Nat × (Pkt → Instr)) :=
  [(0x0201, .emergencyRelease), (0x0202, .unblock), (0x0203, .clearTaskFault), (0x0204, .clearLockout),
   (0x0205, .hedgehogRearm), (0x0206, .gateIsolate), (0x0207, .plungerReset), (0x0208, .reintegrate), (0x0209, .exchArm),
   (0x020A, .switchover), (0x020B, .recorderClear), (0x020C, .restoreFactory)]

/-- The operator's requests and gate commands, by opcode (Table 15-4, family 0x05). -/
def requestRows : List (Nat × (Pkt → Instr)) :=
  [(0x0500, .routeSet), (0x0501, .routeCancel), (0x0502, .pointNormal), (0x0503, .pointReverse), (0x0504, .keyRelease),
   (0x0505, .blockRequest), (0x0507, .gateReset), (0x0508, .gateIsolEnd), (0x0509, .gateServiceReset)]

/-- The other vital commands that no SPLIT mode carries out (Table 15-4, family 0x08). -/
def partnerRows : List (Nat × (Pkt → Instr)) := [(0x0800, .resync), (0x0801, .xferAbandon)]

/-- The vital commands that a module in SPLIT mode carries out at once (R180). -/
def splitRows : List (Nat × (Pkt → Instr)) := [(0x0303, .exchVerify), (0x0304, .exchAbort), (0x0701, .calWrite)]

/-- The commands that every channel answers on its own, by opcode (Table 15-4). -/
def plainRows : List (Nat × (Pkt → Instr)) :=
  [(0x0001, .getStatus), (0x0002, .getIdentity), (0x0003, .openSession), (0x0004, .closeSession), (0x0005, .nop),
   (0x0100, .readParam), (0x0101, .readBlock), (0x0102, .writeParam), (0x0300, .loadBegin), (0x0301, .loadData),
   (0x0302, .loadEnd), (0x0400, .snapOpen), (0x0401, .snapRead), (0x0402, .windowGet), (0x0403, .snapClose),
   (0x0506, .requestResult), (0x050A, .portRestart), (0x0600, .quote), (0x0601, .getCert), (0x0602, .keyEnrol),
   (0x0603, .keyRead), (0x0700, .calRead)]

/-- Every command of Table 15-4. -/
def hostRows : List (Nat × (Pkt → Instr)) := plainRows ++ criticalRows ++ requestRows ++ partnerRows ++ splitRows

end Sys2Proof.Machine
end

