-- ==== Sys2Proof/Certificates/Slice0/Obligations.lean ====
section
/-! DEFINITION. The statements for the provers: the whole machine first, then the commands family by family in the order of
the command table. -/

section

open Sys2Proof Sys2Proof.Machine

/-! ### The machine as a whole -/

/-- A step takes the command at the front of the queue and runs it with the queue's rest; on an empty queue the module
idles: each free link of a channel that executes begins the transfer that has waited longest, and nothing else happens (the
model's own convention, logs 1 and 65). -/
def Obligations.StepRunsTheFront : Prop :=
  (∀ (s : State) (i : Instr) (rest : List Instr), s.pending = i :: rest → step s = exec i { s with pending := rest }) ∧
  (∀ s : State, s.pending = [] → step s = .next (s.allLive (fun me c => c.drainLinks me))) ∧
  (∀ s : State, s.pending = [] → (∀ x, (s.ch x).live = true → (s.ch x).xwait = [] ∧ (s.ch x).pwait = []) → step s = .next s)

/-- Every command completes (no row of the command table is a stop, NOTES.md '## Stops'), and none changes what the factory
set or the queue of the commands that wait. -/
def Obligations.EveryCommandCompletes : Prop :=
  ∀ (i : Instr) (s : State), ∃ t, exec i s = .next t ∧ t.factory = s.factory ∧ t.pending = s.pending

/-- R32, R33, R201, R202, R402: right after reset every channel is in P0 and executes nothing, no terminal is energised, the
Hedgehog is held, nothing waits, and the hardware that the channels share is consistent. -/
def Obligations.ResetIsSafe : Prop :=
  State.reset.pending = [] ∧ State.reset.Inv ∧
  (∀ x, (State.reset.ch x).boot.phase = 0 ∧ (State.reset.ch x).live = false ∧ (State.reset.ch x).dout.high = 0 ∧
    (State.reset.ch x).dout.lowSide = 0 ∧ (State.reset.ch x).mem.wf = true ∧ (State.reset.ch x).safe.alive = false) ∧
  (∀ n, State.reset.energised n = false) ∧ State.reset.hedgehog.st = 0 ∧ State.reset.hub.alive = true

/-- R169, R201, R202: in every step, from every state, the two copies of the Hedgehog go on agreeing and are released
exactly while it is armed, and the output network goes on having removed at most one channel's drive. -/
def Obligations.SharedHardwareIsKept : Prop :=
  ∀ (s t : State), s.Inv → step s = .next t → t.Inv

/-- R11, R17, R18: an event that belongs to one channel changes no other channel and nothing that the channels share. -/
def Obligations.EventsStayAtHome : Prop :=
  ∀ (i : Instr) (ch : Ch) (s t : State), i.home = some ch → exec i s = .next t → s.OnlyAt t ch

/-- R17, R201, R202: no event at one channel energises an output while neither partner holds its switches of it closed, and
no output is energised with the Hedgehog unarmed or by fewer than two drives. -/
def Obligations.OneChannelEnergisesNothing : Prop :=
  (∀ (i : Instr) (ch : Ch) (s t : State) (n : Nat), i.home = some ch → exec i s = .next t →
    (∀ x, x ≠ ch → s.highClosed x n = false) → t.energised n = false) ∧
  (∀ (s : State) (n : Nat), s.Inv → s.energised n = true →
    s.hedgehog.st = 1 ∧ ∃ x y, x ≠ y ∧ s.highClosed x n = true ∧ s.highClosed y n = true ∧
      s.net.driveCut.get x = false ∧ s.net.driveCut.get y = false)

/-- R202: the Hedgehog leaves the held or the tripped state for the armed one in no event but the entry of a channel to P7
and those in which a re-arm command takes effect. -/
def Obligations.FewCommandsArmTheHedgehog : Prop :=
  ∀ (i : Instr) (s t : State), s.hedgehog.st ≠ 1 → exec i s = .next t → t.hedgehog.st = 1 → i.mayArm = true

/-- R318, R322: every operation of the memories keeps their canonical form: addresses rising, nothing listed that an
unlisted address reads as. -/
def Obligations.MemoryStaysCanonical : Prop :=
  ∀ (i : Instr) (ch : Ch) (s t : State),
    (∃ e d, i = .dmaDescriptor ch e d) ∨ (∃ e, i = .dmaStop ch e) ∨ (∃ d, i = .scrubWord ch d) ∨ (∃ w a l d, i = .flipApply ch w a l d) ∨
        (∃ r a l, i = .memoryReadError ch r a l) ∨ (∃ p k, i = .pageRetire ch p k) ∨ (∃ b, i = .bankRetire ch b) →
    (s.ch ch).mem.wf = true → exec i s = .next t → (t.ch ch).mem.wf = true

/-- R158: the digest of a vote set is CRC-64 with the polynomial 0x42F0E1EBA9EA3693, initial value and final XOR 0, not
reflected; its check value is 0x6C40DF5F0B497347. -/
def Obligations.DigestIsCrc64 : Prop :=
  (∀ (c : Chan) (n outs : Nat), c.runDigest n outs = crc64 (c.digestBytes n outs)) ∧
  crc64 [] = 0 ∧
  (∀ (bs : List Byte) (b : Byte),
    crc64 (bs ++ [b]) =
      (List.range 8).foldl (fun (r : BitVec 64) k =>
        if r.getLsbD 63 != b.getLsbD (7 - k) then (r <<< 1) ^^^ 0x42F0E1EBA9EA3693 else r <<< 1) (crc64 bs)) ∧
  crc64 [0x31, 0x32, 0x33, 0x34, 0x35, 0x36, 0x37, 0x38, 0x39] = 0x6C40DF5F0B497347

/-! ### The links between channels -/

/-- R160, R161, R180, R300, R301: in SPLIT mode nothing is sent between channels; else a transfer of the vote class begins
at once with the next SEQ of its link, before every copy that waits, and a copy waits its turn; a module that idles begins
on each free link the copy that has waited longest for it, and on the partner link the first of what waits there. -/
def Obligations.LinksSendInOrder : Prop :=
  (∀ (c : Chan) (dst : Ch) (msg : XMsg),
    (c.split = true → c.xsend dst msg = c) ∧
    (c.split = false → msg.copyClass = false →
      (c.xsend dst msg).xout = c.xout ++ [{ dst := dst, seq := c.vote.txSeq.get dst, msg := msg }] ∧
      (c.xsend dst msg).xwait = c.xwait ∧ (c.xsend dst msg).vote.txSeq.get dst = (c.vote.txSeq.get dst + 1) % 16384 ∧
      (∀ x, x ≠ dst → (c.xsend dst msg).vote.txSeq.get x = c.vote.txSeq.get x)) ∧
    (c.split = false → msg.copyClass = true →
      (c.xsend dst msg).xout = c.xout ∧ (c.xsend dst msg).xwait = c.xwait ++ [(dst, msg)] ∧
        (c.xsend dst msg).vote.txSeq = c.vote.txSeq)) ∧
  (∀ (c : Chan) (msg : PMsg),
    (msg.rank ≤ 1 → (c.psend msg).pout = c.pout ++ [(c.part.txSeq, msg)] ∧ (c.psend msg).pwait = c.pwait ∧
      (c.psend msg).part.txSeq = (c.part.txSeq + 1) % 16384) ∧
    (1 < msg.rank → (c.psend msg).pout = c.pout ∧ (c.psend msg).part.txSeq = c.part.txSeq ∧
      (c.psend msg).pwait.Perm (msg :: c.pwait)) ∧
    (msg.rank = 3 → (c.psend msg).pwait = c.pwait ++ [msg]) ∧
    (msg.rank = 2 → c.pwait.Pairwise (fun a b => a.rank ≤ b.rank) →
      (c.psend msg).pwait = c.pwait.filter (fun m => m.rank ≤ 2) ++ msg :: c.pwait.filter (fun m => !decide (m.rank ≤ 2)))) ∧
  (∀ (s : State) (x : Ch), s.pending = [] → (s.ch x).live = true →
    let c := s.ch x
    let first := fun (y : Ch) => c.xwait.find? (fun e => e.1 == y)
    let sent := fun (y : Ch) => (first y).toList.map (fun e => ({ dst := y, seq := c.vote.txSeq.get y, msg := e.2 } : XSent))
    ∃ t, step s = .next t ∧ (t.ch x).xout = c.xout ++ sent x.next ++ sent x.prev ∧
      (t.ch x).pout = c.pout ++ c.pwait.head?.toList.map (fun m => (c.part.txSeq, m)) ∧ (t.ch x).pwait = c.pwait.tail ∧
      (∀ y, y ≠ x → (t.ch x).xwait.filter (fun e => e.1 == y) = (c.xwait.filter (fun e => e.1 == y)).tail))

/-! ### Supply, hub, seals -/

/-- R14, R32, R33: a feed lost and a feed restored are recorded and counted at the channel alone; with both lost the channel
declares power-fail, opens its own switches and stops its alive line. With the hold-up store exhausted every channel whose
monitor sees neither feed is held in reset, its switches open and its alive line silent; the others stay as they are. -/
def Obligations.FeedsAndHoldupAreFollowed : Prop :=
  (∀ (s : State) (ch : Ch) (f : Feed),
    (s.ch ch).supply.present f = true → (s.ch ch).live = true →
      let c := { s.ch ch with supply := (s.ch ch).supply.setFeed f false (lowReading s.draws) }
      let d := c.emit .feedLoss (feedNum f) []
      ((c.supply.dark = false ∨ c.supply.powerFail = true) → exec (.feedLoss ch f) s = .next (s.drawn.put ch d)) ∧
      ((c.supply.dark = true ∧ c.supply.powerFail = false) →
        ∃ t, exec (.feedLoss ch f) s = .next t ∧ (t.ch ch).supply.powerFail = true ∧ (t.ch ch).dout.high = 0 ∧
          (t.ch ch).dout.lowSide = 0 ∧ (t.ch ch).dout.timerOn = 0 ∧ (t.ch ch).safe.alive = false ∧
          (t.ch ch).fab.queueX = [] ∧ (t.ch ch).fab.queueY = [] ∧ (∀ k ∈ (t.ch ch).tasks, k.running = false) ∧
          (t.ch ch).nv = (s.ch ch).nv ∧ (t.ch ch).seals = (s.ch ch).seals ∧ (t.ch ch).params = (s.ch ch).params ∧
          (t.ch ch).res = (s.ch ch).res ∧ (t.ch ch).vote = (s.ch ch).vote ∧ t.net = s.net)) ∧
  (∀ (s : State) (ch : Ch) (f : Feed),
    (s.ch ch).supply.present f = true → (s.ch ch).live = false →
      exec (.feedLoss ch f) s =
        .next (s.drawn.put ch { s.ch ch with supply := (s.ch ch).supply.setFeed f false (lowReading s.draws) })) ∧
  (∀ (s : State) (ch : Ch) (f : Feed),
    (s.ch ch).supply.present f = false → (s.ch ch).live = true →
      exec (.feedRestored ch f) s =
        .next (s.drawn.put ch
          (({ s.ch ch with supply := (s.ch ch).supply.setFeed f true (goodReading s.draws) } : Chan).emit .feedRestored
            (feedNum f) []))) ∧
  (∀ s : State, ∃ t, exec .holdupExhausted s = .next t ∧
      (∀ ch, (s.ch ch).supply.dark = true → t.ch ch = (s.ch ch).holdReset ∧ (t.ch ch).live = false ∧
        (t.ch ch).dout.high = 0 ∧ (t.ch ch).dout.lowSide = 0 ∧ (t.ch ch).nv = (s.ch ch).nv) ∧
      (∀ ch, (s.ch ch).supply.dark = false → t.ch ch = s.ch ch) ∧ t = { s with chans := t.chans })

/-- R33, R370, R402: a channel that does not execute starts at P0 once a feed is present, with its non-volatile memory kept,
an output's fault record in its cause, maintenance latch and pair source, and all else at reset; the first to start while
none executes finds the Hedgehog held and every latch of the shared hardware clear. Once the flush of a declared power-fail
completes the channel halts; the recorder has taken nothing it must still write. -/
def Obligations.PowerOnStartsAndFlushHalts : Prop :=
  (∀ (s : State) (ch : Ch), (s.ch ch).live = false → (s.ch ch).supply.dark = false →
      ∃ t, exec (.powerOnReset ch) s = .next t ∧ (t.ch ch).live = true ∧ (t.ch ch).boot.phase = 0 ∧
        (t.ch ch).boot.stopped = false ∧ (t.ch ch).dout.high = 0 ∧
        (t.ch ch).nv = { (s.ch ch).nv with outFaults := (s.ch ch).nv.outFaults.map OutFault.kept } ∧
        (∀ f, (t.ch ch).supply.present f = (s.ch ch).supply.present f) ∧ (∀ x, x ≠ ch → t.ch x = s.ch x) ∧
        t.hub = s.hub ∧
        ((∀ x, (s.ch x).live = false) → t.hedgehog.st = 0 ∧ t.hedgehog.copy1 = true ∧ t.hedgehog.copy2 = true ∧
          t.net = default ∧ t.comparator = []) ∧
        ((∃ x, (s.ch x).live = true) → t.hedgehog = s.hedgehog ∧ t.net = s.net ∧ t.comparator = s.comparator)) ∧
  (∀ (s : State) (ch : Ch), (s.ch ch).live = true → (s.ch ch).supply.powerFail = true →
      ∃ t, exec (.pfAnnounced ch) s = .next t ∧ s.OnlyAt t ch ∧ (t.ch ch).supply.halted = true ∧ (t.ch ch).live = false ∧
        ((s.ch ch).recd.started = true → (t.ch ch).recd.diag = [] ∧ (t.ch ch).recd.queue = [] ∧
          (t.ch ch).recd.pending = none ∧ (t.ch ch).recd.flushing = false) ∧
        ((s.ch ch).recd.started = false → t.ch ch = { s.ch ch with supply := { (s.ch ch).supply with halted := true } }))

/-- R15: the hub fails and works again, and each channel records the loss of its host port once. -/
def Obligations.HostHubFailsAndRecovers : Prop :=
  (∀ s : State, exec .hostHubFailure s = .next { s with hub := { s.hub with alive := false } }) ∧
  (∀ s : State, ∃ t, exec .hostHubRecovery s = .next t ∧ t.hub = { s.hub with alive := true } ∧
    (∀ ch, (s.ch ch).live = true → t.ch ch = { s.ch ch with host := { (s.ch ch).host with lost := false } }) ∧
    (∀ ch, (s.ch ch).live = false → t.ch ch = s.ch ch) ∧ t = { s with chans := t.chans, hub := t.hub }) ∧
  (∀ (s : State) (ch : Ch), s.hub.alive = false → (s.ch ch).live = true → (s.ch ch).host.lost = false →
    exec (.hostPortLost ch) s =
      .next (s.put ch
        (({ s.ch ch with host := { (s.ch ch).host with lost := true } } : Chan).emit .hostPortLost 0 []))) ∧
  (∀ (s : State) (ch : Ch), s.hub.alive = true ∨ (s.ch ch).host.lost = true →
    exec (.hostPortLost ch) s = .next s)

/-- R49, R50: a sample that agrees with P1 clears the count of differing ones, and counts a glitch where there was one; the
second differing sample in a row confirms the change, recorded once. -/
def Obligations.SealSamplesConfirmAChange : Prop :=
  ∀ (s : State) (ch : Ch) (pos : Word), (s.ch ch).live = true → 2 ≤ (s.ch ch).boot.phase →
    let c := s.ch ch
    let q := c.seals
    (pos &&& 0xFFFF = q.bootPos →
      exec (.sealSample ch pos) s =
        .next (s.put ch { c with
          seals := { q with
            livePos := q.bootPos, differed := 0, glitch := if q.differed = 1 then inc 16 q.glitch else q.glitch } })) ∧
    (pos &&& 0xFFFF ≠ q.bootPos → q.differed = 0 →
      exec (.sealSample ch pos) s = .next (s.put ch { c with seals := { q with livePos := pos &&& 0xFFFF, differed := 1 } })) ∧
    (pos &&& 0xFFFF ≠ q.bootPos → q.differed ≠ 0 → q.changed = true →
      exec (.sealSample ch pos) s = .next (s.put ch { c with seals := { q with livePos := pos &&& 0xFFFF, differed := 2 } })) ∧
    (pos &&& 0xFFFF ≠ q.bootPos → q.differed ≠ 0 → q.changed = false →
      exec (.sealSample ch pos) s =
        .next (s.put ch
          (({ c with seals := { q with livePos := pos &&& 0xFFFF, differed := 2, changed := true } } : Chan).emit .sealChanged
            0 [pos &&& 0xFFFF])))

/-! ### Start-up -/

/-- R402, R404: the work of each phase ends and the channel enters the next one, P0 to P6 in turn; other channels see of it
at most an event of their own (R378). A channel whose check fails stops with the code and DETAIL of the check, keeps its
phase, opens its switches and records the stop; one that has stopped stays as it is. -/
def Obligations.StartupPhasesFollowOrStop : Prop :=
  (∀ (s : State) (ch : Ch) (r : PhaseReport),
    (s.ch ch).live = true → (s.ch ch).boot.stopped = false → (s.ch ch).supply.powerFail = false →
    ((s.ch ch).boot.phase = 0 → r.fail = none →
      ∃ t, exec (.startupPhaseComplete ch r) s = .next t ∧ (t.ch ch).boot.phase = 1 ∧ (t.ch ch).boot.p0Ms = r.ms ∧
        (t.ch ch).mem.data = [] ∧ (t.ch ch).mem.check = []) ∧
    ((s.ch ch).boot.phase = 1 → r.fail = none → ((s.ch ch).seals.read r.sealPos).range = false →
      ((s.ch ch).seals.read r.sealPos).combo = false →
      ∃ t, exec (.startupPhaseComplete ch r) s = .next t ∧ (t.ch ch).boot.phase = 2 ∧
        (t.ch ch).seals.bootPos = r.sealPos &&& 0xFFFF ∧ (t.ch ch).seals.livePos = r.sealPos &&& 0xFFFF) ∧
    ((s.ch ch).boot.phase = 2 → r.fail = none → (s.ch ch).nv.factoryCalOk = true →
      ∃ t, exec (.startupPhaseComplete ch r) s = .next t ∧ (t.ch ch).boot.phase = 3 ∧ (t.ch ch).recd.started = true ∧
        (t.ch ch).cal.factOk = true) ∧
    (∀ k fb, (s.ch ch).boot.phase = 3 → (s.ch ch).nv.fwChoice s.factory.hwrev = some (k, fb) → (s.ch ch).split = false →
      ∃ t, exec (.startupPhaseComplete ch r) s = .next t ∧ (t.ch ch).boot.phase = 4 ∧
        (((s.ch ch).nv.fw k).cont.isSome = true → (t.ch ch).boot.fwSlot = some k)) ∧
    ((s.ch ch).boot.phase = 4 → (s.ch ch).boot.testOk.get ch.next = true → (s.ch ch).boot.testOk.get ch.prev = true →
      ∃ t, exec (.startupPhaseComplete ch r) s = .next t ∧
        (t.ch ch).boot.phase = (if (s.ch ch).unprogrammed then 6 else 5)) ∧
    (∀ n k, (s.ch ch).boot.phase = 5 → takenSlot (s.ch ch).nv.app0 (s.ch ch).nv.app1 = some n →
      ((s.ch ch).nv.app n).cont = some k → (s.ch ch).appFault ch s.factory.variant k = none → k.image.isSome = true →
      ∃ t, exec (.startupPhaseComplete ch r) s = .next t ∧ (t.ch ch).boot.phase = 6 ∧ (t.ch ch).boot.appSlot = some n ∧
        (t.ch ch).image = k.image) ∧
    ((s.ch ch).boot.phase = 6 → (s.ch ch).p6Done r.laneSkew = true →
      ∃ t, exec (.startupPhaseComplete ch r) s = .next t ∧ (t.ch ch).boot.phase = 7 ∧ (t.ch ch).boot.ms = r.ms)) ∧
  (∀ (s : State) (ch : Ch) (r : PhaseReport), ∃ t, exec (.startupPhaseComplete ch r) s = .next t ∧ t.hub = s.hub ∧
    t.net = s.net ∧ (∀ x, x ≠ ch → t.ch x = { s.ch x with recd := (t.ch x).recd })) ∧
  (∀ (c : Chan) (code : Nat) (detail : Word), c.boot.stopped = false →
    c.stop code detail =
      (({ c with
        dout := { c.dout with high := 0, lowSide := 0, timerOn := 0 }
        boot := { c.boot with stopped := true, code := code, detail := detail } } : Chan).emit .startupStop code
          [detail])) ∧
  (∀ (c : Chan) (code : Nat) (detail : Word), c.boot.stopped = true → c.stop code detail = c) ∧
  (∀ (s : State) (ch : Ch) (r : PhaseReport) (a : Word),
    (s.ch ch).live = true → (s.ch ch).boot.stopped = false → (s.ch ch).supply.powerFail = false → (s.ch ch).boot.phase = 0 →
    r.fail = some (0x0201, a) →
    ∃ t, exec (.startupPhaseComplete ch r) s = .next t ∧ (t.ch ch).boot.stopped = true ∧ (t.ch ch).boot.code = 0x0201 ∧
      (t.ch ch).boot.detail = a ∧ (t.ch ch).boot.phase = 0)

/-- R405: with the three sets in, the first digest that differs stops the channel with its code and the channels outside the
majority as DETAIL; equal digests settle who is left out for its switches. -/
def Obligations.AgreementDecides : Prop :=
  ∀ (s : State) (ch : Ch) (a b d : AgreeSet),
    (s.ch ch).starting 6 = true → (s.ch ch).split = false → (s.ch ch).boot.agreed = false →
    (s.ch ch).boot.agree = ⟨some a, some b, some d⟩ →
    let c := s.ch ch
    (minority a.fw b.fw d.fw ≠ 0 →
      exec (.agreementDecision ch) s =
        .next (s.put ch (c.stop 0x0601 ((minority a.fw b.fw d.fw).setWidth 32)))) ∧
    (minority a.fw b.fw d.fw = 0 → minority a.app b.app d.app ≠ 0 →
      exec (.agreementDecision ch) s =
        .next (s.put ch (c.stop 0x0602 ((minority a.app b.app d.app).setWidth 32)))) ∧
    (minority a.fw b.fw d.fw = 0 → minority a.app b.app d.app = 0 → minority a.cfg b.cfg d.cfg ≠ 0 →
      exec (.agreementDecision ch) s =
        .next (s.put ch (c.stop 0x0603 ((minority a.cfg b.cfg d.cfg).setWidth 32)))) ∧
    (minority a.fw b.fw d.fw = 0 → minority a.app b.app d.app = 0 → minority a.cfg b.cfg d.cfg = 0 →
      minority a.setDigest b.setDigest d.setDigest ≠ 0 →
      exec (.agreementDecision ch) s =
        .next (s.put ch (c.stop 0x0608 ((minority a.setDigest b.setDigest d.setDigest).setWidth 32)))) ∧
    (minority a.fw b.fw d.fw = 0 → minority a.app b.app d.app = 0 → minority a.cfg b.cfg d.cfg = 0 →
      minority a.setDigest b.setDigest d.setDigest = 0 →
      (minority a.sealPos b.sealPos d.sealPos = 7 → exec (.agreementDecision ch) s = .next (s.put ch (c.stop 0x0604 7))) ∧
      (minority a.sealPos b.sealPos d.sealPos ≠ 7 →
        exec (.agreementDecision ch) s =
          .next (s.put ch { c with
            boot := { c.boot with agreed := true, sealOut := minority a.sealPos b.sealPos d.sealPos } })))

/-- R170, R171, R222, R404, R406: a channel that waits in vain, for the time that each allows after the entry to its phase,
for an agreement set, the alignment of its lane or a TEST stops with 0x0607, 0x0606 or 0x0402; before that, and once what it
waits for is there, nothing happens. A TEST and the gate counter records of a partner, read off its link at P4 and P6. With
the sets of both partners in, every case of Table 06-4 is passed through; the first that does not give the result stated
stops the channel with 0x0401. -/
def Obligations.StartupWaitsAndTestsEnd : Prop :=
  (∀ (s : State) (ch x : Ch) (ms : Nat), (s.ch ch).starting 6 = true → (s.ch ch).split = false →
    (s.ch ch).silentChannel = some x → (s.ch ch).boot.entered + 10000000 ≤ ms * 1000 →
    exec (.agreementTimeout ch ms) s = .next (s.put ch ((s.ch ch).stop 0x0607 (w32 x.code)))) ∧
  (∀ (s : State) (ch : Ch) (ms : Nat),
    (s.ch ch).silentChannel = none ∨ ms * 1000 < (s.ch ch).boot.entered + 10000000 →
    exec (.agreementTimeout ch ms) s = .next s) ∧
  (∀ (s : State) (ch : Ch) (skew ms : Nat), (s.ch ch).starting 6 = true → (s.ch ch).aligned skew = false →
    (s.ch ch).boot.entered + 60000000 ≤ ms * 1000 →
    exec (.alignmentTimeout ch skew ms) s = .next (s.put ch ((s.ch ch).stop 0x0606 (w32 skew)))) ∧
  (∀ (s : State) (ch : Ch) (skew ms : Nat),
    (s.ch ch).aligned skew = true ∨ ms * 1000 < (s.ch ch).boot.entered + 60000000 →
    exec (.alignmentTimeout ch skew ms) s = .next s) ∧
  (∀ (s : State) (ch : Ch) (ms : Nat), (s.ch ch).starting 4 = true → (s.ch ch).boot.entered + 5000000 ≤ ms * 1000 →
    ((s.ch ch).boot.testSets.get ch.next = none →
      exec (.testTimeout ch ms) s = .next (s.put ch ((s.ch ch).stop 0x0402 (w32 ch.next.code)))) ∧
    ((s.ch ch).boot.testSets.get ch.next ≠ none → (s.ch ch).boot.testSets.get ch.prev = none →
      exec (.testTimeout ch ms) s = .next (s.put ch ((s.ch ch).stop 0x0402 (w32 ch.prev.code))))) ∧
  (∀ (s : State) (ch : Ch) (ms : Nat),
    ((s.ch ch).boot.testSets.get ch.next ≠ none ∧ (s.ch ch).boot.testSets.get ch.prev ≠ none) ∨
      ms * 1000 < (s.ch ch).boot.entered + 5000000 →
    exec (.testTimeout ch ms) s = .next s) ∧
  (∀ (s : State) (ch frm : Ch) (l : Link) (set : List Word) (odd : List TestCase),
    ch ≠ frm → (s.ch ch).starting 4 = true → (s.ch ch).TakesFrom frm l (.test set) →
    let c := (s.ch ch).readFrom frm l
    let sets := c.boot.testSets.set frm (some set)
    let d := { c with boot := { c.boot with testSets := sets } }
    (sets.get (Ch.third ch frm) = none → exec (.test ch frm l set odd) s = .next (s.put ch d)) ∧
    (∀ own next prev, sets.get ch = some own → sets.get ch.next = some next → sets.get ch.prev = some prev →
      (firstOdd own next prev odd = none →
        exec (.test ch frm l set odd) s =
          .next (s.put ch { d with
            boot := { d.boot with testOk := (d.boot.testOk.set ch.next true).set ch.prev true }
            vote := { d.vote with injDone := true } })) ∧
      (∀ t, firstOdd own next prev odd = some t →
        ∃ u, exec (.test ch frm l set odd) s = .next u ∧ s.OnlyAt u ch ∧ (u.ch ch).boot.stopped = true ∧
          (u.ch ch).boot.code = 0x0401 ∧ (u.ch ch).vote.injFail = true ∧ (u.ch ch).vote.injTest = t.test % 16 ∧
          (u.ch ch).vote.injPath = t.path % 4 ∧ (u.ch ch).vote.injWord = t.word % 8192 ∧
          (u.ch ch).boot.detail = (u.ch ch).vote.injectWord))) ∧
  (∀ (s : State) (ch frm : Ch) (l : Link) (records : List GateRecord),
    ch ≠ frm → (s.ch ch).live = true → (s.ch ch).boot.phase = 6 → (s.ch ch).boot.stopped = false →
    (s.ch ch).TakesFrom frm l (.counters records) → (s.ch ch).boot.counters.get frm = none →
    let c := (s.ch ch).readFrom frm l
    exec (.counters ch frm l records) s =
      .next (s.put ch
        ({ c with boot := { c.boot with counters := c.boot.counters.set frm (some records) } } : Chan).settleCounters)) ∧
  (∀ (s : State) (ch frm : Ch) (l : Link) (records : List GateRecord),
    ch ≠ frm → (s.ch ch).live = true → (s.ch ch).TakesFrom frm l (.counters records) → ((s.ch ch).boot.counters.get frm).isSome = true →
    exec (.counters ch frm l records) s = .next (s.put ch ((s.ch ch).readFrom frm l)))

/-- R295 to R297: the end of the listen, 2 s after the entry to P6, gives the role: standby where an active was heard, else
by epoch and rank among those that start; a channel kept out of the vote takes the active role without a new epoch. -/
def Obligations.ListenGivesTheRole : Prop :=
  ∀ (s : State) (ch : Ch) (ms : Nat),
    (s.ch ch).starting 6 = true → (s.ch ch).boot.agreed = true → (s.ch ch).boot.listened = false →
    (s.ch ch).listenSkipped = false → (s.ch ch).boot.entered + 2000000 ≤ ms * 1000 →
    let c := { s.ch ch with boot := { (s.ch ch).boot with listened := true } }
    let standby := { c with part := { c.part with role := 2, claim := 0, since := c.clock } }
    let active := if c.willVote ch then c.enterActive 0
      else { c with part := { c.part with role := 1, claim := c.claimOf ((c.nv.eSeen + 1) % 65536) } }
    ((s.ch ch).part.heardActive = true → exec (.partnerListenEnd ch ms) s = .next (s.put ch standby)) ∧
    ((s.ch ch).part.heardActive = false → (s.ch ch).part.heardStarting = none →
      exec (.partnerListenEnd ch ms) s = .next (s.put ch active)) ∧
    (∀ e r, (s.ch ch).part.heardActive = false → (s.ch ch).part.heardStarting = some (e, r) →
      (e < c.nv.eSeen ∨ (e = c.nv.eSeen ∧ r < c.rank)) →
      exec (.partnerListenEnd ch ms) s = .next (s.put ch active)) ∧
    (∀ e r, (s.ch ch).part.heardActive = false → (s.ch ch).part.heardStarting = some (e, r) →
      (c.nv.eSeen < e ∨ (e = c.nv.eSeen ∧ c.rank ≤ r)) →
      exec (.partnerListenEnd ch ms) s = .next (s.put ch standby))

/-! ### Recorder start, flash, exchange preparation -/

/-- R25, R360, R364, R365, R366, R367, R368, R369, R371: the recorder started at P2 finds H, declares a loss where no
PF_ANNOUNCED closes the record, raises START and appends its START record; started once, it stays. The oldest juridical
event whose run is over is appended, a voted one with its presentation to the commit comparator; the comparator's decision
makes the record valid, counts a dissent and withdraws the channel at the third in a row; in idle time a flush appends the
buffered diagnostic records when nothing juridical waits. -/
def Obligations.RecorderStartsAndCommits : Prop :=
  (∀ (s : State) (ch : Ch), (s.ch ch).starting 2 = true → (s.ch ch).recd.started = false →
    ∃ t, exec (.recorderStart ch) s = .next t ∧ s.OnlyAt t ch ∧ (t.ch ch).recd.started = true ∧
      (t.ch ch).nv.start = inc 16 (s.ch ch).nv.start ∧ (t.ch ch).nv.head + 1 = (t.ch ch).recd.nextSeq ∧
      (((s.ch ch).nv.highest = 0 ∨ (s.ch ch).nv.announced (s.ch ch).nv.highest = true) →
        (t.ch ch).recd.nextSeq = (s.ch ch).nv.highest + 2 ∧ (t.ch ch).nv.lost = (s.ch ch).nv.lost) ∧
      (((s.ch ch).nv.highest ≠ 0 ∧ (s.ch ch).nv.announced (s.ch ch).nv.highest = false) →
        (t.ch ch).recd.nextSeq = (s.ch ch).nv.highest + 4 ∧
          (t.ch ch).nv.lost = ((s.ch ch).nv.highest + 1) :: (s.ch ch).nv.lost) ∧
      (t.ch ch).dout = (s.ch ch).dout ∧ (t.ch ch).boot = (s.ch ch).boot) ∧
  (∀ (s : State) (ch : Ch), (s.ch ch).recd.started = true → exec (.recorderStart ch) s = .next s) ∧
  (∀ (s : State) (ch : Ch), (s.ch ch).live = true → (s.ch ch).recd.started = true → (s.ch ch).recd.pending = none →
    let c := s.ch ch
    let ready := c.recd.queue.find? (fun e => !c.runUnderWay e)
    let quiet := c.recd.dropFull = 0 ∧ c.recd.dropLane = 0 ∧ c.recd.dropEarly = 0
    (∀ e, ready = some e → e.name.cls = .voted → c.presents ch = true →
      ∃ t p, exec (.recordAppend ch) s = .next t ∧ (∀ x, x ≠ ch → t.ch x = s.ch x) ∧ (t.ch ch).recd.pending = some p ∧
        p.key = { mainCycle := e.mainCycle, offset := e.offset, ordinal := e.ordinal } ∧
        p.record.seq = c.recd.nextSeq ∧ (t.ch ch).recd.nextSeq = c.recd.nextSeq + 1 ∧
        (t.ch ch).recd.queue = c.recd.queue.erase e ∧
        t.comparator = s.comparator ++ [{ key := p.key, ch := ch, rcrc := p.record.rcrc }]) ∧
    (∀ e, ready = some e → e.name.cls ≠ .voted ∨ c.presents ch = false →
      ∃ t, exec (.recordAppend ch) s = .next t ∧ s.OnlyAt t ch ∧ (t.ch ch).recd.pending = none ∧
        (t.ch ch).recd.nextSeq = c.recd.nextSeq + 1 ∧ (t.ch ch).recd.queue = c.recd.queue.erase e ∧
        (t.ch ch).nv.head = c.recd.nextSeq) ∧
    (ready = none → c.recd.flushing = false ∨ c.idleTime = false → exec (.recordAppend ch) s = .next s) ∧
    (∀ e rest, ready = none → c.recd.flushing = true → c.idleTime = true → c.recd.diag = e :: rest → quiet →
      ∃ t, exec (.recordAppend ch) s = .next t ∧ s.OnlyAt t ch ∧ (t.ch ch).recd.nextSeq = c.recd.nextSeq + 1 ∧
        (t.ch ch).recd.diag = rest ∧ (t.ch ch).recd.flushing = !rest.isEmpty) ∧
    (c.recd.queue = [] → c.recd.flushing = true → c.idleTime = true →
      ∃ t, exec (.diagFlush ch) s = .next t ∧ s.OnlyAt t ch ∧ (t.ch ch).recd.diag = [] ∧ (t.ch ch).recd.flushing = false ∧
        (t.ch ch).recd.nextSeq =
          c.recd.nextSeq + c.recd.diag.length +
            (if c.recd.dropFull = 0 ∧ c.recd.dropLane = 0 ∧ c.recd.dropEarly = 0 then 0 else 1)) ∧
    (c.recd.queue ≠ [] ∨ c.recd.flushing = false ∨ c.idleTime = false → exec (.diagFlush ch) s = .next s)) ∧
  (∀ (s : State) (ch : Ch), (s.ch ch).live = false ∨ (s.ch ch).recd.started = false ∨ (s.ch ch).recd.pending ≠ none →
    exec (.recordAppend ch) s = .next s ∧ exec (.diagFlush ch) s = .next s) ∧
  (∀ (s : State) (key : PairKey),
    ∃ t, exec (.commitDecision key) s = .next t ∧ t.comparator = s.comparator.filter (fun p => p.key != key)) ∧
  (∀ (s : State) (key : PairKey) (x : Ch) (p : PendingRec),
    let c := s.ch x
    let ps := s.comparator.filter (fun p => p.key == key)
    let commit := if c.vote.recFault then 0 else commitOf ps p.record.rcrc
    c.recd.pending = some p →
    (p.key ≠ key → ∃ t, exec (.commitDecision key) s = .next t ∧ (t.ch x).recd.pending = some p) ∧
    (p.key = key → c.live = true → commit ≠ 2 →
      ∃ t, exec (.commitDecision key) s = .next t ∧ (t.ch x).recd.pending = none ∧ (t.ch x).recd.dissentRun = 0 ∧
        (t.ch x).recd.dissentCnt = c.recd.dissentCnt ∧
        (t.ch x).nv.slotRecord p.record.seq = some { p.record with commit := commit, valid := validWord p.record.seq }) ∧
    (p.key = key → c.live = true → commit = 2 →
      ∃ t, exec (.commitDecision key) s = .next t ∧ (t.ch x).recd.pending = none ∧
        (t.ch x).recd.dissentRun = (c.recd.dissentRun + 1) % 3 ∧ (t.ch x).recd.dissentCnt = inc 8 c.recd.dissentCnt) ∧
    (p.key = key → c.live = true → commit = 2 → c.recd.dissentRun = 2 → c.running = true →
      ∃ t, exec (.commitDecision key) s = .next t ∧ (t.ch x).votes x = false))

/-- R149, R411, R412: a checked container reaches the slot that is not RUNNING with marker NEXT, or STAGED beside a running
image, and the load ends. The preparation of an armed exchange builds every new instance with its initial values; outside
one nothing is prepared. -/
def Obligations.FlashTakesTheContainer : Prop :=
  (∀ (s : State) (ch : Ch) (k : Container),
      (s.ch ch).live = true → (s.ch ch).supply.powerFail = false → (s.ch ch).load.cont = some k → (s.ch ch).load.writing = true →
      let c := s.ch ch
      ∃ t, exec (.flashWrite ch) s = .next t ∧ s.OnlyAt t ch ∧ (t.ch ch).load = default ∧
        (c.load.kind = 1 →
          (t.ch ch).nv = c.nv.putFw (freeSlot c.nv.fw0) { marker := 2, cont := some k } ∧ (t.ch ch).blocks = c.blocks) ∧
        (c.load.kind ≠ 1 → c.boot.unprog = true →
          (t.ch ch).nv = c.nv.putApp (freeSlot c.nv.app0) { marker := 2, cont := some k } ∧ (t.ch ch).blocks = c.blocks) ∧
        (c.load.kind ≠ 1 → c.boot.unprog = false →
          (t.ch ch).nv = c.nv.putApp (freeSlot c.nv.app0) { marker := 4, cont := some k } ∧
            (t.ch ch).blocks.exch = 1 ∧ (t.ch ch).blocks.result = 0 ∧ (t.ch ch).blocks.staged = some k ∧
            (t.ch ch).blocks.exchSeq = (k.image.map (fun g => g.imageSeq)).getD 0)) ∧
  (∀ (s : State) (ch : Ch) (old new : Image) (k : Container), (s.ch ch).live = true → (s.ch ch).blocks.exch = 3 →
    (s.ch ch).image = some old → (s.ch ch).blocks.staged = some k → k.image = some new →
    let c := (s.ch ch).prepareExchange s.factory.variant old new
    exec (.exchPrepareDone ch) s = .next (s.put ch c) ∧
      c = { s.ch ch with
        mem := c.mem
        blocks := { (s.ch ch).blocks with prepared := true, newInsts := (new.unmatched old).map initialInst } }) ∧
  (∀ (s : State) (ch : Ch), (s.ch ch).blocks.exch ≠ 3 ∨ (s.ch ch).image = none ∨ (s.ch ch).blocks.staged = none →
    exec (.exchPrepareDone ch) s = .next s)

/-! ### Inputs -/

/-- R22, R167, R183, R184, R189: a debounced input and the filtered readback of an output take their new level; a circuit
that reads ON is marked invalid by a failed test and cleared by the eighth pass in a row. A stalled sampler is counted and
recorded once, and the channel leaves the vote. -/
def Obligations.InputsTakeLevels : Prop :=
  (∀ (s : State) (ch : Ch) (n : Nat) (level : Bool), (s.ch ch).live = true → n < 96 →
    exec (.inputDebounce ch (.input n) level) s =
      .next (s.put ch { s.ch ch with din := { (s.ch ch).din with raw := putBit (s.ch ch).din.raw n level } })) ∧
  (∀ (s : State) (ch : Ch) (n : Nat) (level : Bool), (s.ch ch).live = true → n < 32 →
    exec (.inputDebounce ch (.readback n) level) s =
      .next (s.put ch { s.ch ch with dout := { (s.ch ch).dout with readback := putBit (s.ch ch).dout.readback n level } })) ∧
  (∀ (s : State) (ch : Ch) (n : Nat), (s.ch ch).live = true → n < 96 → (s.ch ch).din.raw.getLsbD n = true →
    exec (.inputCircuitTest ch n false) s =
      .next (s.put ch
        (({ s.ch ch with
          din := { (s.ch ch).din with
            invalid := putBit (s.ch ch).din.invalid n true, passes := tabDel (s.ch ch).din.passes n } } : Chan).emit
          .circuitFail n []))) ∧
  (∀ (s : State) (ch : Ch) (n : Nat), (s.ch ch).live = true → n < 96 → (s.ch ch).din.raw.getLsbD n = true →
    (s.ch ch).din.invalid.getLsbD n = true →
    let k := ((s.ch ch).din.passes.lookup n).getD 0 + 1
    (k < 8 → exec (.inputCircuitTest ch n true) s =
      .next (s.put ch { s.ch ch with din := { (s.ch ch).din with passes := tabPut (s.ch ch).din.passes n k } })) ∧
    (8 ≤ k → exec (.inputCircuitTest ch n true) s =
      .next (s.put ch
        (({ s.ch ch with
          din := { (s.ch ch).din with
            invalid := putBit (s.ch ch).din.invalid n false, passes := tabDel (s.ch ch).din.passes n } } : Chan).emit
          .circuitClear n [])))) ∧
  (∀ (s : State) (ch : Ch) (n : Nat) (pass : Bool), (s.ch ch).din.raw.getLsbD n = false →
    exec (.inputCircuitTest ch n pass) s = .next s) ∧
  (∀ (s : State) (ch : Ch), (s.ch ch).live = true → 6 ≤ (s.ch ch).boot.phase → (s.ch ch).din.stall = false →
    ∃ t, exec (.samplerStall ch) s = .next t ∧ (t.ch ch).din.stall = true ∧
      (t.ch ch).din.stallCnt = inc 16 (s.ch ch).din.stallCnt ∧
      (((s.ch ch).running = true ∧ (s.ch ch).votes ch = true) →
        (t.ch ch).votes ch = false ∧ (t.ch ch).dout.high = 0 ∧ (t.ch ch).dout.lowSide = 0 ∧ (t.ch ch).safe.alive = false ∧
          (∀ k ∈ (t.ch ch).tasks, k.running = false)) ∧
      (((s.ch ch).running = false ∨ (s.ch ch).votes ch = false) → s.OnlyAt t ch)) ∧
  (∀ (s : State) (ch : Ch), (s.ch ch).din.stall = true → exec (.samplerStall ch) s = .next s)

/-- R188: a channel in the vote marks faulty the circuit of a channel whose reading has differed at every instant over more
than DIN.DISC_TIME; 60 s of agreement at every instant clear the mark. -/
def Obligations.DiscrepancyMarksCircuits : Prop :=
  (∀ (s : State) (ch who : Ch) (n : Nat), (s.ch ch).live = true → n < 96 →
    let d := (s.ch ch).din
    (∀ t, (s.ch ch).votes ch = true → (d.differs.get who).lookup n = some t →
      (s.ch ch).act 0x0D09 * 10000 < (s.ch ch).lastInstant - t →
      exec (.discrepancyTimeout ch who n) s =
        .next (s.put ch { s.ch ch with
          din := { d with faulty := d.faulty.set who (putBit (d.faulty.get who) n true) } })) ∧
    (∀ t, (d.agrees.get who).lookup n = some t → 60000000 ≤ (s.ch ch).lastInstant - t →
      exec (.discrepancyClear ch who n) s =
        .next (s.put ch { s.ch ch with
          din := { d with faulty := d.faulty.set who (putBit (d.faulty.get who) n false) } }))) ∧
  (∀ (s : State) (ch who : Ch) (n : Nat),
    ((s.ch ch).votes ch = false ∨ (s.ch ch).differsLong who n = false → exec (.discrepancyTimeout ch who n) s = .next s) ∧
    ((s.ch ch).agreesLong who n = false → exec (.discrepancyClear ch who n) s = .next s))

/-- R23: a marker of this main cycle gives the sender's offset from its wait, its arrival and the transit time of 24 units;
with the offsets of every channel in the vote the skew is judged, and where no lane in SYNC leads, the median, limited to
400 units, moves the next release. A marker of the next main cycle is kept for this channel's own release. (The mean of two
offsets and the own offset in 0.1 µs are rounded down: DESIGN CHOICE, log 66.) -/
def Obligations.MarkerGivesOffset : Prop :=
  (∀ (s : State) (ch frm : Ch) (l : Link) (cycle localTime wait arrival : Nat),
    ch ≠ frm → (s.ch ch).running = true → (s.ch ch).TakesFrom frm l (.marker cycle localTime wait) →
    let c := (s.ch ch).readFrom frm l
    ((s.ch ch).released = true → cycle = (s.ch ch).mainCycle →
      let o : Int := (arrival : Int) - wait - 24 - (s.ch ch).t1Clock * 40
      let d : Chan := { c with vote := { c.vote with offsets := c.vote.offsets.set frm (some o) } }
      ((∃ x, x ∈ d.voters ∧ d.vote.offsets.get x = none) ∨ d.vote.skewJudged = true →
        exec (.marker ch frm l cycle localTime wait arrival) s = .next (s.put ch d)) ∧
      (∀ m, (∀ x ∈ d.voters, (d.vote.offsets.get x).isSome = true) → d.vote.skewJudged = false → d.median = some m →
        let e := { d with
          vote := { d.vote with
            skewOffset := ((d.vote.offsets.get ch).getD 0 - m) / 4
            moveNext := if d.onFabric && d.sync.st == 4 then 0 else max (-400) (min 400 m)
            skewJudged := true
            skews := if d.skewBits = 0 then d.vote.skews else (d.mainCycle, d.skewBits) :: d.vote.skews } }
        (d.skewBits.getLsbD ch.code = false →
          exec (.marker ch frm l cycle localTime wait arrival) s = .next (s.put ch e)) ∧
        (d.skewBits.getLsbD ch.code = true →
          exec (.marker ch frm l cycle localTime wait arrival) s =
            .next (s.put ch
              (({ e with vote := { e.vote with skewCnt := inc 16 e.vote.skewCnt } } : Chan).emit .skewFault ch.code []))))) ∧
    (cycle = (s.ch ch).nextMain →
      exec (.marker ch frm l cycle localTime wait arrival) s =
        .next (s.put ch { c with
          vote := { c.vote with early := c.vote.early.set frm (some (cycle, (arrival : Int) - wait - 24)) } })) ∧
    (cycle ≠ (s.ch ch).nextMain → ((s.ch ch).released = false ∨ cycle ≠ (s.ch ch).mainCycle) →
      exec (.marker ch frm l cycle localTime wait arrival) s = .next (s.put ch c))) ∧
  (∀ (s : State) (ch frm : Ch) (l : Link) (cycle localTime wait arrival : Nat),
    ch ≠ frm → (s.ch ch).live = true → (s.ch ch).running = false → (s.ch ch).TakesFrom frm l (.marker cycle localTime wait) →
    exec (.marker ch frm l cycle localTime wait arrival) s = .next (s.put ch ((s.ch ch).readFrom frm l)))

/-! ### Releases, runs, votes -/

/-- R25, R49, R123, R151, R185, R226: a release numbers the instant, opens its agreement and sends this channel's input set;
tasks that are due, not faulted and not still running start their runs. A confirmed seal change takes the channel out of the
vote instead; nothing happens at an instant that releases no task, or where T1 is not due at its cluster cycle start. -/
def Obligations.ReleaseOpensTheInstant : Prop :=
  (∀ (s : State) (ch : Ch) (offset now snaps main : Nat) (back : Word) (warn : BitVec 4),
    (s.ch ch).running = true → (s.ch ch).statusOnly = false → (s.ch ch).supply.powerFail = false →
    (offset ≠ 0 ∨ (s.ch ch).atClusterStart = true) → (s.ch ch).instantMain offset = some main →
    let c := s.ch ch
    (c.seals.changed = false →
      ∃ t, exec (.taskRelease ch offset now snaps back warn) s = .next t ∧ (∀ x, x ≠ ch → t.ch x = s.ch x) ∧
        (t.ch ch).clock = now ∧ (t.ch ch).din.openInstant = true ∧ (t.ch ch).din.mainCycle = main ∧
        (t.ch ch).din.offset = offset ∧ (t.ch ch).dout.dipNow = 0 ∧ (t.ch ch).fab.events = [] ∧
        (∃ i, (t.ch ch).din.sets.get ch = some i ∧ i.ch = ch ∧ i.mainCycle = main ∧ i.offset = offset ∧ i.warn = warn ∧
          i.di = c.din.raw.setWidth 64 ∧ i.stall = (c.din.stall && snaps == 0)) ∧
        (∃ k, (t.ch ch).din.cmdSets.get ch = some k ∧ k.ch = ch ∧ k.mainCycle = main ∧ k.offset = offset)) ∧
    (c.seals.changed = false → c.split = false →
      ∃ t i, exec (.taskRelease ch offset now snaps back warn) s = .next t ∧ (t.ch ch).din.sets.get ch = some i ∧
        (∃ q ∈ (t.ch ch).xout, q.dst = ch.next ∧ q.msg = .vote (.input i)) ∧
        (∃ q ∈ (t.ch ch).xout, q.dst = ch.prev ∧ q.msg = .vote (.input i))) ∧
    (c.seals.changed = false → offset = 0 →
      ∃ t, exec (.taskRelease ch offset now snaps back warn) s = .next t ∧ (t.ch ch).mainCycle = main ∧
        (t.ch ch).released = true ∧ (t.ch ch).t1Clock = now) ∧
    (c.seals.changed = false → offset ≠ 0 →
      ∃ t, exec (.taskRelease ch offset now snaps back warn) s = .next t ∧ (t.ch ch).mainCycle = c.mainCycle ∧
        (t.ch ch).t1Clock = c.t1Clock) ∧
    (c.seals.changed = false → c.runsTasks ch = true → c.part.switchAt = 0 → c.part.handover = false → c.blocks.exch ≠ 3 →
      c.reint.join = none → c.tasks.length = 8 → ∀ n ∈ c.dueTasks main offset, c.startsRun n = true →
      ∃ t, exec (.taskRelease ch offset now snaps back warn) s = .next t ∧ ((t.ch ch).task n).running = true ∧
        ((t.ch ch).task n).imageReady = false ∧ ((t.ch ch).task n).runMain = main ∧ ((t.ch ch).task n).runOffset = offset) ∧
    (c.seals.changed = true →
      ∃ t, exec (.taskRelease ch offset now snaps back warn) s = .next t ∧ (t.ch ch).seals.acted = true ∧
        (t.ch ch).reint.barred = true ∧ (t.ch ch).dout.high = 0 ∧ (t.ch ch).dout.lowSide = 0 ∧
        (t.ch ch).safe.alive = false ∧ t.hedgehog.copy1 = true ∧ t.hedgehog.copy2 = true) ∧
    (c.seals.changed = true → c.votes ch = true →
      ∃ t, exec (.taskRelease ch offset now snaps back warn) s = .next t ∧ (t.ch ch).votes ch = false)) ∧
  (∀ (s : State) (ch : Ch) (offset now snaps : Nat) (back : Word) (warn : BitVec 4),
    (s.ch ch).instantMain offset = none ∨ (offset = 0 ∧ (s.ch ch).atClusterStart = false) ∨
      (s.ch ch).running = false ∨ (s.ch ch).statusOnly = true ∨ (s.ch ch).supply.powerFail = true →
    exec (.taskRelease ch offset now snaps back warn) s = .next s)

/-- R22, R180, R186, R187: the agreement of an instant ends with the consolidated inputs in force, the majority of three
counted readings, the common value of two, else the safe value; while a sampler stall stands every one is safe, and in SPLIT
mode a channel takes its own set; the runs that wait take them as their image. -/
def Obligations.AgreementConsolidatesInputs : Prop :=
  (∀ (s : State) (ch : Ch),
    (s.ch ch).running = true → (s.ch ch).statusOnly = false → (s.ch ch).din.openInstant = true →
    let c := s.ch ch
    (∃ t, exec (.inputAgreement ch) s = .next t ∧ (∀ x, x ≠ ch → t.ch x = s.ch x) ∧ (t.ch ch).din.openInstant = false) ∧
    (c.split = false → c.din.stall = false →
      ∃ t, exec (.inputAgreement ch) s = .next t ∧ (t.ch ch).din.cons = c.consInputs) ∧
    (c.split = false → c.din.stall = true →
      ∃ t, exec (.inputAgreement ch) s = .next t ∧ (t.ch ch).din.cons = c.safeInputs) ∧
    (∀ i : InputSet, c.split = true → c.din.sets.get ch = some i →
      ∃ t, exec (.inputAgreement ch) s = .next t ∧ (t.ch ch).din.rb = i.rb ∧
        ∀ n, n < 96 → (t.ch ch).din.cons.getLsbD n =
          (if i.stall || inputInv i n then c.inputSafe n else inputBit i n)) ∧
    (c.tasks.length = 8 → ∀ n ∈ c.awaitingImage,
      ∃ t, exec (.inputAgreement ch) s = .next t ∧ ((t.ch ch).task n).imageReady = true ∧
        ((t.ch ch).task n).inImg.di = (t.ch ch).din.cons)) ∧
  (∀ (s : State) (ch : Ch), (s.ch ch).din.openInstant = false → exec (.inputAgreement ch) s = .next s) ∧
  (∀ (c : Chan) (n : Nat), n < 96 →
    (∀ a b d, c.readings n = [a, b, d] → c.consInputs.getLsbD n = ((a && b) || (a && d) || (b && d))) ∧
    (∀ a, c.readings n = [a, a] → c.consInputs.getLsbD n = a) ∧
    (∀ a b, c.readings n = [a, b] → a ≠ b → c.consInputs.getLsbD n = c.inputSafe n) ∧
    ((c.readings n).length < 2 → c.consInputs.getLsbD n = c.inputSafe n) ∧ c.safeInputs.getLsbD n = c.inputSafe n)

/-- R25, R81, R123, R156, R180: a task that may run, with its tiles verified, executes on its image; its vote set goes to
both partners and it waits for the decision, or in SPLIT mode its run is complete. Over a tile that has failed it waits. -/
def Obligations.TaskRunSendsItsSet : Prop :=
  ∀ (s : State) (ch : Ch) (n passUs execUs : Nat),
    (s.ch ch).vital ch = true → n < 8 → (s.ch ch).tasks.length = 8 → ((s.ch ch).task n).running = true →
    ((s.ch ch).task n).imageReady = true → ((s.ch ch).task n).sent = false → (s.ch ch).mayRun n = true →
    let c := (s.ch ch).verifyTiles ch s.factory.variant n
    (c.tilesReady n = false → exec (.taskRun ch n passUs execUs) s = .next (s.put ch c)) ∧
    (c.tilesReady n = true → (s.ch ch).split = false →
      ∃ t own, exec (.taskRun ch n passUs execUs) s = .next t ∧ s.OnlyAt t ch ∧
        ((t.ch ch).task n).own = some own ∧ ((t.ch ch).task n).sent = true ∧ own.ch = ch ∧ own.task = n ∧
        own.taskCycle = ((s.ch ch).task n).runCycle ∧ own.mainCycle = ((s.ch ch).task n).runMain ∧
        (∃ q ∈ (t.ch ch).xout, q.dst = ch.next ∧ q.msg = .vote (.task own)) ∧
        (∃ q ∈ (t.ch ch).xout, q.dst = ch.prev ∧ q.msg = .vote (.task own))) ∧
    (c.tilesReady n = true → (s.ch ch).split = true → (s.ch ch).part.backlog = [] →
      ∃ t, exec (.taskRun ch n passUs execUs) s = .next t ∧ s.OnlyAt t ch ∧ ((t.ch ch).task n).running = false ∧
        ((t.ch ch).task n).own = none ∧ ((t.ch ch).task n).votedCycle = ((s.ch ch).task n).runCycle)

/-- R21, R159, R160, R162, R187: a vote set read off a link is kept for its run or instant, or counted as stale or late. One
that is corrupt is counted, and one that finds the queue full is discarded; its sender then dissents. -/
def Obligations.VoteSetsAreKept : Prop :=
  (∀ (s : State) (ch frm : Ch) (l : Link), ch ≠ frm → (s.ch ch).live = true →
    let c := (s.ch ch).readFrom frm l
    (∀ k : TaskSet, (s.ch ch).TakesFrom frm l (.vote (.task k)) → k.task < 8 → (s.ch ch).votes ch = true →
      (c.vote.decided.contains (k.task, k.taskCycle) = true →
        exec (.vote ch frm l (.task k)) s =
          .next (s.put ch { c with
            vote := { c.vote with lateCnt := c.vote.lateCnt.set frm (inc 8 (c.vote.lateCnt.get frm)) } })) ∧
      (c.vote.decided.contains (k.task, k.taskCycle) = false → k.taskCycle < (c.task k.task).runCycle →
        exec (.vote ch frm l (.task k)) s =
          .next (s.put ch { c with
            vote := { c.vote with
              staleCnt := c.vote.staleCnt.set frm (inc 8 (c.vote.staleCnt.get frm))
              stale := c.vote.stale.set frm (k.task :: c.vote.stale.get frm) } })) ∧
      (c.vote.decided.contains (k.task, k.taskCycle) = false → (c.task k.task).runCycle ≤ k.taskCycle →
        exec (.vote ch frm l (.task k)) s =
          .next (s.put ch { c with
            vote := { c.vote with
              kept := c.vote.kept.set frm ((c.vote.kept.get frm).filter
                (fun e => !(e.task == k.task && e.taskCycle == k.taskCycle)) ++ [k]) } }))) ∧
    (∀ k : InputSet, (s.ch ch).TakesFrom frm l (.vote (.input k)) →
      (c.instantPassed k.mainCycle k.offset = true →
        exec (.vote ch frm l (.input k)) s =
          .next (s.put ch { c with
            vote := { c.vote with lateCnt := c.vote.lateCnt.set frm (inc 8 (c.vote.lateCnt.get frm)) } })) ∧
      (c.instantPassed k.mainCycle k.offset = false →
        exec (.vote ch frm l (.input k)) s =
          .next (s.put ch { c with din := { c.din with sets := c.din.sets.set frm (some k) } }))) ∧
    (∀ k : PartnerSet, (s.ch ch).TakesFrom frm l (.vote (.partner k)) →
      exec (.vote ch frm l (.partner k)) s =
        .next (s.put ch { c with din := { c.din with partSets := c.din.partSets.set frm (some k) } })) ∧
    (∀ k : AgreeSet, (s.ch ch).TakesFrom frm l (.vote (.agreement k)) → c.boot.phase = 6 →
      exec (.vote ch frm l (.agreement k)) s =
        .next (s.put ch { c with boot := { c.boot with agree := c.boot.agree.set frm (some k) } }))) ∧
  (∀ (s : State) (ch frm : Ch) (l : Link) (k : VoteSet), ch ≠ frm → (s.ch ch).live = true → (s.ch ch).split = false →
    4 ≤ (s.ch ch).boot.phase →
    let c := s.ch ch
    let m : XMsg := .vote k
    (l.full = true →
      exec (.vote ch frm l k) s =
        .next (s.put ch { c with vote := { c.vote with full := c.vote.full.set frm (List.range 8) } })) ∧
    (l.full = false → (l.intact m.kind m.payload = false ∨ l.seq ≠ c.vote.rxSeq.get frm) →
      exec (.vote ch frm l k) s =
        .next (s.put ch { c with
          vote := { c.vote with
            rxSeq := c.vote.rxSeq.set frm
              ((if l.crcOk m.payload then l.seq + 1 else c.vote.rxSeq.get frm + 1) % 16384)
            corruptCnt := c.vote.corruptCnt.set frm (inc 16 (c.vote.corruptCnt.get frm))
            corrupt := c.vote.corrupt.set frm (List.range 8) } })))

/-- R163 to R166, R173: the decision on a run: with agreement the outputs are written and the run ends, a channel that
agrees with nobody leaves the vote, and two channels that disagree shut the module down. Each verdict goes to both partners.
-/
def Obligations.VoteDecisionActs : Prop :=
  ∀ (s : State) (ch : Ch) (n execUs : Nat) (own : TaskSet),
    (s.ch ch).vital ch = true → (s.ch ch).split = false → (s.ch ch).reint.phase ≠ 4 → (s.ch ch).tasks.length = 8 → n < 8 →
    ((s.ch ch).task n).running = true → ((s.ch ch).task n).sent = true → ((s.ch ch).task n).own = some own → own.task = n →
    let c := (s.ch ch).judgeSkewFor ch own.mainCycle
    let d := c.judge ch own
    (∃ t, exec (.voteDecision ch n execUs) s = .next t ∧
      (∃ q ∈ (t.ch ch).xout, q.dst = ch.next ∧ ∃ v, q.msg = .verdict v ∧ v.outcome = d.outcome ∧ v.resNext = d.resNext ∧
        v.resPrev = d.resPrev ∧ v.task = n ∧ v.taskCycle = own.taskCycle) ∧
      (∃ q ∈ (t.ch ch).xout, q.dst = ch.prev ∧ ∃ v, q.msg = .verdict v ∧ v.outcome = d.outcome ∧ v.resNext = d.resNext ∧
        v.resPrev = d.resPrev ∧ v.task = n ∧ v.taskCycle = own.taskCycle)) ∧
    ((d.outcome = 0 ∨ d.outcome = 1 ∨ d.outcome = 5) → c.part.role = 1 → c.part.backlog = [] →
      ∃ t, exec (.voteDecision ch n execUs) s = .next t ∧ ((t.ch ch).task n).running = false ∧
        ((t.ch ch).task n).voted = own.out ∧ ((t.ch ch).task n).votedCycle = own.taskCycle) ∧
    ((d.outcome = 2 ∨ d.outcome = 3) →
      ∃ t, exec (.voteDecision ch n execUs) s = .next t ∧ (t.ch ch).votes ch = false ∧ (t.ch ch).dout.high = 0 ∧
        (t.ch ch).dout.lowSide = 0 ∧ (t.ch ch).safe.alive = false) ∧
    (d.outcome = 6 →
      ∃ t, exec (.voteDecision ch n execUs) s = .next t ∧ (t.ch ch).vote.mode = 3 ∧ (t.ch ch).dout.high = 0 ∧
        (t.ch ch).dout.lowSide = 0 ∧ t.hedgehog.copy1 = true ∧ t.hedgehog.copy2 = true)

/-- R159, R163, R165: what two results make of a decision: agreement of all, dissent of one partner, the two partners alone
agreeing, or no two; with one partner in the vote agreement or none. A set that has come is compared word by word but for CH
and PROB: 3 for other cycle numbers, 2 for another digest, 1 for any other word of its outputs. -/
def Obligations.DecisionFollowsTheTable : Prop :=
  (∀ (c : Chan) (me : Ch) (own : TaskSet), c.skewIn me own.mainCycle = false →
    let rn := c.resultFor own me.next
    let rp := c.resultFor own me.prev
    (c.votes me.next = true → c.votes me.prev = true →
      (rn = 0 → rp = 0 → (c.judge me own).outcome = 0) ∧
      ((rn = 0 ∧ rp ≠ 0) ∨ (rn ≠ 0 ∧ rp = 0) → (c.judge me own).outcome = 1) ∧
      (rn ≠ 0 → rp ≠ 0 → c.partnersAgree me own = true → (c.judge me own).outcome = 2) ∧
      (rn ≠ 0 → rp ≠ 0 → c.partnersAgree me own = false → (c.judge me own).outcome = 3)) ∧
    (c.votes me.next = true → c.votes me.prev = false → (c.judge me own).outcome = if rn = 0 then 5 else 6) ∧
    (c.votes me.next = false → c.votes me.prev = true → (c.judge me own).outcome = if rp = 0 then 5 else 6) ∧
    (c.votes me.next = false → c.votes me.prev = false → (c.judge me own).outcome = 6) ∧
    (∀ x, c.skewIn x own.mainCycle = true → c.resultFor own x = 7) ∧
    (∀ x t, c.skewIn x own.mainCycle = false → c.setFrom x own.task own.taskCycle = some t →
      c.resultFor own x = compareSets (taskSetWords own) (taskSetWords t))) ∧
  (∀ (a : TaskSet) (ch : Ch) (p : Bool), a.version < 256 → a.task < 8 →
    compareSets (taskSetWords a) (taskSetWords { a with ch := ch, prob := p }) = 0) ∧
  (∀ a b : TaskSet, w32 a.taskCycle ≠ w32 b.taskCycle ∨ w32 a.mainCycle ≠ w32 b.mainCycle →
    compareSets (taskSetWords a) (taskSetWords b) = 3) ∧
  (∀ a b : TaskSet, w32 a.taskCycle = w32 b.taskCycle → w32 a.mainCycle = w32 b.mainCycle → a.digest ≠ b.digest →
    compareSets (taskSetWords a) (taskSetWords b) = 2) ∧
  (∀ (a : TaskSet) (out : List Word), out.length = a.out.length → out ≠ a.out →
    compareSets (taskSetWords a) (taskSetWords { a with out := out }) = 1)

/-! ### Routes, tiles, blocks, gates -/

/-- R97, R99, R104, R107, R109, R110, R112: the timers of an own route at their end, in a T1 run without requests. A
reservation not granted in time gives everything back with reason 0x0A; positioning whose time is up without detection ends
with reason 0x08; the time release and the emergency release return the route to RELEASED; the overlap is given back once
its sections read clear. A timer that has not reached 0 does nothing. (That a command names the expiry of one route within
the pass is the model's choice, log 77.) -/
def Obligations.RouteTimersEnd : Prop :=
  ∀ (s : State) (ch : Ch) (route r : Nat) (g : Image),
    (s.ch ch).live = true → (s.ch ch).vital ch = true → (s.ch ch).image = some g → (s.ch ch).inRun 1 = true →
    let c := s.ch ch
    let x := c.passCtx ch s.factory.variant g
    let snap := c.passFront x
    let p := ({ res := c.res, log := [] } : Pass).setRoute r (fun q => { q with timer := (snap.route r).timer })
    let q := p.route r
    let gone := fun (t : State) =>
      s.OnlyAt t ch ∧ (t.ch ch).res.rstate.getD r RRec.released = RRec.released ∧
        (∀ v ∈ (t.ch ch).res.outRsv, v.route ≠ x.rid r)
    (x.ownRoute route = some r → r < c.res.rstate.length → x.im.requests = [] → snap.route r = q →
      (q.state = 0x11 → snap.rsvLate x r = true →
        ∃ t, exec (.rsvTimeout ch route) s = .next t ∧ gone t ∧
          (t.ch ch).res.lastReject = { reason := 0xA, target := x.rid r }) ∧
      (emergencyStates.contains q.state = true → q.tkind = 4 → q.timer = 0 → (p.aux r).restartHeld = false →
        ∃ t, exec (.emergencyReleaseExpiry ch route) s = .next t ∧ gone t) ∧
      (q.state = 0x77 → q.tkind = 1 → q.timer = 0 →
        ((p.aux r).restartHeld = true ∧ (snap.aux r).restartHeld = true) ∨
          ((p.aux r).restartHeld = false ∧ snap.trainIn x r = false) →
        ∃ t, exec (.approachTimeRelease ch route) s = .next t ∧ gone t) ∧
      (q.state = 0x33 → q.tkind = 3 → q.timer = 0 → snap.allDetected x r = false →
        ∃ t, exec (.positioningTimeout ch route) s = .next t ∧ gone t ∧
          (t.ch ch).res.lastReject = { reason := 8, target := x.rid r }) ∧
      (q.state = 0x33 → snap.allDetected x r = true → exec (.positioningTimeout ch route) s = .next s) ∧
      (q.state = 0x88 ∨ q.state = 0x99 → q.tkind = 2 → q.timer = 0 → q.ovl ≠ 0x1FFF →
        ((x.selected p r).all (fun e => !snap.occupied x (x.rid r) e) = true →
          ∃ t, exec (.overlapReleaseTimer ch route) s = .next t ∧ s.OnlyAt t ch ∧
            (t.ch ch).res.rstate.getD r RRec.released = { q with tkind := 0, ovl := 0x1FFF }) ∧
        ((x.selected p r).all (fun e => !snap.occupied x (x.rid r) e) = false →
          ∃ t, exec (.overlapReleaseTimer ch route) s = .next t ∧ s.OnlyAt t ch ∧
            (t.ch ch).res.rstate.getD r RRec.released = q))) ∧
    (x.ownRoute route = some r → (snap.route r).timer ≠ 0 →
      exec (.emergencyReleaseExpiry ch route) s = .next s ∧ exec (.approachTimeRelease ch route) s = .next s ∧
        exec (.positioningTimeout ch route) s = .next s ∧ exec (.overlapReleaseTimer ch route) s = .next s) ∧
    (c.res.hold = true → snap.res.hold = false →
      exec (.startupHoldEnd ch) s =
        .next (s.put ch { c with
          res :=
            { c.res with
              hold := false
              holdTicks := 0
              asks := c.res.asks ++ [(64, { op := 0xB, target := g.node * 4096, data := [] })] } })) ∧
    (snap.res.hold = true → exec (.startupHoldEnd ch) s = .next s)

/-- R81, R84, R85, R88: a tile is marked verified when its check finds nothing, else failed, counted and recorded; a
verified one fails only over a lane that delivers no data; a failed one is reloaded while the budget lasts, and when the
reload fails too, or no budget is left, the run is abandoned and the channel leaves the vote. PROG tiles are verified for
each task's run. The check of a slot finds nothing amiss in the words that are stored for it. -/
def Obligations.TilesAreVerified : Prop :=
  (∀ (s : State) (ch : Ch) (tile : Nat) (flips : List (Nat × Word)) (poison : Bool) (g : Image),
    (s.ch ch).live = true → (s.ch ch).resolverTile tile = some g →
    let v := s.factory.variant
    let c := s.ch ch
    let failed := fun (n : Nat) =>
      ({ c with
        tiles :=
          { c.tiles with
            vfailCnt := inc 16 c.tiles.vfailCnt
            failCycle := c.mainCycle % 65536
            failCause := n
            failIndex := tile
            marks := tabPut c.tiles.marks tile (.failed n) } } : Chan).emitTask 1 .tileFail tile [w32 n]
    (c.tiles.mark tile = .unverified → c.tileFinding ch v g tile flips poison = 0 →
      exec (.tileVerify ch tile flips poison) s =
        .next (s.put ch { c with tiles := c.tiles.setMark tile .verified })) ∧
    (∀ n, c.tileFinding ch v g tile flips poison = n → n ≠ 0 → c.tiles.mark tile = .unverified →
      exec (.tileVerify ch tile flips poison) s = .next (s.put ch (failed n))) ∧
    (c.tiles.mark tile = .verified → poison = false → c.slotBad ch v tile = false →
      exec (.tileVerify ch tile flips poison) s = .next s) ∧
    (c.tiles.mark tile = .verified → poison = true ∨ c.slotBad ch v tile = true →
      exec (.tileVerify ch tile flips poison) s = .next (s.put ch (failed 6))) ∧
    (∀ cause, c.tiles.mark tile = .failed cause →
      let d := (({ c with
        tiles := { c.tiles with used := c.tiles.used + 1, reloadCnt := inc 16 c.tiles.reloadCnt } } : Chan).emitTask 1
          .tileReload tile [w32 cause]).loadSlot v g tile
      let found := d.tileFinding ch v g tile flips (poison || c.masterBad ch v g tile)
      exec (.tileVerify ch tile flips poison) s = .next s ∧
      (c.tiles.used < c.reloadBudget → found = 0 →
        exec (.tileReload ch tile flips poison) s =
          .next (s.put ch { d with tiles := d.tiles.setMark tile .verified })) ∧
      (c.reloadBudget ≤ c.tiles.used ∨ found ≠ 0 →
        ∃ t, exec (.tileReload ch tile flips poison) s = .next t ∧ (t.ch ch).tiles.failCause = 8 ∧
          (t.ch ch).tiles.failIndex = tile ∧ ((t.ch ch).task 1).running = false) ∧
      (c.reloadBudget ≤ c.tiles.used ∨ found ≠ 0 → c.running = true → c.votes ch = true →
        ∃ t, exec (.tileReload ch tile flips poison) s = .next t ∧ (t.ch ch).votes ch = false))) ∧
  (∀ (s : State) (ch : Ch) (task tile : Nat) (flips : List (Nat × Word)) (poison : Bool) (g : Image),
    (s.ch ch).live = true → (s.ch ch).progTile task tile = some g →
    let v := s.factory.variant
    let c := s.ch ch
    (c.tiles.progMarks.contains (task, tile) = true → c.tiles.progFailedFor task tile = none →
      exec (.progTileVerify ch task tile flips poison) s = .next s) ∧
    (c.tiles.progMarks.contains (task, tile) = false → c.tiles.progFailedFor task tile = none →
      c.progFinding ch v g tile flips poison = 0 →
      ∃ t, exec (.progTileVerify ch task tile flips poison) s = .next t ∧ s.OnlyAt t ch ∧
        (t.ch ch).tiles.progMarks.contains (task, tile) = true) ∧
    (∀ n, c.tiles.progMarks.contains (task, tile) = false → c.tiles.progFailedFor task tile = none →
      c.progFinding ch v g tile flips poison = n → n ≠ 0 →
      ∃ t, exec (.progTileVerify ch task tile flips poison) s = .next t ∧ s.OnlyAt t ch ∧
        (t.ch ch).tiles.progFailedFor task tile = some n ∧ (t.ch ch).tiles.vfailCnt = inc 16 c.tiles.vfailCnt) ∧
    (∀ n, c.tiles.progFailedFor task tile = some n → c.reloadBudget ≤ (tabGet c.tiles.progUsed task).getD 0 →
      ∃ t, exec (.progTileVerify ch task tile flips poison) s = .next t ∧ (t.ch ch).tiles.failCause = 8 ∧
        (t.ch ch).tiles.failIndex = tile ∧ ((t.ch ch).task task).running = false)) ∧
  (∀ (ch : Ch) (key : Word) (kind gen index count : Nat) (payload : List Word),
    kind < 32 → gen < 8 → index < 1024 → tileCause (storedTile ch key kind gen index count payload) ch kind gen index = 0)

/-- R137, R211, R213, R220: in a run of its task an on-delay timer whose time is up expires; a pair of door inputs, or the
contacts of a gate, that disagree too long are a fault, recorded; an isolation lapses to UNPROVEN, with a warning before.
(That a command names what one block finds within the run is the model's choice, log 77.) -/
def Obligations.TimersOfBlocksAndGates : Prop :=
  (∀ (s : State) (ch : Ch) (n : Nat) (g : Image) (d : InstDef) (i : InstState),
    (s.ch ch).live = true → (s.ch ch).image = some g → g.inst n = some d → (s.ch ch).blocks.inst n = some i →
    d.kind = .onDelay → (s.ch ch).inRun d.task = true → wordAt i.fields 2 = 1 →
    let c := s.ch ch
    let k := c.task d.task
    let e := (wordAt i.fields 1).toNat + (if i.first then 0 else (k.runCycle - i.prevCycle) * (c.periodUs d.task / 1000))
    (i.oldPreset.getD d.preset ≤ e → readBool (wordAt (c.instInputs k.inImg d) 0) = true →
      exec (.fbTimerExpiry ch n) s =
        .next (s.put ch { c with
          blocks := c.blocks.putInst
            { i with first := false, prevCycle := k.runCycle, fields := [0xC3, w32 e, 1] } })) ∧
    (e < i.oldPreset.getD d.preset → exec (.fbTimerExpiry ch n) s = .next s)) ∧
  (∀ (s : State) (ch : Ch) (elem : Nat) (g : Image), (s.ch ch).live = true → (s.ch ch).image = some g →
    let c := s.ch ch
    let late0 := c.latePairs 0 (c.doorElapsed 0 c.doors.prev0) elem g.pairInputs
    let late1 := c.latePairs 1 (c.doorElapsed 1 c.doors.prev1) elem g.plungerInputs
    let flagged := fun (t : Nat) (q : PairDisc) =>
      ({ c with
        doors :=
          { c.doors with
            pairs := { q with flagged := true } :: c.doors.pairsBut q.elem q.input } } : Chan).emitTask t .pairFault q.elem
        [w32 q.input]
    (∀ t e ps, ∀ q ∈ c.latePairs t e elem ps, c.inRun t = true ∧ q.flagged = false ∧ c.discMs < q.ms + e) ∧
    (∀ q, late0 = [q] → c.inRun 1 = false →
      exec (.doorInputDiscrepancy ch elem) s = .next (s.put ch (flagged 0 q))) ∧
    (∀ q, c.inRun 0 = false → late1 = [q] →
      exec (.doorInputDiscrepancy ch elem) s = .next (s.put ch (flagged 1 q))) ∧
    (late0 = [] → late1 = [] → exec (.doorInputDiscrepancy ch elem) s = .next s)) ∧
  (∀ (s : State) (ch : Ch) (elem : Nat) (q : GateState), (s.ch ch).live = true →
    (s.ch ch).doors.gates.find? (fun p => p.elem == elem) = some q →
    let c := s.ch ch
    let used := ((c.task 0).runCycle - q.isolPrev) * (c.periodUs 0 / 1000)
    (∀ g d, c.image = some g → g.gates.find? (fun p => p.elem == elem) = some d →
      let im := (c.task 0).inImg
      let now := q.track (c.doorValue im d.lk1 false) (c.doorValue im d.lk2 false) (c.doorElapsed 0 c.doors.prev0)
      (c.inRun 0 = true → q.step ≠ 4 → c.discMs + 1 < now.split →
        exec (.gateFault ch elem) s =
          .next (s.put ch (({ c with
            doors :=
              { c.doors with
                gates := c.doors.gates.map (fun (p : GateState) => if p.elem == elem then { q with step := 4 } else p) } } :
            Chan).emitTask 0 .gateFault elem []))) ∧
      (c.inRun 0 = false ∨ q.step = 4 ∨ now.split ≤ c.discMs + 1 → exec (.gateFault ch elem) s = .next s)) ∧
    (c.inRun 0 = true → q.isolated = true → q.isolMs ≤ used →
      exec (.gateIsolationLapse ch elem) s =
        .next (s.put ch { c with
          doors :=
            { c.doors with
              gates := c.doors.gates.map (fun (p : GateState) =>
                if p.elem == elem then { q with step := 0, unproven := true, isolated := false, isolMs := 0 } else p) } })) ∧
    (c.inRun 0 = true → q.isolated = true → q.isolWarn = false → q.isolMs - used ≤ 900000 →
      exec (.gateIsolationWarning ch elem) s =
        .next (s.put ch (({ c with
          doors :=
            { c.doors with
              gates := c.doors.gates.map (fun (p : GateState) => if p.elem == elem then { q with isolWarn := true } else p) } } :
          Chan).emitTask 0 .isolWarning elem []))) ∧
    (c.inRun 0 = false ∨ q.isolated = false →
      exec (.gateIsolationLapse ch elem) s = .next s ∧ exec (.gateIsolationWarning ch elem) s = .next s))

/-! ### Verdicts, exclusion, the degraded module -/

/-- R165, R166, R168, R169: what verdicts, acknowledgements of exclusion and cut lines do. A channel that both partners name
leaves the vote with its switches open; a partner that this channel and the third both name leaves this channel's view and
its cut line is asserted; the network removes a drive on both partners' lines alone. -/
def Obligations.VerdictsSettleTheVote : Prop :=
  (∀ (s : State) (ch frm : Ch) (l : Link) (v : Verdict),
    ch ≠ frm → (s.ch ch).live = true → (s.ch ch).running = true → (s.ch ch).TakesFrom frm l (.verdict v) → v.ch = frm →
    let c := (s.ch ch).readFrom frm l
    let d := ({ c with vote := { c.vote with verdicts := c.vote.verdicts.set frm (some v) } } : Chan).takeReintSigns frm v
    (c.votes ch = false ∨ c.votes frm = false → exec (.verdict ch frm l v) s = .next (s.put ch d)) ∧
    (c.votes ch = true → c.votes frm = true → d.namedByBoth ch v = true →
      ∃ t, exec (.verdict ch frm l v) s = .next t ∧ (t.ch ch).votes ch = false ∧ (t.ch ch).dout.high = 0 ∧
        (t.ch ch).dout.lowSide = 0 ∧ (t.ch ch).safe.alive = false ∧ (t.ch ch).vote.exclCause = 0x12) ∧
    (∀ x, c.votes ch = true → c.votes frm = true → d.namedByBoth ch v = false → c.votes x = true →
      (d.verdictFor ch v).bind verdictNames = some x → (d.verdictFor (Ch.third ch x) v).bind verdictNames = some x →
      ∃ t, exec (.verdict ch frm l v) s = .next t ∧ s.OnlyAt t ch ∧ (t.ch ch).votes x = false ∧
        (t.ch ch).vote.cut.get x = true ∧ (t.ch ch).vote.mode = (if c.vote.mode = 1 then 2 else c.vote.mode)) ∧
    (c.votes ch = true → c.votes frm = true → d.namedByBoth ch v = false → (d.verdictFor ch v).bind verdictNames = none →
      ∃ t, exec (.verdict ch frm l v) s = .next t ∧ s.OnlyAt t ch ∧ (t.ch ch).vote.inVote = c.vote.inVote ∧
        (t.ch ch).vote.verdicts.get frm = some v)) ∧
  (∀ (s : State) (ch frm who : Ch) (l : Link) (n : Nat),
    ch ≠ frm → (s.ch ch).live = true → (s.ch ch).TakesFrom frm l (.exclAck who n) →
    let c := (s.ch ch).readFrom frm l
    (who = frm →
      ∃ t, exec (.exclAck ch frm l who n) s = .next t ∧ s.OnlyAt t ch ∧ (t.ch ch).vote.ackDue.get who = false ∧
        (t.ch ch).vote.acked.get who = c.votes who ∧ (t.ch ch).vote.inVote = c.vote.inVote ∧
        (t.ch ch).reint.phase = (if c.reint.phase = 0 then 0 else 5)) ∧
    (who ≠ frm → exec (.exclAck ch frm l who n) s = .next (s.put ch c))) ∧
  (∀ (s : State) (ch who : Ch), (s.ch ch).live = true →
    let c := s.ch ch
    (c.vote.ackDue.get who = true →
      exec (.exclAckTimeout ch who) s =
        .next (s.put ch (({ c with vote := { c.vote with ackDue := c.vote.ackDue.set who false } } : Chan).emit
          .exclUnconfirmed who.code []))) ∧
    (c.vote.ackDue.get who = false → exec (.exclAckTimeout ch who) s = .next s)) ∧
  (∀ (s : State) (frm whom : Ch) (level : Bool), frm ≠ whom →
    ((s.ch frm).live = true → (s.ch frm).split = false → (s.ch frm).vote.cut.get whom = level →
      ∃ t, exec (.cutLineChange frm whom level) s = .next t ∧ t.chans = s.chans ∧ t.hedgehog = s.hedgehog ∧
        (t.net.cut.get frm).get whom = level ∧
        (t.net.driveCut.get whom = true ↔
          (t.net.cut.get whom.next).get whom = true ∧ (t.net.cut.get whom.prev).get whom = true ∧
            s.net.driveCut.get whom.next = false ∧ s.net.driveCut.get whom.prev = false)) ∧
    ((s.ch frm).live = false ∨ (s.ch frm).split = true ∨ (s.ch frm).vote.cut.get whom ≠ level →
      exec (.cutLineChange frm whom level) s = .next s)) ∧
  (∀ (s : State) (ch x y : Ch),
    (s.ch ch).running = true → (s.ch ch).votes ch = true → (s.ch ch).votes x = true → (s.ch ch).vote.naming = some (x, y) →
    bits ((s.ch ch).act 0x0C02) 3 0 ≤ (s.ch ch).vote.single →
    (x = ch →
      ∃ t, exec (.oneSidedLimit ch) s = .next t ∧ (t.ch ch).votes x = false ∧ (t.ch ch).dout.high = 0 ∧
        (t.ch ch).dout.lowSide = 0 ∧ (t.ch ch).safe.alive = false) ∧
    (x ≠ ch →
      ∃ t, exec (.oneSidedLimit ch) s = .next t ∧ s.OnlyAt t ch ∧ (t.ch ch).votes x = false ∧
        (t.ch ch).vote.cut.get x = true ∧ (t.ch ch).votes ch = true))

/-- R172 to R175, R180, R201: a voter fault latches in every channel that executes and, at the output network, trips the
Hedgehog; in SPLIT mode it does nothing; a trip cause releases both copies and every channel counts the trip of an armed
Hedgehog; at the 2oo2 limit the module shuts down and takes no channel back; an hour of unbroken decisions clears the count.
-/
def Obligations.DegradedModuleIsLimited : Prop :=
  (∀ (s : State), (∀ x, (s.ch x).split = false) → ∃ t, exec (.voterFault .outputNetwork) s = .next t ∧ t.net.voterFault = true ∧
    t.net.driveCut = s.net.driveCut ∧ t.hedgehog = s.hedgehog.causeNow .voter ∧
    (∀ x, (s.ch x).live = true → (t.ch x).vote.outFault = true) ∧ (∀ x, (s.ch x).live = false → t.ch x = s.ch x)) ∧
  (∀ (s : State) (u : Duplicated) (x : Ch), (s.ch x).split = true → exec (.voterFault u) s = .next s) ∧
  (∀ (s : State), (∀ x, (s.ch x).split = false) → ∃ t, exec (.voterFault .commitComparator) s = .next t ∧ t.net = { s.net with recFault := true } ∧
    t.hedgehog = s.hedgehog ∧
    (∀ x, (s.ch x).live = true → (t.ch x).vote.recFault = true) ∧ (∀ x, (s.ch x).live = false → t.ch x = s.ch x)) ∧
  (∀ (s : State) (cause : TripCause),
    (s.tripCauseHolds cause = true →
      ∃ t, exec (.hedgehogTrip cause) s = .next t ∧ t.hedgehog.copy1 = true ∧ t.hedgehog.copy2 = true ∧
        t.hedgehog.cause = putBit s.hedgehog.cause (tripBit cause) true ∧
        (s.hedgehog.st = 0 → t.hedgehog.st = 0) ∧ (s.hedgehog.st ≠ 0 → t.hedgehog.st = 2) ∧ t.net = s.net ∧
        (s.hedgehog.st = 1 → ∀ x, (s.ch x).live = true → (t.ch x).safe.tripCnt = inc 16 (s.ch x).safe.tripCnt) ∧
        (s.hedgehog.st ≠ 1 → t.chans = s.chans)) ∧
    (s.tripCauseHolds cause = false → exec (.hedgehogTrip cause) s = .next s)) ∧
  (∀ (s : State) (ch : Ch), (s.ch ch).live = true →
    let c := s.ch ch
    (c.running = true → c.votes ch = true → c.vote.degWarn = false → c.degLimitUs ≤ c.vote.degUs + 3600000000 →
      exec (.degLimitWarning ch) s =
        .next (s.put ch (({ c with vote := { c.vote with degWarn := true } } : Chan).emit .degWarn 0 []))) ∧
    (c.running = true → c.votes ch = true → c.vote.mode ≠ 3 → c.degLimitUs ≤ c.vote.degUs →
      (c.task 1).votedMain < c.mainCycle →
      ∃ t, exec (.degLimitExpired ch) s = .next t ∧ (t.ch ch).vote.mode = 3 ∧ (t.ch ch).reint.barred = true ∧
        (t.ch ch).dout.high = 0 ∧ (t.ch ch).dout.lowSide = 0 ∧ t.hedgehog.copy1 = true ∧ t.hedgehog.copy2 = true) ∧
    (c.vote.degUs < c.degLimitUs ∨ c.mainCycle ≤ (c.task 1).votedMain → exec (.degLimitExpired ch) s = .next s) ∧
    (c.running = true → c.vote.mode = 1 → 3600000000 ≤ c.vote.goodUs →
      exec (.degCountReset ch) s = .next (s.put ch { c with vote := { c.vote with degUs := 0, degWarn := false } })))

/-! ### Reintegration, the vital outputs -/

/-- R112, R176 to R179: an attempt begins when every condition holds and its delay has passed; PREPARE ends with the
instance data at zero and REINT_REQ to both sources; a source in the degraded vote serves it; pages and STATE are taken;
JOIN for one cycle from both with every page held starts probation on the state taken; a time-out or an abandonment fails
the attempt and uses one of its tries. -/
def Obligations.ReintegrationRunsItsPhases : Prop :=
  (∀ (s : State) (ch : Ch), (s.ch ch).live = true →
    let c := s.ch ch
    let r := c.reint
    let delayOver := c.past r.since (bits (c.act 0x0C05) 15 8 * 1000000)
    let timeOver := c.past r.since (bits (c.act 0x0C05) 30 24 * 1000000)
    (c.running = true → c.statusOnly = false → c.votes ch = false → r.barred = false → c.vote.outFault = false →
      r.phase = 0 ∨ r.phase = 5 → (c.act 0x0C05).testBit 31 = true ∨ r.commanded = true → 0 < r.triesLeft →
      c.bistClean = true → c.votes ch.next = true → c.votes ch.prev = true →
      c.blocks.exch = 0 ∨ c.blocks.exch = 4 ∨ c.blocks.exch = 5 → delayOver = true →
      exec (.reintStart ch) s =
        .next (s.put ch { c with
          reint :=
            { r with
              phase := 1, attempt := r.attempt + 1, asked := false, acks := Tri.const false, pages := [], taken := none
              again := [], agreed := 0, join := none, judged := none, source := none
              pagesLeft := c.pagesInUse.length } })) ∧
    (c.votes ch = true ∨ r.barred = true ∨ r.triesLeft = 0 ∨ delayOver = false → exec (.reintStart ch) s = .next s) ∧
    (c.running = true → c.split = false → r.phase = 1 → r.asked = false →
      ∃ t, exec (.reintPrepareDone ch) s = .next t ∧ s.OnlyAt t ch ∧ (t.ch ch).tiles.marks = [] ∧
        (t.ch ch).reint = { r with asked := true, since := c.clock } ∧ (t.ch ch).res.gen = c.mainCycle % 8 ∧
        (∃ q ∈ (t.ch ch).xout, q.dst = ch.next ∧ q.msg = .reintReq false r.attempt) ∧
        (∃ q ∈ (t.ch ch).xout, q.dst = ch.prev ∧ q.msg = .reintReq false r.attempt)) ∧
    (∀ g, c.running = true → r.phase = 1 → r.asked = false → c.image = some g →
      ∃ t, exec (.reintPrepareDone ch) s = .next t ∧
        (∀ i ∈ (t.ch ch).blocks.insts, i.first = false ∧ ∀ w ∈ i.fields, w = 0)) ∧
    (r.phase = 1 ∨ r.phase = 2 → r.asked = true → timeOver = true →
      ∃ t, exec (.reintTimeout ch) s = .next t ∧ s.OnlyAt t ch ∧ (t.ch ch).reint.phase = 5 ∧
        (t.ch ch).reint.triesLeft = r.triesLeft - 1 ∧ (t.ch ch).vote.inVote = c.vote.inVote ∧
        (∀ k ∈ (t.ch ch).tasks, k.running = false)) ∧
    ((r.phase ≠ 1 ∧ r.phase ≠ 2) ∨ r.asked = false ∨ timeOver = false → exec (.reintTimeout ch) s = .next s)) ∧
  (∀ (s : State) (ch frm : Ch) (l : Link), ch ≠ frm → (s.ch ch).live = true →
    let c := (s.ch ch).readFrom frm l
    (∀ n, (s.ch ch).TakesFrom frm l (.reintReq false n) → c.running = true → c.votes ch = true → c.votes frm = false →
      c.vote.mode = 2 →
      (c.blocks.exch ≠ 3 →
        ∃ t, exec (.reintReq ch frm l false n) s = .next t ∧ s.OnlyAt t ch ∧ (t.ch ch).reint.source = some frm ∧
          (t.ch ch).reint.attempt = n ∧ (t.ch ch).reint.join = none ∧ (t.ch ch).vote.inVote = c.vote.inVote) ∧
      (c.blocks.exch = 3 →
        ∃ t, exec (.reintReq ch frm l false n) s = .next t ∧ s.OnlyAt t ch ∧ (t.ch ch).reint = c.reint ∧
          (∃ q ∈ (t.ch ch).xout, q.dst = frm ∧ q.msg = .reintReq true n))) ∧
    (∀ n, (s.ch ch).TakesFrom frm l (.reintReq true n) → c.running = true →
      (c.reint.source = some frm →
        ∃ t, exec (.reintReq ch frm l true n) s = .next t ∧ s.OnlyAt t ch ∧ (t.ch ch).reint.source = none ∧
          (t.ch ch).reint.join = none) ∧
      (c.reint.source ≠ some frm → c.votes ch = true → exec (.reintReq ch frm l true n) s = .next (s.put ch c)) ∧
      (c.reint.source ≠ some frm → c.votes ch = false → c.reint.phase ≠ 0 → c.reint.phase ≠ 5 →
        ∃ t, exec (.reintReq ch frm l true n) s = .next t ∧ s.OnlyAt t ch ∧ (t.ch ch).reint.phase = 5 ∧
          (t.ch ch).reint.triesLeft = c.reint.triesLeft - 1)) ∧
    (∀ page data, (s.ch ch).TakesFrom frm l (.page page data) → c.copying = true →
      let d : Chan := { c with reint := { c.reint with pages := tabPut c.reint.pages page data } }
      (c.reint.phase ≠ 3 ∨ c.reint.taken = none ∨ c.reint.acks.get ch.next = false ∨ c.reint.acks.get ch.prev = false ∨
        d.pagesMissing ≠ 0) →
      exec (.page ch frm l page data) s =
        .next (s.put ch { d with reint := { d.reint with pagesLeft := d.pagesMissing } })) ∧
    (∀ x : StateXfer, (s.ch ch).TakesFrom frm l (.state x) → c.copying = true →
      (x.exch ≠ 3 →
        exec (.stateTransfer ch frm l x) s = .next (s.put ch { c with reint := { c.reint with taken := some x } })) ∧
      (x.exch = 3 →
        ∃ t, exec (.stateTransfer ch frm l x) s = .next t ∧ s.OnlyAt t ch ∧ (t.ch ch).reint.phase = 5)) ∧
    (∀ cycle pages, (s.ch ch).TakesFrom frm l (.join cycle pages) → c.reint.phase = 2 ∨ c.reint.phase = 3 →
      let acks := if c.reint.join = some cycle then c.reint.acks else Tri.const false
      let d : Chan := { c with
        reint := { c.reint with phase := 3, join := some cycle, acks := acks.set frm true, finalPages := pages } }
      (d.reint.taken = none ∨ d.reint.acks.get ch.next = false ∨ d.reint.acks.get ch.prev = false ∨ d.pagesMissing ≠ 0 →
        exec (.join ch frm l cycle pages) s = .next (s.put ch d)) ∧
      (∀ x, d.reint.taken = some x → d.reint.acks.get ch.next = true → d.reint.acks.get ch.prev = true →
        d.pagesMissing = 0 →
        (∃ t, exec (.join ch frm l cycle pages) s = .next t ∧ ∀ y, y ≠ ch → t.ch y = s.ch y) ∧
        (c.mainCycle ≠ cycle ∨ c.din.offset ≠ 0 →
          ∃ t, exec (.join ch frm l cycle pages) s = .next t ∧ (t.ch ch).reint.phase = 4 ∧
            (t.ch ch).vote.probation.getLsbD ch.code = true ∧ (t.ch ch).res.estate = x.estate ∧
            (t.ch ch).res.rstate = x.rstate ∧ (t.ch ch).params.active = x.active ∧
            (t.ch ch).vote.inVote = c.vote.inVote)))) ∧
  (∀ (s : State) (ch frm : Ch) (l : Link) (page : Nat) (data : List Word),
    ch ≠ frm → (s.ch ch).live = true → (s.ch ch).split = false → 4 ≤ (s.ch ch).boot.phase → l.full = false →
    l.crcOk (XMsg.page page data).payload = false → (s.ch ch).copying = true →
    ∃ t, exec (.page ch frm l page data) s = .next t ∧ s.OnlyAt t ch ∧
      (t.ch ch).reint.again = ((s.ch ch).reint.again ++ [page]).eraseDups ∧
      (t.ch ch).reint.pages = (s.ch ch).reint.pages ∧
      (t.ch ch).vote.corruptCnt.get frm = inc 16 ((s.ch ch).vote.corruptCnt.get frm))

/-- R190 to R195, R199, R200, R203, R207, R453: an off-test pulse in the slot given to it is counted and its result kept,
one cut short by a command or a trip without result; a low-side test in its slot that fails marks its group; a timer that
runs out opens the output, a sag the whole group; a group returns to service with its outputs waiting for a command of a
later run. -/
def Obligations.OutputsAreTested : Prop :=
  (∀ (s : State) (ch : Ch) (n : Nat) (pair : Pair) (sweep : Option Bool) (dip cut : Bool), (s.ch ch).live = true →
    let o := (s.ch ch).dout
    let u := useOf n pair sweep.isSome
    ((s.ch ch).running = true → (s.ch ch).stageDrives ch = true → o.plan.contains u = true → sweep = none ∨ pair = .ab →
      cut = true ∨ (o.on.getLsbD n = true ∧ s.hedgehog.copy1 = false ∧ s.hedgehog.copy2 = false) →
      ∃ t, exec (.offTestPulse ch n pair sweep dip cut) s = .next t ∧ s.OnlyAt t ch ∧
        (t.ch ch).dout.pulseCnt = inc 16 o.pulseCnt ∧ (t.ch ch).dout.high = o.high ∧ (t.ch ch).dout.lowSide = o.lowSide ∧
        (t.ch ch).dout.plan = passedTo u o.plan ∧
        (t.ch ch).dout.tpgLast =
          w32 (n + bitAt sweep.isSome 5 + pair.code * 2 ^ 8 + (if cut then 3 else if dip then 1 else 2) * 2 ^ 12 +
            (s.ch ch).mainCycle % 65536 * 2 ^ 16) ∧
        (t.ch ch).dout.pulseFail = (if !cut && !dip then inc 16 o.pulseFail else o.pulseFail) ∧
        (t.ch ch).dout.pulsed = (if cut then o.pulsed else o.pulsed ++ [(n, pair)]) ∧
        (t.ch ch).dout.dipNow = (if !cut && dip then putBit o.dipNow n true else o.dipNow) ∧
        (t.ch ch).dout.sweepNow = (if !cut && sweep == some true then putBit o.sweepNow n true else o.sweepNow)) ∧
    (o.plan.contains u = false ∨ (cut = false ∧ o.on.getLsbD n = false) →
      exec (.offTestPulse ch n pair sweep dip cut) s = .next s)) ∧
  (∀ (s : State) (ch : Ch) (g : Nat), (s.ch ch).live = true → 1 ≤ g → g ≤ 4 →
    let c := s.ch ch
    let o := c.dout
    let u := SlotUse.lowSide ch (g - 1)
    (∀ ok, c.running = true → c.vote.mode = 1 → c.drives ch = true → o.plan.contains u = true →
      c.inService.getLsbD (g - 1) = true →
      exec (.lowSideTest ch g ok) s =
        .next (s.put ch { c with
          dout :=
            { o with plan := passedTo u o.plan, lsfNow := if ok then o.lsfNow else putBit o.lsfNow (g - 1) true } })) ∧
    (∀ ok, o.plan.contains u = false ∨ c.vote.mode ≠ 1 → exec (.lowSideTest ch g ok) s = .next s) ∧
    (∃ t, exec (.fieldSupplySag ch g) s = .next t ∧ s.OnlyAt t ch ∧ (t.ch ch).dout.sagLatch.getLsbD (g - 1) = true ∧
      (t.ch ch).dout.lowSide.getLsbD (g - 1) = false ∧
      (∀ n, n < 32 → groupOf n = g - 1 → (t.ch ch).dout.high.getLsbD n = false ∧ (t.ch ch).dout.onTestOff.getLsbD n = true) ∧
      (∀ n, n < 32 → groupOf n ≠ g - 1 → (t.ch ch).dout.high.getLsbD n = o.high.getLsbD n)) ∧
    (c.running = true → c.warnClearLong (g - 1) = true → o.sag.getLsbD (g - 1) = true ∨ o.sagLatch.getLsbD (g - 1) = true →
      (∃ t, exec (.groupReturnToService ch g) s = .next t ∧ s.OnlyAt t ch ∧ (t.ch ch).dout.sag.getLsbD (g - 1) = false ∧
        (t.ch ch).dout.sagLatch.getLsbD (g - 1) = false ∧ (t.ch ch).dout.high = o.high ∧
        (∀ n, n < 32 → groupOf n = g - 1 → (t.ch ch).dout.needFresh.lookup n = some c.lastInstant)) ∧
      (c.stageDrives ch = true → c.supply.powerFail = false →
        ∃ t, exec (.groupReturnToService ch g) s = .next t ∧
          (t.ch ch).dout.lowSide.getLsbD (g - 1) = !c.nv.groupLocked.getLsbD (g - 1)) ∧
      (c.stageDrives ch = false ∨ c.supply.powerFail = true →
        ∃ t, exec (.groupReturnToService ch g) s = .next t ∧ (t.ch ch).dout.lowSide = o.lowSide)) ∧
    (c.warnClearLong (g - 1) = false → exec (.groupReturnToService ch g) s = .next s)) ∧
  (∀ (s : State) (ch : Ch) (n : Nat),
    let c := s.ch ch
    (c.live = true → n < 32 → c.dout.timerOn.getLsbD n = true →
      exec (.outputTimeout ch n) s =
        .next (s.put ch { c with
          dout :=
            { c.dout with high := putBit c.dout.high n false, timerOn := putBit c.dout.timerOn n false } })) ∧
    (c.dout.timerOn.getLsbD n = false → exec (.outputTimeout ch n) s = .next s))

/-! ### Fabric time -/

/-- R238 to R240, R243, R244, R246, R247, R264: the Owl sends its reference on every open port and gives up after two basic
cycles without; a node follows a reference's time, falls back on a drift beyond 1.5 µs, counts a conflict on the compiled
schedule; missing references lead to LISTEN at the eighth and to the takeover of a backup before. -/
def Obligations.ReferencesAreFollowed : Prop :=
  (∀ (s : State) (ch : Ch), (s.ch ch).live = true → (s.ch ch).laneOpen = true →
    let c := s.ch ch
    let y := c.sync
    (y.isOwl = true → y.refSent = false → c.portOpen .x = true ∨ c.portOpen .y = true →
      ∃ t, exec (.referenceSend ch) s = .next t ∧ s.OnlyAt t ch ∧ (t.ch ch).sync = { y with refSent := true, unsent := 0 } ∧
        (∀ p, c.portOpen p = true → ∃ q ∈ (t.ch ch).fab.sent, q.1 = p ∧ q.2.kind = 1 ∧ q.2.origin = c.nodeKey ∧
          q.2.cluster = y.cluster ∧ q.2.basic = y.basic ∧ q.2.payload = wordsBytes (refWords c.ownRef))) ∧
    (y.isOwl = true → 2 ≤ y.unsent →
      exec (.owlGiveUp ch) s =
        .next (s.put ch { c with
          sync :=
            { y with
              st := 3, rank := 0, tookRank := 0, good := 0, coldSent := 0, listenOver := false, owlKey := 0x7F
              missing := 0 } })) ∧
    (3 ≤ y.st → y.isOwl = false → y.gotRef = false → y.judged = false → y.cold = false ∨ y.basic % 2 = y.owlKey % 2 →
      (y.missing < 7 →
        exec (.referenceMissing ch) s =
          .next (s.put ch { c with
            sync := { y with judged := true, missing := y.missing + 1, missCnt := inc 16 y.missCnt, good := 0 } })) ∧
      (7 ≤ y.missing →
        ∃ t, exec (.referenceMissing ch) s = .next t ∧ s.OnlyAt t ch ∧ (t.ch ch).sync.st = 1 ∧
          (t.ch ch).sync.owlKey = 0x7F ∧ (t.ch ch).sync.compiled = false ∧ (t.ch ch).sync.missCnt = inc 16 y.missCnt)) ∧
    (y.gotRef = true ∨ y.judged = true → exec (.referenceMissing ch) s = .next s) ∧
    (y.st = 4 → 2 ≤ y.rank → 2 * (y.rank - 1) ≤ y.missing →
      ∃ t, exec (.owlTakeover ch) s = .next t ∧ s.OnlyAt t ch ∧ (t.ch ch).sync.isOwl = true ∧
        (t.ch ch).sync.tookRank = y.rank ∧ (t.ch ch).sync.owlKey = c.nodeKey ∧
        (t.ch ch).sync.takeoverCnt = inc 8 y.takeoverCnt ∧ (t.ch ch).sync.cluster = y.cluster ∧
        (t.ch ch).sync.basic = y.basic) ∧
    (y.missing < 2 * (y.rank - 1) → exec (.owlTakeover ch) s = .next s) ∧
    (y.compiled = true → 8 ≤ y.conflictRun →
      ∃ t, exec (.referenceConflictLimit ch) s = .next t ∧ s.OnlyAt t ch ∧ (t.ch ch).frt.fault = true ∧
        (t.ch ch).frt.cause = 4 ∧ (t.ch ch).sync.conflictRun = 0)) ∧
  (∀ (s : State) (ch : Ch) (f : FrameRx),
    (s.ch ch).live = true → (s.ch ch).HearsFrame ch f 1 → f.origin ≠ (s.ch ch).nodeKey →
    (s.ch ch).delayOk f.port = true →
    let c := (s.ch ch).heardFrame f
    let y := c.sync
    let r := refOf (frameWords f)
    let off := (f.arrival : Int) - r.acc - y.delayNs f.port
    (∃ t, exec (.reference ch f) s = .next t ∧ s.OnlyAt t ch) ∧
    (r.hop < 6 → c.portOpen f.port.other = true → y.relayedOn f.port.other = false →
      ∃ t, exec (.reference ch f) s = .next t ∧
        ∃ q ∈ (t.ch ch).fab.sent, q.1 = f.port.other ∧ q.2.kind = 1 ∧ q.2.hop = f.hop + 1 ∧ q.2.origin = f.origin ∧
          q.2.payload = wordsBytes (refWords { r with hop := r.hop + 1, acc := r.acc + y.delayNs f.port + 4000 })) ∧
    (y.isOwl = true → c.nodeKey ≤ r.owl → exec (.reference ch f) s = .next (s.put ch (c.relayRef f r))) ∧
    (y.isOwl = true → r.owl < c.nodeKey → y.compiled = false →
      ∃ t, exec (.reference ch f) s = .next t ∧ (t.ch ch).sync.st = 3 ∧ (t.ch ch).sync.owlKey = r.owl ∧
        (t.ch ch).sync.rank = 0) ∧
    (y.isOwl = true → r.owl < c.nodeKey → y.compiled = true → y.switchAt = 0 →
      ∃ t, exec (.reference ch f) s = .next t ∧ (t.ch ch).sync.switchAt = (y.cluster + 2) % 2 ^ 32 ∧
        (t.ch ch).sync.nextSched = false ∧ (t.ch ch).sync.st = 4) ∧
    (y.st = 1 ∨ y.st = 2 → y.copy = none →
      ∃ t, exec (.reference ch f) s = .next t ∧ (t.ch ch).sync.st = 3 ∧ (t.ch ch).sync.owlKey = r.owl ∧
        (t.ch ch).sync.cluster = r.cluster ∧ (t.ch ch).sync.basic = r.basic ∧ (t.ch ch).sync.compiled = r.sched ∧
        (t.ch ch).sync.offset = off ∧ (t.ch ch).sync.gotRef = true ∧ (t.ch ch).sync.missing = 0) ∧
    (y.st = 4 → y.rank ≠ 1 → y.copy = none → r.owl = y.owlKey →
      (off.natAbs ≤ 1500 →
        ∃ t, exec (.reference ch f) s = .next t ∧ (t.ch ch).sync.offset = off ∧ (t.ch ch).sync.gotRef = true ∧
          (t.ch ch).sync.missing = 0 ∧ (t.ch ch).sync.cluster = y.cluster ∧ (t.ch ch).sync.basic = y.basic ∧
          (t.ch ch).sync.st = 4 ∧ (t.ch ch).sync.dropCnt = y.dropCnt) ∧
      (1500 < off.natAbs →
        ∃ t, exec (.reference ch f) s = .next t ∧ (t.ch ch).sync.offset = off ∧ (t.ch ch).sync.st = 3 ∧
          (t.ch ch).sync.drifted = true ∧ (t.ch ch).sync.dropCnt = inc 16 y.dropCnt)) ∧
    (3 ≤ y.st → y.isOwl = false → y.compiled = true → y.owlKey ≠ 0x7F → r.owl ≠ y.owlKey →
      y.gotRef = true ∨ y.missing = 0 → y.conflictNow = false →
      ∃ t, exec (.reference ch f) s = .next t ∧ (t.ch ch).sync.conflictCnt = inc 8 y.conflictCnt ∧
        (t.ch ch).sync.conflictNow = true ∧ (t.ch ch).sync.owlKey = y.owlKey ∧ (t.ch ch).sync.st = y.st))

/-- R226, R237, R243, R244, R248 to R251, R277: an eligible node that has listened in vain becomes a candidate and, after
eight coldstart frames, the Owl; the others follow the lowest key; a second holder of its key takes a node to OFF until its
back-off ends; the announced schedule change happens at its cluster cycle; basic cycles count modulo 64 and cluster cycles
after them; a channel of the vote that enters SYNC more than 50 µs from its own T1 release leaves the vote. -/
def Obligations.ColdStartAndCycles : Prop :=
  (∀ (s : State) (ch : Ch), (s.ch ch).live = true → (s.ch ch).laneOpen = true →
    let c := s.ch ch
    let y := c.sync
    (y.st = 1 → 128 ≤ y.listened →
      exec (.listenTimeout ch) s = .next (s.put ch { c with sync := { y with listenOver := true } })) ∧
    (y.st ≠ 1 ∨ y.listened < 128 → exec (.listenTimeout ch) s = .next s) ∧
    (y.st = 1 → y.listenOver = true → c.owlEligible = true →
      exec (.coldstartEntry ch) s =
        .next (s.put ch { c with
          sync := { y with st := 2, basic := 0, cluster := 0, coldSent := 0, compiled := false } })) ∧
    (y.st ≠ 1 ∨ y.listenOver = false ∨ c.owlEligible = false → exec (.coldstartEntry ch) s = .next s) ∧
    (y.st = 2 → y.coldSent = 8 → y.basic = 16 →
      ∃ t, exec (.coldstartComplete ch) s = .next t ∧ s.OnlyAt t ch ∧ (t.ch ch).sync.isOwl = true ∧
        (t.ch ch).sync.tookRank = 1 ∧ (t.ch ch).sync.owlKey = c.nodeKey) ∧
    (y.coldSent ≠ 8 ∨ y.basic ≠ 16 → exec (.coldstartComplete ch) s = .next s) ∧
    (3 ≤ y.st → y.switchAt ≠ 0 → y.switchAt = y.cluster → y.basic = 0 →
      (∃ t, exec (.scheduleSwitch ch) s = .next t ∧ s.OnlyAt t ch ∧
        (t.ch ch).sync = { y with compiled := y.nextSched, switchAt := 0, nextSched := false }) ∧
      (y.nextSched ≠ y.compiled →
        ∃ t, exec (.scheduleSwitch ch) s = .next t ∧ ∀ f ∈ (t.ch ch).fab.queueX ++ (t.ch ch).fab.queueY, 2 ≤ f.cls) ∧
      (y.nextSched = false →
        ∃ t, exec (.scheduleSwitch ch) s = .next t ∧ (t.ch ch).frt.complete = false ∧ (t.ch ch).frt.ready = [])) ∧
    (y.switchAt ≠ y.cluster ∨ y.basic ≠ 0 → exec (.scheduleSwitch ch) s = .next s)) ∧
  (∀ (s : State) (ch : Ch) (now : Nat), (s.ch ch).laneLive = true →
    let c := s.ch ch
    let y := c.sync
    let b := (y.basic + 1) % 64
    let far := (now + 64000 - b * 1000 + 64000 - c.t1Clock % 64000) % 64000
    let enters := y.st = 3 ∧ (∃ h o, y.copy = some (h, o) ∧ o.natAbs ≤ 1000) ∧ 7 ≤ y.good ∧
      ((y.compiled = false ∧ y.drifted = false) ∨ y.basic = 63)
    (y.st = 0 → y.dupLatched = true → y.dupDetect < 3 → y.backoff = 0 →
      ∃ t, exec (.dupBackoffEnd ch) s = .next t ∧ s.OnlyAt t ch ∧ (t.ch ch).sync.st = 1 ∧
        (t.ch ch).sync.dupDetect = y.dupDetect) ∧
    (3 ≤ y.dupDetect ∨ y.backoff ≠ 0 → exec (.dupBackoffEnd ch) s = .next s) ∧
    (y.st ≠ 0 →
      ∃ t, exec (.basicCycleStart ch now) s = .next t ∧ (t.ch ch).sync.basic = b ∧
        (t.ch ch).sync.cluster = (if y.basic = 63 then (y.cluster + 1) % 2 ^ 32 else y.cluster) ∧
        (t.ch ch).sync.gotRef = false ∧ (t.ch ch).sync.refSent = false ∧ (t.ch ch).sync.copy = none) ∧
    (y.st ≠ 0 → y.st ≠ 3 → ∃ t, exec (.basicCycleStart ch now) s = .next t ∧ s.OnlyAt t ch ∧ (t.ch ch).sync.st = y.st) ∧
    (y.st = 3 → y.copy = none → y.good < 8 →
      ∃ t, exec (.basicCycleStart ch now) s = .next t ∧ s.OnlyAt t ch ∧ (t.ch ch).sync.st = 3) ∧
    (enters → ∃ t, exec (.basicCycleStart ch now) s = .next t ∧ (t.ch ch).sync.st = 4) ∧
    (enters → c.running = true → c.released = true → c.votes ch = true → 50 < far → far < 63950 →
      ∃ t, exec (.basicCycleStart ch now) s = .next t ∧ (t.ch ch).votes ch = false ∧
        (t.ch ch).vote.skewCnt = inc 16 c.vote.skewCnt)) ∧
  (∀ (s : State) (ch : Ch) (f : FrameRx), (s.ch ch).live = true → (s.ch ch).HearsFrame ch f 2 →
    let c := (s.ch ch).heardFrame f
    let key := bits (wordAt (frameWords f) 2).toNat 6 0
    let serial := serialOf (frameWords f) 3
    (key ≠ c.nodeKey → (c.sync.st = 1 ∧ c.owlEligible = false) ∨ ((c.sync.st = 1 ∨ c.sync.st = 2) ∧ key < c.nodeKey) ∨
        (c.sync.st = 3 ∧ c.sync.cold = true ∧ key ≤ c.sync.owlKey) →
      ∃ t, exec (.coldstart ch f) s = .next t ∧ s.OnlyAt t ch ∧ (t.ch ch).sync.st = 3 ∧ (t.ch ch).sync.cold = true ∧
        (t.ch ch).sync.owlKey = key ∧ (t.ch ch).sync.cluster = 0 ∧
        (t.ch ch).sync.basic = bits (wordAt (frameWords f) 1).toNat 5 0 ∧ (t.ch ch).sync.compiled = false) ∧
    (c.nodeKey < key → c.owlEligible = true → c.sync.st = 1 ∨ c.sync.st = 2 →
      ∃ t, exec (.coldstart ch f) s = .next t ∧ s.OnlyAt t ch ∧ (t.ch ch).sync.st = c.sync.st ∧
        (t.ch ch).sync.owlKey = c.sync.owlKey) ∧
    (key = c.nodeKey → serial ≠ s.factory.serial →
      ∃ t, exec (.coldstart ch f) s = .next t ∧ s.OnlyAt t ch ∧ (t.ch ch).sync.st = 0 ∧ (t.ch ch).sync.dupLatched = true ∧
        (t.ch ch).sync.dupDetect = min 3 (c.sync.dupDetect + 1) ∧ (t.ch ch).sync.dupKey = c.nodeKey) ∧
    (key = c.nodeKey → serial = s.factory.serial → exec (.coldstart ch f) s = .next (s.put ch c)))

/-! ### Ports, discovery -/

/-- R38, R231, R243, R257, R265, R273, R277, R280: a transceiver is used only if it is supported; a port found down loses
its queue and its neighbour and the link is out of the hop counts; one that comes up holds no credits and brings a node out
of OFF, and a wrong neighbour is a fault of cause 5; the fourth violation of a cluster cycle closes a port. -/
def Obligations.PortsComeAndGo : Prop :=
  (∀ (s : State) (ch : Ch) (p : Port), (s.ch ch).live = true →
    let c := s.ch ch
    let st := c.frt.port p
    (∀ code mw, code ≠ .otherCode → mw ≤ 1000 →
      exec (.sfpInserted ch p code mw) s = .next (s.put ch { c with frt := c.frt.putPort p { st with optics := true } })) ∧
    (∀ code mw, code = .otherCode ∨ 1000 < mw →
      ∃ t, exec (.sfpInserted ch p code mw) s = .next t ∧ s.OnlyAt t ch ∧ ((t.ch ch).frt.port p).optics = false ∧
        ((t.ch ch).frt.port p).up = false ∧ (t.ch ch).frt.port p.other = c.frt.port p.other) ∧
    (∃ t, exec (.sfpRemoved ch p) s = .next t ∧ s.OnlyAt t ch ∧ ((t.ch ch).frt.port p).optics = false ∧
      ((t.ch ch).frt.port p).up = false ∧ (t.ch ch).frt.port p.other = c.frt.port p.other) ∧
    (c.laneLive = true → 3 ≤ st.quiet → st.up = true →
      ∃ t, exec (.portDown ch p) s = .next t ∧ s.OnlyAt t ch ∧
        (t.ch ch).frt.port p =
          { st with
            up := false, nbr := none, wrong := false, fell := true, quiet := 0, lively := 0, near := none, named := false } ∧
        (t.ch ch).frt.port p.other = c.frt.port p.other ∧ (t.ch ch).fab.queue p = [] ∧
        (∀ e ∈ (t.ch ch).qm.credits, e.port = p → e.cells = 0 ∧ e.known = false)) ∧
    (∀ n, c.laneLive = true → 3 ≤ st.quiet → st.up = true → st.nbr = some n →
      ∃ t, exec (.portDown ch p) s = .next t ∧
        linkPair (endOf c.nodeKey p) (endOf n.1 n.2) ∈ (t.ch ch).frt.lostLinks) ∧
    (c.laneLive = false ∨ st.quiet < 3 ∨ st.up = false → exec (.portDown ch p) s = .next s)) ∧
  (∀ (s : State) (ch : Ch) (p : Port), (s.ch ch).laneLive = true → (s.ch ch).onFabric = true →
    ((s.ch ch).frt.port p).optics = true → ((s.ch ch).frt.port p).up = false →
    let c := s.ch ch
    let st := c.frt.port p
    let returns := st.fell = false ∨ (3 ≤ st.lively ∧ c.delayOk p = true ∧
      (c.described p = none ∨ st.named = true ∨ c.wrongNeighbour p = true))
    (returns →
      ∃ t, exec (.portUp ch p) s = .next t ∧ s.OnlyAt t ch ∧ ((t.ch ch).frt.port p).up = true ∧
        ((t.ch ch).frt.port p).nbr = st.near.map (fun k => (k, p.other)) ∧
        ((t.ch ch).frt.port p).wrong = c.wrongNeighbour p ∧ (t.ch ch).frt.port p.other = c.frt.port p.other ∧
        (∀ e ∈ (t.ch ch).qm.credits, e.port = p → e.cells = 0 ∧ e.known = false)) ∧
    (returns → c.sync.st = 0 → c.sync.dupLatched = false →
      ∃ t, exec (.portUp ch p) s = .next t ∧ (t.ch ch).sync.st = 1) ∧
    (returns → c.sync.st ≠ 0 → ∃ t, exec (.portUp ch p) s = .next t ∧ (t.ch ch).sync = c.sync) ∧
    (returns → c.wrongNeighbour p = true →
      ∃ t, exec (.portUp ch p) s = .next t ∧ (t.ch ch).frt.fault = true ∧ (t.ch ch).frt.cause = 5) ∧
    (returns → c.wrongNeighbour p = false →
      ∃ t, exec (.portUp ch p) s = .next t ∧ (t.ch ch).frt.fault = c.frt.fault ∧ (t.ch ch).frt.cause = c.frt.cause) ∧
    (st.fell = true → st.lively < 3 ∨ c.delayOk p = false → exec (.portUp ch p) s = .next s)) ∧
  (∀ (s : State) (ch : Ch) (p : Port),
    (s.ch ch).laneLive = false ∨ (s.ch ch).onFabric = false ∨ ((s.ch ch).frt.port p).optics = false ∨
      ((s.ch ch).frt.port p).up = true → exec (.portUp ch p) s = .next s) ∧
  (∀ (s : State) (ch : Ch) (p : Port) (at_ : Nat), (s.ch ch).live = true →
    let c := s.ch ch
    (6 ≤ c.boot.phase → c.enables p at_ = false →
      ∃ t, exec (.badgerViolation ch p at_) s = .next t ∧ s.OnlyAt t ch ∧ (t.ch ch).guard.now p = c.guard.now p + 1 ∧
        ((t.ch ch).guard.babble p = true ↔ c.guard.babble p = true ∨ 3 ≤ c.guard.now p) ∧
        (t.ch ch).guard.now p.other = c.guard.now p.other ∧ (t.ch ch).guard.babble p.other = c.guard.babble p.other) ∧
    (6 ≤ c.boot.phase → c.portOpen p = false →
      ∃ t, exec (.badgerViolation ch p at_) s = .next t ∧ (t.ch ch).guard.now p = c.guard.now p + 1) ∧
    (c.portOpen p = true → c.dynamicOpen = true → 741000 ≤ at_ → at_ < 995000 →
      exec (.badgerViolation ch p at_) s = .next s) ∧
    (c.boot.phase < 6 ∨ c.enables p at_ = true → exec (.badgerViolation ch p at_) s = .next s)) ∧
  (∀ (s : State) (ch : Ch) (f : FrameRx), (s.ch ch).HearsFrame ch f 0x0A → f.origin ≠ (s.ch ch).nodeKey →
    let w := (wordAt (frameWords f) 0).toNat
    ∃ t, exec (.linkDown ch f) s = .next t ∧ s.OnlyAt t ch ∧
      linkPair (endOf (bits w 6 0) (if w.testBit 8 then .y else .x))
        (endOf (bits w 22 16) (if w.testBit 24 then .y else .x)) ∈ (t.ch ch).frt.lostLinks ∧
      (∀ l ∈ (s.ch ch).frt.lostLinks, l ∈ (t.ch ch).frt.lostLinks))

/-- R228, R230, R233, R234, R236, R259, R276, R279, R280: what a port sends at a time of the basic cycle, in ns. In the
dynamic segment CREDIT in the first mini-slot, then at a mini-slot boundary the frame of highest rank if it ends in time and
its credits are held; in a window of the compiled schedule the frame it admits, and a vital cyclic frame without credits is
counted; on the start-up schedule a HELLO in the own slot; nothing elsewhere, and nothing on a port that is not open. -/
def Obligations.FramesKeepTheirWindows : Prop :=
  ∀ (s : State) (ch : Ch) (p : Port) (at_ : Nat),
    let c := s.ch ch
    (c.portOpen p = false → exec (.frameTransmit ch p at_) s = .next s) ∧
    (at_ < 100000 ∨ 993000 < at_ ∨ (740000 ≤ at_ ∧ at_ < 743000) → exec (.frameTransmit ch p at_) s = .next s) ∧
    (743000 ≤ at_ → at_ ≤ 993000 → c.dynamicOpen = false ∨ at_ % 1000 ≠ 0 ∨ at_ < (c.guard.line p).busy →
      exec (.frameTransmit ch p at_) s = .next s) ∧
    (c.portOpen p = true → at_ = 743000 → c.dynamicOpen = true → (c.guard.line p).busy ≤ at_ →
      ∃ t, exec (.frameTransmit ch p at_) s = .next t ∧ s.OnlyAt t ch ∧
        (∃ q ∈ (t.ch ch).fab.sent, q.1 = p ∧ q.2.kind = 9 ∧ q.2.payload = wordsBytes (c.qm.creditWords p)) ∧
        (t.ch ch).fab.queue p = c.fab.queue p) ∧
    (∀ f, c.portOpen p = true → 743000 < at_ → at_ ≤ 993000 → at_ % 1000 = 0 → c.dynamicOpen = true →
      (c.guard.line p).busy ≤ at_ → pickFrame (c.fab.queue p) (c.inDynamic at_) (dynamicRank c.nodeKey) = some f →
      endsBy at_ 993 f = true → c.credited p f = true →
      ∃ t, exec (.frameTransmit ch p at_) s = .next t ∧ s.OnlyAt t ch ∧ (t.ch ch).fab.queue p = (c.fab.queue p).erase f ∧
        ((t.ch ch).guard.line p).busy = at_ + frameNs (stampDelay f at_) ∧
        (∃ q ∈ (t.ch ch).fab.sent, q.1 = p ∧ q.2.kind = f.kind ∧ q.2.payload = (stampDelay f at_).payload)) ∧
    (∀ f, 743000 < at_ → at_ ≤ 993000 →
      pickFrame (c.fab.queue p) (c.inDynamic at_) (dynamicRank c.nodeKey) = some f →
      endsBy at_ 993 f = false ∨ c.credited p f = false → exec (.frameTransmit ch p at_) s = .next s) ∧
    (∀ w f, c.portOpen p = true → 100000 ≤ at_ → at_ < 740000 → c.sync.compiled = true → c.windowAt p at_ = some w →
      c.sync.st = 4 → c.holdsClaim = true → c.mayStart p at_ w.start = true →
      pickFrame (c.fab.queue p) (fun g => windowTakes w g.origin g.cls) (fun g => g.cls * 128 + g.origin) = some f →
      (endsBy at_ (w.start + w.len - 3) f = false → exec (.frameTransmit ch p at_) s = .next (s.put ch (c.spend p w.start))) ∧
      (endsBy at_ (w.start + w.len - 3) f = true → c.credited p f = true →
        ∃ t, exec (.frameTransmit ch p at_) s = .next t ∧ s.OnlyAt t ch ∧ (t.ch ch).fab.queue p = (c.fab.queue p).erase f ∧
          (∃ q ∈ (t.ch ch).fab.sent, q.1 = p ∧ q.2.kind = f.kind ∧ q.2.payload = f.payload)) ∧
      (endsBy at_ (w.start + w.len - 3) f = true → c.credited p f = false → f.cls = 0 →
        exec (.frameTransmit ch p at_) s =
          .next (s.put ch { c.spend p w.start with qm := { c.qm with late := inc 16 c.qm.late } })) ∧
      (endsBy at_ (w.start + w.len - 3) f = true → c.credited p f = false → f.cls ≠ 0 →
        exec (.frameTransmit ch p at_) s = .next s)) ∧
    (∀ w, c.portOpen p = true → 100000 ≤ at_ → at_ < 740000 → c.sync.compiled = true → c.windowAt p at_ = some w →
      c.sync.st = 4 → c.holdsClaim = true → c.mayStart p at_ w.start = true → at_ = (w.start + 3) * 1000 →
      (c.fab.queue p).filter (fun g => windowTakes w g.origin g.cls) = [] → w.arbitrating = false → w.cls = 0 →
      c.idleUnreachable w = false →
      exec (.frameTransmit ch p at_) s =
        .next (s.put ch { c.spend p w.start with qm := { c.qm with underruns := c.qm.underruns + 1 } })) ∧
    (100000 ≤ at_ → at_ < 740000 → c.sync.compiled = true →
      c.windowAt p at_ = none ∨ c.sync.st ≠ 4 ∨ c.holdsClaim = false ∨ at_ < (c.guard.line p).busy →
      exec (.frameTransmit ch p at_) s = .next s) ∧
    (c.portOpen p = true → c.sync.compiled = false → c.sync.st = 4 → c.sync.basic % 2 = bitAt c.rankBit 0 →
      c.sync.basic % 8 < 2 → at_ < 740000 → (103 + 10 * c.node) * 1000 ≤ at_ → at_ < (107 + 10 * c.node) * 1000 →
      c.mayStart p at_ (100 + 10 * c.node) = true →
      c.credited p (c.ownFrame 3 3 none (wordsBytes (c.helloWords s.factory.serial))) = true →
      ∃ t, exec (.frameTransmit ch p at_) s = .next t ∧ s.OnlyAt t ch ∧
        (∃ q ∈ (t.ch ch).fab.sent, q.1 = p ∧ q.2.kind = 3 ∧ q.2.hop = 0 ∧ q.2.origin = c.nodeKey ∧
          q.2.payload = wordsBytes (c.helloWords s.factory.serial)))

/-- R239, R244, R245, R251, R256, R259, R260, R263, R279: what the frames of discovery leave behind, each heard on a port,
not this node's own come round, and relayed where its kind asks for it. -/
def Obligations.DiscoveryFramesAreHeard : Prop :=
  ∀ (s : State) (ch : Ch) (f : FrameRx), f.origin ≠ (s.ch ch).nodeKey →
    let c := (s.ch ch).heardFrame f
    let ws := frameWords f
    let h := helloOf ws
    let cyc := 1000000
    let there := (f.arrival + cyc - (wordAt ws 0).toNat % cyc) % cyc
    let stay := ((wordAt ws 2).toNat + cyc - (wordAt ws 1).toNat % cyc) % cyc
    ((s.ch ch).HearsFrame ch f 3 → h.key ≠ c.nodeKey →
      ∃ t, exec (.hello ch f) s = .next t ∧ s.OnlyAt t ch ∧
        (t.ch ch).frt.hellos.find? (fun g => g.key == h.key) = some h ∧
        ((t.ch ch).frt.changed = true ↔
          c.frt.changed = true ∨ c.frt.hellos.find? (fun g => g.key == h.key) ≠ some h) ∧
        (f.hop = 0 → (((t.ch ch).frt.port f.port).nbr.map Prod.fst) = some h.key) ∧
        (f.hop ≠ 0 → (t.ch ch).frt.port f.port = c.frt.port f.port)) ∧
    ((s.ch ch).HearsFrame ch f 3 → h.key = c.nodeKey → h.serial ≠ s.factory.serial →
      ∃ t, exec (.hello ch f) s = .next t ∧ s.OnlyAt t ch ∧ (t.ch ch).sync.st = 0 ∧ (t.ch ch).sync.dupLatched = true) ∧
    ((s.ch ch).HearsFrame ch f 3 → h.key = c.nodeKey → h.serial = s.factory.serial →
      exec (.hello ch f) s = .next (s.put ch c)) ∧
    ((s.ch ch).HearsFrame ch f 0x0B →
      ∃ t, exec (.ready ch f) s = .next t ∧ s.OnlyAt t ch ∧ bits (wordAt ws 0).toNat 6 0 ∈ (t.ch ch).frt.ready ∧
        (∀ k ∈ c.frt.ready, k ∈ (t.ch ch).frt.ready)) ∧
    ((s.ch ch).HearsFrame ch f 0x0C → exec (.topoFault ch f) s = .next (s.put ch (c.relay f))) ∧
    ((s.ch ch).HearsFrame ch f 0x0E →
      ∃ t, exec (.claimAck ch f) s = .next t ∧ s.OnlyAt t ch ∧ f.origin / 2 ∈ (t.ch ch).frt.acked) ∧
    (∀ sc, (s.ch ch).HearsFrame ch f 0x0E → c.sync.isOwl = true → c.sync.compiled = false → c.sync.switchAt = 0 →
      c.schedule = some sc → (∀ k ∈ sc.imageKeys, k ∈ c.frt.ready) →
      (∀ n ∈ sc.ioNodes, n ∈ c.frt.acked ∨ n = f.origin / 2) →
      ∃ t, exec (.claimAck ch f) s = .next t ∧ (t.ch ch).sync.switchAt = (c.sync.cluster + 2) % 2 ^ 32 ∧
        (t.ch ch).sync.nextSched = true) ∧
    ((s.ch ch).HearsFrame ch f 4 → wordAt ws 1 = 4 →
      ∃ t, exec (.timeStatus ch f) s = .next t ∧ s.OnlyAt t ch ∧ bits (wordAt ws 0).toNat 6 0 ∈ (t.ch ch).sync.announced) ∧
    ((s.ch ch).HearsFrame ch f 4 → wordAt ws 1 ≠ 4 → exec (.timeStatus ch f) s = .next (s.put ch (c.relay f))) ∧
    ((s.ch ch).HearsFrame ch f 5 →
      exec (.delayReq ch f) s =
        .next (s.put ch (c.sendFrame 3 6 (some (f.origin / 2)) (wordsBytes [wordAt ws 0, w32 f.arrival, 0]) [f.port]))) ∧
    ((s.ch ch).HearsFrame ch f 6 → c.addressed f = true →
      ∃ t, exec (.delayResp ch f) s = .next t ∧ s.OnlyAt t ch ∧
        (t.ch ch).sync.delay f.port = some (((there + cyc - stay) % cyc) / 2) ∧
        (t.ch ch).sync.delay f.port.other = c.sync.delay f.port.other) ∧
    ((s.ch ch).HearsFrame ch f 6 → c.addressed f = false → exec (.delayResp ch f) s = .next (s.put ch c)) ∧
    ((s.ch ch).HearsFrame ch f 7 →
      ∃ t, exec (.reintNotice ch f) s = .next t ∧ s.OnlyAt t ch ∧
        (t.ch ch).fab.notices = c.fab.notices ++ [bits (wordAt ws 0).toNat 6 0]) ∧
    ((s.ch ch).HearsFrame ch f 8 →
      ∃ t, exec (.identity ch f) s = .next t ∧ s.OnlyAt t ch ∧
        (serialOf ws 0, bits (wordAt ws 2).toNat 5 0) ∈ (t.ch ch).fab.identities) ∧
    ((s.ch ch).HearsFrame ch f 9 →
      ∃ t, exec (.credit ch f) s = .next t ∧ s.OnlyAt t ch ∧
        (∀ k, k < 28 → ∃ e, (t.ch ch).qm.credit f.port (k / 7) (k % 7) = some e ∧ e.known = true ∧
          e.cells = (wordAt ws k).toNat % 65536 - (e.log.map Prod.snd).sum ∧
          (∀ x ∈ e.log, (x.1 + 65536 - (wordAt ws k).toNat / 65536) % 65536 < 32768)))

/-- R260 to R263: with every HELLO unchanged for two cluster cycles, every node in SYNC and every link known from both ends,
discovery is complete: the digest is computed, and a node that holds an image sends READY, or TOPO_FAULT with the first
cause that holds. -/
def Obligations.DiscoveryEnds : Prop :=
  (∀ (s : State) (ch : Ch),
    (s.ch ch).laneOpen = true → (s.ch ch).frt.complete = false → 2 ≤ (s.ch ch).frt.stable →
    (s.ch ch).sync.st = 4 → (s.ch ch).frt.hellos.all (fun h => h.st == 4) = true → (s.ch ch).linksKnown = true →
    let c := s.ch ch
    (∃ t, exec (.discoveryComplete ch) s = .next t ∧ s.OnlyAt t ch ∧ (t.ch ch).frt.complete = true ∧
      (t.ch ch).frt.digest = c.topologyDigest) ∧
    (∀ d, c.boot.unprog = false → c.imageDigest = some d → c.beyond = true →
      ∃ t, exec (.discoveryComplete ch) s = .next t ∧ (t.ch ch).frt.fault = true ∧ (t.ch ch).frt.cause = 2) ∧
    (∀ d, c.boot.unprog = false → c.imageDigest = some d → c.beyond = false → c.oneLetter = true →
      ∃ t, exec (.discoveryComplete ch) s = .next t ∧ (t.ch ch).frt.fault = true ∧ (t.ch ch).frt.cause = 3) ∧
    (∀ d, c.boot.unprog = false → c.imageDigest = some d → c.beyond = false → c.oneLetter = false →
      c.sync.duplicated ≠ [] →
      ∃ t, exec (.discoveryComplete ch) s = .next t ∧ (t.ch ch).frt.fault = true ∧ (t.ch ch).frt.cause = 6) ∧
    (∀ d, c.boot.unprog = false → c.imageDigest = some d → c.beyond = false → c.oneLetter = false →
      c.sync.duplicated = [] → c.topologyDigest ≠ d →
      ∃ t, exec (.discoveryComplete ch) s = .next t ∧ (t.ch ch).frt.fault = true ∧ (t.ch ch).frt.cause = 1) ∧
    (∀ d, c.boot.unprog = false → c.imageDigest = some d → c.beyond = false → c.oneLetter = false →
      c.sync.duplicated = [] → c.topologyDigest = d →
      ∃ t, exec (.discoveryComplete ch) s = .next t ∧ c.nodeKey ∈ (t.ch ch).frt.ready ∧
        (t.ch ch).frt.cause = c.frt.cause ∧ (t.ch ch).frt.fault = c.frt.fault) ∧
    (c.boot.unprog = true ∨ c.imageDigest = none →
      exec (.discoveryComplete ch) s =
        .next (s.put ch { c with frt := { c.frt with complete := true, digest := c.topologyDigest } }))) ∧
  (∀ (s : State) (ch : Ch),
    (s.ch ch).laneOpen = false ∨ (s.ch ch).frt.complete = true ∨ (s.ch ch).frt.stable < 2 ∨ (s.ch ch).sync.st ≠ 4 ∨
      (s.ch ch).linksKnown = false → exec (.discoveryComplete ch) s = .next s)

/-! ### Claims, queues, vital messages -/

/-- R180, R256, R266, R267, R278, R298, R299, R303: an I/O node gathers the parts of a claim, takes a claim that verifies
and applies it once every channel in its vote holds the same; a heartbeat of the partner on the lane is noted, and a higher
claim demotes an active unit; a frame of class non-vital is kept. An uncorrectable error in a range's free list flushes its
queues and gives up its cells until the sweep has rebuilt it; counted and recorded. -/
def Obligations.LaneClaimsBeatsAndQueues : Prop :=
  (∀ (s : State) (ch : Ch) (f : FrameRx), (s.ch ch).HearsFrame ch f 0x0D → f.origin ≠ (s.ch ch).nodeKey →
    let c := ((s.ch ch).heardFrame f).relay f
    let w := (wordAt (frameWords f) 0).toNat
    let fab := c.fab.keepPart f.origin (bits w 15 0) (f.payload.drop 4)
    let d : Chan := { c with fab := { fab with claimParts := fab.claimParts.filter (fun e => e.1 != f.origin) } }
    let whole := fab.claimText f.origin (bits w 31 16)
    (c.addressed f = false → exec (.claim ch f) s = .next (s.put ch c)) ∧
    (c.addressed f = true → whole = none → exec (.claim ch f) s = .next (s.put ch { c with fab := fab })) ∧
    (∀ bytes, c.addressed f = true → whole = some bytes → Config.claimOf ch bytes = none →
      exec (.claim ch f) s = .next (s.put ch d)) ∧
    (∀ bytes k, c.addressed f = true → whole = some bytes → Config.claimOf ch bytes = some k →
      (c.boot.unprog = false ∨ c.split = true ∨ c.certOk k = false ∨ claimSigned k = false ∨ c.frt.complete = false ∨
          k.topology ≠ c.frt.digest ∨ (∃ h, c.fab.held = some h ∧ k.number.toNat < h.number.toNat) →
        exec (.claim ch f) s = .next (s.put ch d)) ∧
      (c.boot.unprog = true → c.split = false → c.certOk k = true → claimSigned k = true → c.frt.complete = true →
        k.topology = c.frt.digest → (∀ h, c.fab.held = some h → h.number.toNat ≤ k.number.toNat) →
        ∃ t, exec (.claim ch f) s = .next t ∧ s.OnlyAt t ch ∧ (t.ch ch).fab.held = some k ∧
          (t.ch ch).fab.digests.get ch = some (k.number, k.claimant, claimDigest k) ∧
          (∃ q ∈ (t.ch ch).xout, q.dst = ch.next ∧ q.msg = .claim k.number k.claimant (claimDigest k)) ∧
          (∃ q ∈ (t.ch ch).xout, q.dst = ch.prev ∧ q.msg = .claim k.number k.claimant (claimDigest k))) ∧
      (∀ x, c.boot.unprog = true → c.split = false → c.certOk k = true → claimSigned k = true → c.frt.complete = true →
        k.topology = c.frt.digest → (∀ h, c.fab.held = some h → h.number.toNat ≤ k.number.toNat) → c.votes x = true →
        x ≠ ch → (c.fab.digests.get x).map (fun e => e.2.2) ≠ some (claimDigest k) →
        ∃ t, exec (.claim ch f) s = .next t ∧ (t.ch ch).fab.claimed = c.fab.claimed ∧ (t.ch ch).fab.claim = c.fab.claim) ∧
      (c.boot.unprog = true → c.split = false → c.certOk k = true → claimSigned k = true → c.frt.complete = true →
        k.topology = c.frt.digest → (∀ h, c.fab.held = some h → h.number.toNat ≤ k.number.toNat) → c.votes ch = true →
        (∀ x, c.votes x = true → x = ch ∨ (c.fab.digests.get x).map (fun e => e.2.2) = some (claimDigest k)) →
        c.fab.claimed = false ∨ c.fab.claim ≠ k.number →
        ∃ t, exec (.claim ch f) s = .next t ∧ (t.ch ch).fab.claimed = true ∧ (t.ch ch).fab.claim = k.number ∧
          (t.ch ch).fab.claimant = k.claimant))) ∧
  (∀ (s : State) (ch frm : Ch) (l : Link) (number : Word) (claimant : Nat) (digest : BitVec 256),
    ch ≠ frm → (s.ch ch).live = true → (s.ch ch).TakesFrom frm l (.claim number claimant digest) →
    let c := (s.ch ch).readFrom frm l
    let d : Chan := { c with fab := { c.fab with digests := c.fab.digests.set frm (some (number, claimant, digest)) } }
    (d.fab.held = none → exec (.claimTransfer ch frm l number claimant digest) s = .next (s.put ch d)) ∧
    (∀ k x, d.fab.held = some k → d.votes x = true → x ≠ ch →
      (d.fab.digests.get x).map (fun e => e.2.2) ≠ some (claimDigest k) →
      exec (.claimTransfer ch frm l number claimant digest) s = .next (s.put ch d)) ∧
    (∀ k, d.fab.held = some k → d.votes ch = true → d.fab.claimed = false →
      (∀ x, d.votes x = true → x = ch ∨ (d.fab.digests.get x).map (fun e => e.2.2) = some (claimDigest k)) →
      ∃ t, exec (.claimTransfer ch frm l number claimant digest) s = .next t ∧ s.OnlyAt t ch ∧
        (t.ch ch).fab.claimed = true ∧ (t.ch ch).fab.claim = k.number ∧ (t.ch ch).fab.claimant = k.claimant)) ∧
  (∀ (s : State) (ch : Ch) (f : FrameRx), (s.ch ch).HearsFrame ch f 0x0F → f.origin ≠ (s.ch ch).nodeKey →
    let b := beatOf (frameWords f)
    let c := ((s.ch ch).heardFrame f).relay f
    let d : Chan := { c with fab := c.fab.noteClaim b.node (beatKey b) b.claim }
    (d.beats = false ∨ (d.beats = true ∧ b.node ≠ d.node) ∨
        (d.beats = true ∧ d.fromPartner b = true ∧ (d.part.pairing = true ∨ d.part.seqOk .lane b = false)) →
      exec (.heartbeatFrame ch f) s = .next (s.put ch d)) ∧
    (d.beats = true → b.node = d.node → b.rankBit = d.rankBit →
      ∃ t, exec (.heartbeatFrame ch f) s = .next t ∧ s.OnlyAt t ch ∧ (t.ch ch).part.pairing = true) ∧
    (d.beats = true → d.fromPartner b = true → d.part.pairing = false → d.part.seqOk .lane b = true →
      ∃ t, exec (.heartbeatFrame ch f) s = .next t ∧ s.OnlyAt t ch ∧ (t.ch ch).part.seqLane = some b.hbSeq ∧
        (t.ch ch).part.runLane = 0 ∧ (t.ch ch).part.seen = true ∧ (t.ch ch).part.partnerRole = b.role ∧
        (t.ch ch).part.partnerClaim = higherClaim c.part.partnerClaim b.claim) ∧
    (d.beats = true → d.fromPartner b = true → d.part.pairing = false → d.part.seqOk .lane b = true →
      c.part.role = 1 → c.part.claim.toNat < b.claim.toNat →
      ∃ t, exec (.heartbeatFrame ch f) s = .next t ∧ (t.ch ch).part.role = 2 ∧ (t.ch ch).part.claim = 0 ∧
        (t.ch ch).dout.high = 0 ∧ (t.ch ch).dout.lowSide = 0) ∧
    (d.beats = true → d.fromPartner b = true → d.part.pairing = false → d.part.seqOk .lane b = true →
      c.part.role ≠ 1 ∨ b.claim.toNat ≤ c.part.claim.toNat →
      ∃ t, exec (.heartbeatFrame ch f) s = .next t ∧ (t.ch ch).part.role = c.part.role ∧
        (t.ch ch).part.claim = c.part.claim ∧ (t.ch ch).dout = c.dout)) ∧
  (∀ (s : State) (ch : Ch) (f : FrameRx), (s.ch ch).HearsFrame ch f 0x20 → f.origin ≠ (s.ch ch).nodeKey →
    let c := ((s.ch ch).heardFrame f).relay f
    (c.addressed f = true →
      exec (.nonvital ch f) s =
        .next (s.put ch { c with fab := { c.fab with nonvital := c.fab.nonvital ++ [(f.origin, f.payload)] } })) ∧
    (c.addressed f = false → exec (.nonvital ch f) s = .next (s.put ch c))) ∧
  (∀ (s : State) (ch : Ch) (cls : Nat) (range : Option (Port × Nat)) (r : Range),
      (s.ch ch).live = true → (s.ch ch).qm.range cls range = some r →
      let c := s.ch ch
      (∃ t, exec (.queueLinkError ch cls range) s = .next t ∧ s.OnlyAt t ch ∧
        (∀ p, ∀ f ∈ (t.ch ch).fab.queue p, c.inRange p cls range f = false) ∧
        (∀ e ∈ (t.ch ch).qm.ranges, e.cls = cls → e.level = range → e.rebuilding = true ∧ e.free = 0) ∧
        (t.ch ch).qm.eccUe = inc 8 c.qm.eccUe) ∧
      (r.rebuilding = true →
        exec (.queueRangeRebuild ch cls range) s =
          .next (s.put ch (({ c with
            qm := { c.qm with
              rebuilds := inc 8 c.qm.rebuilds
              ranges := c.qm.ranges.map (fun (e : Range) =>
                if e.cls == cls && e.level == range then { e with rebuilding := false, free := c.rangeSize cls range }
                else e) } } : Chan).emit .rangeRebuild cls []))) ∧
      (r.rebuilding = false → exec (.queueRangeRebuild ch cls range) s = .next s))

/-- R98, R261, R270, R271, R281 to R285, R298: a vital frame for this unit is checked, CODE before DST and SRC; a failure is
counted and nothing else; a later message of its connection is kept, an event message queued for the remote vote set, an
earlier or equal one dropped. -/
def Obligations.MessagesAreChecked : Prop :=
  ∀ (s : State) (ch : Ch) (f : FrameRx), f.origin ≠ (s.ch ch).nodeKey →
    let c := ((s.ch ch).heardFrame f).relay f
    let forUs := c.split = false ∧ c.addressed f = true ∧ c.holdsClaim = true ∧ c.fromHolder f = true
    let m := vmsgOf f.payload
    let codeErr : Chan := { c with fab := { c.fab with codeErr := inc 16 c.fab.codeErr } }
    let rxErr : Chan := { c with fab := { c.fab with rxErr := inc 16 c.fab.rxErr } }
    ((s.ch ch).HearsFrame ch f 0x10 →
      let es := (c.inboundOf false).filter (fun e => codeOk ch e.2 m)
      let mine := es.find? (fun e => e.2.dst == m.dst && e.2.src == m.src)
      (¬ forUs → exec (.vitalData ch f) s = .next (s.put ch c)) ∧
      (forUs → es = [] → exec (.vitalData ch f) s = .next (s.put ch codeErr)) ∧
      (forUs → es ≠ [] → mine = none → exec (.vitalData ch f) s = .next (s.put ch rxErr)) ∧
      (∀ k d, forUs → mine = some (k, d) →
        (c.fab.rxOf k).seq = none ∨ (∃ n, (c.fab.rxOf k).seq = some n ∧ n < m.seq) →
        exec (.vitalData ch f) s =
          .next (s.put ch { c with
            fab := { c.fab with rx := tabPut c.fab.rx k { seq := some m.seq, ts := m.ts, data := m.data } } })) ∧
      (∀ k d n, forUs → mine = some (k, d) → (c.fab.rxOf k).seq = some n → m.seq ≤ n →
        exec (.vitalData ch f) s = .next (s.put ch c))) ∧
    (∀ i kind ek,
      (i, kind, ek) ∈
        [(Instr.reserve ch f, 0x11, EventKind.reserve), (Instr.grant ch f, 0x12, EventKind.grant),
          (Instr.refuse ch f, 0x13, EventKind.refuse), (Instr.unreserve ch f, 0x14, EventKind.unreserve),
          (Instr.releaseAll ch f, 0x15, EventKind.releaseAll), (Instr.report ch f, 0x16, EventKind.other)] →
      (s.ch ch).HearsFrame ch f kind →
      let es := (c.inboundOf true).filter (fun e => codeOk ch e.2 m)
      let mine := es.find? (fun e => e.2.dst == m.dst && e.2.src == m.src)
      (¬ forUs → exec i s = .next (s.put ch c)) ∧
      (forUs → es = [] → exec i s = .next (s.put ch codeErr)) ∧
      (forUs → es ≠ [] → mine = none → exec i s = .next (s.put ch rxErr)) ∧
      (∀ k d, forUs → mine = some (k, d) →
        (c.fab.rxOf k).seq = none ∨ (∃ n, (c.fab.rxOf k).seq = some n ∧ n < m.seq) →
        ∃ t, exec i s = .next t ∧ s.OnlyAt t ch ∧
          (t.ch ch).fab.rx = tabPut c.fab.rx k { seq := some m.seq, ts := m.ts, data := m.data } ∧
          (t.ch ch).fab.events = c.fab.events ++ [{ conn := k, seq := m.seq, kind := ek, data := m.data }] ∧
          (t.ch ch).fab.rxErr =
            (if ((c.fab.rxOf k).seq.map (fun n => decide (n + 1 < m.seq))) = some true then inc 16 c.fab.rxErr
             else c.fab.rxErr)) ∧
      (∀ k d n, forUs → mine = some (k, d) → (c.fab.rxOf k).seq = some n → m.seq ≤ n → exec i s = .next (s.put ch c)))

/-! ### The partner module -/

/-- R36, R299, R302 to R304, R310, R311, R315: heartbeats are sent and checked on both paths, misses counted; the channels
of a unit consolidate what they see of the partner, and a lost active is taken over under a new epoch, a lost standby is no
longer fed, a higher claim demotes. -/
def Obligations.PartnerIsWatched : Prop :=
  (∀ (s : State) (ch : Ch) (loop : Bool), (s.ch ch).live = true →
    let c := s.ch ch
    let here := c.beats = true ∧ (c.released = false ∨ c.part.instant * c.hbPeriodUs < c.periodUs 1)
    (here →
      ∃ t, exec (.heartbeatInstant ch loop) s = .next t ∧ s.OnlyAt t ch ∧ (t.ch ch).part.instant = c.part.instant + 1 ∧
        (t.ch ch).part.hbSeq = c.part.hbSeq + 1 ∧ (t.ch ch).part.role = c.part.role ∧ (t.ch ch).part.loop = loop ∧
        (∃ k, (t.ch ch).din.partSets.get ch = some k ∧ k.ch = ch ∧ k.offset = c.part.instant * c.hbPeriodUs ∧
          k.lost = c.lost ∧ k.higher = c.higher ∧
          (∃ q ∈ (t.ch ch).xout, q.dst = ch.next ∧ q.msg = .vote (.partner k)) ∧
          (∃ q ∈ (t.ch ch).xout, q.dst = ch.prev ∧ q.msg = .vote (.partner k)))) ∧
    (here → c.boot.phase = 6 ∨ c.votes ch = true →
      ∃ t, exec (.heartbeatInstant ch loop) s = .next t ∧
        ∃ q ∈ (t.ch ch).pout, ∃ b, q.2 = .heartbeat b ∧ b.hbSeq = c.part.hbSeq ∧ b.role = c.part.role ∧
          b.claim = c.part.claim) ∧
    (∀ n, here → c.part.role = 2 → n ∈ c.part.refused → n ∉ c.part.asked →
      ∃ t, exec (.heartbeatInstant ch loop) s = .next t ∧ n ∈ (t.ch ch).part.asked ∧
        ∃ q ∈ (t.ch ch).pout, q.2 = .req 2 n) ∧
    (¬ here → exec (.heartbeatInstant ch loop) s = .next (s.put ch { c with part := { c.part with loop := loop } })) ∧
    (c.beats = false → ∀ p, exec (.heartbeatMiss ch p) s = .next s) ∧
    (c.beats = true →
      ∃ t, exec (.heartbeatMiss ch .x3) s = .next t ∧ s.OnlyAt t ch ∧
        (t.ch ch).part.runX3 = min 15 (c.part.runX3 + 1) ∧ (t.ch ch).part.missX3 = inc 8 c.part.missX3 ∧
        (t.ch ch).part.runLane = c.part.runLane ∧
        (t.ch ch).part.seqX3 = (if c.hbCount ≤ min 15 (c.part.runX3 + 1) then none else c.part.seqX3)) ∧
    (c.beats = true →
      ∃ t, exec (.heartbeatMiss ch .lane) s = .next t ∧ s.OnlyAt t ch ∧
        (t.ch ch).part.runLane = min 15 (c.part.runLane + 1) ∧ (t.ch ch).part.missLane = inc 8 c.part.missLane ∧
        (t.ch ch).part.runX3 = c.part.runX3 ∧
        (t.ch ch).part.seqLane = (if c.hbCount ≤ min 15 (c.part.runLane + 1) then none else c.part.seqLane))) ∧
  (∀ (s : State) (ch : Ch) (l : PLink) (b : Beat), (s.ch ch).live = true → (s.ch ch).TakesPartner l (.heartbeat b) →
    let d := (s.ch ch).readPartner l
    (d.supply.powerFail = true → exec (.heartbeat ch l b) s = .next (s.put ch d)) ∧
    (d.supply.powerFail = false → d.fromPartner b = false →
      ∃ t, exec (.heartbeat ch l b) s = .next t ∧ s.OnlyAt t ch ∧ (t.ch ch).part.pairing = true) ∧
    (d.fromPartner b = true → d.part.pairing = true ∨ d.part.seqOk .x3 b = false →
      exec (.heartbeat ch l b) s = .next (s.put ch d)) ∧
    (d.supply.powerFail = false → d.fromPartner b = true → d.part.pairing = false → d.part.seqOk .x3 b = true →
      (∃ t, exec (.heartbeat ch l b) s = .next t ∧ s.OnlyAt t ch ∧ (t.ch ch).part.seqX3 = some b.hbSeq ∧
        (t.ch ch).part.runX3 = 0 ∧ (t.ch ch).part.seen = true ∧ (t.ch ch).part.partnerRole = b.role ∧
        (t.ch ch).part.partnerClaim = higherClaim d.part.partnerClaim b.claim) ∧
      (d.part.role = 1 → d.part.claim.toNat < b.claim.toNat →
        ∃ t, exec (.heartbeat ch l b) s = .next t ∧ (t.ch ch).part.role = 2 ∧ (t.ch ch).part.claim = 0 ∧
          (t.ch ch).dout.high = 0 ∧ (t.ch ch).dout.lowSide = 0) ∧
      (d.part.role ≠ 1 ∨ b.claim.toNat ≤ d.part.claim.toNat →
        ∃ t, exec (.heartbeat ch l b) s = .next t ∧ (t.ch ch).part.role = d.part.role ∧ (t.ch ch).part.claim = d.part.claim) ∧
      (d.switchedAway b = true →
        ∃ t, exec (.heartbeat ch l b) s = .next t ∧ (t.ch ch).part.sync = 0 ∧ (t.ch ch).part.cause = 7))) ∧
  (∀ (s : State) (ch : Ch) (own : PartnerSet),
    (s.ch ch).live = true → (s.ch ch).running = true → (s.ch ch).statusOnly = false → (s.ch ch).beats = true →
    (s.ch ch).din.partSets.get ch = some own →
    let c := s.ch ch
    let sets := c.countedPartner ch
    let lost := (takeValue (sets.map (fun k => k.lost)) false).1
    let higher := (takeValue (sets.map (fun k => k.higher)) Config.higherUnmatched).1
    let ready := (takeValue (sets.map (fun k => k.swReady)) false).1
    (c.part.role = 2 → lost = true → c.din.mainCycle ≠ c.mainCycle ∨ c.din.offset ≠ own.offset ∨ c.released = false →
      ∃ t, exec (.partnerAgreement ch) s = .next t ∧ s.OnlyAt t ch ∧ (t.ch ch).part.role = 1 ∧
        (t.ch ch).nv.eSeen = (c.nv.eSeen + 1) % 65536 ∧
        (t.ch ch).part.claim = w32 ((c.nv.eSeen + 1) % 65536 % 65536 * 65536 + c.rank) ∧ (t.ch ch).part.sync = 0 ∧
        (t.ch ch).part.backlog = [] ∧ (t.ch ch).nv.takeoverCnt = inc 8 c.nv.takeoverCnt) ∧
    (c.part.role = 2 → lost = true → ∃ t, exec (.partnerAgreement ch) s = .next t) ∧
    (c.part.role = 2 → lost = false →
      exec (.partnerAgreement ch) s =
        .next (s.put ch { c with part := { c.part with lostCons := false, swReady := ready } })) ∧
    (c.part.role = 1 → higher = true →
      ∃ t, exec (.partnerAgreement ch) s = .next t ∧ s.OnlyAt t ch ∧ (t.ch ch).part.role = 2 ∧ (t.ch ch).part.claim = 0 ∧
        (t.ch ch).dout.high = 0 ∧ (t.ch ch).dout.lowSide = 0) ∧
    (c.part.role = 1 → higher = false → lost = true → c.part.lostCons = false →
      ∃ t, exec (.partnerAgreement ch) s = .next t ∧ s.OnlyAt t ch ∧ (t.ch ch).part.role = 1 ∧
        (t.ch ch).part.feeding = false ∧ (t.ch ch).part.seen = false ∧ (t.ch ch).part.lostCons = true ∧
        (t.ch ch).pwait = []) ∧
    (c.part.role = 1 → higher = false → lost = false →
      exec (.partnerAgreement ch) s = .next (s.put ch { c with part := { c.part with lostCons := false } }))) ∧
  (∀ (s : State) (ch : Ch),
    (s.ch ch).live = false ∨ (s.ch ch).running = false ∨ (s.ch ch).beats = false ∨ (s.ch ch).din.partSets.get ch = none →
    exec (.partnerAgreement ch) s = .next s)

/-- R203, R298, R309, R310, R314, R316: a standby takes the active's runs into its backlog, verifies them against RUN_END
and discards its state where a digest differs or a run is missing; a twin's stage follows the commands of the unit with the
higher claim, the active's outputs the standby's lockouts; a switchover's cycle is kept. -/
def Obligations.StandbyFollows : Prop :=
  ∀ (s : State) (ch : Ch) (l : PLink), (s.ch ch).live = true →
    let c := (s.ch ch).readPartner l
    (∀ r : RunInput, (s.ch ch).TakesPartner l (.runIn r) →
      let d : Chan := { c with mainCycle := max c.mainCycle r.mainCycle, part := c.part.addRun r }
      (c.part.role ≠ 2 → exec (.runIn ch l r) s = .next (s.put ch c)) ∧
      (c.takesRuns = true → c.follows = false → exec (.runIn ch l r) s = .next (s.put ch d)) ∧
      (c.takesRuns = true → c.follows = true → c.backlogFull r.mainCycle = false →
        c.tasks.any (fun k => k.running) = true ∨ c.part.refused ≠ [] → exec (.runIn ch l r) s = .next (s.put ch d)) ∧
      (c.takesRuns = true → c.follows = true → c.part.backlog = [] → c.part.refused = [] →
        c.tasks.any (fun k => k.running) = false → r.commands = [] → r.task < 8 → c.tasks.length = 8 → r.task ≠ 1 →
        ∃ t, exec (.runIn ch l r) s = .next t ∧ s.OnlyAt t ch ∧ ((t.ch ch).task r.task).running = true ∧
          ((t.ch ch).task r.task).runMain = r.mainCycle ∧ ((t.ch ch).task r.task).runCycle = r.taskCycle ∧
          ((t.ch ch).task r.task).imageReady = true ∧ ((t.ch ch).task r.task).inImg = runImage r) ∧
      (c.takesRuns = true → c.follows = true → c.backlogFull r.mainCycle = true →
        ∃ t, exec (.runIn ch l r) s = .next t ∧ s.OnlyAt t ch ∧ (t.ch ch).part.sync = 0 ∧ (t.ch ch).part.cause = 6)) ∧
    (∀ task cycle digest, (s.ch ch).TakesPartner l (.runEnd task cycle digest) →
      let p := c.part.runEnded task cycle digest
      (c.takesRuns = true → c.follows = false →
        exec (.runEnd ch l task cycle digest) s =
          .next (s.put ch { c with part := { p with runsSince := p.runsSince + 1 } })) ∧
      (c.takesRuns = true → c.follows = true → p.backlog.any Replay.differs = true →
        ∃ t, exec (.runEnd ch l task cycle digest) s = .next t ∧ s.OnlyAt t ch ∧ (t.ch ch).part.sync = 0 ∧
          (t.ch ch).part.cause = 4 ∧ (t.ch ch).nv.syncLossCnt = inc 8 c.nv.syncLossCnt) ∧
      (c.takesRuns = true → c.follows = true → p.backlog.any Replay.differs = false →
        ∃ t, exec (.runEnd ch l task cycle digest) s = .next t ∧ s.OnlyAt t ch ∧ (t.ch ch).part.sync = 2 ∧
          (t.ch ch).part.backlog = p.backlog.filter (fun r => !r.isVerified) ∧
          (∀ r ∈ p.backlog, r.isVerified = true → r.run.task = 1 → r.run.mainCycle ≤ (t.ch ch).part.applied)) ∧
      (c.running = true → c.part.role = 1 → c.part.outstanding task cycle = true →
        ∃ t, exec (.runEnd ch l task cycle digest) s = .next t ∧ s.OnlyAt t ch ∧ (t.ch ch).part.role = 1 ∧
          (t.ch ch).part.backlog = p.backlog.filter (fun r => !r.isVerified && !r.differs)) ∧
      (c.takesRuns = false → c.part.outstanding task cycle = false →
        exec (.runEnd ch l task cycle digest) s = .next (s.put ch c))) ∧
    (∀ task cycle mask outs lockouts, (s.ch ch).TakesPartner l (.cmd task cycle mask outs lockouts) →
      let acts := c.running = true ∧ c.statusOnly = false ∧ c.twin = true ∧ c.votes ch = true ∧ c.supply.powerFail = false
      (acts → c.takesRuns = true → c.higher = true →
        ∃ t, exec (.cmd ch l task cycle mask outs lockouts) s = .next t ∧ s.OnlyAt t ch ∧
          (t.ch ch).dout.twinCmd = ((c.dout.twinCmd &&& ~~~mask) ||| (outs &&& mask)) ∧ (t.ch ch).dout.twinLock = lockouts ∧
          (∀ n, n < 32 → lockouts.getLsbD n = true → mask.getLsbD n = true ∨ c.dout.on.getLsbD n = true →
            (t.ch ch).dout.high.getLsbD n = false) ∧
          (∀ n, n < 32 → lockouts.getLsbD n = false → mask.getLsbD n = false → c.heldOff n = false →
            (t.ch ch).dout.high.getLsbD n = c.dout.high.getLsbD n) ∧
          (∀ n, n < 32 → lockouts.getLsbD n = false → mask.getLsbD n = true → c.nv.outCause n = 0 →
            c.dout.sag.getLsbD (groupOf n) = false → c.dout.needFresh.lookup n = none → c.unclaimed = false →
            (t.ch ch).dout.high.getLsbD n = (outs.getLsbD n && !c.dout.sagLatch.getLsbD (groupOf n)))) ∧
      (acts → c.part.role = 1 →
        ∃ t, exec (.cmd ch l task cycle mask outs lockouts) s = .next t ∧ s.OnlyAt t ch ∧
          (t.ch ch).dout.twinLock = lockouts ∧ (t.ch ch).dout.cmd = c.dout.cmd ∧
          (∀ n, n < 32 → lockouts.getLsbD n = true → c.dout.on.getLsbD n = true → (t.ch ch).dout.high.getLsbD n = false)) ∧
      (¬ acts ∨ (c.part.role = 2 ∧ c.higher = false) →
        exec (.cmd ch l task cycle mask outs lockouts) s = .next (s.put ch c))) ∧
    (∀ cycle runs, (s.ch ch).TakesPartner l (.deltaEnd cycle runs) →
      let d : Chan := { c with part := { c.part with runsSince := 0 } }
      (c.takesRuns = true → c.part.refused = [] → c.part.runsSince = runs → c.twin = false ∨ c.votes ch = false →
        exec (.deltaEnd ch l cycle runs) s = .next (s.put ch d)) ∧
      (c.takesRuns = true → c.part.refused = [] → c.part.runsSince = runs → c.twin = true → c.votes ch = true →
        exec (.deltaEnd ch l cycle runs) s = .next (s.put ch (d.pput (.cmd 1 cycle 0 0 c.lockMask)))) ∧
      (c.takesRuns = true → c.part.refused ≠ [] ∨ c.part.runsSince ≠ runs → c.follows = true ∨ c.transferring = true →
        ∃ t, exec (.deltaEnd ch l cycle runs) s = .next t ∧ s.OnlyAt t ch ∧ (t.ch ch).part.sync = 0 ∧
          (t.ch ch).part.cause = 5) ∧
      (c.takesRuns = false → exec (.deltaEnd ch l cycle runs) s = .next (s.put ch c))) ∧
    (∀ cycle, (s.ch ch).TakesPartner l (.switchAt cycle) →
      (c.running = true → c.follows = true →
        exec (.switchTransfer ch l cycle) s =
          .next (s.put ch { c with part := { c.part with switchAt := cycle, swReady := false } })) ∧
      (c.running = false ∨ c.follows = false → exec (.switchTransfer ch l cycle) s = .next (s.put ch c)))

/-- R300, R304 to R308, R317: a standby without state asks for it; the active sends its pages; a page is held if its CRC
checks; COMMIT brings the state only where the digest agrees and every page is held, and two channels of the vote must hold
that digest; whatever fails abandons the transfer with its cause. -/
def Obligations.StateIsTransferred : Prop :=
  (∀ (s : State) (ch : Ch), (s.ch ch).live = true →
    let c := s.ch ch
    let delay := bits (c.act 0x1807) 15 8 * 1000000
    let limit := bits (c.act 0x1807) 30 24 * 1000000
    (∀ b, c.part.beat = some b → c.running = true → c.statusOnly = false → c.votes ch = true → c.part.role = 2 →
      c.part.sync = 0 → (c.act 0x1807).testBit 31 = true ∨ c.part.commanded = true → b.role = 1 →
      c.past c.part.since delay = true →
      (c.sameImage b = true →
        ∃ t, exec (.xferRequest ch) s = .next t ∧ s.OnlyAt t ch ∧ (t.ch ch).part.sync = 1 ∧ (t.ch ch).part.phase = 1 ∧
          (t.ch ch).part.pagesLeft = c.pagesInUse.length ∧ (t.ch ch).pout = c.pout ++ [(c.part.txSeq, .req 1 0)]) ∧
      (c.sameImage b = false →
        exec (.xferRequest ch) s = .next (s.put ch { c with part := { c.part with cause := 7 } }))) ∧
    (c.part.beat = none ∨ c.running = false ∨ c.part.role ≠ 2 ∨ c.part.sync ≠ 0 ∨ c.past c.part.since delay = false →
      exec (.xferRequest ch) s = .next s) ∧
    (c.running = true → c.transferring = true → c.past c.part.since limit = true →
      ∃ t, exec (.xferTimeout ch) s = .next t ∧ s.OnlyAt t ch ∧ (t.ch ch).part.phase = 0 ∧ (t.ch ch).part.cause = 8 ∧
        (t.ch ch).nv.abandonCnt = inc 8 c.nv.abandonCnt) ∧
    (c.running = false ∨ c.transferring = false ∨ c.past c.part.since limit = false → exec (.xferTimeout ch) s = .next s) ∧
    (∀ cycle pages d, c.receiving = true → c.part.phase = 3 → c.part.commit = some (cycle, pages, d) →
      (c.part.commitOwn = d → 2 ≤ ((c.countedPartner ch).filter (fun k => k.commit == d)).length →
        c.part.nextRun = none ∨ c.part.refused ≠ [] ∨ c.tasks.any (fun k => k.running) = true →
        ∃ t, exec (.xferVerify ch) s = .next t ∧ s.OnlyAt t ch ∧ (t.ch ch).part.sync = 2 ∧ (t.ch ch).part.phase = 4 ∧
          (t.ch ch).part.pages = []) ∧
      (c.part.commitOwn ≠ d ∨ ((c.countedPartner ch).filter (fun k => k.commit == d)).length < 2 →
        exec (.xferVerify ch) s = .next s))) ∧
  (∀ (s : State) (ch : Ch) (l : PLink), (s.ch ch).live = true →
    let c := (s.ch ch).readPartner l
    (∀ n, (s.ch ch).TakesPartner l (.req 1 n) → c.running = true → c.part.role = 1 → c.votes ch = true →
      (c.exchAllows = true → c.engineStopped 3 = false →
        ∃ t, exec (.req ch l 1 n) s = .next t ∧ s.OnlyAt t ch ∧ (t.ch ch).part.phase = 1 ∧ (t.ch ch).part.role = 1 ∧
          (∀ p ∈ c.pagesInUse, .xfer p (pageCrc (c.pageWords p)) (c.pageWords p) ∈ (t.ch ch).pwait)) ∧
      (c.exchAllows = true → c.engineStopped 3 = true →
        ∃ t, exec (.req ch l 1 n) s = .next t ∧ s.OnlyAt t ch ∧ (t.ch ch).part.phase = 1 ∧
          (t.ch ch).part.sending = some (sortNat c.pagesInUse)) ∧
      (c.exchAllows = false → exec (.req ch l 1 n) s = .next (s.put ch (c.pput (.req 3 0))))) ∧
    (∀ n, (s.ch ch).TakesPartner l (.req 2 n) → c.running = true → c.part.role = 1 → c.votes ch = true →
      (∀ e, c.keptTransfers.find? (fun q => q.1 == n) = some e →
        exec (.req ch l 2 n) s = .next (s.put ch { c with pout := c.pout ++ [e] })) ∧
      (c.keptTransfers.find? (fun q => q.1 == n) = none → exec (.req ch l 2 n) s = .next (s.put ch c))) ∧
    (∀ n, (s.ch ch).TakesPartner l (.req 3 n) → c.running = true → c.transferring = true →
      ∃ t, exec (.req ch l 3 n) s = .next t ∧ s.OnlyAt t ch ∧ (t.ch ch).part.phase = 0 ∧ (t.ch ch).part.cause = 11) ∧
    (∀ code n, (s.ch ch).TakesPartner l (.req code n) →
      c.running = false ∨ (code = 1 ∧ c.part.role ≠ 1) ∨ (code = 3 ∧ c.transferring = false) →
      exec (.req ch l code n) s = .next (s.put ch c)) ∧
    (∀ page crc data, (s.ch ch).TakesPartner l (.xfer page crc data) →
      (c.receiving = true → pageCrc data = crc →
        ∃ t, exec (.xfer ch l page crc data) s = .next t ∧ s.OnlyAt t ch ∧
          (t.ch ch).part.pages = tabPut c.part.pages page (crc, data) ∧ (t.ch ch).part.pagesLeft = (t.ch ch).xferMissing) ∧
      (c.receiving = true → pageCrc data ≠ crc →
        exec (.xfer ch l page crc data) s =
          .next (s.put ch { c with part := { c.part with refused := (c.part.refused ++ [l.link.seq]).eraseDups } })) ∧
      (c.receiving = false → exec (.xfer ch l page crc data) s = .next (s.put ch c))) ∧
    (∀ x, (s.ch ch).TakesPartner l (.xstate x) →
      (c.receiving = true →
        exec (.xstate ch l x) s = .next (s.put ch { c with part := { c.part with xstate := some x, phase := 2 } })) ∧
      (c.receiving = false → exec (.xstate ch l x) s = .next (s.put ch c))) ∧
    (∀ cycle pages digest, (s.ch ch).TakesPartner l (.commit cycle pages digest) →
      (c.receiving = false → exec (.commit ch l cycle pages digest) s = .next (s.put ch c)) ∧
      (c.receiving = true → c.part.xstate = none →
        ∃ t, exec (.commit ch l cycle pages digest) s = .next t ∧ s.OnlyAt t ch ∧ (t.ch ch).part.cause = 5 ∧
          (t.ch ch).part.sync = 0) ∧
      (∀ x, c.receiving = true → c.part.xstate = some x → c.xferMissing = 0 → pages = c.pagesInUse.length →
        c.ownCommit x = digest →
        ∃ t, exec (.commit ch l cycle pages digest) s = .next t ∧ s.OnlyAt t ch ∧ (t.ch ch).part.phase = 3 ∧
          (t.ch ch).part.commit = some (cycle, pages, digest) ∧ (t.ch ch).part.commitOwn = digest ∧
          (t.ch ch).res.estate = x.estate ∧ (t.ch ch).res.rstate = x.rstate ∧ (t.ch ch).part.applied = cycle) ∧
      (∀ x, c.receiving = true → c.part.xstate = some x →
        c.xferMissing ≠ 0 ∨ pages ≠ c.pagesInUse.length ∨ c.ownCommit x ≠ digest →
        ∃ t, exec (.commit ch l cycle pages digest) s = .next t ∧ s.OnlyAt t ch ∧ (t.ch ch).part.cause = 9 ∧
          (t.ch ch).part.sync = 0)))

/-! ### Memory, arbiter, self-test -/

/-- R78, R82, R319, R321, R324, R327, R335: a descriptor whose pieces all pass completes, and its engine is free; one piece
moves or fills its whole destination and nothing else; what a piece meets stops the engine with its cause and restart point;
behind a stopped engine descriptors wait, and a stopped engine resumes. -/
def Obligations.DmaMovesWhatItIsTold : Prop :=
  (∀ (s : State) (ch : Ch) (e : Nat) (d : Descriptor),
    (s.ch ch).live = true → e < 4 → descOk d = true → (s.ch ch).mem.dma.length = 4 → ((s.ch ch).engine e).stopped = false →
    let c := s.ch ch
    let v := s.factory.variant
    let way := Chan.carryFrom ch v e d (c.pieceFuel d) 0 c
    (way.2 = none →
      ∃ t, exec (.dmaDescriptor ch e d) s = .next t ∧ s.OnlyAt t ch ∧ ((t.ch ch).engine e).stopped = false ∧
        ((t.ch ch).engine e).desc = none ∧ ((t.ch ch).engine e).queue = (c.engine e).queue ∧
        (∀ k, k ≠ e → (t.ch ch).engine k = c.engine k)) ∧
    (∀ p, c.pieceAt ch v d 0 = .ok p → p.len = d.len → (d.fill = false → c.lostIn ch v p = none) →
      inTileStore p.dst = false ∨ e = 0 →
      ∃ t, exec (.dmaDescriptor ch e d) s = .next t ∧
        (∀ k, k < d.len →
          (t.ch ch).byteAt ch v (c.homeOf p.dst + k) = (if d.fill then 0 else c.byteAt ch v (c.homeOf p.src + k)) ∧
          (t.ch ch).mem.diff (c.homeOf p.dst + k) = 0) ∧
        (∀ a, a < c.homeOf p.dst ∨ c.homeOf p.dst + d.len ≤ a →
          (t.ch ch).byteAt ch v a = c.byteAt ch v a ∧ (t.ch ch).mem.diff a = c.mem.diff a)) ∧
    (∀ k h, way.2 = some (k, h) → h.poisoned = false → h.cause ≠ 2 →
      ∃ t, exec (.dmaDescriptor ch e d) s = .next t ∧ s.OnlyAt t ch ∧ ((t.ch ch).engine e).stopped = true ∧
        ((t.ch ch).engine e).cause = h.cause ∧ ((t.ch ch).engine e).desc = some d ∧
        ((t.ch ch).engine e).offset = restartOffset (some d) k) ∧
    (∀ k h, way.2 = some (k, h) → h.cause = 2 →
      ∃ t, exec (.dmaDescriptor ch e d) s = .next t ∧ (t.ch ch).mem.trap = true)) ∧
  (∀ (s : State) (ch : Ch) (e : Nat) (d : Descriptor), (s.ch ch).live = true →
    let c := s.ch ch
    (4 ≤ e ∨ descOk d = false → exec (.dmaDescriptor ch e d) s = .next s) ∧
    (e < 4 → descOk d = true → c.mem.dma.length = 4 → (c.engine e).stopped = true →
      ∃ t, exec (.dmaDescriptor ch e d) s = .next t ∧ s.OnlyAt t ch ∧ (t.ch ch).engine e =
        { c.engine e with queue := (c.engine e).queue ++ [d] }) ∧
    (4 ≤ e ∨ (c.engine e).stopped = false → exec (.dmaStop ch e) s = .next s) ∧
    (e < 4 → c.mem.dma.length = 4 → (c.engine e).stopped = true → (c.engine e).queue = [] → (c.engine e).desc = none →
      ∃ t, exec (.dmaStop ch e) s = .next t ∧ s.OnlyAt t ch ∧ ((t.ch ch).engine e).stopped = false) ∧
    (∀ r, e < 4 → c.mem.dma.length = 4 → (c.engine e).stopped = true → (c.engine e).queue = [] →
      (c.engine e).desc = some r →
      let c' : Chan := { c with
        mem := { c.mem with dma := modAt c.mem.dma e (fun q => { (default : Dma) with space := q.space, queue := q.queue }) } }
      (Chan.carryFrom ch s.factory.variant e r (c'.pieceFuel r) (c.engine e).offset c').2 = none →
      ∃ t, exec (.dmaStop ch e) s = .next t ∧ s.OnlyAt t ch ∧ ((t.ch ch).engine e).stopped = false ∧
        ((t.ch ch).engine e).desc = none))

/-- R319, R320, R324, R325, R327, R328: an access that the page tables do not let through, or that cannot be carried out, is
kept, its reader aborts or stops; a poisoned table entry or a trap makes a running channel withdraw, a trap before P7 stops
start-up. -/
def Obligations.FailedAccessesAct : Prop :=
  ∀ (s : State) (ch : Ch), (s.ch ch).live = true → (s.ch ch).mem.dma.length = 4 →
    let c := s.ch ch
    let v := s.factory.variant
    (∀ r space va acc, c.translates = false ∨ 8 < space ∨ readsTranslated r = false →
      exec (.translationFault ch r space va acc) s = .next s) ∧
    (∀ r space va acc a, c.walk ch v space va (isEngine r) acc = .ok a →
      exec (.translationFault ch r space va acc) s = .next s) ∧
    (∀ space va acc h, c.translates = true → space ≤ 8 → c.walk ch v space va false acc = .error h → h.cause ≠ 2 →
      h.poisoned = false →
      ∃ t, exec (.translationFault ch .core space va acc) s = .next t ∧ s.OnlyAt t ch ∧ (t.ch ch).mem.coreAbort = true) ∧
    (∀ e space va acc h, e < 4 → c.translates = true → space ≤ 8 → c.walk ch v space va true acc = .error h →
      h.cause ≠ 2 → h.poisoned = false →
      ∃ t, exec (.translationFault ch (.dma e) space va acc) s = .next t ∧ s.OnlyAt t ch ∧
        ((t.ch ch).engine e).stopped = true ∧ ((t.ch ch).engine e).cause = h.cause) ∧
    (∀ r space va acc h, c.translates = true → space ≤ 8 → readsTranslated r = true →
      c.walk ch v space va (isEngine r) acc = .error h → h.cause ≠ 2 → h.poisoned = true → c.running = true →
      c.votes ch = true →
      ∃ t, exec (.translationFault ch r space va acc) s = .next t ∧ (t.ch ch).votes ch = false ∧
        (t.ch ch).dout.high = 0) ∧
    (∀ space va acc root page, c.entryAt ch v (rootTable space + 4 * (va % 2 ^ 32 / 2 ^ 22)) = .ok root →
      pteValid root = true → c.entryAt ch v (4096 * ppn root + 4 * (va % 2 ^ 32 / 2 ^ 12 % 1024)) = .ok page →
      pteValid page = true → c.translates = true → space ≤ 8 →
      (pteAllows page acc = true → exec (.translationFault ch .core space va acc) s = .next s) ∧
      (pteAllows page acc = false →
        ∃ t, exec (.translationFault ch .core space va acc) s = .next t ∧ s.OnlyAt t ch ∧ (t.ch ch).mem.coreAbort = true) ∧
      (∀ e, e < 4 → pteIo page = false →
        ∃ t, exec (.translationFault ch (.dma e) space va acc) s = .next t ∧ s.OnlyAt t ch ∧
          ((t.ch ch).engine e).stopped = true ∧ ((t.ch ch).engine e).cause = 1)) ∧
    (∀ r a, inDram v a = true → c.mem.marked v a = false →
      ∃ t, exec (.initTrap ch r a) s = .next t ∧ (t.ch ch).mem.trap = true) ∧
    (∀ r a, inDram v a = true → c.mem.marked v a = false → c.boot.phase = 7 → c.running = true → c.votes ch = true →
      ∃ t, exec (.initTrap ch r a) s = .next t ∧ (t.ch ch).votes ch = false ∧ (t.ch ch).dout.high = 0) ∧
    (∀ r a, inDram v a = true → c.mem.marked v a = false → 2 ≤ c.boot.phase → c.boot.phase ≠ 7 →
      ∃ t, exec (.initTrap ch r a) s = .next t ∧ s.OnlyAt t ch ∧ (t.ch ch).boot.stopped = true ∧
        (t.ch ch).boot.phase = c.boot.phase) ∧
    (∀ r a, inDram v a = false ∨ c.mem.marked v a = true → exec (.initTrap ch r a) s = .next s) ∧
    (∀ r a lane, listed v a = true → readsLane r lane = true →
      ∃ t, exec (.memoryReadError ch r a lane) s = .next t ∧ s.OnlyAt t ch ∧
        (t.ch ch).mem.errAddr = a / 4 * 4 ∧ (t.ch ch).mem.errLane = lane % 4 ∧ (t.ch ch).mem.errMaster = masterIndex r ∧
        laneBad ((t.ch ch).kindAt ch v (c.nv.home (a / 4 * 4 + lane % 4))) = true ∧
        (t.ch ch).mem.ueSram = (if inSram (a / 4 * 4 + lane % 4) then inc 16 c.mem.ueSram else c.mem.ueSram) ∧
        (t.ch ch).mem.ueDram = (if inSram (a / 4 * 4 + lane % 4) then c.mem.ueDram else inc 16 c.mem.ueDram) ∧
        (r = .core → (t.ch ch).mem.coreAbort = true) ∧
        (∀ e, r = .dma e → e < 4 → ((t.ch ch).engine e).stopped = true ∧ ((t.ch ch).engine e).cause = 3) ∧
        (r = .queueManager → (t.ch ch).qm.eccUe = inc 8 c.qm.eccUe) ∧
        (∀ tile g, r = .resolver tile → c.resolverTile tile = some g → ∃ k, (t.ch ch).tiles.mark tile = .failed k)) ∧
    (∀ r a lane, listed v a = false ∨ readsLane r lane = false → exec (.memoryReadError ch r a lane) s = .next s)

/-- R324, R330 to R334, R375: the scrubber writes a correctable lane back and poisons an uncorrectable one, for firmware to
act on; a page is moved to a spare page and listed; a channel whose bank is retired withdraws; log entries expire. -/
def Obligations.MemoryIsRepaired : Prop :=
  (∀ (s : State) (ch : Ch), (s.ch ch).live = true → (s.ch ch).boot.phase ≠ 0 →
    let c := s.ch ch
    let v := s.factory.variant
    let a := c.mem.posSram
    (inSram a = true → a % 4 = 0 →
      ∃ t, exec (.scrubWord ch false) s = .next t ∧ s.OnlyAt t ch ∧
        (t.ch ch).mem.posSram = (if inSram (a + 4) then a + 4 else 0x10000000) ∧
        (∀ k, k < 4 →
          (c.kindAt ch v (a + k) = .sound →
            (t.ch ch).byteAt ch v (a + k) = c.byteAt ch v (a + k) ∧ (t.ch ch).mem.diff (a + k) = c.mem.diff (a + k)) ∧
          (c.kindAt ch v (a + k) = .corrected →
            (t.ch ch).byteAt ch v (a + k) = c.byteAt ch v (a + k) ∧ (t.ch ch).mem.diff (a + k) = 0) ∧
          (laneBad (c.kindAt ch v (a + k)) = true →
            (t.ch ch).kindAt ch v (a + k) = .poisoned ∧ (a, k) ∈ (t.ch ch).mem.ueDue)) ∧
        (∀ b, b < a ∨ a + 4 ≤ b →
          (t.ch ch).byteAt ch v b = c.byteAt ch v b ∧ (t.ch ch).mem.diff b = c.mem.diff b)) ∧
    (∃ t, exec (.scrubWord ch true) s = .next t ∧ s.OnlyAt t ch ∧ (t.ch ch).mem.posSram = c.mem.posSram) ∧
    (∀ b wrapped, nextDram c v scrubFuel c.mem.posDram false = some (b, wrapped) → b % 4 = 0 →
      ∃ t, exec (.scrubWord ch true) s = .next t ∧
        (∀ k, k < 4 → laneBad (c.kindAt ch v (c.nv.home (b + k))) = true →
          (t.ch ch).kindAt ch v (c.nv.home (b + k)) = .poisoned ∧ (b, k) ∈ (t.ch ch).mem.ueDue))) ∧
  (∀ (s : State) (ch : Ch) (dram : Bool), (s.ch ch).boot.phase = 0 → exec (.scrubWord ch dram) s = .next s) ∧
  (∀ (s : State) (ch : Ch) (addr lane : Nat), (s.ch ch).live = true →
    let c := s.ch ch
    let due := (addr / 4 * 4, lane)
    let act := c.ueAct ch s.factory.variant (c.nv.home (addr / 4 * 4 + lane))
    (c.mem.ueDue.contains due = true → act.2 = false →
      ∃ t, exec (.scrubUeAction ch addr lane) s = .next t ∧ s.OnlyAt t ch ∧ due ∈ (t.ch ch).mem.rewritten) ∧
    (c.mem.ueDue.contains due = true → act.2 = true → c.running = true → c.votes ch = true →
      ∃ t, exec (.scrubUeAction ch addr lane) s = .next t ∧ (t.ch ch).votes ch = false ∧ (t.ch ch).dout.high = 0) ∧
    (c.mem.ueDue.contains due = false → exec (.scrubUeAction ch addr lane) s = .next s)) ∧
  (∀ (s : State) (ch : Ch) (page cause : Nat), (s.ch ch).live = true →
    let c := s.ch ch
    let v := s.factory.variant
    let here := 0x40000000 + 4096 * page
    let due := inDram v here = true ∧ c.nv.retiredPages.contains page = false ∧
      ((cause = 1 ∧ c.repeats page = true) ∨ (cause = 2 ∧ c.mem.hardPages.contains page = true))
    (∀ spare, due → c.nv.freeSpare = some spare → c.nv.retiredPages.length < 512 →
      c.rangeBad ch v (c.nv.home here) 4096 = false →
      ∃ t, exec (.pageRetire ch page cause) s = .next t ∧ s.OnlyAt t ch ∧
        (t.ch ch).nv.retired = c.nv.retired ++ [{ valid := true, cause := cause, spare := spare, page := page }] ∧
        (∀ k, k < 4096 → (t.ch ch).nv.home (0x40900000 + 4096 * spare + k) = c.nv.home (here + k)) ∧
        (t.ch ch).mem.data = c.mem.data ∧
        (∀ e ∈ (t.ch ch).nv.corrections, 0x40000000 ≤ e.addr → pageOf e.addr ≠ page)) ∧
    (∀ spare, due → c.nv.freeSpare = some spare → c.nv.retiredPages.length < 512 →
      c.rangeBad ch v (c.nv.home here) 4096 = true → exec (.pageRetire ch page cause) s = .next s) ∧
    (due → c.nv.freeSpare = none ∨ 512 ≤ c.nv.retiredPages.length → c.nv.spareExh = false →
      exec (.pageRetire ch page cause) s =
        .next (s.put ch (({ c with nv := { c.nv with spareExh := true } } : Chan).emit .spareExhausted page []))) ∧
    (¬ due → exec (.pageRetire ch page cause) s = .next s)) ∧
  (∀ (s : State) (ch : Ch) (bank : Nat), (s.ch ch).live = true →
    let c := s.ch ch
    let v := s.factory.variant
    let due := bankInUse v bank = true ∧ c.bankDue bank = true ∧ c.mem.bankFault = false
    (due → c.running = true → c.votes ch = true →
      ∃ t, exec (.bankRetire ch bank) s = .next t ∧ (t.ch ch).votes ch = false ∧ (t.ch ch).dout.high = 0) ∧
    (∀ p, due → c.nv.freeBank v = some p →
      ∃ t, exec (.bankRetire ch bank) s = .next t ∧ (t.ch ch).nv.bankMap = c.nv.bankMap.set bank p) ∧
    (due → c.nv.freeBank v = none → ∃ t, exec (.bankRetire ch bank) s = .next t ∧ (t.ch ch).mem.bankFault = true) ∧
    (¬ due → exec (.bankRetire ch bank) s = .next s)) ∧
  (∀ (s : State) (ch : Ch) (addr lane : Nat), (s.ch ch).live = true →
    ∃ t, exec (.correctionLogExpiry ch addr lane) s = .next t ∧ s.OnlyAt t ch ∧
      (∀ e, e ∈ (t.ch ch).nv.corrections ↔ e ∈ (s.ch ch).nv.corrections ∧
        ¬ (e.addr = addr ∧ e.lane = lane ∧
          (86400000000 < ((s.ch ch).mainCycle - e.mainCycle) * (s.ch ch).periodUs 1 ∨ e.start ≠ (s.ch ch).nv.start))))

/-- R78, R325, R327, R329, R341: an armed mask inverts check bits of the one write it matches; a write that is blocked,
trapped, or atomic on a lane it cannot read, writes nothing; the host arms the mask for the test page alone. -/
def Obligations.FlipsAreWritten : Prop :=
  (∀ (s : State) (ch : Ch) (w : Writer) (addr : Nat) (lanes : BitVec 4) (data : Word), (s.ch ch).live = true →
    let c := s.ch ch
    let m := c.mem
    let v := s.factory.variant
    let at_ := fun k => c.nv.home (addr / 4 * 4 + k)
    let taken := m.flipMatches v w addr = true ∧ lanes ≠ 0 ∧ (inTileStore addr = false ∨ mayWriteTiles w = true)
    (taken → m.marked v addr = true → c.atomicLost ch v w addr lanes = none →
      ∃ t, exec (.flipApply ch w addr lanes data) s = .next t ∧ s.OnlyAt t ch ∧ (t.ch ch).mem.arm = false ∧
        (t.ch ch).mem.done = true ∧
        (∀ k, k < 4 → lanes.getLsbD k = true →
          (t.ch ch).byteAt ch v (at_ k) = (data >>> (8 * k)).setWidth 8 ∧
            (t.ch ch).mem.diff (at_ k) = (m.mask >>> (5 * k)).setWidth 5) ∧
        (∀ b, (∀ k, k < 4 → lanes.getLsbD k = true → b ≠ at_ k) →
          (t.ch ch).byteAt ch v b = c.byteAt ch v b ∧ (t.ch ch).mem.diff b = m.diff b)) ∧
    (∀ a, taken → m.marked v addr = true → c.atomicLost ch v w addr lanes = some a →
      ∃ t, exec (.flipApply ch w addr lanes data) s = .next t ∧ s.OnlyAt t ch ∧ (t.ch ch).mem.coreAbort = true ∧
        (t.ch ch).mem.arm = m.arm ∧ (t.ch ch).mem.data = m.data ∧ (t.ch ch).mem.check = m.check) ∧
    (taken → m.marked v addr = false →
      ∃ t, exec (.flipApply ch w addr lanes data) s = .next t ∧ (t.ch ch).mem.trap = true ∧ (t.ch ch).mem.arm = m.arm ∧
        (t.ch ch).mem.data = m.data) ∧
    (m.flipMatches v w addr = false ∨ lanes = 0 → exec (.flipApply ch w addr lanes data) s = .next s) ∧
    (m.flipMatches v w addr = true → lanes ≠ 0 → inTileStore addr = true → mayWriteTiles w = false →
      exec (.flipApply ch w addr lanes data) s = .next (s.put ch (c.emit .memProtection addr [])))) ∧
  (∀ (s : State) (ch : Ch) (value : Word) (host : Bool), (s.ch ch).live = true →
    let c := s.ch ch
    (c.immediateOk 0x0406 value host = true →
      exec (.memFlipWrite ch value host) s =
        .next (s.put ch { c with
          mem :=
            { c.mem with
              arm := value.getLsbD 31, done := false, range := value.getLsbD 29, mask := value.setWidth 20 } })) ∧
    (c.immediateOk 0x0406 value host = false → exec (.memFlipWrite ch value host) s = .next s) ∧
    (host = true → value.getLsbD 29 = true → exec (.memFlipWrite ch value host) s = .next s)) ∧
  (∀ (s : State) (ch : Ch) (w : Writer) (addr : Nat), (s.ch ch).live = true →
    (inTileStore addr = true → mayWriteTiles w = false →
      exec (.memoryProtectionFault ch w addr) s = .next (s.put ch ((s.ch ch).emit .memProtection addr []))) ∧
    (inTileStore addr = false ∨ mayWriteTiles w = true → exec (.memoryProtectionFault ch w addr) s = .next s))

/-- R337: a decision takes the next slot-table entry in circular order; its owner is granted if it waits, else the waiting
requester of highest effective priority, ties to the one that has waited longer and then to the lower index; every other
waiting requester gains BOOST up to the ceiling, and the granted one's returns to 0. -/
def Obligations.ArbiterGrants : Prop :=
  ∀ (s : State) (ch : Ch) (waiting : BitVec 8), (s.ch ch).live = true →
    let a := (s.ch ch).arb
    let owner := a.slot.getD a.entry 0
    ∃ t, exec (.arbiterDecision ch waiting) s = .next t ∧ s.OnlyAt t ch ∧
      (t.ch ch).arb.entry = (a.entry + 1) % 64 ∧ (t.ch ch).arb.slot = a.slot ∧ (t.ch ch).arb.prio = a.prio ∧
      (waiting.getLsbD owner = true → (t.ch ch).arb.holder = some owner) ∧
      (waiting.getLsbD owner = false → ∀ r, (t.ch ch).arb.holder = some r →
        waiting.getLsbD r = true ∧
        ∀ q, waiting.getLsbD q = true → q ≠ r →
          a.effective q < a.effective r ∨
            (a.effective q = a.effective r ∧
              (a.waited.getD q 0 < a.waited.getD r 0 ∨ (a.waited.getD q 0 = a.waited.getD r 0 ∧ r < q)))) ∧
      (waiting ≠ 0 → (t.ch ch).arb.holder ≠ none) ∧ (waiting = 0 → (t.ch ch).arb.holder = none) ∧
      (∀ r, r < 8 →
        ((t.ch ch).arb.holder = some r → (t.ch ch).arb.boost.getD r 0 = 0) ∧
        ((t.ch ch).arb.holder ≠ some r → waiting.getLsbD r = true → a.effective r < a.ceiling →
          (t.ch ch).arb.boost.getD r 0 = a.boost.getD r 0 + 1) ∧
        ((t.ch ch).arb.holder ≠ some r → waiting.getLsbD r = false ∨ a.ceiling ≤ a.effective r →
          (t.ch ch).arb.boost.getD r 0 = a.boost.getD r 0))

/-- R338: a write of ARB.PRIO or ARB.SLOT counts at the next decision for requesters that wait already, each with the BOOST
it has; it ends no grant, not even that of a holder whose priority it lowers. -/
def Obligations.ArbiterWritesCountNext : Prop :=
  ∀ (s : State) (ch : Ch) (n : Nat) (w : Word), (s.ch ch).live = true → 0x0600 ≤ n → n ≤ 0x060F →
    (s.ch ch).immediateOk n w false = true → (s.ch ch).arb.slot.length = 64 → (s.ch ch).arb.prio.length = 8 →
    let a := (s.ch ch).arb
    ∃ t, exec (.arbParamWrite ch n w) s = .next t ∧ s.OnlyAt t ch ∧
      (t.ch ch).arb.holder = a.holder ∧ (t.ch ch).arb.boost = a.boost ∧ (t.ch ch).arb.waited = a.waited ∧
      (t.ch ch).arb.entry = a.entry ∧ (t.ch ch).arb.ceiling = a.ceiling ∧
      (∀ k, k < 8 → (t.ch ch).arb.prio.getD k 0 = (if n = 0x0608 + k then w.toNat % 16 else a.prio.getD k 0)) ∧
      (∀ k, k < 64 → (t.ch ch).arb.slot.getD k 0 =
        (if n = 0x0600 + k / 8 then bits w.toNat (4 * (k % 8) + 2) (4 * (k % 8)) else a.slot.getD k 0)) ∧
      (∀ k, k < 8 → (t.ch ch).arb.effective k = min ((t.ch ch).arb.prio.getD k 0 + a.boost.getD k 0) a.ceiling) ∧
      ∀ waiting, ∃ u, exec (.arbiterDecision ch waiting) t = .next u ∧
        (waiting.getLsbD ((t.ch ch).arb.slot.getD a.entry 0) = true →
          (u.ch ch).arb.holder = some ((t.ch ch).arb.slot.getD a.entry 0)) ∧
        (waiting.getLsbD ((t.ch ch).arb.slot.getD a.entry 0) = false → ∀ r q, (u.ch ch).arb.holder = some r →
          waiting.getLsbD q = true → (t.ch ch).arb.effective q ≤ (t.ch ch).arb.effective r)

/-- R339, R340, R343: a grant at HOLD_MAX is cut and its requester marked; CUT bits clear as they are written 1; the limits
are written whole; a word that no parameter admits, and a slot table that leaves a requester without an entry, change
nothing. -/
def Obligations.ArbiterLimitsGrants : Prop :=
  ∀ (s : State) (ch : Ch), (s.ch ch).live = true →
    let c := s.ch ch
    (∀ r, c.arb.holder = some r →
      exec (.arbiterHoldCut ch) s =
        .next (s.put ch { c with
          arb := { c.arb with holder := none, cut := putBit c.arb.cut r true, cutCnt := inc 16 c.arb.cutCnt } })) ∧
    (c.arb.holder = none → exec (.arbiterHoldCut ch) s = .next s) ∧
    (∀ bits : BitVec 8,
      exec (.arbCutClear ch bits) s = .next (s.put ch { c with arb := { c.arb with cut := c.arb.cut &&& ~~~bits } })) ∧
    (∀ w, c.immediateOk 0x0610 w false = true →
      exec (.arbParamWrite ch 0x0610 w) s =
        .next (s.put ch { c with arb := { c.arb with holdMax := bits w.toNat 13 8, ceiling := w.toNat % 32 } })) ∧
    (∀ n w, c.immediateOk n w false = false → exec (.arbParamWrite ch n w) s = .next s) ∧
    (∀ n w r, 0x0600 ≤ n → n ≤ 0x0607 → r < 8 → (c.arb.withSlot (n - 0x0600) w).contains r = false →
      exec (.arbParamWrite ch n w) s = .next s)

/-- R344 to R354: a slice whose turn it is runs in an idle time of 1 ms: it is counted, a signature that differs fails its
block and is recorded; one that runs too long, or whose block vital work demands, is abandoned and repeated; rounds begin
when none runs and the hours between them have passed, and a round of 24 h is late. -/
def Obligations.SelfTestTakesItsTurns : Prop :=
  ∀ (s : State) (ch : Ch), (s.ch ch).live = true →
    let c := s.ch ch
    (∀ block slice idle results hot, 1000 ≤ idle → c.runsSlice ch block slice = true → block < 18 →
      (∃ t, exec (.bistSlice ch block slice idle results hot) s = .next t ∧
        (t.ch ch).bist.sliceCnt = inc 16 c.bist.sliceCnt ∧ (t.ch ch).bist.block = block ∧
        (t.ch ch).bist.turn = some (c.mainCycle, c.slicesRun + 1)) ∧
      (crc32c (wordsBytes results) ≠ Config.bistSignature c.boot.fwDigest block slice →
        ∃ t, exec (.bistSlice ch block slice idle results hot) s = .next t ∧ (t.ch ch).bist.fail.getLsbD block = true ∧
          (t.ch ch).bist.lastFail = w32 (slice % 512 + block % 32 * 2 ^ 9 + c.mainCycle % 65536 * 2 ^ 16)) ∧
      (crc32c (wordsBytes results) = Config.bistSignature c.boot.fwDigest block slice →
        ∃ t, exec (.bistSlice ch block slice idle results hot) s = .next t ∧ (t.ch ch).bist.fail = c.bist.fail) ∧
      (block ≠ 16 → ∃ t, exec (.bistSlice ch block slice idle results hot) s = .next t ∧ s.OnlyAt t ch) ∧
      (c.isForward block slice = false → c.bist.inRound = true → c.bist.done + 1 = c.roundSlices →
        ∃ t, exec (.bistSlice ch block slice idle results hot) s = .next t ∧ (t.ch ch).bist.inRound = false ∧
          (t.ch ch).bist.rounds = inc 16 c.bist.rounds) ∧
      (block = 16 →
        ∃ t, exec (.bistSlice ch block slice idle results hot) s = .next t ∧
          ∀ x, (s.ch x).live = true → x ≠ ch → ∃ w, t.ch x = { s.ch x with
            dout := { (s.ch x).dout with switchAll := w } })) ∧
    (∀ block slice idle results hot, idle < 1000 ∨ c.runsSlice ch block slice = false →
      exec (.bistSlice ch block slice idle results hot) s = .next s) ∧
    (∀ i block slice, i = Instr.bistSliceTimeout ch block slice ∨ i = Instr.bistSliceAbandon ch block slice →
      (c.runsSlice ch block slice = true →
        ∃ t, exec i s = .next t ∧ s.OnlyAt t ch ∧ (t.ch ch).bist.abandonCnt = inc 16 c.bist.abandonCnt ∧
          (t.ch ch).bist.sliceCnt = c.bist.sliceCnt ∧ (t.ch ch).bist.done = c.bist.done ∧
          (c.isForward block slice = false → (c.mainCycle, block, slice) ∈ (t.ch ch).bist.again)) ∧
      (c.runsSlice ch block slice = false → exec i s = .next s)) ∧
    (c.running = true → c.supply.powerFail = false → c.bist.inRound = false →
      c.bist.rounds = 0 ∨ c.past c.bist.roundStart (bits (c.stat 0x1D00) 12 8 * 3600000000) = true →
      exec (.bistRoundStart ch) s =
        .next (s.put ch { c with
          bist := { c.bist with inRound := true, done := 0, again := [], roundStart := c.clock } })) ∧
    (c.roundDue = false → exec (.bistRoundStart ch) s = .next s) ∧
    (c.bist.inRound = true → c.bist.late = false → c.past c.bist.roundStart 86400000000 = true →
      exec (.bistRoundLate ch) s =
        .next (s.put ch (({ c with bist := { c.bist with late := true } } : Chan).emit .bistLate 0 []))) ∧
    (c.bist.inRound = false ∨ c.bist.late = true ∨ c.past c.bist.roundStart 86400000000 = false →
      exec (.bistRoundLate ch) s = .next s)

/-! ### Host packets -/

/-- R380 to R384, R396, R398, R399, Table 15-2: a host packet that a channel does not hear leaves no trace; one that fails
its CRC or a discard check is counted; one that fails any later check is answered with the status of that check, a duplicate
with the reply it had; in each case nothing but the host port's own part of the channel changes. -/
def Obligations.PacketsAreChecked : Prop :=
  ∀ e ∈ hostRows, ∀ (p : Pkt) (s : State) (x : Ch),
    let c := s.ch x
    let sess := e.1 ≠ 1 ∧ e.1 ≠ 2 ∧ e.1 ≠ 3
    ∃ t, exec (e.2 p) s = .next t ∧
      (s.hears x p = false → t.ch x = c ∧ t.repliesOf x = s.repliesOf x) ∧
      (s.hears x p = true →
        (crcFails e.1 p x = true ∨ discarded p x = true ∨ (c.admission s.sealActed e.1 p).isSome = true →
          (t.ch x).host.rxCnt = inc 16 c.host.rxCnt) ∧
        (crcFails e.1 p x = true →
          c.HostOnly (t.ch x) ∧ (t.ch x).host.crcCnt = inc 8 c.host.crcCnt ∧ t.repliesOf x = s.repliesOf x) ∧
        (crcFails e.1 p x = false → discarded p x = true →
          c.HostOnly (t.ch x) ∧ (t.ch x).host.discardCnt = inc 8 c.host.discardCnt ∧ t.repliesOf x = s.repliesOf x) ∧
        (crcFails e.1 p x = false → discarded p x = false →
          (∀ st, c.admission s.sealActed e.1 p = some st →
            c.HostOnly (t.ch x) ∧ s.Answered t x (p.replyOf x e.1 st (detailed st 0))) ∧
          (c.admission s.sealActed e.1 p = none →
            (p.version ≠ 1 → c.HostOnly (t.ch x) ∧ s.Answered t x (p.replyOf x e.1 0x20 (detailed 0x20 0))) ∧
            (p.version = 1 → sess → c.boundSession p = none →
              c.HostOnly (t.ch x) ∧ s.Answered t x (p.replyOf x e.1 0x30 (detailed 0x30 0))) ∧
            (p.version = 1 → sess → ∀ u, c.boundSession p = some u →
              (u.isNew p.seq = false →
                c.HostOnly (t.ch x) ∧
                (∀ h r, u.heard.find? (fun h => h.crc == packetCrc e.1 p) = some h → h.reply = some r → r.ch = x →
                  s.Answered t x r) ∧
                (∀ h, u.heard.find? (fun h => h.crc == packetCrc e.1 p) = some h → h.reply = none →
                  t.repliesOf x = s.repliesOf x) ∧
                (u.heard.find? (fun h => h.crc == packetCrc e.1 p) = none →
                  s.Answered t x (p.replyOf x e.1 0x32 (detailed 0x32 0)))) ∧
              (u.isNew p.seq = true → 4 ≤ u.waiting →
                c.HostOnly (t.ch x) ∧ s.Answered t x (p.replyOf x e.1 0x41 (detailed 0x41 0)))) ∧
            (p.version = 1 → (¬ sess ∨ ∃ u, c.boundSession p = some u ∧ u.Takes p) →
              (c.isVital e.1 p.params = true → p.chmask ≠ 7 →
                c.HostOnly (t.ch x) ∧ s.Answered t x (p.replyOf x e.1 0x24 (detailed 0x24 0))) ∧
              (c.isVital e.1 p.params = false ∨ p.chmask = 7 → sizeFits e.1 p.params = false →
                c.HostOnly (t.ch x) ∧ s.Answered t x (p.replyOf x e.1 badLength (detailed badLength 0)))))))

/-- R180, R384, R385: a vital command that is accepted and whose parameters stand is listed for the agreement of the
channels, answered by none yet; one whose parameters do not stand is answered at once. In SPLIT mode a verification or an
abort of an exchange is carried out or refused at once. -/
def Obligations.VitalCommandsAreListed : Prop :=
  (∀ e ∈ criticalRows ++ requestRows ++ partnerRows ++ splitRows ++ [(0x0102, Instr.writeParam)],
    ∀ (p : Pkt) (s : State) (x : Ch), s.Accepts x e.1 p → (s.ch x).isVital e.1 p.params = true →
    let c := (s.ch x).afterIntake e.1 p
    ((s.ch x).paramFault e.1 p.params = none →
      ∃ t, exec (e.2 p) s = .next t ∧ t.ch x = c.listVital e.1 p ∧ t.repliesOf x = s.repliesOf x) ∧
    (∀ st d, (s.ch x).paramFault e.1 p.params = some (st, d) →
      ∃ t, exec (e.2 p) s = .next t ∧ (s.ch x).HostOnly (t.ch x) ∧ (t.ch x).host.listed = c.host.listed ∧
        s.Answered t x (p.replyOf x e.1 st (detailed st d)))) ∧
  (∀ (p : Pkt) (s : State) (x : Ch), (s.ch x).split = true →
    (s.Accepts x 0x0303 p →
      let r := ((s.ch x).afterIntake 0x0303 p).exchVerify x s.factory.variant
      (∀ d, r = some d → ∃ t, exec (.exchVerify p) s = .next t ∧ d.HostOnly (t.ch x) ∧
        s.Answered t x (p.replyOf x 0x0303 0 (bytesOfNat 4 d.blocks.result))) ∧
      (r = none → ∃ t, exec (.exchVerify p) s = .next t ∧ (s.ch x).HostOnly (t.ch x) ∧
        s.Answered t x (p.replyOf x 0x0303 refusedCode (detailed refusedCode 0)))) ∧
    (s.Accepts x 0x0304 p →
      let r := ((s.ch x).afterIntake 0x0304 p).exchAbort
      (∀ d, r = some d → ∃ t, exec (.exchAbort p) s = .next t ∧ d.HostOnly (t.ch x) ∧
        s.Answered t x (p.replyOf x 0x0304 0 [])) ∧
      (r = none → ∃ t, exec (.exchAbort p) s = .next t ∧ (s.ch x).HostOnly (t.ch x) ∧
        s.Answered t x (p.replyOf x 0x0304 refusedCode (detailed refusedCode 0)))) ∧
    (s.Accepts x 0x0701 p → (s.ch x).paramFault 0x0701 p.params = none →
      ∃ t, exec (.calWrite p) s = .next t ∧ (((s.ch x).afterIntake 0x0701 p).calWrite x p.params).HostOnly (t.ch x) ∧
        s.Answered t x (p.replyOf x 0x0701 0 [])))

/-- R381, R392, R396, R397, R420, R433: sessions open at the lowest free ID and close with all they hold; status, identity
and NOP are answered; an opcode that no table lists is answered BAD_OPCODE; a prepare older than 30 s is discarded; a
WRITE_PARAM without a vital parameter takes its entries at once. -/
def Obligations.SessionsOpenAndClose : Prop :=
  (∀ (p : Pkt) (s : State) (x : Ch),
    let c := s.ch x
    (s.Accepts x 1 p → ∃ t, exec (.getStatus p) s = .next t ∧ c.HostOnly (t.ch x) ∧
      s.Answered t x (p.replyOf x 1 0 (s.statusBytes x))) ∧
    (s.Accepts x 2 p → ∃ t, exec (.getIdentity p) s = .next t ∧ c.HostOnly (t.ch x) ∧
      s.Answered t x (p.replyOf x 2 0 (s.identityBytes x))) ∧
    (s.Accepts x 3 p →
      (∀ n, c.host.freeId = some n →
        ∃ t, exec (.openSession p) s = .next t ∧ c.HostOnly (t.ch x) ∧
          s.Answered t x { p.replyOf x 3 0 [] with session := n } ∧
          (∃ u, (t.ch x).host.session n = some u ∧ u.addr = p.addr ∧ u.port = p.port ∧ u.prepare = none ∧ u.snap = none)) ∧
      (c.host.freeId = none →
        ∃ t, exec (.openSession p) s = .next t ∧ c.HostOnly (t.ch x) ∧
          s.Answered t x (p.replyOf x 3 0x31 (detailed 0x31 0)))) ∧
    (s.Accepts x 4 p →
      ∃ t, exec (.closeSession p) s = .next t ∧ c.HostOnly (t.ch x) ∧ s.Answered t x (p.replyOf x 4 0 []) ∧
        (t.ch x).host.session p.session = none ∧ (∀ r ∈ (t.ch x).host.results, r.session ≠ p.session)) ∧
    (s.Accepts x 5 p → ∃ t, exec (.nop p) s = .next t ∧ c.HostOnly (t.ch x) ∧ s.Answered t x (p.replyOf x 5 0 [])) ∧
    (s.Accepts x 0x0102 p → c.paramFault 0x0102 p.params = none → c.isVital 0x0102 p.params = false →
      ∃ t, exec (.writeParam p) s = .next t ∧ s.Answered t x (p.replyOf x 0x0102 0 []) ∧
        ((writeEntries p.params).foldl (fun d e => d.applyEntry p.session true e) (c.afterIntake 0x0102 p)).HostOnly
          (t.ch x)) ∧
    (s.Accepts x 0x050A p →
      (fieldAt p.params 0 1 < 2 →
        ∃ t, exec (.portRestart p) s = .next t ∧ s.Answered t x (p.replyOf x 0x050A 0 []) ∧
          ({ c with guard := c.guard.restart (fieldAt p.params 0 1) } : Chan).HostOnly (t.ch x)) ∧
      (2 ≤ fieldAt p.params 0 1 →
        ∃ t, exec (.portRestart p) s = .next t ∧ c.HostOnly (t.ch x) ∧
          s.Answered t x (p.replyOf x 0x050A badParam (detailed badParam 0)))) ∧
    (∀ op, isOpcode op = false → s.hears x p = true → crcFails op p x = false → discarded p x = false →
      c.admission s.sealActed op p = none → p.version = 1 → (∃ u, c.boundSession p = some u ∧ u.Takes p) →
      ∃ t, exec (.badOpcode op p) s = .next t ∧ c.HostOnly (t.ch x) ∧
        s.Answered t x (p.replyOf x op 0x21 (detailed 0x21 0)))) ∧
  (∀ (s : State) (ch : Ch) (n : Nat), (s.ch ch).live = true →
    let c := s.ch ch
    (∀ u, c.host.session n = some u → c.past u.lastAt (c.stat 0x1A04 * 1000000) = true →
      exec (.sessionTimeout ch n) s =
        .next (s.put ch { c with
          host :=
            { c.host with
              sessions := c.host.sessions.filter (fun u => u.id != n)
              results := c.host.results.filter (fun r => r.session != n) } })) ∧
    (∀ u, c.host.session n = some u → c.past u.lastAt (c.stat 0x1A04 * 1000000) = false →
      exec (.sessionTimeout ch n) s = .next s) ∧
    (c.host.session n = none → exec (.sessionTimeout ch n) s = .next s ∧ exec (.prepareExpiry ch n) s = .next s) ∧
    (∀ u k, c.host.session n = some u → u.prepare = some k → 30000000 < c.elapsedUs k →
      exec (.prepareExpiry ch n) s =
        .next (s.put ch (({ c with
          host :=
            { c.host with
              sessions := c.host.sessions.map (fun (v : Session) => if v.id == n then { v with prepare := none } else v) } }
          : Chan).emit .prepDiscarded k.opcode [w32 n]))) ∧
    (∀ u k, c.host.session n = some u → u.prepare = some k → c.elapsedUs k ≤ 30000000 →
      exec (.prepareExpiry ch n) s = .next s) ∧
    (∀ u, c.host.session n = some u → u.prepare = none → exec (.prepareExpiry ch n) s = .next s)) ∧
  (∀ (s : State) (ch : Ch) (n : Nat), (s.ch ch).live = false →
    exec (.sessionTimeout ch n) s = .next s ∧ exec (.prepareExpiry ch n) s = .next s) ∧
  (∀ (s : State) (target : Word) (ip : Nat) (rest : List Nat) (size now : Nat),
    s.hub.alive = true → s.hostAddress = some (ip :: rest) →
    let lately := s.hub.echoAt.filter (fun t => decide (now < t + 1000))
    (target.toNat = ip →
      exec (.arp target) s = .next { s with hub := { s.hub with arps := s.hub.arps + 1 } }) ∧
    (target.toNat = ip → size ≤ 1472 → lately.length < 10 →
      exec (.icmpEcho target size now) s =
        .next { s with hub := { s.hub with echoes := s.hub.echoes + 1, echoAt := now :: lately } }) ∧
    (target.toNat ≠ ip ∨ 1472 < size ∨ 10 ≤ lately.length → exec (.icmpEcho target size now) s = .next s) ∧
    (target.toNat ≠ ip → exec (.arp target) s = .next s)) ∧
  (∀ (s : State) (target : Word) (size now : Nat), s.hub.alive = false ∨ s.hostAddress = none →
    exec (.arp target) s = .next s ∧ exec (.icmpEcho target size now) s = .next s)

/-- R372, R373, R395, R396, R411 to R415, R417 to R419, R424, R429, R434: what the read, load, snapshot and identity
commands answer when accepted, and what they leave behind. A QUOTE's signature and the places of a window that a read did
not fill are free values. -/
def Obligations.HostReadsAndLoads : Prop :=
  ∀ (p : Pkt) (s : State) (x : Ch),
    let c := s.ch x
    (s.Accepts x 0x0100 p →
      let n := fieldAt p.params 0 2
      let nums := (List.range n).map (fun k => fieldAt p.params (2 + 2 * k) 2)
      (1 ≤ n → n ≤ 128 → (∀ k ∈ nums, (paramRow k).isSome = true) →
        ∃ t ws, exec (.readParam p) s = .next t ∧ ws.length = n ∧ s.Answered t x (p.replyOf x 0x0100 0 (wordsBytes ws)) ∧
          (n = 1 → fieldAt p.params 2 2 ≠ 0x1B04 →
            let v := fieldAt p.params 2 2
            ws = [(s.put x (c.afterIntake 0x0100 p)).word x (c.host.selector p.session (selectorOf (v / 256))) v])) ∧
      (n = 0 ∨ 128 < n →
        ∃ t, exec (.readParam p) s = .next t ∧ c.HostOnly (t.ch x) ∧
          s.Answered t x (p.replyOf x 0x0100 badParam (detailed badParam 0)))) ∧
    (s.Accepts x 0x0101 p →
      let first := fieldAt p.params 0 2
      let n := fieldAt p.params 2 2
      (1 ≤ n → first % 256 + n ≤ 256 →
        ∃ t ws, exec (.readBlock p) s = .next t ∧ ws.length = n ∧ s.Answered t x (p.replyOf x 0x0101 0 (wordsBytes ws)) ∧
          (∀ k, k < n → (paramRow (first + k)).isNone = true → ws.getD k 0 = 0))) ∧
    (s.Accepts x 0x0700 p →
      let first := fieldAt p.params 0 2
      let n := fieldAt p.params 2 2
      (1 ≤ n → n ≤ 128 → (∀ k, k < n → (first + k) / 256 = 0x1C ∧ (paramRow (first + k)).isSome = true) →
        ∃ t ws, exec (.calRead p) s = .next t ∧ ws.length = n ∧ s.Answered t x (p.replyOf x 0x0700 0 (wordsBytes ws)))) ∧
    (s.Accepts x 0x0300 p → fieldAt p.params 0 1 = 1 ∨ fieldAt p.params 0 1 = 2 → fieldAt p.params 1 1 = 0 →
      c.load.writing = false → c.load.busy = false ∨ c.load.session = p.session →
      let kind := fieldAt p.params 0 1
      let size := fieldAt p.params 2 4
      (c.loadBarred kind = true → ∃ t, exec (.loadBegin p) s = .next t ∧ c.HostOnly (t.ch x) ∧
        s.Answered t x (p.replyOf x 0x0300 0x70 (detailed 0x70 0x0803))) ∧
      (c.loadBarred kind = false → largestLoad kind < size → ∃ t, exec (.loadBegin p) s = .next t ∧ c.HostOnly (t.ch x) ∧
        s.Answered t x (p.replyOf x 0x0300 0x70 (detailed 0x70 0x0802))) ∧
      (c.loadBarred kind = false → size ≤ largestLoad kind →
        ∃ t, exec (.loadBegin p) s = .next t ∧ s.Answered t x (p.replyOf x 0x0300 0 []) ∧ (t.ch x).load.busy = true ∧
          (t.ch x).load.kind = kind ∧ (t.ch x).load.size = size ∧ (t.ch x).load.session = p.session ∧
          (t.ch x).load.bytes = [])) ∧
    (s.Accepts x 0x0301 p → c.load.ownedBy p.session = true → fieldAt p.params 0 4 + (p.params.drop 6).length ≤ c.load.size →
      ∃ t, exec (.loadData p) s = .next t ∧ s.Answered t x (p.replyOf x 0x0301 0 []) ∧
        (t.ch x).load = c.load.write (fieldAt p.params 0 4) (p.params.drop 6)) ∧
    (s.Accepts x 0x0302 p → c.load.ownedBy p.session = true →
      let k := readContainer c.load.image c.load.size c.load.kind x
      (c.load.missing ≠ none → ∃ t, exec (.loadEnd p) s = .next t ∧ c.HostOnly (t.ch x) ∧
        s.Answered t x (p.replyOf x 0x0302 0x70 (detailed 0x70 0x0801))) ∧
      (c.load.missing = none → c.loadFault x s.factory k ≠ 0 → ∃ t, exec (.loadEnd p) s = .next t ∧ c.HostOnly (t.ch x) ∧
        s.Answered t x (p.replyOf x 0x0302 0x70 (detailed 0x70 (c.loadFault x s.factory k)))) ∧
      (c.load.missing = none → c.loadFault x s.factory k = 0 →
        ∃ t, exec (.loadEnd p) s = .next t ∧ s.Answered t x (p.replyOf x 0x0302 0 []) ∧ (t.ch x).load.writing = true ∧
          (t.ch x).load.busy = false ∧ (t.ch x).load.cont = some k)) ∧
    (s.Accepts x 0x0400 p →
      ∃ t, exec (.snapOpen p) s = .next t ∧ c.HostOnly (t.ch x) ∧ (t.ch x).snapOf p.session = some c.nv.openSnap ∧
        s.Answered t x (p.replyOf x 0x0400 0
          (bytesOfNat 8 c.nv.openSnap.high ++ bytesOfNat 8 c.nv.openSnap.low ++ bytesOfNat 8 c.nv.openSnap.permBase))) ∧
    (s.Accepts x 0x0401 p →
      (c.snapOf p.session = none → ∃ t, exec (.snapRead p) s = .next t ∧ c.HostOnly (t.ch x) ∧
        s.Answered t x (p.replyOf x 0x0401 refusedCode (detailed refusedCode 0))) ∧
      (∀ k, c.snapOf p.session = some k →
        let seqs := k.take 64 k.cursor
        ∃ t, exec (.snapRead p) s = .next t ∧ s.Answered t x (p.replyOf x 0x0401 0 (bytesOfNat 1 seqs.length ++ [0, 0, 0])) ∧
          (∃ v, (t.ch x).snapOf p.session = some v ∧ v.window = seqs.map c.nv.entryOf ∧ v.high = k.high))) ∧
    (s.Accepts x 0x0402 p → ∀ k, c.snapOf p.session = some k →
      let first := fieldAt p.params 0 1
      let n := fieldAt p.params 1 1
      1 ≤ n → n ≤ 16 → first + n ≤ 64 →
      ∃ t draw, exec (.windowGet p) s = .next t ∧ c.HostOnly (t.ch x) ∧
        s.Answered t x (p.replyOf x 0x0402 0
          (wordsBytes ((List.range n).flatMap (fun i => match k.window[first + i]? with
            | some r => r.allWords
            | none => (List.range 16).map (Config.windowRest draw (first + i))))))) ∧
    (s.Accepts x 0x0403 p →
      ∃ t, exec (.snapClose p) s = .next t ∧ c.HostOnly (t.ch x) ∧ (t.ch x).snapOf p.session = none ∧
        s.Answered t x (p.replyOf x 0x0403 0 [])) ∧
    (s.Accepts x 0x0506 p →
      (∀ r, c.host.results.find? (fun r => r.tag == fieldAt p.params 0 4) = some r →
        ∃ t, exec (.requestResult p) s = .next t ∧ c.HostOnly (t.ch x) ∧
          s.Answered t x (p.replyOf x 0x0506 0
            (bytesOfNat 1 r.result ++ [0] ++ bytesOfNat 2 r.reason ++ bytesOfNat 4 r.cycle))) ∧
      (c.host.results.find? (fun r => r.tag == fieldAt p.params 0 4) = none →
        ∃ t, exec (.requestResult p) s = .next t ∧ c.HostOnly (t.ch x) ∧
          s.Answered t x (p.replyOf x 0x0506 0x61 (detailed 0x61 0)))) ∧
    (s.Accepts x 0x0600 p →
      (c.boot.phase = 7 →
        let body := s.quoteBody x (p.params.take 32)
        ∃ t draw, exec (.quote p) s = .next t ∧ c.HostOnly (t.ch x) ∧
          s.Answered t x (p.replyOf x 0x0600 0 (body ++ Config.identitySign x body draw))) ∧
      (c.boot.phase ≠ 7 → ∃ t, exec (.quote p) s = .next t ∧ c.HostOnly (t.ch x) ∧
        s.Answered t x (p.replyOf x 0x0600 refusedCode (detailed refusedCode 0)))) ∧
    (s.Accepts x 0x0601 p →
      let cert := Config.certificate x
      let parts := ceilDiv cert.length 1024
      let k := fieldAt p.params 0 1
      (k < parts →
        ∃ t, exec (.getCert p) s = .next t ∧ c.HostOnly (t.ch x) ∧
          s.Answered t x (p.replyOf x 0x0601 0
            (bytesOfNat 1 k ++ bytesOfNat 1 parts ++ bytesOfNat 2 ((cert.drop (1024 * k)).take 1024).length ++
              (cert.drop (1024 * k)).take 1024))) ∧
      (parts ≤ k → ∃ t, exec (.getCert p) s = .next t ∧ c.HostOnly (t.ch x) ∧
        s.Answered t x (p.replyOf x 0x0601 badParam (detailed badParam 0)))) ∧
    (s.Accepts x 0x0602 p →
      let k := enrolledKey p.params c.nv.start
      (c.keyEnrol = false → ∃ t, exec (.keyEnrol p) s = .next t ∧ c.HostOnly (t.ch x) ∧
        s.Answered t x (p.replyOf x 0x0602 refusedCode (detailed refusedCode 0))) ∧
      (c.keyEnrol = true → c.nv.enrolOk p.params k = false → ∃ t, exec (.keyEnrol p) s = .next t ∧ c.HostOnly (t.ch x) ∧
        s.Answered t x (p.replyOf x 0x0602 badParam (detailed badParam 0))) ∧
      (c.keyEnrol = true → c.nv.enrolOk p.params k = true →
        ∃ t, exec (.keyEnrol p) s = .next t ∧ (t.ch x).nv = c.nv.writeKey p.params k ∧
          s.Answered t x (p.replyOf x 0x0602 0 []))) ∧
    (s.Accepts x 0x0603 p →
      (∀ k, c.nv.keys[fieldAt p.params 0 1]? = some k →
        ∃ t, exec (.keyRead p) s = .next t ∧ c.HostOnly (t.ch x) ∧
          s.Answered t x (p.replyOf x 0x0603 0 (Config.keySlotImage k))) ∧
      (c.nv.keys[fieldAt p.params 0 1]? = none →
        ∃ t, exec (.keyRead p) s = .next t ∧ c.HostOnly (t.ch x) ∧
          s.Answered t x (p.replyOf x 0x0603 badParam (detailed badParam 0))))

/-! ### Effects of agreed commands -/

/-- R131, R143, R147, R176, R179, R197, R202, R213, R214, R218 to R220, R223, R305, R308, R314, R374, R388, R392, R424,
R425: what an agreed command does at its effect release in one channel, or that it is refused there. A re-arm is refused
while a cause of a trip stands. -/
def Obligations.AgreedCommandsAct : Prop :=
  ∀ (s : State) (ch : Ch) (p : List Byte) (tag main cycle : Nat),
    let c := s.ch ch
    let act := fun op => s.effect ch op p tag main cycle
    let refuses := fun op => act op = (false, s)
    let obj := fieldAt p 0 4
    let gate := fun d : Chan => d.doors.gates.find? (fun g => g.elem == obj)
    let acts := fun op (f : Chan → Prop) => (act op).1 = true ∧ s.OnlyAt (act op).2 ch ∧ f ((act op).2.ch ch)
    -- CLEAR_TASK_FAULT
    ((c.task (fieldAt p 0 1)).fault = false → refuses 0x0203) ∧
    ((c.task (fieldAt p 0 1)).fault = true →
      acts 0x0203 (fun d => (d.task (fieldAt p 0 1)).fault = false ∧ (d.task (fieldAt p 0 1)).skips = 0)) ∧
    -- CLEAR_LOCKOUT of an output
    (fieldAt p 0 1 < 32 → c.nv.outFaults.length = 32 →
      ((c.nv.outFault (fieldAt p 0 1)).cause = 0 ∨ c.causeGone (fieldAt p 0 1) = false → refuses 0x0204) ∧
      ((c.nv.outFault (fieldAt p 0 1)).cause ≠ 0 → c.causeGone (fieldAt p 0 1) = true →
        acts 0x0204 (fun d => (d.nv.outFault (fieldAt p 0 1)).cause = 0))) ∧
    -- CLEAR_LOCKOUT of a group
    (∀ g, g < 4 → fieldAt p 0 1 = 0x81 + g →
      (c.nv.groupLocked.getLsbD g = false ∨ c.groupLow g = false ∨
          (c.nv.groupLsf.getLsbD g = true ∧ c.groupTested g = false) → refuses 0x0204) ∧
      (c.nv.groupLocked.getLsbD g = true → c.groupLow g = true → c.nv.groupLsf.getLsbD g = false ∨ c.groupTested g = true →
        acts 0x0204 (fun d => d.nv.groupLocked.getLsbD g = false ∧ d.nv.groupLsf.getLsbD g = false))) ∧
    -- HEDGEHOG_REARM
    (s.causeStands tag = true → refuses 0x0205) ∧
    (s.hedgehog.st = 1 → s.hedgehog.armTag ≠ some tag → refuses 0x0205) ∧
    (s.causeStands tag = false → s.hedgehog.st ≠ 1 → s.hedgehog.armTag ≠ some tag →
      (act 0x0205).1 = true ∧ (act 0x0205).2.hedgehog.st = 1 ∧ (act 0x0205).2.hedgehog.copy1 = false ∧
        (act 0x0205).2.hedgehog.copy2 = false ∧ (act 0x0205).2.hedgehog.cause = 0 ∧
        (act 0x0205).2.hedgehog.armTag = some tag) ∧
    (s.causeStands tag = false → s.hedgehog.armTag = some tag →
      (act 0x0205).1 = true ∧ (act 0x0205).2.hedgehog = s.hedgehog) ∧
    (s.causeStands tag = false → s.hedgehog.st ≠ 1 ∨ s.hedgehog.armTag = some tag → ∀ n, n < 32 →
      ((act 0x0205).2.ch ch).dout.needFresh.lookup n = some c.lastInstant) ∧
    -- GATE_ISOLATE, GATE_RESET, GATE_ISOL_END, GATE_SERVICE_RESET
    (gate c = none → refuses 0x0206 ∧ refuses 0x0507 ∧ refuses 0x0508 ∧ refuses 0x0509) ∧
    (∀ g, gate c = some g →
      acts 0x0206 (fun d => ∃ h, gate d = some h ∧ h.isolated = true ∧
        h.isolMs = (if fieldAt p 4 2 = 0 then c.act 0x1103 else fieldAt p 4 2) * 60000) ∧
      (g.isolated = true ∨ g.lk1 ≠ g.lk2 → refuses 0x0507) ∧
      (g.isolated = false → g.lk1 = g.lk2 → acts 0x0507 (fun d => ∃ h, gate d = some h ∧ h.step = 0 ∧ h.unproven = true)) ∧
      (g.isolated = false → refuses 0x0508) ∧
      (g.isolated = true → acts 0x0508 (fun d => ∃ h, gate d = some h ∧ h.isolated = false ∧ h.step = 0)) ∧
      acts 0x0509 (fun d => ∃ h, gate d = some h ∧ h.since = 0 ∧ h.total = g.total)) ∧
    -- PLUNGER_RESET
    (∀ q, c.doors.plungers.find? (fun q => q.elem == obj) = some q →
      (q.operated = true → refuses 0x0207) ∧
      (q.operated = false → acts 0x0207 (fun d => ∃ r, d.doors.plungers.find? (fun q => q.elem == obj) = some r ∧
        r.latched = false))) ∧
    -- REINTEGRATE
    (fieldAt p 0 1 = ch.code →
      acts 0x0208 (fun d => d.reint.commanded = true ∧ d.reint.triesLeft = bits (c.act 0x0C05) 3 0)) ∧
    (fieldAt p 0 1 ≠ ch.code → act 0x0208 = (true, s)) ∧
    -- EXCH_ARM, EXCH_ABORT
    (c.blocks.exch ≠ 2 → refuses 0x0209) ∧
    (c.blocks.exch = 2 → switchCycleOk main obj c.ratioBoth = true →
      acts 0x0209 (fun d => d.blocks.exch = 3 ∧ d.blocks.exchCycle = obj ∧ d.blocks.prepared = false ∧
        d.reint.source = none ∧ (c.reint.phase ≠ 0 → d.reint.phase = 5) ∧
        (c.transferring = true → d.part.phase = 0 ∧ d.part.cause = 11))) ∧
    (c.blocks.exch = 2 → switchCycleOk main obj c.ratioBoth = false →
      (act 0x0209).1 = false ∧ ((act 0x0209).2.ch ch).blocks.exch = 2 ∧ ((act 0x0209).2.ch ch).blocks.result = 8) ∧
    (c.blocks.exch ≠ 2 → c.blocks.exch ≠ 3 → c.blocks.exch ≠ 5 → refuses 0x0304) ∧
    (c.blocks.exch = 2 ∨ c.blocks.exch = 5 → acts 0x0304 (fun d => d.blocks.exch = 0 ∧ d.blocks.result = 0x10)) ∧
    (c.blocks.exch = 3 → acts 0x0304 (fun d => d.blocks.exch = 2 ∧ d.blocks.result = 0x10)) ∧
    -- SWITCHOVER
    (c.part.role ≠ 1 ∨ c.blocks.exch = 3 ∨ c.res.restart = true ∨ c.pathsLive = false → refuses 0x020A) ∧
    (∀ b, c.part.beat = some b → b.role = 2 → b.sync = 2 → c.part.role = 1 → c.pathsLive = true → c.blocks.exch ≠ 3 →
      c.res.restart = false → switchCycleOk main obj c.ratioBoth = true →
      acts 0x020A (fun d => d.part.switchAt = obj ∧ d.pout = c.pout ++ [(c.part.txSeq, .switchAt obj)])) ∧
    -- RESYNC, XFER_ABANDON
    (c.part.role ≠ 2 ∨ c.part.sync ≠ 0 → refuses 0x0800) ∧
    (c.part.role = 2 → c.part.sync = 0 → acts 0x0800 (fun d => d.part.commanded = true)) ∧
    (c.transferring = false → refuses 0x0801) ∧
    (c.transferring = true → acts 0x0801 (fun d => d.part.phase = 0 ∧ d.part.cause = 11)) ∧
    -- RECORDER_CLEAR, RESTORE_FACTORY, CAL_WRITE
    acts 0x020B (fun d => d = c.emit .clear 0 [w32 c.recd.nextSeq]) ∧
    acts 0x020C (fun d => ∃ k, calInForce d.nv.cal0 d.nv.cal1 = some k ∧ k.di = List.replicate 96 0 ∧
      k.rb = List.replicate 32 0 ∧ k.feedWarn = 180) ∧
    ((calEntries p).filter (fun e => e.1 == ch.code) = [] → act 0x0701 = (true, s)) ∧
    ((calEntries p).filter (fun e => e.1 == ch.code) ≠ [] →
      acts 0x0701 (fun d => ∃ k, calInForce d.nv.cal0 d.nv.cal1 = some k ∧ d.cal.di = k.di ∧ d.cal.rb = k.rb ∧
        d.cal.feedWarn = k.feedWarn ∧ d.cal.userDefault = false))

end
end

