-- ==== Sys2Proof/Laws/Comparator.lean ====
section
/-! SUPPORT. The comparator tests of R170: three equal sets pass every case of Table 06-4. -/

namespace Sys2Proof.Machine

open Sys2Proof

theorem modAt_of_lt {α : Type} (l : List α) (k : Nat) (f : α → α) (h : k < l.length) : modAt l k f = l.set k (f l[k]) := by
  simp [modAt, List.getElem?_eq_getElem h]

theorem setWord_modAt (ws : List Word) (k j : Nat) (f : Word → Word) (h : k < ws.length) :
    setWord (modAt ws k f) j = if j = k then f (setWord ws k) else setWord ws j := by
  rw [modAt_of_lt _ _ _ h]
  unfold setWord
  by_cases hj : j = k
  · subst hj; simp [List.getD, h]
  · simp [List.getD, Ne.symm hj, hj]

theorem comparedWord_plain (ws : List Word) (k : Nat) (h0 : k ≠ 0) (h4 : k ≠ 4) : comparedWord ws k = setWord ws k := by
  unfold comparedWord
  split <;> simp_all

theorem comparedWord_modAt_plain (ws : List Word) (k : Nat) (f : Word → Word) (h : k < ws.length) (h0 : k ≠ 0) (h4 : k ≠ 4)
    (hd : ∀ v, f v ≠ v) : comparedWord (modAt ws k f) k ≠ comparedWord ws k := by
  rw [comparedWord_plain _ _ h0 h4, comparedWord_plain _ _ h0 h4, setWord_modAt _ _ _ _ h, if_pos rfl]
  exact hd _

theorem comparedWord_modAt_ne (ws : List Word) (k j : Nat) (f : Word → Word) (h : k < ws.length) (hj : j ≠ k) :
    comparedWord (modAt ws k f) j = comparedWord ws j := by
  unfold comparedWord
  split <;> simp [setWord_modAt _ _ _ _ h, hj]

theorem sameWords_modAt (ws : List Word) (k : Nat) (f : Word → Word) (ks : List Nat) (h : k < ws.length) (hk : k ∉ ks) :
    sameWords (modAt ws k f) ws ks = true := by
  simp only [sameWords, List.all_eq_true, beq_iff_eq]
  intro j hj
  exact comparedWord_modAt_ne _ _ _ _ h (fun e => hk (e ▸ hj))

theorem sameWords_modAt_false (ws : List Word) (k : Nat) (f : Word → Word) (ks : List Nat) (hk : k ∈ ks)
    (hd : comparedWord (modAt ws k f) k ≠ comparedWord ws k) : sameWords (modAt ws k f) ws ks = false := by
  simp only [sameWords, List.all_eq_false, beq_iff_eq]
  exact ⟨k, hk, hd⟩

theorem w32_bit_ne_zero (b : Nat) (h : b < 32) : w32 (2 ^ b) ≠ 0 := by
  interval_cases b <;> decide

theorem xor_bit_ne (w : Word) (b : Nat) (h : b < 32) : w ^^^ w32 (2 ^ b) ≠ w := by
  intro e
  have : w ^^^ (w ^^^ w32 (2 ^ b)) = w ^^^ w := by rw [e]
  rw [← BitVec.xor_assoc, BitVec.xor_self, BitVec.zero_xor] at this
  exact w32_bit_ne_zero b h this

/-- A word of the digest or the header that differs gives 2 (R165). -/
theorem compareSets_header (ws : List Word) (k : Nat) (f : Word → Word) (h : k < ws.length) (hk : k ∈ [0, 3, 4, 6, 7])
    (hd : comparedWord (modAt ws k f) k ≠ comparedWord ws k) : compareSets (modAt ws k f) ws = 2 := by
  have h1 : sameWords (modAt ws k f) ws [1, 2] = true :=
    sameWords_modAt _ _ _ _ h (by simp only [List.mem_cons, List.not_mem_nil, or_false] at hk ⊢; omega)
  simp [compareSets, h1, sameWords_modAt_false _ _ _ _ hk hd]

/-- A cycle number that differs gives 3 (R165). -/
theorem compareSets_cycle (ws : List Word) (k : Nat) (f : Word → Word) (hk : k ∈ [1, 2])
    (hd : comparedWord (modAt ws k f) k ≠ comparedWord ws k) : compareSets (modAt ws k f) ws = 3 := by
  simp [compareSets, sameWords_modAt_false _ _ _ _ hk hd]

/-- Word 5, or a word of the outputs, that differs gives 1 (R165). -/
theorem compareSets_output (ws : List Word) (k : Nat) (f : Word → Word) (h : k < ws.length) (hk : k = 5 ∨ 8 ≤ k)
    (hd : f (setWord ws k) ≠ setWord ws k) : compareSets (modAt ws k f) ws = 1 := by
  have hm : ∀ ks : List Nat, (∀ j ∈ ks, j ≠ k) → sameWords (modAt ws k f) ws ks = true :=
    fun ks hks => sameWords_modAt _ _ _ _ h (fun e => hks k e rfl)
  have h1 : sameWords (modAt ws k f) ws [1, 2] = true := hm _ (by intro j; simp; omega)
  have h2 : sameWords (modAt ws k f) ws [0, 3, 4, 6, 7] = true := hm _ (by intro j; simp; omega)
  rcases hk with rfl | hk
  · have h3 : sameWords (modAt ws 5 f) ws [5] = false :=
      sameWords_modAt_false _ _ _ _ (by simp) (by simpa [comparedWord, setWord_modAt _ _ _ _ h] using hd)
    simp [compareSets, h1, h2, h3]
  · have h3 : (modAt ws k f).drop 8 ≠ ws.drop 8 := by
      intro e
      have := congrArg (fun l => l.getD (k - 8) 0) e
      simp only [List.getD, List.getElem?_drop] at this
      have e8 : 8 + (k - 8) = k := by omega
      rw [e8] at this
      have hs := setWord_modAt ws k k f h
      simp only [setWord, List.getD, if_true] at hs
      rw [hs] at this
      exact hd this
    simp [compareSets, h1, h2, h3]

theorem compareSets_same (ws : List Word) : compareSets ws ws = 0 := by
  have hs : ∀ ks : List Nat, sameWords ws ws ks = true := by intro ks; simp [sameWords]
  simp [compareSets, hs]

/-- CH and PROB are not compared (R159). -/
theorem compareSets_masked (ws : List Word) (k : Nat) (f : Word → Word) (h : k < ws.length) (hk : k = 0 ∨ k = 4)
    (hd : comparedWord (modAt ws k f) k = comparedWord ws k) : compareSets (modAt ws k f) ws = 0 := by
  have hs : ∀ ks : List Nat, sameWords (modAt ws k f) ws ks = true := by
    intro ks
    simp only [sameWords, List.all_eq_true, beq_iff_eq]
    intro j _
    by_cases hj : j = k
    · subst hj; exact hd
    · exact comparedWord_modAt_ne _ _ _ _ h hj
  have hr : (modAt ws k f).drop 8 = ws.drop 8 := by
    rw [modAt_of_lt _ _ _ h, List.drop_set_of_lt (by omega)]
  simp [compareSets, hs, hr]

theorem caseHolds_same (ws : List Word) (h : ws.length = 8192) (t : TestCase) (ht : t ∈ testCases) : caseHolds ws ws t = true := by
  simp only [testCases, List.mem_flatMap, List.mem_map, List.mem_range] at ht
  obtain ⟨p, -, k, hk, w, hw, rfl⟩ := ht
  interval_cases k
  · -- a word inverted
    simp only [testWords, List.mem_cons, List.mem_map, List.mem_range] at hw
    rcases hw with rfl | ⟨j, hj, rfl⟩
    · have := compareSets_header ws 0 (fun w => w ^^^ w32 (2 ^ 16)) (by omega) (by simp) (by
        simp only [comparedWord, setWord_modAt _ _ _ _ (show 0 < ws.length by omega), if_true]
        intro e
        have := congrArg (fun v : Word => v.getLsbD 16) e
        simp [w32] at this)
      have e : flipSet ws 0 16 = modAt ws 0 (fun w => w ^^^ w32 (2 ^ 16)) := rfl
      simp only [caseHolds, beq_self_eq_true, if_true, e, this, Nat.reduceBEq, Bool.or_true]
    · have hb : (j + 3) % 32 < 32 := Nat.mod_lt _ (by omega)
      have hl : j + 3 < ws.length := by omega
      by_cases hc : j + 3 = 5 ∨ 8 ≤ j + 3
      · have := compareSets_output ws (j + 3) (fun w => w ^^^ w32 (2 ^ ((j + 3) % 32))) hl hc (xor_bit_ne _ _ hb)
        simp [caseHolds, flipSet, this]
      · have hc' : j = 0 ∨ j = 1 ∨ j = 3 ∨ j = 4 := by omega
        have : compareSets (modAt ws (j + 3) (fun w => w ^^^ w32 (2 ^ ((j + 3) % 32)))) ws = 2 := by
          refine compareSets_header ws (j + 3) _ hl (by rcases hc' with rfl | rfl | rfl | rfl <;> simp) ?_
          rcases hc' with rfl | rfl | rfl | rfl <;>
            simp only [comparedWord, setWord_modAt _ _ _ _ hl, if_true]
          · exact xor_bit_ne _ _ (by omega)
          · intro e
            have := congrArg (fun v : Word => v.getLsbD 4) e
            simp [w32] at this
          · exact xor_bit_ne _ _ (by omega)
          · exact xor_bit_ne _ _ (by omega)
        simp [caseHolds, flipSet, this]
  · -- a bit of the digest inverted
    simp only [testWords, List.mem_range] at hw
    have hd : w / 32 = 0 ∨ w / 32 = 1 := by omega
    have hb : w % 32 < 32 := Nat.mod_lt _ (by omega)
    have : compareSets (modAt ws (6 + w / 32) (fun v => v ^^^ w32 (2 ^ (w % 32)))) ws = 2 := by
      exact compareSets_header ws _ _ (by omega) (by rcases hd with e | e <;> simp [e])
        (comparedWord_modAt_plain ws _ _ (by omega) (by omega) (by omega) (fun v => xor_bit_ne v _ hb))
    simp [caseHolds, flipSet, this]
  · -- a cycle number off by one
    simp only [testWords, List.mem_range] at hw
    have hne : ∀ v : Word, v + 1 ≠ v ∧ v - 1 ≠ v := by
      intro v; constructor <;> bv_omega
    have hd : w / 2 = 0 ∨ w / 2 = 1 := by omega
    have : ∀ f : Word → Word, (∀ v, f v ≠ v) → compareSets (modAt ws (1 + w / 2) f) ws = 3 := by
      intro f hf
      exact compareSets_cycle ws _ _ (by rcases hd with e | e <;> simp [e])
        (comparedWord_modAt_plain ws _ _ (by omega) (by omega) (by omega) hf)
    have h3 := this (fun v => if w % 2 == 0 then v + 1 else v - 1) (by intro v; split <;> [exact (hne v).1; exact (hne v).2])
    simp only [caseHolds, h3, beq_self_eq_true]
  · -- a CRC bit inverted
    simp only [testWords, List.mem_range] at hw
    have hx := xor_bit_ne (Link.of 9 0 ws).crc w hw
    have hc : (Link.of 9 0 ws).crc = transferCrc (Link.of 9 0 ws).header ws := rfl
    simp only [caseHolds, Link.intact, Link.crcOk, Bool.not_eq_true', Bool.and_eq_false_iff, beq_eq_false_iff_ne]
    exact Or.inl (Or.inl (by rw [← hc]; exact hx))
  · -- a SEQ skipped
    simp only [caseHolds, Link.of, Link.seq, headerWord, w32, BitVec.toNat_ofNat, bne_iff_ne, ne_eq]
    omega
  · simp [caseHolds, pathResult]
  · -- CH and PROB are left out
    simp only [testWords, List.mem_range] at hw
    have h0 : compareSets (flipSet ws 0 0) ws = 0 := by
      refine compareSets_masked ws 0 _ (by omega) (Or.inl rfl) ?_
      simp only [comparedWord, setWord_modAt _ _ _ _ (show 0 < ws.length by omega), if_true]
      ext i hi
      simp only [BitVec.getElem_and, BitVec.getElem_xor]
      interval_cases i <;> simp [w32]
    have h4 : compareSets (flipSet ws 4 16) ws = 0 := by
      refine compareSets_masked ws 4 _ (by omega) (Or.inr rfl) ?_
      simp only [comparedWord, setWord_modAt _ _ _ _ (show 4 < ws.length by omega), if_true]
      ext i hi
      simp only [BitVec.getElem_and, BitVec.getElem_xor]
      interval_cases i <;> simp [w32]
    interval_cases w <;> simp [caseHolds, h0, h4]
  · simp [caseHolds, pathResult, compareSets_same]
  · simp only [testWords, List.mem_range] at hw
    have hc : ∀ k < 6, cutCase k = true := by decide
    simp [caseHolds, hc w hw]

/-- Three equal TEST sets of 8,192 words pass every case on every path (R170). -/
theorem firstOdd_same (ws : List Word) (h : ws.length = 8192) : firstOdd ws ws ws [] = none := by
  simp only [firstOdd, List.find?_eq_none]
  intro t ht
  have hp : pathSets ws ws ws t.path = (ws, ws) := by unfold pathSets; split <;> rfl
  simp [hp, caseHolds_same ws h t ht]

/-- A case at fault is found (R170). -/
theorem firstOdd_fault (own next prev : List Word) (odd : List TestCase) (t : TestCase) (ht : t ∈ testCases) (ho : t ∈ odd) :
    ∃ u, firstOdd own next prev odd = some u := by
  rw [← Option.isSome_iff_exists]
  simp only [firstOdd, List.find?_isSome]
  exact ⟨t, ht, by simp [ho]⟩

theorem first_case_mem : ({ test := 1, path := 0, word := 0 } : TestCase) ∈ testCases := by
  simp only [testCases, List.mem_flatMap, List.mem_map, List.mem_range]
  exact ⟨0, by omega, 0, by omega, 0, List.mem_cons_self, rfl⟩

end Sys2Proof.Machine
end

