-- ==== Sys2Proof/Laws/State.lean ====
section
/-! SUPPORT. The small lemmas of State and of the operations on it: one for each field and update, so that later proofs never
unfold a record update. -/

namespace Sys2Proof

/-! ### Triples -/

@[simp] theorem Tri.get_set_self {α : Type} (t : Tri α) (ch : Ch) (x : α) : (t.set ch x).get ch = x := by
  cases ch <;> rfl

theorem Tri.get_set_ne {α : Type} (t : Tri α) {ch e : Ch} (x : α) (h : e ≠ ch) : (t.set ch x).get e = t.get e := by
  cases ch <;> cases e <;> first | rfl | exact absurd rfl h

@[simp] theorem Tri.get_const {α : Type} (x : α) (ch : Ch) : (Tri.const x).get ch = x := by cases ch <;> rfl

@[simp] theorem Tri.set_get {α : Type} (t : Tri α) (ch : Ch) : t.set ch (t.get ch) = t := by cases ch <;> rfl

@[simp] theorem Tri.set_set {α : Type} (t : Tri α) (ch : Ch) (x y : α) : (t.set ch x).set ch y = t.set ch y := by
  cases ch <;> rfl

theorem Tri.ext_get {α : Type} {t u : Tri α} (h : ∀ ch, t.get ch = u.get ch) : t = u := by
  cases t; cases u
  have ha := h .a; have hb := h .b; have hc := h .c
  simp only [Tri.get] at ha hb hc
  subst ha hb hc; rfl

@[simp] theorem Ch.next_ne (ch : Ch) : ch.next ≠ ch := by cases ch <;> decide

@[simp] theorem Ch.prev_ne (ch : Ch) : ch.prev ≠ ch := by cases ch <;> decide

@[simp] theorem Ch.next_ne_prev (ch : Ch) : ch.next ≠ ch.prev := by cases ch <;> decide

theorem Ch.cases_of (x ch : Ch) : x = ch ∨ x = ch.next ∨ x = ch.prev := by cases x <;> cases ch <;> decide

end Sys2Proof

namespace Sys2Proof.Machine

open Sys2Proof

/-! ### Replacing a channel -/

@[simp] theorem State.put_ch (s : State) (ch : Ch) (c : Chan) : (s.put ch c).ch ch = c := by
  simp [State.put, State.ch]

theorem State.put_ch_ne (s : State) {ch x : Ch} (c : Chan) (h : x ≠ ch) : (s.put ch c).ch x = s.ch x := by
  simp [State.put, State.ch, Tri.get_set_ne _ _ h]

@[simp] theorem State.put_put (s : State) (ch : Ch) (c d : Chan) : (s.put ch c).put ch d = s.put ch d := by
  simp [State.put]

@[simp] theorem State.put_self (s : State) (ch : Ch) : s.put ch (s.ch ch) = s := by
  simp [State.put, State.ch]

@[simp] theorem State.mod_ch (s : State) (ch : Ch) (f : Chan → Chan) : (s.mod ch f).ch ch = f (s.ch ch) := by
  simp [State.mod]

theorem State.mod_ch_ne (s : State) {ch x : Ch} (f : Chan → Chan) (h : x ≠ ch) : (s.mod ch f).ch x = s.ch x :=
  State.put_ch_ne s _ h

@[simp] theorem State.mod_mod (s : State) (ch : Ch) (f g : Chan → Chan) :
    (s.mod ch f).mod ch g = s.mod ch (fun c => g (f c)) := by
  simp [State.mod]

@[simp] theorem State.put_mod (s : State) (ch : Ch) (c : Chan) (g : Chan → Chan) : (s.put ch c).mod ch g = s.put ch (g c) := by
  simp [State.mod]

theorem State.mod_eq_put (s : State) (ch : Ch) (f : Chan → Chan) : s.mod ch f = s.put ch (f (s.ch ch)) := rfl

theorem State.onLive_live {s : State} {ch : Ch} (f : Chan → Chan) (h : (s.ch ch).live = true) : s.onLive ch f = s.mod ch f := by
  simp [State.onLive, h]

theorem State.onLive_dead {s : State} {ch : Ch} (f : Chan → Chan) (h : (s.ch ch).live = false) : s.onLive ch f = s := by
  simp [State.onLive, h]

/-- What an event at a channel can do: nothing where the channel does not execute, else change that channel. -/
theorem State.onLive_cases (s : State) (ch : Ch) (f : Chan → Chan) :
    ((s.ch ch).live = false ∧ s.onLive ch f = s) ∨ ((s.ch ch).live = true ∧ s.onLive ch f = s.put ch (f (s.ch ch))) := by
  cases h : (s.ch ch).live
  · exact Or.inl ⟨rfl, State.onLive_dead f h⟩
  · exact Or.inr ⟨rfl, State.onLive_live f h⟩

theorem State.onLive_ch_ne (s : State) {ch x : Ch} (f : Chan → Chan) (h : x ≠ ch) : (s.onLive ch f).ch x = s.ch x := by
  rcases State.onLive_cases s ch f with ⟨_, e⟩ | ⟨_, e⟩
  · rw [e]
  · rw [e, State.put_ch_ne _ _ h]

@[simp] theorem State.drawn_ch (s : State) (ch : Ch) : s.drawn.ch ch = s.ch ch := rfl

@[simp] theorem State.reply_ch (s : State) (r : Reply) (ch : Ch) : (s.reply r).ch ch = s.ch ch := by
  unfold State.reply; split <;> rfl

/-- A working hub takes a reply at the end of its list, a failed one drops it. -/
theorem State.reply_replies (s : State) (r : Reply) :
    (s.reply r).hub.replies = if s.hub.alive then s.hub.replies ++ [r] else s.hub.replies := by
  unfold State.reply; split <;> rfl

@[simp] theorem State.reply_alive (s : State) (r : Reply) : (s.reply r).hub.alive = s.hub.alive := by
  unfold State.reply; split <;> rfl

/-! ### Fields outside the channels -/

@[simp] theorem State.put_factory (s : State) (ch : Ch) (c : Chan) : (s.put ch c).factory = s.factory := rfl

@[simp] theorem State.mod_factory (s : State) (ch : Ch) (f : Chan → Chan) : (s.mod ch f).factory = s.factory := rfl

@[simp] theorem State.onLive_factory (s : State) (ch : Ch) (f : Chan → Chan) : (s.onLive ch f).factory = s.factory := by
  unfold State.onLive; split <;> rfl

@[simp] theorem State.allLive_factory (s : State) (f : Ch → Chan → Chan) : (s.allLive f).factory = s.factory := by
  simp [State.allLive, Ch.all]

@[simp] theorem State.reply_factory (s : State) (r : Reply) : (s.reply r).factory = s.factory := by
  unfold State.reply; split <;> rfl

@[simp] theorem State.drawn_factory (s : State) : s.drawn.factory = s.factory := rfl

@[simp] theorem State.trip_factory (s : State) (cause : TripCause) : (s.trip cause).factory = s.factory := by
  unfold State.trip; dsimp only; split <;> simp

@[simp] theorem State.setAlive_factory (s : State) (ch : Ch) (on : Bool) : (s.setAlive ch on).factory = s.factory := by
  unfold State.setAlive; dsimp only; split <;> simp

@[simp] theorem State.put_hub (s : State) (ch : Ch) (c : Chan) : (s.put ch c).hub = s.hub := rfl

@[simp] theorem State.mod_hub (s : State) (ch : Ch) (f : Chan → Chan) : (s.mod ch f).hub = s.hub := rfl

@[simp] theorem State.onLive_hub (s : State) (ch : Ch) (f : Chan → Chan) : (s.onLive ch f).hub = s.hub := by
  unfold State.onLive; split <;> rfl

@[simp] theorem State.allLive_hub (s : State) (f : Ch → Chan → Chan) : (s.allLive f).hub = s.hub := by
  simp [State.allLive, Ch.all]

@[simp] theorem State.drawn_hub (s : State) : s.drawn.hub = s.hub := rfl

@[simp] theorem State.trip_hub (s : State) (cause : TripCause) : (s.trip cause).hub = s.hub := by
  unfold State.trip; dsimp only; split <;> simp

@[simp] theorem State.setAlive_hub (s : State) (ch : Ch) (on : Bool) : (s.setAlive ch on).hub = s.hub := by
  unfold State.setAlive; dsimp only; split <;> simp

@[simp] theorem State.put_hedgehog (s : State) (ch : Ch) (c : Chan) : (s.put ch c).hedgehog = s.hedgehog := rfl

@[simp] theorem State.mod_hedgehog (s : State) (ch : Ch) (f : Chan → Chan) : (s.mod ch f).hedgehog = s.hedgehog := rfl

@[simp] theorem State.onLive_hedgehog (s : State) (ch : Ch) (f : Chan → Chan) : (s.onLive ch f).hedgehog = s.hedgehog := by
  unfold State.onLive; split <;> rfl

@[simp] theorem State.allLive_hedgehog (s : State) (f : Ch → Chan → Chan) : (s.allLive f).hedgehog = s.hedgehog := by
  simp [State.allLive, Ch.all]

@[simp] theorem State.reply_hedgehog (s : State) (r : Reply) : (s.reply r).hedgehog = s.hedgehog := by
  unfold State.reply; split <;> rfl

@[simp] theorem State.drawn_hedgehog (s : State) : s.drawn.hedgehog = s.hedgehog := rfl

@[simp] theorem State.put_net (s : State) (ch : Ch) (c : Chan) : (s.put ch c).net = s.net := rfl

@[simp] theorem State.mod_net (s : State) (ch : Ch) (f : Chan → Chan) : (s.mod ch f).net = s.net := rfl

@[simp] theorem State.onLive_net (s : State) (ch : Ch) (f : Chan → Chan) : (s.onLive ch f).net = s.net := by
  unfold State.onLive; split <;> rfl

@[simp] theorem State.allLive_net (s : State) (f : Ch → Chan → Chan) : (s.allLive f).net = s.net := by
  simp [State.allLive, Ch.all]

@[simp] theorem State.reply_net (s : State) (r : Reply) : (s.reply r).net = s.net := by
  unfold State.reply; split <;> rfl

@[simp] theorem State.drawn_net (s : State) : s.drawn.net = s.net := rfl

@[simp] theorem State.trip_net (s : State) (cause : TripCause) : (s.trip cause).net = s.net := by
  unfold State.trip; dsimp only; split <;> simp

@[simp] theorem State.setAlive_net (s : State) (ch : Ch) (on : Bool) : (s.setAlive ch on).net = s.net := by
  unfold State.setAlive; dsimp only; split <;> simp

@[simp] theorem State.put_comparator (s : State) (ch : Ch) (c : Chan) : (s.put ch c).comparator = s.comparator := rfl

@[simp] theorem State.mod_comparator (s : State) (ch : Ch) (f : Chan → Chan) : (s.mod ch f).comparator = s.comparator := rfl

@[simp] theorem State.onLive_comparator (s : State) (ch : Ch) (f : Chan → Chan) : (s.onLive ch f).comparator = s.comparator := by
  unfold State.onLive; split <;> rfl

@[simp] theorem State.allLive_comparator (s : State) (f : Ch → Chan → Chan) : (s.allLive f).comparator = s.comparator := by
  simp [State.allLive, Ch.all]

@[simp] theorem State.reply_comparator (s : State) (r : Reply) : (s.reply r).comparator = s.comparator := by
  unfold State.reply; split <;> rfl

@[simp] theorem State.drawn_comparator (s : State) : s.drawn.comparator = s.comparator := rfl

@[simp] theorem State.trip_comparator (s : State) (cause : TripCause) : (s.trip cause).comparator = s.comparator := by
  unfold State.trip; dsimp only; split <;> simp

@[simp] theorem State.setAlive_comparator (s : State) (ch : Ch) (on : Bool) : (s.setAlive ch on).comparator = s.comparator := by
  unfold State.setAlive; dsimp only; split <;> simp

@[simp] theorem State.put_draws (s : State) (ch : Ch) (c : Chan) : (s.put ch c).draws = s.draws := rfl

@[simp] theorem State.mod_draws (s : State) (ch : Ch) (f : Chan → Chan) : (s.mod ch f).draws = s.draws := rfl

@[simp] theorem State.onLive_draws (s : State) (ch : Ch) (f : Chan → Chan) : (s.onLive ch f).draws = s.draws := by
  unfold State.onLive; split <;> rfl

@[simp] theorem State.allLive_draws (s : State) (f : Ch → Chan → Chan) : (s.allLive f).draws = s.draws := by
  simp [State.allLive, Ch.all]

@[simp] theorem State.reply_draws (s : State) (r : Reply) : (s.reply r).draws = s.draws := by
  unfold State.reply; split <;> rfl

@[simp] theorem State.trip_draws (s : State) (cause : TripCause) : (s.trip cause).draws = s.draws := by
  unfold State.trip; dsimp only; split <;> simp

@[simp] theorem State.setAlive_draws (s : State) (ch : Ch) (on : Bool) : (s.setAlive ch on).draws = s.draws := by
  unfold State.setAlive; dsimp only; split <;> simp

@[simp] theorem State.put_pending (s : State) (ch : Ch) (c : Chan) : (s.put ch c).pending = s.pending := rfl

@[simp] theorem State.mod_pending (s : State) (ch : Ch) (f : Chan → Chan) : (s.mod ch f).pending = s.pending := rfl

@[simp] theorem State.onLive_pending (s : State) (ch : Ch) (f : Chan → Chan) : (s.onLive ch f).pending = s.pending := by
  unfold State.onLive; split <;> rfl

@[simp] theorem State.allLive_pending (s : State) (f : Ch → Chan → Chan) : (s.allLive f).pending = s.pending := by
  simp [State.allLive, Ch.all]

@[simp] theorem State.reply_pending (s : State) (r : Reply) : (s.reply r).pending = s.pending := by
  unfold State.reply; split <;> rfl

@[simp] theorem State.drawn_pending (s : State) : s.drawn.pending = s.pending := rfl

@[simp] theorem State.trip_pending (s : State) (cause : TripCause) : (s.trip cause).pending = s.pending := by
  unfold State.trip; dsimp only; split <;> simp

@[simp] theorem State.setAlive_pending (s : State) (ch : Ch) (on : Bool) : (s.setAlive ch on).pending = s.pending := by
  unfold State.setAlive; dsimp only; split <;> simp

@[simp] theorem State.trip_hedgehog (s : State) (cause : TripCause) : (s.trip cause).hedgehog = s.hedgehog.causeNow cause := by
  unfold State.trip; dsimp only; split <;> simp

/-- An alive line that changes trips the Hedgehog or leaves it as it is (R201). -/
theorem State.setAlive_hedgehog (s : State) (ch : Ch) (on : Bool) :
    (s.setAlive ch on).hedgehog = s.hedgehog ∨ (s.setAlive ch on).hedgehog = s.hedgehog.causeNow .silent := by
  unfold State.setAlive; dsimp only
  split
  · right; simp
  · left; simp

/-! ### Events: a channel changes its recorder alone -/

@[simp] theorem Chan.emitAt_nv (c : Chan) (m n t : Nat) (name : EvName) (obj : Nat) (d : List Word) : (c.emitAt m n t name obj d).nv = c.nv := by
  unfold Chan.emitAt; split <;> first | rfl | (dsimp only; split <;> rfl)

@[simp] theorem Chan.emitAt_boot (c : Chan) (m n t : Nat) (name : EvName) (obj : Nat) (d : List Word) : (c.emitAt m n t name obj d).boot = c.boot := by
  unfold Chan.emitAt; split <;> first | rfl | (dsimp only; split <;> rfl)

@[simp] theorem Chan.emitAt_supply (c : Chan) (m n t : Nat) (name : EvName) (obj : Nat) (d : List Word) : (c.emitAt m n t name obj d).supply = c.supply := by
  unfold Chan.emitAt; split <;> first | rfl | (dsimp only; split <;> rfl)

@[simp] theorem Chan.emitAt_seals (c : Chan) (m n t : Nat) (name : EvName) (obj : Nat) (d : List Word) : (c.emitAt m n t name obj d).seals = c.seals := by
  unfold Chan.emitAt; split <;> first | rfl | (dsimp only; split <;> rfl)

@[simp] theorem Chan.emitAt_params (c : Chan) (m n t : Nat) (name : EvName) (obj : Nat) (d : List Word) : (c.emitAt m n t name obj d).params = c.params := by
  unfold Chan.emitAt; split <;> first | rfl | (dsimp only; split <;> rfl)

@[simp] theorem Chan.emitAt_image (c : Chan) (m n t : Nat) (name : EvName) (obj : Nat) (d : List Word) : (c.emitAt m n t name obj d).image = c.image := by
  unfold Chan.emitAt; split <;> first | rfl | (dsimp only; split <;> rfl)

@[simp] theorem Chan.emitAt_tasks (c : Chan) (m n t : Nat) (name : EvName) (obj : Nat) (d : List Word) : (c.emitAt m n t name obj d).tasks = c.tasks := by
  unfold Chan.emitAt; split <;> first | rfl | (dsimp only; split <;> rfl)

@[simp] theorem Chan.emitAt_blocks (c : Chan) (m n t : Nat) (name : EvName) (obj : Nat) (d : List Word) : (c.emitAt m n t name obj d).blocks = c.blocks := by
  unfold Chan.emitAt; split <;> first | rfl | (dsimp only; split <;> rfl)

@[simp] theorem Chan.emitAt_res (c : Chan) (m n t : Nat) (name : EvName) (obj : Nat) (d : List Word) : (c.emitAt m n t name obj d).res = c.res := by
  unfold Chan.emitAt; split <;> first | rfl | (dsimp only; split <;> rfl)

@[simp] theorem Chan.emitAt_tiles (c : Chan) (m n t : Nat) (name : EvName) (obj : Nat) (d : List Word) : (c.emitAt m n t name obj d).tiles = c.tiles := by
  unfold Chan.emitAt; split <;> first | rfl | (dsimp only; split <;> rfl)

@[simp] theorem Chan.emitAt_vote (c : Chan) (m n t : Nat) (name : EvName) (obj : Nat) (d : List Word) : (c.emitAt m n t name obj d).vote = c.vote := by
  unfold Chan.emitAt; split <;> first | rfl | (dsimp only; split <;> rfl)

@[simp] theorem Chan.emitAt_reint (c : Chan) (m n t : Nat) (name : EvName) (obj : Nat) (d : List Word) : (c.emitAt m n t name obj d).reint = c.reint := by
  unfold Chan.emitAt; split <;> first | rfl | (dsimp only; split <;> rfl)

@[simp] theorem Chan.emitAt_din (c : Chan) (m n t : Nat) (name : EvName) (obj : Nat) (d : List Word) : (c.emitAt m n t name obj d).din = c.din := by
  unfold Chan.emitAt; split <;> first | rfl | (dsimp only; split <;> rfl)

@[simp] theorem Chan.emitAt_dout (c : Chan) (m n t : Nat) (name : EvName) (obj : Nat) (d : List Word) : (c.emitAt m n t name obj d).dout = c.dout := by
  unfold Chan.emitAt; split <;> first | rfl | (dsimp only; split <;> rfl)

@[simp] theorem Chan.emitAt_safe (c : Chan) (m n t : Nat) (name : EvName) (obj : Nat) (d : List Word) : (c.emitAt m n t name obj d).safe = c.safe := by
  unfold Chan.emitAt; split <;> first | rfl | (dsimp only; split <;> rfl)

@[simp] theorem Chan.emitAt_doors (c : Chan) (m n t : Nat) (name : EvName) (obj : Nat) (d : List Word) : (c.emitAt m n t name obj d).doors = c.doors := by
  unfold Chan.emitAt; split <;> first | rfl | (dsimp only; split <;> rfl)

@[simp] theorem Chan.emitAt_sync (c : Chan) (m n t : Nat) (name : EvName) (obj : Nat) (d : List Word) : (c.emitAt m n t name obj d).sync = c.sync := by
  unfold Chan.emitAt; split <;> first | rfl | (dsimp only; split <;> rfl)

@[simp] theorem Chan.emitAt_guard (c : Chan) (m n t : Nat) (name : EvName) (obj : Nat) (d : List Word) : (c.emitAt m n t name obj d).guard = c.guard := by
  unfold Chan.emitAt; split <;> first | rfl | (dsimp only; split <;> rfl)

@[simp] theorem Chan.emitAt_frt (c : Chan) (m n t : Nat) (name : EvName) (obj : Nat) (d : List Word) : (c.emitAt m n t name obj d).frt = c.frt := by
  unfold Chan.emitAt; split <;> first | rfl | (dsimp only; split <;> rfl)

@[simp] theorem Chan.emitAt_fab (c : Chan) (m n t : Nat) (name : EvName) (obj : Nat) (d : List Word) : (c.emitAt m n t name obj d).fab = c.fab := by
  unfold Chan.emitAt; split <;> first | rfl | (dsimp only; split <;> rfl)

@[simp] theorem Chan.emitAt_qm (c : Chan) (m n t : Nat) (name : EvName) (obj : Nat) (d : List Word) : (c.emitAt m n t name obj d).qm = c.qm := by
  unfold Chan.emitAt; split <;> first | rfl | (dsimp only; split <;> rfl)

@[simp] theorem Chan.emitAt_part (c : Chan) (m n t : Nat) (name : EvName) (obj : Nat) (d : List Word) : (c.emitAt m n t name obj d).part = c.part := by
  unfold Chan.emitAt; split <;> first | rfl | (dsimp only; split <;> rfl)

@[simp] theorem Chan.emitAt_mem (c : Chan) (m n t : Nat) (name : EvName) (obj : Nat) (d : List Word) : (c.emitAt m n t name obj d).mem = c.mem := by
  unfold Chan.emitAt; split <;> first | rfl | (dsimp only; split <;> rfl)

@[simp] theorem Chan.emitAt_arb (c : Chan) (m n t : Nat) (name : EvName) (obj : Nat) (d : List Word) : (c.emitAt m n t name obj d).arb = c.arb := by
  unfold Chan.emitAt; split <;> first | rfl | (dsimp only; split <;> rfl)

@[simp] theorem Chan.emitAt_bist (c : Chan) (m n t : Nat) (name : EvName) (obj : Nat) (d : List Word) : (c.emitAt m n t name obj d).bist = c.bist := by
  unfold Chan.emitAt; split <;> first | rfl | (dsimp only; split <;> rfl)

@[simp] theorem Chan.emitAt_host (c : Chan) (m n t : Nat) (name : EvName) (obj : Nat) (d : List Word) : (c.emitAt m n t name obj d).host = c.host := by
  unfold Chan.emitAt; split <;> first | rfl | (dsimp only; split <;> rfl)

@[simp] theorem Chan.emitAt_load (c : Chan) (m n t : Nat) (name : EvName) (obj : Nat) (d : List Word) : (c.emitAt m n t name obj d).load = c.load := by
  unfold Chan.emitAt; split <;> first | rfl | (dsimp only; split <;> rfl)

@[simp] theorem Chan.emitAt_cal (c : Chan) (m n t : Nat) (name : EvName) (obj : Nat) (d : List Word) : (c.emitAt m n t name obj d).cal = c.cal := by
  unfold Chan.emitAt; split <;> first | rfl | (dsimp only; split <;> rfl)

@[simp] theorem Chan.emitAt_mainCycle (c : Chan) (m n t : Nat) (name : EvName) (obj : Nat) (d : List Word) : (c.emitAt m n t name obj d).mainCycle = c.mainCycle := by
  unfold Chan.emitAt; split <;> first | rfl | (dsimp only; split <;> rfl)

@[simp] theorem Chan.emitAt_released (c : Chan) (m n t : Nat) (name : EvName) (obj : Nat) (d : List Word) : (c.emitAt m n t name obj d).released = c.released := by
  unfold Chan.emitAt; split <;> first | rfl | (dsimp only; split <;> rfl)

@[simp] theorem Chan.emitAt_clock (c : Chan) (m n t : Nat) (name : EvName) (obj : Nat) (d : List Word) : (c.emitAt m n t name obj d).clock = c.clock := by
  unfold Chan.emitAt; split <;> first | rfl | (dsimp only; split <;> rfl)

@[simp] theorem Chan.emitAt_t1Clock (c : Chan) (m n t : Nat) (name : EvName) (obj : Nat) (d : List Word) : (c.emitAt m n t name obj d).t1Clock = c.t1Clock := by
  unfold Chan.emitAt; split <;> first | rfl | (dsimp only; split <;> rfl)

@[simp] theorem Chan.emitAt_xout (c : Chan) (m n t : Nat) (name : EvName) (obj : Nat) (d : List Word) : (c.emitAt m n t name obj d).xout = c.xout := by
  unfold Chan.emitAt; split <;> first | rfl | (dsimp only; split <;> rfl)

@[simp] theorem Chan.emitAt_pout (c : Chan) (m n t : Nat) (name : EvName) (obj : Nat) (d : List Word) : (c.emitAt m n t name obj d).pout = c.pout := by
  unfold Chan.emitAt; split <;> first | rfl | (dsimp only; split <;> rfl)

@[simp] theorem Chan.emitAt_react (c : Chan) (m n t : Nat) (name : EvName) (obj : Nat) (d : List Word) : (c.emitAt m n t name obj d).react = c.react := by
  unfold Chan.emitAt; split <;> first | rfl | (dsimp only; split <;> rfl)

@[simp] theorem Chan.emitAt_xwait (c : Chan) (m n t : Nat) (name : EvName) (obj : Nat) (d : List Word) : (c.emitAt m n t name obj d).xwait = c.xwait := by
  unfold Chan.emitAt; split <;> first | rfl | (dsimp only; split <;> rfl)

@[simp] theorem Chan.emitAt_pwait (c : Chan) (m n t : Nat) (name : EvName) (obj : Nat) (d : List Word) : (c.emitAt m n t name obj d).pwait = c.pwait := by
  unfold Chan.emitAt; split <;> first | rfl | (dsimp only; split <;> rfl)

@[simp] theorem Chan.emit_nv (c : Chan) (name : EvName) (obj : Nat) (d : List Word) : (c.emit name obj d).nv = c.nv := by
  simp [Chan.emit]

@[simp] theorem Chan.emit_boot (c : Chan) (name : EvName) (obj : Nat) (d : List Word) : (c.emit name obj d).boot = c.boot := by
  simp [Chan.emit]

@[simp] theorem Chan.emit_supply (c : Chan) (name : EvName) (obj : Nat) (d : List Word) : (c.emit name obj d).supply = c.supply := by
  simp [Chan.emit]

@[simp] theorem Chan.emit_seals (c : Chan) (name : EvName) (obj : Nat) (d : List Word) : (c.emit name obj d).seals = c.seals := by
  simp [Chan.emit]

@[simp] theorem Chan.emit_params (c : Chan) (name : EvName) (obj : Nat) (d : List Word) : (c.emit name obj d).params = c.params := by
  simp [Chan.emit]

@[simp] theorem Chan.emit_image (c : Chan) (name : EvName) (obj : Nat) (d : List Word) : (c.emit name obj d).image = c.image := by
  simp [Chan.emit]

@[simp] theorem Chan.emit_tasks (c : Chan) (name : EvName) (obj : Nat) (d : List Word) : (c.emit name obj d).tasks = c.tasks := by
  simp [Chan.emit]

@[simp] theorem Chan.emit_blocks (c : Chan) (name : EvName) (obj : Nat) (d : List Word) : (c.emit name obj d).blocks = c.blocks := by
  simp [Chan.emit]

@[simp] theorem Chan.emit_res (c : Chan) (name : EvName) (obj : Nat) (d : List Word) : (c.emit name obj d).res = c.res := by
  simp [Chan.emit]

@[simp] theorem Chan.emit_tiles (c : Chan) (name : EvName) (obj : Nat) (d : List Word) : (c.emit name obj d).tiles = c.tiles := by
  simp [Chan.emit]

@[simp] theorem Chan.emit_vote (c : Chan) (name : EvName) (obj : Nat) (d : List Word) : (c.emit name obj d).vote = c.vote := by
  simp [Chan.emit]

@[simp] theorem Chan.emit_reint (c : Chan) (name : EvName) (obj : Nat) (d : List Word) : (c.emit name obj d).reint = c.reint := by
  simp [Chan.emit]

@[simp] theorem Chan.emit_din (c : Chan) (name : EvName) (obj : Nat) (d : List Word) : (c.emit name obj d).din = c.din := by
  simp [Chan.emit]

@[simp] theorem Chan.emit_dout (c : Chan) (name : EvName) (obj : Nat) (d : List Word) : (c.emit name obj d).dout = c.dout := by
  simp [Chan.emit]

@[simp] theorem Chan.emit_safe (c : Chan) (name : EvName) (obj : Nat) (d : List Word) : (c.emit name obj d).safe = c.safe := by
  simp [Chan.emit]

@[simp] theorem Chan.emit_doors (c : Chan) (name : EvName) (obj : Nat) (d : List Word) : (c.emit name obj d).doors = c.doors := by
  simp [Chan.emit]

@[simp] theorem Chan.emit_sync (c : Chan) (name : EvName) (obj : Nat) (d : List Word) : (c.emit name obj d).sync = c.sync := by
  simp [Chan.emit]

@[simp] theorem Chan.emit_guard (c : Chan) (name : EvName) (obj : Nat) (d : List Word) : (c.emit name obj d).guard = c.guard := by
  simp [Chan.emit]

@[simp] theorem Chan.emit_frt (c : Chan) (name : EvName) (obj : Nat) (d : List Word) : (c.emit name obj d).frt = c.frt := by
  simp [Chan.emit]

@[simp] theorem Chan.emit_fab (c : Chan) (name : EvName) (obj : Nat) (d : List Word) : (c.emit name obj d).fab = c.fab := by
  simp [Chan.emit]

@[simp] theorem Chan.emit_qm (c : Chan) (name : EvName) (obj : Nat) (d : List Word) : (c.emit name obj d).qm = c.qm := by
  simp [Chan.emit]

@[simp] theorem Chan.emit_part (c : Chan) (name : EvName) (obj : Nat) (d : List Word) : (c.emit name obj d).part = c.part := by
  simp [Chan.emit]

@[simp] theorem Chan.emit_mem (c : Chan) (name : EvName) (obj : Nat) (d : List Word) : (c.emit name obj d).mem = c.mem := by
  simp [Chan.emit]

@[simp] theorem Chan.emit_arb (c : Chan) (name : EvName) (obj : Nat) (d : List Word) : (c.emit name obj d).arb = c.arb := by
  simp [Chan.emit]

@[simp] theorem Chan.emit_bist (c : Chan) (name : EvName) (obj : Nat) (d : List Word) : (c.emit name obj d).bist = c.bist := by
  simp [Chan.emit]

@[simp] theorem Chan.emit_host (c : Chan) (name : EvName) (obj : Nat) (d : List Word) : (c.emit name obj d).host = c.host := by
  simp [Chan.emit]

@[simp] theorem Chan.emit_load (c : Chan) (name : EvName) (obj : Nat) (d : List Word) : (c.emit name obj d).load = c.load := by
  simp [Chan.emit]

@[simp] theorem Chan.emit_cal (c : Chan) (name : EvName) (obj : Nat) (d : List Word) : (c.emit name obj d).cal = c.cal := by
  simp [Chan.emit]

@[simp] theorem Chan.emit_mainCycle (c : Chan) (name : EvName) (obj : Nat) (d : List Word) : (c.emit name obj d).mainCycle = c.mainCycle := by
  simp [Chan.emit]

@[simp] theorem Chan.emit_released (c : Chan) (name : EvName) (obj : Nat) (d : List Word) : (c.emit name obj d).released = c.released := by
  simp [Chan.emit]

@[simp] theorem Chan.emit_clock (c : Chan) (name : EvName) (obj : Nat) (d : List Word) : (c.emit name obj d).clock = c.clock := by
  simp [Chan.emit]

@[simp] theorem Chan.emit_t1Clock (c : Chan) (name : EvName) (obj : Nat) (d : List Word) : (c.emit name obj d).t1Clock = c.t1Clock := by
  simp [Chan.emit]

@[simp] theorem Chan.emit_xout (c : Chan) (name : EvName) (obj : Nat) (d : List Word) : (c.emit name obj d).xout = c.xout := by
  simp [Chan.emit]

@[simp] theorem Chan.emit_pout (c : Chan) (name : EvName) (obj : Nat) (d : List Word) : (c.emit name obj d).pout = c.pout := by
  simp [Chan.emit]

@[simp] theorem Chan.emit_react (c : Chan) (name : EvName) (obj : Nat) (d : List Word) : (c.emit name obj d).react = c.react := by
  simp [Chan.emit]

@[simp] theorem Chan.emit_xwait (c : Chan) (name : EvName) (obj : Nat) (d : List Word) : (c.emit name obj d).xwait = c.xwait := by
  simp [Chan.emit]

@[simp] theorem Chan.emit_pwait (c : Chan) (name : EvName) (obj : Nat) (d : List Word) : (c.emit name obj d).pwait = c.pwait := by
  simp [Chan.emit]

@[simp] theorem Chan.emitTask_nv (c : Chan) (t : Nat) (name : EvName) (obj : Nat) (d : List Word) : (c.emitTask t name obj d).nv = c.nv := by
  simp [Chan.emitTask]

@[simp] theorem Chan.emitTask_boot (c : Chan) (t : Nat) (name : EvName) (obj : Nat) (d : List Word) : (c.emitTask t name obj d).boot = c.boot := by
  simp [Chan.emitTask]

@[simp] theorem Chan.emitTask_supply (c : Chan) (t : Nat) (name : EvName) (obj : Nat) (d : List Word) : (c.emitTask t name obj d).supply = c.supply := by
  simp [Chan.emitTask]

@[simp] theorem Chan.emitTask_seals (c : Chan) (t : Nat) (name : EvName) (obj : Nat) (d : List Word) : (c.emitTask t name obj d).seals = c.seals := by
  simp [Chan.emitTask]

@[simp] theorem Chan.emitTask_params (c : Chan) (t : Nat) (name : EvName) (obj : Nat) (d : List Word) : (c.emitTask t name obj d).params = c.params := by
  simp [Chan.emitTask]

@[simp] theorem Chan.emitTask_image (c : Chan) (t : Nat) (name : EvName) (obj : Nat) (d : List Word) : (c.emitTask t name obj d).image = c.image := by
  simp [Chan.emitTask]

@[simp] theorem Chan.emitTask_tasks (c : Chan) (t : Nat) (name : EvName) (obj : Nat) (d : List Word) : (c.emitTask t name obj d).tasks = c.tasks := by
  simp [Chan.emitTask]

@[simp] theorem Chan.emitTask_blocks (c : Chan) (t : Nat) (name : EvName) (obj : Nat) (d : List Word) : (c.emitTask t name obj d).blocks = c.blocks := by
  simp [Chan.emitTask]

@[simp] theorem Chan.emitTask_res (c : Chan) (t : Nat) (name : EvName) (obj : Nat) (d : List Word) : (c.emitTask t name obj d).res = c.res := by
  simp [Chan.emitTask]

@[simp] theorem Chan.emitTask_tiles (c : Chan) (t : Nat) (name : EvName) (obj : Nat) (d : List Word) : (c.emitTask t name obj d).tiles = c.tiles := by
  simp [Chan.emitTask]

@[simp] theorem Chan.emitTask_vote (c : Chan) (t : Nat) (name : EvName) (obj : Nat) (d : List Word) : (c.emitTask t name obj d).vote = c.vote := by
  simp [Chan.emitTask]

@[simp] theorem Chan.emitTask_reint (c : Chan) (t : Nat) (name : EvName) (obj : Nat) (d : List Word) : (c.emitTask t name obj d).reint = c.reint := by
  simp [Chan.emitTask]

@[simp] theorem Chan.emitTask_din (c : Chan) (t : Nat) (name : EvName) (obj : Nat) (d : List Word) : (c.emitTask t name obj d).din = c.din := by
  simp [Chan.emitTask]

@[simp] theorem Chan.emitTask_dout (c : Chan) (t : Nat) (name : EvName) (obj : Nat) (d : List Word) : (c.emitTask t name obj d).dout = c.dout := by
  simp [Chan.emitTask]

@[simp] theorem Chan.emitTask_safe (c : Chan) (t : Nat) (name : EvName) (obj : Nat) (d : List Word) : (c.emitTask t name obj d).safe = c.safe := by
  simp [Chan.emitTask]

@[simp] theorem Chan.emitTask_doors (c : Chan) (t : Nat) (name : EvName) (obj : Nat) (d : List Word) : (c.emitTask t name obj d).doors = c.doors := by
  simp [Chan.emitTask]

@[simp] theorem Chan.emitTask_sync (c : Chan) (t : Nat) (name : EvName) (obj : Nat) (d : List Word) : (c.emitTask t name obj d).sync = c.sync := by
  simp [Chan.emitTask]

@[simp] theorem Chan.emitTask_guard (c : Chan) (t : Nat) (name : EvName) (obj : Nat) (d : List Word) : (c.emitTask t name obj d).guard = c.guard := by
  simp [Chan.emitTask]

@[simp] theorem Chan.emitTask_frt (c : Chan) (t : Nat) (name : EvName) (obj : Nat) (d : List Word) : (c.emitTask t name obj d).frt = c.frt := by
  simp [Chan.emitTask]

@[simp] theorem Chan.emitTask_fab (c : Chan) (t : Nat) (name : EvName) (obj : Nat) (d : List Word) : (c.emitTask t name obj d).fab = c.fab := by
  simp [Chan.emitTask]

@[simp] theorem Chan.emitTask_qm (c : Chan) (t : Nat) (name : EvName) (obj : Nat) (d : List Word) : (c.emitTask t name obj d).qm = c.qm := by
  simp [Chan.emitTask]

@[simp] theorem Chan.emitTask_part (c : Chan) (t : Nat) (name : EvName) (obj : Nat) (d : List Word) : (c.emitTask t name obj d).part = c.part := by
  simp [Chan.emitTask]

@[simp] theorem Chan.emitTask_mem (c : Chan) (t : Nat) (name : EvName) (obj : Nat) (d : List Word) : (c.emitTask t name obj d).mem = c.mem := by
  simp [Chan.emitTask]

@[simp] theorem Chan.emitTask_arb (c : Chan) (t : Nat) (name : EvName) (obj : Nat) (d : List Word) : (c.emitTask t name obj d).arb = c.arb := by
  simp [Chan.emitTask]

@[simp] theorem Chan.emitTask_bist (c : Chan) (t : Nat) (name : EvName) (obj : Nat) (d : List Word) : (c.emitTask t name obj d).bist = c.bist := by
  simp [Chan.emitTask]

@[simp] theorem Chan.emitTask_host (c : Chan) (t : Nat) (name : EvName) (obj : Nat) (d : List Word) : (c.emitTask t name obj d).host = c.host := by
  simp [Chan.emitTask]

@[simp] theorem Chan.emitTask_load (c : Chan) (t : Nat) (name : EvName) (obj : Nat) (d : List Word) : (c.emitTask t name obj d).load = c.load := by
  simp [Chan.emitTask]

@[simp] theorem Chan.emitTask_cal (c : Chan) (t : Nat) (name : EvName) (obj : Nat) (d : List Word) : (c.emitTask t name obj d).cal = c.cal := by
  simp [Chan.emitTask]

@[simp] theorem Chan.emitTask_mainCycle (c : Chan) (t : Nat) (name : EvName) (obj : Nat) (d : List Word) : (c.emitTask t name obj d).mainCycle = c.mainCycle := by
  simp [Chan.emitTask]

@[simp] theorem Chan.emitTask_released (c : Chan) (t : Nat) (name : EvName) (obj : Nat) (d : List Word) : (c.emitTask t name obj d).released = c.released := by
  simp [Chan.emitTask]

@[simp] theorem Chan.emitTask_clock (c : Chan) (t : Nat) (name : EvName) (obj : Nat) (d : List Word) : (c.emitTask t name obj d).clock = c.clock := by
  simp [Chan.emitTask]

@[simp] theorem Chan.emitTask_t1Clock (c : Chan) (t : Nat) (name : EvName) (obj : Nat) (d : List Word) : (c.emitTask t name obj d).t1Clock = c.t1Clock := by
  simp [Chan.emitTask]

@[simp] theorem Chan.emitTask_xout (c : Chan) (t : Nat) (name : EvName) (obj : Nat) (d : List Word) : (c.emitTask t name obj d).xout = c.xout := by
  simp [Chan.emitTask]

@[simp] theorem Chan.emitTask_pout (c : Chan) (t : Nat) (name : EvName) (obj : Nat) (d : List Word) : (c.emitTask t name obj d).pout = c.pout := by
  simp [Chan.emitTask]

@[simp] theorem Chan.emitTask_react (c : Chan) (t : Nat) (name : EvName) (obj : Nat) (d : List Word) : (c.emitTask t name obj d).react = c.react := by
  simp [Chan.emitTask]

@[simp] theorem Chan.emitTask_xwait (c : Chan) (t : Nat) (name : EvName) (obj : Nat) (d : List Word) : (c.emitTask t name obj d).xwait = c.xwait := by
  simp [Chan.emitTask]

@[simp] theorem Chan.emitTask_pwait (c : Chan) (t : Nat) (name : EvName) (obj : Nat) (d : List Word) : (c.emitTask t name obj d).pwait = c.pwait := by
  simp [Chan.emitTask]

@[simp] theorem Chan.emitAt_live (c : Chan) (m n t : Nat) (name : EvName) (obj : Nat) (d : List Word) : (c.emitAt m n t name obj d).live = c.live := by
  simp [Chan.live]

@[simp] theorem Chan.emitAt_split (c : Chan) (m n t : Nat) (name : EvName) (obj : Nat) (d : List Word) : (c.emitAt m n t name obj d).split = c.split := by
  simp [Chan.split]

@[simp] theorem Chan.emitAt_running (c : Chan) (m n t : Nat) (name : EvName) (obj : Nat) (d : List Word) : (c.emitAt m n t name obj d).running = c.running := by
  simp [Chan.running, Chan.live]

@[simp] theorem Chan.emitAt_statusOnly (c : Chan) (m n t : Nat) (name : EvName) (obj : Nat) (d : List Word) : (c.emitAt m n t name obj d).statusOnly = c.statusOnly := by
  simp [Chan.statusOnly]

@[simp] theorem Chan.emitAt_voters (c : Chan) (m n t : Nat) (name : EvName) (obj : Nat) (d : List Word) : (c.emitAt m n t name obj d).voters = c.voters := by
  simp [Chan.voters]

@[simp] theorem Chan.emitAt_node (c : Chan) (m n t : Nat) (name : EvName) (obj : Nat) (d : List Word) : (c.emitAt m n t name obj d).node = c.node := by
  simp [Chan.node]

@[simp] theorem Chan.emitAt_rank (c : Chan) (m n t : Nat) (name : EvName) (obj : Nat) (d : List Word) : (c.emitAt m n t name obj d).rank = c.rank := by
  simp [Chan.rank, Chan.node, Chan.rankBit]

@[simp] theorem Chan.emitAt_rankBit (c : Chan) (m n t : Nat) (name : EvName) (obj : Nat) (d : List Word) : (c.emitAt m n t name obj d).rankBit = c.rankBit := by
  simp [Chan.rankBit]

@[simp] theorem Chan.emitAt_nodeKey (c : Chan) (m n t : Nat) (name : EvName) (obj : Nat) (d : List Word) : (c.emitAt m n t name obj d).nodeKey = c.nodeKey := by
  simp [Chan.nodeKey, Chan.node, Chan.rankBit]

@[simp] theorem Chan.emitAt_keyEnrol (c : Chan) (m n t : Nat) (name : EvName) (obj : Nat) (d : List Word) : (c.emitAt m n t name obj d).keyEnrol = c.keyEnrol := by
  simp [Chan.keyEnrol]

@[simp] theorem Chan.emitAt_twin (c : Chan) (m n t : Nat) (name : EvName) (obj : Nat) (d : List Word) : (c.emitAt m n t name obj d).twin = c.twin := by
  simp [Chan.twin]

@[simp] theorem Chan.emitAt_onFabric (c : Chan) (m n t : Nat) (name : EvName) (obj : Nat) (d : List Word) : (c.emitAt m n t name obj d).onFabric = c.onFabric := by
  simp [Chan.onFabric]

@[simp] theorem Chan.emitAt_votes (c : Chan) (m n t : Nat) (name : EvName) (obj : Nat) (d : List Word) (me : Ch) : (c.emitAt m n t name obj d).votes me = c.votes me := by
  simp [Chan.votes]

@[simp] theorem Chan.emitAt_vital (c : Chan) (m n t : Nat) (name : EvName) (obj : Nat) (d : List Word) (me : Ch) : (c.emitAt m n t name obj d).vital me = c.vital me := by
  simp [Chan.vital]

@[simp] theorem Chan.emitAt_task (c : Chan) (m n t : Nat) (name : EvName) (obj : Nat) (d : List Word) (k : Nat) : (c.emitAt m n t name obj d).task k = c.task k := by
  simp [Chan.task]

@[simp] theorem Chan.emitAt_eta (c : Chan) (m n t : Nat) (name : EvName) (obj : Nat) (d : List Word) : { c with recd := (c.emitAt m n t name obj d).recd } = c.emitAt m n t name obj d := by
  unfold Chan.emitAt; split <;> first | rfl | (dsimp only; split <;> rfl)

@[simp] theorem Chan.emit_live (c : Chan) (name : EvName) (obj : Nat) (d : List Word) : (c.emit name obj d).live = c.live := by
  simp [Chan.live]

@[simp] theorem Chan.emit_split (c : Chan) (name : EvName) (obj : Nat) (d : List Word) : (c.emit name obj d).split = c.split := by
  simp [Chan.split]

@[simp] theorem Chan.emit_running (c : Chan) (name : EvName) (obj : Nat) (d : List Word) : (c.emit name obj d).running = c.running := by
  simp [Chan.running, Chan.live]

@[simp] theorem Chan.emit_statusOnly (c : Chan) (name : EvName) (obj : Nat) (d : List Word) : (c.emit name obj d).statusOnly = c.statusOnly := by
  simp [Chan.statusOnly]

@[simp] theorem Chan.emit_voters (c : Chan) (name : EvName) (obj : Nat) (d : List Word) : (c.emit name obj d).voters = c.voters := by
  simp [Chan.voters]

@[simp] theorem Chan.emit_node (c : Chan) (name : EvName) (obj : Nat) (d : List Word) : (c.emit name obj d).node = c.node := by
  simp [Chan.node]

@[simp] theorem Chan.emit_rank (c : Chan) (name : EvName) (obj : Nat) (d : List Word) : (c.emit name obj d).rank = c.rank := by
  simp [Chan.rank, Chan.node, Chan.rankBit]

@[simp] theorem Chan.emit_rankBit (c : Chan) (name : EvName) (obj : Nat) (d : List Word) : (c.emit name obj d).rankBit = c.rankBit := by
  simp [Chan.rankBit]

@[simp] theorem Chan.emit_nodeKey (c : Chan) (name : EvName) (obj : Nat) (d : List Word) : (c.emit name obj d).nodeKey = c.nodeKey := by
  simp [Chan.nodeKey, Chan.node, Chan.rankBit]

@[simp] theorem Chan.emit_keyEnrol (c : Chan) (name : EvName) (obj : Nat) (d : List Word) : (c.emit name obj d).keyEnrol = c.keyEnrol := by
  simp [Chan.keyEnrol]

@[simp] theorem Chan.emit_twin (c : Chan) (name : EvName) (obj : Nat) (d : List Word) : (c.emit name obj d).twin = c.twin := by
  simp [Chan.twin]

@[simp] theorem Chan.emit_onFabric (c : Chan) (name : EvName) (obj : Nat) (d : List Word) : (c.emit name obj d).onFabric = c.onFabric := by
  simp [Chan.onFabric]

@[simp] theorem Chan.emit_votes (c : Chan) (name : EvName) (obj : Nat) (d : List Word) (me : Ch) : (c.emit name obj d).votes me = c.votes me := by
  simp [Chan.votes]

@[simp] theorem Chan.emit_vital (c : Chan) (name : EvName) (obj : Nat) (d : List Word) (me : Ch) : (c.emit name obj d).vital me = c.vital me := by
  simp [Chan.vital]

@[simp] theorem Chan.emit_task (c : Chan) (name : EvName) (obj : Nat) (d : List Word) (k : Nat) : (c.emit name obj d).task k = c.task k := by
  simp [Chan.task]

@[simp] theorem Chan.emit_eta (c : Chan) (name : EvName) (obj : Nat) (d : List Word) : { c with recd := (c.emit name obj d).recd } = c.emit name obj d := by
  exact Chan.emitAt_eta _ _ _ _ _ _ _

@[simp] theorem Chan.emitTask_live (c : Chan) (t : Nat) (name : EvName) (obj : Nat) (d : List Word) : (c.emitTask t name obj d).live = c.live := by
  simp [Chan.live]

@[simp] theorem Chan.emitTask_split (c : Chan) (t : Nat) (name : EvName) (obj : Nat) (d : List Word) : (c.emitTask t name obj d).split = c.split := by
  simp [Chan.split]

@[simp] theorem Chan.emitTask_running (c : Chan) (t : Nat) (name : EvName) (obj : Nat) (d : List Word) : (c.emitTask t name obj d).running = c.running := by
  simp [Chan.running, Chan.live]

@[simp] theorem Chan.emitTask_statusOnly (c : Chan) (t : Nat) (name : EvName) (obj : Nat) (d : List Word) : (c.emitTask t name obj d).statusOnly = c.statusOnly := by
  simp [Chan.statusOnly]

@[simp] theorem Chan.emitTask_voters (c : Chan) (t : Nat) (name : EvName) (obj : Nat) (d : List Word) : (c.emitTask t name obj d).voters = c.voters := by
  simp [Chan.voters]

@[simp] theorem Chan.emitTask_node (c : Chan) (t : Nat) (name : EvName) (obj : Nat) (d : List Word) : (c.emitTask t name obj d).node = c.node := by
  simp [Chan.node]

@[simp] theorem Chan.emitTask_rank (c : Chan) (t : Nat) (name : EvName) (obj : Nat) (d : List Word) : (c.emitTask t name obj d).rank = c.rank := by
  simp [Chan.rank, Chan.node, Chan.rankBit]

@[simp] theorem Chan.emitTask_rankBit (c : Chan) (t : Nat) (name : EvName) (obj : Nat) (d : List Word) : (c.emitTask t name obj d).rankBit = c.rankBit := by
  simp [Chan.rankBit]

@[simp] theorem Chan.emitTask_nodeKey (c : Chan) (t : Nat) (name : EvName) (obj : Nat) (d : List Word) : (c.emitTask t name obj d).nodeKey = c.nodeKey := by
  simp [Chan.nodeKey, Chan.node, Chan.rankBit]

@[simp] theorem Chan.emitTask_keyEnrol (c : Chan) (t : Nat) (name : EvName) (obj : Nat) (d : List Word) : (c.emitTask t name obj d).keyEnrol = c.keyEnrol := by
  simp [Chan.keyEnrol]

@[simp] theorem Chan.emitTask_twin (c : Chan) (t : Nat) (name : EvName) (obj : Nat) (d : List Word) : (c.emitTask t name obj d).twin = c.twin := by
  simp [Chan.twin]

@[simp] theorem Chan.emitTask_onFabric (c : Chan) (t : Nat) (name : EvName) (obj : Nat) (d : List Word) : (c.emitTask t name obj d).onFabric = c.onFabric := by
  simp [Chan.onFabric]

@[simp] theorem Chan.emitTask_votes (c : Chan) (t : Nat) (name : EvName) (obj : Nat) (d : List Word) (me : Ch) : (c.emitTask t name obj d).votes me = c.votes me := by
  simp [Chan.votes]

@[simp] theorem Chan.emitTask_vital (c : Chan) (t : Nat) (name : EvName) (obj : Nat) (d : List Word) (me : Ch) : (c.emitTask t name obj d).vital me = c.vital me := by
  simp [Chan.vital]

@[simp] theorem Chan.emitTask_task (c : Chan) (t : Nat) (name : EvName) (obj : Nat) (d : List Word) (k : Nat) : (c.emitTask t name obj d).task k = c.task k := by
  simp [Chan.task]

@[simp] theorem Chan.emitTask_eta (c : Chan) (t : Nat) (name : EvName) (obj : Nat) (d : List Word) : { c with recd := (c.emitTask t name obj d).recd } = c.emitTask t name obj d := by
  exact Chan.emitAt_eta _ _ _ _ _ _ _

/-! ### Transfers: the outboxes, what waits for them, and the sequence numbers alone -/

@[simp] theorem Chan.xput_nv (c : Chan) (dst : Ch) (msg : XMsg) : (c.xput dst msg).nv = c.nv := by
  rfl

@[simp] theorem Chan.xput_boot (c : Chan) (dst : Ch) (msg : XMsg) : (c.xput dst msg).boot = c.boot := by
  rfl

@[simp] theorem Chan.xput_supply (c : Chan) (dst : Ch) (msg : XMsg) : (c.xput dst msg).supply = c.supply := by
  rfl

@[simp] theorem Chan.xput_seals (c : Chan) (dst : Ch) (msg : XMsg) : (c.xput dst msg).seals = c.seals := by
  rfl

@[simp] theorem Chan.xput_params (c : Chan) (dst : Ch) (msg : XMsg) : (c.xput dst msg).params = c.params := by
  rfl

@[simp] theorem Chan.xput_image (c : Chan) (dst : Ch) (msg : XMsg) : (c.xput dst msg).image = c.image := by
  rfl

@[simp] theorem Chan.xput_tasks (c : Chan) (dst : Ch) (msg : XMsg) : (c.xput dst msg).tasks = c.tasks := by
  rfl

@[simp] theorem Chan.xput_blocks (c : Chan) (dst : Ch) (msg : XMsg) : (c.xput dst msg).blocks = c.blocks := by
  rfl

@[simp] theorem Chan.xput_res (c : Chan) (dst : Ch) (msg : XMsg) : (c.xput dst msg).res = c.res := by
  rfl

@[simp] theorem Chan.xput_tiles (c : Chan) (dst : Ch) (msg : XMsg) : (c.xput dst msg).tiles = c.tiles := by
  rfl

@[simp] theorem Chan.xput_reint (c : Chan) (dst : Ch) (msg : XMsg) : (c.xput dst msg).reint = c.reint := by
  rfl

@[simp] theorem Chan.xput_din (c : Chan) (dst : Ch) (msg : XMsg) : (c.xput dst msg).din = c.din := by
  rfl

@[simp] theorem Chan.xput_dout (c : Chan) (dst : Ch) (msg : XMsg) : (c.xput dst msg).dout = c.dout := by
  rfl

@[simp] theorem Chan.xput_safe (c : Chan) (dst : Ch) (msg : XMsg) : (c.xput dst msg).safe = c.safe := by
  rfl

@[simp] theorem Chan.xput_doors (c : Chan) (dst : Ch) (msg : XMsg) : (c.xput dst msg).doors = c.doors := by
  rfl

@[simp] theorem Chan.xput_sync (c : Chan) (dst : Ch) (msg : XMsg) : (c.xput dst msg).sync = c.sync := by
  rfl

@[simp] theorem Chan.xput_guard (c : Chan) (dst : Ch) (msg : XMsg) : (c.xput dst msg).guard = c.guard := by
  rfl

@[simp] theorem Chan.xput_frt (c : Chan) (dst : Ch) (msg : XMsg) : (c.xput dst msg).frt = c.frt := by
  rfl

@[simp] theorem Chan.xput_fab (c : Chan) (dst : Ch) (msg : XMsg) : (c.xput dst msg).fab = c.fab := by
  rfl

@[simp] theorem Chan.xput_qm (c : Chan) (dst : Ch) (msg : XMsg) : (c.xput dst msg).qm = c.qm := by
  rfl

@[simp] theorem Chan.xput_part (c : Chan) (dst : Ch) (msg : XMsg) : (c.xput dst msg).part = c.part := by
  rfl

@[simp] theorem Chan.xput_mem (c : Chan) (dst : Ch) (msg : XMsg) : (c.xput dst msg).mem = c.mem := by
  rfl

@[simp] theorem Chan.xput_arb (c : Chan) (dst : Ch) (msg : XMsg) : (c.xput dst msg).arb = c.arb := by
  rfl

@[simp] theorem Chan.xput_bist (c : Chan) (dst : Ch) (msg : XMsg) : (c.xput dst msg).bist = c.bist := by
  rfl

@[simp] theorem Chan.xput_recd (c : Chan) (dst : Ch) (msg : XMsg) : (c.xput dst msg).recd = c.recd := by
  rfl

@[simp] theorem Chan.xput_host (c : Chan) (dst : Ch) (msg : XMsg) : (c.xput dst msg).host = c.host := by
  rfl

@[simp] theorem Chan.xput_load (c : Chan) (dst : Ch) (msg : XMsg) : (c.xput dst msg).load = c.load := by
  rfl

@[simp] theorem Chan.xput_cal (c : Chan) (dst : Ch) (msg : XMsg) : (c.xput dst msg).cal = c.cal := by
  rfl

@[simp] theorem Chan.xput_mainCycle (c : Chan) (dst : Ch) (msg : XMsg) : (c.xput dst msg).mainCycle = c.mainCycle := by
  rfl

@[simp] theorem Chan.xput_released (c : Chan) (dst : Ch) (msg : XMsg) : (c.xput dst msg).released = c.released := by
  rfl

@[simp] theorem Chan.xput_react (c : Chan) (dst : Ch) (msg : XMsg) : (c.xput dst msg).react = c.react := by
  rfl

@[simp] theorem Chan.xput_clock (c : Chan) (dst : Ch) (msg : XMsg) : (c.xput dst msg).clock = c.clock := by
  rfl

@[simp] theorem Chan.xput_t1Clock (c : Chan) (dst : Ch) (msg : XMsg) : (c.xput dst msg).t1Clock = c.t1Clock := by
  rfl

@[simp] theorem Chan.xput_pout (c : Chan) (dst : Ch) (msg : XMsg) : (c.xput dst msg).pout = c.pout := by
  rfl

@[simp] theorem Chan.xput_xwait (c : Chan) (dst : Ch) (msg : XMsg) : (c.xput dst msg).xwait = c.xwait := by
  rfl

@[simp] theorem Chan.xput_pwait (c : Chan) (dst : Ch) (msg : XMsg) : (c.xput dst msg).pwait = c.pwait := by
  rfl

@[simp] theorem Chan.xput_vote_mode (c : Chan) (dst : Ch) (msg : XMsg) : (c.xput dst msg).vote.mode = c.vote.mode := by
  rfl

@[simp] theorem Chan.xput_vote_inVote (c : Chan) (dst : Ch) (msg : XMsg) : (c.xput dst msg).vote.inVote = c.vote.inVote := by
  rfl

@[simp] theorem Chan.xput_vote_probation (c : Chan) (dst : Ch) (msg : XMsg) : (c.xput dst msg).vote.probation = c.vote.probation := by
  rfl

@[simp] theorem Chan.xput_vote_degWarn (c : Chan) (dst : Ch) (msg : XMsg) : (c.xput dst msg).vote.degWarn = c.vote.degWarn := by
  rfl

@[simp] theorem Chan.xput_vote_degUs (c : Chan) (dst : Ch) (msg : XMsg) : (c.xput dst msg).vote.degUs = c.vote.degUs := by
  rfl

@[simp] theorem Chan.xput_vote_goodUs (c : Chan) (dst : Ch) (msg : XMsg) : (c.xput dst msg).vote.goodUs = c.vote.goodUs := by
  rfl

@[simp] theorem Chan.xput_vote_kept (c : Chan) (dst : Ch) (msg : XMsg) : (c.xput dst msg).vote.kept = c.vote.kept := by
  rfl

@[simp] theorem Chan.xput_vote_corrupt (c : Chan) (dst : Ch) (msg : XMsg) : (c.xput dst msg).vote.corrupt = c.vote.corrupt := by
  rfl

@[simp] theorem Chan.xput_vote_full (c : Chan) (dst : Ch) (msg : XMsg) : (c.xput dst msg).vote.full = c.vote.full := by
  rfl

@[simp] theorem Chan.xput_vote_stale (c : Chan) (dst : Ch) (msg : XMsg) : (c.xput dst msg).vote.stale = c.vote.stale := by
  rfl

@[simp] theorem Chan.xput_vote_rxSeq (c : Chan) (dst : Ch) (msg : XMsg) : (c.xput dst msg).vote.rxSeq = c.vote.rxSeq := by
  rfl

@[simp] theorem Chan.xput_vote_corruptCnt (c : Chan) (dst : Ch) (msg : XMsg) : (c.xput dst msg).vote.corruptCnt = c.vote.corruptCnt := by
  rfl

@[simp] theorem Chan.xput_vote_staleCnt (c : Chan) (dst : Ch) (msg : XMsg) : (c.xput dst msg).vote.staleCnt = c.vote.staleCnt := by
  rfl

@[simp] theorem Chan.xput_vote_lateCnt (c : Chan) (dst : Ch) (msg : XMsg) : (c.xput dst msg).vote.lateCnt = c.vote.lateCnt := by
  rfl

@[simp] theorem Chan.xput_vote_dissentCnt (c : Chan) (dst : Ch) (msg : XMsg) : (c.xput dst msg).vote.dissentCnt = c.vote.dissentCnt := by
  rfl

@[simp] theorem Chan.xput_vote_lastDissent (c : Chan) (dst : Ch) (msg : XMsg) : (c.xput dst msg).vote.lastDissent = c.vote.lastDissent := by
  rfl

@[simp] theorem Chan.xput_vote_outcome (c : Chan) (dst : Ch) (msg : XMsg) : (c.xput dst msg).vote.outcome = c.vote.outcome := by
  rfl

@[simp] theorem Chan.xput_vote_t1Digest (c : Chan) (dst : Ch) (msg : XMsg) : (c.xput dst msg).vote.t1Digest = c.vote.t1Digest := by
  rfl

@[simp] theorem Chan.xput_vote_cut (c : Chan) (dst : Ch) (msg : XMsg) : (c.xput dst msg).vote.cut = c.vote.cut := by
  rfl

@[simp] theorem Chan.xput_vote_single (c : Chan) (dst : Ch) (msg : XMsg) : (c.xput dst msg).vote.single = c.vote.single := by
  rfl

@[simp] theorem Chan.xput_vote_naming (c : Chan) (dst : Ch) (msg : XMsg) : (c.xput dst msg).vote.naming = c.vote.naming := by
  rfl

@[simp] theorem Chan.xput_vote_verdicts (c : Chan) (dst : Ch) (msg : XMsg) : (c.xput dst msg).vote.verdicts = c.vote.verdicts := by
  rfl

@[simp] theorem Chan.xput_vote_ackDue (c : Chan) (dst : Ch) (msg : XMsg) : (c.xput dst msg).vote.ackDue = c.vote.ackDue := by
  rfl

@[simp] theorem Chan.xput_vote_acked (c : Chan) (dst : Ch) (msg : XMsg) : (c.xput dst msg).vote.acked = c.vote.acked := by
  rfl

@[simp] theorem Chan.xput_vote_exclCause (c : Chan) (dst : Ch) (msg : XMsg) : (c.xput dst msg).vote.exclCause = c.vote.exclCause := by
  rfl

@[simp] theorem Chan.xput_vote_withdrawn (c : Chan) (dst : Ch) (msg : XMsg) : (c.xput dst msg).vote.withdrawn = c.vote.withdrawn := by
  rfl

@[simp] theorem Chan.xput_vote_skewJudged (c : Chan) (dst : Ch) (msg : XMsg) : (c.xput dst msg).vote.skewJudged = c.vote.skewJudged := by
  rfl

@[simp] theorem Chan.xput_vote_skews (c : Chan) (dst : Ch) (msg : XMsg) : (c.xput dst msg).vote.skews = c.vote.skews := by
  rfl

@[simp] theorem Chan.xput_vote_early (c : Chan) (dst : Ch) (msg : XMsg) : (c.xput dst msg).vote.early = c.vote.early := by
  rfl

@[simp] theorem Chan.xput_vote_offsets (c : Chan) (dst : Ch) (msg : XMsg) : (c.xput dst msg).vote.offsets = c.vote.offsets := by
  rfl

@[simp] theorem Chan.xput_vote_skewOffset (c : Chan) (dst : Ch) (msg : XMsg) : (c.xput dst msg).vote.skewOffset = c.vote.skewOffset := by
  rfl

@[simp] theorem Chan.xput_vote_skewCnt (c : Chan) (dst : Ch) (msg : XMsg) : (c.xput dst msg).vote.skewCnt = c.vote.skewCnt := by
  rfl

@[simp] theorem Chan.xput_vote_moveNext (c : Chan) (dst : Ch) (msg : XMsg) : (c.xput dst msg).vote.moveNext = c.vote.moveNext := by
  rfl

@[simp] theorem Chan.xput_vote_injFail (c : Chan) (dst : Ch) (msg : XMsg) : (c.xput dst msg).vote.injFail = c.vote.injFail := by
  rfl

@[simp] theorem Chan.xput_vote_injDone (c : Chan) (dst : Ch) (msg : XMsg) : (c.xput dst msg).vote.injDone = c.vote.injDone := by
  rfl

@[simp] theorem Chan.xput_vote_injTest (c : Chan) (dst : Ch) (msg : XMsg) : (c.xput dst msg).vote.injTest = c.vote.injTest := by
  rfl

@[simp] theorem Chan.xput_vote_injPath (c : Chan) (dst : Ch) (msg : XMsg) : (c.xput dst msg).vote.injPath = c.vote.injPath := by
  rfl

@[simp] theorem Chan.xput_vote_injWord (c : Chan) (dst : Ch) (msg : XMsg) : (c.xput dst msg).vote.injWord = c.vote.injWord := by
  rfl

@[simp] theorem Chan.xput_vote_outFault (c : Chan) (dst : Ch) (msg : XMsg) : (c.xput dst msg).vote.outFault = c.vote.outFault := by
  rfl

@[simp] theorem Chan.xput_vote_recFault (c : Chan) (dst : Ch) (msg : XMsg) : (c.xput dst msg).vote.recFault = c.vote.recFault := by
  rfl

@[simp] theorem Chan.xput_vote_decided (c : Chan) (dst : Ch) (msg : XMsg) : (c.xput dst msg).vote.decided = c.vote.decided := by
  rfl

@[simp] theorem Chan.xsend_nv (c : Chan) (dst : Ch) (msg : XMsg) : (c.xsend dst msg).nv = c.nv := by
  unfold Chan.xsend; split <;> first | rfl | (split <;> rfl)

@[simp] theorem Chan.xsend_boot (c : Chan) (dst : Ch) (msg : XMsg) : (c.xsend dst msg).boot = c.boot := by
  unfold Chan.xsend; split <;> first | rfl | (split <;> rfl)

@[simp] theorem Chan.xsend_supply (c : Chan) (dst : Ch) (msg : XMsg) : (c.xsend dst msg).supply = c.supply := by
  unfold Chan.xsend; split <;> first | rfl | (split <;> rfl)

@[simp] theorem Chan.xsend_seals (c : Chan) (dst : Ch) (msg : XMsg) : (c.xsend dst msg).seals = c.seals := by
  unfold Chan.xsend; split <;> first | rfl | (split <;> rfl)

@[simp] theorem Chan.xsend_params (c : Chan) (dst : Ch) (msg : XMsg) : (c.xsend dst msg).params = c.params := by
  unfold Chan.xsend; split <;> first | rfl | (split <;> rfl)

@[simp] theorem Chan.xsend_image (c : Chan) (dst : Ch) (msg : XMsg) : (c.xsend dst msg).image = c.image := by
  unfold Chan.xsend; split <;> first | rfl | (split <;> rfl)

@[simp] theorem Chan.xsend_tasks (c : Chan) (dst : Ch) (msg : XMsg) : (c.xsend dst msg).tasks = c.tasks := by
  unfold Chan.xsend; split <;> first | rfl | (split <;> rfl)

@[simp] theorem Chan.xsend_blocks (c : Chan) (dst : Ch) (msg : XMsg) : (c.xsend dst msg).blocks = c.blocks := by
  unfold Chan.xsend; split <;> first | rfl | (split <;> rfl)

@[simp] theorem Chan.xsend_res (c : Chan) (dst : Ch) (msg : XMsg) : (c.xsend dst msg).res = c.res := by
  unfold Chan.xsend; split <;> first | rfl | (split <;> rfl)

@[simp] theorem Chan.xsend_tiles (c : Chan) (dst : Ch) (msg : XMsg) : (c.xsend dst msg).tiles = c.tiles := by
  unfold Chan.xsend; split <;> first | rfl | (split <;> rfl)

@[simp] theorem Chan.xsend_reint (c : Chan) (dst : Ch) (msg : XMsg) : (c.xsend dst msg).reint = c.reint := by
  unfold Chan.xsend; split <;> first | rfl | (split <;> rfl)

@[simp] theorem Chan.xsend_din (c : Chan) (dst : Ch) (msg : XMsg) : (c.xsend dst msg).din = c.din := by
  unfold Chan.xsend; split <;> first | rfl | (split <;> rfl)

@[simp] theorem Chan.xsend_dout (c : Chan) (dst : Ch) (msg : XMsg) : (c.xsend dst msg).dout = c.dout := by
  unfold Chan.xsend; split <;> first | rfl | (split <;> rfl)

@[simp] theorem Chan.xsend_safe (c : Chan) (dst : Ch) (msg : XMsg) : (c.xsend dst msg).safe = c.safe := by
  unfold Chan.xsend; split <;> first | rfl | (split <;> rfl)

@[simp] theorem Chan.xsend_doors (c : Chan) (dst : Ch) (msg : XMsg) : (c.xsend dst msg).doors = c.doors := by
  unfold Chan.xsend; split <;> first | rfl | (split <;> rfl)

@[simp] theorem Chan.xsend_sync (c : Chan) (dst : Ch) (msg : XMsg) : (c.xsend dst msg).sync = c.sync := by
  unfold Chan.xsend; split <;> first | rfl | (split <;> rfl)

@[simp] theorem Chan.xsend_guard (c : Chan) (dst : Ch) (msg : XMsg) : (c.xsend dst msg).guard = c.guard := by
  unfold Chan.xsend; split <;> first | rfl | (split <;> rfl)

@[simp] theorem Chan.xsend_frt (c : Chan) (dst : Ch) (msg : XMsg) : (c.xsend dst msg).frt = c.frt := by
  unfold Chan.xsend; split <;> first | rfl | (split <;> rfl)

@[simp] theorem Chan.xsend_fab (c : Chan) (dst : Ch) (msg : XMsg) : (c.xsend dst msg).fab = c.fab := by
  unfold Chan.xsend; split <;> first | rfl | (split <;> rfl)

@[simp] theorem Chan.xsend_qm (c : Chan) (dst : Ch) (msg : XMsg) : (c.xsend dst msg).qm = c.qm := by
  unfold Chan.xsend; split <;> first | rfl | (split <;> rfl)

@[simp] theorem Chan.xsend_part (c : Chan) (dst : Ch) (msg : XMsg) : (c.xsend dst msg).part = c.part := by
  unfold Chan.xsend; split <;> first | rfl | (split <;> rfl)

@[simp] theorem Chan.xsend_mem (c : Chan) (dst : Ch) (msg : XMsg) : (c.xsend dst msg).mem = c.mem := by
  unfold Chan.xsend; split <;> first | rfl | (split <;> rfl)

@[simp] theorem Chan.xsend_arb (c : Chan) (dst : Ch) (msg : XMsg) : (c.xsend dst msg).arb = c.arb := by
  unfold Chan.xsend; split <;> first | rfl | (split <;> rfl)

@[simp] theorem Chan.xsend_bist (c : Chan) (dst : Ch) (msg : XMsg) : (c.xsend dst msg).bist = c.bist := by
  unfold Chan.xsend; split <;> first | rfl | (split <;> rfl)

@[simp] theorem Chan.xsend_recd (c : Chan) (dst : Ch) (msg : XMsg) : (c.xsend dst msg).recd = c.recd := by
  unfold Chan.xsend; split <;> first | rfl | (split <;> rfl)

@[simp] theorem Chan.xsend_host (c : Chan) (dst : Ch) (msg : XMsg) : (c.xsend dst msg).host = c.host := by
  unfold Chan.xsend; split <;> first | rfl | (split <;> rfl)

@[simp] theorem Chan.xsend_load (c : Chan) (dst : Ch) (msg : XMsg) : (c.xsend dst msg).load = c.load := by
  unfold Chan.xsend; split <;> first | rfl | (split <;> rfl)

@[simp] theorem Chan.xsend_cal (c : Chan) (dst : Ch) (msg : XMsg) : (c.xsend dst msg).cal = c.cal := by
  unfold Chan.xsend; split <;> first | rfl | (split <;> rfl)

@[simp] theorem Chan.xsend_mainCycle (c : Chan) (dst : Ch) (msg : XMsg) : (c.xsend dst msg).mainCycle = c.mainCycle := by
  unfold Chan.xsend; split <;> first | rfl | (split <;> rfl)

@[simp] theorem Chan.xsend_released (c : Chan) (dst : Ch) (msg : XMsg) : (c.xsend dst msg).released = c.released := by
  unfold Chan.xsend; split <;> first | rfl | (split <;> rfl)

@[simp] theorem Chan.xsend_react (c : Chan) (dst : Ch) (msg : XMsg) : (c.xsend dst msg).react = c.react := by
  unfold Chan.xsend; split <;> first | rfl | (split <;> rfl)

@[simp] theorem Chan.xsend_clock (c : Chan) (dst : Ch) (msg : XMsg) : (c.xsend dst msg).clock = c.clock := by
  unfold Chan.xsend; split <;> first | rfl | (split <;> rfl)

@[simp] theorem Chan.xsend_t1Clock (c : Chan) (dst : Ch) (msg : XMsg) : (c.xsend dst msg).t1Clock = c.t1Clock := by
  unfold Chan.xsend; split <;> first | rfl | (split <;> rfl)

@[simp] theorem Chan.xsend_pout (c : Chan) (dst : Ch) (msg : XMsg) : (c.xsend dst msg).pout = c.pout := by
  unfold Chan.xsend; split <;> first | rfl | (split <;> rfl)

@[simp] theorem Chan.xsend_pwait (c : Chan) (dst : Ch) (msg : XMsg) : (c.xsend dst msg).pwait = c.pwait := by
  unfold Chan.xsend; split <;> first | rfl | (split <;> rfl)

@[simp] theorem Chan.xsend_vote_mode (c : Chan) (dst : Ch) (msg : XMsg) : (c.xsend dst msg).vote.mode = c.vote.mode := by
  unfold Chan.xsend; split <;> first | rfl | (split <;> rfl)

@[simp] theorem Chan.xsend_vote_inVote (c : Chan) (dst : Ch) (msg : XMsg) : (c.xsend dst msg).vote.inVote = c.vote.inVote := by
  unfold Chan.xsend; split <;> first | rfl | (split <;> rfl)

@[simp] theorem Chan.xsend_vote_probation (c : Chan) (dst : Ch) (msg : XMsg) : (c.xsend dst msg).vote.probation = c.vote.probation := by
  unfold Chan.xsend; split <;> first | rfl | (split <;> rfl)

@[simp] theorem Chan.xsend_vote_degWarn (c : Chan) (dst : Ch) (msg : XMsg) : (c.xsend dst msg).vote.degWarn = c.vote.degWarn := by
  unfold Chan.xsend; split <;> first | rfl | (split <;> rfl)

@[simp] theorem Chan.xsend_vote_degUs (c : Chan) (dst : Ch) (msg : XMsg) : (c.xsend dst msg).vote.degUs = c.vote.degUs := by
  unfold Chan.xsend; split <;> first | rfl | (split <;> rfl)

@[simp] theorem Chan.xsend_vote_goodUs (c : Chan) (dst : Ch) (msg : XMsg) : (c.xsend dst msg).vote.goodUs = c.vote.goodUs := by
  unfold Chan.xsend; split <;> first | rfl | (split <;> rfl)

@[simp] theorem Chan.xsend_vote_kept (c : Chan) (dst : Ch) (msg : XMsg) : (c.xsend dst msg).vote.kept = c.vote.kept := by
  unfold Chan.xsend; split <;> first | rfl | (split <;> rfl)

@[simp] theorem Chan.xsend_vote_corrupt (c : Chan) (dst : Ch) (msg : XMsg) : (c.xsend dst msg).vote.corrupt = c.vote.corrupt := by
  unfold Chan.xsend; split <;> first | rfl | (split <;> rfl)

@[simp] theorem Chan.xsend_vote_full (c : Chan) (dst : Ch) (msg : XMsg) : (c.xsend dst msg).vote.full = c.vote.full := by
  unfold Chan.xsend; split <;> first | rfl | (split <;> rfl)

@[simp] theorem Chan.xsend_vote_stale (c : Chan) (dst : Ch) (msg : XMsg) : (c.xsend dst msg).vote.stale = c.vote.stale := by
  unfold Chan.xsend; split <;> first | rfl | (split <;> rfl)

@[simp] theorem Chan.xsend_vote_rxSeq (c : Chan) (dst : Ch) (msg : XMsg) : (c.xsend dst msg).vote.rxSeq = c.vote.rxSeq := by
  unfold Chan.xsend; split <;> first | rfl | (split <;> rfl)

@[simp] theorem Chan.xsend_vote_corruptCnt (c : Chan) (dst : Ch) (msg : XMsg) : (c.xsend dst msg).vote.corruptCnt = c.vote.corruptCnt := by
  unfold Chan.xsend; split <;> first | rfl | (split <;> rfl)

@[simp] theorem Chan.xsend_vote_staleCnt (c : Chan) (dst : Ch) (msg : XMsg) : (c.xsend dst msg).vote.staleCnt = c.vote.staleCnt := by
  unfold Chan.xsend; split <;> first | rfl | (split <;> rfl)

@[simp] theorem Chan.xsend_vote_lateCnt (c : Chan) (dst : Ch) (msg : XMsg) : (c.xsend dst msg).vote.lateCnt = c.vote.lateCnt := by
  unfold Chan.xsend; split <;> first | rfl | (split <;> rfl)

@[simp] theorem Chan.xsend_vote_dissentCnt (c : Chan) (dst : Ch) (msg : XMsg) : (c.xsend dst msg).vote.dissentCnt = c.vote.dissentCnt := by
  unfold Chan.xsend; split <;> first | rfl | (split <;> rfl)

@[simp] theorem Chan.xsend_vote_lastDissent (c : Chan) (dst : Ch) (msg : XMsg) : (c.xsend dst msg).vote.lastDissent = c.vote.lastDissent := by
  unfold Chan.xsend; split <;> first | rfl | (split <;> rfl)

@[simp] theorem Chan.xsend_vote_outcome (c : Chan) (dst : Ch) (msg : XMsg) : (c.xsend dst msg).vote.outcome = c.vote.outcome := by
  unfold Chan.xsend; split <;> first | rfl | (split <;> rfl)

@[simp] theorem Chan.xsend_vote_t1Digest (c : Chan) (dst : Ch) (msg : XMsg) : (c.xsend dst msg).vote.t1Digest = c.vote.t1Digest := by
  unfold Chan.xsend; split <;> first | rfl | (split <;> rfl)

@[simp] theorem Chan.xsend_vote_cut (c : Chan) (dst : Ch) (msg : XMsg) : (c.xsend dst msg).vote.cut = c.vote.cut := by
  unfold Chan.xsend; split <;> first | rfl | (split <;> rfl)

@[simp] theorem Chan.xsend_vote_single (c : Chan) (dst : Ch) (msg : XMsg) : (c.xsend dst msg).vote.single = c.vote.single := by
  unfold Chan.xsend; split <;> first | rfl | (split <;> rfl)

@[simp] theorem Chan.xsend_vote_naming (c : Chan) (dst : Ch) (msg : XMsg) : (c.xsend dst msg).vote.naming = c.vote.naming := by
  unfold Chan.xsend; split <;> first | rfl | (split <;> rfl)

@[simp] theorem Chan.xsend_vote_verdicts (c : Chan) (dst : Ch) (msg : XMsg) : (c.xsend dst msg).vote.verdicts = c.vote.verdicts := by
  unfold Chan.xsend; split <;> first | rfl | (split <;> rfl)

@[simp] theorem Chan.xsend_vote_ackDue (c : Chan) (dst : Ch) (msg : XMsg) : (c.xsend dst msg).vote.ackDue = c.vote.ackDue := by
  unfold Chan.xsend; split <;> first | rfl | (split <;> rfl)

@[simp] theorem Chan.xsend_vote_acked (c : Chan) (dst : Ch) (msg : XMsg) : (c.xsend dst msg).vote.acked = c.vote.acked := by
  unfold Chan.xsend; split <;> first | rfl | (split <;> rfl)

@[simp] theorem Chan.xsend_vote_exclCause (c : Chan) (dst : Ch) (msg : XMsg) : (c.xsend dst msg).vote.exclCause = c.vote.exclCause := by
  unfold Chan.xsend; split <;> first | rfl | (split <;> rfl)

@[simp] theorem Chan.xsend_vote_withdrawn (c : Chan) (dst : Ch) (msg : XMsg) : (c.xsend dst msg).vote.withdrawn = c.vote.withdrawn := by
  unfold Chan.xsend; split <;> first | rfl | (split <;> rfl)

@[simp] theorem Chan.xsend_vote_skewJudged (c : Chan) (dst : Ch) (msg : XMsg) : (c.xsend dst msg).vote.skewJudged = c.vote.skewJudged := by
  unfold Chan.xsend; split <;> first | rfl | (split <;> rfl)

@[simp] theorem Chan.xsend_vote_skews (c : Chan) (dst : Ch) (msg : XMsg) : (c.xsend dst msg).vote.skews = c.vote.skews := by
  unfold Chan.xsend; split <;> first | rfl | (split <;> rfl)

@[simp] theorem Chan.xsend_vote_early (c : Chan) (dst : Ch) (msg : XMsg) : (c.xsend dst msg).vote.early = c.vote.early := by
  unfold Chan.xsend; split <;> first | rfl | (split <;> rfl)

@[simp] theorem Chan.xsend_vote_offsets (c : Chan) (dst : Ch) (msg : XMsg) : (c.xsend dst msg).vote.offsets = c.vote.offsets := by
  unfold Chan.xsend; split <;> first | rfl | (split <;> rfl)

@[simp] theorem Chan.xsend_vote_skewOffset (c : Chan) (dst : Ch) (msg : XMsg) : (c.xsend dst msg).vote.skewOffset = c.vote.skewOffset := by
  unfold Chan.xsend; split <;> first | rfl | (split <;> rfl)

@[simp] theorem Chan.xsend_vote_skewCnt (c : Chan) (dst : Ch) (msg : XMsg) : (c.xsend dst msg).vote.skewCnt = c.vote.skewCnt := by
  unfold Chan.xsend; split <;> first | rfl | (split <;> rfl)

@[simp] theorem Chan.xsend_vote_moveNext (c : Chan) (dst : Ch) (msg : XMsg) : (c.xsend dst msg).vote.moveNext = c.vote.moveNext := by
  unfold Chan.xsend; split <;> first | rfl | (split <;> rfl)

@[simp] theorem Chan.xsend_vote_injFail (c : Chan) (dst : Ch) (msg : XMsg) : (c.xsend dst msg).vote.injFail = c.vote.injFail := by
  unfold Chan.xsend; split <;> first | rfl | (split <;> rfl)

@[simp] theorem Chan.xsend_vote_injDone (c : Chan) (dst : Ch) (msg : XMsg) : (c.xsend dst msg).vote.injDone = c.vote.injDone := by
  unfold Chan.xsend; split <;> first | rfl | (split <;> rfl)

@[simp] theorem Chan.xsend_vote_injTest (c : Chan) (dst : Ch) (msg : XMsg) : (c.xsend dst msg).vote.injTest = c.vote.injTest := by
  unfold Chan.xsend; split <;> first | rfl | (split <;> rfl)

@[simp] theorem Chan.xsend_vote_injPath (c : Chan) (dst : Ch) (msg : XMsg) : (c.xsend dst msg).vote.injPath = c.vote.injPath := by
  unfold Chan.xsend; split <;> first | rfl | (split <;> rfl)

@[simp] theorem Chan.xsend_vote_injWord (c : Chan) (dst : Ch) (msg : XMsg) : (c.xsend dst msg).vote.injWord = c.vote.injWord := by
  unfold Chan.xsend; split <;> first | rfl | (split <;> rfl)

@[simp] theorem Chan.xsend_vote_outFault (c : Chan) (dst : Ch) (msg : XMsg) : (c.xsend dst msg).vote.outFault = c.vote.outFault := by
  unfold Chan.xsend; split <;> first | rfl | (split <;> rfl)

@[simp] theorem Chan.xsend_vote_recFault (c : Chan) (dst : Ch) (msg : XMsg) : (c.xsend dst msg).vote.recFault = c.vote.recFault := by
  unfold Chan.xsend; split <;> first | rfl | (split <;> rfl)

@[simp] theorem Chan.xsend_vote_decided (c : Chan) (dst : Ch) (msg : XMsg) : (c.xsend dst msg).vote.decided = c.vote.decided := by
  unfold Chan.xsend; split <;> first | rfl | (split <;> rfl)

@[simp] theorem Chan.xsendBoth_nv (c : Chan) (me : Ch) (msg : XMsg) : (c.xsendBoth me msg).nv = c.nv := by
  simp [Chan.xsendBoth]

@[simp] theorem Chan.xsendBoth_boot (c : Chan) (me : Ch) (msg : XMsg) : (c.xsendBoth me msg).boot = c.boot := by
  simp [Chan.xsendBoth]

@[simp] theorem Chan.xsendBoth_supply (c : Chan) (me : Ch) (msg : XMsg) : (c.xsendBoth me msg).supply = c.supply := by
  simp [Chan.xsendBoth]

@[simp] theorem Chan.xsendBoth_seals (c : Chan) (me : Ch) (msg : XMsg) : (c.xsendBoth me msg).seals = c.seals := by
  simp [Chan.xsendBoth]

@[simp] theorem Chan.xsendBoth_params (c : Chan) (me : Ch) (msg : XMsg) : (c.xsendBoth me msg).params = c.params := by
  simp [Chan.xsendBoth]

@[simp] theorem Chan.xsendBoth_image (c : Chan) (me : Ch) (msg : XMsg) : (c.xsendBoth me msg).image = c.image := by
  simp [Chan.xsendBoth]

@[simp] theorem Chan.xsendBoth_tasks (c : Chan) (me : Ch) (msg : XMsg) : (c.xsendBoth me msg).tasks = c.tasks := by
  simp [Chan.xsendBoth]

@[simp] theorem Chan.xsendBoth_blocks (c : Chan) (me : Ch) (msg : XMsg) : (c.xsendBoth me msg).blocks = c.blocks := by
  simp [Chan.xsendBoth]

@[simp] theorem Chan.xsendBoth_res (c : Chan) (me : Ch) (msg : XMsg) : (c.xsendBoth me msg).res = c.res := by
  simp [Chan.xsendBoth]

@[simp] theorem Chan.xsendBoth_tiles (c : Chan) (me : Ch) (msg : XMsg) : (c.xsendBoth me msg).tiles = c.tiles := by
  simp [Chan.xsendBoth]

@[simp] theorem Chan.xsendBoth_reint (c : Chan) (me : Ch) (msg : XMsg) : (c.xsendBoth me msg).reint = c.reint := by
  simp [Chan.xsendBoth]

@[simp] theorem Chan.xsendBoth_din (c : Chan) (me : Ch) (msg : XMsg) : (c.xsendBoth me msg).din = c.din := by
  simp [Chan.xsendBoth]

@[simp] theorem Chan.xsendBoth_dout (c : Chan) (me : Ch) (msg : XMsg) : (c.xsendBoth me msg).dout = c.dout := by
  simp [Chan.xsendBoth]

@[simp] theorem Chan.xsendBoth_safe (c : Chan) (me : Ch) (msg : XMsg) : (c.xsendBoth me msg).safe = c.safe := by
  simp [Chan.xsendBoth]

@[simp] theorem Chan.xsendBoth_doors (c : Chan) (me : Ch) (msg : XMsg) : (c.xsendBoth me msg).doors = c.doors := by
  simp [Chan.xsendBoth]

@[simp] theorem Chan.xsendBoth_sync (c : Chan) (me : Ch) (msg : XMsg) : (c.xsendBoth me msg).sync = c.sync := by
  simp [Chan.xsendBoth]

@[simp] theorem Chan.xsendBoth_guard (c : Chan) (me : Ch) (msg : XMsg) : (c.xsendBoth me msg).guard = c.guard := by
  simp [Chan.xsendBoth]

@[simp] theorem Chan.xsendBoth_frt (c : Chan) (me : Ch) (msg : XMsg) : (c.xsendBoth me msg).frt = c.frt := by
  simp [Chan.xsendBoth]

@[simp] theorem Chan.xsendBoth_fab (c : Chan) (me : Ch) (msg : XMsg) : (c.xsendBoth me msg).fab = c.fab := by
  simp [Chan.xsendBoth]

@[simp] theorem Chan.xsendBoth_qm (c : Chan) (me : Ch) (msg : XMsg) : (c.xsendBoth me msg).qm = c.qm := by
  simp [Chan.xsendBoth]

@[simp] theorem Chan.xsendBoth_part (c : Chan) (me : Ch) (msg : XMsg) : (c.xsendBoth me msg).part = c.part := by
  simp [Chan.xsendBoth]

@[simp] theorem Chan.xsendBoth_mem (c : Chan) (me : Ch) (msg : XMsg) : (c.xsendBoth me msg).mem = c.mem := by
  simp [Chan.xsendBoth]

@[simp] theorem Chan.xsendBoth_arb (c : Chan) (me : Ch) (msg : XMsg) : (c.xsendBoth me msg).arb = c.arb := by
  simp [Chan.xsendBoth]

@[simp] theorem Chan.xsendBoth_bist (c : Chan) (me : Ch) (msg : XMsg) : (c.xsendBoth me msg).bist = c.bist := by
  simp [Chan.xsendBoth]

@[simp] theorem Chan.xsendBoth_recd (c : Chan) (me : Ch) (msg : XMsg) : (c.xsendBoth me msg).recd = c.recd := by
  simp [Chan.xsendBoth]

@[simp] theorem Chan.xsendBoth_host (c : Chan) (me : Ch) (msg : XMsg) : (c.xsendBoth me msg).host = c.host := by
  simp [Chan.xsendBoth]

@[simp] theorem Chan.xsendBoth_load (c : Chan) (me : Ch) (msg : XMsg) : (c.xsendBoth me msg).load = c.load := by
  simp [Chan.xsendBoth]

@[simp] theorem Chan.xsendBoth_cal (c : Chan) (me : Ch) (msg : XMsg) : (c.xsendBoth me msg).cal = c.cal := by
  simp [Chan.xsendBoth]

@[simp] theorem Chan.xsendBoth_mainCycle (c : Chan) (me : Ch) (msg : XMsg) : (c.xsendBoth me msg).mainCycle = c.mainCycle := by
  simp [Chan.xsendBoth]

@[simp] theorem Chan.xsendBoth_released (c : Chan) (me : Ch) (msg : XMsg) : (c.xsendBoth me msg).released = c.released := by
  simp [Chan.xsendBoth]

@[simp] theorem Chan.xsendBoth_react (c : Chan) (me : Ch) (msg : XMsg) : (c.xsendBoth me msg).react = c.react := by
  simp [Chan.xsendBoth]

@[simp] theorem Chan.xsendBoth_clock (c : Chan) (me : Ch) (msg : XMsg) : (c.xsendBoth me msg).clock = c.clock := by
  simp [Chan.xsendBoth]

@[simp] theorem Chan.xsendBoth_t1Clock (c : Chan) (me : Ch) (msg : XMsg) : (c.xsendBoth me msg).t1Clock = c.t1Clock := by
  simp [Chan.xsendBoth]

@[simp] theorem Chan.xsendBoth_pout (c : Chan) (me : Ch) (msg : XMsg) : (c.xsendBoth me msg).pout = c.pout := by
  simp [Chan.xsendBoth]

@[simp] theorem Chan.xsendBoth_pwait (c : Chan) (me : Ch) (msg : XMsg) : (c.xsendBoth me msg).pwait = c.pwait := by
  simp [Chan.xsendBoth]

@[simp] theorem Chan.xsendBoth_vote_mode (c : Chan) (me : Ch) (msg : XMsg) : (c.xsendBoth me msg).vote.mode = c.vote.mode := by
  simp [Chan.xsendBoth]

@[simp] theorem Chan.xsendBoth_vote_inVote (c : Chan) (me : Ch) (msg : XMsg) : (c.xsendBoth me msg).vote.inVote = c.vote.inVote := by
  simp [Chan.xsendBoth]

@[simp] theorem Chan.xsendBoth_vote_probation (c : Chan) (me : Ch) (msg : XMsg) : (c.xsendBoth me msg).vote.probation = c.vote.probation := by
  simp [Chan.xsendBoth]

@[simp] theorem Chan.xsendBoth_vote_degWarn (c : Chan) (me : Ch) (msg : XMsg) : (c.xsendBoth me msg).vote.degWarn = c.vote.degWarn := by
  simp [Chan.xsendBoth]

@[simp] theorem Chan.xsendBoth_vote_degUs (c : Chan) (me : Ch) (msg : XMsg) : (c.xsendBoth me msg).vote.degUs = c.vote.degUs := by
  simp [Chan.xsendBoth]

@[simp] theorem Chan.xsendBoth_vote_goodUs (c : Chan) (me : Ch) (msg : XMsg) : (c.xsendBoth me msg).vote.goodUs = c.vote.goodUs := by
  simp [Chan.xsendBoth]

@[simp] theorem Chan.xsendBoth_vote_kept (c : Chan) (me : Ch) (msg : XMsg) : (c.xsendBoth me msg).vote.kept = c.vote.kept := by
  simp [Chan.xsendBoth]

@[simp] theorem Chan.xsendBoth_vote_corrupt (c : Chan) (me : Ch) (msg : XMsg) : (c.xsendBoth me msg).vote.corrupt = c.vote.corrupt := by
  simp [Chan.xsendBoth]

@[simp] theorem Chan.xsendBoth_vote_full (c : Chan) (me : Ch) (msg : XMsg) : (c.xsendBoth me msg).vote.full = c.vote.full := by
  simp [Chan.xsendBoth]

@[simp] theorem Chan.xsendBoth_vote_stale (c : Chan) (me : Ch) (msg : XMsg) : (c.xsendBoth me msg).vote.stale = c.vote.stale := by
  simp [Chan.xsendBoth]

@[simp] theorem Chan.xsendBoth_vote_rxSeq (c : Chan) (me : Ch) (msg : XMsg) : (c.xsendBoth me msg).vote.rxSeq = c.vote.rxSeq := by
  simp [Chan.xsendBoth]

@[simp] theorem Chan.xsendBoth_vote_corruptCnt (c : Chan) (me : Ch) (msg : XMsg) : (c.xsendBoth me msg).vote.corruptCnt = c.vote.corruptCnt := by
  simp [Chan.xsendBoth]

@[simp] theorem Chan.xsendBoth_vote_staleCnt (c : Chan) (me : Ch) (msg : XMsg) : (c.xsendBoth me msg).vote.staleCnt = c.vote.staleCnt := by
  simp [Chan.xsendBoth]

@[simp] theorem Chan.xsendBoth_vote_lateCnt (c : Chan) (me : Ch) (msg : XMsg) : (c.xsendBoth me msg).vote.lateCnt = c.vote.lateCnt := by
  simp [Chan.xsendBoth]

@[simp] theorem Chan.xsendBoth_vote_dissentCnt (c : Chan) (me : Ch) (msg : XMsg) : (c.xsendBoth me msg).vote.dissentCnt = c.vote.dissentCnt := by
  simp [Chan.xsendBoth]

@[simp] theorem Chan.xsendBoth_vote_lastDissent (c : Chan) (me : Ch) (msg : XMsg) : (c.xsendBoth me msg).vote.lastDissent = c.vote.lastDissent := by
  simp [Chan.xsendBoth]

@[simp] theorem Chan.xsendBoth_vote_outcome (c : Chan) (me : Ch) (msg : XMsg) : (c.xsendBoth me msg).vote.outcome = c.vote.outcome := by
  simp [Chan.xsendBoth]

@[simp] theorem Chan.xsendBoth_vote_t1Digest (c : Chan) (me : Ch) (msg : XMsg) : (c.xsendBoth me msg).vote.t1Digest = c.vote.t1Digest := by
  simp [Chan.xsendBoth]

@[simp] theorem Chan.xsendBoth_vote_cut (c : Chan) (me : Ch) (msg : XMsg) : (c.xsendBoth me msg).vote.cut = c.vote.cut := by
  simp [Chan.xsendBoth]

@[simp] theorem Chan.xsendBoth_vote_single (c : Chan) (me : Ch) (msg : XMsg) : (c.xsendBoth me msg).vote.single = c.vote.single := by
  simp [Chan.xsendBoth]

@[simp] theorem Chan.xsendBoth_vote_naming (c : Chan) (me : Ch) (msg : XMsg) : (c.xsendBoth me msg).vote.naming = c.vote.naming := by
  simp [Chan.xsendBoth]

@[simp] theorem Chan.xsendBoth_vote_verdicts (c : Chan) (me : Ch) (msg : XMsg) : (c.xsendBoth me msg).vote.verdicts = c.vote.verdicts := by
  simp [Chan.xsendBoth]

@[simp] theorem Chan.xsendBoth_vote_ackDue (c : Chan) (me : Ch) (msg : XMsg) : (c.xsendBoth me msg).vote.ackDue = c.vote.ackDue := by
  simp [Chan.xsendBoth]

@[simp] theorem Chan.xsendBoth_vote_acked (c : Chan) (me : Ch) (msg : XMsg) : (c.xsendBoth me msg).vote.acked = c.vote.acked := by
  simp [Chan.xsendBoth]

@[simp] theorem Chan.xsendBoth_vote_exclCause (c : Chan) (me : Ch) (msg : XMsg) : (c.xsendBoth me msg).vote.exclCause = c.vote.exclCause := by
  simp [Chan.xsendBoth]

@[simp] theorem Chan.xsendBoth_vote_withdrawn (c : Chan) (me : Ch) (msg : XMsg) : (c.xsendBoth me msg).vote.withdrawn = c.vote.withdrawn := by
  simp [Chan.xsendBoth]

@[simp] theorem Chan.xsendBoth_vote_skewJudged (c : Chan) (me : Ch) (msg : XMsg) : (c.xsendBoth me msg).vote.skewJudged = c.vote.skewJudged := by
  simp [Chan.xsendBoth]

@[simp] theorem Chan.xsendBoth_vote_skews (c : Chan) (me : Ch) (msg : XMsg) : (c.xsendBoth me msg).vote.skews = c.vote.skews := by
  simp [Chan.xsendBoth]

@[simp] theorem Chan.xsendBoth_vote_early (c : Chan) (me : Ch) (msg : XMsg) : (c.xsendBoth me msg).vote.early = c.vote.early := by
  simp [Chan.xsendBoth]

@[simp] theorem Chan.xsendBoth_vote_offsets (c : Chan) (me : Ch) (msg : XMsg) : (c.xsendBoth me msg).vote.offsets = c.vote.offsets := by
  simp [Chan.xsendBoth]

@[simp] theorem Chan.xsendBoth_vote_skewOffset (c : Chan) (me : Ch) (msg : XMsg) : (c.xsendBoth me msg).vote.skewOffset = c.vote.skewOffset := by
  simp [Chan.xsendBoth]

@[simp] theorem Chan.xsendBoth_vote_skewCnt (c : Chan) (me : Ch) (msg : XMsg) : (c.xsendBoth me msg).vote.skewCnt = c.vote.skewCnt := by
  simp [Chan.xsendBoth]

@[simp] theorem Chan.xsendBoth_vote_moveNext (c : Chan) (me : Ch) (msg : XMsg) : (c.xsendBoth me msg).vote.moveNext = c.vote.moveNext := by
  simp [Chan.xsendBoth]

@[simp] theorem Chan.xsendBoth_vote_injFail (c : Chan) (me : Ch) (msg : XMsg) : (c.xsendBoth me msg).vote.injFail = c.vote.injFail := by
  simp [Chan.xsendBoth]

@[simp] theorem Chan.xsendBoth_vote_injDone (c : Chan) (me : Ch) (msg : XMsg) : (c.xsendBoth me msg).vote.injDone = c.vote.injDone := by
  simp [Chan.xsendBoth]

@[simp] theorem Chan.xsendBoth_vote_injTest (c : Chan) (me : Ch) (msg : XMsg) : (c.xsendBoth me msg).vote.injTest = c.vote.injTest := by
  simp [Chan.xsendBoth]

@[simp] theorem Chan.xsendBoth_vote_injPath (c : Chan) (me : Ch) (msg : XMsg) : (c.xsendBoth me msg).vote.injPath = c.vote.injPath := by
  simp [Chan.xsendBoth]

@[simp] theorem Chan.xsendBoth_vote_injWord (c : Chan) (me : Ch) (msg : XMsg) : (c.xsendBoth me msg).vote.injWord = c.vote.injWord := by
  simp [Chan.xsendBoth]

@[simp] theorem Chan.xsendBoth_vote_outFault (c : Chan) (me : Ch) (msg : XMsg) : (c.xsendBoth me msg).vote.outFault = c.vote.outFault := by
  simp [Chan.xsendBoth]

@[simp] theorem Chan.xsendBoth_vote_recFault (c : Chan) (me : Ch) (msg : XMsg) : (c.xsendBoth me msg).vote.recFault = c.vote.recFault := by
  simp [Chan.xsendBoth]

@[simp] theorem Chan.xsendBoth_vote_decided (c : Chan) (me : Ch) (msg : XMsg) : (c.xsendBoth me msg).vote.decided = c.vote.decided := by
  simp [Chan.xsendBoth]

/-- A transfer of the vote class goes to the end of the outbox with the next SEQ of its link, one of the copy class waits; in
SPLIT mode neither (R160, R161, R180). -/
theorem Chan.xsend_xout (c : Chan) (dst : Ch) (msg : XMsg) :
    (c.xsend dst msg).xout =
      if c.split || msg.copyClass then c.xout else c.xout ++ [{ dst := dst, seq := c.vote.txSeq.get dst, msg := msg }] := by
  unfold Chan.xsend Chan.xput; cases c.split <;> cases msg.copyClass <;> rfl

theorem Chan.xsend_xwait (c : Chan) (dst : Ch) (msg : XMsg) :
    (c.xsend dst msg).xwait = if !c.split && msg.copyClass then c.xwait ++ [(dst, msg)] else c.xwait := by
  unfold Chan.xsend Chan.xput; cases c.split <;> cases msg.copyClass <;> rfl

@[simp] theorem Chan.pput_nv (c : Chan) (msg : PMsg) : (c.pput msg).nv = c.nv := by
  rfl

@[simp] theorem Chan.pput_boot (c : Chan) (msg : PMsg) : (c.pput msg).boot = c.boot := by
  rfl

@[simp] theorem Chan.pput_supply (c : Chan) (msg : PMsg) : (c.pput msg).supply = c.supply := by
  rfl

@[simp] theorem Chan.pput_seals (c : Chan) (msg : PMsg) : (c.pput msg).seals = c.seals := by
  rfl

@[simp] theorem Chan.pput_params (c : Chan) (msg : PMsg) : (c.pput msg).params = c.params := by
  rfl

@[simp] theorem Chan.pput_image (c : Chan) (msg : PMsg) : (c.pput msg).image = c.image := by
  rfl

@[simp] theorem Chan.pput_tasks (c : Chan) (msg : PMsg) : (c.pput msg).tasks = c.tasks := by
  rfl

@[simp] theorem Chan.pput_blocks (c : Chan) (msg : PMsg) : (c.pput msg).blocks = c.blocks := by
  rfl

@[simp] theorem Chan.pput_res (c : Chan) (msg : PMsg) : (c.pput msg).res = c.res := by
  rfl

@[simp] theorem Chan.pput_tiles (c : Chan) (msg : PMsg) : (c.pput msg).tiles = c.tiles := by
  rfl

@[simp] theorem Chan.pput_vote (c : Chan) (msg : PMsg) : (c.pput msg).vote = c.vote := by
  rfl

@[simp] theorem Chan.pput_reint (c : Chan) (msg : PMsg) : (c.pput msg).reint = c.reint := by
  rfl

@[simp] theorem Chan.pput_din (c : Chan) (msg : PMsg) : (c.pput msg).din = c.din := by
  rfl

@[simp] theorem Chan.pput_dout (c : Chan) (msg : PMsg) : (c.pput msg).dout = c.dout := by
  rfl

@[simp] theorem Chan.pput_safe (c : Chan) (msg : PMsg) : (c.pput msg).safe = c.safe := by
  rfl

@[simp] theorem Chan.pput_doors (c : Chan) (msg : PMsg) : (c.pput msg).doors = c.doors := by
  rfl

@[simp] theorem Chan.pput_sync (c : Chan) (msg : PMsg) : (c.pput msg).sync = c.sync := by
  rfl

@[simp] theorem Chan.pput_guard (c : Chan) (msg : PMsg) : (c.pput msg).guard = c.guard := by
  rfl

@[simp] theorem Chan.pput_frt (c : Chan) (msg : PMsg) : (c.pput msg).frt = c.frt := by
  rfl

@[simp] theorem Chan.pput_fab (c : Chan) (msg : PMsg) : (c.pput msg).fab = c.fab := by
  rfl

@[simp] theorem Chan.pput_qm (c : Chan) (msg : PMsg) : (c.pput msg).qm = c.qm := by
  rfl

@[simp] theorem Chan.pput_mem (c : Chan) (msg : PMsg) : (c.pput msg).mem = c.mem := by
  rfl

@[simp] theorem Chan.pput_arb (c : Chan) (msg : PMsg) : (c.pput msg).arb = c.arb := by
  rfl

@[simp] theorem Chan.pput_bist (c : Chan) (msg : PMsg) : (c.pput msg).bist = c.bist := by
  rfl

@[simp] theorem Chan.pput_recd (c : Chan) (msg : PMsg) : (c.pput msg).recd = c.recd := by
  rfl

@[simp] theorem Chan.pput_host (c : Chan) (msg : PMsg) : (c.pput msg).host = c.host := by
  rfl

@[simp] theorem Chan.pput_load (c : Chan) (msg : PMsg) : (c.pput msg).load = c.load := by
  rfl

@[simp] theorem Chan.pput_cal (c : Chan) (msg : PMsg) : (c.pput msg).cal = c.cal := by
  rfl

@[simp] theorem Chan.pput_mainCycle (c : Chan) (msg : PMsg) : (c.pput msg).mainCycle = c.mainCycle := by
  rfl

@[simp] theorem Chan.pput_released (c : Chan) (msg : PMsg) : (c.pput msg).released = c.released := by
  rfl

@[simp] theorem Chan.pput_react (c : Chan) (msg : PMsg) : (c.pput msg).react = c.react := by
  rfl

@[simp] theorem Chan.pput_clock (c : Chan) (msg : PMsg) : (c.pput msg).clock = c.clock := by
  rfl

@[simp] theorem Chan.pput_t1Clock (c : Chan) (msg : PMsg) : (c.pput msg).t1Clock = c.t1Clock := by
  rfl

@[simp] theorem Chan.pput_xout (c : Chan) (msg : PMsg) : (c.pput msg).xout = c.xout := by
  rfl

@[simp] theorem Chan.pput_xwait (c : Chan) (msg : PMsg) : (c.pput msg).xwait = c.xwait := by
  rfl

@[simp] theorem Chan.pput_pwait (c : Chan) (msg : PMsg) : (c.pput msg).pwait = c.pwait := by
  rfl

@[simp] theorem Chan.pput_pout (c : Chan) (msg : PMsg) : (c.pput msg).pout = c.pout ++ [(c.part.txSeq, msg)] := rfl

@[simp] theorem Chan.psend_nv (c : Chan) (msg : PMsg) : (c.psend msg).nv = c.nv := by
  unfold Chan.psend Chan.pwaitFor; split <;> first | rfl | (split <;> rfl)

@[simp] theorem Chan.psend_boot (c : Chan) (msg : PMsg) : (c.psend msg).boot = c.boot := by
  unfold Chan.psend Chan.pwaitFor; split <;> first | rfl | (split <;> rfl)

@[simp] theorem Chan.psend_supply (c : Chan) (msg : PMsg) : (c.psend msg).supply = c.supply := by
  unfold Chan.psend Chan.pwaitFor; split <;> first | rfl | (split <;> rfl)

@[simp] theorem Chan.psend_seals (c : Chan) (msg : PMsg) : (c.psend msg).seals = c.seals := by
  unfold Chan.psend Chan.pwaitFor; split <;> first | rfl | (split <;> rfl)

@[simp] theorem Chan.psend_params (c : Chan) (msg : PMsg) : (c.psend msg).params = c.params := by
  unfold Chan.psend Chan.pwaitFor; split <;> first | rfl | (split <;> rfl)

@[simp] theorem Chan.psend_image (c : Chan) (msg : PMsg) : (c.psend msg).image = c.image := by
  unfold Chan.psend Chan.pwaitFor; split <;> first | rfl | (split <;> rfl)

@[simp] theorem Chan.psend_tasks (c : Chan) (msg : PMsg) : (c.psend msg).tasks = c.tasks := by
  unfold Chan.psend Chan.pwaitFor; split <;> first | rfl | (split <;> rfl)

@[simp] theorem Chan.psend_blocks (c : Chan) (msg : PMsg) : (c.psend msg).blocks = c.blocks := by
  unfold Chan.psend Chan.pwaitFor; split <;> first | rfl | (split <;> rfl)

@[simp] theorem Chan.psend_res (c : Chan) (msg : PMsg) : (c.psend msg).res = c.res := by
  unfold Chan.psend Chan.pwaitFor; split <;> first | rfl | (split <;> rfl)

@[simp] theorem Chan.psend_tiles (c : Chan) (msg : PMsg) : (c.psend msg).tiles = c.tiles := by
  unfold Chan.psend Chan.pwaitFor; split <;> first | rfl | (split <;> rfl)

@[simp] theorem Chan.psend_vote (c : Chan) (msg : PMsg) : (c.psend msg).vote = c.vote := by
  unfold Chan.psend Chan.pwaitFor; split <;> first | rfl | (split <;> rfl)

@[simp] theorem Chan.psend_reint (c : Chan) (msg : PMsg) : (c.psend msg).reint = c.reint := by
  unfold Chan.psend Chan.pwaitFor; split <;> first | rfl | (split <;> rfl)

@[simp] theorem Chan.psend_din (c : Chan) (msg : PMsg) : (c.psend msg).din = c.din := by
  unfold Chan.psend Chan.pwaitFor; split <;> first | rfl | (split <;> rfl)

@[simp] theorem Chan.psend_dout (c : Chan) (msg : PMsg) : (c.psend msg).dout = c.dout := by
  unfold Chan.psend Chan.pwaitFor; split <;> first | rfl | (split <;> rfl)

@[simp] theorem Chan.psend_safe (c : Chan) (msg : PMsg) : (c.psend msg).safe = c.safe := by
  unfold Chan.psend Chan.pwaitFor; split <;> first | rfl | (split <;> rfl)

@[simp] theorem Chan.psend_doors (c : Chan) (msg : PMsg) : (c.psend msg).doors = c.doors := by
  unfold Chan.psend Chan.pwaitFor; split <;> first | rfl | (split <;> rfl)

@[simp] theorem Chan.psend_sync (c : Chan) (msg : PMsg) : (c.psend msg).sync = c.sync := by
  unfold Chan.psend Chan.pwaitFor; split <;> first | rfl | (split <;> rfl)

@[simp] theorem Chan.psend_guard (c : Chan) (msg : PMsg) : (c.psend msg).guard = c.guard := by
  unfold Chan.psend Chan.pwaitFor; split <;> first | rfl | (split <;> rfl)

@[simp] theorem Chan.psend_frt (c : Chan) (msg : PMsg) : (c.psend msg).frt = c.frt := by
  unfold Chan.psend Chan.pwaitFor; split <;> first | rfl | (split <;> rfl)

@[simp] theorem Chan.psend_fab (c : Chan) (msg : PMsg) : (c.psend msg).fab = c.fab := by
  unfold Chan.psend Chan.pwaitFor; split <;> first | rfl | (split <;> rfl)

@[simp] theorem Chan.psend_qm (c : Chan) (msg : PMsg) : (c.psend msg).qm = c.qm := by
  unfold Chan.psend Chan.pwaitFor; split <;> first | rfl | (split <;> rfl)

@[simp] theorem Chan.psend_mem (c : Chan) (msg : PMsg) : (c.psend msg).mem = c.mem := by
  unfold Chan.psend Chan.pwaitFor; split <;> first | rfl | (split <;> rfl)

@[simp] theorem Chan.psend_arb (c : Chan) (msg : PMsg) : (c.psend msg).arb = c.arb := by
  unfold Chan.psend Chan.pwaitFor; split <;> first | rfl | (split <;> rfl)

@[simp] theorem Chan.psend_bist (c : Chan) (msg : PMsg) : (c.psend msg).bist = c.bist := by
  unfold Chan.psend Chan.pwaitFor; split <;> first | rfl | (split <;> rfl)

@[simp] theorem Chan.psend_recd (c : Chan) (msg : PMsg) : (c.psend msg).recd = c.recd := by
  unfold Chan.psend Chan.pwaitFor; split <;> first | rfl | (split <;> rfl)

@[simp] theorem Chan.psend_host (c : Chan) (msg : PMsg) : (c.psend msg).host = c.host := by
  unfold Chan.psend Chan.pwaitFor; split <;> first | rfl | (split <;> rfl)

@[simp] theorem Chan.psend_load (c : Chan) (msg : PMsg) : (c.psend msg).load = c.load := by
  unfold Chan.psend Chan.pwaitFor; split <;> first | rfl | (split <;> rfl)

@[simp] theorem Chan.psend_cal (c : Chan) (msg : PMsg) : (c.psend msg).cal = c.cal := by
  unfold Chan.psend Chan.pwaitFor; split <;> first | rfl | (split <;> rfl)

@[simp] theorem Chan.psend_mainCycle (c : Chan) (msg : PMsg) : (c.psend msg).mainCycle = c.mainCycle := by
  unfold Chan.psend Chan.pwaitFor; split <;> first | rfl | (split <;> rfl)

@[simp] theorem Chan.psend_released (c : Chan) (msg : PMsg) : (c.psend msg).released = c.released := by
  unfold Chan.psend Chan.pwaitFor; split <;> first | rfl | (split <;> rfl)

@[simp] theorem Chan.psend_react (c : Chan) (msg : PMsg) : (c.psend msg).react = c.react := by
  unfold Chan.psend Chan.pwaitFor; split <;> first | rfl | (split <;> rfl)

@[simp] theorem Chan.psend_clock (c : Chan) (msg : PMsg) : (c.psend msg).clock = c.clock := by
  unfold Chan.psend Chan.pwaitFor; split <;> first | rfl | (split <;> rfl)

@[simp] theorem Chan.psend_t1Clock (c : Chan) (msg : PMsg) : (c.psend msg).t1Clock = c.t1Clock := by
  unfold Chan.psend Chan.pwaitFor; split <;> first | rfl | (split <;> rfl)

@[simp] theorem Chan.psend_xout (c : Chan) (msg : PMsg) : (c.psend msg).xout = c.xout := by
  unfold Chan.psend Chan.pwaitFor; split <;> first | rfl | (split <;> rfl)

@[simp] theorem Chan.psend_xwait (c : Chan) (msg : PMsg) : (c.psend msg).xwait = c.xwait := by
  unfold Chan.psend Chan.pwaitFor; split <;> first | rfl | (split <;> rfl)

/-- A heartbeat or a part of the delta goes to the end of the partner link's outbox at once (R301). -/
theorem Chan.psend_pout (c : Chan) (msg : PMsg) :
    (c.psend msg).pout = if msg.rank ≤ 1 then c.pout ++ [(c.part.txSeq, msg)] else c.pout := by
  unfold Chan.psend Chan.pwaitFor; split
  · rfl
  · split <;> rfl

/-! ### Switches and tasks -/

@[simp] theorem Chan.openSwitches_nv (c : Chan) : (c.openSwitches).nv = c.nv := by
  rfl

@[simp] theorem Chan.openSwitches_boot (c : Chan) : (c.openSwitches).boot = c.boot := by
  rfl

@[simp] theorem Chan.openSwitches_supply (c : Chan) : (c.openSwitches).supply = c.supply := by
  rfl

@[simp] theorem Chan.openSwitches_seals (c : Chan) : (c.openSwitches).seals = c.seals := by
  rfl

@[simp] theorem Chan.openSwitches_params (c : Chan) : (c.openSwitches).params = c.params := by
  rfl

@[simp] theorem Chan.openSwitches_image (c : Chan) : (c.openSwitches).image = c.image := by
  rfl

@[simp] theorem Chan.openSwitches_tasks (c : Chan) : (c.openSwitches).tasks = c.tasks := by
  rfl

@[simp] theorem Chan.openSwitches_blocks (c : Chan) : (c.openSwitches).blocks = c.blocks := by
  rfl

@[simp] theorem Chan.openSwitches_res (c : Chan) : (c.openSwitches).res = c.res := by
  rfl

@[simp] theorem Chan.openSwitches_tiles (c : Chan) : (c.openSwitches).tiles = c.tiles := by
  rfl

@[simp] theorem Chan.openSwitches_vote (c : Chan) : (c.openSwitches).vote = c.vote := by
  rfl

@[simp] theorem Chan.openSwitches_reint (c : Chan) : (c.openSwitches).reint = c.reint := by
  rfl

@[simp] theorem Chan.openSwitches_din (c : Chan) : (c.openSwitches).din = c.din := by
  rfl

@[simp] theorem Chan.openSwitches_safe (c : Chan) : (c.openSwitches).safe = c.safe := by
  rfl

@[simp] theorem Chan.openSwitches_doors (c : Chan) : (c.openSwitches).doors = c.doors := by
  rfl

@[simp] theorem Chan.openSwitches_sync (c : Chan) : (c.openSwitches).sync = c.sync := by
  rfl

@[simp] theorem Chan.openSwitches_guard (c : Chan) : (c.openSwitches).guard = c.guard := by
  rfl

@[simp] theorem Chan.openSwitches_frt (c : Chan) : (c.openSwitches).frt = c.frt := by
  rfl

@[simp] theorem Chan.openSwitches_fab (c : Chan) : (c.openSwitches).fab = c.fab := by
  rfl

@[simp] theorem Chan.openSwitches_qm (c : Chan) : (c.openSwitches).qm = c.qm := by
  rfl

@[simp] theorem Chan.openSwitches_part (c : Chan) : (c.openSwitches).part = c.part := by
  rfl

@[simp] theorem Chan.openSwitches_mem (c : Chan) : (c.openSwitches).mem = c.mem := by
  rfl

@[simp] theorem Chan.openSwitches_arb (c : Chan) : (c.openSwitches).arb = c.arb := by
  rfl

@[simp] theorem Chan.openSwitches_bist (c : Chan) : (c.openSwitches).bist = c.bist := by
  rfl

@[simp] theorem Chan.openSwitches_recd (c : Chan) : (c.openSwitches).recd = c.recd := by
  rfl

@[simp] theorem Chan.openSwitches_host (c : Chan) : (c.openSwitches).host = c.host := by
  rfl

@[simp] theorem Chan.openSwitches_load (c : Chan) : (c.openSwitches).load = c.load := by
  rfl

@[simp] theorem Chan.openSwitches_cal (c : Chan) : (c.openSwitches).cal = c.cal := by
  rfl

@[simp] theorem Chan.openSwitches_mainCycle (c : Chan) : (c.openSwitches).mainCycle = c.mainCycle := by
  rfl

@[simp] theorem Chan.openSwitches_released (c : Chan) : (c.openSwitches).released = c.released := by
  rfl

@[simp] theorem Chan.openSwitches_react (c : Chan) : (c.openSwitches).react = c.react := by
  rfl

@[simp] theorem Chan.openSwitches_clock (c : Chan) : (c.openSwitches).clock = c.clock := by
  rfl

@[simp] theorem Chan.openSwitches_t1Clock (c : Chan) : (c.openSwitches).t1Clock = c.t1Clock := by
  rfl

@[simp] theorem Chan.openSwitches_xout (c : Chan) : (c.openSwitches).xout = c.xout := by
  rfl

@[simp] theorem Chan.openSwitches_pout (c : Chan) : (c.openSwitches).pout = c.pout := by
  rfl

@[simp] theorem Chan.openSwitches_xwait (c : Chan) : (c.openSwitches).xwait = c.xwait := by
  rfl

@[simp] theorem Chan.openSwitches_pwait (c : Chan) : (c.openSwitches).pwait = c.pwait := by
  rfl

@[simp] theorem Chan.openSwitches_high (c : Chan) : c.openSwitches.dout.high = 0 := rfl

@[simp] theorem Chan.openSwitches_lowSide (c : Chan) : c.openSwitches.dout.lowSide = 0 := rfl

@[simp] theorem Chan.openSwitches_timerOn (c : Chan) : c.openSwitches.dout.timerOn = 0 := rfl

@[simp] theorem Chan.modTask_nv (c : Chan) (t : Nat) (f : TaskState → TaskState) : (c.modTask t f).nv = c.nv := by
  rfl

@[simp] theorem Chan.modTask_boot (c : Chan) (t : Nat) (f : TaskState → TaskState) : (c.modTask t f).boot = c.boot := by
  rfl

@[simp] theorem Chan.modTask_supply (c : Chan) (t : Nat) (f : TaskState → TaskState) : (c.modTask t f).supply = c.supply := by
  rfl

@[simp] theorem Chan.modTask_seals (c : Chan) (t : Nat) (f : TaskState → TaskState) : (c.modTask t f).seals = c.seals := by
  rfl

@[simp] theorem Chan.modTask_params (c : Chan) (t : Nat) (f : TaskState → TaskState) : (c.modTask t f).params = c.params := by
  rfl

@[simp] theorem Chan.modTask_image (c : Chan) (t : Nat) (f : TaskState → TaskState) : (c.modTask t f).image = c.image := by
  rfl

@[simp] theorem Chan.modTask_blocks (c : Chan) (t : Nat) (f : TaskState → TaskState) : (c.modTask t f).blocks = c.blocks := by
  rfl

@[simp] theorem Chan.modTask_res (c : Chan) (t : Nat) (f : TaskState → TaskState) : (c.modTask t f).res = c.res := by
  rfl

@[simp] theorem Chan.modTask_tiles (c : Chan) (t : Nat) (f : TaskState → TaskState) : (c.modTask t f).tiles = c.tiles := by
  rfl

@[simp] theorem Chan.modTask_vote (c : Chan) (t : Nat) (f : TaskState → TaskState) : (c.modTask t f).vote = c.vote := by
  rfl

@[simp] theorem Chan.modTask_reint (c : Chan) (t : Nat) (f : TaskState → TaskState) : (c.modTask t f).reint = c.reint := by
  rfl

@[simp] theorem Chan.modTask_din (c : Chan) (t : Nat) (f : TaskState → TaskState) : (c.modTask t f).din = c.din := by
  rfl

@[simp] theorem Chan.modTask_dout (c : Chan) (t : Nat) (f : TaskState → TaskState) : (c.modTask t f).dout = c.dout := by
  rfl

@[simp] theorem Chan.modTask_safe (c : Chan) (t : Nat) (f : TaskState → TaskState) : (c.modTask t f).safe = c.safe := by
  rfl

@[simp] theorem Chan.modTask_doors (c : Chan) (t : Nat) (f : TaskState → TaskState) : (c.modTask t f).doors = c.doors := by
  rfl

@[simp] theorem Chan.modTask_sync (c : Chan) (t : Nat) (f : TaskState → TaskState) : (c.modTask t f).sync = c.sync := by
  rfl

@[simp] theorem Chan.modTask_guard (c : Chan) (t : Nat) (f : TaskState → TaskState) : (c.modTask t f).guard = c.guard := by
  rfl

@[simp] theorem Chan.modTask_frt (c : Chan) (t : Nat) (f : TaskState → TaskState) : (c.modTask t f).frt = c.frt := by
  rfl

@[simp] theorem Chan.modTask_fab (c : Chan) (t : Nat) (f : TaskState → TaskState) : (c.modTask t f).fab = c.fab := by
  rfl

@[simp] theorem Chan.modTask_qm (c : Chan) (t : Nat) (f : TaskState → TaskState) : (c.modTask t f).qm = c.qm := by
  rfl

@[simp] theorem Chan.modTask_part (c : Chan) (t : Nat) (f : TaskState → TaskState) : (c.modTask t f).part = c.part := by
  rfl

@[simp] theorem Chan.modTask_mem (c : Chan) (t : Nat) (f : TaskState → TaskState) : (c.modTask t f).mem = c.mem := by
  rfl

@[simp] theorem Chan.modTask_arb (c : Chan) (t : Nat) (f : TaskState → TaskState) : (c.modTask t f).arb = c.arb := by
  rfl

@[simp] theorem Chan.modTask_bist (c : Chan) (t : Nat) (f : TaskState → TaskState) : (c.modTask t f).bist = c.bist := by
  rfl

@[simp] theorem Chan.modTask_recd (c : Chan) (t : Nat) (f : TaskState → TaskState) : (c.modTask t f).recd = c.recd := by
  rfl

@[simp] theorem Chan.modTask_host (c : Chan) (t : Nat) (f : TaskState → TaskState) : (c.modTask t f).host = c.host := by
  rfl

@[simp] theorem Chan.modTask_load (c : Chan) (t : Nat) (f : TaskState → TaskState) : (c.modTask t f).load = c.load := by
  rfl

@[simp] theorem Chan.modTask_cal (c : Chan) (t : Nat) (f : TaskState → TaskState) : (c.modTask t f).cal = c.cal := by
  rfl

@[simp] theorem Chan.modTask_mainCycle (c : Chan) (t : Nat) (f : TaskState → TaskState) : (c.modTask t f).mainCycle = c.mainCycle := by
  rfl

@[simp] theorem Chan.modTask_released (c : Chan) (t : Nat) (f : TaskState → TaskState) : (c.modTask t f).released = c.released := by
  rfl

@[simp] theorem Chan.modTask_react (c : Chan) (t : Nat) (f : TaskState → TaskState) : (c.modTask t f).react = c.react := by
  rfl

@[simp] theorem Chan.modTask_clock (c : Chan) (t : Nat) (f : TaskState → TaskState) : (c.modTask t f).clock = c.clock := by
  rfl

@[simp] theorem Chan.modTask_t1Clock (c : Chan) (t : Nat) (f : TaskState → TaskState) : (c.modTask t f).t1Clock = c.t1Clock := by
  rfl

@[simp] theorem Chan.modTask_xout (c : Chan) (t : Nat) (f : TaskState → TaskState) : (c.modTask t f).xout = c.xout := by
  rfl

@[simp] theorem Chan.modTask_pout (c : Chan) (t : Nat) (f : TaskState → TaskState) : (c.modTask t f).pout = c.pout := by
  rfl

@[simp] theorem Chan.modTask_xwait (c : Chan) (t : Nat) (f : TaskState → TaskState) : (c.modTask t f).xwait = c.xwait := by
  rfl

@[simp] theorem Chan.modTask_pwait (c : Chan) (t : Nat) (f : TaskState → TaskState) : (c.modTask t f).pwait = c.pwait := by
  rfl

end Sys2Proof.Machine
end

