-- ==== Sys2Proof/Laws/Home.lean ====
section
/-! SUPPORT. What touches one channel only: one lemma per shared operation, and the chain of two. -/

namespace Sys2Proof.Machine

open Sys2Proof

variable {s t u : State} {ch : Ch}

theorem State.OnlyAt.refl (s : State) (ch : Ch) : s.OnlyAt s ch := by
  simp only [State.OnlyAt, State.put_self]

theorem State.OnlyAt.put (s : State) (ch : Ch) (c : Chan) : s.OnlyAt (s.put ch c) ch := by
  simp only [State.OnlyAt, State.put_ch]

theorem State.ext_of {s t u : State} (h1 : t.factory = s.factory) (hc : t.chans = u.chans) (h2 : t.hub = s.hub)
    (h3 : t.hedgehog = s.hedgehog) (h4 : t.net = s.net) (h5 : t.comparator = s.comparator) (h6 : t.pending = s.pending) :
    t = { s with chans := u.chans, draws := t.draws } := by
  obtain ⟨a, b, c, d, e, f, g, h⟩ := t
  dsimp only at h1 hc h2 h3 h4 h5 h6
  rw [h1, hc, h2, h3, h4, h5, h6]

theorem State.onlyAt_iff :
    s.OnlyAt t ch ↔
      (∀ x, x ≠ ch → t.ch x = s.ch x) ∧ t.factory = s.factory ∧ t.hub = s.hub ∧ t.hedgehog = s.hedgehog ∧ t.net = s.net ∧
        t.comparator = s.comparator ∧ t.pending = s.pending := by
  constructor
  · intro h
    rw [State.OnlyAt] at h
    rw [h]
    refine ⟨fun x hx => ?_, rfl, rfl, rfl, rfl, rfl, rfl⟩
    exact State.put_ch_ne s (t.ch ch) hx
  · rintro ⟨hx, h1, h2, h3, h4, h5, h6⟩
    have hc : t.chans = (s.put ch (t.ch ch)).chans := by
      have hy : ∀ y, t.chans.get y = (s.put ch (t.ch ch)).chans.get y := by
        intro y
        by_cases e : y = ch
        · subst e
          exact (State.put_ch s y (t.ch y)).symm
        · rw [show t.chans.get y = t.ch y from rfl, hx y e]
          exact (State.put_ch_ne s (t.ch ch) e).symm
      exact Tri.ext_get hy
    exact State.ext_of h1 hc h2 h3 h4 h5 h6

theorem State.OnlyAt.trans (h1 : s.OnlyAt t ch) (h2 : t.OnlyAt u ch) : s.OnlyAt u ch := by
  rw [State.onlyAt_iff] at *
  obtain ⟨a, b, c, d, e, f, g⟩ := h1
  obtain ⟨a', b', c', d', e', f', g'⟩ := h2
  exact ⟨fun x hx => (a' x hx).trans (a x hx), b'.trans b, c'.trans c, d'.trans d, e'.trans e, f'.trans f, g'.trans g⟩

theorem State.OnlyAt.mod (s : State) (ch : Ch) (f : Chan → Chan) : s.OnlyAt (s.mod ch f) ch := .put _ _ _

theorem State.OnlyAt.drawn (s : State) (ch : Ch) : s.OnlyAt s.drawn ch := by
  rw [State.onlyAt_iff]
  exact ⟨fun _ _ => rfl, rfl, rfl, rfl, rfl, rfl, rfl⟩

theorem State.OnlyAt.onLive (s : State) (ch : Ch) (f : Chan → Chan) : s.OnlyAt (s.onLive ch f) ch := by
  unfold State.onLive
  split
  · exact .mod _ _ _
  · exact .refl _ _

theorem State.OnlyAt.taken (s : State) (ch frm : Ch) (l : Link) (m : XMsg) (f : Chan → Chan) :
    s.OnlyAt (s.taken ch frm l m f) ch := by
  unfold State.taken
  split
  · exact .refl _ _
  · exact .onLive _ _ _

theorem State.OnlyAt.takenP (s : State) (ch : Ch) (l : PLink) (m : PMsg) (f : Chan → Chan) : s.OnlyAt (s.takenP ch l m f) ch :=
  .onLive _ _ _

theorem State.OnlyAt.eventFrame (s : State) (ch : Ch) (f : FrameRx) (kind : Nat) (e : EventKind) :
    s.OnlyAt (s.eventFrame ch f kind e) ch := .onLive _ _ _

/-- An event at a channel that executes is a change of that channel. -/
theorem State.onLive_eq (f : Chan → Chan) (h : (s.ch ch).live = true) : s.onLive ch f = s.put ch (f (s.ch ch)) := by
  simp [State.onLive, h, State.mod]

/-- A change of every channel that executes changes the channels only. -/
theorem State.allLive_eq (s : State) (f : Ch → Chan → Chan) : s.allLive f = { s with chans := (s.allLive f).chans } := by
  have one : ∀ (t : State) (x : Ch) (g : Chan → Chan), ∃ cs, t.onLive x g = { t with chans := cs } := by
    intro t x g
    unfold State.onLive
    split
    · exact ⟨_, rfl⟩
    · exact ⟨_, rfl⟩
  simp only [State.allLive, Ch.all, List.foldl_cons, List.foldl_nil]
  obtain ⟨a, ha⟩ := one s .a (f .a)
  rw [ha]
  obtain ⟨b, hb⟩ := one { s with chans := a } .b (f .b)
  rw [hb]
  obtain ⟨c, hc⟩ := one { s with chans := b } .c (f .c)
  rw [hc]

/-- A change of every channel that executes, seen at one. -/
theorem State.allLive_ch (s : State) (f : Ch → Chan → Chan) (x : Ch) :
    (s.allLive f).ch x = if (s.ch x).live then f x (s.ch x) else s.ch x := by
  have one : ∀ (t : State) (y : Ch), (t.onLive y (f y)).ch x =
      if x = y then (if (t.ch x).live then f x (t.ch x) else t.ch x) else t.ch x := by
    intro t y
    by_cases hy : (t.ch y).live = true
    · rw [State.onLive_eq _ hy]
      by_cases e : x = y
      · subst e; simp [hy]
      · rw [State.put_ch_ne t _ e]; simp [e]
    · have hy' : (t.ch y).live = false := by simpa using hy
      rw [State.onLive_dead _ hy']
      by_cases e : x = y
      · subst e; simp [hy']
      · simp [e]
  simp only [State.allLive, Ch.all, List.foldl_cons, List.foldl_nil, one]
  cases x <;> simp

end Sys2Proof.Machine
end

