-- ==== Sys2Proof/Laws/Lane.lean ====
section
/-! SUPPORT. A frame on the lane (spec/10_fabric_routing_messages.md R255 to R257, R270): the fields of a header as they are
read back, a frame that passes the checks of arrival, and the parts of a vital message. -/

namespace Sys2Proof.Machine

open Sys2Proof

/-! ### The header read back (Table 10-1) -/

theorem code_lt (x : Ch) : x.code < 3 := by cases x <;> decide

theorem bcast_le (f : Frame) : bitAt f.dest.isNone 14 ≤ 2 ^ 14 := by cases f.dest <;> simp [bitAt]

section header

variable (f : Frame) (lane : Ch) (port : Port) (arrival : Nat)

@[simp] theorem onLine_port : (f.onLine lane port arrival).port = port := rfl
@[simp] theorem onLine_payload : (f.onLine lane port arrival).payload = f.payload := rfl
@[simp] theorem onLine_full : (f.onLine lane port arrival).full = false := rfl
@[simp] theorem onLine_arrival : (f.onLine lane port arrival).arrival = arrival := rfl

theorem onLine_w0 : (f.onLine lane port arrival).w0.toNat =
    2 ^ 28 + f.cls % 4 * 2 ^ 26 + f.kind % 64 * 2 ^ 20 + f.hop % 8 * 2 ^ 17 + lane.code * 2 ^ 15 + bitAt f.dest.isNone 14 +
      f.payload.length % 1024 := by
  have hl := code_lt lane
  have hb := bcast_le f
  simp only [Frame.onLine, Frame.header, wordAt, List.getD_cons_zero, w32, BitVec.toNat_ofNat]
  omega

theorem onLine_ver : (f.onLine lane port arrival).ver = 1 := by
  have hl := code_lt lane
  have hb := bcast_le f
  rw [FrameRx.ver, onLine_w0]
  omega

theorem onLine_cls : (f.onLine lane port arrival).cls = f.cls % 4 := by
  have hl := code_lt lane
  have hb := bcast_le f
  rw [FrameRx.cls, onLine_w0]
  omega

theorem onLine_kind : (f.onLine lane port arrival).kind = f.kind % 64 := by
  have hl := code_lt lane
  have hb := bcast_le f
  rw [FrameRx.kind, onLine_w0]
  omega

theorem onLine_hop : (f.onLine lane port arrival).hop = f.hop % 8 := by
  have hl := code_lt lane
  have hb := bcast_le f
  rw [FrameRx.hop, onLine_w0]
  omega

theorem onLine_lane : (f.onLine lane port arrival).lane = lane.code := by
  have hl := code_lt lane
  have hb := bcast_le f
  rw [FrameRx.lane, onLine_w0]
  omega

theorem onLine_bcast : (f.onLine lane port arrival).bcast = f.dest.isNone := by
  have hl := code_lt lane
  have h : (f.onLine lane port arrival).bcast = (f.onLine lane port arrival).w0.toNat.testBit 14 := rfl
  rw [h, onLine_w0, Nat.testBit_eq_decide_div_mod_eq]
  cases f.dest <;> simp only [bitAt, Option.isNone_none, Option.isNone_some, if_true, decide_eq_true_eq] <;>
    simp <;> omega

theorem onLine_len : (f.onLine lane port arrival).len = f.payload.length % 1024 := by
  have hb : bitAt f.dest.isNone 14 = 2 ^ 14 ∨ bitAt f.dest.isNone 14 = 0 := by cases f.dest <;> simp [bitAt]
  rw [FrameRx.len, onLine_w0]
  omega

theorem onLine_origin : (f.onLine lane port arrival).origin = f.origin % 128 := by
  simp only [FrameRx.origin, Frame.onLine, Frame.header, wordAt, w32, List.getD_cons_succ, List.getD_cons_zero, BitVec.toNat_ofNat]
  omega

theorem onLine_crcOk (h : f.payload.length ≤ 1008) : frameCrcOk (f.onLine lane port arrival) = true := by
  have hl : (f.onLine lane port arrival).len = f.payload.length := by rw [onLine_len]; omega
  simp only [frameCrcOk, hl, onLine_payload, beq_self_eq_true, Bool.and_true, Bool.and_eq_true, decide_eq_true_eq]
  exact ⟨by simp [Frame.onLine, Frame.header, wordAt], h⟩

end header

/-- A frame sent as it should be, inside its window, is heard by an open lane of its own. -/
theorem hears_onLine {c : Chan} {f : Frame} {me : Ch} {port : Port} {arrival : Nat} (ho : c.laneOpen = true)
    (hp : (c.frt.port port).optics = true) (hu : c.portUsed port = true) (hl : f.payload.length ≤ 1008)
    (hw : c.inWindow (f.onLine me port arrival) = true) (hh : f.hop ≤ 6) (hc : f.cls < 4) (hk : f.kind < 64)
    (hkc : kindClass f.kind = some f.cls) : c.HearsFrame me (f.onLine me port arrival) f.kind where
  isOpen := ho
  optics := hp
  used := hu
  room := rfl
  crc := onLine_crcOk f me port arrival hl
  window := hw
  version := onLine_ver f me port arrival
  lane := onLine_lane f me port arrival
  hop := by rw [onLine_hop]; omega
  cls := by rw [onLine_cls, Nat.mod_eq_of_lt hc]; exact hkc
  named := by rw [onLine_kind, Nat.mod_eq_of_lt hk]

/-- A frame stays where the port it would leave by is not in use (R232, R265). -/
theorem relay_stays {c : Chan} {f : FrameRx} (h : c.portUsed f.port.other = false) : c.relay f = c := by
  simp [Chan.relay, h]

/-- Hearing a frame leaves the other port as it was in use. -/
theorem heardFrame_portUsed (c : Chan) (f : FrameRx) : (c.heardFrame f).portUsed f.port.other = c.portUsed f.port.other := by
  simp only [Chan.portUsed, Chan.heardFrame, Chan.noteValid, Frt.putPort]
  cases f.port <;> rfl

/-! ### Vital messages (Table 10-7) -/

theorem hmacSha256_length (key : BitVec 256) (m : List Byte) : (hmacSha256 key m).length = 32 := by
  simp [hmacSha256, sha256, Quad.words, wordBytes, List.flatMap_cons]

theorem vmsgOf_parts (body code : List Byte) (h : code.length = 8) :
    (vmsgOf (body ++ code)).body = body ∧ (vmsgOf (body ++ code)).code = code := by
  have hl : (body ++ code).length - 8 = body.length := by simp [h]
  constructor
  · simp only [vmsgOf, hl, List.take_left']
  · simp only [vmsgOf, hl, List.drop_left']

/-- A message's fields do not depend on its code. -/
theorem vmsgOf_code (body code : List Byte) (h : code.length = 8) :
    vmsgOf (body ++ code) = { vmsgOf (body ++ List.replicate 8 0) with code := code } := by
  have h1 := vmsgOf_parts body code h
  have h2 := vmsgOf_parts body (List.replicate 8 0) rfl
  have h3 : ∀ ps, vmsgOf ps =
      { seq := (wordAt (bytesWords (vmsgOf ps).body) 0).toNat, ts := (wordAt (bytesWords (vmsgOf ps).body) 1).toNat
        src := bits (wordAt (bytesWords (vmsgOf ps).body) 2).toNat 17 0
        dst := bits (wordAt (bytesWords (vmsgOf ps).body) 3).toNat 17 0, data := (bytesWords (vmsgOf ps).body).drop 4
        body := (vmsgOf ps).body, code := (vmsgOf ps).code } := fun _ => rfl
  rw [h3 (body ++ code), h3 (body ++ List.replicate 8 0), h1.1, h1.2, h2.1]

/-- A message under the key of a connection for the lane passes its CODE check (R269). -/
theorem codeOk_made (me : Ch) (d : Conn) (body : List Byte) :
    codeOk me d (vmsgOf (body ++ (hmacSha256 (d.key.get me) body).take 8)) = true := by
  have h : ((hmacSha256 (d.key.get me) body).take 8).length = 8 := by
    rw [List.length_take, hmacSha256_length]
    rfl
  simp [codeOk, vmsgOf_parts _ _ h]

end Sys2Proof.Machine
end

