-- ==== Sys2Proof/Laws/Links.lean ====
section
/-! SUPPORT. What reading a transfer or hearing a frame does when it passes every check: one equation for each. -/

namespace Sys2Proof.Machine

open Sys2Proof

theorem Link.crcOk_of_intact {l : Link} {kind : Nat} {ws : List Word} (h : l.intact kind ws = true) : l.crcOk ws = true := by
  simp only [Link.intact, Bool.and_eq_true] at h
  exact h.1.1

theorem Chan.receive_of_takes {c : Chan} {frm : Ch} {l : Link} {m : XMsg} (h : c.TakesFrom frm l m) :
    c.receive frm l m = (c.readFrom frm l, true) := by
  have hp : ¬ c.boot.phase < 4 := by have := h.phase; omega
  simp [Chan.receive, Chan.readFrom, h.split, hp, h.room, h.intact, Link.crcOk_of_intact h.intact, h.seq]

theorem State.taken_of_takes {s : State} {ch frm : Ch} {l : Link} {m : XMsg} (f : Chan → Chan) (hn : ch ≠ frm)
    (hl : (s.ch ch).live = true) (h : (s.ch ch).TakesFrom frm l m) :
    s.taken ch frm l m f = s.put ch (f ((s.ch ch).readFrom frm l)) := by
  have hb : (ch == frm) = false := by simpa using hn
  simp [State.taken, hb, State.onLive, hl, State.mod, Chan.receive_of_takes h]

theorem Chan.receiveP_of_takes {c : Chan} {l : PLink} {m : PMsg} (v : Variant) (h : c.TakesPartner l m) :
    c.receiveP v l m = (c.readPartner l, true) := by
  have hp : ¬ c.boot.phase < 6 := by have := h.phase; omega
  have ha : ¬ c.part.rxSeq ∈ c.part.asked := by have := h.fresh; rw [h.seq] at this; simpa using this
  have hs : ({ c with part := { c.part with loop := true } } : Chan).split = false := h.split
  simp [Chan.receiveP, Chan.readPartner, hs, h.loop, hp, h.room, h.intact, Link.crcOk_of_intact h.intact, ha, h.seq]

theorem State.takenP_of_takes {s : State} {ch : Ch} {l : PLink} {m : PMsg} (f : Chan → Chan) (hl : (s.ch ch).live = true)
    (h : (s.ch ch).TakesPartner l m) : s.takenP ch l m f = s.put ch (f ((s.ch ch).readPartner l)) := by
  simp [State.takenP, State.onLive, hl, State.mod, h.started, Chan.receiveP_of_takes _ h]

@[simp] theorem Frt.putPort_portX_up (t : Frt) (p : Port) (x : PortState) :
    (t.putPort p x).portX.up = match p with | .x => x.up | .y => t.portX.up := by cases p <;> rfl

@[simp] theorem Chan.noteValid_laneOpen (c : Chan) (f : FrameRx) : (c.noteValid f).laneOpen = c.laneOpen := rfl

@[simp] theorem Chan.noteValid_qm (c : Chan) (f : FrameRx) : (c.noteValid f).qm = c.qm := rfl

@[simp] theorem Chan.noteValid_nodeKey (c : Chan) (f : FrameRx) : (c.noteValid f).nodeKey = c.nodeKey := rfl

@[simp] theorem Chan.noteValid_portUsed (c : Chan) (f : FrameRx) (p : Port) : (c.noteValid f).portUsed p = c.portUsed p := by
  cases p <;> cases hp : f.port <;> simp [Chan.portUsed, Chan.noteValid, Frt.port, Frt.putPort, hp]

theorem Chan.hear_of_hears {c : Chan} {me : Ch} {f : FrameRx} {kind : Nat} (h : c.HearsFrame me f kind) :
    c.hear me f kind = (c.heardFrame f, true) := by
  have hh : ¬ 6 < f.hop := by have := h.hop; omega
  have hl : c.laneLive = true := by have := h.isOpen; simp only [Chan.laneOpen, Bool.and_eq_true] at this; exact this.1
  simp [Chan.hear, Chan.heardFrame, hl, h.optics, h.room, h.isOpen, h.used, h.crc, h.window, h.version, h.lane, h.named, h.cls,
    hh]

theorem Chan.hearRelay_of_hears {c : Chan} {me : Ch} {f : FrameRx} {kind : Nat} (h : c.HearsFrame me f kind)
    (ho : f.origin ≠ c.nodeKey) : c.hearRelay me f kind = ((c.heardFrame f).relay f, true) := by
  have hk : (c.heardFrame f).nodeKey = c.nodeKey := rfl
  have hb : (f.origin != c.nodeKey) = true := by simpa using ho
  simp [Chan.hearRelay, Chan.hear_of_hears h, hk, hb]

end Sys2Proof.Machine
end

