-- ==== Sys2Proof/Laws/Memory.lean ====
section
/-! SUPPORT. The memory of a channel: its canonical form and that every memory operation keeps it, and what a read finds after
a write (spec/12_memory_and_arbiter.md R322 to R334). -/

namespace Sys2Proof.Machine

open Sys2Proof

/-! ### Tables with rising keys -/

/-- A later entry of a rising table has a greater key. -/
theorem rising_iff {α : Type} (t : List (Nat × α)) : rising t = true ↔ t.Pairwise (fun a b => a.1 < b.1) := by
  induction t with
  | nil => simp [rising]
  | cons a t ih =>
    cases t with
    | nil => simp [rising]
    | cons b t =>
      simp only [rising, Bool.and_eq_true, decide_eq_true_eq, ih, List.pairwise_cons, List.mem_cons, forall_eq_or_imp]
      constructor
      · rintro ⟨h, hb, ht⟩
        exact ⟨⟨h, fun x hx => Nat.lt_trans h (hb x hx)⟩, hb, ht⟩
      · rintro ⟨⟨h, _⟩, hb, ht⟩
        exact ⟨h, hb, ht⟩

theorem rising_filter {α : Type} (t : List (Nat × α)) (p : Nat × α → Bool) (h : rising t = true) :
    rising (t.filter p) = true :=
  (rising_iff _).mpr (((rising_iff _).mp h).filter p)

/-- Replacing a range by entries of that range keeps a table rising. -/
theorem rising_spliced {α : Type} (t new : List (Nat × α)) (lo len : Nat) (h : rising t = true) (hn : rising new = true)
    (hin : ∀ e ∈ new, lo ≤ e.1 ∧ e.1 < lo + len) : rising (spliced t lo len new) = true := by
  rw [rising_iff] at *
  unfold spliced
  refine List.pairwise_append.mpr ⟨List.pairwise_append.mpr ⟨h.filter _, hn, ?_⟩, h.filter _, ?_⟩
  · intro a ha b hb
    have := (List.mem_filter.mp ha).2
    have := (hin b hb).1
    simp only [decide_eq_true_eq] at *
    omega
  · intro a ha b hb
    have hb' := (List.mem_filter.mp hb).2
    simp only [decide_eq_true_eq] at hb'
    rcases List.mem_append.mp ha with ha | ha
    · have ha' := (List.mem_filter.mp ha).2
      simp only [decide_eq_true_eq] at ha'
      omega
    · have := (hin a ha).2
      omega

/-- A range moved elsewhere stays rising. -/
theorem rising_moved {α : Type} (t : List (Nat × α)) (src len dst : Nat) (h : rising t = true) :
    rising (moved t src len dst) = true := by
  rw [rising_iff] at *
  unfold moved
  rw [List.pairwise_map]
  have hp := h.filter (fun e => within src len e.1)
  refine hp.imp_of_mem ?_
  intro a b ha hb hab
  have ha' := (List.mem_filter.mp ha).2
  have hb' := (List.mem_filter.mp hb).2
  simp only [within, Bool.and_eq_true, decide_eq_true_eq] at ha' hb'
  simp only
  omega

theorem mem_moved {α : Type} (t : List (Nat × α)) (src len dst : Nat) :
    ∀ e ∈ moved t src len dst, dst ≤ e.1 ∧ e.1 < dst + len := by
  intro e he
  obtain ⟨a, ha, rfl⟩ := List.mem_map.mp he
  have ha' := (List.mem_filter.mp ha).2
  simp only [within, Bool.and_eq_true, decide_eq_true_eq] at ha'
  simp only
  omega

theorem all_spliced {α : Type} (t new : List (Nat × α)) (lo len : Nat) (p : Nat × α → Bool) (h : t.all p = true)
    (hn : new.all p = true) : (spliced t lo len new).all p = true := by
  simp only [spliced, List.all_eq_true, List.mem_append, List.mem_filter] at *
  rintro e ((⟨he, _⟩ | he) | ⟨he, _⟩)
  · exact h e he
  · exact hn e he
  · exact h e he

theorem all_moved {α : Type} (t : List (Nat × α)) (src len dst : Nat) (p : α → Bool) (h : t.all (fun e => p e.2) = true) :
    (moved t src len dst).all (fun e => p e.2) = true := by
  simp only [moved, List.all_eq_true, List.mem_map, List.mem_filter] at *
  rintro e ⟨a, ⟨ha, _⟩, rfl⟩
  exact h a ha

/-! ### Looking up -/

theorem lookup_filter_key {α : Type} (t : List (Nat × α)) (p : Nat → Bool) (x : Nat) :
    (t.filter (fun e => p e.1)).lookup x = if p x then t.lookup x else none := by
  induction t with
  | nil => simp
  | cons a t ih =>
    obtain ⟨k, v⟩ := a
    by_cases hk : x = k
    · subst hk
      by_cases hp : p x <;> simp [hp, ih]
    · have hb : (x == k) = false := by simpa using hk
      by_cases hp : p k <;> simp [List.lookup_cons, hp, hb, ih]

/-- Outside the range replaced a table reads as before. -/
theorem lookup_spliced_out {α : Type} (t new : List (Nat × α)) (lo len x : Nat) (hx : x < lo ∨ lo + len ≤ x)
    (hin : ∀ e ∈ new, lo ≤ e.1 ∧ e.1 < lo + len) : (spliced t lo len new).lookup x = t.lookup x := by
  have hnew : new.lookup x = none := by
    rw [List.lookup_eq_none_iff]
    intro p hp
    have := hin p hp
    simp only [bne_iff_ne, ne_eq]
    omega
  unfold spliced
  rw [List.lookup_append, List.lookup_append, hnew, lookup_filter_key t (fun k => decide (k < lo)) x,
    lookup_filter_key t (fun k => decide (lo + len ≤ k)) x]
  by_cases h1 : x < lo
  · have h2 : ¬ lo + len ≤ x := by omega
    simp [h1, h2]
  · have h2 : lo + len ≤ x := by omega
    simp [h1, h2]

/-- Inside it reads as the new entries do. -/
theorem lookup_spliced_in {α : Type} (t new : List (Nat × α)) (lo len x : Nat) (hx : lo ≤ x ∧ x < lo + len) :
    (spliced t lo len new).lookup x = new.lookup x := by
  unfold spliced
  rw [List.lookup_append, List.lookup_append, lookup_filter_key t (fun k => decide (k < lo)) x,
    lookup_filter_key t (fun k => decide (lo + len ≤ k)) x]
  have h1 : ¬ x < lo := by omega
  have h2 : ¬ lo + len ≤ x := by omega
  simp [h1, h2]

/-! ### Every memory operation keeps the canonical form -/

/-- The canonical form, part by part. -/
theorem Mem.wf_iff (m : Mem) :
    m.wf = true ↔ rising m.data = true ∧ m.data.all (fun e => e.2 != 0) = true ∧ rising m.check = true ∧
      m.check.all (fun e => e.2 != 0) = true := by
  simp [Mem.wf, Bool.and_eq_true, and_assoc]

/-- Counters and logs leave the canonical form alone: it speaks of data and check bits only. -/
theorem Mem.wf_of_same {m n : Mem} (hd : n.data = m.data) (hc : n.check = m.check) (h : m.wf = true) : n.wf = true := by
  simpa [Mem.wf, hd, hc] using h

theorem cellOf_in (a : Nat) (b : Byte) : ∀ e ∈ cellOf a b, a ≤ e.1 ∧ e.1 < a + 1 := by
  intro e he
  unfold cellOf at he
  split at he
  · simp at he
  · simp only [List.mem_singleton] at he; subst he; simp

theorem checkOf_in (a : Nat) (x : BitVec 5) : ∀ e ∈ checkOf a x, a ≤ e.1 ∧ e.1 < a + 1 := by
  intro e he
  unfold checkOf at he
  split at he
  · simp at he
  · simp only [List.mem_singleton] at he; subst he; simp

theorem cellOf_ok (a : Nat) (b : Byte) : rising (cellOf a b) = true ∧ (cellOf a b).all (fun e => e.2 != 0) = true := by
  unfold cellOf
  split
  · simp [rising]
  · next h => simpa [rising] using h

theorem checkOf_ok (a : Nat) (x : BitVec 5) : rising (checkOf a x) = true ∧ (checkOf a x).all (fun e => e.2 != 0) = true := by
  unfold checkOf
  split
  · simp [rising]
  · next h => simpa [rising] using h

theorem Mem.putLane_wf (m : Mem) (a : Nat) (b : Byte) (x : BitVec 5) (h : m.wf = true) : (m.putLane a b x).wf = true := by
  rw [Mem.wf_iff] at *
  obtain ⟨h1, h2, h3, h4⟩ := h
  exact ⟨rising_spliced _ _ _ _ h1 (cellOf_ok a b).1 (cellOf_in a b), all_spliced _ _ _ _ _ h2 (cellOf_ok a b).2,
    rising_spliced _ _ _ _ h3 (checkOf_ok a x).1 (checkOf_in a x), all_spliced _ _ _ _ _ h4 (checkOf_ok a x).2⟩

theorem Mem.clearRange_wf (m : Mem) (lo len : Nat) (h : m.wf = true) : (m.clearRange lo len).wf = true := by
  rw [Mem.wf_iff] at *
  obtain ⟨h1, h2, h3, h4⟩ := h
  exact ⟨rising_spliced _ _ _ _ h1 rfl (by simp), all_spliced _ _ _ _ _ h2 rfl,
    rising_spliced _ _ _ _ h3 rfl (by simp), all_spliced _ _ _ _ _ h4 rfl⟩

theorem Mem.copyRange_wf (m : Mem) (src dst len : Nat) (h : m.wf = true) : (m.copyRange src dst len).wf = true := by
  rw [Mem.wf_iff] at *
  obtain ⟨h1, h2, h3, h4⟩ := h
  exact ⟨rising_spliced _ _ _ _ h1 (rising_moved _ _ _ _ h1) (mem_moved _ _ _ _),
    all_spliced _ _ _ _ _ h2 (all_moved _ _ _ _ (fun b => b != 0) h2),
    rising_spliced _ _ _ _ h3 rfl (by simp), all_spliced _ _ _ _ _ h4 rfl⟩

theorem Mem.markRegions_wf (m : Mem) (new : List Nat) (h : m.wf = true) : (m.markRegions new).wf = true := by
  rw [Mem.wf_iff] at *; simpa only [Mem.markRegions] using h

/-- Listings made for the bytes of a range lie in it, in rising order, and none of them reads 0x00. -/
theorem cells_ok (f : Nat → Byte → Byte) (lo : Nat) (bs : List Byte) (k : Nat) :
    (∀ e ∈ (bs.zipIdx k).flatMap (fun e => cellOf (lo + e.2) (f e.2 e.1)), lo + k ≤ e.1 ∧ e.1 < lo + k + bs.length) ∧
      rising ((bs.zipIdx k).flatMap (fun e => cellOf (lo + e.2) (f e.2 e.1))) = true ∧
      ((bs.zipIdx k).flatMap (fun e => cellOf (lo + e.2) (f e.2 e.1))).all (fun e => e.2 != 0) = true := by
  induction bs generalizing k with
  | nil => simp [rising]
  | cons b bs ih =>
    obtain ⟨h1, h2, h3⟩ := ih (k + 1)
    simp only [List.zipIdx_cons, List.flatMap_cons, List.length_cons]
    have hc := cellOf_in (lo + k) (f k b)
    have ho := cellOf_ok (lo + k) (f k b)
    refine ⟨?_, ?_, ?_⟩
    · intro e he
      rcases List.mem_append.mp he with he | he
      · have := hc e he; omega
      · have := h1 e he; omega
    · rw [rising_iff] at *
      refine List.pairwise_append.mpr ⟨ho.1, h2, ?_⟩
      intro x hx y hy
      have := hc x hx; have := h1 y hy; omega
    · rw [List.all_append, ho.2, h3]; rfl

/-! ### The same of the operations that know what units keep at an address -/

theorem Chan.putLane_wf (c : Chan) (me : Ch) (v : Variant) (a : Nat) (b : Byte) (x : BitVec 5) (h : c.mem.wf = true) :
    (c.putLane me v a b x).mem.wf = true := c.mem.putLane_wf _ _ _ h

theorem Chan.poisonAt_wf (c : Chan) (me : Ch) (v : Variant) (a : Nat) (h : c.mem.wf = true) :
    (c.poisonAt me v a).mem.wf = true := c.putLane_wf me v a _ _ h

theorem Chan.damage_wf (c : Chan) (me : Ch) (v : Variant) (a : Nat) (h : c.mem.wf = true) :
    (c.damage me v a).mem.wf = true := by
  unfold Chan.damage; split
  · exact h
  · exact c.putLane_wf _ _ _ _ _ h

theorem Chan.rewrite_wf (c : Chan) (lo len : Nat) (h : c.mem.wf = true) : (c.rewrite lo len).mem.wf = true :=
  c.mem.clearRange_wf _ _ h

theorem Chan.putBytes_wf (c : Chan) (me : Ch) (v : Variant) (lo : Nat) (bs : List Byte) (h : c.mem.wf = true) :
    (c.putBytes me v lo bs).mem.wf = true := by
  have hk := cells_ok (fun k b => b ^^^ c.baseByte me v (lo + k)) lo bs 0
  rw [Mem.wf_iff] at *
  obtain ⟨h1, h2, h3, h4⟩ := h
  exact ⟨rising_spliced _ _ _ _ h1 hk.2.1 hk.1, all_spliced _ _ _ _ _ h2 hk.2.2,
    rising_spliced _ _ _ _ h3 rfl (by simp), all_spliced _ _ _ _ _ h4 rfl⟩

theorem Chan.zeroRange_wf (c : Chan) (me : Ch) (v : Variant) (lo len : Nat) (h : c.mem.wf = true) :
    (c.zeroRange me v lo len).mem.wf = true := by
  unfold Chan.zeroRange; split
  · exact c.putBytes_wf _ _ _ _ h
  · exact c.mem.clearRange_wf _ _ h

theorem Chan.copyRange_wf (c : Chan) (me : Ch) (v : Variant) (src dst len : Nat) (h : c.mem.wf = true) :
    (c.copyRange me v src dst len).mem.wf = true := by
  unfold Chan.copyRange; split
  · exact c.putBytes_wf _ _ _ _ h
  · exact c.mem.copyRange_wf _ _ _ h

theorem Chan.rewriteSlot_wf (c : Chan) (i : Nat) (h : c.mem.wf = true) : (c.rewriteSlot i).mem.wf = true := c.rewrite_wf _ _ h

theorem Chan.reloadSlot_wf (c : Chan) (v : Variant) (i : Nat) (h : c.mem.wf = true) : (c.reloadSlot v i).mem.wf = true :=
  c.mem.copyRange_wf _ _ _ h

/-- Writing lanes one after another keeps the form. -/
theorem Chan.foldl_putLane_wf (me : Ch) (v : Variant) (ks : List Nat) (lanes : BitVec 4) (f : Chan → Nat → Nat) (g : Nat → Byte)
    (x : Chan → Nat → BitVec 5) (c : Chan) (h : c.mem.wf = true) :
    (ks.foldl (fun (c : Chan) k => if lanes.getLsbD k then c.putLane me v (f c k) (g k) (x c k) else c) c).mem.wf = true := by
  induction ks generalizing c with
  | nil => exact h
  | cons k ks ih =>
    simp only [List.foldl_cons]
    apply ih
    split
    · exact c.putLane_wf _ _ _ _ _ h
    · exact h

theorem Chan.flipWrite_wf (c : Chan) (me : Ch) (v : Variant) (addr : Nat) (lanes : BitVec 4) (data : Word)
    (h : c.mem.wf = true) : (c.flipWrite me v addr lanes data).mem.wf = true := by
  unfold Chan.flipWrite
  exact Chan.foldl_putLane_wf me v (List.range 4) lanes (fun c k => c.nv.home (addr / 4 * 4 + k))
    (fun k => (data >>> (8 * k)).setWidth 8) (fun c k => (c.mem.mask >>> (5 * k)).setWidth 5) c h

theorem Mem.reset_wf : State.reset.chans.toList.all (fun c => c.mem.wf) = true := by decide

/-! ### What a read finds after a write -/

/-- A lane written reads as written. -/
theorem Mem.byte_putLane_self (m : Mem) (a : Nat) (b : Byte) (x : BitVec 5) : (m.putLane a b x).byte a = b := by
  unfold Mem.byte Mem.putLane
  rw [lookup_spliced_in _ _ _ _ _ ⟨Nat.le_refl a, Nat.lt_succ_self a⟩]
  unfold cellOf
  split
  · next h => simp at h; simp [h]
  · simp [List.lookup]

theorem Mem.diff_putLane_self (m : Mem) (a : Nat) (b : Byte) (x : BitVec 5) : (m.putLane a b x).diff a = x := by
  unfold Mem.diff Mem.putLane
  rw [lookup_spliced_in _ _ _ _ _ ⟨Nat.le_refl a, Nat.lt_succ_self a⟩]
  unfold checkOf
  split
  · next h => simp at h; simp [h]
  · simp [List.lookup]

/-- Every other lane reads as before. -/
theorem Mem.byte_putLane_ne (m : Mem) {a c : Nat} (b : Byte) (x : BitVec 5) (h : c ≠ a) :
    (m.putLane a b x).byte c = m.byte c := by
  unfold Mem.byte Mem.putLane
  rw [lookup_spliced_out _ _ _ _ _ (by omega) (cellOf_in a b)]

theorem Mem.diff_putLane_ne (m : Mem) {a c : Nat} (b : Byte) (x : BitVec 5) (h : c ≠ a) :
    (m.putLane a b x).diff c = m.diff c := by
  unfold Mem.diff Mem.putLane
  rw [lookup_spliced_out _ _ _ _ _ (by omega) (checkOf_in a x)]

/-- A lane written reads as written, check bits and all, over whatever a unit keeps there (R322, R323). -/
theorem Chan.byteAt_putLane_self (c : Chan) (me : Ch) (v : Variant) (a : Nat) (b : Byte) (x : BitVec 5) :
    (c.putLane me v a b x).byteAt me v a = b := by
  have hb : (c.putLane me v a b x).baseByte me v a = c.baseByte me v a := rfl
  unfold Chan.byteAt
  rw [hb, show (c.putLane me v a b x).mem = c.mem.putLane a (c.baseByte me v a ^^^ b) x from rfl, Mem.byte_putLane_self,
    ← BitVec.xor_assoc, BitVec.xor_self, BitVec.zero_xor]

theorem Chan.kindAt_putLane_self (c : Chan) (me : Ch) (v : Variant) (a : Nat) (b : Byte) (x : BitVec 5) :
    (c.putLane me v a b x).kindAt me v a = laneKind b x := by
  unfold Chan.kindAt
  rw [Chan.byteAt_putLane_self, show (c.putLane me v a b x).mem = c.mem.putLane a (c.baseByte me v a ^^^ b) x from rfl,
    Mem.diff_putLane_self]

/-- Every other lane reads as before. -/
theorem Chan.byteAt_putLane_ne (c : Chan) (me : Ch) (v : Variant) {a e : Nat} (b : Byte) (x : BitVec 5) (h : e ≠ a) :
    (c.putLane me v a b x).byteAt me v e = c.byteAt me v e := by
  have hb : (c.putLane me v a b x).baseByte me v e = c.baseByte me v e := rfl
  unfold Chan.byteAt
  rw [hb, show (c.putLane me v a b x).mem = c.mem.putLane a (c.baseByte me v a ^^^ b) x from rfl, Mem.byte_putLane_ne _ _ _ h]

theorem Chan.kindAt_putLane_ne (c : Chan) (me : Ch) (v : Variant) {a e : Nat} (b : Byte) (x : BitVec 5) (h : e ≠ a) :
    (c.putLane me v a b x).kindAt me v e = c.kindAt me v e := by
  unfold Chan.kindAt
  rw [Chan.byteAt_putLane_ne _ _ _ _ _ h, show (c.putLane me v a b x).mem = c.mem.putLane a (c.baseByte me v a ^^^ b) x from rfl,
    Mem.diff_putLane_ne _ _ _ h]

/-- A range cleared reads 0x00, everything else as before. -/
theorem Mem.byte_clearRange (m : Mem) (lo len a : Nat) :
    (m.clearRange lo len).byte a = if lo ≤ a ∧ a < lo + len then 0 else m.byte a := by
  unfold Mem.byte Mem.clearRange
  split
  · next h => rw [lookup_spliced_in _ _ _ _ _ h]; rfl
  · next h => rw [lookup_spliced_out _ _ _ _ _ (by omega) (by simp)]

end Sys2Proof.Machine
end

