-- ==== Sys2Proof/Laws/Shared.lean ====
section
/-! SUPPORT. What the operations on the whole state leave alone: the factory's settings, the queue, and the invariant of the
shared hardware (`State.Keeps`), one lemma for each operation. -/

namespace Sys2Proof.Machine

open Sys2Proof

/-! ### The relation itself -/

theorem State.Keeps.refl (s : State) : s.Keeps s := ⟨rfl, rfl, fun h => h⟩

theorem State.Keeps.trans {s t u : State} (h : s.Keeps t) (k : t.Keeps u) : s.Keeps u :=
  ⟨k.factory.trans h.factory, k.pending.trans h.pending, fun i => k.inv (h.inv i)⟩

/-- A state with the same shared hardware keeps everything. -/
theorem State.Keeps.of_same {s t : State} (hf : t.factory = s.factory) (hp : t.pending = s.pending)
    (hh : t.hedgehog = s.hedgehog) (hn : t.net = s.net) : s.Keeps t :=
  ⟨hf, hp, fun h => And.intro (hh.symm ▸ h.left) (hn.symm ▸ h.right)⟩

/-! ### The Hedgehog and the network -/

theorem Hedgehog.Consistent.causeNow {h : Hedgehog} (_i : h.Consistent) (cause : TripCause) : (h.causeNow cause).Consistent := by
  unfold Hedgehog.Consistent Hedgehog.causeNow
  dsimp only
  refine ⟨by split <;> omega, rfl, ?_⟩
  split <;> simp

theorem Hedgehog.arm_consistent (h : Hedgehog) : h.arm.Consistent := by
  unfold Hedgehog.Consistent Hedgehog.arm; simp

/-- Whatever the lines say, at most one drive is left cut (R169). -/
theorem Network.settleDrives_oneCut (n : Network) (whom : Ch) : (n.settleDrives whom).OneCut := by
  obtain ⟨cut, ⟨a, b, c⟩, v, r⟩ := n
  intro x y
  cases whom <;> cases x <;> cases y <;>
    simp [Network.settleDrives, Network.evalDrive, Tri.set, Tri.get, Ch.next, Ch.prev]
  all_goals grind

/-! ### Operations of Ops -/

theorem State.put_keeps (s : State) (ch : Ch) (c : Chan) : s.Keeps (s.put ch c) := .of_same rfl rfl rfl rfl

theorem State.mod_keeps (s : State) (ch : Ch) (f : Chan → Chan) : s.Keeps (s.mod ch f) := s.put_keeps ch _

theorem State.onLive_keeps (s : State) (ch : Ch) (f : Chan → Chan) : s.Keeps (s.onLive ch f) := by
  unfold State.onLive; split
  · exact s.mod_keeps ch f
  · exact .refl s

theorem State.drawn_keeps (s : State) : s.Keeps s.drawn := .of_same rfl rfl rfl rfl

theorem State.reply_keeps (s : State) (r : Reply) : s.Keeps (s.reply r) := by
  unfold State.reply; split
  · exact .of_same rfl rfl rfl rfl
  · exact .refl s

/-- Folding steps that keep keeps. -/
theorem State.foldl_keeps {α : Type} (l : List α) (f : State → α → State) (h : ∀ (s : State) (a : α), s.Keeps (f s a)) (s : State) :
    s.Keeps (l.foldl f s) := by
  induction l generalizing s with
  | nil => exact .refl s
  | cons a l ih => exact (h s a).trans (ih (f s a))

theorem State.allLive_keeps (s : State) (f : Ch → Chan → Chan) : s.Keeps (s.allLive f) :=
  State.foldl_keeps _ _ (fun s ch => s.onLive_keeps ch (f ch)) s

theorem State.trip_keeps (s : State) (cause : TripCause) : s.Keeps (s.trip cause) := by
  have k : s.Keeps { s with hedgehog := s.hedgehog.causeNow cause } :=
    ⟨rfl, rfl, fun i => ⟨i.1.causeNow cause, i.2⟩⟩
  unfold State.trip; dsimp only; split
  · exact k.trans (State.allLive_keeps _ _)
  · exact k

theorem State.setAlive_keeps (s : State) (ch : Ch) (on : Bool) : s.Keeps (s.setAlive ch on) := by
  unfold State.setAlive; dsimp only; split
  · exact (s.mod_keeps _ _).trans (State.trip_keeps _ _)
  · exact s.mod_keeps _ _

/-! ### Leaving the vote -/

theorem State.settle_keeps (s : State) (cause : Nat) : s.Keeps (s.settle cause) := by
  unfold State.settle; split
  · refine State.Keeps.trans (State.foldl_keeps _ _ (fun s ch => ?_) s) (State.foldl_keeps _ _ (fun s ch => ?_) _)
    · split
      · exact s.mod_keeps _ _
      · exact .refl s
    · split
      · exact s.setAlive_keeps _ _
      · exact .refl s
  · exact .refl s

theorem State.exclude_keeps (s : State) (ch : Ch) (task cycle cause : Nat) : s.Keeps (s.exclude ch task cycle cause) := by
  unfold State.exclude; split
  · exact ((s.mod_keeps _ _).trans (State.setAlive_keeps _ _ _)).trans (State.settle_keeps _ _)
  · exact .refl s

theorem State.withdraw_keeps (s : State) (ch : Ch) : s.Keeps (s.withdraw ch) := by
  unfold State.withdraw; dsimp only; split
  · exact (s.mod_keeps _ _).trans (State.exclude_keeps _ _ _ _ _)
  · exact .refl s

theorem State.safeShutdown_keeps (s : State) (ch : Ch) (cause : Nat) : s.Keeps (s.safeShutdown ch cause) :=
  (((s.mod_keeps _ _).trans (State.setAlive_keeps _ _ _)).trans (State.settle_keeps _ _)).trans (State.trip_keeps _ _)

theorem State.trapped_keeps (s : State) (ch : Ch) (addr : Nat) : s.Keeps (s.trapped ch addr) := by
  unfold State.trapped; dsimp only; split
  · exact (s.mod_keeps _ _).trans (State.withdraw_keeps _ _)
  · split
    · exact (s.mod_keeps _ _).trans (State.mod_keeps _ _ _)
    · exact s.mod_keeps _ _

theorem State.abandonRun_keeps (s : State) (ch : Ch) (task i : Nat) : s.Keeps (s.abandonRun ch task i) :=
  (s.mod_keeps _ _).trans (State.withdraw_keeps _ _)

theorem State.actOnSeal_keeps (s : State) (ch : Ch) : s.Keeps (s.actOnSeal ch) := by
  unfold State.actOnSeal
  extract_lets a b d
  have ka : s.Keeps a := s.mod_keeps _ _
  have kb : s.Keeps b := ka.trans (State.mod_keeps _ _ _)
  refine State.Keeps.trans ?_ (State.trip_keeps _ _)
  refine State.Keeps.trans ?_ (State.settle_keeps _ _)
  refine State.Keeps.trans ?_ (State.setAlive_keeps _ _ _)
  unfold d
  split
  · exact kb.trans (State.mod_keeps _ _ _)
  · exact kb

/-! ### Start-up -/

theorem State.freshShared_keeps (s : State) : s.Keeps s.freshShared :=
  ⟨rfl, rfl, fun _ => ⟨by simp [State.freshShared, Hedgehog.Consistent],
    fun x y (h : (default : Network).driveCut.get x = true) _ => by cases x <;> exact absurd h (by decide)⟩⟩

theorem State.armAtEntry_keeps (s : State) : s.Keeps s.armAtEntry := by
  unfold State.armAtEntry; dsimp only
  split
  · exact .refl s
  · split
    · exact ⟨rfl, rfl, fun i => ⟨(Hedgehog.arm_consistent s.hedgehog), i.2⟩⟩
    · exact ⟨rfl, rfl, fun i => ⟨i.1, i.2⟩⟩

theorem State.enterP7_keeps (s : State) (ch : Ch) (ms : Nat) : s.Keeps (s.enterP7 ch ms) := by
  unfold State.enterP7; dsimp only
  refine State.Keeps.trans ?_ (State.armAtEntry_keeps _)
  split
  · exact (s.mod_keeps _ _).trans (State.setAlive_keeps _ _ _)
  · exact s.mod_keeps _ _

theorem State.judgeAddress_keeps (s : State) : s.Keeps s.judgeAddress := by
  unfold State.judgeAddress; split
  · exact s.allLive_keeps _
  · exact .refl s

/-! ### Effects, releases and runs -/

theorem State.rearm_keeps {s t : State} {ch : Ch} {tag : Nat} (h : s.rearm ch tag = some t) : s.Keeps t := by
  unfold State.rearm at h; dsimp only at h
  split at h
  · cases h
  · cases h
    split
    · exact s.mod_keeps _ _
    · exact (s.mod_keeps ch (fun c => { c with dout := c.dout.awaitFresh (List.range 32) c.lastInstant })).trans
        ⟨rfl, rfl, fun i => ⟨Hedgehog.arm_consistent s.hedgehog, i.2⟩⟩

theorem State.byChan_keeps (s : State) (ch : Ch) (f : Chan → Option Chan) : s.Keeps (s.byChan ch f).2 := by
  unfold State.byChan; split
  · exact s.put_keeps _ _
  · exact .refl s

theorem State.effect_keeps (s : State) (ch : Ch) (opcode : Nat) (p : List Byte) (tag main cycle : Nat) :
    s.Keeps (s.effect ch opcode p tag main cycle).2 := by
  unfold State.effect
  split
  all_goals first
    | exact s.byChan_keeps _ _
    | exact s.mod_keeps _ _
    | exact s.mod_keeps ch (fun c => c.calWrite ch p)
    | exact .refl s
    | skip
  · split
    · next h => exact State.rearm_keeps h
    · exact .refl s
  · split
    · exact s.put_keeps _ _
    · exact .refl s

theorem State.applyEffect_keeps (s : State) (ch : Ch) (main offset : Nat) (e : Agreed) :
    s.Keeps (s.applyEffect ch main offset e) := by
  unfold State.applyEffect; dsimp only
  exact State.Keeps.trans (s.effect_keeps ch e.opcode e.params e.tag main _) (State.mod_keeps _ _ _)

theorem State.applyEffects_keeps (s : State) (ch : Ch) (main offset : Nat) (starting due : List Nat) :
    s.Keeps (s.applyEffects ch main offset starting due) := by
  unfold State.applyEffects; dsimp only
  refine State.Keeps.trans ?_ (State.foldl_keeps _ _ (fun s e => s.applyEffect_keeps ch main offset e) _)
  exact s.mod_keeps _ _

theorem State.releaseTasks_keeps (s : State) (ch : Ch) (main offset : Nat) : s.Keeps (s.releaseTasks ch main offset) := by
  unfold State.releaseTasks; dsimp only
  exact (((s.mod_keeps _ _).trans (State.mod_keeps _ _ _)).trans (State.applyEffects_keeps _ _ _ _ _ _)).trans
    (State.mod_keeps _ _ _)

theorem State.replayNext_keeps (s : State) (ch : Ch) : s.Keeps (s.replayNext ch) := by
  unfold State.replayNext; dsimp only; split
  · refine State.Keeps.trans ?_ (State.mod_keeps _ _ _)
    exact (s.mod_keeps _ _).trans (State.foldl_keeps _ _ (fun (s : State) (e : Nat × List Byte) => s.effect_keeps ch e.1 e.2 0 _ _) _)
  · exact .refl s

theorem State.startRuns_keeps (s : State) (ch : Ch) (offset : Nat) : s.Keeps (s.startRuns ch offset) := by
  unfold State.startRuns; dsimp only; split
  · split
    · exact s.releaseTasks_keeps _ _ _
    · exact (s.releaseTasks_keeps _ _ _).trans (State.mod_keeps _ _ _)
  · exact .refl s

theorem State.startProbation_keeps (s : State) (ch : Ch) (x : StateXfer) (j : Nat) : s.Keeps (s.startProbation ch x j) := by
  unfold State.startProbation; dsimp only; split
  · split
    · refine State.Keeps.trans ?_ (State.releaseTasks_keeps _ _ _ _)
      exact s.mod_keeps _ _
    · refine State.Keeps.trans ?_ (State.mod_keeps _ _ _)
      refine State.Keeps.trans ?_ (State.releaseTasks_keeps _ _ _ _)
      exact s.mod_keeps _ _
  · exact s.mod_keeps _ _

theorem State.joinAtRelease_keeps (s : State) (ch : Ch) (main : Nat) : s.Keeps (s.joinAtRelease ch main) := by
  unfold State.joinAtRelease; dsimp only; split
  · exact .refl s
  · split
    · split
      · exact s.mod_keeps _ _
      · split
        · exact (s.mod_keeps _ _).trans (State.setAlive_keeps _ _ _)
        · exact .refl s
    · exact .refl s

/-! ### Links, recorder, tests -/

theorem State.taken_keeps (s : State) (ch frm : Ch) (l : Link) (m : XMsg) (f : Chan → Chan) : s.Keeps (s.taken ch frm l m f) := by
  unfold State.taken; split
  · exact .refl s
  · exact s.onLive_keeps _ _

theorem State.takenP_keeps (s : State) (ch : Ch) (l : PLink) (m : PMsg) (f : Chan → Chan) : s.Keeps (s.takenP ch l m f) :=
  s.onLive_keeps _ _

theorem State.eventFrame_keeps (s : State) (ch : Ch) (f : FrameRx) (kind : Nat) (e : EventKind) :
    s.Keeps (s.eventFrame ch f kind e) := s.onLive_keeps _ _

theorem State.decideFor_keeps (s : State) (key : PairKey) (ps : List Presentation) (ch : Ch) :
    s.Keeps (s.decideFor key ps ch) := by
  unfold State.decideFor
  extract_lets c
  split
  · split
    · extract_lets commit third s'
      split
      · exact (s.put_keeps _ _).trans (State.withdraw_keeps _ _)
      · exact s.put_keeps _ _
    · exact .refl s
  · exact .refl s

theorem State.shareSwitch_keeps (s : State) : s.Keeps s.shareSwitch := s.allLive_keeps _

/-- A decision carried out keeps, whatever its outcome. -/
theorem State.carryOut_keeps (s : State) (ch : Ch) (own : TaskSet) (d : Decision) (us : Nat) : s.Keeps (s.carryOut ch own d us) := by
  unfold State.carryOut
  extract_lets v a
  have ka : s.Keeps a := s.mod_keeps _ _
  split
  · exact ka.trans (State.safeShutdown_keeps _ _ _)
  · split
    · exact ka.trans (State.exclude_keeps _ _ _ _ _)
    · exact (ka.trans (State.mod_keeps _ _ _)).trans (State.replayNext_keeps _ _)

/-! ### Memory and its engines -/

theorem State.halted_keeps (s : State) (ch : Ch) (r : Reader) (h : Halt) : s.Keeps (s.halted ch r h) := by
  unfold State.halted
  extract_lets a
  have ka : s.Keeps a := by
    unfold a
    split
    · exact s.mod_keeps _ _
    · exact .refl s
  split
  · exact ka.trans (State.trapped_keeps _ _ _)
  · split
    · exact ka.trans (State.withdraw_keeps _ _)
    · exact ka

theorem State.runDma_keeps (s : State) (ch : Ch) (e : Nat) (d : Descriptor) (start : Nat) : s.Keeps (s.runDma ch e d start) := by
  unfold State.runDma
  extract_lets v c
  split
  · exact s.put_keeps _ _
  · exact (s.put_keeps _ _).trans (State.halted_keeps _ _ _ _)

theorem State.runQueue_keeps (ch : Ch) (e n : Nat) (s : State) : s.Keeps (State.runQueue ch e n s) := by
  induction n generalizing s with
  | zero => exact .refl s
  | succ n ih =>
    unfold State.runQueue
    dsimp only
    split
    · exact ((s.mod_keeps _ _).trans (State.runDma_keeps _ _ _ _ _)).trans (ih _)
    · exact .refl s

/-! ### Releases on the module -/

theorem State.tryProbation_keeps (s : State) (ch : Ch) : s.Keeps (s.tryProbation ch) := by
  unfold State.tryProbation
  dsimp only
  split
  · exact s.startProbation_keeps _ _ _
  · exact .refl s

theorem State.finalStep_keeps (s : State) (ch : Ch) (main : Nat) : s.Keeps (s.finalStep ch main) := by
  unfold State.finalStep
  dsimp only
  split
  · split
    · exact s.mod_keeps _ _
    · exact .refl s
  · exact .refl s

theorem State.beginMain_keeps (s : State) (ch : Ch) (main now : Nat) : s.Keeps (s.beginMain ch main now) := by
  unfold State.beginMain
  extract_lets waits a
  have ka : s.Keeps a := (State.Keeps.of_same rfl rfl rfl rfl : s.Keeps { s with draws := s.draws + 2 }).trans (State.mod_keeps _ _ _)
  exact ((ka.trans (State.joinAtRelease_keeps _ _ _)).trans (State.finalStep_keeps _ _ _)).trans (State.mod_keeps _ _ _)

theorem State.idle_keeps (s : State) : s.Keeps s.idle := s.allLive_keeps _

/-! ### Host commands -/

theorem State.respond_keeps (s : State) (r : Reply) : s.Keeps (s.respond r) :=
  (s.mod_keeps _ _).trans (State.reply_keeps _ _)

theorem State.answer_keeps (s : State) (ch : Ch) (opcode : Nat) (p : Pkt) (status : Nat) (params : List Byte) :
    s.Keeps (s.answer ch opcode p status params) := s.respond_keeps _

theorem State.deny_keeps (s : State) (ch : Ch) (opcode : Nat) (p : Pkt) (status detail : Nat) :
    s.Keeps (s.deny ch opcode p status detail) := s.answer_keeps _ _ _ _ _

theorem State.agree_keeps (s : State) (ch : Ch) (e : CmdEntry) : s.Keeps (s.agree ch e) := by
  unfold State.agree; dsimp only; split
  · exact .refl s
  · split
    · exact (s.put_keeps _ _).trans (State.respond_keeps _ _)
    · exact (s.put_keeps _ _).trans (State.respond_keeps _ _)

theorem State.consolidateCommands_keeps (s : State) (ch : Ch) : s.Keeps (s.consolidateCommands ch) := by
  unfold State.consolidateCommands State.dropUnagreed
  refine State.Keeps.trans (State.foldl_keeps (s.ch ch).agreedNow _ (fun s e => s.agree_keeps ch e) s) ?_
  refine State.Keeps.trans ?_ (State.foldl_keeps _ _ (fun s l => s.respond_keeps _) _)
  exact State.put_keeps _ _ _

theorem State.handle_keeps (s : State) (ch : Ch) (opcode : Nat) (p : Pkt) (f : State → State) (h : ∀ s : State, s.Keeps (f s)) :
    s.Keeps (s.handle ch opcode p f) := by
  unfold State.handle; split
  · exact s.deny_keeps _ _ _ _ _
  · split
    · exact s.deny_keeps _ _ _ _ _
    · split
      · exact s.deny_keeps _ _ _ _ _
      · exact h s

theorem State.inSession_keeps (s : State) (ch : Ch) (opcode : Nat) (p : Pkt) (t : Session) (f : State → State)
    (h : ∀ s : State, s.Keeps (f s)) : s.Keeps (s.inSession ch opcode p t f) := by
  unfold State.inSession; dsimp only; split
  · split
    · split
      · exact s.reply_keeps _
      · exact .refl s
    · exact s.deny_keeps _ _ _ _ _
  · split
    · exact s.deny_keeps _ _ _ _ _
    · exact (s.mod_keeps _ _).trans (State.handle_keeps _ _ _ _ _ h)

theorem State.admitted_keeps (s : State) (ch : Ch) (opcode : Nat) (p : Pkt) (f : State → State)
    (h : ∀ s : State, s.Keeps (f s)) : s.Keeps (s.admitted ch opcode p f) := by
  unfold State.admitted; dsimp only; split
  · exact s.deny_keeps _ _ _ _ _
  · split
    · exact s.deny_keeps _ _ _ _ _
    · split
      · exact s.handle_keeps _ _ _ _ h
      · split
        · exact s.deny_keeps _ _ _ _ _
        · exact s.inSession_keeps _ _ _ _ _ h

theorem State.receive_keeps (s : State) (ch : Ch) (opcode : Nat) (p : Pkt) (f : State → State)
    (h : ∀ s : State, s.Keeps (f s)) : s.Keeps (s.receive ch opcode p f) := by
  unfold State.receive; dsimp only; split
  · exact .refl s
  · split
    · exact (s.mod_keeps _ _).trans (State.mod_keeps _ _ _)
    · split
      · exact (s.mod_keeps _ _).trans (State.mod_keeps _ _ _)
      · exact (s.mod_keeps _ _).trans (State.admitted_keeps _ _ _ _ _ h)

/-- A packet keeps what its handler keeps. -/
theorem State.packet_keeps (s : State) (opcode : Nat) (p : Pkt) (f : Ch → State → State)
    (h : ∀ (ch : Ch) (s : State), s.Keeps (f ch s)) : s.Keeps (s.packet opcode p f) :=
  State.foldl_keeps _ _ (fun s ch => s.receive_keeps ch opcode p (f ch) (h ch)) s

theorem State.submit_keeps (s : State) (ch : Ch) (opcode : Nat) (p : Pkt) : s.Keeps (s.submit ch opcode p) := by
  unfold State.submit; split
  · exact s.deny_keeps _ _ _ _ _
  · exact s.mod_keeps _ _

theorem State.applyNow_keeps (s : State) (ch : Ch) (opcode : Nat) (p : Pkt) (r : Option (Chan × List Byte)) :
    s.Keeps (s.applyNow ch opcode p r) := by
  unfold State.applyNow; split
  · exact (s.put_keeps _ _).trans (State.answer_keeps _ _ _ _ _ _)
  · exact s.deny_keeps _ _ _ _ _

theorem State.writeParam_keeps (s : State) (ch : Ch) (p : Pkt) : s.Keeps (s.writeParam ch p) := by
  unfold State.writeParam; dsimp only; split
  · exact s.deny_keeps _ _ _ _ _
  · split
    · exact s.put_keeps _ _
    · exact (s.put_keeps _ _).trans (State.answer_keeps _ _ _ _ _ _)

theorem State.readMany_keeps (ns : List Nat) (s : State) (ch : Ch) (session : Nat) : s.Keeps (s.readMany ch session ns).2 := by
  induction ns generalizing s with
  | nil => exact .refl s
  | cons n ns ih =>
    unfold State.readMany
    dsimp only
    refine State.Keeps.trans ?_ (ih _)
    split
    · unfold State.readOne; dsimp only; split
      · exact (s.mod_keeps _ _).trans (State.drawn_keeps _)
      · exact s.mod_keeps _ _
    · exact .refl s

theorem State.replyWords_keeps (s : State) (ch : Ch) (opcode : Nat) (p : Pkt) (nums : List Nat) :
    s.Keeps (s.replyWords ch opcode p nums) :=
  (State.readMany_keeps nums s ch p.session).trans (State.answer_keeps _ _ _ _ _ _)

theorem State.readParam_keeps (s : State) (ch : Ch) (p : Pkt) : s.Keeps (s.readParam ch p) := by
  unfold State.readParam; dsimp only; split
  · exact s.deny_keeps _ _ _ _ _
  · split
    · exact s.deny_keeps _ _ _ _ _
    · exact s.replyWords_keeps _ _ _ _

theorem State.readBlock_keeps (s : State) (ch : Ch) (p : Pkt) : s.Keeps (s.readBlock ch p) := by
  unfold State.readBlock; dsimp only; split
  · exact s.deny_keeps _ _ _ _ _
  · exact s.replyWords_keeps _ _ _ _

theorem State.calRead_keeps (s : State) (ch : Ch) (p : Pkt) : s.Keeps (s.calRead ch p) := by
  unfold State.calRead; dsimp only; split
  · exact s.deny_keeps _ _ _ _ _
  · split
    · exact s.deny_keeps _ _ _ _ _
    · exact s.replyWords_keeps _ _ _ _

theorem State.openAt_keeps (s : State) (ch : Ch) (p : Pkt) : s.Keeps (s.openAt ch p) := by
  unfold State.openAt; split
  · exact s.deny_keeps _ _ _ _ _
  · exact (s.mod_keeps _ _).trans (State.respond_keeps _ _)

theorem State.imageError_keeps (s : State) (ch : Ch) (opcode : Nat) (p : Pkt) (code : Nat) :
    s.Keeps (s.imageError ch opcode p code) := s.deny_keeps _ _ _ _ _

theorem State.loadBegin_keeps (s : State) (ch : Ch) (p : Pkt) : s.Keeps (s.loadBegin ch p) := by
  unfold State.loadBegin; dsimp only
  split
  · exact s.deny_keeps _ _ _ _ _
  · split
    · exact s.deny_keeps _ _ _ _ _
    · split
      · exact s.imageError_keeps _ _ _ _
      · split
        · exact s.imageError_keeps _ _ _ _
        · exact (s.mod_keeps _ _).trans (State.answer_keeps _ _ _ _ _ _)

theorem State.loadData_keeps (s : State) (ch : Ch) (p : Pkt) : s.Keeps (s.loadData ch p) := by
  unfold State.loadData; dsimp only
  split
  · exact s.deny_keeps _ _ _ _ _
  · split
    · exact s.deny_keeps _ _ _ _ _
    · exact (s.mod_keeps _ _).trans (State.answer_keeps _ _ _ _ _ _)

theorem State.loadEnd_keeps (s : State) (ch : Ch) (p : Pkt) : s.Keeps (s.loadEnd ch p) := by
  unfold State.loadEnd; dsimp only
  split
  · exact s.deny_keeps _ _ _ _ _
  · split
    · exact s.imageError_keeps _ _ _ _
    · split
      · exact (s.put_keeps _ _).trans (State.answer_keeps _ _ _ _ _ _)
      · exact s.imageError_keeps _ _ _ _

end Sys2Proof.Machine
end

