-- ==== Sys2Proof/Laws/Signature.lean ====
section
/-! SUPPORT. A signature formed as R414 lays down verifies. The key of exponent 1 serves as a witness that verification can
succeed, since no key of the module's own is known. -/

namespace Sys2Proof.Machine

open Sys2Proof

theorem bytesOfNat_length (n x : Nat) : (bytesOfNat n x).length = n := by
  induction n generalizing x with
  | zero => rfl
  | succ n ih => simp [bytesOfNat, ih]

theorem sha256_length (m : List Byte) : (sha256 m).length = 32 := by
  simp [sha256, Quad.words, wordBytes, List.flatMap_cons]

theorem mgf1_length (seed : List Byte) : (mgf1 seed 351).length = 351 := by
  simp only [mgf1, List.length_take, List.length_flatMap, sha256_length, List.map_const', List.sum_replicate, List.length_range]
  rfl

theorem natOfBytesBE_append (a : List Byte) (b : Byte) : natOfBytesBE (a ++ [b]) = 256 * natOfBytesBE a + b.toNat := by
  simp [natOfBytesBE]

theorem bytesOfNatBE_of (bs : List Byte) : bytesOfNatBE bs.length (natOfBytesBE bs) = bs := by
  induction bs using List.reverseRecOn with
  | nil => rfl
  | append_singleton a b ih =>
    rw [natOfBytesBE_append, List.length_append, List.length_singleton]
    simp only [bytesOfNatBE, bytesOfNat, List.reverse_cons] at ih ⊢
    have hb := b.isLt
    have h1 : (256 * natOfBytesBE a + b.toNat) / 256 = natOfBytesBE a := by omega
    rw [h1, ih]
    congr 2
    apply BitVec.eq_of_toNat_eq
    simp
    omega

theorem natOfBytesBE_lt (bs : List Byte) : natOfBytesBE bs < 256 ^ bs.length := by
  induction bs using List.reverseRecOn with
  | nil => simp [natOfBytesBE]
  | append_singleton a b ih =>
    rw [natOfBytesBE_append, List.length_append, List.length_singleton, Nat.pow_succ]
    have := b.isLt
    omega

/-- The hash of an encoded message with a salt of zeros. -/
def pssHash (hash : List Byte) : List Byte := sha256 (List.replicate 8 0 ++ hash ++ List.replicate 32 0)

/-- The data block before masking, its first byte apart: 317 zeros, 1, the salt. -/
def pssTail : List Byte := List.replicate 317 0 ++ 1 :: List.replicate 32 0

/-- EMSA-PSS encoding with a salt of zeros (R414). -/
def pssEncode (hash : List Byte) : List Byte :=
  match mgf1 (pssHash hash) 351 with
  | m :: ms => ((m &&& 0x7F) :: List.zipWith (· ^^^ ·) pssTail ms) ++ pssHash hash ++ [0xBC]
  | [] => []

theorem pssTail_length : pssTail.length = 350 := by
  simp only [pssTail, List.length_append, List.length_replicate, List.length_cons]

theorem zipWith_xor_xor (a b : List Byte) (h : a.length = b.length) :
    List.zipWith (· ^^^ ·) (List.zipWith (· ^^^ ·) a b) b = a := by
  induction a generalizing b with
  | nil => rfl
  | cons x xs ih =>
    cases b with
    | nil => simp at h
    | cons y ys =>
      simp only [List.length_cons, Nat.add_right_cancel_iff] at h
      simp [ih ys h]

theorem pss_encoded (hash : List Byte) : pssVerify hash (pssEncode hash) = true ∧ (pssEncode hash).length = 384 := by
  unfold pssEncode
  have hl := mgf1_length (pssHash hash)
  generalize hm : mgf1 (pssHash hash) 351 = ms at hl
  cases ms with
  | nil => simp at hl
  | cons m ms =>
    have hms : ms.length = 350 := by simpa using hl
    have ht : pssTail.length = ms.length := by rw [hms, pssTail_length]
    have hh : (pssHash hash).length = 32 := sha256_length _
    have hz : (List.zipWith (· ^^^ ·) pssTail ms).length = 350 := by rw [List.length_zipWith, pssTail_length, hms]; rfl
    dsimp only
    have htake : (((m &&& 0x7F) :: List.zipWith (· ^^^ ·) pssTail ms) ++ pssHash hash ++ [0xBC]).take 351 =
        (m &&& 0x7F) :: List.zipWith (· ^^^ ·) pssTail ms := by
      rw [List.append_assoc, List.take_append_of_le_length (by simp [hz])]
      exact List.take_of_length_le (by simp [hz])
    have hdrop : ((((m &&& 0x7F) :: List.zipWith (· ^^^ ·) pssTail ms) ++ pssHash hash ++ [0xBC]).drop 351).take 32 =
        pssHash hash := by
      rw [List.append_assoc, List.drop_left' (by simp [hz]), List.take_left' hh]
    refine ⟨?_, by simp [hz, hh]⟩
    unfold pssVerify
    dsimp only
    rw [htake, hdrop, hm]
    have hx : (((m &&& 0x7F) ^^^ m) &&& 0x7F : Byte) = 0 := by
      ext i hi
      simp
    have hs : (m &&& 0x7F : Byte).getLsbD 7 = false := by simp
    simp only [List.zipWith_cons_cons, zipWith_xor_xor _ _ ht, List.head?_cons, Option.getD_some, List.drop_succ_cons,
      List.drop_zero, hx, hs]
    have hsalt : pssTail.drop 318 = List.replicate 32 0 := by decide +kernel
    have hzero : (0 :: pssTail : List Byte).take 318 = List.replicate 318 0 := by decide +kernel
    have hone : (0 :: pssTail : List Byte).getD 318 0 = 1 := by decide +kernel
    rw [hsalt, hzero, hone]
    simp only [pssHash, List.length_append, List.length_cons, hz, sha256_length, List.getLast?_concat, List.length_nil,
      beq_self_eq_true, Bool.and_self]

/-- A key slot whose signature is the encoded message itself. -/
def signer : KeySlot := { (default : KeySlot) with state := 1, keyId := 0, exponent := 1, modulus := 256 ^ 384, crcOk := true }

/-- The signature of a hash's bytes under that key. -/
def signedOver (h : List Byte) : Nat := natOfBytesBE (pssEncode h)

/-- The signature of a hash under that key. -/
def signed (hash : BitVec 256) : Nat := signedOver (digestBytes hash)

theorem powMod_one (x n : Nat) (hn : x < n) (hk : 1 < n) : ∀ k, powMod (k + 1) x 1 n = x := by
  have h0 : ∀ k y, powMod k y 0 n = 1 := by
    intro k
    induction k with
    | zero => intro y; simp [powMod, Nat.mod_eq_of_lt hk]
    | succ k ih => intro y; simp [powMod, ih]
  intro k
  simp [powMod, h0, Nat.mod_eq_of_lt hn]

theorem rsa_signedOver (h : List Byte) : rsaVerify signer.modulus signer.exponent h (signedOver h) = true := by
  have hp := pss_encoded h
  have hlt : signedOver h < signer.modulus := by
    have := natOfBytesBE_lt (pssEncode h)
    rw [hp.2] at this
    exact this
  have hb := bytesOfNatBE_of (pssEncode h)
  rw [hp.2] at hb
  have h1 : 1 < signer.modulus := Nat.one_lt_pow (Nat.succ_ne_zero 383) (by decide)
  have hm : signer.modulus ≠ 0 := by omega
  unfold rsaVerify
  rw [show signer.exponent = 1 from rfl, powMod_one _ _ hlt h1 31]
  simp only [signedOver, hb, hp.1, Bool.and_true, bne_iff_ne, ne_eq, Bool.and_eq_true]
  exact ⟨hm, decide_eq_true hlt⟩

theorem rsa_signed (hash : BitVec 256) : rsaVerify signer.modulus signer.exponent (digestBytes hash) (signed hash) = true :=
  rsa_signedOver _

end Sys2Proof.Machine
end

