-- ==== Sys2Proof/Laws/Tiles.lean ====
section
/-! SUPPORT. A tile as stored (spec/03_station_model.md R59 to R61, R81): where its header and its check word stand, and what
a check-value unit finds in a slot of which memory lists no change. -/

namespace Sys2Proof.Machine

open Sys2Proof

@[simp] theorem padPayload_length (p : List Word) : (padPayload p).length = 1022 := by
  simp only [padPayload, List.length_take, List.length_append, List.length_replicate]
  omega

theorem storedTile_header (ch : Ch) (key : Word) (kind gen index count : Nat) (payload : List Word) :
    wordAt (storedTile ch key kind gen index count payload) 1022 = tileHeader kind ch.code gen index count := by
  simp [storedTile, wordAt]

/-- The check word of a tile as stored is the CRC of the words before it. -/
theorem storedTile_crc (ch : Ch) (key : Word) (kind gen index count : Nat) (payload : List Word) :
    wordAt (storedTile ch key kind gen index count payload) 1023 = tileCrc (storedTile ch key kind gen index count payload) := by
  have h : ((padPayload payload).map (encodeForm ch key index) ++ [tileHeader kind ch.code gen index count]).length = 1023 := by
    simp
  unfold storedTile
  dsimp only
  generalize (padPayload payload).map (encodeForm ch key index) ++ [tileHeader kind ch.code gen index count] = ws at h
  simp [wordAt, tileCrc, h, List.take_of_length_le]

/-- What the checks of R81 find in a tile as stored depends on its header alone. -/
theorem tileCause_stored (ch : Ch) (key : Word) (kind gen index count : Nat) (payload : List Word)
    (hk : bits (tileHeader kind ch.code gen index count).toNat 31 27 = kind)
    (hf : bits (tileHeader kind ch.code gen index count).toNat 26 25 = ch.code)
    (hi : bits (tileHeader kind ch.code gen index count).toNat 21 12 = index)
    (hg : bits (tileHeader kind ch.code gen index count).toNat 24 22 = gen) :
    tileCause (storedTile ch key kind gen index count payload) ch kind gen index = 0 := by
  simp [tileCause, storedTile_header, storedTile_crc, hk, hf, hi, hg]

/-- A memory that lists no change holds a tile's words as they were stored. -/
theorem tileWordsAt_clean (c : Chan) (me : Ch) (g : Image) (i addr : Nat) (h : c.mem.data = []) :
    c.tileWordsAt me g i addr = c.storedAt me g i := by
  have hd : ∀ a, c.mem.wordDiff a = 0 := by
    intro a
    simp [Mem.wordDiff, Mem.byte, h, w32]
  simp [Chan.tileWordsAt, hd]

/-- What the unit finds in words that are those stored for the tile. -/
theorem wordsFinding_stored (c : Chan) (me : Ch) (g : Image) (i : Nat) (kind gen count : Nat) (payload : List Word)
    (hc : c.tileContent g i = (kind, gen, count, payload)) (hk : kind ≠ 0x11)
    (h0 : tileCause (storedTile me (g.tileKey i) kind gen i count payload) me kind gen i = 0) :
    c.wordsFinding me g i (c.storedAt me g i) false = 0 := by
  have hs : c.storedAt me g i = storedTile me (g.tileKey i) kind gen i count payload := by simp [Chan.storedAt, hc]
  simp [Chan.wordsFinding, hc, hs, h0, hk]

end Sys2Proof.Machine
end

