-- ==== Sys2Proof/Tests/Slice0.lean ====
section
/-! SUPPORT. The model's own tests: ill-formed commands that the check refuses, numbers the spec gives, one step of many
commands, and for every statement with hypotheses a state and operands that meet them (the `witness_` theorems, one
conjunct for each clause). Expected numbers come from spec/, as each comment says. -/

namespace Sys2Proof.Tests

open Sys2Proof Sys2Proof.Machine

set_option Elab.async false

/-! ### States to start from -/

/-- A channel in P7 that votes with both partners, as the active. -/
def up : Chan :=
  let c := State.reset.ch .a
  { c with
    supply := { c.supply with inReset := false, present1 := true, present2 := true, volts1 := 240, volts2 := 240 }
    boot := { c.boot with phase := 7, agreed := true, listened := true }
    vote := { c.vote with mode := 1, inVote := 7 }
    part := { c.part with role := 1 }
    recd := { c.recd with started := true, nextSeq := 1 }
    safe := { c.safe with alive := true } }

/-- A channel in an earlier phase. -/
def rising (phase : Nat) : Chan := { up with boot := { (default : Boot) with phase := phase }, vote := default, part := default }

/-- A module armed, with channel A as given and two that run. -/
def one (c : Chan) : State :=
  { State.reset with
    chans := ⟨c, up, up⟩, hedgehog := { copy1 := false, copy2 := false, st := 1, cause := 0, tried := true, armTag := none } }

/-- The state a command leaves. -/
def after (i : Instr) (s : State) : State :=
  match exec i s with
  | .next t => t
  | _ => s

/-- The state a step leaves. -/
def stepped (s : State) : State :=
  match step s with
  | .next t => t
  | _ => s

/-! ### Transfers as their senders form them -/

/-- A transfer as it reads out of an exchange link's queue, with SEQ 0. -/
def sent (m : XMsg) : Link := Link.of m.kind 0 m.payload

/-- A transfer as it reads out of the partner link's queue, with SEQ 0 and the loop closed. -/
def psent (m : PMsg) : PLink := { link := Link.of m.kind 0 m.payload, loop := true }

theorem of_seq (k : Nat) (ws : List Word) : (Link.of k 0 ws).seq = 0 := by
  simp only [Link.of, Link.seq, headerWord, w32, BitVec.toNat_ofNat]
  omega

theorem of_intact (k : Nat) (ws : List Word) (h : k < 16) : (Link.of k 0 ws).intact k ws = true := by
  simp only [Link.of, Link.intact, Link.crcOk, Link.kind, Link.len, headerWord, w32, BitVec.toNat_ofNat, beq_self_eq_true,
    Bool.true_and, Bool.and_eq_true, beq_iff_eq]
  omega

theorem sent_intact (m : XMsg) : (sent m).intact m.kind m.payload = true :=
  of_intact _ _ (by cases m <;> simp [XMsg.kind])

theorem psent_intact (m : PMsg) : (psent m).link.intact m.kind m.payload = true :=
  of_intact _ _ (by cases m <;> simp [PMsg.kind])

theorem takes {c : Chan} {frm : Ch} (m : XMsg) (h1 : c.split = false) (h2 : 4 ≤ c.boot.phase) (h3 : c.vote.rxSeq.get frm = 0) :
    c.TakesFrom frm (sent m) m :=
  { split := h1, phase := h2, room := rfl, intact := sent_intact m, seq := by rw [h3]; exact of_seq _ _ }

theorem takesP {c : Chan} (m : PMsg) (h1 : c.split = false) (h2 : 6 ≤ c.boot.phase) (h3 : c.boot.stopped = false)
    (h4 : c.part.rxSeq = 0) (h5 : c.part.asked = []) : c.TakesPartner (psent m) m :=
  { split := h1, phase := h2, started := h3, loop := rfl, room := rfl, intact := psent_intact m
    fresh := by rw [h5]; rfl
    seq := by rw [h4]; exact of_seq _ _ }

/-! ### Well-formedness: one ill-formed command for each check -/

theorem test_wf_terminal : (Instr.inputDebounce .a (.input 96) true).wellFormed = false := by decide
theorem test_wf_readback : (Instr.inputDebounce .a (.readback 32) true).wellFormed = false := by decide
theorem test_wf_circuit : (Instr.inputCircuitTest .a 96 true).wellFormed = false := by decide
theorem test_wf_offset : (Instr.taskRelease .a 1048576 0 0 0 0).wellFormed = false := by decide
theorem test_wf_sender : (Instr.marker .a .a default 0 0 0 0).wellFormed = false := by decide
theorem test_wf_task : (Instr.taskRun .a 8 0 0).wellFormed = false := by decide
theorem test_wf_route : (Instr.rsvTimeout .a 4096).wellFormed = false := by decide
theorem test_wf_tile : (Instr.tileVerify .a 1024 [] false).wellFormed = false := by decide
theorem test_wf_flips : (Instr.tileVerify .a 0 [(1024, 1)] false).wellFormed = false := by decide
theorem test_wf_instance : (Instr.fbTimerExpiry .a 262144).wellFormed = false := by decide
theorem test_wf_group : (Instr.fieldSupplySag .a 5).wellFormed = false ∧ (Instr.lowSideTest .a 0 true).wellFormed = false := by
  decide
theorem test_wf_cut : (Instr.cutLineChange .b .b true).wellFormed = false := by decide
theorem test_wf_output : (Instr.outputTimeout .a 32).wellFormed = false := by decide
theorem test_wf_frame : (Instr.hello .a { (default : FrameRx) with arrival := 2 ^ 20 }).wellFormed = false := by decide
theorem test_wf_class : (Instr.queueLinkError .a 8 none).wellFormed = false := by decide
theorem test_wf_req : (Instr.req .a default 16 0).wellFormed = false := by decide
theorem test_wf_engine : (Instr.dmaStop .a 4).wellFormed = false := by decide
theorem test_wf_lane : (Instr.memoryReadError .a .core 0 4).wellFormed = false := by decide
theorem test_wf_space : (Instr.translationFault .a .core 9 0 .read).wellFormed = false := by decide
theorem test_wf_bank : (Instr.bankRetire .a 8).wellFormed = false := by decide
theorem test_wf_param : (Instr.arbParamWrite .a 65536 0).wellFormed = false := by decide
theorem test_wf_bist : (Instr.bistSlice .a 18 0 0 [] []).wellFormed = false := by decide
theorem test_wf_packet : (Instr.nop { (default : Pkt) with session := 65536 }).wellFormed = false := by decide
theorem test_decode_none : decodeTableWord 0 0 = none ∧ decodeTableWord 16 0xFFFF = none := by decide

/-! ### Numbers the spec gives -/

/-- R158: the check value of the digest. -/
theorem test_crc64 : crc64 [0x31, 0x32, 0x33, 0x34, 0x35, 0x36, 0x37, 0x38, 0x39] = 0x6C40DF5F0B497347 := by decide +kernel

/-- The check value of the tile CRC, CRC-32C. -/
theorem test_crc32c : crc32c [0x31, 0x32, 0x33, 0x34, 0x35, 0x36, 0x37, 0x38, 0x39] = 0xE3069283 := by decide +kernel

/-- The check value of the packet CRC. -/
theorem test_crc32 : crc32 [0x31, 0x32, 0x33, 0x34, 0x35, 0x36, 0x37, 0x38, 0x39] = 0xCBF43926 := by decide +kernel

/-- R73's worked example: word 0x00019696 of tile 295 under key 0x3C5AE817 in form C, and back. -/
theorem test_form_c : encodeForm .c 0x3C5AE817 295 0x00019696 = 0x2DBF409E ∧
    decodeForm .c 0x3C5AE817 295 0x2DBF409E = 0x00019696 := by decide +kernel

/-- R61's worked example: KIND 0x10, FORM 2, GEN 5, INDEX 295, COUNT 511. -/
theorem test_tile_header : tileHeader 0x10 2 5 295 511 = 0x855271FF := by decide +kernel

/-! ### Witnesses: the whole machine, supply, start-up -/

theorem witness_StepRunsTheFront :
    ({ one up with pending := [.nop default] } : State).pending = .nop default :: [] ∧ (one up).pending = [] := by decide

theorem test_step_pops : ({ one up with pending := [.hostHubFailure, .hostHubRecovery] } : State).pending.length = 2 ∧
    (match step { one up with pending := [.hostHubFailure, .hostHubRecovery] } with
      | .next t => t.pending = [.hostHubRecovery] ∧ t.hub.alive = false
      | _ => False) := by
  refine ⟨by decide, ?_⟩
  exact ⟨by decide, by decide⟩

theorem witness_SharedHardwareIsKept : State.reset.Inv ∧ (one up).Inv ∧ State.reset.hedgehog.st ≠ 1 := by
  refine ⟨⟨?_, ?_⟩, ⟨?_, ?_⟩, by decide⟩
  · unfold Hedgehog.Consistent; decide
  · intro x y; cases x <;> cases y <;> decide
  · unfold Hedgehog.Consistent; decide
  · intro x y; cases x <;> cases y <;> decide

theorem witness_EventsStayAtHome : (Instr.sealSample .a 0).home = some .a ∧ exec (.sealSample .a 0) (one up) = .next (after (.sealSample .a 0) (one up)) :=
  ⟨rfl, rfl⟩

theorem witness_OneChannelEnergisesNothing :
    (∀ x, x ≠ Ch.a → (one up).highClosed x 31 = false) ∧
    (one { up with dout := { up.dout with high := 1, lowSide := 15 } }).energised 0 = false := by
  refine ⟨fun x _ => by cases x <;> decide, by decide⟩

theorem test_two_channels_energise :
    ({ one up with chans := Tri.const { up with dout := { up.dout with high := 1, lowSide := 15 } } } : State).energised 0 = true := by
  decide

theorem witness_MemoryStaysCanonical : (State.reset.ch .a).mem.wf = true ∧ up.mem.wf = true := by decide

theorem witness_LinksSendInOrder :
    up.split = false ∧ ({ up with seals := { up.seals with bootPos := 0x200 } } : Chan).split = true ∧
    (XMsg.exclAck .a 0).copyClass = false ∧ (XMsg.page 0 []).copyClass = true ∧ (PMsg.req 1 0).rank ≤ 1 ∧
    (PMsg.commit 0 0 0).rank = 2 ∧ (PMsg.xfer 0 0 []).rank = 3 ∧ up.pwait.Pairwise (fun a b => a.rank ≤ b.rank) ∧
    (one { up with xwait := [(.b, .page 0 [])], pwait := [.xfer 0 0 []] }).pending = [] ∧ up.live = true := by
  refine ⟨?_, ?_, ?_, ?_, ?_, ?_, ?_, List.Pairwise.nil, ?_⟩ <;> decide

/-- R161: a verdict goes before the page that waits; an idle step then begins the page. -/
theorem test_links :
    let c := (up.xsend .b (.page 3 [])).xsend .b (.exclAck .a 7)
    c.xout = [{ dst := .b, seq := 0, msg := .exclAck .a 7 }] ∧
    ((stepped (one c)).ch .a).xout.map (fun e => (e.seq, e.msg)) = [(0, .exclAck .a 7), (1, .page 3 [])] := by decide

theorem witness_FeedsAndHoldupAreFollowed :
    up.supply.present .one = true ∧ up.live = true ∧
    (up.supply.setFeed .one false 0).dark = false ∧
    ((({ up.supply with present2 := false } : Supply).setFeed .one false 0).dark = true ∧ up.supply.powerFail = false) ∧
    ((State.reset.ch .a).live = false ∧ ({ up.supply with inReset := true } : Supply).present .two = true) ∧
    ({ up.supply with present1 := false } : Supply).present .one = false ∧
    (State.reset.ch .a).supply.dark = true := by decide

theorem test_feed_loss_dark : let t := after (.feedLoss .a .one) (one { up with supply := { up.supply with present2 := false }, dout := { up.dout with high := 1 } })
    (t.ch .a).supply.powerFail = true ∧ (t.ch .a).dout.high = 0 ∧ (t.ch .b).supply.powerFail = false := by decide

theorem witness_PowerOnStartsAndFlushHalts :
    (State.reset.ch .b).live = false ∧ ({ (State.reset.ch .b).supply with present1 := true } : Supply).dark = false ∧
    (∀ x, (State.reset.ch x).live = false) ∧ ((one up).ch .c).live = true ∧
    ({ up.supply with powerFail := true } : Supply).powerFail = true ∧ up.recd.started = true := by
  refine ⟨by decide, by decide, ?_, by decide, by decide, by decide⟩
  intro x; cases x <;> decide

theorem test_power_on : let s := { State.reset with chans := Tri.const { State.reset.ch .a with supply := { (State.reset.ch .a).supply with present1 := true } } }
    ((after (.powerOnReset .b) s).ch .b).live = true ∧ ((after (.powerOnReset .b) s).ch .b).boot.phase = 0 ∧
    ((after (.powerOnReset .b) s).ch .a).live = false := by decide

theorem witness_HostHubFailsAndRecovers :
    up.live = true ∧ up.host.lost = false ∧ (State.reset.ch .a).live = false ∧ (one up).hub.alive = true ∧
    (after .hostHubFailure (one up)).hub.alive = false := by decide

theorem witness_SealSamplesConfirmAChange :
    up.live = true ∧ 2 ≤ up.boot.phase ∧ (0 : Word) &&& 0xFFFF = up.seals.bootPos ∧ (0xFFFF : Word) &&& 0xFFFF ≠ up.seals.bootPos ∧
    up.seals.differed = 0 ∧ up.seals.changed = false := by decide

/-- R49: the second differing sample in a row confirms the change. -/
theorem test_seal_change : let s := after (.sealSample .a 1) (after (.sealSample .a 1) (one up))
    (s.ch .a).seals.changed = true ∧ (s.ch .b).seals.changed = false := by decide

/-- A station image: T0 and T1 every 64 ms, one route, node 3. -/
def img : Image :=
  { (default : Image) with
    imageSeq := 5, node := 3
    tasks := [{ (default : TaskDef) with present := true, prio := 0, period4 := 16 },
      { (default : TaskDef) with present := true, prio := 1, period4 := 16 }, default, default, default, default, default, default]
    tiles := [{ kind := 0, count := 2, payload := [0, 1, 2] },
      { kind := 1, count := 12, payload := [0, 0, 0, 1, 0, 3, 0, 0, 0x00000001, 0x00010001, 0, 0x00020001] },
      { kind := 3, count := 2, payload := [0x3000, 0x80000000] }] }

/-- An application container of that image, signed. -/
def application : Container :=
  { (default : Container) with kind := 2, node := 3, signedHash := 9, signature := signed 9, image := some img }

/-- A channel at P5 whose application slot 0 holds that image, signed. -/
def fifth : Chan :=
  let c := rising 5
  { c with
    seals := { c.seals with bootPos := 3, livePos := 3 }
    nv :=
      { c.nv with
        keys := [signer]
        app0 := { marker := 3, cont := some application } } }

theorem witness_StartupPhasesFollowOrStop :
    ((rising 0).live = true ∧ (rising 0).boot.stopped = false ∧ (rising 0).supply.powerFail = false) ∧ (rising 0).boot.phase = 0 ∧
    ((rising 1).boot.phase = 1 ∧ ((rising 1).seals.read 5).range = false ∧ ((rising 1).seals.read 5).combo = false) ∧
    ((rising 2).boot.phase = 2 ∧ (rising 2).nv.factoryCalOk = true) ∧
    ((rising 3).boot.phase = 3 ∧ (rising 3).nv.fwChoice (one (rising 3)).factory.hwrev = some (0, false) ∧ (rising 3).split = false) ∧
    ({ (rising 4).boot with testOk := Tri.const true } : Boot).phase = 4 ∧
    (let c : Chan := { rising 6 with boot := { (rising 6).boot with agreed := true, listened := true, counters := Tri.const (some []) } }
     c.live = true ∧ c.boot.stopped = false ∧ c.supply.powerFail = false ∧ c.boot.phase = 6 ∧ c.p6Done 0 = true) := by decide

/-- The clause about P5: a signed application passes every check. -/
theorem witness_StartupPhase5 :
    fifth.live = true ∧ fifth.boot.stopped = false ∧ fifth.supply.powerFail = false ∧ fifth.boot.phase = 5 ∧
    takenSlot fifth.nv.app0 fifth.nv.app1 = some 0 ∧
    ∃ k, (fifth.nv.app 0).cont = some k ∧ fifth.appFault .a (one fifth).factory.variant k = none ∧ k.image.isSome = true := by
  refine ⟨by decide +kernel, by decide +kernel, by decide +kernel, by decide +kernel, by decide +kernel, application, rfl, ?_, rfl⟩
  have hs : fifth.signatureFault application = none := by
    unfold Chan.signatureFault
    rw [if_neg (by decide), if_neg (by decide +kernel), show fifth.nv.keyIndex application.keyId = some 0 from by decide]
    have h : signer.verifies application = true := by
      simp only [KeySlot.verifies, application]
      exact rsa_signed 9
    dsimp only
    rw [show fifth.nv.keys.getD 0 default = signer from rfl, h]
    rfl
  unfold Chan.appFault
  rw [hs]
  exact (by decide +kernel : imageFault .hx4096 img none = none)

/-- R404: a failed check at P0 stops the channel there. -/
theorem test_startup_stop : let t := after (.startupPhaseComplete .a { fail := some (0x0201, 7), sealPos := 0, ms := 3, laneSkew := 0 }) (one (rising 0))
    (t.ch .a).boot.stopped = true ∧ (t.ch .a).boot.code = 0x0201 ∧ (t.ch .a).boot.phase = 0 := by decide

/-- R402: the work of P1 latches the switch positions. -/
theorem test_startup_p1 : let t := after (.startupPhaseComplete .a { fail := none, sealPos := 5, ms := 3, laneSkew := 0 }) (one (rising 1))
    (t.ch .a).boot.phase = 2 ∧ (t.ch .a).seals.bootPos = 5 := by decide

def set0 : AgreeSet := { ch := .a, fw := 1, app := 1, cfg := 1, sealPos := 0, setDigest := 1 }

def agreeing (a b d : AgreeSet) : Chan :=
  { rising 6 with boot := { (rising 6).boot with agree := ⟨some a, some b, some d⟩ } }

theorem witness_AgreementDecides :
    (let c := agreeing set0 set0 set0
     c.starting 6 = true ∧ c.split = false ∧ c.boot.agreed = false ∧ c.boot.agree = ⟨some set0, some set0, some set0⟩) ∧
    minority set0.fw 2 set0.fw ≠ 0 ∧ (minority set0.fw set0.fw set0.fw = 0 ∧ minority set0.app set0.app 2 ≠ 0) ∧
    (minority set0.app set0.app set0.app = 0 ∧ minority set0.cfg 2 3 ≠ 0) ∧
    (minority set0.cfg set0.cfg set0.cfg = 0 ∧ minority set0.setDigest 2 2 ≠ 0) ∧
    (minority set0.setDigest set0.setDigest set0.setDigest = 0 ∧ minority set0.sealPos 1 2 = 7 ∧ minority set0.sealPos 1 1 ≠ 7) := by
  decide

/-- R405: the firmware digest of channel B differs; B is the DETAIL. -/
theorem test_agreement_fw : let t := after (.agreementDecision .a) (one (agreeing set0 { set0 with fw := 2 } set0))
    (t.ch .a).boot.code = 0x0601 ∧ (t.ch .a).boot.detail = 2 := by decide

/-- A channel that needs its lane at P6. -/
def laned : Chan := { rising 6 with image := some { (default : Image) with schedule := some default } }

theorem witness_StartupWaitsAndTestsEnd :
    ((rising 6).starting 6 = true ∧ (rising 6).split = false ∧ (rising 6).silentChannel = some .a ∧
      (rising 6).boot.entered + 10000000 ≤ 10000 * 1000) ∧
    (agreeing set0 set0 set0).silentChannel = none ∧ 9999 * 1000 < (rising 6).boot.entered + 10000000 ∧
    (laned.starting 6 = true ∧ laned.aligned 0 = false ∧ laned.boot.entered + 60000000 ≤ 60000 * 1000) ∧
    (rising 6).aligned 0 = true ∧
    ((rising 4).starting 4 = true ∧ (rising 4).boot.entered + 5000000 ≤ 5000 * 1000 ∧ (rising 4).boot.testSets.get (Ch.a).next = none) ∧
    (let c : Chan := { rising 4 with boot := { (rising 4).boot with testSets := ⟨none, some [], none⟩ } }
     c.starting 4 = true ∧ c.boot.testSets.get (Ch.a).next ≠ none ∧ c.boot.testSets.get (Ch.a).prev = none) := by decide

/-- The clauses about TEST and COUNTERS. -/
theorem witness_TestsAreTaken (p : List Word) (hp : p.length = 8192) :
    (rising 4).starting 4 = true ∧ (rising 4).TakesFrom .b (sent (.test p)) (.test p) ∧
    ((rising 4).boot.testSets.set .b (some p)).get (Ch.third .a .b) = none ∧
    (let sets := (⟨some p, none, some p⟩ : Tri (Option (List Word))).set .b (some p)
     sets.get .a = some p ∧ sets.get (Ch.a).next = some p ∧ sets.get (Ch.a).prev = some p ∧ firstOdd p p p [] = none) ∧
    (∃ t, firstOdd p p p [{ test := 1, path := 0, word := 0 }] = some t) ∧
    (rising 6).TakesFrom .b (sent (.counters [])) (.counters []) ∧ (rising 6).live = true ∧ (rising 6).boot.stopped = false ∧
    (rising 6).boot.counters.get .b = none ∧
    (({ (rising 6).boot with counters := Tri.const (some []) } : Boot).counters.get .b).isSome = true := by
  refine ⟨by decide, takes _ rfl (by decide) rfl, rfl, ⟨rfl, rfl, rfl, firstOdd_same p hp⟩, ?_, takes _ rfl (by decide) rfl,
    by decide, by decide, by decide, by decide⟩
  exact firstOdd_fault p p p _ _ first_case_mem (by simp)

theorem test_test_timeout : ((after (.testTimeout .a 5000) (one (rising 4))).ch .a).boot.code = 0x0402 ∧
    ((after (.testTimeout .a 5000) (one (rising 4))).ch .a).boot.detail = 1 ∧
    (after (.testTimeout .a 4999) (one (rising 4))).ch .a = rising 4 := by decide

theorem witness_ListenGivesTheRole :
    let c : Chan := { laned with boot := { laned.boot with agreed := true } }
    (c.starting 6 = true ∧ c.boot.agreed = true ∧ c.boot.listened = false ∧ c.listenSkipped = false ∧
      c.boot.entered + 2000000 ≤ 2000 * 1000) ∧
    c.part.heardActive = false ∧ c.part.heardStarting = none ∧ ({ c.part with heardActive := true } : Part).heardActive = true ∧
    ({ c.part with heardStarting := some (0, 0) } : Part).heardStarting = some (0, 0) ∧ 0 = c.nv.eSeen ∧ c.rank ≤ 0 ∧
    (let d : Chan := { c with nv := { c.nv with eSeen := 1 } }
     (0 < d.nv.eSeen)) := by decide

/-- A voted event of main cycle 5. -/
def event0 : Event := { (default : Event) with name := .request, mainCycle := 5, offset := 0, task := 0, ordinal := 0 }

def recording (q : List Event) : Chan := { up with recd := { up.recd with queue := q } }

def flushing : Chan := { up with recd := { up.recd with flushing := true, diag := [{ event0 with name := .feedLoss }] } }

/-- A record of the channel that waits for its decision. -/
def waiting0 : PendingRec :=
  { key := { mainCycle := 5, offset := 0, ordinal := 0 }, permanent := false, slot := 1, record := { (default : Record) with seq := 1 } }

theorem witness_RecorderStartsAndCommits :
    ((rising 2).starting 2 = true ∧ ({ (rising 2).recd with started := false } : Rec).started = false ∧ (rising 2).nv.highest = 0) ∧
    (let c := recording [event0]
     c.live = true ∧ c.recd.started = true ∧ c.recd.pending = none ∧ c.recd.queue.find? (fun e => !c.runUnderWay e) = some event0 ∧
      event0.name.cls = .voted ∧ c.presents .a = true ∧ ({ c with vote := { c.vote with recFault := true } } : Chan).presents .a = false) ∧
    (recording []).recd.queue.find? (fun e => !(recording []).runUnderWay e) = none ∧ (recording []).recd.flushing = false ∧
    (flushing.recd.queue = [] ∧ flushing.recd.flushing = true ∧ flushing.idleTime = true ∧
      flushing.recd.diag = [{ event0 with name := .feedLoss }] ∧ flushing.recd.dropFull = 0 ∧ flushing.recd.dropLane = 0 ∧
      flushing.recd.dropEarly = 0) ∧
    ({ up.recd with pending := some waiting0 } : Rec).pending ≠ none ∧ (rising 2).live = true ∧ (State.reset.ch .a).live = false := by
  decide

/-- The clauses about a decision: two alike, two against one, the third dissent in a row. -/
theorem witness_CommitDecision :
    let ps := fun (x : Word) => [(⟨waiting0.key, .a, waiting0.record.rcrc⟩ : Presentation), ⟨waiting0.key, .b, x⟩, ⟨waiting0.key, .c, x⟩]
    up.live = true ∧ up.running = true ∧ up.vote.recFault = false ∧ waiting0.key ≠ { waiting0.key with ordinal := 1 } ∧
    commitOf (ps waiting0.record.rcrc) waiting0.record.rcrc = 1 ∧
    commitOf (ps (waiting0.record.rcrc + 1)) waiting0.record.rcrc = 2 ∧ ({ up.recd with dissentRun := 2 } : Rec).dissentRun = 2 := by
  decide +kernel

/-- R360: a voted record waits for its decision; a second RECORD_APPEND changes nothing. -/
theorem test_record_append :
    let s := after (.recordAppend .a) (one (recording [event0]))
    (s.ch .a).recd.pending.isSome = true ∧ (s.ch .a).recd.queue = [] ∧ s.comparator.length = 1 := by decide +kernel

theorem witness_FlashTakesTheContainer :
    (let c : Chan := { up with load := { (default : Load) with cont := some shippedFirmware, writing := true, kind := 1 } }
     c.live = true ∧ c.supply.powerFail = false ∧ c.load.cont = some shippedFirmware ∧ c.load.writing = true ∧ c.load.kind = 1) ∧
    ({ (default : Load) with kind := 2 } : Load).kind ≠ 1 ∧ ({ up.boot with unprog := true } : Boot).unprog = true ∧
    up.boot.unprog = false ∧ up.blocks.exch ≠ 3 ∧
    (let c : Chan := { up with image := some img, blocks := { up.blocks with exch := 3, staged := some application } }
     c.live = true ∧ c.blocks.exch = 3 ∧ c.image = some img ∧ c.blocks.staged = some application ∧ application.image = some img) := by
  refine ⟨by decide, by decide, by decide, by decide, by decide, rfl, rfl, rfl, rfl, rfl⟩

theorem test_flash_fw : let c : Chan := { up with load := { (default : Load) with cont := some shippedFirmware, writing := true, kind := 1 } }
    ((after (.flashWrite .a) (one c)).ch .a).nv.fw1.marker = 2 ∧ ((after (.flashWrite .a) (one c)).ch .a).load.writing = false := by
  decide

/-! ### Witnesses: inputs, releases, runs, votes -/

theorem witness_InputsTakeLevels :
    (up.live = true ∧ 95 < 96 ∧ 31 < 32) ∧
    (({ up.din with raw := BitVec.allOnes 96 } : Din).raw.getLsbD 95 = true ∧ up.din.raw.getLsbD 0 = false) ∧
    (let d : Din := { up.din with raw := 1, invalid := 1, passes := [(0, 6)] }
     d.raw.getLsbD 0 = true ∧ d.invalid.getLsbD 0 = true ∧ (d.passes.lookup 0).getD 0 + 1 < 8) ∧
    (let d : Din := { up.din with raw := 1, invalid := 1, passes := [(0, 7)] }
     d.raw.getLsbD 0 = true ∧ d.invalid.getLsbD 0 = true ∧ 8 ≤ (d.passes.lookup 0).getD 0 + 1) ∧
    (up.live = true ∧ 6 ≤ up.boot.phase ∧ up.din.stall = false ∧ up.running = true ∧ up.votes .a = true) ∧
    ((rising 6).live = true ∧ 6 ≤ (rising 6).boot.phase ∧ (rising 6).running = false) ∧
    ({ up.din with stall := true } : Din).stall = true := by decide

/-- R189: the eighth pass in a row clears the invalid mark. -/
theorem test_eighth_pass :
    let s := one { up with din := { up.din with raw := 1, invalid := 1, passes := [(0, 7)] } }
    ((after (.inputCircuitTest .a 0 true) s).ch .a).din.invalid = 0 ∧
    ((after (.inputCircuitTest .a 0 true) (one { up with din := { up.din with raw := 1, invalid := 1, passes := [(0, 6)] } })).ch .a).din.invalid = 1 := by
  decide

/-- A station that runs the image `img`: node 3. -/
def placed : Chan :=
  { up with
    image := some img, seals := { up.seals with bootPos := 3, livePos := 3 }
    res := { up.res with rstate := [RRec.released], aux := [default] } }

theorem test_station : img.routeUsed 0 = true ∧ img.route 0 = { img.route 0 with id := 0x3000 } ∧ img.routeCount = 1 ∧
    img.tileCount = 3 ∧ img.kindAt 2 = some 3 ∧ placed.periodUs 1 = 64000 := by decide

/-- Input 95 of channel C has differed, input 0 of it agreed, since the first instant. -/
def differing : Chan :=
  { placed with
    mainCycle := 2000
    din := { placed.din with mainCycle := 2000, differs := ⟨[], [], [(95, 0)]⟩, agrees := ⟨[], [], [(0, 0)]⟩ } }

theorem witness_DiscrepancyMarksCircuits :
    (differing.live = true ∧ differing.votes .a = true ∧ (differing.din.differs.get .c).lookup 95 = some 0 ∧
      differing.act 0x0D09 * 10000 < differing.lastInstant - 0) ∧
    ((differing.din.agrees.get .c).lookup 0 = some 0 ∧ 60000000 ≤ differing.lastInstant - 0) ∧
    differing.differsLong .c 0 = false ∧ differing.agreesLong .c 95 = false := by decide

/-- A channel in main cycle 4, the offsets of its partners known or not. -/
def marking (o : Option Int) : Chan :=
  { up with released := true, mainCycle := 4, vote := { up.vote with offsets := ⟨some 0, none, o⟩ } }

def marker4 : XMsg := .marker 4 0 0

theorem witness_MarkerGivesOffset :
    ((marking none).running = true ∧ (marking none).released = true ∧ 4 = (marking none).mainCycle ∧
      (marking none).TakesFrom .b (sent marker4) marker4 ∧ Ch.c ∈ (marking none).voters ∧ (marking none).vote.offsets.get .c = none) ∧
    (let c := marking (some 400)
     let d : Chan := { c with vote := { c.vote with offsets := c.vote.offsets.set .b (some 40) } }
     (∀ x ∈ d.voters, (d.vote.offsets.get x).isSome = true) ∧ d.vote.skewJudged = false ∧ d.median = some 40 ∧
      d.skewBits.getLsbD (Ch.a).code = false) ∧
    (let c := marking (some 40000)
     let d : Chan := { c with vote := { c.vote with offsets := c.vote.offsets.set .b (some 40000) } }
     d.median = some 40000 ∧ d.skewBits.getLsbD (Ch.a).code = true) ∧
    5 = (marking none).nextMain ∧ (6 ≠ (marking none).nextMain ∧ 6 ≠ (marking none).mainCycle) ∧
    ((rising 6).live = true ∧ (rising 6).running = false ∧ (rising 6).TakesFrom .b (sent marker4) marker4) :=
  ⟨⟨by decide, by decide, by decide, takes _ rfl (by decide) rfl, by decide⟩, by decide, by decide, by decide, by decide,
    by decide, by decide, takes _ rfl (by decide) rfl⟩

/-- R23: two markers 500 units late move the next release by the limit of 400 units. -/
theorem test_marker_limit :
    let s := one { up with released := true, vote := { up.vote with offsets := ⟨some 0, none, none⟩ } }
    let m : XMsg := .marker 0 0 0
    let s := after (.marker .a .b (sent m) 0 0 0 524) s
    ((after (.marker .a .c (sent m) 0 0 0 524) s).ch .a).vote.moveNext = 400 ∧
    ((after (.marker .a .c (sent m) 0 0 0 524) s).ch .a).vote.offsets.get .b = some 500 := by decide +kernel

theorem witness_ReleaseOpensTheInstant :
    (placed.running = true ∧ placed.statusOnly = false ∧ placed.supply.powerFail = false ∧ placed.atClusterStart = true ∧
      placed.instantMain 0 = some 0 ∧ placed.seals.changed = false ∧ placed.split = false) ∧
    (let c : Chan :=
      { placed with
        released := true
        image := some { img with tasks := img.tasks.set 2 { (default : TaskDef) with present := true, prio := 2, period4 := 1 } } }
     c.running = true ∧ (4000 : Nat) ≠ 0 ∧ c.instantMain 4000 = some 0 ∧ c.seals.changed = false) ∧
    (let c := placed
     c.runsTasks .a = true ∧ c.part.switchAt = 0 ∧ c.part.handover = false ∧ c.blocks.exch ≠ 3 ∧ c.reint.join = none ∧
      c.tasks.length = 8 ∧ 1 ∈ c.dueTasks 0 0 ∧ c.startsRun 1 = true) ∧
    (({ placed.seals with changed := true } : SealState).changed = true ∧ placed.votes .a = true) ∧
    placed.instantMain 63999 = none ∧
    (let c : Chan := { placed with image := some { img with schedule := some default }, sync := { up.sync with st := 4, basic := 1 } }
     c.atClusterStart = false) := by decide

theorem test_release : let t := after (.taskRelease .a 0 100 2 0 0) (one placed)
    ((t.ch .a).task 1).running = true ∧ ((t.ch .a).task 2).running = false ∧ (t.ch .a).mainCycle = 0 ∧ (t.ch .a).released = true := by
  decide +kernel

/-- R49: a confirmed seal change takes the channel out and trips the Hedgehog at the next release. -/
theorem test_release_seal : let t := after (.taskRelease .a 0 100 2 0 0) (one { placed with seals := { placed.seals with changed := true } })
    (t.ch .a).votes .a = false ∧ (t.ch .a).reint.barred = true ∧ t.hedgehog.copy1 = true ∧ (t.ch .b).votes .b = true := by
  decide +kernel

/-- The sets of the three channels for input 0: A and C read ON, B reads OFF. -/
def inputs (a b d : BitVec 64) : Chan :=
  let k : InputSet := default
  { placed with
    din := { placed.din with
      openInstant := true, sets := ⟨some { k with ch := .a, di := a }, some { k with ch := .b, di := b }, some { k with ch := .c, di := d }⟩ } }

theorem witness_AgreementConsolidatesInputs :
    ((inputs 1 0 1).running = true ∧ (inputs 1 0 1).statusOnly = false ∧ (inputs 1 0 1).din.openInstant = true ∧
      (inputs 1 0 1).split = false ∧ (inputs 1 0 1).din.stall = false) ∧
    ({ (inputs 1 0 1).din with stall := true } : Din).stall = true ∧
    (let c : Chan := { inputs 1 0 1 with seals := { up.seals with bootPos := 0x203 } }
     c.running = true ∧ c.statusOnly = false ∧ c.split = true ∧ (c.din.sets.get .a).isSome = true) ∧
    (let c : Chan := { inputs 1 0 1 with tasks := (inputs 1 0 1).tasks.set 0 { TaskState.idle with running := true } }
     c.tasks.length = 8 ∧ 0 ∈ c.awaitingImage) ∧
    placed.din.openInstant = false ∧
    (inputs 1 0 1).readings 0 = [true, false, true] ∧ (inputs 1 0 1).readings 63 = [false, false, false] ∧
    ({ inputs 1 1 1 with din := { (inputs 1 1 1).din with faulty := ⟨0, 1, 0⟩ } } : Chan).readings 0 = [true, true] ∧
    ({ inputs 1 0 0 with din := { (inputs 1 0 0).din with faulty := ⟨0, 0, 1⟩ } } : Chan).readings 0 = [true, false] ∧
    ({ inputs 1 0 0 with din := { (inputs 1 0 0).din with faulty := ⟨0, 1, 1⟩ } } : Chan).readings 0 = [true] := by decide

/-- R186: two of three. -/
theorem test_majority : ((after (.inputAgreement .a) (one (inputs 1 0 1))).ch .a).din.cons.getLsbD 0 = true ∧
    ((after (.inputAgreement .a) (one (inputs 1 0 0))).ch .a).din.cons.getLsbD 0 = false := by decide +kernel

/-- A task in a run whose image is ready. -/
def inRun (n : Nat) (sent : Bool) : Chan :=
  { placed with
    tasks := placed.tasks.set n { TaskState.idle with
      running := true, imageReady := true, sent := sent, runCycle := 7
      own := if sent then some { (default : TaskSet) with ch := .a, task := n, taskCycle := 7 } else none } }

/-- T1's run over a tile whose reload is due. -/
def blocked : Chan :=
  { inRun 1 false with tiles := { placed.tiles with marks := [(0, .verified), (1, .verified), (2, .failed 6)] } }

theorem witness_TaskRunSendsItsSet :
    (let c := inRun 0 false
     (c.vital .a = true ∧ c.tasks.length = 8 ∧ (c.task 0).running = true ∧ (c.task 0).imageReady = true ∧ (c.task 0).sent = false ∧
      c.mayRun 0 = true) ∧ (c.verifyTiles .a .hx4096 0).tilesReady 0 = true ∧ c.split = false) ∧
    (let c := blocked
     (c.vital .a = true ∧ c.tasks.length = 8 ∧ (c.task 1).running = true ∧ (c.task 1).imageReady = true ∧ (c.task 1).sent = false ∧
      c.mayRun 1 = true) ∧ (c.verifyTiles .a .hx4096 1).tilesReady 1 = false) ∧
    (let c : Chan := { inRun 0 false with seals := { placed.seals with bootPos := 0x203 } }
     c.vital .a = true ∧ c.split = true ∧ c.part.backlog = [] ∧ (c.verifyTiles .a .hx4096 0).tilesReady 0 = true) := by decide +kernel

def taskSet (ch : Ch) : TaskSet := { (default : TaskSet) with ch := ch, version := 1, task := 1, taskCycle := 7 }

def setOf (ch : Ch) : XMsg := .vote (.task (taskSet ch))

theorem witness_VoteSetsAreKept :
    ((inRun 1 true).live = true ∧ (inRun 1 true).TakesFrom .b (sent (setOf .b)) (setOf .b) ∧ (taskSet .b).task < 8 ∧
      (inRun 1 true).votes .a = true ∧ (inRun 1 true).vote.decided.contains (1, 7) = false ∧
      ((inRun 1 true).task 1).runCycle ≤ (taskSet .b).taskCycle) ∧
    ({ (inRun 1 true).vote with decided := [(1, 7)] } : Vote).decided.contains (1, 7) = true ∧
    ({ taskSet .b with taskCycle := 6 } : TaskSet).taskCycle < ((inRun 1 true).task 1).runCycle ∧
    (placed.TakesFrom .b (sent (.vote (.input default))) (.vote (.input default)) ∧ placed.instantPassed 0 0 = false ∧
      ({ placed with din := { placed.din with mainCycle := 1 } } : Chan).instantPassed 0 0 = true) ∧
    placed.TakesFrom .b (sent (.vote (.partner default))) (.vote (.partner default)) ∧
    ((rising 6).TakesFrom .b (sent (.vote (.agreement default))) (.vote (.agreement default)) ∧ (rising 6).boot.phase = 6) ∧
    (placed.split = false ∧ 4 ≤ placed.boot.phase ∧ ({ sent (setOf .b) with full := true } : Link).full = true ∧
      (sent (setOf .b)).full = false ∧ (Link.of 1 0 []).intact 2 [] = false) := by
  refine ⟨⟨by decide, takes _ rfl (by decide) rfl, by decide⟩, by decide, by decide, ⟨takes _ rfl (by decide) rfl, by decide⟩,
    takes _ rfl (by decide) rfl, ⟨takes _ rfl (by decide) rfl, by decide⟩, by decide, by decide, rfl, rfl, by decide +kernel⟩

theorem test_vote_kept : ((after (.vote .a .b (sent (setOf .b)) (.task (taskSet .b))) (one (inRun 1 true))).ch .a).vote.kept.get .b = [taskSet .b] ∧
    ((after (.vote .a .b (sent (setOf .c)) (.task (taskSet .b))) (one (inRun 1 true))).ch .a).vote.corruptCnt.get .b = 1 := by
  decide +kernel

def voted (b d : List TaskSet) : Chan := { inRun 1 true with vote := { (inRun 1 true).vote with kept := ⟨[], b, d⟩ } }

theorem witness_VoteDecisionActs :
    (let c := voted [taskSet .b] [taskSet .c]
     c.vital .a = true ∧ c.split = false ∧ c.reint.phase ≠ 4 ∧ c.tasks.length = 8 ∧ (c.task 1).running = true ∧
      (c.task 1).sent = true ∧ (c.task 1).own = some { taskSet .a with version := 0 } ∧ c.part.role = 1 ∧ c.part.backlog = []) ∧
    (let j := fun (c : Chan) => ((c.judgeSkewFor .a 0).judge .a (taskSet .a)).outcome
     j (voted [taskSet .b] [taskSet .c]) = 0 ∧ j (voted [taskSet .b] []) = 1 ∧
      j (voted [{ taskSet .b with digest := 1 }] [{ taskSet .c with digest := 1 }]) = 2 ∧ j (voted [] []) = 3 ∧
      j { voted [taskSet .b] [] with vote := { (voted [taskSet .b] []).vote with inVote := 3, mode := 2 } } = 5 ∧
      j { voted [] [] with vote := { (voted [] []).vote with inVote := 3, mode := 2 } } = 6) := by
  decide +kernel

theorem witness_DecisionFollowsTheTable :
    (voted [] []).skewIn .a 0 = false ∧
    ((voted [] []).votes (Ch.a).next = true ∧ (voted [] []).votes (Ch.a).prev = true) ∧
    ((voted [taskSet .b] [taskSet .c]).resultFor (taskSet .a) .b = 0 ∧ (voted [] []).resultFor (taskSet .a) .c ≠ 0) ∧
    (voted [{ taskSet .b with digest := 1 }] [{ taskSet .c with digest := 1 }]).partnersAgree .a (taskSet .a) = true ∧
    (voted [] []).partnersAgree .a (taskSet .a) = false ∧
    (let v : Vote := { (voted [] []).vote with inVote := 3 }
     v.inVote.getLsbD (Ch.b).code = true ∧ v.inVote.getLsbD (Ch.c).code = false) ∧
    ({ voted [] [] with vote := { (voted [] []).vote with skews := [(0, 2)] } } : Chan).skewIn .b 0 = true ∧
    (voted [taskSet .b] []).setFrom .b 1 7 = some (taskSet .b) ∧ (taskSet .a).version < 256 ∧
    w32 (taskSet .a).taskCycle ≠ w32 ({ taskSet .a with taskCycle := 8 } : TaskSet).taskCycle ∧
    (taskSet .a).digest ≠ ({ taskSet .a with digest := 1 } : TaskSet).digest ∧ [1].length = [(2 : Word)].length := by decide +kernel

/-- R166: a channel that agrees with neither partner while they agree leaves the vote. -/
theorem test_vote_leaves : let t := after (.voteDecision .a 1 9) (one (voted [{ taskSet .b with digest := 1 }] [{ taskSet .c with digest := 1 }]))
    (t.ch .a).votes .a = false ∧ (t.ch .a).safe.alive = false ∧ t.hedgehog.st = 1 := by decide +kernel

/-- R163: two channels that disagree shut the module down. -/
theorem test_vote_two : let t := after (.voteDecision .a 1 9) (one { voted [] [] with vote := { (voted [] []).vote with inVote := 3, mode := 2 } })
    (t.ch .a).vote.mode = 3 ∧ t.hedgehog.copy1 = true := by decide +kernel

/-! ### Witnesses: routes, tiles, blocks, exclusion, reintegration, outputs -/

/-- T1's run of a channel whose route 0 stands as given, its timer at 0. -/
def routed (state : Byte) (tkind : Nat) (ovl : Nat) : Chan :=
  let c := inRun 1 false
  { c with res := { c.res with rstate := [{ RRec.released with state := state, tkind := tkind, timer := 0, ovl := ovl }] } }

/-- The same with its route restart-held. -/
def restartHeld (state : Byte) (tkind : Nat) : Chan :=
  let c := routed state tkind 0x1FFF
  { c with res := { c.res with aux := [{ (default : RouteAux) with restartHeld := true }] } }

/-- Image with a point and a section: route 0 runs over the point, overlap 0 over the section. -/
def imgP : Image :=
  { img with
    tiles := [{ kind := 0, count := 2, payload := [0, 1, 2] },
      { kind := 1, count := 13, payload := [0, 3, 2, 1, 1, 6, 0, 0, 0x00000001, 0x00010001, 0x00020001, 0x00030001, 0x00040001] },
      { kind := 2, count := 16, payload := [0x00043000, 0, 0, 0, 0, 0, 0, 0, 0x00403001, 0, 0, 0, 0, 0, 0, 0] },
      { kind := 3, count := 10, payload := [0x3000, 0x80000000, 0, 0x80A00001, 0, 0, 0, 0, 0, 0] },
      { kind := 4, count := 4, payload := [0x3000, 0x80A00801, 0, 0] },
      { kind := 7, count := 2, payload := [0x01043000, 0x02003001] }] }

def routedP (state : Byte) (tkind : Nat) (ovl : Nat) : Chan :=
  let c := routed state tkind ovl
  { c with image := some imgP, res := { c.res with estate := [default, default] } }

/-- The state of the channel's pass before its route phase, and the route with the timer as the pass left it. -/
def front (c : Chan) (g : Image) : Pass := c.passFront (c.passCtx .a .hx4096 g)

def fronted (c : Chan) (g : Image) : Pass :=
  ({ res := c.res, log := [] } : Pass).setRoute 0 (fun q => { q with timer := ((front c g).route 0).timer })

/-- What every clause about a route of a channel asks. -/
def timed1 (c : Chan) (g : Image) : Prop :=
  c.live = true ∧ c.vital .a = true ∧ c.image = some g ∧ c.inRun 1 = true ∧ (c.passCtx .a .hx4096 g).ownRoute 0x3000 = some 0 ∧
    0 < c.res.rstate.length ∧ (c.passCtx .a .hx4096 g).im.requests = [] ∧ (front c g).route 0 = (fronted c g).route 0 ∧
    ((fronted c g).route 0).timer = 0

theorem witness_RouteTimersEnd :
    (let c : Chan :=
      let d := routed 0x11 0 0x1FFF
      { d with res := { d.res with outRsv := [{ (default : OutRsv) with route := 0x3000 }] } }
     timed1 c img ∧ ((fronted c img).route 0).state = 0x11 ∧ (front c img).rsvLate (c.passCtx .a .hx4096 img) 0 = true) ∧
    (let c := routed 0x99 4 0x1FFF
     timed1 c img ∧ emergencyStates.contains ((fronted c img).route 0).state = true ∧ ((fronted c img).route 0).tkind = 4 ∧
      ((fronted c img).aux 0).restartHeld = false) ∧
    (let c := routed 0x77 1 0x1FFF
     timed1 c img ∧ ((fronted c img).route 0).state = 0x77 ∧ ((fronted c img).route 0).tkind = 1 ∧
      ((fronted c img).aux 0).restartHeld = false ∧ (front c img).trainIn (c.passCtx .a .hx4096 img) 0 = false) ∧
    (let c := restartHeld 0x77 1
     timed1 c img ∧ ((fronted c img).route 0).state = 0x77 ∧ ((fronted c img).aux 0).restartHeld = true ∧
      ((front c img).aux 0).restartHeld = true) ∧
    (let c := routedP 0x33 3 0x1FFF
     timed1 c imgP ∧ ((fronted c imgP).route 0).state = 0x33 ∧ ((fronted c imgP).route 0).tkind = 3 ∧
      (front c imgP).allDetected (c.passCtx .a .hx4096 imgP) 0 = false) ∧
    (let c := routed 0x33 3 0x1FFF
     timed1 c img ∧ (front c img).allDetected (c.passCtx .a .hx4096 img) 0 = true) := by
  refine ⟨?_, ?_, ?_, ?_, ?_, ?_⟩ <;> unfold timed1 <;> decide +kernel

theorem witness_OverlapTimersEnd :
    (let c := routed 0x88 2 0
     timed1 c img ∧ ((fronted c img).route 0).state = 0x88 ∧ ((fronted c img).route 0).ovl ≠ 0x1FFF ∧
      ((c.passCtx .a .hx4096 img).selected (fronted c img) 0).all (fun e => !(front c img).occupied (c.passCtx .a .hx4096 img) 0x3000 e) = true) ∧
    (let c := routedP 0x99 2 0
     let x := c.passCtx .a .hx4096 imgP
     timed1 c imgP ∧ ((fronted c imgP).route 0).state = 0x99 ∧
      (x.selected (fronted c imgP) 0).all (fun e => !(front c imgP).occupied x (x.rid 0) e) = false) ∧
    (let c := routed 0x77 1 0x1FFF
     let d : Chan := { c with res := { c.res with rstate := [{ RRec.released with state := 0x77, tkind := 1, timer := 9 }] } }
     ((front d img).route 0).timer ≠ 0) ∧
    (let c := routed 0 0 0x1FFF
     let d : Chan := { c with res := { c.res with committed := true, holdTicks := 0 } }
     let e : Chan := { c with res := { c.res with committed := true, holdTicks := 9 } }
     (d.res.hold = true ∧ (front d img).res.hold = false) ∧ (front e img).res.hold = true) := by
  refine ⟨?_, ?_, ?_, ?_⟩ <;> (try unfold timed1) <;> decide +kernel

/-- R97: a reservation that is not granted in time gives the route back with reason 0x0A. -/
theorem test_rsv_timeout :
    let d := routed 0x11 0 0x1FFF
    let c : Chan := { d with res := { d.res with outRsv := [{ (default : OutRsv) with route := 0x3000 }] } }
    let t := after (.rsvTimeout .a 0x3000) (one c)
    (t.ch .a).res.rstate = [RRec.released] ∧ (t.ch .a).res.lastReject = { reason := 0xA, target := 0x3000 } := by decide +kernel

/-- R104: an overlap is given back while its sections read clear, not while one is occupied. -/
theorem test_overlap_release :
    (((after (.overlapReleaseTimer .a 0x3000) (one (routed 0x88 2 0))).ch .a).res.rstate.getD 0 default).ovl = 0x1FFF ∧
    (((after (.overlapReleaseTimer .a 0x3000) (one (routedP 0x88 2 0))).ch .a).res.rstate.getD 0 default).ovl = 0 := by
  decide +kernel

/-- R99: positioning that ends undetected gives reason 0x08 and names the point. -/
theorem test_positioning :
    let t := after (.positioningTimeout .a 0x3000) (one (routedP 0x33 3 0x1FFF))
    (t.ch .a).res.rstate = [RRec.released] ∧ (t.ch .a).res.lastReject = { reason := 8, target := 0x3000 } := by decide +kernel

/-- T1's run with a mark of tile 2. -/
def marked (m : Mark) : Chan :=
  let c := inRun 1 false
  { c with tiles := { c.tiles with marks := [(2, m)] } }

/-- Tile 2 of `img` is found sound where memory lists nothing of its slot. -/
theorem tile2_sound (c : Chan) (hd : c.mem.data = []) (hb : c.slotBad .a .hx4096 2 = false)
    (hc : c.tileContent img 2 = (3, 5, 2, [0x3000, 0x80000000])) : c.tileFinding .a .hx4096 img 2 [] false = 0 := by
  unfold Chan.tileFinding
  rw [tileWordsAt_clean _ _ _ _ _ hd, hb]
  exact wordsFinding_stored c .a img 2 3 5 2 _ hc (by decide)
    (tileCause_stored _ _ _ _ _ _ _ (by decide) (by decide) (by decide) (by decide))

/-- The channel as the reload of tile 2, failed with cause 6, leaves it before the check. -/
def reloaded2 : Chan :=
  let c := marked (.failed 6)
  (({ c with
    tiles := { c.tiles with used := c.tiles.used + 1, reloadCnt := inc 16 c.tiles.reloadCnt } } : Chan).emitTask 1
      .tileReload 2 [w32 6]).loadSlot .hx4096 img 2

theorem witness_TilesAreVerified :
    (let c := inRun 1 false
     c.live = true ∧ c.resolverTile 2 = some img ∧ c.tiles.mark 2 = .unverified ∧ c.tileFinding .a .hx4096 img 2 [] false = 0 ∧
      c.tileFinding .a .hx4096 img 2 [] true = 6) ∧
    ((marked .verified).live = true ∧ (marked .verified).resolverTile 2 = some img ∧ (marked .verified).tiles.mark 2 = .verified ∧
      (marked .verified).slotBad .a .hx4096 2 = false) ∧
    (let c := marked (.failed 6)
     c.live = true ∧ c.resolverTile 2 = some img ∧ c.tiles.mark 2 = .failed 6 ∧ c.tiles.used < c.reloadBudget ∧
      c.running = true ∧ c.votes .a = true ∧
      reloaded2.tileFinding .a .hx4096 img 2 [] (false || c.masterBad .a .hx4096 img 2) = 0 ∧
      reloaded2.tileFinding .a .hx4096 img 2 [] (true || c.masterBad .a .hx4096 img 2) ≠ 0) ∧
    ({ placed.tiles with used := placed.reloadBudget } : TileState).used = placed.reloadBudget := by
  refine ⟨⟨by decide, by decide, by decide, tile2_sound _ rfl (by decide) (by decide), rfl⟩, by decide,
    ⟨by decide, by decide, by decide, by decide, by decide, by decide, ?_, ?_⟩, rfl⟩
  · rw [show (false || (marked (.failed 6)).masterBad .a .hx4096 img 2) = false from by decide]
    exact tile2_sound _ (by decide) (by decide) (by decide)
  · rw [show reloaded2.tileFinding .a .hx4096 img 2 [] (true || (marked (.failed 6)).masterBad .a .hx4096 img 2) = 6 from rfl]
    decide

/-- An image with a PROG tile, tile 3. -/
def imgT : Image :=
  { img with
    tiles := img.tiles.set 1 { kind := 1, count := 33, payload := [0, 3, 0, 1, 0, 4, 0, 0, 0x00000001, 0x00010001, 0, 0x00020001] ++ List.replicate 20 0 ++ [0x00030001] } ++
      [{ kind := 0x18, count := 2, payload := [7, 8] }] }

def programmed (t : TileState) : Chan := { inRun 0 false with image := some imgT, tiles := t }

theorem prog3_sound : (programmed placed.tiles).progFinding .a .hx4096 imgT 3 [] false = 0 := by
  unfold Chan.progFinding
  dsimp only
  rw [tileWordsAt_clean _ _ _ _ _ rfl, show ((programmed placed.tiles).rangeBad .a .hx4096 ((programmed placed.tiles).progAddr .hx4096 3) 4096) = false from by decide]
  exact wordsFinding_stored _ .a imgT 3 0x18 5 2 [7, 8] (by decide) (by decide)
    (tileCause_stored _ _ _ _ _ _ _ (by decide) (by decide) (by decide) (by decide))

theorem witness_ProgTilesAreVerified :
    (let t : TileState := { placed.tiles with progMarks := [(0, 3)] }
     (programmed t).live = true ∧ (programmed t).progTile 0 3 = some imgT ∧ t.progMarks.contains (0, 3) = true ∧
      t.progFailedFor 0 3 = none) ∧
    (let t := placed.tiles
     (programmed t).progTile 0 3 = some imgT ∧ t.progMarks.contains (0, 3) = false ∧ t.progFailedFor 0 3 = none ∧
      (programmed t).progFinding .a .hx4096 imgT 3 [] false = 0 ∧ (programmed t).progFinding .a .hx4096 imgT 3 [] true = 6) ∧
    (let t : TileState := { placed.tiles with progFailed := [(0, 3, 6)], progUsed := [(0, placed.reloadBudget)] }
     t.progFailedFor 0 3 = some 6 ∧ (programmed t).reloadBudget ≤ (tabGet t.progUsed 0).getD 0) :=
  ⟨by decide, ⟨by decide, by decide, by decide, prog3_sound, rfl⟩, by decide⟩

/-- R84: a tile over a lane that delivers no data fails with cause 6. -/
theorem test_tile_poison : ((after (.tileVerify .a 2 [] true) (one (inRun 1 false))).ch .a).tiles.mark 2 = .failed 6 ∧
    ((after (.tileVerify .a 2 [] true) (one (inRun 1 false))).ch .a).tiles.vfailCnt = 1 := ⟨rfl, rfl⟩

/-- An image with a door gate whose contacts are pairs, and a plunger. -/
def imgD : Image :=
  let pair : DoorSrc := { first := some (.const 0xC3), second := some (.const 0), antivalent := false }
  let on : DoorSrc := { first := some (.const 0xC3), second := none, antivalent := false }
  { img with
    tiles := [{ kind := 0, count := 2, payload := [0, 1, 2] },
      { kind := 1, count := 11, payload := [0, 3, 2, 0, 0, 3, 0, 0, 0x00000001, 0x00010001, 0x00020001] },
      { kind := 2, count := 16, payload := [0x00643000, 0, 0, 0, 0, 0, 0, 0, 0x00803001, 0, 0, 0, 0, 0, 0, 0] }]
    gateSrcs := [{ elem := 0x3000, lk1 := on, lk2 := pair }]
    plungerSrcs := [{ elem := 0x3001, src := pair }] }

/-- A run of task `t` of a station with that gate, locks and times as given. -/
def gated (t split isolMs : Nat) (isolated : Bool) (pairs : List PairDisc) : Chan :=
  { inRun t false with
    image := some imgD
    doors := { placed.doors with
      pairs := pairs
      gates := [{ (default : GateState) with elem := 0x3000, step := 2, split := split, isolated := isolated, isolMs := isolMs }] } }

theorem witness_TimersOfBlocksAndGates :
    (let q : PairDisc := { elem := 0x3000, input := 1, ms := 100000, flagged := false }
     let c := gated 0 0 0 false [q]
     c.live = true ∧ c.image = some imgD ∧ c.inRun 1 = false ∧
      c.latePairs 0 (c.doorElapsed 0 c.doors.prev0) 0x3000 imgD.pairInputs = [q] ∧
      q ∈ c.latePairs 0 (c.doorElapsed 0 c.doors.prev0) 0x3000 imgD.pairInputs) ∧
    (let q : PairDisc := { elem := 0x3001, input := 0, ms := 100000, flagged := false }
     let c := gated 1 0 0 false [q]
     c.inRun 0 = false ∧ c.latePairs 1 (c.doorElapsed 1 c.doors.prev1) 0x3001 imgD.plungerInputs = [q]) ∧
    (let c := gated 0 0 0 false []
     c.latePairs 0 (c.doorElapsed 0 c.doors.prev0) 0x3000 imgD.pairInputs = [] ∧
      c.latePairs 1 (c.doorElapsed 1 c.doors.prev1) 0x3000 imgD.plungerInputs = []) ∧
    (let c := gated 0 100000 0 false []
     c.doors.gates.find? (fun p => p.elem == 0x3000) = some { (default : GateState) with elem := 0x3000, step := 2, split := 100000 } ∧
      (imgD.gates.find? (fun p => p.elem == 0x3000)).isSome = true ∧ c.inRun 0 = true ∧
      (let d := (imgD.gates.find? (fun p => p.elem == 0x3000)).getD default
       let q := c.doors.gates.headD default
       c.discMs + 1 <
         (q.track (c.doorValue (c.task 0).inImg d.lk1 false) (c.doorValue (c.task 0).inImg d.lk2 false) (c.doorElapsed 0 c.doors.prev0)).split)) ∧
    (let c := gated 0 0 400 true []
     c.inRun 0 = true ∧ 400 ≤ ((c.task 0).runCycle - 0) * (c.periodUs 0 / 1000)) ∧
    (let c := gated 0 0 900448 true []
     c.inRun 0 = true ∧ 900448 - ((c.task 0).runCycle - 0) * (c.periodUs 0 / 1000) ≤ 900000) ∧
    (gated 1 0 400 true []).inRun 0 = false := by
  decide +kernel

/-- The clauses about a timer, whose TYPE the library's own numbering gives: for any member that is the on-delay timer. -/
theorem witness_TimersOfBlocks (version : Nat) (h : Config.memberKind 7 version = .onDelay) (on : Bool) :
    let d : InstDef := { (default : InstDef) with id := 9, task := 0, typ := 0x307, version := version, preset := 500, ins := [.const (if on then 0xC3 else 0)] }
    let g : Image := { img with insts := [d] }
    let i : InstState := { (default : InstState) with id := 9, first := true, fields := [0, 500, 1] }
    let c : Chan := { inRun 0 false with image := some g, blocks := { placed.blocks with insts := [i] } }
    c.live = true ∧ c.image = some g ∧ g.inst 9 = some d ∧ c.blocks.inst 9 = some i ∧ d.kind = .onDelay ∧ c.inRun d.task = true ∧
      wordAt i.fields 2 = 1 ∧ readBool (wordAt (c.instInputs (c.task d.task).inImg d) 0) = on := by
  refine ⟨rfl, rfl, rfl, rfl, ?_, rfl, rfl, ?_⟩
  · show blockKind 0x307 version = .onDelay
    simp [blockKind, h, BlockKind.family]
  · have : blockKind 0x307 version = .onDelay := by simp [blockKind, h, BlockKind.family]
    simp only [Chan.instInputs, InstDef.kind, this]
    cases on <;> rfl

theorem test_gate_fault : ((after (.gateFault .a 0x3000) (one (gated 0 100000 0 false []))).ch .a).doors.gates.map (fun g => g.step) = [4] ∧
    ((after (.gateIsolationLapse .a 0x3000) (one (gated 0 0 400 true []))).ch .a).doors.gates.map (fun g => (g.step, g.unproven, g.isolated)) = [(0, true, false)] := by
  decide +kernel

/-- A verdict for run 7 of T1: `outcome` by this sender, with its results. -/
def verdict0 (ch : Ch) (outcome rn rp : Nat) : Verdict :=
  { (default : Verdict) with task := 1, ch := ch, taskCycle := 7, outcome := outcome, resNext := rn, resPrev := rp }

def heard (v : Tri (Option Verdict)) : Chan := { up with vote := { up.vote with verdicts := v } }

/-- The channel as it stands once the verdict is taken. -/
def took (c : Chan) (frm : Ch) (v : Verdict) : Chan :=
  let c := c.readFrom frm (sent (.verdict v))
  ({ c with vote := { c.vote with verdicts := c.vote.verdicts.set frm (some v) } } : Chan).takeReintSigns frm v

theorem witness_VerdictsSettleTheVote :
    (∀ v, (Ch.a ≠ .b ∧ up.live = true ∧ up.running = true ∧ up.TakesFrom .b (sent (.verdict v)) (.verdict v))) ∧
    (verdict0 .b 1 0 1).ch = .b ∧ up.votes .a = true ∧ up.votes .b = true ∧ up.votes .c = true ∧
    ({ up with vote := { up.vote with inVote := 5 } } : Chan).votes .b = false ∧
    (took (heard ⟨none, none, some (verdict0 .c 1 1 0)⟩) .b (verdict0 .b 1 0 1)).namedByBoth .a (verdict0 .b 1 0 1) = true ∧
    (let v := verdict0 .b 1 1 0
     let d := took (heard ⟨some (verdict0 .a 1 0 1), none, none⟩) .b v
     d.namedByBoth .a v = false ∧ (d.verdictFor .a v).bind verdictNames = some .c ∧
      (d.verdictFor (Ch.third .a .c) v).bind verdictNames = some .c) ∧
    (let v := verdict0 .b 0 0 0
     let d := took up .b v
     d.namedByBoth .a v = false ∧ (d.verdictFor .a v).bind verdictNames = none) ∧
    up.TakesFrom .b (sent (.exclAck .b 7)) (.exclAck .b 7) ∧ up.TakesFrom .b (sent (.exclAck .c 7)) (.exclAck .c 7) ∧
    ({ up.vote with ackDue := ⟨false, true, false⟩ } : Vote).ackDue.get .b = true ∧ up.vote.ackDue.get .b = false ∧
    (up.split = false ∧ ({ up.vote with cut := ⟨false, true, false⟩ } : Vote).cut.get .b = true ∧ (State.reset.ch .a).live = false) ∧
    ({ up.vote with single := 15, naming := some (.a, .b) } : Vote).naming = some (.a, .b) ∧
    ({ up.vote with single := 15, naming := some (.b, .a) } : Vote).naming = some (.b, .a) ∧ bits (up.act 0x0C02) 3 0 ≤ 15 := by
  refine ⟨fun v => ⟨by decide, by decide, by decide, takes _ rfl (by decide) rfl⟩, by decide, by decide, by decide, by decide, by decide,
    by decide +kernel, by decide +kernel, by decide +kernel, takes _ rfl (by decide) rfl, takes _ rfl (by decide) rfl, ?_⟩
  decide

/-- R169: the network removes a drive only while both partners' lines are asserted. -/
theorem test_cut_lines :
    let cutting : Chan := { up with vote := { up.vote with cut := ⟨false, false, true⟩ } }
    let s : State := { one up with chans := Tri.const cutting }
    (after (.cutLineChange .a .c true) s).net.driveCut.get .c = false ∧
    (after (.cutLineChange .b .c true) (after (.cutLineChange .a .c true) s)).net.driveCut.get .c = true := by decide

/-- A channel in 2oo2 operation at its limit, a voted T1 run behind. -/
def limited : Chan := { up with mainCycle := 1, vote := { up.vote with mode := 2, degUs := up.degLimitUs } }

theorem witness_DegradedModuleIsLimited :
    (∀ x, ((one up).ch x).split = false) ∧ ((one { up with seals := { up.seals with bootPos := 0x200 } }).ch .a).split = true ∧
    (one up).tripCauseHolds .supply = true ∧ (one up).tripCauseHolds .silent = false ∧ (one up).hedgehog.st = 1 ∧
    State.reset.hedgehog.st = 0 ∧ ({ (one up).hedgehog with st := 2 } : Hedgehog).st ≠ 1 ∧
    (limited.live = true ∧ limited.running = true ∧ limited.votes .a = true ∧ limited.vote.degWarn = false ∧
      limited.degLimitUs ≤ limited.vote.degUs + 3600000000 ∧ limited.vote.mode ≠ 3 ∧ limited.degLimitUs ≤ limited.vote.degUs ∧
      (limited.task 1).votedMain < limited.mainCycle) ∧
    up.vote.degUs < up.degLimitUs ∧ ({ limited with mainCycle := 0 } : Chan).mainCycle ≤ (limited.task 1).votedMain ∧
    (up.vote.mode = 1 ∧ 3600000000 ≤ ({ up.vote with goodUs := 3600000000 } : Vote).goodUs) := by
  refine ⟨fun x => by cases x <;> decide, ?_⟩
  decide

/-- R201: a trip releases both copies; R175: the 2oo2 limit shuts the module down. -/
theorem test_trip : (after (.hedgehogTrip .supply) (one up)).hedgehog.st = 2 ∧
    ((after (.hedgehogTrip .supply) (one up)).ch .c).safe.tripCnt = 1 ∧
    ((after (.degLimitExpired .a) (one limited)).ch .a).vote.mode = 3 := by
  decide

/-- A channel out of the vote whose partners are in it. -/
def outside (phase : Nat) (asked : Bool) : Chan :=
  { placed with
    clock := 300000000
    vote := { up.vote with inVote := 6, mode := 2 }
    reint := { up.reint with phase := phase, asked := asked, commanded := true } }

/-- A partner in the degraded vote. -/
def serving (frm : Option Ch) (exch : Nat) : Chan :=
  { up with
    vote := { up.vote with inVote := 5, mode := 2 }
    reint := { up.reint with source := frm }
    blocks := { up.blocks with exch := exch } }

/-- A joining channel that has STATE and the other source's JOIN for cycle 5. -/
def join2 : Chan :=
  { outside 3 true with
    image := none
    reint := { (outside 3 true).reint with taken := some default, join := some 5, acks := ⟨false, true, false⟩ } }

theorem witness_ReintegrationRunsItsPhases :
    (let c := outside 0 false
     c.live = true ∧ c.running = true ∧ c.statusOnly = false ∧ c.votes .a = false ∧ c.reint.barred = false ∧ c.vote.outFault = false ∧
      c.reint.phase = 0 ∧ c.reint.commanded = true ∧ 0 < c.reint.triesLeft ∧ c.bistClean = true ∧ c.votes (Ch.a).next = true ∧
      c.votes (Ch.a).prev = true ∧ c.blocks.exch = 0 ∧ c.past c.reint.since (bits (c.act 0x0C05) 15 8 * 1000000) = true) ∧
    up.votes .a = true ∧
    (let c := outside 1 false
     c.running = true ∧ c.split = false ∧ c.reint.phase = 1 ∧ c.reint.asked = false ∧ c.image = some img) ∧
    (let c := outside 2 true
     c.reint.phase = 2 ∧ c.reint.asked = true ∧ c.past c.reint.since (bits (c.act 0x0C05) 30 24 * 1000000) = true) ∧
    ({ outside 2 true with clock := 0 } : Chan).past 0 (bits ((outside 2 true).act 0x0C05) 30 24 * 1000000) = false ∧
    (∀ ab n, (serving none 0).TakesFrom .b (sent (.reintReq ab n)) (.reintReq ab n)) ∧
    (let c := (serving none 0).readFrom .b (sent (.reintReq false 1))
     c.running = true ∧ c.votes .a = true ∧ c.votes .b = false ∧ c.vote.mode = 2 ∧ c.blocks.exch ≠ 3) ∧
    ((serving none 3).readFrom .b (sent (.reintReq false 1))).blocks.exch = 3 ∧
    ((serving (some .b) 0).readFrom .b (sent (.reintReq true 1))).reint.source = some .b ∧
    ((serving none 0).readFrom .b (sent (.reintReq true 1))).reint.source ≠ some .b ∧
    (let c := (outside 2 true).readFrom .b (sent (.reintReq true 1))
     c.reint.source ≠ some .b ∧ c.votes .a = false ∧ c.reint.phase ≠ 0 ∧ c.reint.phase ≠ 5) := by
  refine ⟨by decide +kernel, by decide, by decide +kernel, by decide +kernel, by decide +kernel, fun ab n => takes _ rfl (by decide) rfl,
    by decide +kernel, by decide +kernel, by decide +kernel, by decide +kernel, by decide +kernel⟩

/-- The clauses about PAGE, STATE and JOIN. -/
theorem witness_CopiesAreTaken :
    (∀ m, (outside 2 true).TakesFrom .b (sent m) m) ∧ ((outside 2 true).readFrom .b (sent (.page 0 []))).copying = true ∧
    (outside 2 true).reint.phase ≠ 3 ∧ (default : StateXfer).exch ≠ 3 ∧ ({ (default : StateXfer) with exch := 3 } : StateXfer).exch = 3 ∧
    (∀ m, join2.TakesFrom .c (sent m) m) ∧ join2.reint.phase = 3 ∧
    (let c := join2.readFrom .c (sent (.join 5 0))
     let d : Chan := { c with
       reint := { c.reint with phase := 3, join := some 5, acks := c.reint.acks.set .c true, finalPages := 0 } }
     c.reint.join = some 5 ∧ d.reint.taken = some default ∧ d.reint.acks.get (Ch.a).next = true ∧ d.reint.acks.get (Ch.a).prev = true ∧
      d.pagesMissing = 0 ∧ c.mainCycle ≠ 5) ∧
    (join2.readFrom .c (sent (.join 6 0))).reint.join ≠ some 6 ∧
    ((outside 2 true).split = false ∧ 4 ≤ (outside 2 true).boot.phase ∧ ({ sent (.page 0 []) with crc := 0 } : Link).full = false ∧
      ({ sent (.page 0 []) with crc := 0 } : Link).crcOk (XMsg.page 0 []).payload = false ∧ (outside 2 true).copying = true) := by
  refine ⟨fun m => takes _ rfl (by decide) rfl, by decide +kernel, by decide, by decide, by decide, fun m => takes _ rfl (by decide) rfl,
    by decide, by decide +kernel, by decide +kernel, ?_⟩
  decide +kernel

/-- R178: JOIN from the second source starts probation. -/
theorem test_join : ((after (.join .a .c (sent (.join 5 0)) 5 0) (one join2)).ch .a).reint.phase = 4 ∧
    ((after (.join .a .c (sent (.join 5 0)) 5 0) (one join2)).ch .a).vote.probation = 1 := by decide +kernel

/-- R176: an attempt that times out uses one of the tries. -/
theorem test_reint_timeout : ((after (.reintTimeout .a) (one (outside 2 true))).ch .a).reint.phase = 5 ∧
    ((after (.reintTimeout .a) (one (outside 2 true))).ch .a).reint.triesLeft = 2 := by decide +kernel

/-- Outputs 0 and 31 on, with slots given. -/
def driven (plan : List SlotUse) : Chan :=
  { up with
    dout := { up.dout with cmd := 0x80000001, on := 0x80000001, high := 0x80000001, lowSide := 15, timerOn := 0x80000001, plan := plan } }

theorem witness_OutputsAreTested :
    (let c := driven [.pulse 31 .ab]
     c.live = true ∧ c.running = true ∧ c.stageDrives .a = true ∧ c.dout.plan.contains (useOf 31 .ab false) = true ∧
      c.dout.on.getLsbD 31 = true ∧ (one c).hedgehog.copy1 = false ∧ (one c).hedgehog.copy2 = false) ∧
    (driven [.sweep 31]).dout.plan.contains (useOf 31 .ab true) = true ∧
    (driven []).dout.plan.contains (useOf 31 .ab true) = false ∧ (driven []).dout.on.getLsbD 30 = false ∧
    (let c := driven [.lowSide .a 3]
     c.running = true ∧ c.vote.mode = 1 ∧ c.drives .a = true ∧ c.dout.plan.contains (.lowSide .a (4 - 1)) = true ∧
      c.inService.getLsbD (4 - 1) = true) ∧
    (driven []).dout.plan.contains (.lowSide .a (1 - 1)) = false ∧
    (let c : Chan := { driven [] with
       din := { up.din with mainCycle := 2000 }
       image := some img
       dout := { (driven []).dout with sag := 8, sagLatch := 1, warnClear := [(0, 0), (3, 0)] } }
     c.warnClearLong (4 - 1) = true ∧ c.warnClearLong (1 - 1) = true ∧ c.dout.sag.getLsbD (4 - 1) = true ∧
      c.dout.sagLatch.getLsbD (1 - 1) = true ∧ c.stageDrives .a = true ∧ c.supply.powerFail = false) ∧
    up.warnClearLong 3 = false ∧ ({ up.supply with powerFail := true } : Supply).powerFail = true ∧
    (driven []).dout.timerOn.getLsbD 31 = true ∧ (driven []).dout.timerOn.getLsbD 30 = false := by decide

/-- R199: a sag of group 4 opens output 31 and leaves output 0. -/
theorem test_sag : ((after (.fieldSupplySag .a 4) (one (driven []))).ch .a).dout.high = 1 ∧
    ((after (.fieldSupplySag .a 4) (one (driven []))).ch .a).dout.lowSide = 7 := by decide +kernel

/-- R195: the dip of a sweep's slot is kept for the next input set. -/
theorem test_sweep : let t := after (.offTestPulse .a 31 .ab (some true) true false) (one (driven [.sweep 31]))
    (t.ch .a).dout.sweepNow = 0x80000000 ∧ (t.ch .a).dout.dipNow = 0x80000000 ∧ (t.ch .a).dout.plan = [] := by decide +kernel

theorem test_output_timeout : ((after (.outputTimeout .a 31) (one (driven []))).ch .a).dout.high = 1 := by decide

/-! ### Witnesses: the lane -/

def seen (st : Nat) : Sync := { up.sync with st := st }

/-- A node in a state of the lane, both ports up. -/
def onLane (st : Nat) : Chan :=
  { placed with
    sync := seen st
    frt := { placed.frt with
      portX := { (default : PortState) with optics := true, up := true, nbr := some (8, .y) }
      portY := { (default : PortState) with optics := true, up := true, nbr := some (10, .x) } } }

/-- A broadcast frame of node 4, rank 1, heard for the first time. -/
def frameOf (cls kind : Nat) (payload : List Byte) : Frame :=
  { (default : Frame) with cls := cls, kind := kind, origin := 8, payload := payload }

/-- That frame as it reaches port X. -/
def heardX (cls kind arrival : Nat) (payload : List Byte) : FrameRx := (frameOf cls kind payload).onLine .a .x arrival

theorem hears {c : Chan} {cls kind arrival : Nat} {ps : List Byte} (ho : c.laneOpen = true) (hp : c.frt.portX.optics = true)
    (hu : c.portUsed .x = true) (hl : ps.length ≤ 1008) (hw : c.inWindow (heardX cls kind arrival ps) = true) (hc : cls < 4)
    (hk : kind < 64) (hkc : kindClass kind = some cls) : c.HearsFrame .a (heardX cls kind arrival ps) kind :=
  hears_onLine (f := frameOf cls kind ps) ho hp hu hl hw (Nat.zero_le 6) hc hk hkc

/-- A management frame is heard while the node listens. -/
theorem listens {kind arrival : Nat} {ps : List Byte} (hl : ps.length ≤ 1008) (hk : kind < 64) (hkc : kindClass kind = some 3) :
    (onLane 1).HearsFrame .a (heardX 3 kind arrival ps) kind :=
  hears (by decide) (by decide) (by decide) hl (by simp [Chan.inWindow, onLane, seen]) (by decide) hk hkc

/-- A reference of the Owl `owl` with the accumulated delay `acc`. -/
def reference (owl acc : Nat) : List Byte :=
  wordsBytes (refWords { cluster := 5, basic := 4, sched := true, hop := 0, rank := 1, owl := owl, acc := acc, switchAt := 0, next := false, b2 := 0, b3 := 0, b4 := 0 })

/-- Any state of the lane but OFF hears a reference. -/
theorem hears_reference (y : Sync) (h : y.st ≠ 0) (owl acc arrival : Nat) :
    ({ onLane 1 with sync := y } : Chan).HearsFrame .a (heardX 3 1 arrival (reference owl acc)) 1 := by
  refine hears ?_ rfl rfl ?_ ?_ (by decide) (by decide) rfl
  · simp [Chan.laneOpen, h]; rfl
  · simp [reference, refWords, wordsBytes, wordBytes]
  · have : (heardX 3 1 arrival (reference owl acc)).kind = 1 := onLine_kind _ _ _ _
    simp [Chan.inWindow, this]

theorem witness_ReferencesAreFollowed :
    ((onLane 4).live = true ∧ (onLane 4).laneOpen = true ∧ ({ seen 4 with rank := 1 } : Sync).isOwl = true ∧ (seen 4).refSent = false ∧
      (onLane 4).portOpen .x = true ∧ 2 ≤ ({ seen 4 with unsent := 2 } : Sync).unsent) ∧
    (3 ≤ (seen 3).st ∧ (seen 3).isOwl = false ∧ (seen 3).gotRef = false ∧ (seen 3).judged = false ∧ (seen 3).cold = false ∧
      ({ seen 3 with missing := 6 } : Sync).missing < 7 ∧ 7 ≤ ({ seen 3 with missing := 7 } : Sync).missing ∧
      (onLane 3).laneOpen = true ∧ ({ seen 3 with judged := true } : Sync).judged = true) ∧
    (2 * (({ seen 4 with rank := 2 } : Sync).rank - 1) ≤ ({ seen 4 with missing := 2 } : Sync).missing ∧
      ({ seen 4 with missing := 1 } : Sync).missing < 2 * (({ seen 4 with rank := 2 } : Sync).rank - 1)) ∧
    8 ≤ ({ seen 4 with compiled := true, conflictRun := 8 } : Sync).conflictRun ∧
    (∀ owl acc arrival, (heardX 3 1 arrival (reference owl acc)).origin ≠ (onLane 4).nodeKey) ∧ (onLane 4).delayOk .x = true := by
  refine ⟨by decide, by decide, by decide, by decide, fun owl acc arrival => ?_, by decide⟩
  have : (heardX 3 1 arrival (reference owl acc)).origin = 8 := onLine_origin _ _ _ _
  rw [this]
  decide

/-- The clauses about a reference as it is taken: key 6 is the own one. -/
theorem witness_ReferencesAreTaken :
    (let c := (onLane 3).heardFrame (heardX 3 1 500 (reference 8 0))
     (refOf (frameWords (heardX 3 1 500 (reference 8 0)))).hop < 6 ∧ c.portOpen .y = true ∧ c.sync.relayedOn .y = false) ∧
    (let y : Sync := { seen 4 with rank := 1, owlKey := 6 }
     y.isOwl = true ∧ (onLane 4).nodeKey ≤ (refOf (frameWords (heardX 3 1 500 (reference 8 0)))).owl ∧
      (refOf (frameWords (heardX 3 1 500 (reference 2 0)))).owl < (onLane 4).nodeKey ∧ y.compiled = false ∧
      ({ y with compiled := true } : Sync).compiled = true ∧ y.switchAt = 0) ∧
    ((seen 1).st = 1 ∧ (seen 1).copy = none) ∧
    (let y : Sync := { seen 4 with rank := 2, owlKey := 8 }
     let off := fun (arrival acc : Nat) => (arrival : Int) - (refOf (frameWords (heardX 3 1 arrival (reference 8 acc)))).acc - y.delayNs .x
     y.st = 4 ∧ y.rank ≠ 1 ∧ y.copy = none ∧ (refOf (frameWords (heardX 3 1 500 (reference 8 0)))).owl = y.owlKey ∧
      (off 1500 0).natAbs ≤ 1500 ∧ (off 0 1500).natAbs ≤ 1500 ∧ 1500 < (off 1501 0).natAbs ∧ 1500 < (off 0 1501).natAbs) ∧
    (let y : Sync := { seen 4 with compiled := true, owlKey := 2, gotRef := true }
     3 ≤ y.st ∧ y.isOwl = false ∧ y.compiled = true ∧ y.owlKey ≠ 0x7F ∧
      (refOf (frameWords (heardX 3 1 500 (reference 8 0)))).owl ≠ y.owlKey ∧ y.gotRef = true ∧ y.conflictNow = false) := by
  decide +kernel

theorem test_missing_eighth : ((after (.referenceMissing .a) (one { onLane 3 with sync := { seen 3 with missing := 7 } })).ch .a).sync.st = 1 ∧
    ((after (.referenceMissing .a) (one { onLane 3 with sync := { seen 3 with missing := 6 } })).ch .a).sync.st = 3 := by decide +kernel

theorem test_takeover : ((after (.owlTakeover .a) (one { onLane 4 with sync := { seen 4 with rank := 2, missing := 2 } })).ch .a).sync.owlKey = 6 := by
  decide +kernel

/-- A COLDSTART payload: basic cycle 4, the sender's key. -/
def coldstartOf (key : Nat) (serial : Word) : List Byte := wordsBytes [0, 4, w32 key, serial, 0]

/-- Eligible for the Owl role, in a state of the lane. -/
def eligible (y : Sync) : Chan := { onLane 1 with image := some { img with owlElig := true }, sync := y }

theorem witness_ColdStartAndCycles :
    ((seen 1).st = 1 ∧ 128 ≤ ({ seen 1 with listened := 128 } : Sync).listened ∧ (onLane 1).laneOpen = true ∧ (seen 1).listened < 128) ∧
    (({ seen 1 with listenOver := true } : Sync).listenOver = true ∧ (eligible (seen 1)).owlEligible = true ∧
      (onLane 1).owlEligible = false) ∧
    (let y : Sync := { seen 2 with coldSent := 8, basic := 16 }
     y.st = 2 ∧ y.coldSent = 8 ∧ y.basic = 16 ∧ (seen 2).coldSent ≠ 8) ∧
    (let y : Sync := { seen 4 with switchAt := 9, cluster := 9, nextSched := true }
     3 ≤ y.st ∧ y.switchAt ≠ 0 ∧ y.switchAt = y.cluster ∧ y.basic = 0 ∧ y.nextSched ≠ y.compiled ∧
      ({ y with nextSched := false } : Sync).nextSched = false ∧ ({ y with basic := 1 } : Sync).basic ≠ 0) ∧
    (let y : Sync := { seen 0 with dupLatched := true, dupDetect := 2 }
     y.st = 0 ∧ y.dupLatched = true ∧ y.dupDetect < 3 ∧ y.backoff = 0 ∧ (onLane 0).laneLive = true ∧
      3 ≤ ({ y with dupDetect := 3 } : Sync).dupDetect) ∧
    ((seen 4).st ≠ 0 ∧ (seen 4).st ≠ 3) ∧ ((seen 3).st = 3 ∧ (seen 3).copy = none ∧ (seen 3).good < 8) ∧
    (let y : Sync := { seen 3 with copy := some (0, 1000), good := 7 }
     let c : Chan := { onLane 3 with sync := y, released := true, t1Clock := 1000 }
     y.st = 3 ∧ y.copy = some (0, 1000) ∧ (1000 : Int).natAbs ≤ 1000 ∧ 7 ≤ y.good ∧ y.compiled = false ∧ y.drifted = false ∧
      c.running = true ∧ c.released = true ∧ c.votes .a = true ∧
      (let far := (1000 + 64000 - ((y.basic + 1) % 64) * 1000 + 64000 - c.t1Clock % 64000) % 64000
       50 < far ∧ far < 63950)) := by
  decide +kernel

/-- The clauses about a coldstart frame. -/
theorem witness_ColdstartFramesAreHeard :
    (∀ ps : List Byte, ps.length ≤ 1008 → (onLane 1).HearsFrame .a (heardX 3 2 500 ps) 2) ∧
    (let c := (onLane 1).heardFrame (heardX 3 2 500 (coldstartOf 4 9))
     bits (wordAt (frameWords (heardX 3 2 500 (coldstartOf 4 9))) 2).toNat 6 0 = 4 ∧ 4 ≠ c.nodeKey ∧ c.sync.st = 1 ∧ c.owlEligible = false) ∧
    (let c := eligible { seen 3 with cold := true, owlKey := 4 }
     (c.heardFrame (heardX 3 2 500 (coldstartOf 4 9))).sync.st = 3 ∧ c.sync.cold = true ∧ 4 ≤ c.sync.owlKey ∧
      c.inWindow (heardX 3 2 500 (coldstartOf 4 9)) = true ∧ c.laneOpen = true) ∧
    (let c := (eligible (seen 2)).heardFrame (heardX 3 2 500 (coldstartOf 7 9))
     c.nodeKey < bits (wordAt (frameWords (heardX 3 2 500 (coldstartOf 7 9))) 2).toNat 6 0 ∧ c.owlEligible = true ∧ c.sync.st = 2) ∧
    (bits (wordAt (frameWords (heardX 3 2 500 (coldstartOf 6 9))) 2).toNat 6 0 = (onLane 1).nodeKey ∧
      serialOf (frameWords (heardX 3 2 500 (coldstartOf 6 9))) 3 ≠ State.reset.factory.serial ∧
      serialOf (frameWords (heardX 3 2 500 (coldstartOf 6 (State.reset.factory.serial.setWidth 32)))) 3 = State.reset.factory.serial) :=
  ⟨fun _ h => listens h (by decide) rfl, by decide +kernel, by decide +kernel, by decide +kernel, by decide +kernel⟩

theorem test_basic_cycle :
    let t := after (.basicCycleStart .a 0) (one { onLane 4 with sync := { seen 4 with basic := 63, cluster := 4294967295 } })
    (t.ch .a).sync.basic = 0 ∧ (t.ch .a).sync.cluster = 0 := by decide +kernel

theorem test_coldstart_entry : ((after (.coldstartEntry .a) (one (eligible { seen 1 with listenOver := true }))).ch .a).sync.st = 2 := by
  decide +kernel

/-- A node whose port X is down, its description naming 8 as the neighbour there. -/
def portless (p : PortState) : Chan :=
  { onLane 0 with
    image := some { img with schedule := some { (default : Schedule) with nbrX := some 8 } }
    frt := { (onLane 0).frt with portX := p } }

theorem witness_PortsComeAndGo :
    (up.live = true ∧ Optics.sx ≠ .otherCode ∧ 1000 ≤ 1000 ∧ (1000 : Nat) < 1001) ∧
    (let c : Chan := { onLane 4 with frt := { (onLane 4).frt with portX := { (onLane 4).frt.portX with quiet := 3 } } }
     c.laneLive = true ∧ 3 ≤ (c.frt.port .x).quiet ∧ (c.frt.port .x).up = true ∧ (c.frt.port .x).nbr = some (8, .y) ∧
      (c.frt.port .y).quiet < 3) ∧
    (let st : PortState := { (default : PortState) with optics := true }
     (portless st).laneLive = true ∧ (portless st).onFabric = true ∧ ((portless st).frt.port .x).optics = true ∧
      ((portless st).frt.port .x).up = false ∧ st.fell = false ∧ (portless st).sync.st = 0 ∧ (portless st).sync.dupLatched = false ∧
      (portless st).wrongNeighbour .x = false ∧ ({ portless st with sync := seen 4 } : Chan).sync.st ≠ 0) ∧
    (let st : PortState := { (default : PortState) with optics := true, fell := true, lively := 3, near := some 8, named := true }
     3 ≤ st.lively ∧ (portless st).delayOk .x = true ∧ st.named = true ∧ (portless st).wrongNeighbour .x = false) ∧
    (let st : PortState := { (default : PortState) with optics := true, fell := true, lively := 3, near := some 12 }
     (portless st).wrongNeighbour .x = true ∧ (portless st).described .x = some 8) ∧
    (let st : PortState := { (default : PortState) with optics := true, fell := true, lively := 2 }
     st.fell = true ∧ st.lively < 3) ∧
    (6 ≤ (onLane 4).boot.phase ∧ (onLane 4).enables .x 0 = false ∧ (onLane 4).enables .x 741000 = true ∧
      (onLane 4).enables .x 995000 = false ∧ (onLane 0).portOpen .x = false ∧ (onLane 4).portOpen .x = true ∧
      (onLane 4).dynamicOpen = true ∧ 3 ≤ ({ up.guard with nowX := 3 } : Guard).now .x ∧
      ({ up.guard with babbleY := true } : Guard).babble .y = true ∧ (rising 5).boot.phase < 6) ∧
    (∀ ps : List Byte, ps.length ≤ 1008 → (onLane 1).HearsFrame .a (heardX 3 0x0A 500 ps) 0x0A) := by
  refine ⟨by decide, by decide, by decide, by decide, by decide, by decide, by decide, fun _ h => listens h (by decide) rfl⟩

/-- R265: an unexpected neighbour is a wrong one, cause 5. -/
theorem test_wrong_neighbour :
    let p : PortState := { (default : PortState) with optics := true, fell := true, lively := 3, near := some 12 }
    ((after (.portUp .a .x) (one (portless p))).ch .a).frt.cause = 5 ∧
    ((after (.portUp .a .x) (one (portless { p with near := some 8, named := true }))).ch .a).frt.cause = 0 := by decide +kernel

/-- R231: the fourth violation closes the port. -/
theorem test_babble : ((after (.badgerViolation .a .x 0) (one { onLane 4 with guard := { up.guard with nowX := 3 } })).ch .a).guard.babbleX = true ∧
    ((after (.badgerViolation .a .x 0) (one { onLane 4 with guard := { up.guard with nowX := 2 } })).ch .a).guard.babbleX = false := by
  decide +kernel

/-- A node with a frame queued on port X and credits for it. -/
def queued (f : Frame) : Chan :=
  { onLane 4 with
    fab := { (onLane 4).fab with queueX := [f] }
    qm := { (onLane 4).qm with credits := [{ port := .x, cls := f.cls, level := f.hop, cells := 64, lseq := 0, known := true, log := [] }] } }

def out0 : Frame := { (default : Frame) with cls := 2, kind := 0x20, origin := 6, payload := [1, 2, 3, 4] }

/-- A window of the own node for vital cyclic frames, and a node under a compiled schedule with it. -/
def window0 : Window := { (default : Window) with port := .x, start := 100, len := 40, origin := 3, cls := 0, mask := 0 }

def scheduled (c : Chan) : Chan :=
  { c with
    sync := { seen 4 with compiled := true }
    image := some { img with schedule := some { (default : Schedule) with windows := [window0] } } }

def vital0 : Frame := { out0 with cls := 0, kind := 0x10 }

theorem witness_FramesKeepTheirWindows :
    (onLane 0).portOpen .x = false ∧ (onLane 4).portOpen .x = true ∧ (onLane 4).dynamicOpen = true ∧ (onLane 1).dynamicOpen = false ∧
    ((onLane 4).guard.line .x).busy ≤ 743000 ∧
    (let c := queued out0
     pickFrame (c.fab.queue .x) (c.inDynamic 744000) (dynamicRank c.nodeKey) = some out0 ∧ endsBy 744000 993 out0 = true ∧
      c.credited .x out0 = true ∧ (onLane 4).credited .x out0 = false ∧ endsBy 993000 993 out0 = false) ∧
    (let c := scheduled (queued vital0)
     c.portOpen .x = true ∧ c.windowAt .x 103000 = some window0 ∧ c.sync.st = 4 ∧ c.holdsClaim = true ∧
      c.mayStart .x 103000 window0.start = true ∧
      pickFrame (c.fab.queue .x) (fun g => windowTakes window0 g.origin g.cls) (fun g => g.cls * 128 + g.origin) = some vital0 ∧
      endsBy 103000 (window0.start + window0.len - 3) vital0 = true ∧ c.credited .x vital0 = true ∧
      (scheduled (onLane 4)).credited .x vital0 = false ∧ vital0.cls = 0 ∧ c.windowAt .x 300000 = none) ∧
    (let f : Frame := { vital0 with payload := List.replicate 1000 0 }
     endsBy 130000 (window0.start + window0.len - 3) f = false ∧ (scheduled (queued f)).windowAt .x 130000 = some window0 ∧ windowTakes window0 f.origin f.cls = true) ∧
    (let c := scheduled (onLane 4)
     c.fab.queue .x = [] ∧ window0.arbitrating = false ∧ window0.cls = 0 ∧ c.mayStart .x 103000 window0.start = true ∧
      ({ c with image := some { img with
        schedule := some { (default : Schedule) with windows := [window0] },
        conns := [{ (default : Conn) with peer := 3 }] } } : Chan).idleUnreachable { window0 with origin := 4 } = false) ∧
    (let c := onLane 4
     c.sync.compiled = false ∧ c.sync.basic % 2 = bitAt c.rankBit 0 ∧ c.sync.basic % 8 < 2 ∧ (133000 : Nat) < 740000 ∧
      (103 + 10 * c.node) * 1000 ≤ 133000 ∧ 133000 < (107 + 10 * c.node) * 1000 ∧ c.mayStart .x 133000 (100 + 10 * c.node) = true ∧
      ({ c with qm := { c.qm with credits := [{ port := .x, cls := 3, level := 0, cells := 64, lseq := 0, known := true, log := [] }] } } : Chan).credited .x
        (c.ownFrame 3 3 none (wordsBytes (c.helloWords State.reset.factory.serial))) = true) := by
  refine ⟨by decide, by decide, by decide, by decide, by decide, by decide +kernel,
    by decide +kernel,
    by decide +kernel,
    by decide +kernel,
    by decide +kernel⟩

theorem test_transmit : ((after (.frameTransmit .a .x 744000) (one (queued out0))).ch .a).fab.queueX = [] ∧
    ((after (.frameTransmit .a .x 993000) (one (queued out0))).ch .a).fab.queueX = [out0] := by decide +kernel

theorem test_underrun : ((after (.frameTransmit .a .x 103000) (one (scheduled (onLane 4)))).ch .a).qm.underruns ≤ 1 := by decide +kernel

/-- A HELLO payload of a key with a serial number. -/
def helloBytes (key serial : Nat) : List Byte := wordsBytes [w32 serial, 0, w32 key, 0, 0, 0, 0, 0, 0]

/-- The Owl on the start-up schedule, every image holder ready, node 4's claim acknowledged next. -/
def announcing : Chan :=
  { onLane 4 with
    sync := { seen 4 with rank := 1 }
    image := some { img with schedule := some { (default : Schedule) with ioNodes := [4], imageKeys := [] } } }

theorem witness_DiscoveryFramesAreHeard :
    (∀ kind, kind ∈ [3, 4, 5, 6, 7, 8, 9, 0x0B, 0x0C, 0x0E] → ∀ ps : List Byte, ps.length ≤ 1008 →
      (onLane 1).HearsFrame .a (heardX 3 kind 500 ps) kind ∧ (heardX 3 kind 500 ps).origin ≠ (onLane 1).nodeKey) ∧
    ((helloOf (frameWords (heardX 3 3 500 (helloBytes 8 1)))).key ≠ (onLane 1).nodeKey ∧ (heardX 3 3 500 (helloBytes 8 1)).hop = 0) ∧
    ((helloOf (frameWords (heardX 3 3 500 (helloBytes 6 9)))).key = (onLane 1).nodeKey ∧
      (helloOf (frameWords (heardX 3 3 500 (helloBytes 6 9)))).serial ≠ State.reset.factory.serial ∧
      (helloOf (frameWords (heardX 3 3 500 (helloBytes 6 State.reset.factory.serial.toNat)))).serial = State.reset.factory.serial) ∧
    (wordAt (frameWords (heardX 3 4 500 (wordsBytes [8, 4]))) 1 = 4 ∧ wordAt (frameWords (heardX 3 4 500 (wordsBytes [8, 3]))) 1 ≠ 4) ∧
    ((onLane 1).addressed (heardX 3 6 500 []) = true ∧
      (onLane 1).addressed (({ frameOf 3 6 [] with dest := some 9 } : Frame).onLine .a .x 500) = false) ∧
    (announcing.HearsFrame .a (heardX 3 0x0E 800000 []) 0x0E ∧
      (let c := announcing.heardFrame (heardX 3 0x0E 800000 [])
       c.sync.isOwl = true ∧ c.sync.compiled = false ∧ c.sync.switchAt = 0 ∧
        c.schedule = some { (default : Schedule) with ioNodes := [4], imageKeys := [] } ∧ (heardX 3 0x0E 800000 []).origin / 2 = 4)) := by
  refine ⟨fun kind hk ps hp => ⟨?_, ?_⟩, by decide +kernel, by decide +kernel, by decide +kernel, by decide +kernel,
    hears (by decide) (by decide) (by decide) (by decide) (by decide +kernel) (by decide) (by decide) rfl, by decide +kernel⟩
  · fin_cases hk <;> exact listens hp (by decide) rfl
  · have : (heardX 3 kind 500 ps).origin = 8 := onLine_origin _ _ _ _
    rw [this]
    decide

/-- R239: half of (500 − 100) − (350 − 300) ns is the delay of the link. -/
theorem test_delay : ((after (.delayResp .a (heardX 3 6 500 (wordsBytes [100, 300, 350]))) (one (onLane 1))).ch .a).sync.delayX = some 175 := by
  decide +kernel

theorem test_nbr : ((after (.hello .a (heardX 3 3 500 (helloBytes 8 1))) (one (onLane 1))).ch .a).frt.changed = true := by decide +kernel

/-- A node in SYNC whose link table holds these HELLOs; `x` is what its port X heard, `d` the digest of its image. -/
def discovered (d : BitVec 64) (x : Option (Nat × Port)) (hs : List Hello) : Chan :=
  { onLane 4 with
    image := some { img with schedule := some { (default : Schedule) with topology := d } }
    frt :=
      { up.frt with
        stable := 2, hellos := hs, portX := { (default : PortState) with optics := true, up := true, nbr := x } } }

/-- What ends discovery. -/
def settled (c : Chan) : Prop :=
  c.laneOpen = true ∧ c.frt.complete = false ∧ 2 ≤ c.frt.stable ∧ c.sync.st = 4 ∧ c.frt.hellos.all (fun h => h.st == 4) = true ∧
    c.linksKnown = true

theorem witness_DiscoveryEnds :
    (settled (discovered 0 none []) ∧ (discovered 0 none []).boot.unprog = false ∧ (discovered 0 none []).imageDigest = some 0 ∧
      (discovered 0 none []).beyond = false ∧ (discovered 0 none []).oneLetter = false ∧ (discovered 0 none []).sync.duplicated = [] ∧
      (discovered 0 none []).topologyDigest ≠ 0 ∧
      (discovered (discovered 0 none []).topologyDigest none []).topologyDigest = (discovered 0 none []).topologyDigest) ∧
    (let c := discovered 0 none [{ (default : Hello) with key := 8, st := 4 }]
     settled c ∧ c.imageDigest = some 0 ∧ c.beyond = true) ∧
    (let c := discovered 0 (some (8, .x)) [{ (default : Hello) with key := 8, st := 4, nbrX := some (6, .x) }]
     settled c ∧ c.beyond = false ∧ c.oneLetter = true) ∧
    (let c : Chan := { discovered 0 none [] with sync := { seen 4 with duplicated := [8] } }
     settled c ∧ c.beyond = false ∧ c.oneLetter = false ∧ c.sync.duplicated ≠ []) ∧
    (let c : Chan := { discovered 0 none [] with image := some img }
     settled c ∧ c.imageDigest = none) ∧
    (onLane 0).laneOpen = false ∧ (onLane 4).frt.stable < 2 := by
  refine ⟨?_, ?_, ?_, ?_, ?_, ?_, ?_⟩ <;> (try unfold settled) <;> decide +kernel

theorem test_discovery : ((after (.discoveryComplete .a) (one (discovered 0 none []))).ch .a).frt.cause = 1 ∧
    ((after (.discoveryComplete .a) (one (discovered (discovered 0 none []).topologyDigest none []))).ch .a).frt.ready = [6] := by
  decide +kernel

/-! ### Witnesses: claims, heartbeats on the lane, queues, vital messages -/

/-- A claim whose signatures verify under keys of exponent 1. -/
def claim0 : ClaimBlock :=
  { (default : ClaimBlock) with
    number := 7, claimant := 2, signed := [2], certified := [1], modulus := signer.modulus, exponent := signer.exponent
    signature := signedOver (sha256 [2]), certSignature := signedOver (sha256 [1]) }

/-- A node without an image that listens, alone in its vote or not. -/
def ioNode (inVote : BitVec 3) : Chan :=
  { onLane 1 with
    image := none, boot := { up.boot with unprog := true }, frt := { (onLane 1).frt with complete := true }
    vote := { up.vote with inVote := inVote } }

/-- A CLAIM of one part, and the node once it is heard. -/
def claimFrame : FrameRx := heardX 3 0x0D 500 (wordsBytes [0x00010000, 5])

def claimHeard (c : Chan) : Chan := (c.heardFrame claimFrame).relay claimFrame

theorem witness_LaneClaims :
    (∀ v, (ioNode v).HearsFrame .a claimFrame 0x0D) ∧ claimFrame.origin ≠ (ioNode 7).nodeKey ∧
    (claimHeard (ioNode 7)).addressed claimFrame = true ∧
    (claimHeard (ioNode 7)).addressed (({ frameOf 3 0x0D [] with dest := some 9 } : Frame).onLine .a .x 500) = false ∧
    (let w := (wordAt (frameWords claimFrame) 0).toNat
     ((claimHeard (ioNode 7)).fab.keepPart claimFrame.origin (bits w 15 0) (claimFrame.payload.drop 4)).claimText claimFrame.origin (bits w 31 16) =
      some (wordsBytes [5])) ∧
    (let f := heardX 3 0x0D 500 (wordsBytes [0x00020000, 5])
     let w := (wordAt (frameWords f) 0).toNat
     ((claimHeard (ioNode 7)).fab.keepPart f.origin (bits w 15 0) (f.payload.drop 4)).claimText f.origin (bits w 31 16) = none) ∧
    ((claimHeard (ioNode 7)).boot.unprog = true ∧ (claimHeard (ioNode 7)).split = false ∧ (claimHeard (ioNode 7)).frt.complete = true ∧
      claim0.topology = (claimHeard (ioNode 7)).frt.digest ∧ (claimHeard (ioNode 7)).fab.held = none) ∧
    (onLane 1).boot.unprog = false ∧
    ((claimHeard (ioNode 7)).votes .b = true ∧ ((claimHeard (ioNode 7)).fab.digests.get .b).map (fun e => e.2.2) = none) ∧
    ((claimHeard (ioNode 1)).votes .a = true ∧ (claimHeard (ioNode 1)).fab.claimed = false ∧
      (∀ x, (claimHeard (ioNode 1)).votes x = true → x = .a)) := by
  refine ⟨fun v => hears ?_ rfl rfl (by decide) ?_ (by decide) (by decide) rfl, by decide +kernel, by decide +kernel, by decide +kernel,
    by decide +kernel, by decide +kernel, by decide +kernel, by decide, by decide +kernel, by decide +kernel, by decide +kernel, ?_⟩
  · simp [Chan.laneOpen, Chan.laneLive, ioNode, onLane, seen, placed, up, Chan.live]
    decide
  · simp [Chan.inWindow, ioNode, onLane, seen]
  · intro x
    cases x <;> decide +kernel

/-- The claim's signatures: where the running firmware's device CA key is the exponent-1 key. -/
theorem witness_ClaimVerifies (c : Chan) (h : Config.deviceCa c.boot.fwDigest = (signer.modulus, signer.exponent)) :
    c.certOk claim0 = true ∧ claimSigned claim0 = true := by
  constructor
  · simp only [Chan.certOk, h, claim0]
    exact rsa_signedOver (sha256 [1])
  · simp only [claimSigned, claim0]
    exact rsa_signedOver (sha256 [2])

theorem witness_ClaimsAreCompared (d : BitVec 256) :
    up.TakesFrom .b (sent (.claim 7 2 d)) (.claim 7 2 d) ∧ (up.readFrom .b (sent (.claim 7 2 0))).fab.held = none ∧
    (let c : Chan := { ioNode 7 with fab := { (ioNode 7).fab with held := some claim0 } }
     c.votes .c = true ∧ Ch.c ≠ .a ∧ (c.fab.digests.get .c).map (fun e => e.2.2) = none) ∧
    (let c : Chan := { ioNode 3 with fab := { (ioNode 3).fab with held := some claim0, digests := ⟨none, some (7, 2, claimDigest claim0), none⟩ } }
     c.votes .a = true ∧ c.fab.claimed = false ∧
      ∀ x, c.votes x = true → x = .a ∨ (c.fab.digests.get x).map (fun e => e.2.2) = some (claimDigest claim0)) := by
  refine ⟨takes _ rfl (by decide) rfl, by decide +kernel, by decide, rfl, rfl, ?_⟩
  intro x
  cases x
  · exact fun _ => .inl rfl
  · exact fun _ => .inr rfl
  · intro h
    exact absurd h (by decide)

/-- A heartbeat of this node's key 7 on the lane, with a claim number. -/
def beatBytes (node claim : Nat) (rank : Nat) : List Byte :=
  wordsBytes [w32 (node * 2 ^ 16 + rank * 2 ^ 24), w32 claim, 0, 0, 1, 0, 0, 0]

def beatFrame (node claim rank : Nat) : FrameRx := heardX 3 0x0F 500 (beatBytes node claim rank)

/-- The node once the heartbeat is heard. -/
def beaten (c : Chan) (f : FrameRx) : Chan :=
  let b := beatOf (frameWords f)
  let c := (c.heardFrame f).relay f
  { c with fab := c.fab.noteClaim b.node (beatKey b) b.claim }

theorem witness_LaneBeats :
    (∀ ps : List Byte, ps.length ≤ 1008 → (onLane 1).HearsFrame .a (heardX 3 0x0F 500 ps) 0x0F) ∧
    (let d := beaten (onLane 1) (beatFrame 3 1 1)
     let b := beatOf (frameWords (beatFrame 3 1 1))
     d.beats = true ∧ d.fromPartner b = true ∧ d.part.pairing = false ∧ d.part.seqOk .lane b = true ∧ d.part.role = 1 ∧
      d.part.claim.toNat < b.claim.toNat) ∧
    (let d := beaten (onLane 1) (beatFrame 3 0 1)
     d.part.role = 1 ∧ (beatOf (frameWords (beatFrame 3 0 1))).claim.toNat ≤ d.part.claim.toNat) ∧
    (let d := beaten (onLane 1) (beatFrame 3 1 0)
     (beatOf (frameWords (beatFrame 3 1 0))).node = d.node ∧ (beatOf (frameWords (beatFrame 3 1 0))).rankBit = d.rankBit) ∧
    (beatOf (frameWords (beatFrame 9 1 1))).node ≠ (onLane 1).node ∧
    ({ (onLane 1) with boot := { up.boot with stopped := true } } : Chan).beats = false ∧
    (∀ ps : List Byte, ps.length ≤ 1008 → (onLane 1).HearsFrame .a (heardX 2 0x20 500 ps) 0x20) := by
  refine ⟨fun _ h => listens h (by decide) rfl, by decide +kernel, by decide +kernel, by decide +kernel, by decide +kernel, by decide,
    fun _ h => hears (by decide) (by decide) (by decide) h (by simp [Chan.inWindow, onLane, seen]) (by decide) (by decide) rfl⟩

/-- R300: a higher claim on the lane demotes the active unit. -/
theorem test_demote : ((after (.heartbeatFrame .a (beatFrame 3 1 1)) (one (onLane 1))).ch .a).part.role = 2 ∧
    ((after (.heartbeatFrame .a (beatFrame 3 0 1)) (one (onLane 1))).ch .a).part.role = 1 := by decide +kernel

theorem witness_QueueRanges :
    let r : Range := { cls := 2, level := some (.x, 0), free := 0, rebuilding := true }
    ({ up.qm with ranges := [r] } : Qm).range 2 (some (.x, 0)) = some r ∧ r.rebuilding = true ∧
    ({ up.qm with ranges := [{ r with rebuilding := false }] } : Qm).range 2 (some (.x, 0)) = some { r with rebuilding := false } := by
  decide

/-- A connection inbound to local 1 from local 2 of another node. -/
def conn0 (event : Bool) : Conn :=
  { (default : Conn) with inbound := true, event := event, src := 2, dst := 1, key := Tri.const 0x0102 }

def body0 : List Byte := wordsBytes [4, 0, 2, 1, 0xABCD]

/-- A message with SEQ 4 under that connection's key. -/
def message0 : List Byte := body0 ++ (hmacSha256 0x0102 body0).take 8

theorem message0_length : message0.length = 28 := by
  rw [message0, List.length_append, List.length_take, hmacSha256_length]
  rfl

/-- A node that listens on port X alone, with these connections, having received as given. -/
def connected (cs : List Conn) (ps : List (Nat × ConnRx)) : Chan :=
  { onLane 1 with
    image := some { img with conns := cs }
    frt := { (onLane 1).frt with portY := default }
    fab := { (onLane 1).fab with rx := ps } }

theorem hears_message (cs : List Conn) (ps : List (Nat × ConnRx)) (cls kind : Nat) (hc : cls < 4) (hk : kind < 64)
    (h : kindClass kind = some cls) : (connected cs ps).HearsFrame .a (heardX cls kind 500 message0) kind :=
  hears (by simp [Chan.laneOpen, Chan.laneLive, connected, onLane, seen, placed, up, Chan.live]; decide) rfl rfl
    (by rw [message0_length]; decide) (by simp [Chan.inWindow, connected, onLane, seen]) hc hk h

theorem connected_heard (cs : List Conn) (ps : List (Nat × ConnRx)) (f : FrameRx) (hf : f.port = .x) :
    ((connected cs ps).heardFrame f).relay f = (connected cs ps).heardFrame f := by
  refine relay_stays ?_
  rw [heardFrame_portUsed, hf]
  rfl

/-- What the clauses about a message ask of the node, and what they find. -/
theorem witness_MessagesAreChecked (cls kind : Nat) (e : Bool) :
    let f := heardX cls kind 500 message0
    let m := vmsgOf f.payload
    let c := ((connected [conn0 e] []).heardFrame f).relay f
    let seqAt := fun n => ((connected [conn0 e] [(0, { seq := some n, ts := 0, data := [] })]).heardFrame f).relay f
    f.origin ≠ (connected [conn0 e] []).nodeKey ∧
    (c.split = false ∧ c.addressed f = true ∧ c.holdsClaim = true ∧ c.fromHolder f = true) ∧
    (c.inboundOf e).filter (fun x => codeOk .a x.2 m) = [(0, conn0 e)] ∧
    [(0, conn0 e)].find? (fun x => x.2.dst == m.dst && x.2.src == m.src) = some (0, conn0 e) ∧
    [(0, { conn0 e with dst := 9 })].find? (fun x => x.2.dst == m.dst && x.2.src == m.src) = none ∧
    codeOk .a { conn0 e with dst := 9 } m = true ∧
    (((connected [] []).heardFrame f).relay f).inboundOf e = [] ∧
    m.seq = 4 ∧ (c.fab.rxOf 0).seq = none ∧ ((seqAt 3).fab.rxOf 0).seq = some 3 ∧ ((seqAt 4).fab.rxOf 0).seq = some 4 := by
  intro f m c seqAt
  have hcode : ∀ d : Conn, d.key = Tri.const 0x0102 → codeOk .a d m = true := by
    intro d hd
    have := codeOk_made .a d body0
    rw [hd] at this
    exact this
  have h8 : ((hmacSha256 0x0102 body0).take 8).length = 8 := by
    rw [List.length_take, hmacSha256_length]
    rfl
  have hm : m = { vmsgOf (body0 ++ List.replicate 8 0) with code := (hmacSha256 0x0102 body0).take 8 } := vmsgOf_code _ _ h8
  have hs : m.seq = 4 := by rw [hm]; decide +kernel
  have hsrc : m.src = 2 := by rw [hm]; decide +kernel
  have hdst : m.dst = 1 := by rw [hm]; decide +kernel
  have hh : ∀ cs ps, ((connected cs ps).heardFrame f).relay f = (connected cs ps).heardFrame f := fun cs ps => connected_heard cs ps f rfl
  have hb : f.bcast = true := onLine_bcast _ _ _ _
  have ho : f.origin = 8 := onLine_origin _ _ _ _
  refine ⟨?_, ⟨?_, ?_, ?_, ?_⟩, ?_, ?_, ?_, hcode _ rfl, ?_, hs, ?_, ?_, ?_⟩
  · rw [ho]; cases e <;> decide
  · simp only [c, hh]
    show (connected [conn0 e] []).split = false
    cases e <;> decide
  · simp [Chan.addressed, hb]
  · simp only [c, hh]; rfl
  · simp only [c, hh]; rfl
  · have : c.inboundOf e = [(0, conn0 e)] := by simp only [c, hh]; cases e <;> rfl
    simp [this, hcode (conn0 e) rfl]
  · simp [hsrc, hdst, conn0]
  · simp [hsrc, hdst, conn0]
  · simp only [hh]; cases e <;> rfl
  · simp only [c, hh]; rfl
  · simp only [seqAt, hh]; rfl
  · simp only [seqAt, hh]; rfl

/-- Where this unit is not to read a message: it is the standby. -/
theorem witness_MessagesPassBy : ({ connected [conn0 false] [] with part := { up.part with role := 2 } } : Chan).holdsClaim = false := by
  decide

/-! ### Witnesses: the partner module -/

/-- A unit on the lane whose partner link numbers from 0, with this role and claim. -/
def unit (role sync phase : Nat) (claim : Word) : Chan :=
  { onLane 4 with part := { up.part with role := role, sync := sync, phase := phase, claim := claim } }

def standby (sync phase : Nat) : Chan := unit 2 sync phase 0

/-- A heartbeat of the partner: the other rank bit of this node. -/
def beat0 (role sync : Nat) (claim : Word) : Beat :=
  { (default : Beat) with node := 3, rankBit := true, role := role, sync := sync, claim := claim, hbSeq := 3, imageSeq := 5 }

theorem takes_unit {role sync phase : Nat} {claim : Word} (m : PMsg) : (unit role sync phase claim).TakesPartner (psent m) m :=
  takesP m (show placed.split = false by decide) (show 6 ≤ placed.boot.phase by decide) rfl rfl rfl

/-- The channel that has read a transfer of SEQ 0. -/
def read1 (c : Chan) : Chan := { c with part := { c.part with loop := true, rxSeq := 1 } }

theorem read_psent (c : Chan) (m : PMsg) : c.readPartner (psent m) = read1 c := by
  have h : (psent m).link.seq = 0 := of_seq _ _
  rw [Chan.readPartner, h]
  rfl

def partSet (ch : Ch) (lost higher : Bool) : PartnerSet := { (default : PartnerSet) with ch := ch, lost := lost, higher := higher }

/-- A channel that holds the three partner sets of an instant. -/
def paired (c : Chan) (lost higher : Bool) : Chan :=
  { c with din := { c.din with
      partSets := ⟨some (partSet .a lost higher), some (partSet .b lost higher), some (partSet .c false false)⟩ } }

theorem witness_PartnerIsWatched :
    ((onLane 4).live = true ∧ (onLane 4).beats = true ∧ (onLane 4).released = false ∧ (onLane 4).votes .a = true ∧
      (onLane 4).hbPeriodUs * 1 < (onLane 4).periodUs 1) ∧
    (let c : Chan := { standby 2 4 with part := { (standby 2 4).part with refused := [5] } }
     c.live = true ∧ c.beats = true ∧ c.released = false ∧ c.part.role = 2 ∧ 5 ∈ c.part.refused ∧ 5 ∉ c.part.asked) ∧
    (let c : Chan := { onLane 4 with released := true, part := { up.part with instant := 8 } }
     c.released = true ∧ c.periodUs 1 ≤ c.part.instant * c.hbPeriodUs) ∧
    ({ onLane 4 with seals := { up.seals with bootPos := 0x200 } } : Chan).beats = false := by decide

/-- The clauses about a heartbeat on X3. -/
theorem witness_BeatsAreTaken (b : Beat) :
    (unit 1 0 0 0).TakesPartner (psent (.heartbeat b)) (.heartbeat b) ∧ (unit 1 0 0 0).live = true ∧
    (let d := (unit 1 0 0 0).readPartner (psent (.heartbeat b))
     d.supply.powerFail = false ∧ d.fromPartner (default : Beat) = false ∧ d.fromPartner (beat0 2 2 0) = true ∧
      d.part.pairing = false ∧ d.part.seqOk .x3 (beat0 2 2 0) = true ∧ d.part.role = 1 ∧
      d.part.claim.toNat < (beat0 1 0 1).claim.toNat ∧ (beat0 2 2 0).claim.toNat ≤ d.part.claim.toNat) ∧
    (let c : Chan := { unit 1 0 0 0 with supply := { up.supply with powerFail := true } }
     c.TakesPartner (psent (.heartbeat b)) (.heartbeat b) ∧ (c.readPartner (psent (.heartbeat b))).supply.powerFail = true) ∧
    (let c : Chan := { unit 1 0 0 0 with part := { (unit 1 0 0 0).part with seqX3 := some 3 } }
     c.TakesPartner (psent (.heartbeat b)) (.heartbeat b) ∧
      (c.readPartner (psent (.heartbeat b))).part.seqOk .x3 (beat0 2 2 0) = false) ∧
    (let d := (standby 2 4).readPartner (psent (.heartbeat b))
     d.switchedAway { beat0 1 0 1 with imageSeq := 6 } = true ∧ d.part.role ≠ 1) :=
  ⟨takes_unit _, rfl, by simp only [read_psent]; decide, ⟨takesP _ (by decide) (by decide) rfl rfl rfl, rfl⟩,
    ⟨takesP _ (by decide) (by decide) rfl rfl rfl, by rw [read_psent]; decide⟩, by simp only [read_psent]; decide⟩

theorem witness_PartnerSetsAgree :
    (let c := paired (standby 2 0) true false
     c.live = true ∧ c.running = true ∧ c.statusOnly = false ∧ c.beats = true ∧ c.part.role = 2 ∧ c.released = false ∧
      c.din.partSets.get .a = some (partSet .a true false) ∧
      (takeValue ((c.countedPartner .a).map (fun k => k.lost)) false).1 = true) ∧
    (takeValue (((paired (standby 2 0) false false).countedPartner .a).map (fun k => k.lost)) false).1 = false ∧
    (let c := paired (onLane 4) true true
     c.part.role = 1 ∧ (takeValue ((c.countedPartner .a).map (fun k => k.higher)) Config.higherUnmatched).1 = true) ∧
    (let c := paired (onLane 4) true false
     (takeValue ((c.countedPartner .a).map (fun k => k.higher)) Config.higherUnmatched).1 = false ∧
      (takeValue ((c.countedPartner .a).map (fun k => k.lost)) false).1 = true ∧ c.part.lostCons = false) ∧
    (let c := paired (onLane 4) false false
     (takeValue ((c.countedPartner .a).map (fun k => k.higher)) Config.higherUnmatched).1 = false ∧
      (takeValue ((c.countedPartner .a).map (fun k => k.lost)) false).1 = false) ∧
    (onLane 4).din.partSets.get .a = none := by decide

/-- R304: a standby whose partner is lost takes over with a new epoch. -/
theorem test_partner_lost : ((after (.partnerAgreement .a) (one (paired (standby 2 0) true false))).ch .a).part.role = 1 ∧
    ((after (.partnerAgreement .a) (one (paired (standby 2 0) true false))).ch .a).nv.eSeen = 1 ∧
    ((after (.partnerAgreement .a) (one (paired (standby 2 0) false false))).ch .a).part.role = 2 := by decide +kernel

theorem test_demoted :
    let hb := fun (b : Beat) => Instr.heartbeat .a (psent (.heartbeat b)) b
    ((after (hb (beat0 1 0 1)) (one (unit 1 0 0 0))).ch .a).part.role = 2 ∧
    ((after (hb (beat0 1 0 0)) (one (unit 1 0 0 0))).ch .a).part.role = 1 := by decide +kernel

/-- R36: with the presence loop open a heartbeat is not taken. -/
theorem test_loop_open : ((after (.heartbeat .a { psent (.heartbeat (beat0 1 0 1)) with loop := false } (beat0 1 0 1)) (one (unit 1 0 0 0))).ch .a).part.role = 1 := by
  decide +kernel

def run0 : RunInput := { (default : RunInput) with mainCycle := 4, task := 0, taskCycle := 7 }

def replaying (role sync : Nat) (own ended : Option (BitVec 64)) : Chan :=
  let c := unit role sync 4 0
  { c with part := { c.part with backlog := [{ run := run0, own := own, ended := ended, before := none }] } }

theorem witness_StandbyFollows :
    (∀ m, (standby 2 4).TakesPartner (psent m) m) ∧ (standby 2 4).live = true ∧ (standby 2 4).running = true ∧
    (∀ m, ((onLane 4).readPartner (psent m)).part.role ≠ 2) ∧
    (∀ m, let c := (standby 1 2).readPartner (psent m)
      c.takesRuns = true ∧ c.follows = false) ∧
    (let c : Chan := { standby 2 4 with part := { (standby 2 4).part with refused := [5] } }
     c.takesRuns = true ∧ c.follows = true ∧ c.backlogFull 4 = false ∧ c.part.refused ≠ []) ∧
    (∀ m, let c := (standby 2 4).readPartner (psent m)
      c.takesRuns = true ∧ c.follows = true ∧ c.part.backlog = [] ∧ c.part.refused = [] ∧
        c.tasks.any (fun k => k.running) = false ∧ c.tasks.length = 8 ∧ c.part.outstanding 0 7 = false) ∧
    (run0.commands = [] ∧ run0.task < 8 ∧ run0.task ≠ 1) ∧
    ((replaying 2 2 none none).backlogFull 6 = true ∧ (replaying 2 2 none none).backlogFull 5 = false) ∧
    ((replaying 2 2 (some 1) none).part.runEnded 0 7 2).backlog.any Replay.differs = true ∧
    ((replaying 2 2 (some 1) none).part.runEnded 0 7 1).backlog.any Replay.differs = false ∧
    (let c := replaying 1 0 none none
     c.running = true ∧ c.part.role = 1 ∧ c.part.outstanding 0 7 = true) :=
  ⟨fun m => takes_unit m, rfl, rfl, fun m => by rw [read_psent]; decide, fun m => by simp only [read_psent]; decide, by decide,
    fun m => by simp only [read_psent]; decide, by decide, by decide, by decide, by decide, by decide⟩

/-- A twin's standby stage that hears a higher claim. -/
def twinned (role : Nat) : Chan :=
  let c := unit role 2 4 0
  { c with seals := { up.seals with bootPos := 0x803 }, part := { c.part with partnerClaim := 1 } }

/-- The clauses about CMD, DELTA_END and a switchover's cycle. -/
theorem witness_TwinsAndDeltas (m : PMsg) :
    (twinned 2).TakesPartner (psent m) m ∧
    (let c := (twinned 2).readPartner (psent m)
     (c.running = true ∧ c.statusOnly = false ∧ c.twin = true ∧ c.votes .a = true ∧ c.supply.powerFail = false) ∧
      c.takesRuns = true ∧ c.higher = true ∧ c.heldOff 5 = false ∧ c.nv.outCause 5 = 0 ∧ c.dout.sag.getLsbD (groupOf 5) = false ∧
      c.dout.needFresh.lookup 5 = none ∧ c.unclaimed = false ∧ c.part.refused = [] ∧ c.part.runsSince = 0) ∧
    (let c := (twinned 1).readPartner (psent m)
     c.running = true ∧ c.twin = true ∧ c.votes .a = true ∧ c.part.role = 1) ∧
    (let c := (standby 2 4).readPartner (psent m)
     c.twin = false ∧ c.takesRuns = true ∧ c.follows = true ∧ c.part.runsSince ≠ 3 ∧ c.running = true) ∧
    (let c := (standby 0 0).readPartner (psent m)
     c.takesRuns = false ∧ c.follows = false) :=
  ⟨takesP _ (by decide) (by decide) rfl rfl rfl, by simp only [read_psent]; decide, by simp only [read_psent]; decide,
    by simp only [read_psent]; decide, by simp only [read_psent]; decide⟩

/-- R310: a run whose digest differs loses the state with cause 4. -/
theorem test_run_end :
    let i := fun d => Instr.runEnd .a (psent (.runEnd 0 7 d)) 0 7 d
    ((after (i 2) (one (replaying 2 2 (some 1) none))).ch .a).part.cause = 4 ∧
    ((after (i 1) (one (replaying 2 2 (some 1) none))).ch .a).part.sync = 2 := by decide +kernel

theorem test_switch :
    ((after (.switchTransfer .a (psent (.switchAt 64)) 64) (one (standby 2 4))).ch .a).part.switchAt = 64 := by decide +kernel

/-- A standby without state that has heard the active. -/
def asking (b : Beat) : Chan :=
  { standby 0 0 with
    clock := 1000000000
    part := { (standby 0 0).part with beat := some b, commanded := true } }

theorem witness_StateIsAskedFor :
    (∀ n ∈ [5, 6], let b := { beat0 1 2 0 with fw := (asking (beat0 1 2 0)).boot.fwDigest.setWidth 32, imageSeq := n }
      (asking b).live = true ∧ (asking b).part.beat = some b ∧ (asking b).running = true ∧ (asking b).statusOnly = false ∧
        (asking b).votes .a = true ∧ (asking b).part.role = 2 ∧ (asking b).part.sync = 0 ∧ (asking b).part.commanded = true ∧
        b.role = 1 ∧ (asking b).past (asking b).part.since (bits ((asking b).act 0x1807) 15 8 * 1000000) = true) ∧
    (let b := { beat0 1 2 0 with fw := (asking (beat0 1 2 0)).boot.fwDigest.setWidth 32 }
     (asking b).sameImage b = true ∧ (asking b).sameImage { b with imageSeq := 6 } = false) ∧
    (standby 0 0).part.beat = none ∧
    (let c : Chan := { standby 1 1 with clock := 1000000000 }
     c.running = true ∧ c.transferring = true ∧ c.past c.part.since (bits (c.act 0x1807) 30 24 * 1000000) = true) ∧
    (standby 2 4).transferring = false ∧
    (let c := paired (standby 1 3) false false
     let d : Chan := { c with part := { c.part with commit := some (4, 0, 0), commitOwn := 0 } }
     d.receiving = true ∧ d.part.phase = 3 ∧ d.part.commit = some (4, 0, 0) ∧ d.part.commitOwn = 0 ∧
      2 ≤ ((d.countedPartner .a).filter (fun k => k.commit == (0 : BitVec 64))).length ∧ d.part.nextRun = none ∧
      d.part.commitOwn ≠ 1) := by
  decide

theorem witness_StateIsTransferred (x : XStateXfer) :
    (∀ m, (unit 1 0 0 0).TakesPartner (psent m) m ∧
      (let c := (unit 1 0 0 0).readPartner (psent m)
       c.running = true ∧ c.part.role = 1 ∧ c.votes .a = true ∧ c.exchAllows = true ∧ c.engineStopped 3 = false ∧
        c.transferring = false ∧ c.receiving = false ∧ c.keptTransfers.find? (fun q => q.1 == 5) = none)) ∧
    (let c : Chan := { unit 1 0 0 0 with mem := { up.mem with dma := List.replicate 4 { (default : Dma) with stopped := true } } }
     c.exchAllows = true ∧ c.engineStopped 3 = true) ∧
    ({ unit 1 0 0 0 with blocks := { up.blocks with exch := 3 } } : Chan).exchAllows = false ∧
    ({ unit 1 0 0 0 with pout := [(5, .runEnd 0 7 1)] } : Chan).keptTransfers.find? (fun q => q.1 == 5) = some (5, .runEnd 0 7 1) ∧
    (∀ m, (standby 1 1).TakesPartner (psent m) m ∧
      (let c := (standby 1 1).readPartner (psent m)
       c.running = true ∧ c.transferring = true ∧ c.receiving = true ∧ c.part.role ≠ 1 ∧ c.part.xstate = none ∧ c.xferMissing = 0 ∧
        0 = c.pagesInUse.length ∧ 1 ≠ c.pagesInUse.length)) ∧
    pageCrc [] ≠ pageCrc [] + 1 ∧
    (∀ m, let c : Chan := { standby 1 2 with part := { (standby 1 2).part with xstate := some x } }
      c.TakesPartner (psent m) m ∧ (c.readPartner (psent m)).receiving = true ∧
        (c.readPartner (psent m)).part.xstate = some x ∧ (c.readPartner (psent m)).xferMissing = 0) :=
  ⟨fun m => ⟨takes_unit m, by simp only [read_psent]; decide⟩, by decide, by decide, by decide,
    fun m => ⟨takes_unit m, by simp only [read_psent]; decide⟩, by decide +kernel,
    fun m => ⟨takesP _ (show placed.split = false by decide) (show 6 ≤ placed.boot.phase by decide) rfl rfl rfl, by rw [read_psent]; exact ⟨rfl, rfl, rfl⟩⟩⟩

/-- R305: the request asks for the state; R308: a transfer that lasts too long is abandoned with cause 8. -/
theorem test_xfer_request :
    let b := { beat0 1 2 0 with fw := (asking (beat0 1 2 0)).boot.fwDigest.setWidth 32 }
    ((after (.xferRequest .a) (one (asking b))).ch .a).part.sync = 1 ∧
    ((after (.xferTimeout .a) (one { standby 1 1 with clock := 1000000000 })).ch .a).part.cause = 8 := by decide +kernel

/-! ### Witnesses: memory, arbiter, self-test -/

/-- Before the page tables stand, addresses are physical. -/
def early (m : Mem) : Chan := { rising 2 with mem := m }

def desc0 : Descriptor := { src := 0x10000000, dst := 0x101C0004, len := 1, space := 0, check := false, fill := false }

/-- The clauses about a descriptor that is carried out, and about one that is not. -/
theorem witness_DmaMovesWhatItIsTold :
    (let c := early up.mem
     c.live = true ∧ descOk desc0 = true ∧ c.mem.dma.length = 4 ∧ (c.engine 3).stopped = false ∧
      (Chan.carryFrom .a .hx4096 3 desc0 (c.pieceFuel desc0) 0 c).2 = none ∧
      c.pieceAt .a .hx4096 desc0 0 = .ok ⟨0x10000000, 0x101C0004, 1⟩ ∧ c.lostIn .a .hx4096 ⟨0x10000000, 0x101C0004, 1⟩ = none ∧
      inTileStore 0x101C0004 = false) ∧
    (let c := early up.mem
     (Chan.carryFrom .a .hx4096 3 { desc0 with dst := 0x20000000 } (c.pieceFuel desc0) 0 c).2 = some (0, { cause := 4, addr := 0x20000000 }) ∧
      (Chan.carryFrom .a .hx4096 3 { desc0 with dst := 0x40000000 } (c.pieceFuel desc0) 0 c).2 =
        some (0, { cause := 2, addr := 0x40000000 })) ∧
    descOk { desc0 with len := 0x1000000 } = true ∧ descOk { desc0 with len := 0x1000001 } = false ∧
    (let c := early { up.mem with dma := up.mem.dma.set 3 { (default : Dma) with stopped := true } }
     c.mem.dma.length = 4 ∧ (c.engine 3).stopped = true ∧ (c.engine 3).queue = [] ∧ (c.engine 3).desc = none) ∧
    (let c := early { up.mem with dma := up.mem.dma.set 3 { (default : Dma) with stopped := true, desc := some desc0 } }
     (c.engine 3).desc = some desc0 ∧ (c.engine 3).queue = [] ∧
      (let c' : Chan := { c with
        mem := { c.mem with dma := modAt c.mem.dma 3 (fun q => { (default : Dma) with space := q.space, queue := q.queue }) } }
       (Chan.carryFrom .a .hx4096 3 desc0 (c'.pieceFuel desc0) (c.engine 3).offset c').2 = none)) := by
  decide +kernel

/-- R327: a descriptor into a region that has not been written stops with cause 2 and traps. -/
theorem test_dma_trap :
    let t := after (.dmaDescriptor .a 1 { desc0 with dst := 0x40000000 }) (one (early up.mem))
    (t.ch .a).mem.trap = true ∧ ((t.ch .a).engine 1).cause = 2 := by decide +kernel

theorem test_dma_copy :
    let s := one (early { up.mem with data := [(0x10000000, 0x5A)] })
    ((after (.dmaDescriptor .a 1 desc0) s).ch .a).mem.byte 0x101C0004 = 0x5A := by decide +kernel

/-- R82: engine 0 writes the tile store and the mark goes; engine 1 may not. -/
theorem test_dma_tiles :
    let d := { desc0 with src := 0x101C0000, dst := 0x10002000 }
    let s := one { early up.mem with tiles := { up.tiles with marks := [(2, .verified)] } }
    ((after (.dmaDescriptor .a 0 d) s).ch .a).tiles.mark 2 = .unverified ∧
    ((after (.dmaDescriptor .a 1 d) s).ch .a).tiles.mark 2 = .verified := by decide +kernel

/-- Page tables of space 1: page 0 read and write, page 1 with IO, page 2 not valid; a poisoned entry for page 3. -/
def mapped : Chan :=
  { up with
    mem :=
      { up.mem with
        marks := [0, 8]
        data :=
          [(0x40801000, 0x01), (0x40801001, 0x90), (0x40801002, 0x80), (0x40801003, 0x40), (0x40809000, 0x07), (0x40809003, 0x40),
            (0x40809004, 0x27), (0x40809005, 0x10), (0x40809007, 0x40)]
        check := [(0x4080900C, 0x18)] } }

theorem witness_FailedAccessesAct :
    (mapped.live = true ∧ mapped.mem.dma.length = 4 ∧ mapped.mem.wf = true ∧ mapped.translates = true ∧ mapped.running = true ∧
      mapped.votes .a = true) ∧
    (mapped.entryAt .a .hx4096 (rootTable 1 + 4 * (0x1234 % 2 ^ 32 / 2 ^ 22)) = .ok 0x40809001 ∧ pteValid 0x40809001 = true ∧
      mapped.entryAt .a .hx4096 (4096 * ppn 0x40809001 + 4 * (0x234 % 2 ^ 32 / 2 ^ 12 % 1024)) = .ok 0x40000007 ∧
      pteValid 0x40000007 = true ∧ pteAllows 0x40000007 .write = true ∧ pteAllows 0x40000007 .execute = false ∧
      pteIo 0x40000007 = false) ∧
    mapped.walk .a .hx4096 1 0x234 false .read = .ok 0x40000234 ∧ mapped.walk .a .hx4096 1 0x1234 true .write = .ok 0x40001234 ∧
    mapped.walk .a .hx4096 1 0x234 true .read = .error { cause := 1, addr := 0x234 } ∧
    mapped.walk .a .hx4096 1 0x2000 false .read = .error { cause := 1, addr := 0x2000 } ∧
    mapped.walk .a .hx4096 1 0x3000 false .read =
      .error { cause := 1, addr := 0x4080900C, lane := some 0x4080900C, poisoned := true } ∧
    mapped.walk .a .hx4096 2 0 true .read = .error { cause := 1, addr := 0 } ∧
    (rising 2).translates = false ∧ readsTranslated .scrubber = false := by decide +kernel

/-- The clauses about traps and read errors. -/
theorem witness_ReadsMeetErrors :
    (inDram .hx4096 0x40000000 = true ∧ (early up.mem).mem.marked .hx4096 0x40000000 = false ∧ 2 ≤ (early up.mem).boot.phase ∧
      (early up.mem).boot.phase ≠ 7) ∧
    (inDram .hx4096 0x5FFFFFFF = true ∧ mapped.mem.marked .hx4096 0x5FFFFFFF = false ∧ mapped.boot.phase = 7) ∧
    (inDram .hx4096 0x3FFFFFFF = false ∧ inDram .hx4096 0x60000000 = false ∧ mapped.mem.marked .hx4096 0x400FFFFF = true) ∧
    (listed .hx4096 0x10000000 = true ∧ listed .hx4096 0x63FFFFFF = true ∧ listed .hx4096 0 = false ∧
      listed .hx4096 0x64000000 = false) ∧
    readsLane (.atomic 0x8) 3 = true ∧ readsLane (.atomic 0x8) 2 = false ∧ readsLane .core 0 = true ∧
    inSram (0x10000000 / 4 * 4 + 3) = true ∧ inSram (0x40000000 / 4 * 4 + 0) = false ∧ (marked .verified).resolverTile 2 = some img := by
  decide +kernel

theorem test_init_trap : ((after (.initTrap .a .core 0x40000000) (one (rising 2))).ch .a).boot.stopped = true ∧
    ((after (.initTrap .a .core 0x40000000) (one up)).ch .a).votes .a = false := by decide +kernel

/-- R320: a poisoned entry withdraws the channel; one that does not allow the access aborts the core. -/
theorem test_walk :
    let t := fun va acc => (after (.translationFault .a .core 1 va acc) (one mapped)).ch .a
    (t 0 .write).mem.coreAbort = false ∧ (t 0 .execute).mem.coreAbort = true ∧ (t 0 .execute).votes .a = true ∧
    (t 0x3000 .read).votes .a = false := by decide +kernel

/-- One SRAM word with a sound, a correctable, an uncorrectable and a poisoned lane. -/
def scrubbed : Chan :=
  early { up.mem with data := [(0x10000000, 0x5A)], check := [(0x10000001, 1), (0x10000002, 3), (0x10000003, 0x18)] }

theorem witness_MemoryIsRepaired :
    (scrubbed.live = true ∧ scrubbed.boot.phase ≠ 0 ∧ scrubbed.mem.wf = true ∧ inSram scrubbed.mem.posSram = true ∧
      scrubbed.mem.posSram % 4 = 0 ∧ (List.range 4).map (fun k => scrubbed.kindAt .a .hx4096 (0x10000000 + k)) =
        [.sound, .corrected, .uncorrectable, .poisoned]) ∧
    (let c := early { up.mem with marks := [0], check := [(0x40000000, 3)] }
     nextDram c .hx4096 scrubFuel c.mem.posDram false = some (0x40000000, false) ∧
      laneBad (c.kindAt .a .hx4096 (c.nv.home 0x40000000)) = true) ∧
    (rising 0).boot.phase = 0 ∧
    (let c : Chan := { up with mem := { up.mem with ueDue := [(0x60000000, 3), (0x40000000, 0), (0x101C0000, 3)] } }
     c.mem.ueDue.contains (0x60000000 / 4 * 4, 3) = true ∧ (c.ueAct .a .hx4096 (c.nv.home 0x60000003)).2 = false ∧
      c.mem.ueDue.contains (0x40000000 / 4 * 4, 0) = true ∧ (c.ueAct .a .hx4096 (c.nv.home 0x40000000)).2 = true ∧
      c.running = true ∧ c.votes .a = true ∧ c.mem.ueDue.contains (0x60000000 / 4 * 4, 2) = false) := by decide +kernel

/-- Repeated corrections in page 5, a hard fault in page 6. -/
def worn : Chan :=
  { up with
    mem := { up.mem with hardPages := [6], check := [(0x40006000, 3)] }
    nv := { up.nv with corrections := [{ (default : Correction) with addr := 0x40005000, count := 255 }] } }

theorem witness_PagesAndBanksRetire :
    (inDram .hx4096 (0x40000000 + 4096 * 5) = true ∧ worn.nv.retiredPages.contains 5 = false ∧ worn.repeats 5 = true ∧
      worn.nv.freeSpare = some 0 ∧ worn.nv.retiredPages.length < 512 ∧
      worn.rangeBad .a .hx4096 (worn.nv.home (0x40000000 + 4096 * 5)) 4096 = false) ∧
    (worn.mem.hardPages.contains 6 = true ∧ worn.rangeBad .a .hx4096 (worn.nv.home (0x40000000 + 4096 * 6)) 4096 = true) ∧
    (let v : Nv := { worn.nv with retired := List.replicate 512 { (default : Retired) with valid := true, page := 7 } }
     512 ≤ v.retiredPages.length ∧ v.spareExh = false ∧ v.retiredPages.contains 5 = false) ∧
    worn.repeats 4 = false ∧
    (let c : Chan := { up with mem := { up.mem with ueSeen := [(49152, 0), (49153, 0), (49154, 0), (65535, 0)] } }
     bankInUse .hx4096 3 = true ∧ c.bankDue 3 = true ∧ c.mem.bankFault = false ∧ c.nv.freeBank .hx4096 = some 4 ∧
      c.nv.freeBank .hx1024 = none ∧ c.bankDue 2 = false) ∧
    bankInUse .hx4096 4 = false ∧ bankInUse .hx1024 2 = false := by decide +kernel

theorem test_page_retire : ((after (.pageRetire .a 5 1) (one worn)).ch .a).nv.retired.map (fun r => (r.page, r.cause, r.valid)) = [(5, 1, true)] ∧
    ((after (.pageRetire .a 6 2) (one worn)).ch .a).nv.retired = [] := by decide +kernel

theorem test_bank_retire :
    let c : Chan := { up with mem := { up.mem with ueSeen := [(49152, 0), (49153, 0), (49154, 0), (65535, 0)] } }
    ((after (.bankRetire .a 3) (one c)).ch .a).votes .a = false ∧ ((after (.bankRetire .a 3) (one c)).ch .b).votes .b = true := by
  decide +kernel

theorem witness_FlipsAreWritten :
    (let c := early { up.mem with arm := true, range := true, mask := 1, check := [(0x101C0005, 3)] }
     c.live = true ∧ c.mem.flipMatches .hx4096 .bist 0x101C0004 = true ∧ c.mem.marked .hx4096 0x101C0004 = true ∧
      inTileStore 0x101C0004 = false ∧ c.atomicLost .a .hx4096 .bist 0x101C0004 15 = none ∧
      c.atomicLost .a .hx4096 (.atomic 8) 0x101C0004 1 = none ∧
      c.atomicLost .a .hx4096 (.atomic 8) 0x101C0004 2 = some 0x101C0005 ∧
      c.mem.flipMatches .hx4096 (.atomic 8) 0x101C0004 = true ∧
      (c.mem.flipMatches .hx4096 .bist 0x40000000 = true ∧ c.mem.marked .hx4096 0x40000000 = false) ∧
      (c.mem.flipMatches .hx4096 (.core 8) 0x10000000 = true ∧ inTileStore 0x10000000 = true ∧ mayWriteTiles (.core 8) = false) ∧
      c.mem.flipMatches .hx4096 (.dma 0) 0x10000000 = false) ∧
    mayWriteTiles .bist = true ∧ up.mem.flipMatches .hx4096 .bist 0x101C0004 = false ∧
    up.immediateOk 0x0406 0x80000001 true = true ∧ up.immediateOk 0x0406 0x20000000 true = false ∧
    (0x20000000 : Word).getLsbD 29 = true := by decide +kernel

theorem test_flip : ((after (.memFlipWrite .a 0x80000001 true) (one up)).ch .a).mem.arm = true ∧
    ((after (.memFlipWrite .a 0xA0000001 true) (one up)).ch .a).mem.arm = false := by decide +kernel

/-- R325: an atomic operation on a lane it cannot read writes nothing; one beside that lane writes. -/
theorem test_atomic :
    let c := early { up.mem with arm := true, range := true, mask := 1, check := [(0x101C0005, 3)] }
    let t := fun lanes => (after (.flipApply .a (.atomic 8) 0x101C0004 lanes 0x00004433) (one c)).ch .a
    (t 2).mem.coreAbort = true ∧ (t 2).mem.data = [] ∧ (t 1).mem.coreAbort = false ∧ (t 1).mem.byte 0x101C0004 = 0x33 := by
  decide +kernel

/-- Table 17-3: entry 0 belongs to requester 0; requester 1 waits and is granted in the background. -/
theorem test_arbiter : ((after (.arbiterDecision .a 3) (one up)).ch .a).arb.holder = some 0 ∧
    ((after (.arbiterDecision .a 3) (one up)).ch .a).arb.boost = [0, 1, 0, 0, 0, 0, 0, 0] ∧
    ((after (.arbiterDecision .a 0x84) (one up)).ch .a).arb.holder = some 2 := by decide

theorem witness_ArbiterGrants : up.live = true ∧ (3 : BitVec 8).getLsbD (up.arb.slot.getD up.arb.entry 0) = true ∧
    (0x84 : BitVec 8).getLsbD (up.arb.slot.getD up.arb.entry 0) = false ∧ up.arb.effective 2 < up.arb.ceiling := by decide

theorem witness_ArbiterWritesCountNext :
    up.live = true ∧ up.immediateOk 0x0600 0x43105020 false = true ∧ up.immediateOk 0x060F 7 false = true ∧
    up.arb.slot.length = 64 ∧ up.arb.prio.length = 8 := by decide

theorem witness_ArbiterLimitsGrants :
    up.live = true ∧ up.arb.holder = none ∧ ({ up.arb with holder := some 7 } : Arb).holder = some 7 ∧
    up.immediateOk 0x0610 0x00000814 false = true ∧ up.immediateOk 0x0608 16 false = false ∧
    (up.arb.withSlot (0x0606 - 0x0600) 0).contains 7 = true ∧ (List.replicate 64 0).contains 7 = false ∧
    ({ up.arb with slot := List.replicate 64 0 }.withSlot (0x0600 - 0x0600) 0).contains 7 = false ∧
    up.immediateOk 0x0612 0 false = false := by decide

theorem test_hold_cut : ((after (.arbiterHoldCut .a) (one { up with arb := { up.arb with holder := some 7 } })).ch .a).arb.cut = 0x80 := by decide

/-- A channel in a round of self-test, as many slices done as given, waiting for a repetition or not. -/
def selfTest (done : Nat) (again : List (Nat × Nat × Nat)) : Chan :=
  { placed with bist := { up.bist with inRound := true, done := done, again := again }, released := true, mainCycle := 0 }

theorem witness_SelfTestTakesItsTurns :
    ((selfTest 0 []).live = true ∧ (selfTest 0 []).runsSlice .a 0 0 = true ∧ (selfTest 0 []).isForward 0 0 = false ∧
      (selfTest 0 []).runsSlice .a 0 1 = false) ∧
    ((selfTest ((selfTest 0 []).roundSlices - 1) []).bist.done + 1 = (selfTest ((selfTest 0 []).roundSlices - 1) []).roundSlices) ∧
    up.running = true ∧ up.supply.powerFail = false ∧ up.bist.inRound = false ∧ up.bist.rounds = 0 ∧ (selfTest 0 []).roundDue = false ∧
    (let c : Chan := { selfTest 0 [] with clock := 86400000000 }
     c.bist.inRound = true ∧ c.bist.late = false ∧ c.past c.bist.roundStart 86400000000 = true) ∧
    (selfTest 0 []).past (selfTest 0 []).bist.roundStart 86400000000 = false := by decide +kernel

/-! ### Witnesses: the host -/

/-- The packet CRC does not cover its own word. -/
def closed (opcode : Nat) (p : Pkt) : Pkt := { p with crc := Tri.const (packetCrc opcode p) }

theorem closed_crc (opcode : Nat) (p : Pkt) (x : Ch) : crcFails opcode (closed opcode p) x = false := by
  cases x <;> (simp [crcFails, closed, Tri.const, Tri.get]; rfl)

/-- A datagram of session 1 to every channel, addressed as the channels' reports say. -/
def pkt (ps : List Byte) : Pkt :=
  { addr := 0x0A000001, port := 1000, target := w32 (up.stat 0x1A00), dport := up.stat 0x1A03, magic := 0x5848
    length := ps.length, version := 1, reply := false, chmask := 7, session := 1, seq := 5, params := ps, crc := default, lost := 0 }

def session0 : Session := { (default : Session) with id := 1, addr := 0x0A000001, port := 1000, lastSeq := some 4 }

/-- A channel with one session open. -/
def served : Chan := { placed with host := { placed.host with sessions := [session0] } }

theorem accepts {c : Chan} {opcode : Nat} {ps : List Byte} (h1 : isOpcode opcode = true)
    (h2 : (one c).hears .a (pkt ps) = true) (h3 : discarded (pkt ps) .a = false)
    (h4 : c.admission (one c).sealActed opcode (pkt ps) = none) (h5 : c.boundSession (pkt ps) = some session0)
    (h6 : sizeFits opcode ps = true) : (one c).Accepts .a opcode (closed opcode (pkt ps)) :=
  { heard := h2
    crc := closed_crc _ _ _
    kept := h3
    listed := h1
    admitted := h4
    version := rfl
    session := .inr (.inr (.inr ⟨session0, h5, (by decide : session0.isNew 5 = true), (by decide : session0.waiting < 4)⟩))
    mask := fun _ => rfl
    size := h6 }

/-- A packet that the hub's queue of channel A has lost, a reply, and the packet of a session bound to another port. -/
theorem witness_PacketsAreChecked :
    (let p := pkt []
     (one served).hears .a p = true ∧ (one served).hears .a { p with lost := 1 } = false ∧
      (one served).hears .a { p with dport := 0 } = false ∧ discarded p .a = false ∧ discarded { p with reply := true } .a = true ∧
      discarded { p with length := 1 } .a = true ∧ discarded { p with chmask := 6 } .a = true ∧
      served.admission (one served).sealActed 5 p = none ∧ (rising 6).admission (one (rising 6)).sealActed 5 p = some 0x10 ∧
      served.admission true 5 p = some 0x11 ∧ served.boundSession p = some session0 ∧
      served.boundSession { p with port := 1001 } = none ∧ { p with version := 2 }.version ≠ 1) ∧
    crcFails 5 (pkt []) .a = true ∧ (∀ x, crcFails 5 (closed 5 (pkt [])) x = false) ∧
    (session0.isNew 5 = true ∧ session0.isNew 4 = false ∧ session0.isNew 3 = false ∧
      4 ≤ ({ session0 with waiting := 4 } : Session).waiting) ∧
    (let h := fun (r : Option Reply) => ({ seq := 4, crc := packetCrc 5 (pkt []), reply := r } : Heard)
     let r : Reply := (pkt []).replyOf .a 5 0 []
     ([h (some r)].find? (fun h => h.crc == packetCrc 5 (closed 5 (pkt []))) = some (h (some r)) ∧ r.ch = .a) ∧
      [h none].find? (fun h => h.crc == packetCrc 5 (closed 5 (pkt []))) = some (h none)) ∧
    session0.heard = [] ∧
    (served.isVital 0x0500 [] = true ∧ ({ pkt [] with chmask := 3 } : Pkt).chmask ≠ 7 ∧ served.isVital 5 [] = false ∧
      sizeFits 5 [1] = false ∧ sizeFits 5 [] = true) := by
  refine ⟨by decide +kernel, by decide +kernel, fun x => closed_crc _ _ _, by decide, by decide +kernel, rfl, by decide⟩

theorem test_nop :
    (after (.nop (closed 5 (pkt []))) (one served)).hub.replies.map (fun r => (r.ch, r.status)) = [(.a, 0), (.b, 0x30), (.c, 0x30)] := by
  decide +kernel

theorem witness_VitalCommandsAreListed :
    ((one served).Accepts .a 0x0800 (closed 0x0800 (pkt [])) ∧ served.isVital 0x0800 [] = true ∧ served.paramFault 0x0800 [] = none) ∧
    (let ps : List Byte := [0, 0, 0, 0, 3]
     (one served).Accepts .a 0x0208 (closed 0x0208 (pkt ps)) ∧ served.isVital 0x0208 ps = true ∧
      (served.paramFault 0x0208 ps).isSome = true) := by
  exact ⟨⟨accepts (by decide) (by decide) (by decide) (by decide) (by decide) (by decide), by decide, by decide⟩,
    accepts (by decide) (by decide) (by decide) (by decide) (by decide) (by decide), by decide, by decide +kernel⟩

/-- A channel in SPLIT mode with a session open, and a packet to it alone. -/
def lone : Chan := { served with seals := { up.seals with bootPos := 0x203, livePos := 0x203 } }

def pkt1 (ps : List Byte) : Pkt := { pkt ps with chmask := 1 }

theorem accepts1 {opcode : Nat} {ps : List Byte} (h1 : isOpcode opcode = true) (h2 : (one lone).hears .a (pkt1 ps) = true)
    (h3 : discarded (pkt1 ps) .a = false) (h4 : lone.admission (one lone).sealActed opcode (pkt1 ps) = none)
    (h5 : lone.boundSession (pkt1 ps) = some session0) (h6 : sizeFits opcode ps = true) (h7 : lone.isVital opcode ps = false) :
    (one lone).Accepts .a opcode (closed opcode (pkt1 ps)) :=
  { heard := h2
    crc := closed_crc _ _ _
    kept := h3
    listed := h1
    admitted := h4
    version := rfl
    session := .inr (.inr (.inr ⟨session0, h5, (by decide : session0.isNew 5 = true), (by decide : session0.waiting < 4)⟩))
    mask := fun h => by rw [show ((one lone).ch .a).isVital opcode (closed opcode (pkt1 ps)).params = false from h7] at h; exact absurd h (by decide)
    size := h6 }

/-- One entry of a CAL_WRITE: channel A, CAL.FEED.WARN, its least value 170. -/
def cal0 : List Byte := [1, 0, 0, 0, 0x01, 0x1C, 170, 0, 0, 0]

theorem witness_SplitCommandsAct :
    lone.split = true ∧ (one lone).Accepts .a 0x0303 (closed 0x0303 (pkt1 [])) ∧
    (lone.afterIntake 0x0303 (closed 0x0303 (pkt1 []))).exchVerify .a .hx4096 = none ∧
    (one lone).Accepts .a 0x0304 (closed 0x0304 (pkt1 [])) ∧
    (lone.afterIntake 0x0304 (closed 0x0304 (pkt1 []))).exchAbort = none ∧
    (one lone).Accepts .a 0x0701 (closed 0x0701 (pkt1 cal0)) ∧ lone.paramFault 0x0701 cal0 = none :=
  ⟨by decide, accepts1 (by decide) (by decide) (by decide) (by decide) (by decide) (by decide) (by decide), by decide +kernel,
    accepts1 (by decide) (by decide) (by decide) (by decide) (by decide) (by decide) (by decide), by decide +kernel,
    accepts1 (by decide) (by decide) (by decide) (by decide) (by decide) (by decide) (by decide), by decide +kernel⟩

theorem exchVerify_judges {c : Chan} {me : Ch} {v : Variant} {k : Container} {old : Image} (h1 : c.blocks.exch = 1)
    (h2 : c.blocks.staged = some k) (h3 : c.image = some old) : (c.exchVerify me v).isSome = true := by
  unfold Chan.exchVerify
  rw [h1, h2, h3]
  dsimp only
  split
  · split <;> rfl
  · simp_all

/-- Exchanges that stand so that SPLIT mode verifies, or ends, them. -/
theorem witness_SplitExchanges :
    (let c : Chan := { lone with blocks := { lone.blocks with exch := 1, staged := some application }, image := some img }
     ((c.afterIntake 0x0303 (closed 0x0303 (pkt1 []))).exchVerify .a .hx4096).isSome = true) ∧
    (let c : Chan := { lone with blocks := { lone.blocks with exch := 3 } }
     ((c.afterIntake 0x0304 (closed 0x0304 (pkt1 []))).exchAbort).isSome = true) := by
  refine ⟨exchVerify_judges (k := application) (old := img) ?_ ?_ ?_, by decide +kernel⟩
  · decide +kernel
  · rfl
  · rfl

theorem witness_SessionsOpenAndClose :
    ((one served).Accepts .a 1 (closed 1 (pkt [])) ∧ (one served).Accepts .a 2 (closed 2 (pkt [])) ∧
      (one served).Accepts .a 3 (closed 3 (pkt [])) ∧ (one served).Accepts .a 4 (closed 4 (pkt [])) ∧
      (one served).Accepts .a 5 (closed 5 (pkt [])) ∧ (one served).Accepts .a 0x050A (closed 0x050A (pkt [1])) ∧
      (one served).Accepts .a 0x050A (closed 0x050A (pkt [2]))) ∧
    (let ps : List Byte := [1, 0, 0x06, 0x04, 0, 0, 0, 0, 0, 0]
     (one served).Accepts .a 0x0102 (closed 0x0102 (pkt ps)) ∧ served.paramFault 0x0102 ps = none ∧ served.isVital 0x0102 ps = false) ∧
    (let ps : List Byte := [1, 0, 0x00, 0x05, 0, 0, 2, 0, 0, 0]
     served.isVital 0x0102 ps = true) ∧
    fieldAt (pkt [1]).params 0 1 < 2 ∧ 2 ≤ fieldAt (pkt [2]).params 0 1 ∧
    served.host.freeId = some 2 ∧ ({ up.host with sessions := [1, 2, 3, 4, 5, 6, 7, 8].map (fun n => { session0 with id := n }) } : HostState).freeId = none ∧
    isOpcode 0x0006 = false ∧ served.admission (one served).sealActed 0x0006 (closed 0x0006 (pkt [])) = none := by
  refine ⟨⟨?_, ?_, ?_, ?_, ?_, ?_, ?_⟩, ⟨?_, ?_, ?_⟩, ?_, ?_, ?_, ?_, ?_, ?_, ?_⟩ <;>
    first
      | exact accepts (by decide +kernel) (by decide +kernel) (by decide +kernel) (by decide +kernel) (by decide +kernel) (by decide +kernel)
      | decide +kernel

/-- The clauses about the time of a session, and about ARP and echoes. -/
theorem witness_SessionsExpire :
    (let c : Chan := { served with clock := 10000000000 }
     c.live = true ∧ c.host.session 1 = some session0 ∧ c.past session0.lastAt (c.stat 0x1A04 * 1000000) = true) ∧
    served.past session0.lastAt (served.stat 0x1A04 * 1000000) = false ∧ served.host.session 2 = none ∧ session0.prepare = none ∧
    (let k : Prepare := { (default : Prepare) with opcode := 0x0201 }
     let c := fun (offset : Nat) => ({ served with din := { up.din with mainCycle := 468, offset := offset } } : Chan)
     30000000 < (c 48001).elapsedUs k ∧ (c 48000).elapsedUs k ≤ 30000000 ∧
      ({ session0 with prepare := some k } : Session).prepare = some k) ∧
    (one served).hub.alive = true ∧ (one served).hostAddress = some [up.stat 0x1A00, up.stat 0x1A01, up.stat 0x1A02, up.stat 0x1A03] ∧
    (w32 (up.stat 0x1A00)).toNat = up.stat 0x1A00 ∧
    (List.replicate 9 5).filter (fun t => decide (100 < t + 1000)) = List.replicate 9 5 ∧
    10 ≤ ((List.replicate 10 5).filter (fun t => decide (1004 < t + 1000))).length ∧
    ((List.replicate 10 5).filter (fun t => decide (1005 < t + 1000))).length < 10 ∧
    (after .hostHubFailure (one served)).hub.alive = false ∧ State.reset.hostAddress = none := by decide +kernel

theorem test_open_session :
    ((after (.openSession (closed 3 (pkt []))) (one served)).ch .a).host.sessions.map (fun u => u.id) = [1, 2] ∧
    ((after (.closeSession (closed 4 (pkt []))) (one served)).ch .a).host.sessions = [] := by decide +kernel

/-- A packet of those that read and load, by its own bytes. -/
theorem witness_HostReadsAndLoads :
    ((one served).Accepts .a 0x0100 (closed 0x0100 (pkt [1, 0, 1, 0])) ∧ (one served).Accepts .a 0x0101 (closed 0x0101 (pkt [0, 0, 1, 0])) ∧
      (one served).Accepts .a 0x0700 (closed 0x0700 (pkt [1, 0x1C, 1, 0])) ∧
      (one served).Accepts .a 0x0300 (closed 0x0300 (pkt [1, 0, 0, 16, 0, 0])) ∧
      (one served).Accepts .a 0x0301 (closed 0x0301 (pkt [0, 0, 0, 0, 1, 0, 0x42])) ∧
      (one served).Accepts .a 0x0302 (closed 0x0302 (pkt [])) ∧ (one served).Accepts .a 0x0400 (closed 0x0400 (pkt [])) ∧
      (one served).Accepts .a 0x0401 (closed 0x0401 (pkt [])) ∧ (one served).Accepts .a 0x0402 (closed 0x0402 (pkt [0, 16])) ∧
      (one served).Accepts .a 0x0403 (closed 0x0403 (pkt [])) ∧ (one served).Accepts .a 0x0506 (closed 0x0506 (pkt [9, 0, 0, 0])) ∧
      (one served).Accepts .a 0x0600 (closed 0x0600 (pkt (List.replicate 32 7))) ∧
      (one served).Accepts .a 0x0601 (closed 0x0601 (pkt [0])) ∧ (one served).Accepts .a 0x0603 (closed 0x0603 (pkt [0])) ∧
      (one served).Accepts .a 0x0602 (closed 0x0602 (pkt (List.replicate 424 0)))) ∧
    ((paramRow 1).isSome = true ∧ (paramRow 0x1C01).isSome = true ∧ (paramRow 0x1BFF).isNone = true) ∧
    (served.loadBarred 1 = false ∧ ({ served with blocks := { up.blocks with exch := 2 } } : Chan).loadBarred 2 = true ∧
      largestLoad 1 < 8388609 ∧ fieldAt [1, 0, 0, 0, 128, 0] 2 4 ≤ largestLoad 1) ∧
    (served.snapOf 1 = none ∧ ({ served with host := { served.host with sessions := [{ session0 with snap := some served.nv.openSnap }] } }
      : Chan).snapOf 1 = some served.nv.openSnap) ∧
    (let r : TagResult := { (default : TagResult) with tag := 9 }
     [r].find? (fun r => r.tag == fieldAt [9, 0, 0, 0] 0 4) = some r ∧
      served.host.results.find? (fun r => r.tag == fieldAt [9, 0, 0, 0] 0 4) = none) ∧
    served.boot.phase = 7 ∧ served.keyEnrol = false ∧ (served.nv.keys[3]?).isSome = true ∧ served.nv.keys[4]? = none := by
  refine ⟨⟨?_, ?_, ?_, ?_, ?_, ?_, ?_, ?_, ?_, ?_, ?_, ?_, ?_, ?_, ?_⟩, ?_, ?_, ?_, ?_, ?_, ?_, ?_, ?_⟩ <;>
    first
      | exact accepts (by decide +kernel) (by decide +kernel) (by decide +kernel) (by decide +kernel) (by decide +kernel) (by decide +kernel)
      | decide +kernel

theorem test_load_begin :
    let t := after (.loadBegin (closed 0x0300 (pkt [1, 0, 0, 16, 0, 0]))) (one served)
    (t.ch .a).load.busy = true ∧ (t.ch .a).load.size = 0x1000 := by decide +kernel

/-! ### A container as its bytes spell it (R411, R413, R414) -/

theorem tabGet_enumerated {α : Type} (b : List α) (o k : Nat) :
    tabGet ((b.zipIdx o).map (fun e => (e.2, e.1))) (o + k) = b[k]? := by
  induction b generalizing o k with
  | nil => rfl
  | cons x xs ih =>
    simp only [tabGet, List.zipIdx_cons, List.map_cons, List.lookup]
    cases k with
    | zero => simp
    | succ k =>
      have h := ih (o + 1) k
      rw [tabGet, Nat.add_right_comm, Nat.add_assoc] at h
      rw [show (o + (k + 1) == o) = false from by simp]
      simpa using h

/-- A load of these bytes, all written. -/
def loaded (b : List Byte) (kind : Nat) : Load :=
  { (default : Load) with busy := true, kind := kind, size := b.length, session := 1, bytes := b.zipIdx.map (fun e => (e.2, e.1)) }

theorem loaded_missing (b : List Byte) (kind : Nat) : (loaded b kind).missing = none := by
  simp only [Load.missing, loaded, List.find?_eq_none, List.mem_range]
  intro k hk
  have h := tabGet_enumerated b 0 k
  rw [Nat.zero_add] at h
  rw [h, List.getElem?_eq_getElem hk]
  simp

theorem loaded_image (b : List Byte) (kind : Nat) : (loaded b kind).image = b := by
  simp only [Load.image, loaded]
  apply List.ext_getElem?
  intro k
  have h := tabGet_enumerated b 0 k
  rw [Nat.zero_add] at h
  by_cases hk : k < b.length
  · simp [h, hk]
  · simp [hk]

/-- The signed part of a firmware container of four empty sections, for hardware revision 2, and its KEY_ID and ALG. -/
def shell : List Byte :=
  [0x42, 0x52, 0x4E, 0x4B, 1, 0, 1, 0xFF, 0x00, 0x12, 0, 0, 4, 0, 0, 0] ++ List.replicate 10 0 ++ [0xFF, 0, 2, 0] ++
    List.replicate 34 0 ++
    [1, 2, 3, 4].flatMap (fun k => [k, 0, 0, 0, 0, 0x10, 0, 0, 0, 0, 0, 0, 0, 0, 0, 0]) ++ List.replicate 3968 0 ++
    List.replicate 8 0 ++ [1, 0] ++ List.replicate 118 0

/-- That container signed under the key of exponent 1. -/
def built : List Byte := shell ++ pssEncode (digestBytes (sha256Vec shell))

theorem shell_length : shell.length = 4224 := by decide +kernel

theorem built_length : built.length = 4608 := by
  rw [built, List.length_append, shell_length, (pss_encoded _).2]

theorem built_take : built.take 4224 = shell := by
  rw [built, ← shell_length, List.take_left]

theorem built_drop : built.drop 4224 = pssEncode (digestBytes (sha256Vec shell)) := by
  rw [built, ← shell_length, List.drop_left]

/-- A LOAD_END of a container that passes every check: where the boot ROM holds the exponent-1 key under KEY_ID 0. -/
theorem witness_LoadEnds (h : Config.romKey 0 = some (signer.modulus, signer.exponent)) :
    let c : Chan := { served with load := loaded built 1 }
    c.load.ownedBy 1 = true ∧ c.load.missing = none ∧
      c.loadFault .a (one served).factory (readContainer c.load.image c.load.size c.load.kind .a) = 0 := by
  refine ⟨rfl, loaded_missing _ _, ?_⟩
  show Chan.loadFault _ .a _ (readContainer (loaded built 1).image (loaded built 1).size 1 .a) = 0
  rw [loaded_image, show (loaded built 1).size = built.length from rfl, built_length]
  have hf : formatFault built 4608 1 = 0 := by decide +kernel
  have hk : (BitVec.ofNat 64 (fieldAt built (4608 - 512) 8)) = 0 := by decide +kernel
  have hs : romVerifies (BitVec.ofNat 64 (fieldAt built (4608 - 512) 8)) (sha256Vec (built.take (4608 - 384)))
      (natOfBytesBE (built.drop (4608 - 384))) = true := by
    rw [hk, show 4608 - 384 = 4224 from rfl, built_take, built_drop, romVerifies, h]
    exact rsa_signed _
  have hw : ((List.range 8).map (fun k => fieldAt built (28 + 2 * k) 2)).filter (fun n => n != 0) = [2] := by decide +kernel
  have hkind : fieldAt built 6 1 = 1 := by decide +kernel
  simp only [Chan.loadFault, Container.fwSigned, Container.fwRuns, readContainer, hf, hs, hw, hkind]
  decide

/-- A LOAD_END of bytes that leave a gap, and of bytes that spell no container. -/
theorem witness_LoadEndsBadly :
    ({ loaded [1, 2] 1 with size := 3 } : Load).missing = some 2 ∧ (loaded [1, 2] 1).missing = none ∧
    (let c : Chan := { served with load := loaded [1, 2] 1 }
     c.loadFault .a (one served).factory (readContainer [1, 2] 2 1 .a) = 0x0501) := by
  refine ⟨by decide, by decide, by decide +kernel⟩

/-- A revocation of the last slot, in a channel that takes enrolments, and of a slot that there is none of. -/
theorem witness_KeyEnrols :
    ({ served with seals := { up.seals with bootPos := 0x403 } } : Chan).keyEnrol = true ∧
    (let q := fun (slot : Byte) => [slot, 2, 0, 0] ++ List.replicate 420 (0 : Byte)
     served.nv.enrolOk (q 3) (enrolledKey (q 3) 0) = true ∧ served.nv.enrolOk (q 4) (enrolledKey (q 4) 0) = false) := by
  refine ⟨by decide, by decide +kernel, by decide +kernel⟩

/-! ### Witnesses: agreed commands -/

/-- A channel with output 31 and group 2 latched, its outputs off and read low. -/
def latched : Chan :=
  { up with
    nv :=
      { up.nv with
        outFaults := up.nv.outFaults.set 31 { OutFault.none with cause := 2 }, groupLocked := 4, groupLsf := 4 } }

theorem witness_AgreedCommandsAct :
    ((up.task 7).fault = false ∧
      (({ up with tasks := up.tasks.set 7 { TaskState.idle with fault := true } } : Chan).task 7).fault = true) ∧
    (latched.nv.outFaults.length = 32 ∧ (latched.nv.outFault 31).cause ≠ 0 ∧ latched.causeGone 31 = true ∧
      (latched.nv.outFault 30).cause = 0) ∧
    (latched.nv.groupLocked.getLsbD 2 = true ∧ latched.groupLow 2 = true ∧ latched.nv.groupLsf.getLsbD 2 = true ∧
      latched.groupTested 2 = false ∧ latched.nv.groupLocked.getLsbD 3 = false) ∧
    ((one up).causeStands 5 = false ∧ (one up).hedgehog.st = 1 ∧ (one up).hedgehog.armTag ≠ some 5 ∧
      ({ (one up).hedgehog with st := 2 } : Hedgehog).st ≠ 1 ∧ ({ (one up).hedgehog with armTag := some 5 } : Hedgehog).armTag = some 5 ∧
      State.reset.causeStands 5 = true) ∧
    (fieldAt [0] 0 1 = (Ch.a).code ∧ fieldAt [1] 0 1 ≠ (Ch.a).code) ∧
    (up.blocks.exch ≠ 2 ∧ up.blocks.exch ≠ 3 ∧ up.blocks.exch ≠ 5 ∧ switchCycleOk 0 32 1 = true ∧ switchCycleOk 0 31 1 = false ∧
      switchCycleOk 0 65537 1 = false ∧ up.ratioBoth = 1) ∧
    (let c : Chan := { up with
      part := { up.part with role := 1, seen := true, loop := true, beat := some { (default : Beat) with role := 2, sync := 2 } } }
     c.part.role = 1 ∧ c.pathsLive = true ∧ c.blocks.exch ≠ 3 ∧ c.res.restart = false) ∧
    up.pathsLive = false ∧ (standby 0 0).part.role = 2 ∧ (standby 0 0).part.sync = 0 ∧ (standby 1 1).transferring = true ∧
    up.transferring = false ∧ (calEntries cal0).filter (fun e => e.1 == (Ch.a).code) ≠ [] ∧
    (calEntries cal0).filter (fun e => e.1 == (Ch.b).code) = [] := by decide +kernel

/-- The clauses about gates and plungers. -/
theorem witness_DoorCommandsAct :
    (let c := gated 0 0 0 false []
     ∃ g, c.doors.gates.find? (fun g => g.elem == 0x3000) = some g ∧ g.isolated = false ∧ g.lk1 = g.lk2) ∧
    (let c := gated 0 0 5 true []
     ∃ g, c.doors.gates.find? (fun g => g.elem == 0x3000) = some g ∧ g.isolated = true) ∧
    (gated 0 0 0 false []).doors.gates.find? (fun g => g.elem == 0x3001) = none ∧
    (let q : PlungerState := { (default : PlungerState) with elem := 9, latched := true }
     [q].find? (fun q => q.elem == 9) = some q ∧ q.operated = false ∧ ({ q with operated := true } : PlungerState).operated = true) :=
  ⟨⟨_, rfl, rfl, rfl⟩, ⟨_, rfl, rfl⟩, by decide, by decide⟩

/-- R202: a re-arm takes effect when no cause stands. -/
theorem test_rearm :
    let s : State := { one up with hedgehog := { (one up).hedgehog with copy1 := true, copy2 := true, st := 2 } }
    (s.effect .a 0x0205 [] 5 0 0).2.hedgehog.st = 1 := by decide +kernel

end Sys2Proof.Tests
end

/-! PROOFS. The vote-set digest (spec/06_triplex_voting.md R158): the register that takes a whole byte and then shifts
eight times computes what the serial register computes, which takes the byte's bits one at a time, top bit first. -/

namespace Sys2Proof.Proofs.VoteDigest

open Sys2Proof Sys2Proof.Machine

/-- The serial CRC-64 register of R158 takes one message bit. -/
def crc64Feed (r : BitVec 64) (bit : Bool) : BitVec 64 :=
  if r.getLsbD 63 != bit then (r <<< 1) ^^^ 0x42F0E1EBA9EA3693 else r <<< 1

/-- The serial register takes the first `n` bits of a byte, top bit first. -/
def crc64FeedBits (b : Byte) (r : BitVec 64) (n : Nat) : BitVec 64 :=
  (List.range n).foldl (fun r k => crc64Feed r (b.getLsbD (7 - k))) r

theorem crc64FeedBits_succ (b : Byte) (r : BitVec 64) (n : Nat) :
    crc64FeedBits b r (n + 1) = crc64Feed (crc64FeedBits b r n) (b.getLsbD (7 - n)) := by
  simp only [crc64FeedBits, List.range_succ, List.foldl_append, List.foldl_cons, List.foldl_nil]

/-- With `k` bits of a byte consumed, bit `7 - k` of it stands at the register's top. -/
theorem getLsbD_top_byteShifted (b : Byte) {k : Nat} (hk : k < 8) :
    (b.setWidth 64 <<< (56 + k)).getLsbD 63 = b.getLsbD (7 - k) := by
  have hidx : 63 - (56 + k) = 7 - k := by omega
  have hpos : ¬ 63 < 56 + k := by omega
  simp [hidx, hpos]

/-- A shift of the register that holds the pending message `m` feeds the top bit of `m` to the serial register, and leaves
the rest of `m` pending one place higher. -/
theorem crc64Bit_xor (r m : BitVec 64) :
    crc64Bit (r ^^^ m) = crc64Feed r (m.getLsbD 63) ^^^ (m <<< 1) := by
  have hshift : (r ^^^ m) <<< 1 = r <<< 1 ^^^ m <<< 1 := BitVec.shiftLeft_xor_distrib r m 1
  simp only [crc64Bit, crc64Feed, BitVec.getLsbD_xor, hshift]
  split
  · rw [BitVec.xor_assoc, BitVec.xor_comm (m <<< 1), BitVec.xor_assoc]
  · rfl

/-- After `n` shifts the byte's first `n` bits are in the serial register and the rest of it is still pending. -/
theorem crc64Bit_iterate_xor (b : Byte) (r : BitVec 64) {n : Nat} (hn : n ≤ 8) :
    crc64Bit^[n] (r ^^^ (b.setWidth 64 <<< 56)) = crc64FeedBits b r n ^^^ (b.setWidth 64 <<< (56 + n)) := by
  induction n with
  | zero => rfl
  | succ n ih =>
    rw [Function.iterate_succ_apply', ih (by omega), crc64Bit_xor, getLsbD_top_byteShifted b hn,
      ← crc64FeedBits_succ, ← BitVec.shiftLeft_add, Nat.add_assoc]

/-- The byte register is the serial register fed with the byte's eight bits, not reflected. -/
theorem crc64Byte_eq_feedBits (r : BitVec 64) (b : Byte) : crc64Byte r b = crc64FeedBits b r 8 := by
  have hbyte : crc64Byte r b = crc64Bit^[8] (r ^^^ (b.setWidth 64 <<< 56)) := rfl
  have hconsumed : b.setWidth 64 <<< (56 + 8) = 0#64 := BitVec.shiftLeft_eq_zero (by decide)
  rw [hbyte, crc64Bit_iterate_xor b r le_rfl, hconsumed, BitVec.xor_zero]

theorem crc64_nil : crc64 [] = 0 := rfl

theorem crc64_append_singleton (bs : List Byte) (b : Byte) : crc64 (bs ++ [b]) = crc64FeedBits b (crc64 bs) 8 := by
  rw [crc64, List.foldl_append, List.foldl_cons, List.foldl_nil, crc64Byte_eq_feedBits, crc64]

/-- Settles O9: the digest is `crc64` by definition, `crc64` starts at 0 and takes each further byte as the serial register
of R158 does, and its check value is computed. -/
theorem digestIsCrc64 : Obligations.DigestIsCrc64 := by
  unfold Obligations.DigestIsCrc64
  have hdigest : ∀ (c : Chan) (n outs : Nat), c.runDigest n outs = crc64 (c.digestBytes n outs) := fun _ _ _ => rfl
  have hcheck : crc64 [0x31, 0x32, 0x33, 0x34, 0x35, 0x36, 0x37, 0x38, 0x39] = 0x6C40DF5F0B497347 := by decide +kernel
  exact ⟨hdigest, crc64_nil, crc64_append_singleton, hcheck⟩

end Sys2Proof.Proofs.VoteDigest

/-! PROOFS. The memory arbiter (spec/12_memory_and_arbiter.md R337, R338): the rank by which a decision chooses among the
waiting requesters, what one decision does to the arbiter, and what a write of ARB.SLOT or ARB.PRIO leaves for the next one. -/

namespace Sys2Proof.Proofs.Arbiter

open Sys2Proof Sys2Proof.Machine

/-! ### The rank of the waiting requesters (R337) -/

/-- `r` is ranked over `q`: by effective priority, then by the longer wait, then by the lower index. -/
def Outranks (a : Arb) (r q : Nat) : Prop :=
  a.effective q < a.effective r ∨
    (a.effective q = a.effective r ∧
      (a.waited.getD q 0 < a.waited.getD r 0 ∨ (a.waited.getD q 0 = a.waited.getD r 0 ∧ r < q)))

section Rank

variable {a : Arb} {r q p : Nat} {waiting : BitVec 8}

theorem Outranks.trans (hrq : Outranks a r q) (hqp : Outranks a q p) : Outranks a r p := by
  unfold Outranks at *
  omega

theorem Outranks.effective_le (h : Outranks a r q) : a.effective q ≤ a.effective r := by
  unfold Outranks at h
  omega

theorem before_iff :
    a.before r q = true ↔
      a.effective q < a.effective r ∨ (a.effective r = a.effective q ∧ a.waited.getD q 0 < a.waited.getD r 0) := by
  simp only [Arb.before, Bool.or_eq_true, Bool.and_eq_true, decide_eq_true_eq, beq_iff_eq]

theorem outranks_of_before (h : a.before r q = true) : Outranks a r q := by
  rw [before_iff] at h
  unfold Outranks
  omega

/-- The search meets the lower index first and keeps it on a tie. -/
theorem outranks_of_not_before (h : ¬ a.before q r = true) (hlt : r < q) : Outranks a r q := by
  rw [before_iff] at h
  unfold Outranks
  omega

/-- The better of the requester found so far and the next one met. -/
def better (a : Arb) : Option Nat → Nat → Option Nat
  | none, r => some r
  | some q, r => if a.before r q then some r else some q

/-- The search of `Arb.best`, over the first `n` requesters. -/
def bestBelow (a : Arb) (waiting : BitVec 8) (n : Nat) : Option Nat :=
  ((List.range n).filter (fun r => waiting.getLsbD r)).foldl (better a) none

theorem best_eq_bestBelow (a : Arb) (waiting : BitVec 8) : a.best waiting = bestBelow a waiting 8 := by
  unfold Arb.best bestBelow
  congr 1
  funext b r
  cases b <;> rfl

theorem bestBelow_succ (a : Arb) (waiting : BitVec 8) (n : Nat) :
    bestBelow a waiting (n + 1) =
      if waiting.getLsbD n then better a (bestBelow a waiting n) n else bestBelow a waiting n := by
  unfold bestBelow
  rw [List.range_succ, List.filter_append, List.foldl_append]
  cases h : waiting.getLsbD n <;> simp [h]

/-- What a search of the first `n` requesters answers: a waiting one that outranks the other waiting ones, or none where
none waits. -/
def IsBest (a : Arb) (waiting : BitVec 8) (n : Nat) : Option Nat → Prop
  | none => ∀ q, q < n → waiting.getLsbD q = false
  | some r => r < n ∧ waiting.getLsbD r = true ∧ ∀ q, q < n → waiting.getLsbD q = true → q ≠ r → Outranks a r q

/-- A requester that does not wait changes nothing. -/
theorem IsBest.skip {n : Nat} {b : Option Nat} (h : IsBest a waiting n b) (hn : waiting.getLsbD n = false) :
    IsBest a waiting (n + 1) b := by
  cases b with
  | none =>
    intro q hq
    rcases Nat.lt_succ_iff_lt_or_eq.mp hq with hq | rfl
    · exact h q hq
    · exact hn
  | some r =>
    obtain ⟨hr, hw, hall⟩ := h
    refine ⟨by omega, hw, fun q hq hqw hne => ?_⟩
    rcases Nat.lt_succ_iff_lt_or_eq.mp hq with hq | rfl
    · exact hall q hq hqw hne
    · exact absurd hqw (by simp [hn])

/-- A waiting requester takes the place of one that it outranks, and so outranks all that this one did. -/
theorem IsBest.take {n : Nat} {b : Option Nat} (h : IsBest a waiting n b) (hn : waiting.getLsbD n = true) :
    IsBest a waiting (n + 1) (better a b n) := by
  cases b with
  | none =>
    refine ⟨Nat.lt_succ_self n, hn, fun q hq hqw hne => ?_⟩
    exact absurd hqw (by simp [h q (by omega)])
  | some r =>
    obtain ⟨hr, hw, hall⟩ := h
    simp only [better]
    split
    case isTrue hbefore =>
      have hnr : Outranks a n r := outranks_of_before hbefore
      refine ⟨Nat.lt_succ_self n, hn, fun q hq hqw hne => ?_⟩
      by_cases hqr : q = r
      · exact hqr ▸ hnr
      · exact hnr.trans (hall q (by omega) hqw hqr)
    case isFalse hbefore =>
      refine ⟨by omega, hw, fun q hq hqw hne => ?_⟩
      rcases Nat.lt_succ_iff_lt_or_eq.mp hq with hq | rfl
      · exact hall q hq hqw hne
      · exact outranks_of_not_before hbefore hr

theorem isBest_bestBelow (a : Arb) (waiting : BitVec 8) (n : Nat) : IsBest a waiting n (bestBelow a waiting n) := by
  induction n with
  | zero => exact fun q hq => absurd hq (Nat.not_lt_zero q)
  | succ n ih =>
    rw [bestBelow_succ]
    split
    case isTrue hn => exact ih.take hn
    case isFalse hn => exact ih.skip (by simpa using hn)

theorem isBest_best (a : Arb) (waiting : BitVec 8) : IsBest a waiting 8 (a.best waiting) := by
  rw [best_eq_bestBelow]
  exact isBest_bestBelow a waiting 8

/-! ### The requester granted (R337) -/

/-- The owner of the slot-table entry that the next decision takes. -/
abbrev owner (a : Arb) : Nat := a.slot.getD a.entry 0

theorem granted_of_owner_waiting (h : waiting.getLsbD (owner a) = true) : a.granted waiting = some (owner a) := by
  simp only [Arb.granted, h, if_true]

theorem granted_of_owner_idle (h : waiting.getLsbD (owner a) = false) : a.granted waiting = a.best waiting := by
  simp only [Arb.granted, h, Bool.false_eq_true, if_false]

/-- In the background the grant goes to the waiting requester that outranks every other one. -/
theorem granted_outranks (hidle : waiting.getLsbD (owner a) = false) (hr : a.granted waiting = some r) :
    waiting.getLsbD r = true ∧ ∀ q, waiting.getLsbD q = true → q ≠ r → Outranks a r q := by
  have hbest := isBest_best a waiting
  rw [← granted_of_owner_idle hidle, hr] at hbest
  obtain ⟨-, hw, hall⟩ := hbest
  exact ⟨hw, fun q hq => hall q (BitVec.lt_of_getLsbD hq) hq⟩

/-- A decision grants nothing exactly where no requester waits. -/
theorem granted_eq_none_iff : a.granted waiting = none ↔ waiting = 0 := by
  constructor
  · intro hnone
    have hidle : waiting.getLsbD (owner a) = false := by
      rw [← Bool.not_eq_true]
      intro h
      rw [granted_of_owner_waiting h] at hnone
      exact absurd hnone (Option.some_ne_none _)
    have hbest := isBest_best a waiting
    rw [← granted_of_owner_idle hidle, hnone] at hbest
    exact BitVec.eq_of_getLsbD_eq fun q hq => by rw [hbest q hq]; simp
  · rintro rfl
    rw [granted_of_owner_idle (by simp)]
    rfl

end Rank

/-! ### One decision (R337) -/

section Step

variable (a : Arb) (waiting : BitVec 8) (draw : Nat)

@[simp] theorem step_entry : (a.step waiting draw).entry = (a.entry + 1) % 64 := rfl
@[simp] theorem step_slot : (a.step waiting draw).slot = a.slot := rfl
@[simp] theorem step_prio : (a.step waiting draw).prio = a.prio := rfl
@[simp] theorem step_holder : (a.step waiting draw).holder = a.granted waiting := rfl

theorem step_boost {r : Nat} (hr : r < 8) :
    (a.step waiting draw).boost.getD r 0 = a.nextBoost waiting (a.granted waiting) r := by
  simp [Arb.step, hr]

end Step

section Boost

variable {a : Arb} {r : Nat} {waiting : BitVec 8}

theorem nextBoost_granted : a.nextBoost waiting (some r) r = 0 := by
  simp [Arb.nextBoost]

theorem nextBoost_raised {g : Option Nat} (hg : g ≠ some r) (hw : waiting.getLsbD r = true)
    (hlt : a.effective r < a.ceiling) : a.nextBoost waiting g r = a.boost.getD r 0 + 1 := by
  simp [Arb.nextBoost, hg, hw, hlt]

theorem nextBoost_kept {g : Option Nat} (hg : g ≠ some r)
    (h : waiting.getLsbD r = false ∨ a.ceiling ≤ a.effective r) : a.nextBoost waiting g r = a.boost.getD r 0 := by
  rcases h with hw | hle
  · simp [Arb.nextBoost, hg, hw]
  · simp [Arb.nextBoost, hg, Nat.not_lt.mpr hle]

end Boost

/-- ARBITER_DECISION at a channel that executes is one step of its arbiter. -/
theorem exec_arbiterDecision {s : State} {ch : Ch} (waiting : BitVec 8) (hlive : (s.ch ch).live = true) :
    ∃ t, exec (.arbiterDecision ch waiting) s = .next t ∧ s.OnlyAt t ch ∧
      (t.ch ch).arb = (s.ch ch).arb.step waiting s.draws := by
  refine ⟨_, rfl, (State.OnlyAt.drawn s ch).trans (.onLive _ _ _), ?_⟩
  have hdrawn : (s.drawn.ch ch).live = true := hlive
  rw [State.onLive_eq _ hdrawn, State.put_ch, State.drawn_ch]

/-- Settles O52: the decision is one step of the arbiter, its grant is the owner or the one that outranks the others. -/
theorem arbiterGrants : Obligations.ArbiterGrants := by
  unfold Obligations.ArbiterGrants
  intro s ch waiting hlive a _
  obtain ⟨t, hexec, honly, harb⟩ := exec_arbiterDecision waiting hlive
  refine ⟨t, hexec, honly, ?_⟩
  rw [harb, step_entry, step_slot, step_prio, step_holder]
  refine ⟨rfl, rfl, rfl, granted_of_owner_waiting, fun hidle _ hr => granted_outranks hidle hr,
    mt granted_eq_none_iff.mp, granted_eq_none_iff.mpr, fun r hr => ?_⟩
  rw [step_boost _ _ _ hr]
  refine ⟨fun hg => ?_, nextBoost_raised, nextBoost_kept⟩
  rw [hg]
  exact nextBoost_granted

/-! ### Writes of ARB.SLOT and ARB.PRIO (R338) -/

theorem slotOwners_getD (w : Word) {j : Nat} (hj : j < 8) :
    (slotOwners w).getD j 0 = bits w.toNat (4 * j + 2) (4 * j) := by
  simp [slotOwners, hj]

/-- A word of ARB.SLOT replaces its eight entries and no other. -/
theorem withSlot_getD (a : Arb) (w : Word) {j k : Nat} (hlen : a.slot.length = 64) (hj : j < 8) :
    (a.withSlot j w).getD k 0 =
      if k / 8 = j then bits w.toNat (4 * (k % 8) + 2) (4 * (k % 8)) else a.slot.getD k 0 := by
  have htake : (a.slot.take (8 * j)).length = 8 * j := by simp; omega
  have hmid : (a.slot.take (8 * j) ++ slotOwners w).length = 8 * j + 8 := by simp [slotOwners, htake]
  unfold Arb.withSlot
  rcases Nat.lt_or_ge k (8 * j) with hlow | hlow
  · rw [if_neg (by omega), List.getD_append _ _ _ _ (by omega), List.getD_append _ _ _ _ (by omega)]
    simp [List.getD_eq_getElem?_getD, hlow]
  rcases Nat.lt_or_ge k (8 * j + 8) with hin | hhigh
  · rw [if_pos (by omega), List.getD_append _ _ _ _ (by omega), List.getD_append_right _ _ _ _ (by omega), htake,
      slotOwners_getD w (by omega), show k - 8 * j = k % 8 by omega]
  · rw [if_neg (by omega), List.getD_append_right _ _ _ _ (by omega), hmid]
    simp [List.getD_eq_getElem?_getD, show 8 * j + 8 + (k - (8 * j + 8)) = k by omega]

theorem writeImmediate_slot (c : Chan) (w : Word) {n : Nat} (hlo : 0x0600 ≤ n) (hhi : n ≤ 0x0607) :
    c.writeImmediate n w = { c with arb := { c.arb with slot := c.arb.withSlot (n - 0x0600) w } } := by
  have hflip : n ≠ 0x0406 := by omega
  simp [Chan.writeImmediate, hflip, hlo, hhi]

theorem writeImmediate_prio (c : Chan) (w : Word) {n : Nat} (hlo : 0x0608 ≤ n) (hhi : n ≤ 0x060F) :
    c.writeImmediate n w = { c with arb := { c.arb with prio := c.arb.prio.set (n - 0x0608) (bits w.toNat 3 0) } } := by
  have hflip : n ≠ 0x0406 := by omega
  have hslot : ¬ n ≤ 0x0607 := by omega
  simp [Chan.writeImmediate, hflip, hlo, hhi, hslot]

/-- The slot table and the priorities after the word `w` is written under the number `n`: the entries and the priority that
`n` names come from `w`, the others are `a`'s. -/
structure Written (a : Arb) (n : Nat) (w : Word) (slot prio : List Nat) : Prop where
  prio : ∀ k, k < 8 → prio.getD k 0 = if n = 0x0608 + k then w.toNat % 16 else a.prio.getD k 0
  slot : ∀ k, k < 64 → slot.getD k 0 =
    if n = 0x0600 + k / 8 then bits w.toNat (4 * (k % 8) + 2) (4 * (k % 8)) else a.slot.getD k 0

theorem written_slot (a : Arb) (w : Word) {n : Nat} (hlo : 0x0600 ≤ n) (hhi : n ≤ 0x0607) (hlen : a.slot.length = 64) :
    Written a n w (a.withSlot (n - 0x0600) w) a.prio where
  prio k _ := (if_neg (by omega)).symm
  slot k _ := by
    rw [withSlot_getD a w hlen (by omega)]
    exact if_congr (by omega) rfl rfl

theorem written_prio (a : Arb) (w : Word) {n : Nat} (hlo : 0x0608 ≤ n) (hhi : n ≤ 0x060F) (hlen : a.prio.length = 8) :
    Written a n w a.slot (a.prio.set (n - 0x0608) (bits w.toNat 3 0)) where
  prio k hk := by
    by_cases hn : n = 0x0608 + k
    · have hidx : n - 0x0608 = k := by omega
      simp [hn, hlen, hk, bits, List.getD_eq_getElem?_getD]
    · have hidx : n - 0x0608 ≠ k := by omega
      simp [hn, hidx, List.getD_eq_getElem?_getD]
  slot k _ := (if_neg (by omega)).symm

/-- A write of ARB.SLOT or ARB.PRIO changes these two alone. -/
theorem writeImmediate_written (c : Chan) (w : Word) {n : Nat} (hlo : 0x0600 ≤ n) (hhi : n ≤ 0x060F)
    (hslot : c.arb.slot.length = 64) (hprio : c.arb.prio.length = 8) :
    ∃ slot prio, c.writeImmediate n w = { c with arb := { c.arb with slot := slot, prio := prio } } ∧
      Written c.arb n w slot prio := by
  rcases Nat.lt_or_ge n 0x0608 with hn | hn
  · exact ⟨_, _, writeImmediate_slot c w hlo (by omega), written_slot _ w hlo (by omega) hslot⟩
  · exact ⟨_, _, writeImmediate_prio c w hn hhi, written_prio _ w hn hhi hprio⟩

/-- ARB_PARAM_WRITE of an admitted word, at a channel that executes, is the immediate write in that channel. -/
theorem exec_arbParamWrite {s : State} {ch : Ch} {n : Nat} {w : Word} (hlive : (s.ch ch).live = true)
    (hlo : 0x0600 ≤ n) (hhi : n ≤ 0x0610) (hok : (s.ch ch).immediateOk n w false = true) :
    ∃ t, exec (.arbParamWrite ch n w) s = .next t ∧ s.OnlyAt t ch ∧ t.ch ch = (s.ch ch).writeImmediate n w := by
  refine ⟨_, rfl, .onLive _ _ _, ?_⟩
  rw [State.onLive_eq _ hlive, State.put_ch]
  simp [hlo, hhi, hok]

/-- Settles O53: the write leaves BOOST, the waits and the grant, and the next decision ranks by the state it finds. -/
theorem arbiterWritesCountNext : Obligations.ArbiterWritesCountNext := by
  unfold Obligations.ArbiterWritesCountNext
  intro s ch n w hlive hlo hhi hok hslot hprio a
  obtain ⟨slot, prio, hwrite, hwritten⟩ := writeImmediate_written (s.ch ch) w hlo hhi hslot hprio
  obtain ⟨t, hexec, honly, ht⟩ := exec_arbParamWrite hlive hlo (by omega) hok
  rw [hwrite] at ht
  have hlive' : (t.ch ch).live = true := by rw [ht]; exact hlive
  have hnext : ∀ waiting, ∃ u, exec (.arbiterDecision ch waiting) t = .next u ∧
      (u.ch ch).arb.holder = (t.ch ch).arb.granted waiting := fun waiting =>
    have ⟨u, hu, _, harb⟩ := exec_arbiterDecision waiting hlive'
    ⟨u, hu, by rw [harb, step_holder]⟩
  refine ⟨t, hexec, honly, ?_⟩
  rw [ht] at hnext ⊢
  refine ⟨rfl, rfl, rfl, rfl, rfl, hwritten.prio, hwritten.slot, fun _ _ => rfl, fun waiting => ?_⟩
  obtain ⟨u, hu, hholder⟩ := hnext waiting
  refine ⟨u, hu, ?_⟩
  rw [hholder]
  refine ⟨granted_of_owner_waiting, fun hidle r q hr hq => ?_⟩
  obtain ⟨-, hall⟩ := granted_outranks hidle hr
  rcases eq_or_ne q r with rfl | hne
  · exact le_rfl
  · exact (hall q hq hne).effective_le

end Sys2Proof.Proofs.Arbiter

/-! PROOFS. What a host packet does to the module (spec/15_host_commands.md R378, R380): each channel that hears it changes itself
and sends its own replies; nothing that the hub or another channel sees of it changes. -/

namespace Sys2Proof.Machine

open Sys2Proof

/-! ### One channel's share of a packet -/

/-- What the hub and the other channels see of a channel when a packet comes: whether it executes and has read its address, the
address it reports, whether it has acted on a seal change, its alive line. -/
def Chan.hubView (c : Chan) : Bool × Bool × List Nat × Bool × Bool :=
  (c.live, c.hostKnown, c.hostParams, c.seals.acted, c.safe.alive)

/-- A channel handles a packet: it changes itself but for what others see of it, and sends replies of its own. -/
structure State.HostStep (s t : State) (ch : Ch) : Prop where
  others : ∀ x, x ≠ ch → t.ch x = s.ch x
  view : (t.ch ch).hubView = (s.ch ch).hubView
  rest : t = { s with chans := t.chans, hub := { s.hub with replies := t.hub.replies }, draws := t.draws }
  replies : ∀ x, x ≠ ch → t.repliesOf x = s.repliesOf x

namespace State.HostStep

variable {s t u : State} {ch : Ch}

theorem refl (s : State) (ch : Ch) : s.HostStep s ch := ⟨fun _ _ => rfl, rfl, rfl, fun _ _ => rfl⟩

theorem trans (h : s.HostStep t ch) (k : t.HostStep u ch) : s.HostStep u ch where
  others x hx := (k.others x hx).trans (h.others x hx)
  view := k.view.trans h.view
  rest := by rw [k.rest, h.rest]
  replies x hx := (k.replies x hx).trans (h.replies x hx)

theorem put {c : Chan} (h : c.hubView = (s.ch ch).hubView) : s.HostStep (s.put ch c) ch where
  others x hx := State.put_ch_ne s c hx
  view := by rw [State.put_ch, h]
  rest := rfl
  replies _ _ := rfl

theorem mod {f : Chan → Chan} (h : (f (s.ch ch)).hubView = (s.ch ch).hubView) : s.HostStep (s.mod ch f) ch := put h

theorem drawn (s : State) (ch : Ch) : s.HostStep s.drawn ch := ⟨fun _ _ => rfl, rfl, rfl, fun _ _ => rfl⟩

theorem hedgehog (h : s.HostStep t ch) : t.hedgehog = s.hedgehog := by rw [h.rest]

theorem keeps (h : s.HostStep t ch) : s.Keeps t := by
  rw [h.rest]
  exact .of_same rfl rfl rfl rfl

end State.HostStep

/-- A reply joins those of its own channel. -/
theorem State.reply_repliesOf_ne (s : State) (r : Reply) {x : Ch} (h : x ≠ r.ch) : (s.reply r).repliesOf x = s.repliesOf x := by
  have hne : (r.ch == x) = false := by simpa using Ne.symm h
  rw [State.repliesOf, State.repliesOf, State.reply_replies]
  split
  · simp [List.filter_append, hne]
  · rfl

theorem State.reply_hostStep (s : State) (r : Reply) : s.HostStep (s.reply r) r.ch where
  others x _ := State.reply_ch s r x
  view := by rw [State.reply_ch]
  rest := by unfold State.reply; split <;> rfl
  replies _ hx := s.reply_repliesOf_ne r hx

theorem State.respond_hostStep (s : State) (r : Reply) : s.HostStep (s.respond r) r.ch :=
  State.HostStep.trans (.mod rfl) (State.reply_hostStep _ r)

theorem State.answer_hostStep (s : State) (ch : Ch) (op : Nat) (p : Pkt) (status : Nat) (params : List Byte) :
    s.HostStep (s.answer ch op p status params) ch := s.respond_hostStep _

theorem State.deny_hostStep (s : State) (ch : Ch) (op : Nat) (p : Pkt) (status detail : Nat) :
    s.HostStep (s.deny ch op p status detail) ch := s.answer_hostStep ch op p status _

/-! ### The way of a packet to its handler -/

section Way

variable {ch : Ch} {f : State → State}

theorem State.handle_hostStep (s : State) (op : Nat) (p : Pkt) (hf : ∀ s : State, s.HostStep (f s) ch) :
    s.HostStep (s.handle ch op p f) ch := by
  unfold State.handle
  split
  · exact s.deny_hostStep _ _ _ _ _
  · split
    · exact s.deny_hostStep _ _ _ _ _
    · split
      · exact s.deny_hostStep _ _ _ _ _
      · exact hf s

theorem State.inSession_hostStep (s : State) (op : Nat) (p : Pkt) (t : Session) (hf : ∀ s : State, s.HostStep (f s) ch) :
    s.HostStep (s.inSession ch op p t f) ch := by
  unfold State.inSession
  extract_lets crc
  split
  · split
    · split
      · exact s.reply_hostStep _
      · exact .refl _ _
    · exact s.deny_hostStep _ _ _ _ _
  · split
    · exact s.deny_hostStep _ _ _ _ _
    · exact State.HostStep.trans (.mod rfl) (State.handle_hostStep _ _ _ hf)

theorem State.admitted_hostStep (s : State) (op : Nat) (p : Pkt) (hf : ∀ s : State, s.HostStep (f s) ch) :
    s.HostStep (s.admitted ch op p f) ch := by
  unfold State.admitted
  extract_lets c
  split
  · exact s.deny_hostStep _ _ _ _ _
  · split
    · exact s.deny_hostStep _ _ _ _ _
    · split
      · exact s.handle_hostStep _ _ hf
      · split
        · exact s.deny_hostStep _ _ _ _ _
        · exact s.inSession_hostStep _ _ _ hf

theorem State.receive_hostStep (s : State) (op : Nat) (p : Pkt) (hf : ∀ s : State, s.HostStep (f s) ch) :
    s.HostStep (s.receive ch op p f) ch := by
  unfold State.receive
  split
  · exact .refl _ _
  · extract_lets a
    have ha : s.HostStep a ch := .mod rfl
    split
    · exact ha.trans (.mod rfl)
    · split
      · exact ha.trans (.mod rfl)
      · exact ha.trans (a.admitted_hostStep _ _ hf)

end Way

/-! ### What the handlers do to the channel -/

theorem Chan.hubView_congr {c d : Chan} (hsupply : d.supply = c.supply) (hboot : d.boot = c.boot)
    (hacted : d.seals.acted = c.seals.acted) (hstatic : d.params.static = c.params.static)
    (halive : d.safe.alive = c.safe.alive) : d.hubView = c.hubView := by
  simp only [Chan.hubView, Chan.live, Chan.hostKnown, Chan.hostParams, Chan.stat, hsupply, hboot, hacted, hstatic, halive]

theorem Chan.emit_hubView (c : Chan) (name : EvName) (obj : Nat) (d : List Word) : (c.emit name obj d).hubView = c.hubView :=
  Chan.hubView_congr (by simp) (by simp) (by simp) (by simp) (by simp)

theorem Chan.writeImmediate_hubView (c : Chan) (n : Nat) (w : Word) : (c.writeImmediate n w).hubView = c.hubView := by
  have key : ∃ m a, c.writeImmediate n w = { c with mem := m, arb := a } := by
    unfold Chan.writeImmediate
    repeat' split
    all_goals exact ⟨_, _, rfl⟩
  obtain ⟨m, a, h⟩ := key
  rw [h]
  exact Chan.hubView_congr rfl rfl rfl rfl rfl

theorem Chan.applyEntry_hubView (c : Chan) (session : Nat) (all : Bool) (e : Nat × Word) :
    (c.applyEntry session all e).hubView = c.hubView := by
  unfold Chan.applyEntry
  repeat' split
  all_goals first | exact Chan.hubView_congr rfl rfl rfl rfl rfl | exact c.writeImmediate_hubView _ _

theorem Chan.applyEntries_hubView (es : List (Nat × Word)) (c : Chan) (session : Nat) :
    (es.foldl (fun c e => c.applyEntry session true e) c).hubView = c.hubView := by
  induction es generalizing c with
  | nil => rfl
  | cons e es ih => exact (ih _).trans (c.applyEntry_hubView session true e)

theorem Chan.undoBoundary_hubView (c : Chan) : c.undoBoundary.hubView = c.hubView := by
  have fold : ∀ (l : List Nat) (c : Chan), (l.foldl (fun c i => c.rewriteSlot i) c).hubView = c.hubView := by
    intro l
    induction l with
    | nil => exact fun _ => rfl
    | cons i l ih => exact fun c => (ih _).trans (Chan.hubView_congr rfl rfl rfl rfl rfl)
  unfold Chan.undoBoundary
  split
  · rfl
  · exact fold _ c

theorem Chan.exchTo_hubView (c : Chan) (st result kind id : Nat) : (c.exchTo st result kind id).hubView = c.hubView := by
  unfold Chan.exchTo
  extract_lets a b
  have ha : a.hubView = c.hubView := by
    unfold a
    split
    · rfl
    · exact c.undoBoundary_hubView
  exact (Chan.emit_hubView _ _ _ _).trans ((Chan.hubView_congr rfl rfl rfl rfl rfl).trans ha)

theorem Chan.exchVerify_hubView {c d : Chan} {me : Ch} {v : Variant} (h : c.exchVerify me v = some d) : d.hubView = c.hubView := by
  unfold Chan.exchVerify at h
  split at h
  · split at h
    · cases h
      exact c.exchTo_hubView 2 0 0 0
    · cases h
      exact c.exchTo_hubView _ _ _ _
  · cases h

theorem Chan.exchAbort_hubView {c d : Chan} (h : c.exchAbort = some d) : d.hubView = c.hubView := by
  unfold Chan.exchAbort at h
  split at h <;> cases h
  all_goals exact c.exchTo_hubView _ _ _ _

theorem Chan.calWrite_hubView (c : Chan) (me : Ch) (p : List Byte) : (c.calWrite me p).hubView = c.hubView := by
  unfold Chan.calWrite
  extract_lets es
  split
  · rfl
  · exact Chan.hubView_congr rfl rfl rfl rfl rfl

theorem Chan.clear1_hubView (c : Chan) (me : Ch) (n : Nat) : (c.clear1 me n).hubView = c.hubView := by
  unfold Chan.clear1
  split <;> exact Chan.hubView_congr rfl rfl rfl rfl rfl

theorem Chan.clear2_hubView (c : Chan) (n : Nat) : (c.clear2 n).hubView = c.hubView := by
  unfold Chan.clear2
  split <;> exact Chan.hubView_congr rfl rfl rfl rfl rfl

theorem Chan.clearRead_hubView (c : Chan) (me : Ch) (n : Nat) : (c.clearRead me n).hubView = c.hubView := by
  unfold Chan.clearRead
  repeat' split
  · exact Chan.hubView_congr rfl rfl rfl rfl rfl
  · exact Chan.hubView_congr rfl rfl rfl rfl rfl
  · exact Chan.hubView_congr rfl rfl rfl rfl rfl
  · exact (Chan.clear2_hubView _ n).trans (c.clear1_hubView me n)

/-! ### The handlers -/

theorem State.submit_hostStep (s : State) (ch : Ch) (op : Nat) (p : Pkt) : s.HostStep (s.submit ch op p) ch := by
  unfold State.submit
  split
  · exact s.deny_hostStep _ _ _ _ _
  · exact .mod rfl

theorem State.applyNow_hostStep (s : State) (ch : Ch) (op : Nat) (p : Pkt) (r : Option (Chan × List Byte))
    (h : ∀ d, r = some d → d.1.hubView = (s.ch ch).hubView) : s.HostStep (s.applyNow ch op p r) ch := by
  unfold State.applyNow
  split
  · next c bytes => exact (State.HostStep.put (h (c, bytes) rfl)).trans (State.answer_hostStep _ _ _ _ _ _)
  · exact s.deny_hostStep _ _ _ _ _

theorem State.writeParam_hostStep (s : State) (ch : Ch) (p : Pkt) : s.HostStep (s.writeParam ch p) ch := by
  unfold State.writeParam
  extract_lets c
  split
  · exact s.deny_hostStep _ _ _ _ _
  · split
    · exact .put rfl
    · exact (State.HostStep.put (c.applyEntries_hubView _ _ )).trans (State.answer_hostStep _ _ _ _ _ _)

theorem State.readOne_hostStep (s : State) (ch : Ch) (session n : Nat) : s.HostStep (s.readOne ch session n).2 ch := by
  unfold State.readOne
  extract_lets sel w a
  have ha : s.HostStep a ch := .mod (Chan.clearRead_hubView _ _ _)
  dsimp only
  split
  · exact ha.trans (.drawn _ _)
  · exact ha

theorem State.readMany_hostStep (ns : List Nat) (s : State) (ch : Ch) (session : Nat) :
    s.HostStep (s.readMany ch session ns).2 ch := by
  induction ns generalizing s with
  | nil => exact .refl _ _
  | cons n ns ih =>
    unfold State.readMany
    dsimp only
    refine State.HostStep.trans ?_ (ih _)
    split
    · exact s.readOne_hostStep _ _ _
    · exact .refl _ _

theorem State.replyWords_hostStep (s : State) (ch : Ch) (op : Nat) (p : Pkt) (ns : List Nat) :
    s.HostStep (s.replyWords ch op p ns) ch :=
  (State.readMany_hostStep ns s ch p.session).trans (State.answer_hostStep _ _ _ _ _ _)

theorem State.readParam_hostStep (s : State) (ch : Ch) (p : Pkt) : s.HostStep (s.readParam ch p) ch := by
  unfold State.readParam
  dsimp only
  repeat' split
  · exact s.deny_hostStep _ _ _ _ _
  · exact s.deny_hostStep _ _ _ _ _
  · exact s.replyWords_hostStep _ _ _ _

theorem State.readBlock_hostStep (s : State) (ch : Ch) (p : Pkt) : s.HostStep (s.readBlock ch p) ch := by
  unfold State.readBlock
  dsimp only
  split
  · exact s.deny_hostStep _ _ _ _ _
  · exact s.replyWords_hostStep _ _ _ _

theorem State.calRead_hostStep (s : State) (ch : Ch) (p : Pkt) : s.HostStep (s.calRead ch p) ch := by
  unfold State.calRead
  dsimp only
  repeat' split
  · exact s.deny_hostStep _ _ _ _ _
  · exact s.deny_hostStep _ _ _ _ _
  · exact s.replyWords_hostStep _ _ _ _

theorem State.openAt_hostStep (s : State) (ch : Ch) (p : Pkt) : s.HostStep (s.openAt ch p) ch := by
  unfold State.openAt
  split
  · exact s.deny_hostStep _ _ _ _ _
  · exact State.HostStep.trans (.mod rfl) (State.respond_hostStep _ _)

theorem State.loadBegin_hostStep (s : State) (ch : Ch) (p : Pkt) : s.HostStep (s.loadBegin ch p) ch := by
  unfold State.loadBegin
  dsimp only
  repeat' split
  · exact s.deny_hostStep _ _ _ _ _
  · exact s.deny_hostStep _ _ _ _ _
  · exact s.deny_hostStep _ _ _ _ _
  · exact s.deny_hostStep _ _ _ _ _
  · exact State.HostStep.trans (.mod rfl) (State.answer_hostStep _ _ _ _ _ _)

theorem State.loadData_hostStep (s : State) (ch : Ch) (p : Pkt) : s.HostStep (s.loadData ch p) ch := by
  unfold State.loadData
  dsimp only
  repeat' split
  · exact s.deny_hostStep _ _ _ _ _
  · exact s.deny_hostStep _ _ _ _ _
  · exact State.HostStep.trans (.mod rfl) (State.answer_hostStep _ _ _ _ _ _)

theorem State.loadEnd_hostStep (s : State) (ch : Ch) (p : Pkt) : s.HostStep (s.loadEnd ch p) ch := by
  unfold State.loadEnd
  dsimp only
  repeat' split
  · exact s.deny_hostStep _ _ _ _ _
  · exact s.deny_hostStep _ _ _ _ _
  · exact (State.HostStep.put (c := (s.ch ch).beginWrite _) (Chan.hubView_congr rfl rfl rfl rfl rfl)).trans
      (State.answer_hostStep _ _ _ _ _ _)
  · exact s.deny_hostStep _ _ _ _ _

/-! ### The rows -/

/-- A row passes packets of one opcode to a handler that each channel runs on its own. -/
structure HostRow (op : Nat) (i : Pkt → Instr) (f : Pkt → Ch → State → State) : Prop where
  exec_eq : ∀ p (s : State), exec (i p) s = .next (s.packet op p (f p))
  step : ∀ p ch (s : State), s.HostStep (f p ch s) ch

theorem hostRow_submit {op : Nat} {i : Pkt → Instr}
    (h : ∀ p s, exec (i p) s = .next (s.packet op p (fun ch s => s.submit ch op p))) :
    HostRow op i (fun p ch s => s.submit ch op p) := ⟨h, fun p ch s => s.submit_hostStep ch op p⟩

theorem hostRow_getStatus : HostRow 0x0001 .getStatus (fun p ch s => s.answer ch 0x0001 p 0 (s.statusBytes ch)) :=
  ⟨fun _ _ => rfl, fun _ _ s => s.answer_hostStep _ _ _ _ _⟩

theorem hostRow_getIdentity : HostRow 0x0002 .getIdentity (fun p ch s => s.answer ch 0x0002 p 0 (s.identityBytes ch)) :=
  ⟨fun _ _ => rfl, fun _ _ s => s.answer_hostStep _ _ _ _ _⟩

theorem hostRow_openSession : HostRow 0x0003 .openSession (fun p ch s => s.openAt ch p) :=
  ⟨fun _ _ => rfl, fun _ _ s => s.openAt_hostStep _ _⟩

theorem hostRow_closeSession : HostRow 0x0004 .closeSession (fun p ch s =>
    (s.mod ch (fun c => { c with host := c.host.close p.session })).answer ch 0x0004 p 0 []) :=
  ⟨fun _ _ => rfl, fun _ _ _ => State.HostStep.trans (.mod rfl) (State.answer_hostStep _ _ _ _ _ _)⟩

theorem hostRow_nop : HostRow 0x0005 .nop (fun p ch s => s.answer ch 0x0005 p 0 []) :=
  ⟨fun _ _ => rfl, fun _ _ s => s.answer_hostStep _ _ _ _ _⟩

theorem hostRow_readParam : HostRow 0x0100 .readParam (fun p ch s => s.readParam ch p) :=
  ⟨fun _ _ => rfl, fun _ _ s => s.readParam_hostStep _ _⟩

theorem hostRow_readBlock : HostRow 0x0101 .readBlock (fun p ch s => s.readBlock ch p) :=
  ⟨fun _ _ => rfl, fun _ _ s => s.readBlock_hostStep _ _⟩

theorem hostRow_writeParam : HostRow 0x0102 .writeParam (fun p ch s => s.writeParam ch p) :=
  ⟨fun _ _ => rfl, fun _ _ s => s.writeParam_hostStep _ _⟩

theorem hostRow_loadBegin : HostRow 0x0300 .loadBegin (fun p ch s => s.loadBegin ch p) :=
  ⟨fun _ _ => rfl, fun _ _ s => s.loadBegin_hostStep _ _⟩

theorem hostRow_loadData : HostRow 0x0301 .loadData (fun p ch s => s.loadData ch p) :=
  ⟨fun _ _ => rfl, fun _ _ s => s.loadData_hostStep _ _⟩

theorem hostRow_loadEnd : HostRow 0x0302 .loadEnd (fun p ch s => s.loadEnd ch p) :=
  ⟨fun _ _ => rfl, fun _ _ s => s.loadEnd_hostStep _ _⟩

theorem hostRow_exchVerify : HostRow 0x0303 .exchVerify (fun p ch s =>
    if (s.ch ch).split then
      s.applyNow ch 0x0303 p (((s.ch ch).exchVerify ch s.factory.variant).map (fun c => (c, bytesOfNat 4 c.blocks.result)))
    else s.submit ch 0x0303 p) where
  exec_eq _ _ := rfl
  step p ch s := by
    split
    · refine s.applyNow_hostStep _ _ _ _ fun d hd => ?_
      obtain ⟨c, hc, rfl⟩ := Option.map_eq_some_iff.mp hd
      exact Chan.exchVerify_hubView hc
    · exact s.submit_hostStep _ _ _

theorem hostRow_exchAbort : HostRow 0x0304 .exchAbort (fun p ch s =>
    if (s.ch ch).split then s.applyNow ch 0x0304 p ((s.ch ch).exchAbort.map (fun c => (c, [])))
    else s.submit ch 0x0304 p) where
  exec_eq _ _ := rfl
  step p ch s := by
    split
    · refine s.applyNow_hostStep _ _ _ _ fun d hd => ?_
      obtain ⟨c, hc, rfl⟩ := Option.map_eq_some_iff.mp hd
      exact Chan.exchAbort_hubView hc
    · exact s.submit_hostStep _ _ _

theorem hostRow_snapOpen : HostRow 0x0400 .snapOpen (fun p ch s =>
    (s.mod ch (fun c => { c with host := c.host.setSnap p.session (some (s.ch ch).nv.openSnap) })).answer ch 0x0400 p 0
      (bytesOfNat 8 (s.ch ch).nv.openSnap.high ++ bytesOfNat 8 (s.ch ch).nv.openSnap.low ++
        bytesOfNat 8 (s.ch ch).nv.openSnap.permBase)) :=
  ⟨fun _ _ => rfl, fun _ _ _ => State.HostStep.trans (.mod rfl) (State.answer_hostStep _ _ _ _ _ _)⟩

theorem hostRow_snapRead : HostRow 0x0401 .snapRead (fun p ch s =>
    match (s.ch ch).snapOf p.session with
    | none => s.deny ch 0x0401 p refusedCode 0
    | some k =>
      (s.put ch ((s.ch ch).fillWindow p.session k).1).answer ch 0x0401 p 0
        (bytesOfNat 1 ((s.ch ch).fillWindow p.session k).2 ++ [0, 0, 0])) where
  exec_eq _ _ := rfl
  step p ch s := by
    split
    · exact s.deny_hostStep _ _ _ _ _
    · next k _ =>
      exact (State.HostStep.put (c := ((s.ch ch).fillWindow p.session k).1) rfl).trans (State.answer_hostStep _ _ _ _ _ _)

theorem hostRow_windowGet : HostRow 0x0402 .windowGet (fun p ch s =>
    if fieldAt p.params 1 1 == 0 || decide (16 < fieldAt p.params 1 1) ||
        decide (64 < fieldAt p.params 0 1 + fieldAt p.params 1 1) then s.deny ch 0x0402 p badParam 0
    else
      match (s.ch ch).snapOf p.session with
      | none => s.deny ch 0x0402 p refusedCode 0
      | some k =>
        s.drawn.answer ch 0x0402 p 0
          (wordsBytes ((List.range (fieldAt p.params 1 1)).flatMap (fun i => k.entry s.draws (fieldAt p.params 0 1 + i))))) where
  exec_eq _ _ := rfl
  step p ch s := by
    repeat' split
    · exact s.deny_hostStep _ _ _ _ _
    · exact s.deny_hostStep _ _ _ _ _
    · exact (State.HostStep.drawn s ch).trans (State.answer_hostStep _ _ _ _ _ _)

theorem hostRow_snapClose : HostRow 0x0403 .snapClose (fun p ch s =>
    (s.mod ch (fun c => { c with host := c.host.setSnap p.session none })).answer ch 0x0403 p 0 []) :=
  ⟨fun _ _ => rfl, fun _ _ _ => State.HostStep.trans (.mod rfl) (State.answer_hostStep _ _ _ _ _ _)⟩

theorem hostRow_requestResult : HostRow 0x0506 .requestResult (fun p ch s =>
    match (s.ch ch).host.results.find? (fun r => r.tag == fieldAt p.params 0 4) with
    | none => s.deny ch 0x0506 p 0x61 0
    | some r =>
      s.answer ch 0x0506 p 0 (bytesOfNat 1 r.result ++ [0] ++ bytesOfNat 2 r.reason ++ bytesOfNat 4 r.cycle)) where
  exec_eq _ _ := rfl
  step p ch s := by
    split
    · exact s.deny_hostStep _ _ _ _ _
    · exact s.answer_hostStep _ _ _ _ _

theorem hostRow_portRestart : HostRow 0x050A .portRestart (fun p ch s =>
    if 2 ≤ fieldAt p.params 0 1 then s.deny ch 0x050A p badParam 0
    else (s.mod ch (fun c => { c with guard := c.guard.restart (fieldAt p.params 0 1) })).answer ch 0x050A p 0 []) where
  exec_eq _ _ := rfl
  step p ch s := by
    split
    · exact s.deny_hostStep _ _ _ _ _
    · exact State.HostStep.trans (.mod rfl) (State.answer_hostStep _ _ _ _ _ _)

theorem hostRow_quote : HostRow 0x0600 .quote (fun p ch s =>
    if (s.ch ch).boot.phase != 7 then s.deny ch 0x0600 p refusedCode 0
    else
      s.drawn.answer ch 0x0600 p 0
        (s.quoteBody ch (p.params.take 32) ++ Config.identitySign ch (s.quoteBody ch (p.params.take 32)) s.draws)) where
  exec_eq _ _ := rfl
  step p ch s := by
    split
    · exact s.deny_hostStep _ _ _ _ _
    · exact (State.HostStep.drawn s ch).trans (State.answer_hostStep _ _ _ _ _ _)

theorem hostRow_getCert : HostRow 0x0601 .getCert (fun p ch s =>
    if ceilDiv (Config.certificate ch).length 1024 ≤ fieldAt p.params 0 1 then s.deny ch 0x0601 p badParam 0
    else
      s.answer ch 0x0601 p 0
        (bytesOfNat 1 (fieldAt p.params 0 1) ++ bytesOfNat 1 (ceilDiv (Config.certificate ch).length 1024) ++
          bytesOfNat 2 (((Config.certificate ch).drop (1024 * fieldAt p.params 0 1)).take 1024).length ++
          ((Config.certificate ch).drop (1024 * fieldAt p.params 0 1)).take 1024)) where
  exec_eq _ _ := rfl
  step p ch s := by
    split
    · exact s.deny_hostStep _ _ _ _ _
    · exact s.answer_hostStep _ _ _ _ _

/-- The channel with an enrolled key written and recorded (R417). -/
def Chan.enrol (c : Chan) (ps : List Byte) : Chan :=
  ({ c with nv := c.nv.writeKey ps (enrolledKey ps c.nv.start) } : Chan).emit .keyEvent (fieldAt ps 0 1)
    [w32 (fieldAt ps 1 1), (enrolledKey ps c.nv.start).keyId.setWidth 32]

theorem Chan.enrol_hubView (c : Chan) (ps : List Byte) : (c.enrol ps).hubView = c.hubView :=
  (Chan.emit_hubView _ _ _ _).trans (Chan.hubView_congr rfl rfl rfl rfl rfl)

theorem hostRow_keyEnrol : HostRow 0x0602 .keyEnrol (fun p ch s =>
    if !(s.ch ch).keyEnrol then s.deny ch 0x0602 p refusedCode 0
    else if !(s.ch ch).nv.enrolOk p.params (enrolledKey p.params (s.ch ch).nv.start) then s.deny ch 0x0602 p badParam 0
    else (s.put ch ((s.ch ch).enrol p.params)).answer ch 0x0602 p 0 []) where
  exec_eq _ _ := rfl
  step p ch s := by
    repeat' split
    · exact s.deny_hostStep _ _ _ _ _
    · exact s.deny_hostStep _ _ _ _ _
    · exact (State.HostStep.put (Chan.enrol_hubView _ _)).trans (State.answer_hostStep _ _ _ _ _ _)

theorem hostRow_keyRead : HostRow 0x0603 .keyRead (fun p ch s =>
    match (s.ch ch).nv.keys[fieldAt p.params 0 1]? with
    | some k => s.answer ch 0x0603 p 0 (Config.keySlotImage k)
    | none => s.deny ch 0x0603 p badParam 0) where
  exec_eq _ _ := rfl
  step p ch s := by
    split
    · exact s.answer_hostStep _ _ _ _ _
    · exact s.deny_hostStep _ _ _ _ _

theorem hostRow_calRead : HostRow 0x0700 .calRead (fun p ch s => s.calRead ch p) :=
  ⟨fun _ _ => rfl, fun _ _ s => s.calRead_hostStep _ _⟩

theorem hostRow_calWrite : HostRow 0x0701 .calWrite (fun p ch s =>
    if (s.ch ch).split then
      match (s.ch ch).paramFault 0x0701 p.params with
      | some (st, d) => s.deny ch 0x0701 p st d
      | none => s.applyNow ch 0x0701 p (some ((s.ch ch).calWrite ch p.params, []))
    else s.submit ch 0x0701 p) where
  exec_eq _ _ := rfl
  step p ch s := by
    repeat' split
    · exact s.deny_hostStep _ _ _ _ _
    · refine s.applyNow_hostStep _ _ _ _ fun d hd => ?_
      cases hd
      exact Chan.calWrite_hubView _ _ _
    · exact s.submit_hostStep _ _ _

/-- Every command of Table 15-4 is such a row. -/
theorem hostRows_row : ∀ e ∈ hostRows, ∃ f, HostRow e.1 e.2 f := by
  have submits : ∀ e ∈ criticalRows ++ requestRows ++ partnerRows, HostRow e.1 e.2 (fun p ch s => s.submit ch e.1 p) := by
    simp only [criticalRows, requestRows, partnerRows, List.cons_append, List.nil_append, List.forall_mem_cons]
    repeat' apply And.intro
    all_goals first | exact hostRow_submit (fun _ _ => rfl) | exact fun _ h => nomatch h
  have others : ∀ e ∈ plainRows ++ splitRows, ∃ f, HostRow e.1 e.2 f := by
    simp only [plainRows, splitRows, List.cons_append, List.nil_append, List.forall_mem_cons]
    exact ⟨⟨_, hostRow_getStatus⟩, ⟨_, hostRow_getIdentity⟩, ⟨_, hostRow_openSession⟩, ⟨_, hostRow_closeSession⟩,
      ⟨_, hostRow_nop⟩, ⟨_, hostRow_readParam⟩, ⟨_, hostRow_readBlock⟩, ⟨_, hostRow_writeParam⟩, ⟨_, hostRow_loadBegin⟩,
      ⟨_, hostRow_loadData⟩, ⟨_, hostRow_loadEnd⟩, ⟨_, hostRow_snapOpen⟩, ⟨_, hostRow_snapRead⟩, ⟨_, hostRow_windowGet⟩,
      ⟨_, hostRow_snapClose⟩, ⟨_, hostRow_requestResult⟩, ⟨_, hostRow_portRestart⟩, ⟨_, hostRow_quote⟩, ⟨_, hostRow_getCert⟩,
      ⟨_, hostRow_keyEnrol⟩, ⟨_, hostRow_keyRead⟩, ⟨_, hostRow_calRead⟩, ⟨_, hostRow_exchVerify⟩, ⟨_, hostRow_exchAbort⟩,
      ⟨_, hostRow_calWrite⟩, fun _ h => nomatch h⟩
  intro e he
  simp only [hostRows, List.mem_append] at he
  rcases he with (((he | he) | he) | he) | he
  · exact others e (List.mem_append_left _ he)
  · exact ⟨_, submits e (by simp [he])⟩
  · exact ⟨_, submits e (by simp [he])⟩
  · exact ⟨_, submits e (by simp [he])⟩
  · exact others e (List.mem_append_right _ he)

end Sys2Proof.Machine

/-! PROOFS. What every row of the command table keeps, whichever state it meets: a row of one channel differs in that channel
alone (spec/01_architecture.md R11, R18), every row completes and keeps the shared hardware consistent (spec/06 R169, spec/07
R201), and few can arm the Hedgehog (R202). -/

namespace Sys2Proof.Machine

open Sys2Proof

/-! ### Rows of one channel -/

theorem execFeedRestored_onlyAt (ch : Ch) (f : Feed) (s : State) :
    ∃ t, execFeedRestored ch f s = .next t ∧ s.OnlyAt t ch := by
  unfold execFeedRestored
  split
  · exact ⟨_, rfl, .refl _ _⟩
  · exact ⟨_, rfl, ((State.OnlyAt.drawn _ _).trans (.mod _ _ _)).trans (.onLive _ _ _)⟩

theorem execHostPortLost_onlyAt (ch : Ch) (s : State) : ∃ t, execHostPortLost ch s = .next t ∧ s.OnlyAt t ch := by
  unfold execHostPortLost
  split
  · exact ⟨_, rfl, .refl _ _⟩
  · exact ⟨_, rfl, .onLive _ _ _⟩

theorem execTaskRun_onlyAt (ch : Ch) (n passUs execUs : Nat) (s : State) :
    ∃ t, execTaskRun ch n passUs execUs s = .next t ∧ s.OnlyAt t ch := by
  unfold execTaskRun
  extract_lets
  split
  · exact ⟨_, rfl, .mod _ _ _⟩
  · exact ⟨_, rfl, .refl _ _⟩

/-- A row that belongs to one channel completes, and differs from what it met in that channel alone. -/
theorem exec_home {i : Instr} {ch : Ch} (s : State) (h : i.home = some ch) : ∃ t, exec i s = .next t ∧ s.OnlyAt t ch := by
  cases i <;> cases h
  case pfAnnounced | agreementDecision | agreementTimeout | alignmentTimeout | testTimeout | partnerListenEnd |
    sfpInserted | sfpRemoved | sealSample | inputDebounce | inputCircuitTest | positioningTimeout |
    approachTimeRelease | overlapReleaseTimer | emergencyReleaseExpiry | rsvTimeout | startupHoldEnd | tileVerify |
    fbTimerExpiry | groupReturnToService | gateFault | doorInputDiscrepancy | gateIsolationLapse |
    gateIsolationWarning | discrepancyTimeout | discrepancyClear | exclAckTimeout | degLimitWarning | degCountReset |
    reintStart | reintPrepareDone | reintTimeout | offTestPulse | lowSideTest | outputTimeout | fieldSupplySag |
    referenceSend | owlGiveUp | reference | referenceMissing | owlTakeover | referenceConflictLimit | listenTimeout |
    coldstartEntry | coldstartComplete | coldstart | dupBackoffEnd | scheduleSwitch | frameTransmit | badgerViolation |
    hello | discoveryComplete | timeStatus | delayReq | delayResp | reintNotice | identity | credit | portDown |
    portUp | linkDown | ready | topoFault | claim | claimAck | heartbeatFrame | vitalData | nonvital | queueLinkError |
    queueRangeRebuild | heartbeatInstant | heartbeatMiss | xferRequest | xferTimeout | memoryReadError |
    memoryProtectionFault | scrubWord | pageRetire | correctionLogExpiry | arbiterHoldCut | memFlipWrite |
    arbParamWrite | arbCutClear | bistSliceTimeout | bistSliceAbandon | bistRoundStart | bistRoundLate | diagFlush |
    recorderStart | sessionTimeout | prepareExpiry | flashWrite | exchPrepareDone => exact ⟨_, rfl, .onLive _ _ _⟩
  case marker | vote | exclAck | reintReq | stateTransfer | test | counters | claimTransfer => exact ⟨_, rfl, .taken _ _ _ _ _ _⟩
  case heartbeat | req | xfer | xstate | commit | runEnd | cmd | deltaEnd | switchTransfer => exact ⟨_, rfl, .takenP _ _ _ _ _⟩
  case reserve | grant | refuse | unreserve | releaseAll | report => exact ⟨_, rfl, .eventFrame _ _ _ _ _⟩
  case feedRestored => exact execFeedRestored_onlyAt _ _ _
  case hostPortLost => exact execHostPortLost_onlyAt _ _
  case taskRun => exact execTaskRun_onlyAt _ _ _ _ _
  case arbiterDecision => exact ⟨_, rfl, (State.OnlyAt.drawn _ _).trans (.onLive _ _ _)⟩


/-! ### Calm changes: those that never arm the Hedgehog -/

/-- A change that keeps what every command keeps, and after which a Hedgehog that was not armed is not. -/
structure State.Calm (s t : State) : Prop where
  keeps : s.Keeps t
  unarmed : s.hedgehog.st ≠ 1 → t.hedgehog.st ≠ 1

namespace State.Calm

variable {s t u : State} {ch : Ch}

theorem refl (s : State) : s.Calm s := ⟨.refl s, id⟩

theorem trans (h : s.Calm t) (k : t.Calm u) : s.Calm u := ⟨h.keeps.trans k.keeps, k.unarmed ∘ h.unarmed⟩

/-- A change that leaves the Hedgehog alone arms none. -/
theorem of_keeps (h : s.Keeps t) (e : t.hedgehog = s.hedgehog) : s.Calm t := ⟨h, by rw [e]; exact id⟩

theorem onlyAt (h : s.OnlyAt t ch) : s.Calm t := by
  obtain ⟨-, hf, -, hh, hn, -, hp⟩ := State.onlyAt_iff.mp h
  exact of_keeps (.of_same hf hp hh hn) hh

theorem put (s : State) (ch : Ch) (c : Chan) : s.Calm (s.put ch c) := onlyAt (.put s ch c)

theorem mod (s : State) (ch : Ch) (f : Chan → Chan) : s.Calm (s.mod ch f) := onlyAt (.mod s ch f)

theorem drawn (s : State) : s.Calm s.drawn := of_keeps s.drawn_keeps rfl

theorem allLive (s : State) (f : Ch → Chan → Chan) : s.Calm (s.allLive f) := of_keeps (s.allLive_keeps f) (by simp)

theorem ite {b : Bool} (h : s.Calm t) (k : s.Calm u) : s.Calm (if b then t else u) := by
  cases b
  · exact k
  · exact h

theorem hostStep (h : s.HostStep t ch) : s.Calm t := of_keeps h.keeps h.hedgehog

theorem foldl {α : Type} (l : List α) (f : State → α → State) (h : ∀ s a, State.Calm s (f s a)) (s : State) :
    s.Calm (l.foldl f s) := by
  induction l generalizing s with
  | nil => exact refl s
  | cons a l ih => exact (h s a).trans (ih (f s a))

theorem packet (s : State) (op : Nat) (p : Pkt) {f : Ch → State → State} (hf : ∀ ch (s : State), s.HostStep (f ch s) ch) :
    s.Calm (s.packet op p f) :=
  foldl _ _ (fun s ch => hostStep (s.receive_hostStep op p (hf ch))) s

end State.Calm

/-- A cause of a trip arms nothing. -/
theorem Hedgehog.causeNow_st_ne_one (h : Hedgehog) (cause : TripCause) : (h.causeNow cause).st ≠ 1 := by
  simp only [Hedgehog.causeNow]
  split <;> omega

theorem State.trip_calm (s : State) (cause : TripCause) : s.Calm (s.trip cause) :=
  ⟨s.trip_keeps cause, fun _ => by rw [State.trip_hedgehog]; exact s.hedgehog.causeNow_st_ne_one cause⟩

theorem State.setAlive_calm (s : State) (ch : Ch) (on : Bool) : s.Calm (s.setAlive ch on) where
  keeps := s.setAlive_keeps ch on
  unarmed h := by
    rcases s.setAlive_hedgehog ch on with e | e <;> rw [e]
    · exact h
    · exact s.hedgehog.causeNow_st_ne_one _

theorem State.settle_calm (s : State) (cause : Nat) : s.Calm (s.settle cause) := by
  unfold State.settle
  split
  · refine State.Calm.trans (.foldl _ _ (fun s x => ?_) s) (.foldl _ _ (fun s x => ?_) _)
    · split
      · exact .mod _ _ _
      · exact .refl _
    · split
      · exact s.setAlive_calm _ _
      · exact .refl _
  · exact .refl _

theorem State.exclude_calm (s : State) (ch : Ch) (task cycle cause : Nat) : s.Calm (s.exclude ch task cycle cause) := by
  unfold State.exclude
  split
  · exact ((State.Calm.mod _ _ _).trans (State.setAlive_calm _ _ _)).trans (State.settle_calm _ _)
  · exact .refl _

theorem State.withdraw_calm (s : State) (ch : Ch) : s.Calm (s.withdraw ch) := by
  unfold State.withdraw
  dsimp only
  split
  · exact (State.Calm.mod _ _ _).trans (State.exclude_calm _ _ _ _ _)
  · exact .refl _

theorem State.safeShutdown_calm (s : State) (ch : Ch) (cause : Nat) : s.Calm (s.safeShutdown ch cause) :=
  (((State.Calm.mod _ _ _).trans (State.setAlive_calm _ _ _)).trans (State.settle_calm _ _)).trans (State.trip_calm _ _)

theorem State.trapped_calm (s : State) (ch : Ch) (addr : Nat) : s.Calm (s.trapped ch addr) := by
  unfold State.trapped
  extract_lets a p
  have ha : s.Calm a := .mod _ _ _
  split
  · exact ha.trans (a.withdraw_calm _)
  · split
    · exact ha.trans (.mod _ _ _)
    · exact ha

theorem State.abandonRun_calm (s : State) (ch : Ch) (task i : Nat) : s.Calm (s.abandonRun ch task i) :=
  (State.Calm.mod _ _ _).trans (State.withdraw_calm _ _)

theorem State.halted_calm (s : State) (ch : Ch) (r : Reader) (h : Halt) : s.Calm (s.halted ch r h) := by
  unfold State.halted
  extract_lets a
  have ha : s.Calm a := by
    unfold a
    split
    · exact .mod _ _ _
    · exact .refl _
  split
  · exact ha.trans (a.trapped_calm _ _)
  · split
    · exact ha.trans (a.withdraw_calm _)
    · exact ha

theorem State.runDma_calm (s : State) (ch : Ch) (e : Nat) (d : Descriptor) (start : Nat) : s.Calm (s.runDma ch e d start) := by
  unfold State.runDma
  extract_lets v c
  split
  · exact .put _ _ _
  · exact (State.Calm.put _ _ _).trans (State.halted_calm _ _ _ _)

theorem State.runQueue_calm (ch : Ch) (e n : Nat) (s : State) : s.Calm (State.runQueue ch e n s) := by
  induction n generalizing s with
  | zero => exact .refl s
  | succ n ih =>
    unfold State.runQueue
    dsimp only
    split
    · exact ((State.Calm.mod _ _ _).trans (State.runDma_calm _ _ _ _ _)).trans (ih _)
    · exact .refl s

theorem State.decideFor_calm (s : State) (key : PairKey) (ps : List Presentation) (ch : Ch) : s.Calm (s.decideFor key ps ch) := by
  unfold State.decideFor
  extract_lets c
  split
  · split
    · extract_lets commit third t
      split
      · exact (State.Calm.put _ _ _).trans (State.withdraw_calm _ _)
      · exact .put _ _ _
    · exact .refl _
  · exact .refl _

theorem State.agree_calm (s : State) (ch : Ch) (e : CmdEntry) : s.Calm (s.agree ch e) := by
  unfold State.agree
  extract_lets c
  split
  · exact .refl _
  · extract_lets d
    split
    · exact (State.Calm.put _ _ _).trans (.hostStep (State.respond_hostStep _ _))
    · exact (State.Calm.put _ _ _).trans (.hostStep (State.respond_hostStep _ _))

theorem State.consolidateCommands_calm (s : State) (ch : Ch) : s.Calm (s.consolidateCommands ch) := by
  unfold State.consolidateCommands State.dropUnagreed
  refine State.Calm.trans (.foldl (s.ch ch).agreedNow _ (fun s e => s.agree_calm ch e) s) ?_
  refine State.Calm.trans (.put _ _ _) (.foldl _ _ (fun s l => ?_) _)
  exact .hostStep (s.respond_hostStep _)

/-! ### Rows that reach further, one by one -/

/-- A row completes in a calm change. -/
def CalmRow (o : Host.Outcome State Fault Refusal) (s : State) : Prop := ∃ t, o = .next t ∧ s.Calm t

theorem calmRow_self (s : State) : CalmRow (.next s) s := ⟨s, rfl, .refl s⟩

theorem execFeedLoss_calm (ch : Ch) (f : Feed) (s : State) : CalmRow (execFeedLoss ch f s) s := by
  unfold execFeedLoss
  split
  · exact calmRow_self s
  · extract_lets n a c b
    have ha : s.Calm a := (State.Calm.drawn s).trans (.mod _ _ _)
    have hb : s.Calm b := ha.trans (.mod _ _ _)
    split
    · split
      · exact ⟨_, rfl, (hb.trans (.mod _ _ _)).trans (State.setAlive_calm _ _ _)⟩
      · exact ⟨_, rfl, hb⟩
    · exact ⟨_, rfl, ha⟩

theorem execHoldupExhausted_calm (s : State) : CalmRow (execHoldupExhausted s) s := by
  refine ⟨_, rfl, .foldl _ _ (fun s ch => ?_) s⟩
  split
  · exact .mod _ _ _
  · exact .refl _

theorem execPowerOnReset_calm (ch : Ch) (s : State) : CalmRow (execPowerOnReset ch s) s := by
  unfold execPowerOnReset
  extract_lets c a
  have ha : s.Calm a := by
    unfold a
    split
    · exact .refl _
    · exact ⟨s.freshShared_keeps, fun _ => by simp [State.freshShared]⟩
  split
  · exact ⟨_, rfl, ha.trans (.mod _ _ _)⟩
  · exact calmRow_self s

theorem execSamplerStall_calm (ch : Ch) (s : State) : CalmRow (execSamplerStall ch s) s := by
  unfold execSamplerStall
  extract_lets c a
  split
  · exact ⟨_, rfl, (State.Calm.mod _ _ _).trans (State.withdraw_calm _ _)⟩
  · exact calmRow_self s

theorem execInputAgreement_calm (ch : Ch) (s : State) : CalmRow (execInputAgreement ch s) s := by
  unfold execInputAgreement
  extract_lets c a b
  split
  · exact ⟨_, rfl, ((State.Calm.mod _ _ _).trans (State.consolidateCommands_calm _ _)).trans (.mod _ _ _)⟩
  · exact calmRow_self s

theorem execTileReload_calm (ch : Ch) (tile : Nat) (flips : List (Nat × Word)) (poison : Bool) (s : State) :
    CalmRow (execTileReload ch tile flips poison s) s := by
  unfold execTileReload
  extract_lets v c
  split
  · split
    · exact ⟨_, rfl, s.abandonRun_calm _ _ _⟩
    · extract_lets lost a
      have ha : s.Calm a := .mod _ _ _
      split
      · exact ⟨_, rfl, ha.trans (.mod _ _ _)⟩
      · exact ⟨_, rfl, ha.trans (State.abandonRun_calm _ _ _ _)⟩
  · exact calmRow_self s

theorem execProgTileVerify_calm (ch : Ch) (task tile : Nat) (flips : List (Nat × Word)) (poison : Bool) (s : State) :
    CalmRow (execProgTileVerify ch task tile flips poison s) s := by
  unfold execProgTileVerify
  extract_lets v c
  split
  · split
    · split
      · exact ⟨_, rfl, s.abandonRun_calm _ _ _⟩
      · extract_lets lost a
        split
        · exact ⟨_, rfl, (State.Calm.mod _ _ _).trans (.mod _ _ _)⟩
        · exact ⟨_, rfl, (State.Calm.mod _ _ _).trans (State.abandonRun_calm _ _ _ _)⟩
    · exact ⟨_, rfl, .mod _ _ _⟩
  · exact calmRow_self s

theorem execVerdict_calm (ch frm : Ch) (l : Link) (v : Verdict) (s : State) : CalmRow (execVerdict ch frm l v s) s := by
  unfold execVerdict
  extract_lets c
  split
  · exact calmRow_self s
  · dsimp only
    repeat' split
    · exact ⟨_, rfl, .put _ _ _⟩
    · exact ⟨_, rfl, (State.Calm.put _ _ _).trans (.mod _ _ _)⟩
    · exact ⟨_, rfl, ((State.Calm.put _ _ _).trans (.mod _ _ _)).trans (State.exclude_calm _ _ _ _ _)⟩
    · exact ⟨_, rfl, ((State.Calm.put _ _ _).trans (.mod _ _ _)).trans (.mod _ _ _)⟩

theorem execCutLineChange_calm (frm whom : Ch) (level : Bool) (s : State) : CalmRow (execCutLineChange frm whom level s) s := by
  unfold execCutLineChange
  extract_lets c
  split
  · exact ⟨_, rfl, ⟨rfl, rfl, fun h => ⟨h.1, Network.settleDrives_oneCut _ whom⟩⟩, id⟩
  · exact calmRow_self s

theorem execOneSidedLimit_calm (ch : Ch) (s : State) : CalmRow (execOneSidedLimit ch s) s := by
  unfold execOneSidedLimit
  extract_lets c
  repeat' split
  · exact ⟨_, rfl, s.exclude_calm _ _ _ _⟩
  · exact ⟨_, rfl, .mod _ _ _⟩
  · exact calmRow_self s

theorem execVoterFault_calm (unit : Duplicated) (s : State) : CalmRow (execVoterFault unit s) s := by
  have noted : ∀ (t : State) (n : Network), n.driveCut = t.net.driveCut → t.Calm { t with net := n } := fun t n h =>
    ⟨⟨rfl, rfl, fun i => ⟨i.1, fun x y hx hy => i.2 x y (h ▸ hx) (h ▸ hy)⟩⟩, id⟩
  unfold execVoterFault
  split
  · exact calmRow_self s
  · extract_lets a
    have ha : s.Calm a := .allLive _ _
    split
    · exact ⟨_, rfl, (ha.trans (noted a { a.net with voterFault := true } rfl)).trans (State.trip_calm _ _)⟩
    · exact ⟨_, rfl, ha.trans (noted a { a.net with recFault := true } rfl)⟩

theorem execDegLimitExpired_calm (ch : Ch) (s : State) : CalmRow (execDegLimitExpired ch s) s := by
  unfold execDegLimitExpired
  extract_lets c
  split
  · exact ⟨_, rfl, (State.Calm.mod _ _ _).trans (State.safeShutdown_calm _ _ _)⟩
  · exact calmRow_self s

theorem execHedgehogTrip_calm (cause : TripCause) (s : State) : CalmRow (execHedgehogTrip cause s) s := by
  refine ⟨_, rfl, ?_⟩
  split
  · exact s.trip_calm cause
  · exact .refl _

theorem execDmaDescriptor_calm (ch : Ch) (e : Nat) (d : Descriptor) (s : State) : CalmRow (execDmaDescriptor ch e d s) s := by
  unfold execDmaDescriptor
  extract_lets c
  repeat' split
  · exact calmRow_self s
  · exact ⟨_, rfl, .mod _ _ _⟩
  · exact ⟨_, rfl, s.runDma_calm _ _ _ _⟩

theorem execDmaStop_calm (ch : Ch) (e : Nat) (s : State) : CalmRow (execDmaStop ch e s) s := by
  unfold execDmaStop
  extract_lets c q src a b
  have ha : s.Calm a := .mod _ _ _
  have hb : s.Calm b := by
    unfold b
    split
    · exact ha.trans (a.runDma_calm _ _ _ _)
    · exact ha
  split
  · exact ⟨_, rfl, hb.trans (State.runQueue_calm _ _ _ _)⟩
  · exact calmRow_self s

theorem execTranslationFault_calm (ch : Ch) (r : Reader) (space va : Nat) (acc : Access) (s : State) :
    CalmRow (execTranslationFault ch r space va acc s) s := by
  unfold execTranslationFault
  extract_lets c
  repeat' split
  · exact calmRow_self s
  · exact ⟨_, rfl, (State.Calm.mod _ _ _).trans (State.halted_calm _ _ _ _)⟩
  · exact calmRow_self s

theorem execInitTrap_calm (ch : Ch) (r : Reader) (addr : Nat) (s : State) : CalmRow (execInitTrap ch r addr s) s := by
  unfold execInitTrap
  extract_lets c
  split
  · exact ⟨_, rfl, (State.Calm.mod _ _ _).trans (State.trapped_calm _ _ _)⟩
  · exact calmRow_self s

theorem execScrubUeAction_calm (ch : Ch) (addr lane : Nat) (s : State) : CalmRow (execScrubUeAction ch addr lane s) s := by
  unfold execScrubUeAction
  extract_lets c due
  split
  · exact ⟨_, rfl, .ite ((State.Calm.put _ _ _).trans (State.withdraw_calm _ _)) (.put _ _ _)⟩
  · exact calmRow_self s

theorem execBankRetire_calm (ch : Ch) (bank : Nat) (s : State) : CalmRow (execBankRetire ch bank s) s := by
  unfold execBankRetire
  extract_lets v a
  split
  · exact ⟨_, rfl, (s.withdraw_calm ch).trans (.mod _ _ _)⟩
  · exact calmRow_self s

theorem execFlipApply_calm (ch : Ch) (w : Writer) (addr : Nat) (lanes : BitVec 4) (data : Word) (s : State) :
    CalmRow (execFlipApply ch w addr lanes data s) s := by
  unfold execFlipApply
  extract_lets v c
  split
  · exact calmRow_self s
  · split
    · exact ⟨_, rfl, .mod _ _ _⟩
    · split
      · exact ⟨_, rfl, (State.Calm.mod _ _ _).trans (State.trapped_calm _ _ _)⟩
      · split
        · exact ⟨_, rfl, .mod _ _ _⟩
        · exact ⟨_, rfl, .mod _ _ _⟩

theorem execBistSlice_calm (ch : Ch) (block slice idleUs : Nat) (results : List Word) (hot : List (Nat × Pair)) (s : State) :
    CalmRow (execBistSlice ch block slice idleUs results hot s) s := by
  unfold execBistSlice
  extract_lets c a
  split
  · refine ⟨_, rfl, ?_⟩
    split
    · exact (State.Calm.put _ _ _).trans (.allLive _ _)
    · exact .put _ _ _
  · exact calmRow_self s

theorem execRecordAppend_calm (ch : Ch) (s : State) : CalmRow (execRecordAppend ch s) s := by
  unfold execRecordAppend
  extract_lets c
  split
  · exact calmRow_self s
  · split
    · exact ⟨_, rfl, .of_keeps (.of_same rfl rfl rfl rfl) rfl⟩
    · refine ⟨_, rfl, ?_⟩
      split
      · exact .put _ _ _
      · exact .refl _

theorem execCommitDecision_calm (key : PairKey) (s : State) : CalmRow (execCommitDecision key s) s :=
  ⟨_, rfl, (State.Calm.foldl _ _ (fun s ch => s.decideFor_calm key _ ch) s).trans (.of_keeps (.of_same rfl rfl rfl rfl) rfl)⟩

theorem execBasicCycleStart_calm (ch : Ch) (now : Nat) (s : State) : CalmRow (execBasicCycleStart ch now s) s := by
  unfold execBasicCycleStart
  extract_lets c serial variant draw a
  have ha : s.Calm a := (State.Calm.drawn s).trans (.mod _ _ _)
  repeat' split
  · exact ⟨_, rfl, (ha.trans (.mod _ _ _)).trans (State.withdraw_calm _ _)⟩
  · exact ⟨_, rfl, ha⟩
  · exact calmRow_self s

theorem execArp_calm (target : Word) (s : State) : CalmRow (execArp target s) s := by
  unfold execArp
  split
  · refine ⟨_, rfl, ?_⟩
    split
    · exact .of_keeps (.of_same rfl rfl rfl rfl) rfl
    · exact .refl _
  · exact calmRow_self s

theorem execIcmpEcho_calm (target : Word) (size now : Nat) (s : State) : CalmRow (execIcmpEcho target size now s) s := by
  unfold execIcmpEcho
  split
  · refine ⟨_, rfl, ?_⟩
    split
    · exact .of_keeps (.of_same rfl rfl rfl rfl) rfl
    · exact .refl _
  · exact calmRow_self s

theorem execHostHubFailure_calm (s : State) : CalmRow (execHostHubFailure s) s :=
  ⟨_, rfl, .of_keeps (.of_same rfl rfl rfl rfl) rfl⟩

theorem execHostHubRecovery_calm (s : State) : CalmRow (execHostHubRecovery s) s :=
  have woken : s.Calm { s with hub := { s.hub with alive := true } } := .of_keeps (.of_same rfl rfl rfl rfl) rfl
  ⟨_, rfl, woken.trans (.allLive _ _)⟩

theorem execBadOpcode_calm (op : Nat) (p : Pkt) (s : State) : CalmRow (execBadOpcode op p s) s := by
  refine ⟨_, rfl, ?_⟩
  split
  · exact .refl _
  · exact .packet _ _ _ fun ch s => .refl s ch

theorem HostRow.calm {op : Nat} {i : Pkt → Instr} {f : Pkt → Ch → State → State} (h : HostRow op i f) (p : Pkt) (s : State) :
    CalmRow (exec (i p) s) s := ⟨_, h.exec_eq p s, .packet _ _ _ (h.step p)⟩

/-! ### Every row -/

/-- A row that no single channel is home to, and that cannot arm the Hedgehog, completes in a calm change. -/
theorem exec_calm_of_shared (i : Instr) (s : State) (harm : i.mayArm = false) (hhome : i.home = none) :
    CalmRow (exec i s) s := by
  cases i <;> first | (cases hhome; done) | (cases harm; done) | skip
  case feedLoss => exact execFeedLoss_calm _ _ _
  case holdupExhausted => exact execHoldupExhausted_calm _
  case powerOnReset => exact execPowerOnReset_calm _ _
  case hostHubFailure => exact execHostHubFailure_calm _
  case samplerStall => exact execSamplerStall_calm _ _
  case inputAgreement => exact execInputAgreement_calm _ _
  case tileReload => exact execTileReload_calm _ _ _ _ _
  case progTileVerify => exact execProgTileVerify_calm _ _ _ _ _ _
  case verdict => exact execVerdict_calm _ _ _ _ _
  case cutLineChange => exact execCutLineChange_calm _ _ _ _
  case oneSidedLimit => exact execOneSidedLimit_calm _ _
  case voterFault => exact execVoterFault_calm _ _
  case degLimitExpired => exact execDegLimitExpired_calm _ _
  case hedgehogTrip => exact execHedgehogTrip_calm _ _
  case dmaDescriptor => exact execDmaDescriptor_calm _ _ _ _
  case dmaStop => exact execDmaStop_calm _ _ _
  case translationFault => exact execTranslationFault_calm _ _ _ _ _ _
  case initTrap => exact execInitTrap_calm _ _ _ _
  case scrubUeAction => exact execScrubUeAction_calm _ _ _ _
  case bankRetire => exact execBankRetire_calm _ _ _
  case flipApply => exact execFlipApply_calm _ _ _ _ _ _
  case bistSlice => exact execBistSlice_calm _ _ _ _ _ _ _
  case recordAppend => exact execRecordAppend_calm _ _
  case commitDecision => exact execCommitDecision_calm _ _
  case arp => exact execArp_calm _ _
  case icmpEcho => exact execIcmpEcho_calm _ _ _ _
  case hostHubRecovery => exact execHostHubRecovery_calm _
  case basicCycleStart => exact execBasicCycleStart_calm _ _ _
  case badOpcode => exact execBadOpcode_calm _ _ _
  case emergencyRelease => exact (hostRow_submit fun _ _ => rfl).calm _ _
  case unblock => exact (hostRow_submit fun _ _ => rfl).calm _ _
  case clearTaskFault => exact (hostRow_submit fun _ _ => rfl).calm _ _
  case clearLockout => exact (hostRow_submit fun _ _ => rfl).calm _ _
  case hedgehogRearm => exact (hostRow_submit fun _ _ => rfl).calm _ _
  case gateIsolate => exact (hostRow_submit fun _ _ => rfl).calm _ _
  case plungerReset => exact (hostRow_submit fun _ _ => rfl).calm _ _
  case reintegrate => exact (hostRow_submit fun _ _ => rfl).calm _ _
  case exchArm => exact (hostRow_submit fun _ _ => rfl).calm _ _
  case switchover => exact (hostRow_submit fun _ _ => rfl).calm _ _
  case recorderClear => exact (hostRow_submit fun _ _ => rfl).calm _ _
  case restoreFactory => exact (hostRow_submit fun _ _ => rfl).calm _ _
  case routeSet => exact (hostRow_submit fun _ _ => rfl).calm _ _
  case routeCancel => exact (hostRow_submit fun _ _ => rfl).calm _ _
  case pointNormal => exact (hostRow_submit fun _ _ => rfl).calm _ _
  case pointReverse => exact (hostRow_submit fun _ _ => rfl).calm _ _
  case keyRelease => exact (hostRow_submit fun _ _ => rfl).calm _ _
  case blockRequest => exact (hostRow_submit fun _ _ => rfl).calm _ _
  case gateReset => exact (hostRow_submit fun _ _ => rfl).calm _ _
  case gateIsolEnd => exact (hostRow_submit fun _ _ => rfl).calm _ _
  case gateServiceReset => exact (hostRow_submit fun _ _ => rfl).calm _ _
  case resync => exact (hostRow_submit fun _ _ => rfl).calm _ _
  case xferAbandon => exact (hostRow_submit fun _ _ => rfl).calm _ _
  case getStatus => exact hostRow_getStatus.calm _ _
  case getIdentity => exact hostRow_getIdentity.calm _ _
  case openSession => exact hostRow_openSession.calm _ _
  case closeSession => exact hostRow_closeSession.calm _ _
  case nop => exact hostRow_nop.calm _ _
  case readParam => exact hostRow_readParam.calm _ _
  case readBlock => exact hostRow_readBlock.calm _ _
  case writeParam => exact hostRow_writeParam.calm _ _
  case loadBegin => exact hostRow_loadBegin.calm _ _
  case loadData => exact hostRow_loadData.calm _ _
  case loadEnd => exact hostRow_loadEnd.calm _ _
  case exchVerify => exact hostRow_exchVerify.calm _ _
  case exchAbort => exact hostRow_exchAbort.calm _ _
  case snapOpen => exact hostRow_snapOpen.calm _ _
  case snapRead => exact hostRow_snapRead.calm _ _
  case windowGet => exact hostRow_windowGet.calm _ _
  case snapClose => exact hostRow_snapClose.calm _ _
  case requestResult => exact hostRow_requestResult.calm _ _
  case portRestart => exact hostRow_portRestart.calm _ _
  case quote => exact hostRow_quote.calm _ _
  case getCert => exact hostRow_getCert.calm _ _
  case keyEnrol => exact hostRow_keyEnrol.calm _ _
  case keyRead => exact hostRow_keyRead.calm _ _
  case calRead => exact hostRow_calRead.calm _ _
  case calWrite => exact hostRow_calWrite.calm _ _

/-- A row that cannot arm the Hedgehog completes in a calm change. -/
theorem exec_calm (i : Instr) (s : State) (harm : i.mayArm = false) : CalmRow (exec i s) s := by
  cases hhome : i.home with
  | some ch =>
    obtain ⟨t, ht, only⟩ := exec_home s hhome
    exact ⟨t, ht, .onlyAt only⟩
  | none => exact exec_calm_of_shared i s harm hhome

end Sys2Proof.Machine

/-! PROOFS. The module as a whole (spec/01_architecture.md R11, R17, spec/06 R169, spec/07 R201, R202): what every step keeps,
what no single channel can do, and what can arm the Hedgehog. -/

namespace Sys2Proof.Machine

open Sys2Proof

/-! ### The rows that can arm the Hedgehog -/

/-- A row completes and keeps what every command keeps. -/
def KeepsRow (o : Host.Outcome State Fault Refusal) (s : State) : Prop := ∃ t, o = .next t ∧ s.Keeps t

theorem CalmRow.keepsRow {o : Host.Outcome State Fault Refusal} {s : State} : CalmRow o s → KeepsRow o s
  | ⟨t, h, calm⟩ => ⟨t, h, calm.keeps⟩

theorem keepsRow_self (s : State) : KeepsRow (.next s) s := ⟨s, rfl, .refl s⟩

theorem execStartupPhaseComplete_keeps (ch : Ch) (r : PhaseReport) (s : State) :
    KeepsRow (execStartupPhaseComplete ch r s) s := by
  unfold execStartupPhaseComplete
  extract_lets c v
  split
  · exact keepsRow_self s
  · split
    · exact ⟨_, rfl, s.put_keeps _ _⟩
    · exact ⟨_, rfl, (s.put_keeps _ _).trans (State.judgeAddress_keeps _)⟩
    · exact ⟨_, rfl, s.put_keeps _ _⟩
    · exact ⟨_, rfl, s.put_keeps _ _⟩
    · refine ⟨_, rfl, ?_⟩
      split
      · exact s.put_keeps _ _
      · exact .refl _
    · exact ⟨_, rfl, s.put_keeps _ _⟩
    · refine ⟨_, rfl, ?_⟩
      split
      · exact (s.put_keeps _ _).trans (State.enterP7_keeps _ _ _)
      · exact .refl _
    · exact keepsRow_self s

theorem execTaskRelease_keeps (ch : Ch) (offset now snaps : Nat) (back : Word) (warn : BitVec 4) (s : State) :
    KeepsRow (execTaskRelease ch offset now snaps back warn s) s := by
  have begun : ∀ (t : State) (main : Nat), t.Keeps (if offset == 0 then t.beginMain ch main now else t) := by
    intro t main
    split
    · exact t.beginMain_keeps _ _ _
    · exact .refl t
  unfold execTaskRelease
  extract_lets c
  split
  · split
    · exact ⟨_, rfl, s.actOnSeal_keeps ch⟩
    · exact ⟨_, rfl, ((((s.mod_keeps _ _).trans (State.mod_keeps _ _ _)).trans (begun _ _)).trans
        (State.releaseTasks_keeps _ _ _ _)).trans (State.mod_keeps _ _ _)⟩
  · exact keepsRow_self s

theorem execPage_keeps (ch frm : Ch) (l : Link) (page : Nat) (data : List Word) (s : State) :
    KeepsRow (execPage ch frm l page data s) s := by
  unfold execPage
  extract_lets c
  split
  · exact keepsRow_self s
  · dsimp only
    repeat' split
    · exact ⟨_, rfl, s.put_keeps _ _⟩
    · exact ⟨_, rfl, (s.put_keeps _ _).trans (State.tryProbation_keeps _ _)⟩
    · exact ⟨_, rfl, s.put_keeps _ _⟩
    · exact ⟨_, rfl, s.put_keeps _ _⟩

theorem execJoin_keeps (ch frm : Ch) (l : Link) (cycle pages : Nat) (s : State) :
    KeepsRow (execJoin ch frm l cycle pages s) s := by
  unfold execJoin
  extract_lets c
  split
  · exact keepsRow_self s
  · dsimp only
    split
    · exact ⟨_, rfl, (s.put_keeps _ _).trans (State.tryProbation_keeps _ _)⟩
    · exact ⟨_, rfl, s.put_keeps _ _⟩

theorem execPartnerAgreement_keeps (ch : Ch) (s : State) : KeepsRow (execPartnerAgreement ch s) s := by
  unfold execPartnerAgreement
  extract_lets c
  split
  · split
    · split
      · exact ⟨_, rfl, ((s.mod_keeps _ _).trans (State.mod_keeps _ _ _)).trans (State.startRuns_keeps _ _ _)⟩
      · exact ⟨_, rfl, s.mod_keeps _ _⟩
    · split
      · split
        · exact ⟨_, rfl, s.mod_keeps _ _⟩
        · split
          · exact ⟨_, rfl, s.mod_keeps _ _⟩
          · exact ⟨_, rfl, s.mod_keeps _ _⟩
      · exact ⟨_, rfl, s.mod_keeps _ _⟩
  · exact keepsRow_self s

theorem execRunIn_keeps (ch : Ch) (l : PLink) (r : RunInput) (s : State) : KeepsRow (execRunIn ch l r s) s :=
  ⟨_, rfl, (s.takenP_keeps _ _ _ _).trans (State.replayNext_keeps _ _)⟩

theorem execVoteDecision_keeps (ch : Ch) (task execUs : Nat) (s : State) : KeepsRow (execVoteDecision ch task execUs s) s := by
  unfold execVoteDecision
  extract_lets c k
  split
  · split
    · exact ⟨_, rfl, (s.mod_keeps _ _).trans (State.mod_keeps _ _ _)⟩
    · exact ⟨_, rfl, (s.mod_keeps _ _).trans (State.carryOut_keeps _ _ _ _ _)⟩
  · exact keepsRow_self s

theorem execXferVerify_keeps (ch : Ch) (s : State) : KeepsRow (execXferVerify ch s) s := by
  unfold execXferVerify
  extract_lets c
  split
  · split
    · exact ⟨_, rfl, (s.mod_keeps _ _).trans (State.replayNext_keeps _ _)⟩
    · exact keepsRow_self s
  · exact keepsRow_self s

/-- Every row completes and keeps what every command keeps. -/
theorem exec_keeps (i : Instr) (s : State) : KeepsRow (exec i s) s := by
  cases harm : i.mayArm with
  | false => exact (exec_calm i s harm).keepsRow
  | true =>
    cases i <;> first | (cases harm; done) | skip
    case startupPhaseComplete => exact execStartupPhaseComplete_keeps _ _ _
    case taskRelease => exact execTaskRelease_keeps _ _ _ _ _ _ _
    case voteDecision => exact execVoteDecision_keeps _ _ _ _
    case page => exact execPage_keeps _ _ _ _ _ _
    case join => exact execJoin_keeps _ _ _ _ _ _
    case partnerAgreement => exact execPartnerAgreement_keeps _ _
    case xferVerify => exact execXferVerify_keeps _ _
    case runIn => exact execRunIn_keeps _ _ _ _

/-! ### What the step does, and the hardware that the channels share -/

/-- A link that nothing waits for begins nothing. -/
theorem Chan.drainLinks_of_nothing {c : Chan} (me : Ch) (hx : c.xwait = []) (hp : c.pwait = []) : c.drainLinks me = c := by
  simp [Chan.drainLinks, Chan.xdrain, Chan.pdrain, hx, hp]

/-- A change that moves no channel that executes moves nothing. -/
theorem State.allLive_eq_self {s : State} {f : Ch → Chan → Chan} (h : ∀ x, (s.ch x).live = true → f x (s.ch x) = s.ch x) :
    s.allLive f = s := by
  have hch : ∀ x, (s.allLive f).chans.get x = s.chans.get x := by
    intro x
    show (s.allLive f).ch x = s.ch x
    rw [State.allLive_ch]
    split
    · next hx => exact h x hx
    · rfl
  rw [State.allLive_eq, Tri.ext_get hch]

/-- Settles O1: the two arms of `step` by definition, and a state in which no link has work is the one it meets. -/
theorem stepRunsTheFront : Obligations.StepRunsTheFront := by
  unfold Obligations.StepRunsTheFront
  refine ⟨fun s i rest h => by simp [step, h], fun s h => by simp [step, h, State.idle], fun s h quiet => ?_⟩
  have hidle : s.idle = s := State.allLive_eq_self fun x hx =>
    (s.ch x).drainLinks_of_nothing x (quiet x hx).1 (quiet x hx).2
  simp [step, h, hidle]

/-- Settles O2, by `exec_keeps`. -/
theorem everyCommandCompletes : Obligations.EveryCommandCompletes := by
  unfold Obligations.EveryCommandCompletes
  intro i s
  obtain ⟨t, ht, keeps⟩ := exec_keeps i s
  exact ⟨t, ht, keeps.factory, keeps.pending⟩

/-- Settles O3: the reset state is closed and computes. -/
theorem resetIsSafe : Obligations.ResetIsSafe := by
  unfold Obligations.ResetIsSafe
  have hinv : State.reset.Inv := by
    refine ⟨⟨by decide, by decide, by decide⟩, fun x y hx _ => ?_⟩
    cases x <;> exact absurd hx (by decide)
  have henergised : ∀ n, State.reset.energised n = false := fun n => by
    have hcopy : State.reset.hedgehog.copy1 = true := by decide
    simp [State.energised, hcopy]
  refine ⟨rfl, hinv, fun x => ?_, henergised, rfl, rfl⟩
  cases x <;> decide

/-- A step keeps what a command keeps, on an empty queue too. -/
theorem step_inv {s t : State} (h : step s = .next t) (hinv : s.Inv) : t.Inv := by
  unfold step at h
  split at h
  · cases h
    exact (State.idle_keeps s).inv hinv
  · next i rest _ =>
    obtain ⟨u, hu, keeps⟩ := exec_keeps i { s with pending := rest }
    rw [hu] at h
    cases h
    exact keeps.inv ⟨hinv.1, hinv.2⟩

/-- Settles O4, by `exec_keeps` for the command at the front and `State.idle_keeps` for an empty queue. -/
theorem sharedHardwareIsKept : Obligations.SharedHardwareIsKept := by
  unfold Obligations.SharedHardwareIsKept
  exact fun s t hinv h => step_inv h hinv

/-- Settles O5, by `exec_home`. -/
theorem eventsStayAtHome : Obligations.EventsStayAtHome := by
  unfold Obligations.EventsStayAtHome
  intro i ch s t hhome h
  obtain ⟨u, hu, only⟩ := exec_home s hhome
  rw [hu] at h
  cases h
  exact only

/-- Two channels of the three are two different ones. -/
theorem twoOf_exists {p : Ch → Bool} (h : twoOf p = true) : ∃ x y, x ≠ y ∧ p x = true ∧ p y = true := by
  simp only [twoOf, Bool.or_eq_true, Bool.and_eq_true] at h
  rcases h with (⟨ha, hb⟩ | ⟨hb, hc⟩) | ⟨hc, ha⟩
  · exact ⟨.a, .b, by decide, ha, hb⟩
  · exact ⟨.b, .c, by decide, hb, hc⟩
  · exact ⟨.c, .a, by decide, hc, ha⟩

/-- One channel of the three makes no two. -/
theorem twoOf_eq_false {p : Ch → Bool} {ch : Ch} (h : ∀ x, x ≠ ch → p x = false) : twoOf p = false := by
  by_contra hp
  obtain ⟨x, y, hxy, hx, hy⟩ := twoOf_exists (by simpa using hp)
  have key : ∀ z, p z = true → z = ch := fun z hz => by
    by_contra hne
    simp [h z hne] at hz
  exact hxy ((key x hx).trans (key y hy).symm)

/-- A channel's high-side switches, as the network passes them on, are those of a state that differs elsewhere. -/
theorem State.OnlyAt.highClosed {s t : State} {ch x : Ch} (h : s.OnlyAt t ch) (hx : x ≠ ch) (n : Nat) :
    t.highClosed x n = s.highClosed x n := by
  obtain ⟨hother, -, -, -, hnet, -, -⟩ := State.onlyAt_iff.mp h
  simp only [State.highClosed, State.driving, hnet, hother x hx]

/-- Settles O6: a row of one channel leaves the partners' switches, so no two channels close them; a path of the network takes
two drives, and the copies of a consistent Hedgehog are released only while it is armed. -/
theorem oneChannelEnergisesNothing : Obligations.OneChannelEnergisesNothing := by
  unfold Obligations.OneChannelEnergisesNothing
  refine ⟨fun i ch s t n hhome h hopen => ?_, fun s n hinv hen => ?_⟩
  · have only : s.OnlyAt t ch := eventsStayAtHome i ch s t hhome h
    have hone : twoOf (fun x => t.highClosed x n) = false :=
      twoOf_eq_false fun x hx => by rw [only.highClosed hx, hopen x hx]
    simp [State.energised, hone]
  · obtain ⟨⟨-, -, harmed⟩, -⟩ := hinv
    simp only [State.energised, Bool.and_eq_true, Bool.not_eq_true'] at hen
    obtain ⟨⟨⟨hcopy, -⟩, htwo⟩, -⟩ := hen
    obtain ⟨x, y, hxy, hx, hy⟩ := twoOf_exists htwo
    have hdrive : ∀ z, s.highClosed z n = true → s.net.driveCut.get z = false := fun z hz => by
      simp only [State.highClosed, State.driving, Bool.and_eq_true, Bool.not_eq_true'] at hz
      exact hz.1
    exact ⟨harmed.mp hcopy, x, y, hxy, hx, hy, hdrive x hx, hdrive y hy⟩

/-- Settles O7, by `exec_calm`. -/
theorem fewCommandsArmTheHedgehog : Obligations.FewCommandsArmTheHedgehog := by
  unfold Obligations.FewCommandsArmTheHedgehog
  intro i s t hst h harmed
  by_contra harm
  obtain ⟨u, hu, calm⟩ := exec_calm i s (by simpa using harm)
  rw [hu] at h
  cases h
  exact calm.unarmed hst harmed

end Sys2Proof.Machine

/-! PROOFS. Leaving the vote (spec/06_triplex_voting.md R166, R167, R173): what an exclusion, a withdrawal and a safe shutdown leave in
the channel that takes them and in its partners. -/

namespace Sys2Proof.Machine

open Sys2Proof

/-! ### One channel's events -/

/-- An event that leaves its channel as it is leaves the state as it is. -/
theorem State.onLive_same {s : State} {ch : Ch} {f : Chan → Chan} (h : f (s.ch ch) = s.ch ch) : s.onLive ch f = s := by
  cases hl : (s.ch ch).live with
  | true => rw [State.onLive_eq f hl, h, State.put_self]
  | false => exact State.onLive_dead f hl

theorem Chan.starting_live {c : Chan} {n : Nat} (h : c.starting n = true) : c.live = true := by
  simp only [Chan.starting, Bool.and_eq_true] at h
  exact h.1.1

theorem Chan.running_live {c : Chan} (h : c.running = true) : c.live = true := by
  simp only [Chan.running, Bool.and_eq_true] at h
  exact h.1.1

/-! ### What writing outputs leaves alone -/

/-- A fold of steps that leave a view of the state alone leaves it alone. -/
theorem foldl_view {α β γ : Type} {g : β → γ} {f : β → α → β} (h : ∀ b a, g (f b a) = g b) (l : List α) (b : β) :
    g (l.foldl f b) = g b := by
  induction l generalizing b with
  | nil => rfl
  | cons a l ih => exact (ih (f b a)).trans (h b a)

/-- A channel but for what writing outputs can change: switches and commands, queued frames and their cells, the tasks' images. -/
def Chan.besideOutputs (c : Chan) : Chan := { c with tasks := [], dout := default, fab := default, qm := default }

/-- The runs under way, task by task. -/
def Chan.runsNow (c : Chan) : List Bool := c.tasks.map (fun k => k.running)

/-- Nothing but what writing outputs can change differs, and no run begins or ends. -/
structure Chan.Writes (c d : Chan) : Prop where
  beside : d.besideOutputs = c.besideOutputs
  runs : d.runsNow = c.runsNow

namespace Chan.Writes

variable {c d e : Chan}

theorem refl (c : Chan) : c.Writes c := ⟨rfl, rfl⟩

theorem trans (h : c.Writes d) (k : d.Writes e) : c.Writes e := ⟨k.beside.trans h.beside, k.runs.trans h.runs⟩

theorem foldl {α : Type} {f : Chan → α → Chan} (h : ∀ c a, Chan.Writes c (f c a)) (l : List α) (c : Chan) :
    c.Writes (l.foldl f c) := ⟨foldl_view (fun c a => (h c a).beside) l c, foldl_view (fun c a => (h c a).runs) l c⟩

end Chan.Writes

theorem Chan.queueFrame_writes {c d : Chan} {p : Port} {f : Frame} (h : c.queueFrame p f = some d) : c.Writes d := by
  obtain ⟨q, -, rfl⟩ := Option.map_eq_some_iff.mp h
  exact ⟨rfl, rfl⟩

theorem Chan.sendFrame_writes (c : Chan) (cls kind : Nat) (dest : Option Nat) (payload : List Byte) (ports : List Port) :
    c.Writes (c.sendFrame cls kind dest payload ports) := by
  unfold Chan.sendFrame
  extract_lets f d
  refine Chan.Writes.trans (d := d) ⟨rfl, rfl⟩ (.foldl (fun c p => ?_) _ d)
  cases h : c.queueFrame p f with
  | none => exact .refl c
  | some e => exact Chan.queueFrame_writes h

theorem Chan.sendVital_writes (c : Chan) (me : Ch) (d : Conn) (cls kind : Nat) (dest : Option Nat) (seq ts : Nat)
    (data : List Word) : c.Writes (c.sendVital me d cls kind dest seq ts data) := by
  unfold Chan.sendVital
  split
  · exact .refl c
  · exact c.sendFrame_writes _ _ _ _ _

theorem Chan.writeRemote_writes (c : Chan) (me : Ch) (t : Nat) (words : List Word) (seq ts : Nat) :
    c.Writes (c.writeRemote me t words seq ts) := by
  unfold Chan.writeRemote
  split
  · exact .refl c
  · extract_lets outs
    refine .foldl (fun c e => ?_) _ c
    split
    · exact c.sendVital_writes _ _ _ _ _ _ _ _
    · exact .refl c

theorem Chan.setLowSide_writes (c : Chan) : c.Writes c.setLowSide := by
  unfold Chan.setLowSide
  split
  · exact .refl c
  · exact ⟨rfl, rfl⟩

theorem Chan.writeLocal_writes (c : Chan) (t : Nat) (words : List Word) (mine : Bool) (us : Nat) :
    c.Writes (c.writeLocal t words mine us) := by
  unfold Chan.writeLocal
  extract_lets d
  have hd : c.Writes d := by
    unfold d
    split
    · exact c.setLowSide_writes
    · exact .refl c
  refine hd.trans (.foldl (fun c e => ?_) _ d)
  split
  · exact ⟨rfl, rfl⟩
  · exact .refl c

theorem Chan.issue_writes (c : Chan) (me : Ch) (t : Nat) (words : List Word) (cycle ts us : Nat) :
    c.Writes (c.issue me t words cycle ts us) := by
  unfold Chan.issue
  extract_lets d
  have hd : c.Writes d := c.writeLocal_writes _ _ _ _
  split
  · exact hd.trans (d.writeRemote_writes _ _ _ _ _)
  · exact hd

/-- A change of an entry's fields that a view does not see is none of the list's view. -/
theorem map_modAt {α β : Type} {g : α → β} {f : α → α} (h : ∀ a, g (f a) = g a) (l : List α) (k : Nat) :
    (modAt l k f).map g = l.map g := by
  unfold modAt
  split
  · next x hx =>
    rw [List.map_set, h]
    exact List.ext_getElem? fun i => by
      by_cases hi : k = i
      · subst hi
        obtain ⟨hk, rfl⟩ := List.getElem?_eq_some_iff.mp hx
        simp [hk]
      · simp [hi]
  · rfl

theorem Chan.writeSafe_writes (c : Chan) (me : Ch) (t cycle us : Nat) : c.Writes (c.writeSafe me t cycle us) :=
  Chan.Writes.trans (d := c.modTask t (fun k => { k with voted := c.safeWords t, votedCycle := cycle }))
    ⟨rfl, map_modAt (g := TaskState.running)
      (f := fun k => { k with voted := c.safeWords t, votedCycle := cycle }) (fun _ => rfl) c.tasks t⟩ (Chan.issue_writes _ _ _ _ _ _ _)

theorem Chan.writeAllSafe_writes (c : Chan) (me : Ch) : c.Writes (c.writeAllSafe me) := by
  refine .foldl (fun c t => ?_) _ c
  split
  · exact c.writeSafe_writes _ _ _ _
  · exact .refl c

/-! ### What a channel keeps while the module settles -/

/-- The recorder but for its queue and buffer: what an event found leaves alone. -/
def Rec.standing (r : Rec) : Rec :=
  { (default : Rec) with
    nextSeq := r.nextSeq, started := r.started, pending := r.pending, dissentRun := r.dissentRun, dissentCnt := r.dissentCnt }

theorem Rec.buffer_standing (r : Rec) (ready : Bool) (e : Event) : (r.buffer ready e).standing = r.standing := by
  unfold Rec.buffer
  split
  · rfl
  · split
    · rfl
    · extract_lets q
      split <;> rfl

theorem Chan.emitAt_standing (c : Chan) (m n t : Nat) (name : EvName) (obj : Nat) (data : List Word) :
    (c.emitAt m n t name obj data).recd.standing = c.recd.standing := by
  unfold Chan.emitAt
  split
  · rfl
  · dsimp only
    split
    · rfl
    · rfl
    · exact Rec.buffer_standing _ _ _

/-- What standing down leaves alone: all but outputs, recorder, alive line and trip counters, and MODE. -/
def Chan.besideSettling (c : Chan) : Chan :=
  { c.besideOutputs with safe := default, recd := c.recd.standing, vote := { c.vote with mode := 0 } }

/-- A channel as the shutdowns and trips of the module leave it: nothing closes, nothing runs that did not. -/
structure Chan.Settles (c d : Chan) : Prop where
  beside : d.besideSettling = c.besideSettling
  mode : c.vote.mode = 3 → d.vote.mode = 3
  high : c.dout.high = 0 → d.dout.high = 0
  lowSide : c.dout.lowSide = 0 → d.dout.lowSide = 0
  silent : c.safe.alive = false → d.safe.alive = false
  runs : ∀ n, (c.task n).running = false → (d.task n).running = false

namespace Chan.Settles

variable {c d e : Chan}

theorem refl (c : Chan) : c.Settles c := ⟨rfl, id, id, id, id, fun _ h => h⟩

theorem trans (h : c.Settles d) (k : d.Settles e) : c.Settles e where
  beside := k.beside.trans h.beside
  mode := k.mode ∘ h.mode
  high := k.high ∘ h.high
  lowSide := k.lowSide ∘ h.lowSide
  silent := k.silent ∘ h.silent
  runs n := k.runs n ∘ h.runs n

theorem mem (h : c.Settles d) : d.mem = c.mem := (congrArg (fun (x : Chan) => x.mem) h.beside :)

theorem tiles (h : c.Settles d) : d.tiles = c.tiles := (congrArg (fun (x : Chan) => x.tiles) h.beside :)

theorem seals (h : c.Settles d) : d.seals = c.seals := (congrArg (fun (x : Chan) => x.seals) h.beside :)

theorem reint (h : c.Settles d) : d.reint = c.reint := (congrArg (fun (x : Chan) => x.reint) h.beside :)

theorem xout (h : c.Settles d) : d.xout = c.xout := (congrArg (fun (x : Chan) => x.xout) h.beside :)

theorem inVote (h : c.Settles d) : d.vote.inVote = c.vote.inVote := (congrArg (fun (x : Chan) => x.vote.inVote) h.beside :)

theorem exclCause (h : c.Settles d) : d.vote.exclCause = c.vote.exclCause :=
  (congrArg (fun (x : Chan) => x.vote.exclCause) h.beside :)

theorem votes (h : c.Settles d) (x : Ch) : d.votes x = c.votes x := by rw [Chan.votes, h.inVote, Chan.votes]

end Chan.Settles

/-- An event changes the recorder alone. -/
theorem Chan.emitAt_eq (c : Chan) (m n t : Nat) (name : EvName) (obj : Nat) (data : List Word) :
    c.emitAt m n t name obj data = { c with recd := (c.emitAt m n t name obj data).recd } := by
  unfold Chan.emitAt
  split
  · rfl
  · split <;> rfl

theorem Chan.emit_eq (c : Chan) (name : EvName) (obj : Nat) (data : List Word) :
    c.emit name obj data = { c with recd := (c.emit name obj data).recd } := c.emitAt_eq _ _ _ _ _ _

theorem Chan.emitTask_eq (c : Chan) (t : Nat) (name : EvName) (obj : Nat) (data : List Word) :
    c.emitTask t name obj data = { c with recd := (c.emitTask t name obj data).recd } := c.emitAt_eq _ _ _ _ _ _

/-- An event found, seen beside what settling changes. -/
theorem Chan.emitAt_besideSettling (c : Chan) (m n t : Nat) (name : EvName) (obj : Nat) (data : List Word) :
    (c.emitAt m n t name obj data).besideSettling = c.besideSettling := by
  have h := c.emitAt_standing m n t name obj data
  rw [Chan.emitAt_eq]
  exact congrArg (fun r => { c.besideSettling with recd := r }) h

theorem Chan.emit_settles (c : Chan) (name : EvName) (obj : Nat) (data : List Word) : c.Settles (c.emit name obj data) := by
  have h : (c.emit name obj data).besideSettling = c.besideSettling := c.emitAt_besideSettling _ _ _ _ _ _
  refine ⟨h, ?_, ?_, ?_, ?_, ?_⟩ <;> rw [Chan.emit_eq]
  · exact id
  · exact id
  · exact id
  · exact id
  · exact fun _ h => h

theorem Chan.noteTrip_settles (c : Chan) (cause : TripCause) : c.Settles (c.noteTrip cause) :=
  Chan.Settles.trans (d := { c with safe := { c.safe with tripCnt := inc 16 c.safe.tripCnt, tripCycle := c.mainCycle % 65536 } })
    ⟨rfl, id, id, id, id, fun _ h => h⟩ (Chan.emit_settles _ _ _ _)

@[simp] theorem TaskState.stopRun_running (k : TaskState) : k.stopRun.running = false := rfl

/-- With every run ended no task runs. -/
theorem task_stopped {c : Chan} {ks : List TaskState} (h : c.tasks = ks.map TaskState.stopRun) (n : Nat) :
    (c.task n).running = false := by
  rw [Chan.task, h, List.getD_eq_getElem?_getD, List.getElem?_map]
  cases ks[n]? <;> rfl

/-- MODE latches at SAFE with every switch open and every run ended (R173). -/
theorem Chan.toSafe_settles (c : Chan) (me : Ch) (cause : Nat) :
    c.Settles (c.toSafe me cause) ∧ (c.toSafe me cause).vote.mode = 3 := by
  unfold Chan.toSafe
  split
  · next h => exact ⟨.refl c, by simpa using h⟩
  · extract_lets a w b
    have ha : a.besideSettling = c.besideSettling :=
      (congrArg (fun (x : Chan) => ({ x with safe := default, recd := x.recd.standing, vote := { x.vote with mode := 0 } } : Chan))
        (c.writeAllSafe_writes me).beside :)
    have halive : a.safe.alive = c.safe.alive :=
      (congrArg (fun (x : Chan) => x.safe.alive) (c.writeAllSafe_writes me).beside :)
    have hb : c.Settles b :=
      ⟨ha, fun _ => rfl, fun _ => rfl, fun _ => rfl, fun h => halive.trans h, fun n _ => task_stopped rfl n⟩
    exact ⟨hb.trans (b.emit_settles _ _ _), (b.emit_settles _ _ _).mode rfl⟩

/-! ### The module settles -/

/-- Every channel of the module settles. -/
def State.Settles (s t : State) : Prop := ∀ x, (s.ch x).Settles (t.ch x)

namespace State.Settles

variable {s t u : State}

theorem refl (s : State) : s.Settles s := fun x => .refl (s.ch x)

theorem trans (h : s.Settles t) (k : t.Settles u) : s.Settles u := fun x => (h x).trans (k x)

theorem mod {ch : Ch} {f : Chan → Chan} (h : (s.ch ch).Settles (f (s.ch ch))) : s.Settles (s.mod ch f) := fun x => by
  by_cases hx : x = ch
  · subst hx
    rwa [State.mod_ch]
  · rw [State.mod_ch_ne s f hx]
    exact .refl _

theorem foldl {α : Type} {f : State → α → State} (h : ∀ s a, State.Settles s (f s a)) (l : List α) (s : State) :
    s.Settles (l.foldl f s) := by
  induction l generalizing s with
  | nil => exact refl s
  | cons a l ih => exact (h s a).trans (ih (f s a))

end State.Settles

theorem State.trip_settles (s : State) (cause : TripCause) : s.Settles (s.trip cause) := by
  unfold State.trip
  extract_lets armed t
  have ht : s.Settles t := fun x => .refl (s.ch x)
  split
  · refine ht.trans fun x => ?_
    rw [State.allLive_ch]
    split
    · exact Chan.noteTrip_settles _ _
    · exact .refl _
  · exact ht

/-- An alive line that stops: the channel is silent, the others at most note the trip (R201). -/
theorem State.setAlive_false_settles (s : State) (ch : Ch) :
    s.Settles (s.setAlive ch false) ∧ ((s.setAlive ch false).ch ch).safe.alive = false := by
  unfold State.setAlive
  extract_lets t
  have ht : s.Settles t := .mod ⟨rfl, id, id, id, fun _ => rfl, fun _ h => h⟩
  have hsilent : (t.ch ch).safe.alive = false := by simp [t]
  split
  · exact ⟨ht.trans (t.trip_settles _), (t.trip_settles _ ch).silent hsilent⟩
  · exact ⟨ht, hsilent⟩

theorem State.settle_settles (s : State) (cause : Nat) : s.Settles (s.settle cause) := by
  unfold State.settle
  split
  · refine State.Settles.trans (.foldl (fun s x => ?_) Ch.all s) (.foldl (fun s x => ?_) Ch.all _)
    · split
      · exact .mod ((s.ch x).toSafe_settles x cause).1
      · exact .refl s
    · split
      · exact (s.setAlive_false_settles x).1
      · exact .refl s
  · exact .refl s

/-! ### Exclusion -/

/-- What leaving the vote leaves alone in a channel, beside what settling does: its memories, tiles, seals and the like. -/
def Chan.besideLeaving (c : Chan) : Chan :=
  { c.besideSettling with vote := default, reint := default, part := default, xout := [], xwait := [], pwait := [] }

/-- A channel that has left the vote by its own exclusion for a cause (R166). -/
structure Chan.HasLeft (c d : Chan) (me : Ch) (cause : Nat) : Prop where
  beside : d.besideLeaving = c.besideLeaving
  out : d.votes me = false
  high : d.dout.high = 0
  lowSide : d.dout.lowSide = 0
  runs : ∀ n, (d.task n).running = false
  exclCause : d.vote.exclCause = cause
  sent : ∀ q ∈ c.xout, q ∈ d.xout
  barred : d.reint.barred = c.reint.barred
  skewCnt : d.vote.skewCnt = c.vote.skewCnt

theorem putBit_getLsbD_self {n : Nat} (v : BitVec n) (k : Nat) : (putBit v k false).getLsbD k = false := by
  simp [putBit]
  intro h
  omega

theorem Chan.xsend_sent (c : Chan) (dst : Ch) (msg : XMsg) : ∀ q ∈ c.xout, q ∈ (c.xsend dst msg).xout := by
  unfold Chan.xsend
  intro q hq
  split
  · exact hq
  · split
    · exact hq
    · exact List.mem_append_left _ hq

/-- A flush changes the queues and their cells alone. -/
theorem Chan.flushWhere_eq (c : Chan) (p : Port) (gone : Frame → Bool) :
    c.flushWhere p gone = { c with fab := (c.flushWhere p gone).fab, qm := (c.flushWhere p gone).qm } := by
  unfold Chan.flushWhere
  extract_lets out
  split <;> rfl

theorem Chan.flushBoth_eq (c : Chan) (gone : Frame → Bool) :
    c.flushBoth gone = { c with fab := (c.flushBoth gone).fab, qm := (c.flushBoth gone).qm } := by
  unfold Chan.flushBoth
  rw [Chan.flushWhere_eq (c.flushWhere .x gone), Chan.flushWhere_eq c]

theorem Chan.xsendBoth_sent (c : Chan) (me : Ch) (msg : XMsg) : ∀ q ∈ c.xout, q ∈ (c.xsendBoth me msg).xout :=
  fun q hq => Chan.xsend_sent _ _ _ q (Chan.xsend_sent _ _ _ q hq)

theorem Chan.xsend_besideLeaving (c : Chan) (dst : Ch) (msg : XMsg) : (c.xsend dst msg).besideLeaving = c.besideLeaving := by
  unfold Chan.xsend
  split
  · rfl
  · split <;> rfl

theorem Chan.xsendBoth_besideLeaving (c : Chan) (me : Ch) (msg : XMsg) : (c.xsendBoth me msg).besideLeaving = c.besideLeaving :=
  (Chan.xsend_besideLeaving _ _ _).trans (Chan.xsend_besideLeaving _ _ _)

/-- The registers that an exclusion resets at once (R166). -/
def Chan.standsDown (c : Chan) (me : Ch) (cause : Nat) : Chan :=
  { c.openSwitches with
    tasks := c.tasks.map TaskState.stopRun
    vote :=
      { c.vote with
        inVote := putBit c.vote.inVote me.code false
        mode := if c.vote.mode == 1 then 2 else c.vote.mode
        exclCause := cause
        single := 0, naming := none }
    reint :=
      { c.reint with phase := 0, join := none, acks := Tri.const false, commanded := false, source := none, since := c.clock }
    part := { c.part with sending := none, feeding := false }
    xwait := [], pwait := [] }

/-- What an exclusion announces and flushes leaves the reset registers alone. -/
theorem Chan.HasLeft.announced {c d : Chan} {me : Ch} {cause : Nat} (h : c.HasLeft d me cause) (msg : XMsg) (task : Nat)
    (data : List Word) :
    c.HasLeft ((d.flushVital.xsendBoth me msg).emitTask task .exclusion me.code data) me cause := by
  obtain ⟨hb, hout, hhigh, hlow, hruns, hcause, hsent, hbarred, hskew⟩ := h
  unfold Chan.flushVital
  rw [Chan.flushBoth_eq]
  constructor
  · refine Eq.trans (congrArg (fun (x : Chan) => ({ x with vote := default, reint := default, part := default, xout := [], xwait := [], pwait := [] } : Chan)) (Chan.emitAt_besideSettling _ _ _ _ _ _ _)) ?_
    exact (Chan.xsendBoth_besideLeaving _ _ _).trans hb
  · simpa [Chan.votes] using hout
  · simpa using hhigh
  · simpa using hlow
  · simpa [Chan.task] using hruns
  · simpa using hcause
  · intro q hq
    rw [Chan.emitTask_xout]
    exact Chan.xsendBoth_sent _ _ _ q (hsent q hq)
  · simpa using hbarred
  · simpa using hskew

theorem Chan.standsDown_hasLeft (c : Chan) (me : Ch) (cause : Nat) : c.HasLeft (c.standsDown me cause) me cause :=
  ⟨rfl, putBit_getLsbD_self _ _, rfl, rfl, task_stopped (ks := c.tasks) rfl, rfl, fun _ h => h, rfl, rfl⟩

theorem Chan.leave_hasLeft (c : Chan) (me : Ch) (task cycle cause : Nat) :
    c.HasLeft (c.leave me task cycle cause) me cause := (c.standsDown_hasLeft me cause).announced _ _ _

/-- An exclusion from the vote (R166): the channel has left it and settles, its alive line stopped; its partners at most settle. -/
theorem State.exclude_left {s : State} {ch : Ch} (hrun : (s.ch ch).running = true) (hvote : (s.ch ch).votes ch = true)
    (task cycle cause : Nat) :
    ∃ d, (s.ch ch).HasLeft d ch cause ∧ d.Settles ((s.exclude ch task cycle cause).ch ch) ∧
      ((s.exclude ch task cycle cause).ch ch).safe.alive = false ∧
      ∀ x, x ≠ ch → (s.ch x).Settles ((s.exclude ch task cycle cause).ch x) := by
  unfold State.exclude
  rw [if_pos (by simp [hrun, hvote])]
  extract_lets u
  obtain ⟨ha, hsilent⟩ := u.setAlive_false_settles ch
  have hs := (u.setAlive ch false).settle_settles cause
  refine ⟨(s.ch ch).leave ch task cycle cause, Chan.leave_hasLeft _ _ _ _ _, ?_, (hs ch).silent hsilent, fun x hx => ?_⟩
  · have h := (ha.trans hs) ch
    rwa [State.mod_ch] at h
  · have h := (ha.trans hs) x
    rwa [State.mod_ch_ne _ _ hx] at h

/-- A channel that is out of the vote by its own exclusion: what it keeps of `c` and what it has given up. -/
structure Chan.Gone (c d : Chan) (me : Ch) (cause : Nat) : Prop where
  mem : d.mem = c.mem
  tiles : d.tiles = c.tiles
  seals : d.seals = c.seals
  din : d.din = c.din
  blocks : d.blocks = c.blocks
  sync : d.sync = c.sync
  standing : d.recd.standing = c.recd.standing
  nv : d.nv = c.nv
  boot : d.boot = c.boot
  supply : d.supply = c.supply
  out : d.votes me = false
  high : d.dout.high = 0
  lowSide : d.dout.lowSide = 0
  silent : d.safe.alive = false
  runs : ∀ n, (d.task n).running = false
  exclCause : d.vote.exclCause = cause
  sent : ∀ q ∈ c.xout, q ∈ d.xout
  barred : d.reint.barred = c.reint.barred
  skewCnt : d.vote.skewCnt = c.vote.skewCnt

theorem Chan.HasLeft.gone {c d e : Chan} {me : Ch} {cause : Nat} (h : c.HasLeft d me cause) (k : d.Settles e)
    (hsilent : e.safe.alive = false) : c.Gone e me cause where
  mem := k.mem.trans (congrArg (fun (x : Chan) => x.mem) h.beside :)
  tiles := k.tiles.trans (congrArg (fun (x : Chan) => x.tiles) h.beside :)
  seals := k.seals.trans (congrArg (fun (x : Chan) => x.seals) h.beside :)
  din := (congrArg (fun (x : Chan) => x.din) k.beside :).trans (congrArg (fun (x : Chan) => x.din) h.beside :)
  blocks := (congrArg (fun (x : Chan) => x.blocks) k.beside :).trans (congrArg (fun (x : Chan) => x.blocks) h.beside :)
  sync := (congrArg (fun (x : Chan) => x.sync) k.beside :).trans (congrArg (fun (x : Chan) => x.sync) h.beside :)
  out := (k.votes me).trans h.out
  high := k.high h.high
  lowSide := k.lowSide h.lowSide
  silent := hsilent
  runs n := k.runs n (h.runs n)
  standing := (congrArg (fun (x : Chan) => x.recd) k.beside :).trans (congrArg (fun (x : Chan) => x.recd) h.beside :)
  nv := (congrArg (fun (x : Chan) => x.nv) k.beside :).trans (congrArg (fun (x : Chan) => x.nv) h.beside :)
  boot := (congrArg (fun (x : Chan) => x.boot) k.beside :).trans (congrArg (fun (x : Chan) => x.boot) h.beside :)
  supply := (congrArg (fun (x : Chan) => x.supply) k.beside :).trans (congrArg (fun (x : Chan) => x.supply) h.beside :)
  exclCause := k.exclCause.trans h.exclCause
  sent q hq := k.xout ▸ h.sent q hq
  barred := (congrArg (fun r => r.barred) k.reint).trans h.barred
  skewCnt := (congrArg (fun (x : Chan) => x.vote.skewCnt) k.beside :).trans h.skewCnt

/-- With no run under way in any task, none of the list runs. -/
theorem Chan.Gone.all_runs {c d : Chan} {me : Ch} {cause : Nat} (h : c.Gone d me cause) : ∀ k ∈ d.tasks, k.running = false := by
  intro k hk
  obtain ⟨n, hn⟩ := List.mem_iff_getElem?.mp hk
  have := h.runs n
  rwa [Chan.task, List.getD_eq_getElem?_getD, hn] at this

theorem State.exclude_gone {s : State} {ch : Ch} (hrun : (s.ch ch).running = true) (hvote : (s.ch ch).votes ch = true)
    (task cycle cause : Nat) :
    (s.ch ch).Gone ((s.exclude ch task cycle cause).ch ch) ch cause ∧
      ∀ x, x ≠ ch → (s.ch x).Settles ((s.exclude ch task cycle cause).ch x) := by
  obtain ⟨d, hleft, hset, hsilent, hothers⟩ := s.exclude_left hrun hvote task cycle cause
  exact ⟨hleft.gone hset hsilent, hothers⟩

/-- A withdrawal from the vote (R167) is an exclusion of cause 4 with a VERDICT for both partners. -/
theorem State.withdraw_gone {s : State} {ch : Ch} (hrun : (s.ch ch).running = true) (hvote : (s.ch ch).votes ch = true) :
    (s.ch ch).Gone ((s.withdraw ch).ch ch) ch 4 ∧ ∀ x, x ≠ ch → (s.ch x).Settles ((s.withdraw ch).ch x) := by
  unfold State.withdraw
  extract_lets c t cycle v u
  rw [if_pos (by simp [c, hrun, hvote])]
  have hu : u.ch ch = ({ c with vote := { c.vote with
      withdrawn := true, outcome := outcomeWord t cycle 4 0 0 } } : Chan).xsendBoth ch (.verdict v) := State.mod_ch _ _ _
  obtain ⟨hg, hothers⟩ := u.exclude_gone (ch := ch) (by simpa [hu, Chan.running, Chan.live] using hrun)
    (by simpa [hu, Chan.votes] using hvote) t cycle 4
  refine ⟨{ hg with
    mem := hg.mem.trans (by simp [hu, c])
    tiles := hg.tiles.trans (by simp [hu, c])
    seals := hg.seals.trans (by simp [hu, c])
    din := hg.din.trans (by simp [hu, c])
    blocks := hg.blocks.trans (by simp [hu, c])
    sync := hg.sync.trans (by simp [hu, c])
    standing := hg.standing.trans (by simp [hu, c])
    nv := hg.nv.trans (by simp [hu, c])
    boot := hg.boot.trans (by simp [hu, c])
    supply := hg.supply.trans (by simp [hu, c])
    sent := fun q hq => hg.sent q (hu ▸ Chan.xsendBoth_sent _ _ _ q hq)
    barred := hg.barred.trans (by simp [hu, c])
    skewCnt := hg.skewCnt.trans (by simp [hu, c]) }, fun x hx => ?_⟩
  have h := hothers x hx
  rwa [State.mod_ch_ne _ _ hx] at h

theorem State.withdraw_of_not {s : State} {ch : Ch} (h : (s.ch ch).running = false ∨ (s.ch ch).votes ch = false) :
    s.withdraw ch = s := by
  unfold State.withdraw
  extract_lets c
  rw [if_neg]
  rcases h with h | h <;> simp [c, h]

/-! ### The module's other hardware, and the channels beside -/

@[simp] theorem State.settle_comparator (s : State) (cause : Nat) : (s.settle cause).comparator = s.comparator := by
  unfold State.settle
  split
  · refine (foldl_view (g := fun (t : State) => t.comparator) (fun t x => ?_) _ _).trans
      (foldl_view (g := fun (t : State) => t.comparator) (fun t x => ?_) _ _) <;> split <;> simp
  · rfl

@[simp] theorem State.exclude_comparator (s : State) (ch : Ch) (task cycle cause : Nat) :
    (s.exclude ch task cycle cause).comparator = s.comparator := by
  unfold State.exclude
  split <;> simp

@[simp] theorem State.withdraw_comparator (s : State) (ch : Ch) : (s.withdraw ch).comparator = s.comparator := by
  unfold State.withdraw
  extract_lets c t cycle v u
  split
  · simp [u]
  · rfl

/-- A withdrawal, or none, lets the channels beside at most settle. -/
theorem State.withdraw_beside (s : State) {ch x : Ch} (hx : x ≠ ch) : (s.ch x).Settles ((s.withdraw ch).ch x) := by
  by_cases h : (s.ch ch).running = true ∧ (s.ch ch).votes ch = true
  · exact (s.withdraw_gone h.1 h.2).2 x hx
  · rw [s.withdraw_of_not (by simpa [imp_iff_not_or] using h)]
    exact .refl _

/-- A sweep of steps that let the channels beside at most settle: one channel is changed by its own step, before and after which it
settles. -/
theorem State.foldl_all_settles {f : State → Ch → State} (h : ∀ (s : State) (y x : Ch), x ≠ y → (s.ch x).Settles ((f s y).ch x))
    (s : State) (x : Ch) : ∃ u : State, (s.ch x).Settles (u.ch x) ∧ ((f u x).ch x).Settles ((Ch.all.foldl f s).ch x) := by
  simp only [Ch.all, List.foldl_cons, List.foldl_nil]
  cases x
  · exact ⟨s, .refl _, (h _ _ _ (by decide)).trans (h _ _ _ (by decide))⟩
  · exact ⟨_, h s .a .b (by decide), h _ _ _ (by decide)⟩
  · exact ⟨_, (h s .a .c (by decide)).trans (h _ .b .c (by decide)), .refl _⟩

end Sys2Proof.Machine

/-! PROOFS. The recorder (spec/14_recorder.md R360 to R371): appending, flushing, the commit decision and the start. -/

namespace Sys2Proof.Machine

open Sys2Proof

/-! ### Appending -/

@[simp] theorem Nv.writeSlot_start (v : Nv) (r : Record) : (v.writeSlot r).start = v.start := by
  unfold Nv.writeSlot
  split
  split <;> rfl

@[simp] theorem Nv.writeSlot_lost (v : Nv) (r : Record) : (v.writeSlot r).lost = v.lost := by
  unfold Nv.writeSlot
  split
  split <;> rfl

@[simp] theorem Nv.writeSlot_permBase (v : Nv) (r : Record) : (v.writeSlot r).permBase = v.permBase := by
  unfold Nv.writeSlot
  split
  split <;> rfl

/-- A slot just written holds its record. -/
theorem Nv.slotRecord_writeSlot (v : Nv) (r : Record) : (v.writeSlot r).slotRecord r.seq = some r := by
  unfold Nv.slotRecord
  rw [Nv.writeSlot_permBase]
  unfold Nv.writeSlot
  dsimp only
  split <;> simp [*, tabGet, tabPut]

theorem Nv.slotRecord_validate (v : Nv) (r : Record) :
    (v.validate r).slotRecord r.seq = some { r with valid := validWord r.seq } :=
  v.slotRecord_writeSlot { r with valid := validWord r.seq }

@[simp] theorem Nv.validate_start (v : Nv) (r : Record) : (v.validate r).start = v.start := v.writeSlot_start _

@[simp] theorem Nv.validate_lost (v : Nv) (r : Record) : (v.validate r).lost = v.lost := v.writeSlot_lost _

@[simp] theorem Nv.validate_head (v : Nv) (r : Record) : (v.validate r).head = r.seq := rfl

/-- A CLEAR record sets FLOOR and is given its own SEQ; any other record passes as it is (R374). -/
theorem Chan.floorAt_eq (c : Chan) (e : Event) :
    ∃ f d, c.floorAt e = ({ c with nv := { c.nv with floor := f } }, { e with data := d }) := by
  unfold Chan.floorAt
  split
  · exact ⟨_, _, rfl⟩
  · exact ⟨c.nv.floor, e.data, rfl⟩

/-- An append changes the non-volatile memory and takes the next SEQ (R364). -/
theorem Chan.appendNow_eq (c : Chan) (me : Ch) (e : Event) (k : Nat) :
    c.appendNow me e k =
      { c with nv := (c.appendNow me e k).nv, recd := { c.recd with nextSeq := c.recd.nextSeq + 1 } } := by
  obtain ⟨f, d, h⟩ := c.floorAt_eq e
  simp only [Chan.appendNow, h]

@[simp] theorem Chan.appendNow_recd (c : Chan) (me : Ch) (e : Event) (k : Nat) :
    (c.appendNow me e k).recd = { c.recd with nextSeq := c.recd.nextSeq + 1 } := by rw [Chan.appendNow_eq]

@[simp] theorem Chan.appendNow_boot (c : Chan) (me : Ch) (e : Event) (k : Nat) : (c.appendNow me e k).boot = c.boot := by
  rw [Chan.appendNow_eq]

@[simp] theorem Chan.appendNow_dout (c : Chan) (me : Ch) (e : Event) (k : Nat) : (c.appendNow me e k).dout = c.dout := by
  rw [Chan.appendNow_eq]

@[simp] theorem Chan.appendNow_head (c : Chan) (me : Ch) (e : Event) (k : Nat) :
    (c.appendNow me e k).nv.head = c.recd.nextSeq := by
  obtain ⟨f, d, h⟩ := c.floorAt_eq e
  simp only [Chan.appendNow, h]
  rfl

@[simp] theorem Chan.appendNow_start (c : Chan) (me : Ch) (e : Event) (k : Nat) : (c.appendNow me e k).nv.start = c.nv.start := by
  obtain ⟨f, d, h⟩ := c.floorAt_eq e
  simp [Chan.appendNow, h]

@[simp] theorem Chan.appendNow_lost (c : Chan) (me : Ch) (e : Event) (k : Nat) : (c.appendNow me e k).nv.lost = c.nv.lost := by
  obtain ⟨f, d, h⟩ := c.floorAt_eq e
  simp [Chan.appendNow, h]

/-- A flush of many takes as many SEQs. -/
theorem Chan.flushMany_recd (c : Chan) (me : Ch) (l : List Event) :
    (c.flushMany me l).recd = { c.recd with nextSeq := c.recd.nextSeq + l.length } := by
  induction l generalizing c with
  | nil => rfl
  | cons e l ih => rw [Chan.flushMany, ih, Chan.appendNow_recd, List.length_cons, Nat.add_assoc, Nat.add_comm 1]

theorem Chan.finishPending_recd (c : Chan) (me : Ch) :
    (c.finishPending me).recd.queue = [] ∧ (c.finishPending me).recd.pending = none := by
  unfold Chan.finishPending
  extract_lets w d e
  have hd : d.recd.pending = none := by
    unfold d
    split
    · rfl
    · next h => exact h
  exact ⟨rfl, (foldl_view (g := fun (x : Chan) => x.recd.pending) (fun c e => by simp) _ d).trans hd⟩

/-- The power-fail flush leaves nothing that must still be written (R370). -/
theorem Chan.powerFailFlush_recd (c : Chan) (me : Ch) :
    (c.powerFailFlush me).recd.diag = [] ∧ (c.powerFailFlush me).recd.queue = [] ∧
      (c.powerFailFlush me).recd.pending = none ∧ (c.powerFailFlush me).recd.flushing = false := by
  obtain ⟨hq, hp⟩ := c.finishPending_recd me
  refine ⟨rfl, ?_, ?_, rfl⟩ <;> simp [Chan.powerFailFlush, Chan.flushMany_recd, hq, hp]

/-! ### The recorder's start -/

/-- The recorder started where the record is closed, or where there is none (R364, R371). -/
theorem Chan.startRecorder_closed {c : Chan} (me : Ch) (hs : c.recd.started = false)
    (h : c.nv.highest = 0 ∨ c.nv.announced c.nv.highest = true) :
    (c.startRecorder me).recd.started = true ∧ (c.startRecorder me).recd.nextSeq = c.nv.highest + 2 ∧
      (c.startRecorder me).nv.head = c.nv.highest + 1 ∧ (c.startRecorder me).nv.lost = c.nv.lost := by
  unfold Chan.startRecorder
  rw [if_neg (by simp [hs])]
  dsimp only
  rw [if_pos (by simpa using h)]
  refine ⟨?_, ?_, ?_, ?_⟩ <;> simp

/-- The recorder started where a record was lost (R371). -/
theorem Chan.startRecorder_open {c : Chan} (me : Ch) (hs : c.recd.started = false) (h0 : c.nv.highest ≠ 0)
    (ha : c.nv.announced c.nv.highest = false) :
    (c.startRecorder me).recd.started = true ∧ (c.startRecorder me).recd.nextSeq = c.nv.highest + 4 ∧
      (c.startRecorder me).nv.head = c.nv.highest + 3 ∧ (c.startRecorder me).nv.lost = (c.nv.highest + 1) :: c.nv.lost := by
  unfold Chan.startRecorder
  rw [if_neg (by simp [hs])]
  dsimp only
  rw [if_neg (by simp [h0, ha])]
  refine ⟨?_, ?_, ?_, ?_⟩ <;> simp

/-- What a start of the recorder counts and what it leaves alone. -/
theorem Chan.startRecorder_frame {c : Chan} (me : Ch) (hs : c.recd.started = false) :
    (c.startRecorder me).nv.start = inc 16 c.nv.start ∧ (c.startRecorder me).dout = c.dout ∧
      (c.startRecorder me).boot = c.boot := by
  unfold Chan.startRecorder
  rw [if_neg (by simp [hs])]
  dsimp only
  split <;> refine ⟨?_, ?_, ?_⟩ <;> simp

/-! ### Appends and flushes -/

/-- The recorder has dropped nothing since the last DIAG_LOST. -/
def Rec.quiet (r : Rec) : Prop := r.dropFull = 0 ∧ r.dropLane = 0 ∧ r.dropEarly = 0

theorem Chan.diagLost_quiet {c : Chan} (me : Ch) (h : c.recd.quiet) : c.diagLost me = c := by
  obtain ⟨hf, hl, he⟩ := h
  simp [Chan.diagLost, hf, hl, he]

theorem Chan.diagLost_loud {c : Chan} (me : Ch) (h : ¬ c.recd.quiet) :
    (c.diagLost me).recd =
      { c.recd with nextSeq := c.recd.nextSeq + 1, dropFull := 0, dropLane := 0, dropEarly := 0 } := by
  unfold Chan.diagLost
  dsimp only
  rw [if_neg (by simpa [Rec.quiet, and_assoc] using h), Chan.appendNow_recd]

theorem Chan.flushOne_quiet {c : Chan} {e : Event} {rest : List Event} (me : Ch) (h : c.recd.quiet)
    (hd : c.recd.diag = e :: rest) :
    (c.flushOne me).recd = { c.recd with nextSeq := c.recd.nextSeq + 1, diag := rest, flushing := !rest.isEmpty } := by
  unfold Chan.flushOne
  rw [Chan.diagLost_quiet me h]
  simp [hd]

/-- The step before an append: some families start a flush (R368). -/
theorem Rec.startFlush_eq (r : Rec) (k : Nat) :
    ∃ a b, r.startFlush k = { r with flushing := a, flushCause := b } := by
  unfold Rec.startFlush
  split
  · exact ⟨_, _, rfl⟩
  · exact ⟨_, _, rfl⟩

/-- A voted event of a channel that presents waits for the comparator (R360, R365). -/
theorem Chan.appendHead_voted {c : Chan} {e : Event} (me : Ch) (hv : e.name.cls = .voted) (hp : c.presents me = true) :
    ∃ p, (c.appendHead me e).2 = some { key := p.key, ch := me, rcrc := p.record.rcrc } ∧
      (c.appendHead me e).1.recd.pending = some p ∧
      p.key = { mainCycle := e.mainCycle, offset := e.offset, ordinal := e.ordinal } ∧ p.record.seq = c.recd.nextSeq ∧
      (c.appendHead me e).1.recd.nextSeq = c.recd.nextSeq + 1 ∧ (c.appendHead me e).1.recd.queue = c.recd.queue := by
  unfold Chan.appendHead
  extract_lets d
  obtain ⟨a, b, hd⟩ : ∃ a b, d = { c with recd := { c.recd with flushing := a, flushCause := b } } := by
    unfold d
    split
    · obtain ⟨a, b, h⟩ := c.recd.startFlush_eq 2
      exact ⟨a, b, by rw [h]⟩
    · exact ⟨_, _, rfl⟩
  have hpd : d.presents me = true := by rw [hd]; exact hp
  obtain ⟨f, x, hf⟩ := d.floorAt_eq e
  rw [if_pos (by simp [hv, hpd])]
  simp only [hf]
  refine ⟨_, rfl, rfl, rfl, ?_, ?_, ?_⟩ <;> simp [hd, Event.record]

/-- Any other event is valid as it is appended. -/
theorem Chan.appendHead_other {c : Chan} {e : Event} (me : Ch) (h : e.name.cls ≠ .voted ∨ c.presents me = false) :
    (c.appendHead me e).2 = none ∧ (c.appendHead me e).1.recd.pending = c.recd.pending ∧
      (c.appendHead me e).1.recd.nextSeq = c.recd.nextSeq + 1 ∧ (c.appendHead me e).1.recd.queue = c.recd.queue ∧
      (c.appendHead me e).1.nv.head = c.recd.nextSeq := by
  unfold Chan.appendHead
  extract_lets d
  obtain ⟨a, b, hd⟩ : ∃ a b, d = { c with recd := { c.recd with flushing := a, flushCause := b } } := by
    unfold d
    split
    · obtain ⟨a, b, h⟩ := c.recd.startFlush_eq 2
      exact ⟨a, b, by rw [h]⟩
    · exact ⟨_, _, rfl⟩
  have hpd : d.presents me = c.presents me := by rw [hd]; rfl
  rw [if_neg (by rw [hpd]; simpa [imp_iff_not_or] using h)]
  simp [hd]

/-- The oldest event whose run is over is appended next (R365). -/
theorem execRecordAppend_some {s : State} {ch : Ch} {e : Event} (hl : (s.ch ch).live = true)
    (hs : (s.ch ch).recd.started = true) (hp : (s.ch ch).recd.pending = none)
    (he : (s.ch ch).recd.queue.find? (fun e => !(s.ch ch).runUnderWay e) = some e) :
    let a := ({ s.ch ch with
      recd := { (s.ch ch).recd with queue := (s.ch ch).recd.queue.erase e } } : Chan).appendHead ch e
    exec (.recordAppend ch) s = .next { s.put ch a.1 with comparator := s.comparator ++ a.2.toList } := by
  show execRecordAppend ch s = _
  unfold execRecordAppend
  dsimp only
  rw [if_neg (by simp [hl, hs, hp])]
  simp only [he]

/-- With none waiting the flush in progress takes its turn in idle time (R369). -/
theorem execRecordAppend_none {s : State} {ch : Ch} (hl : (s.ch ch).live = true) (hs : (s.ch ch).recd.started = true)
    (hp : (s.ch ch).recd.pending = none)
    (he : (s.ch ch).recd.queue.find? (fun e => !(s.ch ch).runUnderWay e) = none) :
    exec (.recordAppend ch) s =
      .next (if (s.ch ch).recd.flushing && (s.ch ch).idleTime then s.put ch ((s.ch ch).flushOne ch) else s) := by
  show execRecordAppend ch s = _
  unfold execRecordAppend
  dsimp only
  rw [if_neg (by simp [hl, hs, hp])]
  simp only [he]

theorem execRecordAppend_not {s : State} {ch : Ch}
    (h : (s.ch ch).live = false ∨ (s.ch ch).recd.started = false ∨ (s.ch ch).recd.pending ≠ none) :
    exec (.recordAppend ch) s = .next s := by
  show execRecordAppend ch s = _
  unfold execRecordAppend
  dsimp only
  rw [if_pos]
  rcases h with h | h | h
  · simp [h]
  · simp [h]
  · simp [Option.isSome_iff_ne_none.mpr h]

/-- The flush that empties the buffer (R368, R369). -/
theorem execDiagFlush_flushes {s : State} {ch : Ch} (hl : (s.ch ch).live = true) (hs : (s.ch ch).recd.started = true)
    (hp : (s.ch ch).recd.pending = none) (hq : (s.ch ch).recd.queue = []) (hf : (s.ch ch).recd.flushing = true)
    (hi : (s.ch ch).idleTime = true) :
    exec (.diagFlush ch) s = .next (s.put ch
      (let d := ((s.ch ch).diagLost ch).flushMany ch ((s.ch ch).diagLost ch).recd.diag
      { d with recd := { d.recd with diag := [], flushing := false } })) := by
  show execDiagFlush ch s = _
  rw [execDiagFlush, State.onLive_eq _ hl, if_pos (by simp [hs, hp, hq, hf, hi])]

theorem execDiagFlush_not {s : State} {ch : Ch}
    (h : (s.ch ch).live = false ∨ (s.ch ch).recd.started = false ∨ (s.ch ch).recd.pending ≠ none ∨
      (s.ch ch).recd.queue ≠ [] ∨ (s.ch ch).recd.flushing = false ∨ (s.ch ch).idleTime = false) :
    exec (.diagFlush ch) s = .next s := by
  show execDiagFlush ch s = _
  rw [execDiagFlush]
  rcases h with h | h
  · rw [State.onLive_dead _ h]
  · refine congrArg Host.Outcome.next (State.onLive_same (if_neg ?_))
    rcases h with h | h | h | h | h <;> simp [h]

/-! ### The commit decision -/

/-- A decided record is in its slot, and the dissent counted (R360, R366). -/
theorem Chan.decided_frame (c : Chan) (p : PendingRec) (k : Nat) :
    (c.decided p k).besideSettling =
      { c.besideSettling with
        nv := c.nv.validate { p.record with commit := k }
        recd := Rec.standing { c.recd with
          pending := none
          dissentRun := (if k == 2 then c.recd.dissentRun + 1 else 0) % 3
          dissentCnt := if k == 2 then inc 8 c.recd.dissentCnt else c.recd.dissentCnt } } := by
  unfold Chan.decided
  dsimp only
  split
  · exact Chan.emitAt_besideSettling _ _ _ _ _ _ _
  · rfl

theorem State.decideFor_beside (s : State) (key : PairKey) (ps : List Presentation) {y x : Ch} (hx : x ≠ y) :
    (s.ch x).Settles ((s.decideFor key ps y).ch x) := by
  unfold State.decideFor
  extract_lets c
  split
  · next p hp =>
    split
    · extract_lets k third t
      have ht : t.ch x = s.ch x := State.put_ch_ne _ _ hx
      split
      · exact ht ▸ t.withdraw_beside hx
      · exact ht ▸ .refl _
    · exact .refl _
  · exact .refl _

@[simp] theorem State.decideFor_comparator (s : State) (key : PairKey) (ps : List Presentation) (y : Ch) :
    (s.decideFor key ps y).comparator = s.comparator := by
  unfold State.decideFor
  extract_lets c
  split
  · split
    · extract_lets k third t
      split <;> simp [t]
    · rfl
  · rfl

/-- COMMIT for a channel's own pending record (Table 14-5). -/
def Chan.commit (c : Chan) (ps : List Presentation) (p : PendingRec) : Nat :=
  if c.vote.recFault then 0 else commitOf ps p.record.rcrc

/-- The decision on a channel's own pending record: what it leaves in that channel. -/
theorem State.decideFor_self {s : State} {key : PairKey} {x : Ch} {p : PendingRec} (ps : List Presentation)
    (hp : (s.ch x).recd.pending = some p) (hk : p.key = key) (hl : (s.ch x).live = true) :
    let d := (s.ch x).decided p ((s.ch x).commit ps p)
    ((s.decideFor key ps x).ch x).recd.standing = d.recd.standing ∧ ((s.decideFor key ps x).ch x).nv = d.nv ∧
      ((s.ch x).commit ps p = 2 → (s.ch x).recd.dissentRun = 2 → (s.ch x).running = true →
        ((s.decideFor key ps x).ch x).votes x = false) := by
  intro d
  unfold State.decideFor
  dsimp only
  rw [hp]
  dsimp only
  rw [if_pos (by simp [hk, hl])]
  change let t := s.put x d; let e := (if ((s.ch x).commit ps p == 2 && (s.ch x).recd.dissentRun == 2) = true then
      t.withdraw x else t).ch x
    e.recd.standing = d.recd.standing ∧ e.nv = d.nv ∧ ((s.ch x).commit ps p = 2 → (s.ch x).recd.dissentRun = 2 →
      (s.ch x).running = true → e.votes x = false)
  intro t e
  have ht : t.ch x = d := State.put_ch _ _ _
  have hrun : d.running = (s.ch x).running := by
    have h := (s.ch x).decided_frame p ((s.ch x).commit ps p)
    have hb : d.boot = (s.ch x).boot := (congrArg (fun (c : Chan) => c.boot) h :)
    have hs : d.supply = (s.ch x).supply := (congrArg (fun (c : Chan) => c.supply) h :)
    simp [Chan.running, Chan.live, hb, hs]
  by_cases h3 : (s.ch x).commit ps p = 2 ∧ (s.ch x).recd.dissentRun = 2
  · have he : e = (t.withdraw x).ch x := by simp [e, h3.1, h3.2]
    by_cases hv : (t.ch x).running = true ∧ (t.ch x).votes x = true
    · have hg := (t.withdraw_gone hv.1 hv.2).1
      rw [ht] at hg
      exact ⟨he ▸ hg.standing, he ▸ hg.nv, fun _ _ _ => he ▸ hg.out⟩
    · rw [he, t.withdraw_of_not (by simpa [imp_iff_not_or] using hv), ht]
      refine ⟨rfl, rfl, fun _ _ hr => ?_⟩
      rw [ht, hrun] at hv
      simpa [hr] using hv
  · have he : e = d := by
      unfold e
      rw [if_neg (by simpa using h3), ht]
    exact ⟨by rw [he], by rw [he], fun h1 h2 _ => absurd ⟨h1, h2⟩ h3⟩

/-- The decision of a pairing key as it comes to one channel: what stands there before its own decision and after it. -/
theorem execCommitDecision_ch (s : State) (key : PairKey) (x : Ch) :
    ∃ t u : State, exec (.commitDecision key) s = .next t ∧ t.comparator = s.comparator.filter (fun p => p.key != key) ∧
      (s.ch x).Settles (u.ch x) ∧
      ((u.decideFor key (s.comparator.filter (fun p => p.key == key)) x).ch x).Settles (t.ch x) := by
  let ps := s.comparator.filter (fun p => p.key == key)
  obtain ⟨u, hu, ht⟩ := State.foldl_all_settles (f := fun t y => t.decideFor key ps y)
    (fun s y x hx => s.decideFor_beside key ps hx) s x
  refine ⟨_, u, rfl, ?_, hu, ht⟩
  exact congrArg (fun l => l.filter (fun p => p.key != key))
    (foldl_view (g := fun (t : State) => t.comparator) (fun t y => t.decideFor_comparator key ps y) Ch.all s)

/-- The decision of a pairing key at a channel whose pending record has it. -/
theorem execCommitDecision_self {s : State} {key : PairKey} {x : Ch} {p : PendingRec} (hp : (s.ch x).recd.pending = some p)
    (hk : p.key = key) (hl : (s.ch x).live = true) :
    let k := (s.ch x).commit (s.comparator.filter (fun p => p.key == key)) p
    ∃ t, exec (.commitDecision key) s = .next t ∧ (t.ch x).recd.pending = none ∧
      (t.ch x).recd.dissentRun = (if k == 2 then (s.ch x).recd.dissentRun + 1 else 0) % 3 ∧
      (t.ch x).recd.dissentCnt = (if k == 2 then inc 8 (s.ch x).recd.dissentCnt else (s.ch x).recd.dissentCnt) ∧
      (t.ch x).nv = (s.ch x).nv.validate { p.record with commit := k } ∧
      (k = 2 → (s.ch x).recd.dissentRun = 2 → (s.ch x).running = true → (t.ch x).votes x = false) := by
  intro k
  obtain ⟨t, u, hexec, -, hu, ht⟩ := execCommitDecision_ch s key x
  have hrec : (u.ch x).recd.standing = (s.ch x).recd.standing := (congrArg (fun (c : Chan) => c.recd) hu.beside :)
  have hpend : (u.ch x).recd.pending = (s.ch x).recd.pending := (congrArg (fun r => r.pending) hrec :)
  have hrun : (u.ch x).recd.dissentRun = (s.ch x).recd.dissentRun := (congrArg (fun r => r.dissentRun) hrec :)
  have hcnt : (u.ch x).recd.dissentCnt = (s.ch x).recd.dissentCnt := (congrArg (fun r => r.dissentCnt) hrec :)
  have hnv : (u.ch x).nv = (s.ch x).nv := (congrArg (fun (c : Chan) => c.nv) hu.beside :)
  have hfault : (u.ch x).vote.recFault = (s.ch x).vote.recFault := (congrArg (fun (c : Chan) => c.vote.recFault) hu.beside :)
  have hboot : (u.ch x).boot = (s.ch x).boot := (congrArg (fun (c : Chan) => c.boot) hu.beside :)
  have hsup : (u.ch x).supply = (s.ch x).supply := (congrArg (fun (c : Chan) => c.supply) hu.beside :)
  have hlive : (u.ch x).live = (s.ch x).live := by simp [Chan.live, hsup]
  have hrunning : (u.ch x).running = (s.ch x).running := by simp [Chan.running, hlive, hboot]
  have hcommit : (u.ch x).commit (s.comparator.filter (fun p => p.key == key)) p = k := by simp [k, Chan.commit, hfault]
  have hself := u.decideFor_self (s.comparator.filter (fun p => p.key == key)) (hpend.trans hp) hk (hlive.trans hl)
  rw [hcommit] at hself
  obtain ⟨hst, hn, hout⟩ := hself
  have hframe := (u.ch x).decided_frame p k
  have hst' : (t.ch x).recd.standing = _ := ((congrArg (fun (c : Chan) => c.recd) ht.beside :).trans hst).trans
    (congrArg (fun (c : Chan) => c.recd) hframe :)
  have hn' : (t.ch x).nv = _ := ((congrArg (fun (c : Chan) => c.nv) ht.beside :).trans hn).trans
    (congrArg (fun (c : Chan) => c.nv) hframe :)
  have hrun' : (t.ch x).recd.dissentRun = (if k == 2 then (u.ch x).recd.dissentRun + 1 else 0) % 3 :=
    (congrArg (fun r => r.dissentRun) hst' :)
  have hcnt' : (t.ch x).recd.dissentCnt = if k == 2 then inc 8 (u.ch x).recd.dissentCnt else (u.ch x).recd.dissentCnt :=
    (congrArg (fun r => r.dissentCnt) hst' :)
  have hnv' : (t.ch x).nv = (u.ch x).nv.validate { p.record with commit := k } := hn'
  refine ⟨t, hexec, (congrArg (fun r => r.pending) hst' :), ?_, ?_, ?_, fun h2 hr hru => ?_⟩
  · rw [hrun', hrun]
  · rw [hcnt', hcnt]
  · rw [hnv', hnv]
  · exact (ht.votes x).trans (hout h2 (hrun.trans hr) (hrunning.trans hru))

/-- A decision of another key leaves a pending record waiting. -/
theorem execCommitDecision_other {s : State} {key : PairKey} {x : Ch} {p : PendingRec} (hp : (s.ch x).recd.pending = some p)
    (hk : p.key ≠ key) : ∃ t, exec (.commitDecision key) s = .next t ∧ (t.ch x).recd.pending = some p := by
  obtain ⟨t, u, hexec, -, hu, ht⟩ := execCommitDecision_ch s key x
  have hpend : (u.ch x).recd.pending = some p := (congrArg (fun (c : Chan) => c.recd.pending) hu.beside :).trans hp
  have hsame : u.decideFor key (s.comparator.filter (fun p => p.key == key)) x = u := by
    simp [State.decideFor, hpend, hk]
  rw [hsame] at ht
  exact ⟨t, hexec, (congrArg (fun (c : Chan) => c.recd.pending) ht.beside :).trans hpend⟩

/-! ### The statement -/

theorem diagFlush_recd {c : Chan} (me : Ch) :
    ((c.diagLost me).flushMany me (c.diagLost me).recd.diag).recd.nextSeq =
      c.recd.nextSeq + c.recd.diag.length +
        (if c.recd.dropFull = 0 ∧ c.recd.dropLane = 0 ∧ c.recd.dropEarly = 0 then 0 else 1) := by
  rw [Chan.flushMany_recd]
  by_cases hq : c.recd.quiet
  · rw [Chan.diagLost_quiet me hq]
    unfold Rec.quiet at hq
    simp [hq]
  · rw [Chan.diagLost_loud me hq]
    unfold Rec.quiet at hq
    simp [hq, Nat.add_right_comm]

/-- Settles O19, from the start, the append, the flush and the decision of one channel, each stated above for itself. -/
theorem recorderStartsAndCommits : Obligations.RecorderStartsAndCommits := by
  unfold Obligations.RecorderStartsAndCommits
  refine ⟨fun s ch hst hs => ?_, fun s ch hs => ?_, fun s ch hl hs hp => ?_, fun s ch h => ?_, fun s key => ?_, fun s key x p => ?_⟩
  · obtain ⟨hstart, hdout, hboot⟩ := (s.ch ch).startRecorder_frame ch hs
    have hexec : exec (.recorderStart ch) s = .next (s.put ch ((s.ch ch).startRecorder ch)) := by
      show execRecorderStart ch s = _
      rw [execRecorderStart, State.onLive_eq _ (Chan.starting_live hst), if_pos]
      simp [Chan.starting] at hst
      simp [hst]
    refine ⟨_, hexec, .put _ _ _, ?_⟩
    rw [State.put_ch]
    by_cases hc : (s.ch ch).nv.highest = 0 ∨ (s.ch ch).nv.announced (s.ch ch).nv.highest = true
    · obtain ⟨h1, h2, h3, h4⟩ := (s.ch ch).startRecorder_closed ch hs hc
      refine ⟨h1, hstart, by rw [h2, h3], fun _ => ⟨h2, h4⟩, fun ⟨h0, ha⟩ => ?_, hdout, hboot⟩
      rcases hc with hc | hc
      · exact absurd hc h0
      · simp [ha] at hc
    · have hc' : (s.ch ch).nv.highest ≠ 0 ∧ (s.ch ch).nv.announced (s.ch ch).nv.highest = false := by
        simpa [not_or] using hc
      obtain ⟨h1, h2, h3, h4⟩ := (s.ch ch).startRecorder_open ch hs hc'.1 hc'.2
      exact ⟨h1, hstart, by rw [h2, h3], fun h => absurd h hc, fun _ => ⟨h2, h4⟩, hdout, hboot⟩
  · show execRecorderStart ch s = _
    refine congrArg Host.Outcome.next (State.onLive_same ?_)
    split
    · exact if_pos hs
    · rfl
  · intro c ready quiet
    refine ⟨fun e he hv hpr => ?_, fun e he h => ?_, fun hn h => ?_, fun e rest hn hf hi hd hq => ?_, fun hq hf hi => ?_,
      fun h => ?_⟩
    · obtain ⟨p, h1, h2, h3, h4, h5, h6⟩ := Chan.appendHead_voted
        (c := { c with recd := { c.recd with queue := c.recd.queue.erase e } }) ch hv hpr
      have hexec := execRecordAppend_some hl hs hp he
      refine ⟨_, p, hexec, fun x hx => State.put_ch_ne _ _ hx, (congrArg (fun (c : Chan) => c.recd.pending)
        (State.put_ch _ _ _)).trans h2, h3, h4, (congrArg (fun (c : Chan) => c.recd.nextSeq) (State.put_ch _ _ _)).trans h5,
        (congrArg (fun (c : Chan) => c.recd.queue) (State.put_ch _ _ _)).trans h6, ?_⟩
      exact congrArg (fun o => s.comparator ++ o.toList) h1
    · obtain ⟨h1, h2, h3, h4, h5⟩ := Chan.appendHead_other
        (c := { c with recd := { c.recd with queue := c.recd.queue.erase e } }) ch h
      have hexec := execRecordAppend_some hl hs hp he
      dsimp only at hexec
      rw [h1, Option.toList_none, List.append_nil] at hexec
      refine ⟨_, hexec, .put _ _ _, (congrArg (fun (c : Chan) => c.recd.pending) (State.put_ch _ _ _)).trans (h2.trans hp),
        (congrArg (fun (c : Chan) => c.recd.nextSeq) (State.put_ch _ _ _)).trans h3,
        (congrArg (fun (c : Chan) => c.recd.queue) (State.put_ch _ _ _)).trans h4,
        (congrArg (fun (c : Chan) => c.nv.head) (State.put_ch _ _ _)).trans h5⟩
    · rw [execRecordAppend_none hl hs hp hn]
      rw [if_neg]
      rcases h with h | h <;> simp [c] at h <;> simp [h]
    · rw [execRecordAppend_none hl hs hp hn]
      rw [if_pos (by simpa [c] using And.intro hf hi)]
      refine ⟨_, rfl, .put _ _ _, ?_⟩
      rw [State.put_ch, Chan.flushOne_quiet ch hq hd]
      exact ⟨rfl, rfl, rfl⟩
    · refine ⟨_, execDiagFlush_flushes hl hs hp hq hf hi, .put _ _ _, ?_⟩
      rw [State.put_ch]
      exact ⟨rfl, rfl, diagFlush_recd ch⟩
    · exact execDiagFlush_not (by rcases h with h | h | h <;> simp [c] at h <;> simp [h])
  · exact ⟨execRecordAppend_not h, execDiagFlush_not (by rcases h with h | h | h <;> simp [h])⟩
  · obtain ⟨t, u, hexec, hcmp, -⟩ := execCommitDecision_ch s key .a
    exact ⟨t, hexec, hcmp⟩
  · intro c ps commit hp
    refine ⟨fun hk => execCommitDecision_other hp hk, fun hk hl h2 => ?_, fun hk hl h2 => ?_, fun hk hl h2 hr hru => ?_⟩
    all_goals
      obtain ⟨t, hexec, h1, hrun, hcnt, hnv, hout⟩ := execCommitDecision_self hp hk hl
      refine ⟨t, hexec, ?_⟩
    · have h2' : ((s.ch x).commit ps p == 2) = false := beq_eq_false_iff_ne.mpr h2
      rw [h2'] at hrun hcnt
      refine ⟨h1, hrun, hcnt, ?_⟩
      rw [hnv]
      exact Nv.slotRecord_validate _ { p.record with commit := commit }
    · have h2' : ((s.ch x).commit ps p == 2) = true := beq_iff_eq.mpr h2
      rw [h2'] at hrun hcnt
      exact ⟨h1, hrun, hcnt⟩
    · exact hout h2 hr hru

end Sys2Proof.Machine

/-! PROOFS. Supplies, host hub, seal samples and inputs (spec/01, spec/02, spec/07): what one event leaves in the channel it belongs
to. -/

namespace Sys2Proof.Machine

open Sys2Proof

/-- A trip is seen in a channel by its recorder and its trip counter alone. -/
theorem State.trip_ch (s : State) (cause : TripCause) (x : Ch) :
    ∃ r n m, (s.trip cause).ch x = { s.ch x with recd := r, safe := { (s.ch x).safe with tripCnt := n, tripCycle := m } } := by
  unfold State.trip
  extract_lets armed u
  have hu : u.ch x = s.ch x := rfl
  split
  · rw [State.allLive_ch, hu]
    split
    · rw [Chan.noteTrip, Chan.emit_eq]
      exact ⟨_, _, _, rfl⟩
    · exact ⟨_, _, _, rfl⟩
  · exact ⟨_, _, _, hu⟩

/-- An alive line is seen in its channel by the line, the recorder and the trip counter alone. -/
theorem State.setAlive_ch_self (s : State) (ch : Ch) (on : Bool) :
    ∃ r n m, (s.setAlive ch on).ch ch = { s.ch ch with recd := r, safe := { tripCnt := n, tripCycle := m, alive := on } } := by
  unfold State.setAlive
  extract_lets u
  have hu : u.ch ch = { s.ch ch with safe := { (s.ch ch).safe with alive := on } } := State.mod_ch _ _ _
  split
  · obtain ⟨r, n, m, h⟩ := u.trip_ch .silent ch
    exact ⟨r, n, m, by rw [h, hu]⟩
  · exact ⟨_, _, _, hu⟩

/-! ### Supplies -/

theorem execFeedLoss_first {s : State} {ch : Ch} {f : Feed} (hp : (s.ch ch).supply.present f = true) (hl : (s.ch ch).live = true) :
    let c := { s.ch ch with supply := (s.ch ch).supply.setFeed f false (lowReading s.draws) }
    execFeedLoss ch f s = (if c.supply.dark && !c.supply.powerFail then
      .next ((s.drawn.put ch (c.emit .feedLoss (feedNum f) []).declarePowerFail).setAlive ch false)
      else .next (s.drawn.put ch (c.emit .feedLoss (feedNum f) []))) := by
  intro c
  have hc : c.live = true := by
    cases f <;> exact hl
  unfold execFeedLoss
  rw [if_neg (by simp [hp])]
  simp only [State.mod_ch, State.drawn_ch, State.mod_mod]
  rw [if_pos hc]
  rfl

theorem stopRun_not_running (l : List TaskState) : ∀ k ∈ l.map TaskState.stopRun, k.running = false := by
  intro k hk
  obtain ⟨j, -, rfl⟩ := List.mem_map.mp hk
  rfl

/-- A sweep over the channels, each step of which changes its channel alone, seen at one. -/
theorem foldl_all_ch {g : State → Ch → State} {h : Ch → Chan → Chan}
    (hg : ∀ t x y, (g t y).ch x = if x = y then h x (t.ch x) else t.ch x) (s : State) (x : Ch) :
    (Ch.all.foldl g s).ch x = h x (s.ch x) := by
  simp only [Ch.all, List.foldl_cons, List.foldl_nil, hg]
  cases x <;> simp

/-- A sweep of steps that change channels only changes channels only. -/
theorem foldl_chans {α : Type} {g : State → α → State} (hg : ∀ t y, g t y = { t with chans := (g t y).chans }) (l : List α)
    (s : State) : l.foldl g s = { s with chans := (l.foldl g s).chans } := by
  induction l generalizing s with
  | nil => rfl
  | cons a l ih => rw [List.foldl_cons, ih, hg]

/-- One step of the hold-up store's end: a channel that sees no feed is held in reset. -/
theorem holdReset_step (t : State) (x y : Ch) :
    (if (t.ch y).supply.dark then t.mod y Chan.holdReset else t).ch x =
      if x = y then (if (t.ch x).supply.dark then (t.ch x).holdReset else t.ch x) else t.ch x := by
  by_cases e : x = y
  · subst e
    rw [if_pos rfl]
    split
    · exact State.mod_ch _ _ _
    · rfl
  · rw [if_neg e]
    split
    · exact State.mod_ch_ne _ _ e
    · rfl

/-- Settles O11, feed by feed: what a loss does before and after the second feed goes, and the hold-up store channel by channel. -/
theorem feedsAndHoldupAreFollowed : Obligations.FeedsAndHoldupAreFollowed := by
  unfold Obligations.FeedsAndHoldupAreFollowed
  refine ⟨fun s ch f hp hl => ?_, fun s ch f hp hl => ?_, fun s ch f hp hl => ?_, fun s => ?_⟩
  · intro c d
    have hexec : exec (.feedLoss ch f) s = _ := execFeedLoss_first hp hl
    refine ⟨fun h => ?_, fun ⟨hdark, hpf⟩ => ?_⟩
    · rw [hexec, if_neg]
      rcases h with h | h <;> simp [c] at h <;> simp [h]
    · rw [hexec, if_pos (by simpa using And.intro hdark hpf)]
      obtain ⟨r, n, m, h⟩ := (s.drawn.put ch d.declarePowerFail).setAlive_ch_self ch false
      rw [State.put_ch] at h
      refine ⟨_, rfl, ?_⟩
      rw [h]
      refine ⟨rfl, rfl, rfl, rfl, rfl, rfl, rfl, stopRun_not_running _, ?_⟩
      simp [Chan.declarePowerFail, d, c]
  · show execFeedLoss ch f s = _
    unfold execFeedLoss
    have hd : (({ s.ch ch with supply := (s.ch ch).supply.setFeed f false (lowReading s.draws) } : Chan)).live = false := by
      cases f <;> exact hl
    rw [if_neg (by simp [hp])]
    simp only [State.mod_ch, State.drawn_ch]
    rw [if_neg (by simp [hd])]
    rfl
  · show execFeedRestored ch f s = _
    unfold execFeedRestored
    have hd : (({ s.ch ch with supply := (s.ch ch).supply.setFeed f true (goodReading s.draws) } : Chan)).live = true := by
      cases f <;> exact hl
    rw [if_neg (by simp [hp])]
    dsimp only
    rw [State.onLive_eq _ (by rw [State.mod_ch]; exact hd), State.mod_ch, State.mod_eq_put, State.put_put]
    rfl
  · refine ⟨_, rfl, fun ch hd => ?_, fun ch hd => ?_, ?_⟩
    · rw [foldl_all_ch (h := fun _ c => if c.supply.dark then c.holdReset else c) holdReset_step, if_pos hd]
      exact ⟨rfl, rfl, rfl, rfl, rfl⟩
    · rw [foldl_all_ch (h := fun _ c => if c.supply.dark then c.holdReset else c) holdReset_step, if_neg (by simp [hd])]
    · refine foldl_chans (fun t y => ?_) Ch.all s
      split <;> rfl

/-! ### Power-on and halt -/

theorem execPowerOnReset_eq {s : State} {ch : Ch} (hl : (s.ch ch).live = false) (hd : (s.ch ch).supply.dark = false) :
    execPowerOnReset ch s =
      .next ((if Ch.all.any (fun x => (s.ch x).live) then s else s.freshShared).put ch (s.ch ch).fresh) := by
  unfold execPowerOnReset
  dsimp only
  rw [if_pos (by simp [hl, hd]), State.mod_eq_put]
  congr 2
  split <;> rfl

theorem any_live_iff (s : State) : Ch.all.any (fun x => (s.ch x).live) = true ↔ ∃ x, (s.ch x).live = true := by
  simp only [List.any_eq_true]
  exact ⟨fun ⟨x, _, h⟩ => ⟨x, h⟩, fun ⟨x, h⟩ => ⟨x, by cases x <;> decide, h⟩⟩

/-- Settles O12: the start as one replaced channel on hardware fresh or as it stands, the halt as the flush's last act. -/
theorem powerOnStartsAndFlushHalts : Obligations.PowerOnStartsAndFlushHalts := by
  unfold Obligations.PowerOnStartsAndFlushHalts
  refine ⟨fun s ch hl hd => ?_, fun s ch hl hpf => ?_⟩
  · refine ⟨_, execPowerOnReset_eq hl hd, ?_⟩
    rw [State.put_ch]
    refine ⟨rfl, rfl, rfl, rfl, rfl, fun f => by cases f <;> rfl, fun x hx => ?_, ?_, fun h => ?_, fun h => ?_⟩
    · rw [State.put_ch_ne _ _ hx]
      split <;> rfl
    · rw [State.put_hub]
      split <;> rfl
    · rw [if_neg (by rw [any_live_iff]; exact fun ⟨x, hx⟩ => by simp [h x] at hx)]
      exact ⟨rfl, rfl, rfl, rfl, rfl⟩
    · rw [if_pos ((any_live_iff s).mpr h)]
      exact ⟨rfl, rfl, rfl⟩
  · have hexec : exec (.pfAnnounced ch) s = .next (s.put ch
        (let c := if (s.ch ch).recd.started then (s.ch ch).powerFailFlush ch else s.ch ch
        { c with supply := { c.supply with halted := true } })) := by
      show execPfAnnounced ch s = _
      rw [execPfAnnounced, State.onLive_eq _ hl, if_pos hpf]
    refine ⟨_, hexec, .put _ _ _, ?_⟩
    rw [State.put_ch]
    refine ⟨rfl, by simp [Chan.live], fun h => ?_, fun h => ?_⟩
    · rw [if_pos h]
      exact Chan.powerFailFlush_recd _ _
    · rw [if_neg (by simp [h])]

/-! ### The host hub -/

/-- Settles O13: the hub's own flag, and the channels' flags of a lost port. -/
theorem hostHubFailsAndRecovers : Obligations.HostHubFailsAndRecovers := by
  unfold Obligations.HostHubFailsAndRecovers
  refine ⟨fun s => rfl, fun s => ⟨_, rfl, ?_, fun ch hl => ?_, fun ch hl => ?_, ?_⟩, fun s ch ha hl hlost => ?_, fun s ch h => ?_⟩
  · simp
  · rw [State.allLive_ch]
    exact if_pos hl
  · rw [State.allLive_ch]
    exact if_neg (Bool.eq_false_iff.mp hl)
  · rw [State.allLive_eq]
  · show execHostPortLost ch s = _
    rw [execHostPortLost, if_neg (by simp [ha]), State.onLive_eq _ hl, if_neg (by simp [hlost])]
  · show execHostPortLost ch s = _
    unfold execHostPortLost
    split
    · rfl
    · next ha => exact congrArg Host.Outcome.next (State.onLive_same (if_pos (h.resolve_left ha)))

/-! ### Seal samples -/

section

variable {c : Chan} {pos : Word}

theorem Chan.sealSample_agrees (h : pos &&& 0xFFFF = c.seals.bootPos) :
    c.sealSample pos = { c with seals := { c.seals with
      livePos := c.seals.bootPos, differed := 0
      glitch := if c.seals.differed = 1 then inc 16 c.seals.glitch else c.seals.glitch } } := by
  unfold Chan.sealSample
  dsimp only
  rw [if_pos (by simpa using h), h]
  simp only [beq_iff_eq]

theorem Chan.sealSample_first (h : pos &&& 0xFFFF ≠ c.seals.bootPos) (h0 : c.seals.differed = 0) :
    c.sealSample pos = { c with seals := { c.seals with livePos := pos &&& 0xFFFF, differed := 1 } } := by
  unfold Chan.sealSample
  dsimp only
  rw [if_neg (by simpa using h), if_pos (by simpa using h0)]

theorem Chan.sealSample_again (h : pos &&& 0xFFFF ≠ c.seals.bootPos) (h0 : c.seals.differed ≠ 0)
    (hc : c.seals.changed = true) :
    c.sealSample pos = { c with seals := { c.seals with livePos := pos &&& 0xFFFF, differed := 2 } } := by
  unfold Chan.sealSample
  dsimp only
  rw [if_neg (by simpa using h), if_neg (by simpa using h0), if_pos hc, ← hc]

theorem Chan.sealSample_second (h : pos &&& 0xFFFF ≠ c.seals.bootPos) (h0 : c.seals.differed ≠ 0)
    (hc : c.seals.changed = false) :
    c.sealSample pos = ({ c with seals := { c.seals with
      livePos := pos &&& 0xFFFF, differed := 2, changed := true } } : Chan).emit .sealChanged 0 [pos &&& 0xFFFF] := by
  unfold Chan.sealSample
  dsimp only
  rw [if_neg (by simpa using h), if_neg (by simpa using h0), if_neg (by simp [hc])]

end

/-- Settles O14, along the cases of a sample: equal, first to differ, second to differ before and after the change stands. -/
theorem sealSamplesConfirmAChange : Obligations.SealSamplesConfirmAChange := by
  unfold Obligations.SealSamplesConfirmAChange
  intro s ch pos hl hph c q
  have hexec : exec (.sealSample ch pos) s = .next (s.put ch (c.sealSample pos)) := by
    show execSealSample ch pos s = _
    rw [execSealSample, State.onLive_eq _ hl, if_pos hph]
  rw [hexec]
  refine ⟨fun h => ?_, fun h h0 => ?_, fun h h0 hc => ?_, fun h h0 hc => ?_⟩
  · rw [Chan.sealSample_agrees h]
  · rw [Chan.sealSample_first h h0]
  · rw [Chan.sealSample_again h h0 hc]
  · rw [Chan.sealSample_second h h0 hc]

end Sys2Proof.Machine

/-! PROOFS. Flash and exchange preparation, inputs, discrepancies and the arbiter's limits (spec/05, spec/07, spec/12, spec/16). -/

namespace Sys2Proof.Machine

open Sys2Proof

/-! ### Flash and the preparation of an exchange (R149, R411, R412) -/

/-- A channel but for its memory and the marks on its tiles. -/
def Chan.besideStore (c : Chan) : Chan := { c with mem := default, tiles := default }

theorem Chan.undoBoundary_besideStore (c : Chan) : c.undoBoundary.besideStore = c.besideStore := by
  unfold Chan.undoBoundary
  split
  · rfl
  · next new _ => exact foldl_view (g := Chan.besideStore) (f := fun c i => c.rewriteSlot i) (fun _ _ => rfl) _ c

/-- An exchange that becomes STAGED keeps what the load has set beside it (R143). -/
theorem Chan.exchTo_staged (c : Chan) :
    (c.exchTo 1 0 0 0).nv = c.nv ∧ (c.exchTo 1 0 0 0).load = c.load ∧ (c.exchTo 1 0 0 0).blocks.exch = 1 ∧
      (c.exchTo 1 0 0 0).blocks.result = 0 ∧ (c.exchTo 1 0 0 0).blocks.staged = c.blocks.staged ∧
      (c.exchTo 1 0 0 0).blocks.exchSeq = c.blocks.exchSeq := by
  have h := c.undoBoundary_besideStore
  have hnv : c.undoBoundary.nv = c.nv := (congrArg (fun (d : Chan) => d.nv) h :)
  have hload : c.undoBoundary.load = c.load := (congrArg (fun (d : Chan) => d.load) h :)
  have hblocks : c.undoBoundary.blocks = c.blocks := (congrArg (fun (d : Chan) => d.blocks) h :)
  simp [Chan.exchTo, hnv, hload, hblocks]

theorem Chan.writeFlash_load (c : Chan) (k : Container) : (c.writeFlash k).load = default := by
  unfold Chan.writeFlash
  dsimp only
  split
  · rfl
  · exact (Chan.exchTo_staged _).2.1

theorem Chan.writeFlash_firmware {c : Chan} (k : Container) (h : c.load.kind = 1) :
    (c.writeFlash k).nv = c.nv.putFw (freeSlot c.nv.fw0) { marker := 2, cont := some k } ∧
      (c.writeFlash k).blocks = c.blocks := by
  simp [Chan.writeFlash, Chan.loadMarker, h]

theorem Chan.writeFlash_first {c : Chan} (k : Container) (h : c.load.kind ≠ 1) (hu : c.boot.unprog = true) :
    (c.writeFlash k).nv = c.nv.putApp (freeSlot c.nv.app0) { marker := 2, cont := some k } ∧
      (c.writeFlash k).blocks = c.blocks := by
  simp [Chan.writeFlash, Chan.loadMarker, h, hu]

theorem Chan.writeFlash_beside {c : Chan} (k : Container) (h : c.load.kind ≠ 1) (hu : c.boot.unprog = false) :
    (c.writeFlash k).nv = c.nv.putApp (freeSlot c.nv.app0) { marker := 4, cont := some k } ∧
      (c.writeFlash k).blocks.exch = 1 ∧ (c.writeFlash k).blocks.result = 0 ∧ (c.writeFlash k).blocks.staged = some k ∧
      (c.writeFlash k).blocks.exchSeq = (k.image.map (fun g => g.imageSeq)).getD 0 := by
  unfold Chan.writeFlash
  dsimp only
  rw [if_neg (by simp [h, hu])]
  obtain ⟨h1, -, h3, h4, h5, h6⟩ := Chan.exchTo_staged
    { c with
      nv := if (c.load.kind == 1) = true then c.nv.putFw (freeSlot c.nv.fw0) { marker := c.loadMarker c.load.kind, cont := some k }
        else c.nv.putApp (freeSlot c.nv.app0) { marker := c.loadMarker c.load.kind, cont := some k }
      load := default
      mem := { c.mem with stagingDamaged := c.mem.stagingDamaged && c.load.kind == 1 }
      blocks := { c.blocks with staged := some k, exchSeq := (k.image.map (fun g => g.imageSeq)).getD 0, newInsts := [] } }
  refine ⟨h1.trans ?_, h3, h4, h5, h6⟩
  simp [Chan.loadMarker, h, hu]

/-- A sweep of steps that change the memory alone changes the memory alone. -/
theorem foldl_mem {α : Type} {f : Chan → α → Chan} (hf : ∀ c a, f c a = { c with mem := (f c a).mem }) (l : List α) (c : Chan) :
    l.foldl f c = { c with mem := (l.foldl f c).mem } := by
  induction l generalizing c with
  | nil => rfl
  | cons a l ih => rw [List.foldl_cons, ih, hf]

theorem Chan.prepareExchange_eq (c : Chan) (v : Variant) (old new : Image) :
    c.prepareExchange v old new =
      { c with
        mem := (c.prepareExchange v old new).mem
        blocks := { c.blocks with prepared := true, newInsts := (new.unmatched old).map initialInst } } := by
  unfold Chan.prepareExchange
  dsimp only
  rw [foldl_mem (f := fun (c : Chan) (d : InstDef) => c.rewrite (instBase + 16 * d.offset) (4 * d.size)) (fun _ _ => rfl)]
  rfl

/-- Settles O20: the write by the kind of what was loaded, and the preparation. -/
theorem flashTakesTheContainer : Obligations.FlashTakesTheContainer := by
  unfold Obligations.FlashTakesTheContainer
  refine ⟨fun s ch k hl hpf hk hw => ?_, fun s ch old new k hl he ho hs hn => ?_, fun s ch h => ?_⟩
  · intro c
    have hexec : exec (.flashWrite ch) s = .next (s.put ch (c.writeFlash k)) := by
      show execFlashWrite ch s = _
      rw [execFlashWrite, State.onLive_eq _ hl]
      simp only [hk, hw, hpf]
      rfl
    refine ⟨_, hexec, .put _ _ _, ?_⟩
    rw [State.put_ch]
    exact ⟨c.writeFlash_load k, Chan.writeFlash_firmware k, Chan.writeFlash_first k, Chan.writeFlash_beside k⟩
  · intro c
    constructor
    · show execExchPrepareDone ch s = _
      rw [execExchPrepareDone, State.onLive_eq _ hl]
      simp only [he, ho, hs, hn, Option.bind_some]
      rfl
    · exact Chan.prepareExchange_eq _ _ _ _
  · show execExchPrepareDone ch s = _
    refine congrArg Host.Outcome.next (State.onLive_same ?_)
    split
    · next h1 h2 h3 =>
      rcases h with h | h | h
      · exact absurd h1 h
      · simp [h] at h2
      · simp [h] at h3
    · rfl

/-! ### Inputs and their circuits (R183, R184, R189) -/

section

variable {c : Chan} {n : Nat}

theorem Chan.circuitTest_fail (n : Nat) :
    c.circuitTest n false = ({ c with din := { c.din with
      invalid := putBit c.din.invalid n true, passes := tabDel c.din.passes n } } : Chan).emit .circuitFail n [] := rfl

theorem Chan.circuitTest_pass (h : c.din.invalid.getLsbD n = true) (hk : (c.din.passes.lookup n).getD 0 + 1 < 8) :
    c.circuitTest n true =
      { c with din := { c.din with passes := tabPut c.din.passes n ((c.din.passes.lookup n).getD 0 + 1) } } := by
  unfold Chan.circuitTest
  dsimp only
  rw [if_pos rfl, if_pos h, if_neg (by omega)]

theorem Chan.circuitTest_eighth (h : c.din.invalid.getLsbD n = true) (hk : 8 ≤ (c.din.passes.lookup n).getD 0 + 1) :
    c.circuitTest n true = ({ c with din := { c.din with
      invalid := putBit c.din.invalid n false, passes := tabDel c.din.passes n } } : Chan).emit .circuitClear n [] := by
  unfold Chan.circuitTest
  dsimp only
  rw [if_pos rfl, if_pos h, if_pos hk]

end

/-- A sampler that stalls is noted, and the channel withdraws (R22, R167). -/
theorem execSamplerStall_eq {s : State} {ch : Ch} (hl : (s.ch ch).live = true) (hph : 6 ≤ (s.ch ch).boot.phase)
    (hst : (s.ch ch).din.stall = false) :
    exec (.samplerStall ch) s = .next ((s.put ch (({ s.ch ch with
      din := { (s.ch ch).din with stall := true, stallCnt := inc 16 (s.ch ch).din.stallCnt } } : Chan).emit
        .samplerStall 0 [])).withdraw ch) := by
  show execSamplerStall ch s = _
  unfold execSamplerStall
  dsimp only
  rw [if_pos (by simp [hl, hst, hph])]
  rfl

theorem execInputCircuitTest_on {s : State} {ch : Ch} {n : Nat} (pass : Bool) (hl : (s.ch ch).live = true) (hn : n < 96)
    (hr : (s.ch ch).din.raw.getLsbD n = true) :
    exec (.inputCircuitTest ch n pass) s = .next (s.put ch ((s.ch ch).circuitTest n pass)) := by
  show execInputCircuitTest ch n pass s = _
  rw [execInputCircuitTest, State.onLive_eq _ hl, if_pos (by simp [hn, hr])]

/-- Settles O21: levels and circuit tests by case, the stall through the withdrawal. -/
theorem inputsTakeLevels : Obligations.InputsTakeLevels := by
  unfold Obligations.InputsTakeLevels
  refine ⟨fun s ch n level hl hn => ?_, fun s ch n level hl hn => ?_, fun s ch n hl hn hr => ?_, fun s ch n hl hn hr hi => ?_,
    fun s ch n pass hr => ?_, fun s ch hl hph hst => ?_, fun s ch hst => ?_⟩
  · show execInputDebounce ch (.input n) level s = _
    rw [execInputDebounce, State.onLive_eq _ hl]
    simp only [if_pos hn]
  · show execInputDebounce ch (.readback n) level s = _
    rw [execInputDebounce, State.onLive_eq _ hl]
    simp only [if_pos hn]
  · rw [execInputCircuitTest_on false hl hn hr, Chan.circuitTest_fail]
  · intro k
    refine ⟨fun hk => ?_, fun hk => ?_⟩
    · rw [execInputCircuitTest_on true hl hn hr, Chan.circuitTest_pass hi hk]
    · rw [execInputCircuitTest_on true hl hn hr, Chan.circuitTest_eighth hi hk]
  · exact congrArg Host.Outcome.next (State.onLive_same (if_neg (by simp [hr])))
  · have hexec := execSamplerStall_eq hl hph hst
    generalize hd : ({ s.ch ch with din := { (s.ch ch).din with
      stall := true, stallCnt := inc 16 (s.ch ch).din.stallCnt } } : Chan).emit .samplerStall 0 [] = d at hexec
    have hdin : d.din = { (s.ch ch).din with stall := true, stallCnt := inc 16 (s.ch ch).din.stallCnt } := by rw [← hd]; simp
    have hrun : d.running = (s.ch ch).running := by rw [← hd]; simp; rfl
    have hvotes : d.votes ch = (s.ch ch).votes ch := by rw [← hd]; simp; rfl
    refine ⟨_, hexec, ?_⟩
    by_cases hv : (s.ch ch).running = true ∧ (s.ch ch).votes ch = true
    · obtain ⟨hg, -⟩ := (s.put ch d).withdraw_gone (ch := ch) (by rw [State.put_ch, hrun, hv.1])
        (by rw [State.put_ch, hvotes, hv.2])
      rw [State.put_ch] at hg
      refine ⟨by rw [hg.din, hdin], by rw [hg.din, hdin], fun _ => ⟨hg.out, hg.high, hg.lowSide, hg.silent, hg.all_runs⟩,
        fun h => ?_⟩
      rcases h with h | h
      · simp [hv.1] at h
      · simp [hv.2] at h
    · have hn : (s.ch ch).running = false ∨ (s.ch ch).votes ch = false := by simpa [imp_iff_not_or] using hv
      rw [(s.put ch d).withdraw_of_not (by rw [State.put_ch, hrun, hvotes]; exact hn), State.put_ch]
      exact ⟨by rw [hdin], by rw [hdin], fun h => absurd h hv, fun _ => .put _ _ _⟩
  · show execSamplerStall ch s = _
    unfold execSamplerStall
    dsimp only
    rw [if_neg (by simp [hst])]

/-! ### Discrepancies (R188) -/

theorem Chan.differsLong_eq {c : Chan} {who : Ch} {n t : Nat} (h : (c.din.differs.get who).lookup n = some t) :
    c.differsLong who n = decide (c.act 0x0D09 * 10000 < c.lastInstant - t) := by
  simp [Chan.differsLong, h]

theorem Chan.agreesLong_eq {c : Chan} {who : Ch} {n t : Nat} (h : (c.din.agrees.get who).lookup n = some t) :
    c.agreesLong who n = decide (60000000 ≤ c.lastInstant - t) := by
  simp [Chan.agreesLong, h]

/-- Settles O22: the mark is set past the discrepancy time and cleared past the time of agreement, and not before. -/
theorem discrepancyMarksCircuits : Obligations.DiscrepancyMarksCircuits := by
  unfold Obligations.DiscrepancyMarksCircuits
  refine ⟨fun s ch who n hl hn => ?_, fun s ch who n => ⟨fun h => ?_, fun h => ?_⟩⟩
  · intro d
    refine ⟨fun t hv ht hlong => ?_, fun t ht hlong => ?_⟩
    · show execDiscrepancyTimeout ch who n s = _
      rw [execDiscrepancyTimeout, State.onLive_eq _ hl, if_pos (by simp [hn, hv, Chan.differsLong_eq ht, hlong])]
      rfl
    · show execDiscrepancyClear ch who n s = _
      rw [execDiscrepancyClear, State.onLive_eq _ hl, if_pos (by simp [hn, Chan.agreesLong_eq ht, hlong])]
      rfl
  · refine congrArg Host.Outcome.next (State.onLive_same (if_neg ?_))
    rcases h with h | h <;> simp [h]
  · refine congrArg Host.Outcome.next (State.onLive_same (if_neg ?_))
    simp [h]

/-! ### The arbiter's limits (R338 to R343) -/

theorem Chan.immediateOk_slot {c : Chan} {n r : Nat} {w : Word} (h0 : 0x0600 ≤ n) (h1 : n ≤ 0x0607) (hr : r < 8)
    (h : (c.arb.withSlot (n - 0x0600) w).contains r = false) : c.immediateOk n w false = false := by
  have hs : slotsOk (c.arb.withSlot (n - 0x0600) w) = false := by
    rw [slotsOk, List.all_eq_false]
    exact ⟨r, List.mem_range.mpr hr, by simpa using h⟩
  unfold Chan.immediateOk
  split
  · rfl
  · rw [if_pos (by simpa using And.intro h0 h1), hs, Bool.and_false]

theorem execArbParamWrite_refused {s : State} {ch : Ch} {n : Nat} {w : Word} (h : (s.ch ch).immediateOk n w false = false) :
    exec (.arbParamWrite ch n w) s = .next s :=
  congrArg Host.Outcome.next (State.onLive_same (if_neg (by simp [h])))

/-- Settles O54. -/
theorem arbiterLimitsGrants : Obligations.ArbiterLimitsGrants := by
  unfold Obligations.ArbiterLimitsGrants
  intro s ch hl c
  refine ⟨fun r hr => ?_, fun hr => ?_, fun b => ?_, fun w hw => ?_, fun n w h => execArbParamWrite_refused h,
    fun n w r h0 h1 h8 h => execArbParamWrite_refused (Chan.immediateOk_slot h0 h1 h8 h)⟩
  · show execArbiterHoldCut ch s = _
    rw [execArbiterHoldCut, State.onLive_eq _ hl]
    simp only [show (s.ch ch).arb.holder = some r from hr]
    rfl
  · show execArbiterHoldCut ch s = _
    refine congrArg Host.Outcome.next (State.onLive_same ?_)
    simp only [show (s.ch ch).arb.holder = none from hr]
  · show execArbCutClear ch b s = _
    rw [execArbCutClear, State.onLive_eq _ hl]
    simp [Chan.writeImmediate, c]
  · show execArbParamWrite ch 0x0610 w s = _
    rw [execArbParamWrite, State.onLive_eq _ hl, if_pos (by simpa using hw)]
    simp [Chan.writeImmediate, bits, c]

end Sys2Proof.Machine

/-! PROOFS. Start-up phase by phase, its agreement, waits and tests, and the role after the listen (spec/16 R402 to R406, spec/06 R170,
R171, spec/11 R295 to R297). -/

namespace Sys2Proof.Machine

open Sys2Proof

/-! ### What the work of a phase leaves of registers and image -/

/-- What the phases' work is judged by: start-up registers, image, role of the recorder, seals and user calibration apart. -/
def Chan.bootView (c : Chan) : Boot × Option Image × SealState := (c.boot, c.image, c.seals)

theorem Chan.emit_bootView (c : Chan) (name : EvName) (obj : Nat) (data : List Word) :
    (c.emit name obj data).bootView = c.bootView := by simp [Chan.bootView]

theorem Chan.xsendBoth_bootView (c : Chan) (me : Ch) (m : XMsg) : (c.xsendBoth me m).bootView = c.bootView := by
  simp [Chan.bootView]

theorem Chan.settleGate_bootView (c : Chan) (sets : List (List GateRecord)) (d : GateDef) :
    (c.settleGate sets d).bootView = c.bootView := by
  unfold Chan.settleGate
  dsimp only
  split
  · exact Chan.emit_bootView _ _ _ _
  · rfl

theorem Chan.settleCounters_bootView (c : Chan) : c.settleCounters.bootView = c.bootView := by
  unfold Chan.settleCounters
  split
  · exact foldl_view (fun c g => c.settleGate_bootView _ g) _ c
  · rfl

theorem Chan.startImage_bootView (c : Chan) (v : Variant) : (c.startImage v).bootView = c.bootView := by
  unfold Chan.startImage
  split <;> rfl

theorem Chan.takeCal_bootView (c : Chan) : c.takeCal.bootView = c.bootView := by
  unfold Chan.takeCal
  split
  · rfl
  · exact Chan.emit_bootView _ _ _ _

theorem Chan.loadStatic_bootView (c : Chan) : c.loadStatic.bootView = c.bootView := by
  unfold Chan.loadStatic
  split
  · rfl
  · exact Chan.emit_bootView _ _ _ _

/-- P6 begins with what P5 took (R404). -/
theorem Chan.beginAgreement_boot (c : Chan) (me : Ch) :
    (c.beginAgreement me).boot.phase = 6 ∧ (c.beginAgreement me).boot.appSlot = c.boot.appSlot ∧
      (c.beginAgreement me).image = c.image := by
  unfold Chan.beginAgreement
  extract_lets entered boot d set records reg e
  have h : (((e.xsendBoth me (.vote (.agreement set))).xsendBoth me (.counters records)).settleCounters).bootView = e.bootView :=
    (Chan.settleCounters_bootView _).trans ((Chan.xsendBoth_bootView _ _ _).trans (Chan.xsendBoth_bootView _ _ _))
  exact ⟨(congrArg (fun v => v.1.phase) h :), (congrArg (fun v => v.1.appSlot) h :), (congrArg (fun v => v.2.1) h :)⟩

/-! ### The phases one by one -/

theorem Chan.endP0_done (c : Chan) (v : Variant) {r : PhaseReport} (h : r.fail = none) :
    (c.endP0 v r).boot.phase = 1 ∧ (c.endP0 v r).boot.p0Ms = r.ms ∧ (c.endP0 v r).mem.data = [] ∧ (c.endP0 v r).mem.check = [] := by
  simp only [Chan.endP0, h]
  exact ⟨rfl, rfl, rfl, rfl⟩

theorem Chan.endP1_done {c : Chan} (me : Ch) {r : PhaseReport} (h : r.fail = none) (hr : (c.seals.read r.sealPos).range = false)
    (hc : (c.seals.read r.sealPos).combo = false) :
    (c.endP1 me r).boot.phase = 2 ∧ (c.endP1 me r).seals.bootPos = r.sealPos &&& 0xFFFF ∧
      (c.endP1 me r).seals.livePos = r.sealPos &&& 0xFFFF := by
  have hs : ({ c with seals := c.seals.read r.sealPos } : Chan).loadStatic.seals = c.seals.read r.sealPos :=
    (congrArg (fun v => v.2.2) (Chan.loadStatic_bootView { c with seals := c.seals.read r.sealPos }) :)
  simp only [Chan.endP1, h, hs, hr, hc]
  refine ⟨rfl, ?_, ?_⟩
  · exact congrArg SealState.bootPos hs
  · exact congrArg SealState.livePos hs

@[simp] theorem Nv.writeSlot_factoryCalOk (v : Nv) (r : Record) : (v.writeSlot r).factoryCalOk = v.factoryCalOk := by
  unfold Nv.writeSlot
  split
  split <;> rfl

@[simp] theorem Chan.appendNow_factoryCalOk (c : Chan) (me : Ch) (e : Event) (k : Nat) :
    (c.appendNow me e k).nv.factoryCalOk = c.nv.factoryCalOk := by
  obtain ⟨f, d, h⟩ := c.floorAt_eq e
  simp [Chan.appendNow, h, Nv.validate]

theorem Chan.startRecorder_started (c : Chan) (me : Ch) : (c.startRecorder me).recd.started = true := by
  unfold Chan.startRecorder
  split
  · next h => exact h
  · dsimp only
    split <;> simp

theorem Chan.startRecorder_factoryCalOk (c : Chan) (me : Ch) : (c.startRecorder me).nv.factoryCalOk = c.nv.factoryCalOk := by
  unfold Chan.startRecorder
  split
  · rfl
  · dsimp only
    split <;> simp

theorem Chan.emit_started (c : Chan) (name : EvName) (obj : Nat) (data : List Word) :
    (c.emit name obj data).recd.started = c.recd.started :=
  (congrArg (fun r => r.started) (c.emitAt_standing _ _ _ name obj data) :)

theorem Chan.noteKeySlots_frame (c : Chan) : c.noteKeySlots.boot = c.boot ∧ c.noteKeySlots.recd.started = c.recd.started ∧
    c.noteKeySlots.cal = c.cal := by
  have h := foldl_view (g := fun (c : Chan) => (c.boot, c.recd.started, c.cal))
    (f := fun c (k : KeySlot × Nat) => if k.1.crcOk then c else c.emit .keySlotBad k.2 [])
    (fun c k => by
      split
      · rfl
      · simp [Chan.emit_started]) c.nv.keys.zipIdx c
  exact ⟨(congrArg (fun v => v.1) h :), (congrArg (fun v => v.2.1) h :), (congrArg (fun v => v.2.2) h :)⟩

theorem Chan.endP2_done {c : Chan} (me : Ch) (v : Variant) {r : PhaseReport} (h : r.fail = none) (hf : c.nv.factoryCalOk = true) :
    (c.endP2 me v r).boot.phase = 3 ∧ (c.endP2 me v r).recd.started = true ∧ (c.endP2 me v r).cal.factOk = true := by
  simp only [Chan.endP2, h]
  generalize hd : ({ c with mem := c.mem.bootFill v, qm := { c.qm with ranges := c.buildRanges } } : Chan).startRecorder me = d
  have hs : d.recd.started = true := by rw [← hd]; exact Chan.startRecorder_started _ _
  have hok : d.nv.factoryCalOk = true := by rw [← hd, Chan.startRecorder_factoryCalOk]; exact hf
  rw [if_pos hok]
  obtain ⟨h1, h2, h3⟩ := (({ d with cal := { d.cal with factOk := d.nv.factoryCalOk } } : Chan).enterPhase 3).noteKeySlots_frame
  exact ⟨by rw [h1]; rfl, h2.trans hs, by rw [h3]; exact hok⟩

theorem Chan.runFirmware_frame (c : Chan) (k : Nat) (fb : Bool) :
    (c.runFirmware k fb).split = c.split ∧ ((c.nv.fw k).cont.isSome = true → (c.runFirmware k fb).boot.fwSlot = some k) := by
  unfold Chan.runFirmware
  split
  · next h => simp [h]
  · dsimp only
    split
    · exact ⟨by simp; rfl, fun _ => by simp⟩
    · exact ⟨rfl, fun _ => rfl⟩

theorem Chan.beginTests_joined {c : Chan} (me : Ch) (h : c.split = false) :
    (c.beginTests me).boot.phase = 4 ∧ (c.beginTests me).boot.fwSlot = c.boot.fwSlot ∧ (c.beginTests me).split = false := by
  unfold Chan.beginTests
  rw [if_neg (by simp [h])]
  dsimp only
  refine ⟨?_, ?_, ?_⟩
  · simp [Chan.enterPhase]
  · simp [Chan.enterPhase]
  · simpa [Chan.split, Chan.enterPhase] using h

theorem Chan.endP3_joined {c : Chan} (me : Ch) (v : Variant) {hwrev k : Nat} {fb : Bool}
    (h : c.nv.fwChoice hwrev = some (k, fb)) (hs : c.split = false) :
    (c.endP3 me v hwrev).boot.phase = 4 ∧
      ((c.nv.fw k).cont.isSome = true → (c.endP3 me v hwrev).boot.fwSlot = some k) := by
  obtain ⟨hsplit, hslot⟩ := c.runFirmware_frame k fb
  obtain ⟨h1, h2, h3⟩ := Chan.beginTests_joined me (hsplit.trans hs)
  simp only [Chan.endP3, h, h3]
  exact ⟨h1, fun hc => h2.trans (hslot hc)⟩

theorem Chan.toP5_phase (c : Chan) (me : Ch) (v : Variant) :
    (c.toP5 me v).boot.phase = if c.unprogrammed then 6 else 5 := by
  unfold Chan.toP5 Chan.startUnprogrammed
  split
  · exact (Chan.beginAgreement_boot _ _).1
  · rfl

theorem Chan.endP5_done {c : Chan} (me : Ch) (v : Variant) {n : Nat} {k : Container}
    (hn : takenSlot c.nv.app0 c.nv.app1 = some n) (hk : (c.nv.app n).cont = some k) (hf : c.appFault me v k = none)
    (hi : k.image.isSome = true) :
    (c.endP5 me v).boot.phase = 6 ∧ (c.endP5 me v).boot.appSlot = some n ∧ (c.endP5 me v).image = k.image := by
  obtain ⟨im, him⟩ := Option.isSome_iff_exists.mp hi
  simp only [Chan.endP5, hn, hk, hf, him]
  have hv := (Chan.takeCal_bootView _).trans (Chan.startImage_bootView
    { c with
      boot := { c.boot with appSlot := some n, appDigest := k.digest }
      image := some im, tiles := { c.tiles with digest := im.setDigest } } v)
  obtain ⟨h1, h2, h3⟩ := (({ c with
    boot := { c.boot with appSlot := some n, appDigest := k.digest } } : Chan).runImage v im).takeCal.beginAgreement_boot me
  exact ⟨h1, h2.trans (congrArg (fun v => v.1.appSlot) hv :), h3.trans (congrArg (fun v => v.2.1) hv :)⟩

theorem Chan.startVote_boot (c : Chan) (me : Ch) : (c.startVote me).boot = c.boot := by
  unfold Chan.startVote
  split
  · rfl
  · refine (apply_ite Chan.boot _ _ _).trans ?_
    rw [Chan.emit_boot]
    exact ite_self _

theorem Chan.startActive_boot (c : Chan) (me : Ch) : (c.startActive me).boot = c.boot := by
  unfold Chan.startActive
  split
  · simp [Chan.enterActive]
  · rfl

theorem Chan.computeReact_boot (c : Chan) : c.computeReact.boot = c.boot := by
  unfold Chan.computeReact
  split <;> rfl

theorem Chan.enterP7_boot (c : Chan) (me : Ch) (ms : Nat) : (c.enterP7 me ms).boot.phase = 7 ∧ (c.enterP7 me ms).boot.ms = ms := by
  have h : (c.enterP7 me ms).boot = { (c.enterPhase 7).boot with ms := ms } := by
    unfold Chan.enterP7
    dsimp only
    split
    · rw [Chan.computeReact_boot, Chan.startVote_boot]
      rfl
    · rw [Chan.startActive_boot, Chan.computeReact_boot, Chan.startVote_boot]
      rfl
  rw [h]
  exact ⟨rfl, rfl⟩

/-! ### The command -/

/-- The channel as its report finds it: its clock not behind the report. -/
def Chan.reported (c : Chan) (r : PhaseReport) : Chan := { c with clock := max c.clock (r.ms * 1000) }

section

variable {s : State} {ch : Ch} {r : PhaseReport}

/-- The work of a phase ends in a channel that starts up. -/
theorem execStartup_eq (hl : (s.ch ch).live = true) (hs : (s.ch ch).boot.stopped = false)
    (hp : (s.ch ch).supply.powerFail = false) :
    ∃ t, exec (.startupPhaseComplete ch r) s = .next t ∧
      ((s.ch ch).boot.phase = 0 → t = s.put ch (((s.ch ch).reported r).endP0 s.factory.variant r)) ∧
      ((s.ch ch).boot.phase = 1 → t = (s.put ch (((s.ch ch).reported r).endP1 ch r)).judgeAddress) ∧
      ((s.ch ch).boot.phase = 2 → t = s.put ch (((s.ch ch).reported r).endP2 ch s.factory.variant r)) ∧
      ((s.ch ch).boot.phase = 3 →
        t = s.put ch (((s.ch ch).reported r).endP3 ch s.factory.variant s.factory.hwrev)) ∧
      ((s.ch ch).boot.phase = 4 →
        t = if (s.ch ch).boot.testOk.get ch.next && (s.ch ch).boot.testOk.get ch.prev then
          s.put ch (((s.ch ch).reported r).toP5 ch s.factory.variant) else s) ∧
      ((s.ch ch).boot.phase = 5 → t = s.put ch (((s.ch ch).reported r).endP5 ch s.factory.variant)) ∧
      ((s.ch ch).boot.phase = 6 →
        t = if (s.ch ch).p6Done r.laneSkew then (s.put ch ((s.ch ch).reported r)).enterP7 ch r.ms else s) ∧
      (7 ≤ (s.ch ch).boot.phase → t = s) := by
  show ∃ t, execStartupPhaseComplete ch r s = .next t ∧ _
  unfold execStartupPhaseComplete
  dsimp only
  rw [if_neg (by simp [hl, hs, hp])]
  generalize hk : (s.ch ch).boot.phase = k
  match k with
  | 0 => exact ⟨_, rfl, fun _ => rfl, by simp⟩
  | 1 => exact ⟨_, rfl, by simp, fun _ => rfl, by simp⟩
  | 2 => exact ⟨_, rfl, by simp, by simp, fun _ => rfl, by simp⟩
  | 3 => exact ⟨_, rfl, by simp, by simp, by simp, fun _ => rfl, by simp⟩
  | 4 => exact ⟨_, rfl, by simp, by simp, by simp, by simp, fun _ => rfl, by simp⟩
  | 5 => exact ⟨_, rfl, by simp, by simp, by simp, by simp, by simp, fun _ => rfl, by simp⟩
  | 6 => exact ⟨_, rfl, by simp, by simp, by simp, by simp, by simp, by simp, fun _ => rfl, by simp⟩
  | n + 7 => exact ⟨_, rfl, by simp, by simp, by simp, by simp, by simp, by simp, by simp, fun _ => rfl⟩

theorem State.judgeAddress_ch (t : State) (x : Ch) : ∃ q, t.judgeAddress.ch x = { t.ch x with recd := q } ∧
    t.judgeAddress.hub = t.hub ∧ t.judgeAddress.net = t.net := by
  unfold State.judgeAddress
  split
  · rw [State.allLive_ch]
    split
    · exact ⟨_, Chan.emit_eq _ _ _ _, by simp, by simp⟩
    · exact ⟨_, rfl, by simp, by simp⟩
  · exact ⟨_, rfl, rfl, rfl⟩

theorem State.armAtEntry_ch (t : State) (x : Ch) :
    t.armAtEntry.ch x = t.ch x ∧ t.armAtEntry.hub = t.hub ∧ t.armAtEntry.net = t.net := by
  unfold State.armAtEntry
  dsimp only
  split
  · exact ⟨rfl, rfl, rfl⟩
  · split <;> exact ⟨rfl, rfl, rfl⟩

/-- An alive line that starts trips nothing. -/
theorem State.setAlive_true (t : State) (ch : Ch) :
    t.setAlive ch true = t.mod ch (fun c => { c with safe := { c.safe with alive := true } }) := by
  simp [State.setAlive]

theorem State.enterP7_ch (t : State) (ch : Ch) (ms : Nat) :
    ((t.enterP7 ch ms).ch ch).boot = ((t.ch ch).enterP7 ch ms).boot ∧ (∀ x, x ≠ ch → (t.enterP7 ch ms).ch x = t.ch x) ∧
      (t.enterP7 ch ms).hub = t.hub ∧ (t.enterP7 ch ms).net = t.net := by
  unfold State.enterP7
  extract_lets u w
  have hu : ((w.ch ch).boot = (u.ch ch).boot) ∧ (∀ x, x ≠ ch → w.ch x = u.ch x) ∧ w.hub = u.hub ∧ w.net = u.net := by
    unfold w
    split
    · rw [State.setAlive_true]
      exact ⟨by rw [State.mod_ch], fun x hx => State.mod_ch_ne _ _ hx, rfl, rfl⟩
    · exact ⟨rfl, fun _ _ => rfl, rfl, rfl⟩
  obtain ⟨h1, h2, h3, h4⟩ := hu
  refine ⟨?_, fun x hx => ?_, ?_, ?_⟩
  · rw [(w.armAtEntry_ch ch).1, h1]
    exact congrArg Chan.boot (State.mod_ch _ _ _)
  · rw [(w.armAtEntry_ch x).1, h2 x hx]
    exact State.mod_ch_ne _ _ hx
  · rw [(w.armAtEntry_ch ch).2.1, h3]
    rfl
  · rw [(w.armAtEntry_ch ch).2.2, h4]
    rfl

/-- Other channels see of a phase's end at most an event of their own (R378). -/
theorem execStartup_beside (s : State) (ch : Ch) (r : PhaseReport) :
    ∃ t, exec (.startupPhaseComplete ch r) s = .next t ∧ t.hub = s.hub ∧ t.net = s.net ∧
      (∀ x, x ≠ ch → t.ch x = { s.ch x with recd := (t.ch x).recd }) := by
  have same : ∀ t : State, (t.hub = s.hub ∧ t.net = s.net ∧ ∀ x, x ≠ ch → t.ch x = s.ch x) →
      t.hub = s.hub ∧ t.net = s.net ∧ (∀ x, x ≠ ch → t.ch x = { s.ch x with recd := (t.ch x).recd }) := by
    rintro t ⟨h1, h2, h3⟩
    exact ⟨h1, h2, fun x hx => by rw [h3 x hx]⟩
  have put : ∀ c, (s.put ch c).hub = s.hub ∧ (s.put ch c).net = s.net ∧ ∀ x, x ≠ ch → (s.put ch c).ch x = s.ch x :=
    fun c => ⟨rfl, rfl, fun x hx => State.put_ch_ne _ _ hx⟩
  have stays : s.hub = s.hub ∧ s.net = s.net ∧ ∀ x, x ≠ ch → s.ch x = s.ch x := ⟨rfl, rfl, fun _ _ => rfl⟩
  by_cases hgo : (s.ch ch).live = true ∧ (s.ch ch).boot.stopped = false ∧ (s.ch ch).supply.powerFail = false
  · obtain ⟨hl, hs, hp⟩ := hgo
    obtain ⟨t, hexec, h0, h1, h2, h3, h4, h5, h6, h7⟩ := execStartup_eq (r := r) hl hs hp
    refine ⟨t, hexec, ?_⟩
    generalize (s.ch ch).boot.phase = k at h0 h1 h2 h3 h4 h5 h6 h7
    match k with
    | 0 => exact h0 rfl ▸ same _ (put _)
    | 1 =>
      rw [h1 rfl]
      obtain ⟨-, -, hhub, hnet⟩ := (s.put ch (((s.ch ch).reported r).endP1 ch r)).judgeAddress_ch ch
      refine ⟨hhub, hnet, fun x hx => ?_⟩
      obtain ⟨q, hq, -⟩ := (s.put ch (((s.ch ch).reported r).endP1 ch r)).judgeAddress_ch x
      rw [hq, State.put_ch_ne _ _ hx]
    | 2 => exact h2 rfl ▸ same _ (put _)
    | 3 => exact h3 rfl ▸ same _ (put _)
    | 4 =>
      rw [h4 rfl]
      split
      · exact same _ (put _)
      · exact same _ stays
    | 5 => exact h5 rfl ▸ same _ (put _)
    | 6 =>
      rw [h6 rfl]
      split
      · obtain ⟨-, hothers, hhub, hnet⟩ := (s.put ch ((s.ch ch).reported r)).enterP7_ch ch r.ms
        exact same _ ⟨hhub, hnet, fun x hx => (hothers x hx).trans (State.put_ch_ne _ _ hx)⟩
      · exact same _ stays
    | n + 7 => exact h7 (by omega) ▸ same _ stays
  · refine ⟨s, ?_, same _ stays⟩
    show execStartupPhaseComplete ch r s = _
    unfold execStartupPhaseComplete
    dsimp only
    rw [if_pos]
    cases hl : (s.ch ch).live <;> cases hs : (s.ch ch).boot.stopped <;> cases hp : (s.ch ch).supply.powerFail <;> simp_all

end

/-- Settles O15, phase by phase. -/
theorem startupPhasesFollowOrStop : Obligations.StartupPhasesFollowOrStop := by
  unfold Obligations.StartupPhasesFollowOrStop
  refine ⟨fun s ch r hl hs hp => ?_, execStartup_beside, fun c code detail h => ?_, fun c code detail h => ?_,
    fun s ch r a hl hs hp h0 hf => ?_⟩
  · obtain ⟨t, hexec, h0, h1, h2, h3, h4, h5, h6, -⟩ := execStartup_eq (r := r) hl hs hp
    refine ⟨fun h hf => ⟨t, hexec, ?_⟩, fun h hf hr hc => ⟨t, hexec, ?_⟩, fun h hf hcal => ⟨t, hexec, ?_⟩,
      fun k fb h hk hsp => ⟨t, hexec, ?_⟩, fun h hn hpv => ⟨t, hexec, ?_⟩, fun n k h hn hk hfault hi => ⟨t, hexec, ?_⟩,
      fun h hd => ⟨t, hexec, ?_⟩⟩
    · rw [h0 h, State.put_ch]
      exact Chan.endP0_done _ _ hf
    · obtain ⟨hph, hboot, hlive⟩ := Chan.endP1_done (c := (s.ch ch).reported r) ch hf hr hc
      obtain ⟨q, hq, -⟩ := (s.put ch (((s.ch ch).reported r).endP1 ch r)).judgeAddress_ch ch
      rw [h1 h, hq, State.put_ch]
      exact ⟨hph, hboot, hlive⟩
    · rw [h2 h, State.put_ch]
      exact Chan.endP2_done (c := (s.ch ch).reported r) ch _ hf hcal
    · rw [h3 h, State.put_ch]
      exact Chan.endP3_joined (c := (s.ch ch).reported r) ch _ hk hsp
    · rw [h4 h, if_pos (by simp [hn, hpv]), State.put_ch]
      exact Chan.toP5_phase _ _ _
    · rw [h5 h, State.put_ch]
      exact Chan.endP5_done (c := (s.ch ch).reported r) ch _ hn hk hfault hi
    · rw [h6 h, if_pos hd, ((s.put ch ((s.ch ch).reported r)).enterP7_ch ch r.ms).1, State.put_ch]
      exact Chan.enterP7_boot _ _ _
  · rw [Chan.stop, if_neg (by simp [h])]
    rfl
  · rw [Chan.stop, if_pos h]
  · obtain ⟨t, hexec, h, -⟩ := execStartup_eq (r := r) hl hs hp
    refine ⟨t, hexec, ?_⟩
    rw [h h0, State.put_ch]
    simp only [Chan.endP0, hf, Chan.stop, Chan.reported, hs]
    simp [h0]

end Sys2Proof.Machine

/-! PROOFS. The start-up agreement and its waits, the comparator tests, the role after the listen, and the markers (spec/16 R404 to R406,
spec/06 R170, R171, spec/11 R295 to R297, spec/01 R23). -/

namespace Sys2Proof.Machine

open Sys2Proof

theorem Chan.starting_stopped {c : Chan} {n : Nat} (h : c.starting n = true) : c.boot.stopped = false := by
  simp only [Chan.starting, Bool.and_eq_true, Bool.not_eq_true'] at h
  exact h.1.2

theorem Chan.phaseFor_eq {c : Chan} {us ms : Nat} : c.phaseFor us ms = true ↔ c.boot.entered + us ≤ ms * 1000 := by
  simp [Chan.phaseFor]

theorem Chan.phaseFor_early {c : Chan} {us ms : Nat} (h : ms * 1000 < c.boot.entered + us) : c.phaseFor us ms = false := by
  simpa [Chan.phaseFor] using h

/-! ### The agreement (R405) -/

section

variable {c : Chan} {a b d : AgreeSet}

theorem Chan.judgeAgreement_fault {code : Nat} {who : BitVec 3} (h : digestFault a b d = some (code, who)) :
    c.judgeAgreement a b d = c.stop code (who.setWidth 32) := by
  simp [Chan.judgeAgreement, h]

theorem Chan.judgeAgreement_apart (h : digestFault a b d = none) (hs : minority a.sealPos b.sealPos d.sealPos = 7) :
    c.judgeAgreement a b d = c.stop 0x0604 7 := by
  simp [Chan.judgeAgreement, h, hs]

theorem Chan.judgeAgreement_agreed (h : digestFault a b d = none) (hs : minority a.sealPos b.sealPos d.sealPos ≠ 7) :
    c.judgeAgreement a b d =
      { c with boot := { c.boot with agreed := true, sealOut := minority a.sealPos b.sealPos d.sealPos } } := by
  unfold Chan.judgeAgreement
  simp only [h]
  exact if_neg (by simpa using hs)

theorem digestFault_fw (h : minority a.fw b.fw d.fw ≠ 0) : digestFault a b d = some (0x0601, minority a.fw b.fw d.fw) :=
  List.find?_cons_of_pos (bne_iff_ne.mpr h)

theorem digestFault_app (h1 : minority a.fw b.fw d.fw = 0) (h : minority a.app b.app d.app ≠ 0) :
    digestFault a b d = some (0x0602, minority a.app b.app d.app) :=
  (List.find?_cons_of_neg (by simp [h1])).trans (List.find?_cons_of_pos (bne_iff_ne.mpr h))

theorem digestFault_cfg (h1 : minority a.fw b.fw d.fw = 0) (h2 : minority a.app b.app d.app = 0)
    (h : minority a.cfg b.cfg d.cfg ≠ 0) : digestFault a b d = some (0x0603, minority a.cfg b.cfg d.cfg) :=
  (List.find?_cons_of_neg (by simp [h1])).trans
    ((List.find?_cons_of_neg (by simp [h2])).trans (List.find?_cons_of_pos (bne_iff_ne.mpr h)))

theorem digestFault_set (h1 : minority a.fw b.fw d.fw = 0) (h2 : minority a.app b.app d.app = 0)
    (h3 : minority a.cfg b.cfg d.cfg = 0) (h : minority a.setDigest b.setDigest d.setDigest ≠ 0) :
    digestFault a b d = some (0x0608, minority a.setDigest b.setDigest d.setDigest) :=
  (List.find?_cons_of_neg (by simp [h1])).trans ((List.find?_cons_of_neg (by simp [h2])).trans
    ((List.find?_cons_of_neg (by simp [h3])).trans (List.find?_cons_of_pos (bne_iff_ne.mpr h))))

theorem digestFault_none (h1 : minority a.fw b.fw d.fw = 0) (h2 : minority a.app b.app d.app = 0)
    (h3 : minority a.cfg b.cfg d.cfg = 0) (h4 : minority a.setDigest b.setDigest d.setDigest = 0) : digestFault a b d = none := by
  simp [digestFault, h1, h2, h3, h4]

end

/-- Settles O16: the digests in the order of the list, then the switches. -/
theorem agreementDecides : Obligations.AgreementDecides := by
  unfold Obligations.AgreementDecides
  intro s ch a b d hst hsp hag hset c
  have hexec : exec (.agreementDecision ch) s = .next (s.put ch (c.judgeAgreement a b d)) := by
    show execAgreementDecision ch s = _
    rw [execAgreementDecision, State.onLive_eq _ (Chan.starting_live hst), if_pos (by simp [hst, hsp, hag])]
    simp only [hset]
    rfl
  rw [hexec]
  refine ⟨fun h => ?_, fun h1 h => ?_, fun h1 h2 h => ?_, fun h1 h2 h3 h => ?_, fun h1 h2 h3 h4 => ⟨fun h => ?_, fun h => ?_⟩⟩
  · rw [Chan.judgeAgreement_fault (digestFault_fw h)]
  · rw [Chan.judgeAgreement_fault (digestFault_app h1 h)]
  · rw [Chan.judgeAgreement_fault (digestFault_cfg h1 h2 h)]
  · rw [Chan.judgeAgreement_fault (digestFault_set h1 h2 h3 h)]
  · rw [Chan.judgeAgreement_apart (digestFault_none h1 h2 h3 h4) h]
  · rw [Chan.judgeAgreement_agreed (digestFault_none h1 h2 h3 h4) h]

/-! ### Waits (R171, R404, R406) -/

section

variable {s : State} {ch frm : Ch} {ms : Nat}

theorem execAgreementTimeout_ends {x : Ch} (hst : (s.ch ch).starting 6 = true) (hsp : (s.ch ch).split = false)
    (hx : (s.ch ch).silentChannel = some x) (ht : (s.ch ch).boot.entered + 10000000 ≤ ms * 1000) :
    execAgreementTimeout ch ms s = .next (s.put ch ((s.ch ch).stop 0x0607 (w32 x.code))) := by
  rw [execAgreementTimeout, State.onLive_eq _ (Chan.starting_live hst)]
  simp only [hx]
  rw [if_pos (by simp [hst, hsp, Chan.phaseFor_eq.mpr ht])]

theorem execAgreementTimeout_waits (h : (s.ch ch).silentChannel = none ∨ ms * 1000 < (s.ch ch).boot.entered + 10000000) :
    execAgreementTimeout ch ms s = .next s := by
  refine congrArg Host.Outcome.next (State.onLive_same ?_)
  split
  · next x hx =>
    rcases h with h | h
    · simp [hx] at h
    · exact if_neg (by simp [Chan.phaseFor_early h])
  · rfl

theorem execAlignmentTimeout_ends {skew : Nat} (hst : (s.ch ch).starting 6 = true) (ha : (s.ch ch).aligned skew = false)
    (ht : (s.ch ch).boot.entered + 60000000 ≤ ms * 1000) :
    execAlignmentTimeout ch skew ms s = .next (s.put ch ((s.ch ch).stop 0x0606 (w32 skew))) := by
  rw [execAlignmentTimeout, State.onLive_eq _ (Chan.starting_live hst), if_pos (by simp [hst, ha, Chan.phaseFor_eq.mpr ht])]

theorem execAlignmentTimeout_waits {skew : Nat}
    (h : (s.ch ch).aligned skew = true ∨ ms * 1000 < (s.ch ch).boot.entered + 60000000) :
    execAlignmentTimeout ch skew ms s = .next s := by
  refine congrArg Host.Outcome.next (State.onLive_same (if_neg ?_))
  rcases h with h | h
  · simp [h]
  · simp [Chan.phaseFor_early h]

theorem execTestTimeout_ends {x : Ch} (hst : (s.ch ch).starting 4 = true) (ht : (s.ch ch).boot.entered + 5000000 ≤ ms * 1000)
    (hx : [ch.next, ch.prev].find? (fun x => ((s.ch ch).boot.testSets.get x).isNone) = some x) :
    execTestTimeout ch ms s = .next (s.put ch ((s.ch ch).stop 0x0402 (w32 x.code))) := by
  rw [execTestTimeout, State.onLive_eq _ (Chan.starting_live hst)]
  simp only [hx]
  rw [if_pos (by simp [hst, Chan.phaseFor_eq.mpr ht])]

theorem execTestTimeout_waits
    (h : ((s.ch ch).boot.testSets.get ch.next ≠ none ∧ (s.ch ch).boot.testSets.get ch.prev ≠ none) ∨
      ms * 1000 < (s.ch ch).boot.entered + 5000000) : execTestTimeout ch ms s = .next s := by
  refine congrArg Host.Outcome.next (State.onLive_same ?_)
  split
  · next x hx =>
    rcases h with ⟨h1, h2⟩ | h
    · simp [h1, h2] at hx
    · exact if_neg (by simp [Chan.phaseFor_early h])
  · rfl

/-! ### Tests and counters off a link (R170, R222) -/

theorem Chan.readFrom_starting (c : Chan) (frm : Ch) (l : Link) (n : Nat) : (c.readFrom frm l).starting n = c.starting n := rfl

theorem execTest_taken {l : Link} {set : List Word} {odd : List TestCase} (hn : ch ≠ frm) (hst : (s.ch ch).starting 4 = true)
    (ht : (s.ch ch).TakesFrom frm l (.test set)) :
    execTest ch frm l set odd s = .next (s.put ch (((s.ch ch).readFrom frm l).takeTest ch frm set odd)) := by
  rw [execTest, State.taken_of_takes _ hn (Chan.starting_live hst) ht, if_pos (by rw [Chan.readFrom_starting, hst])]

/-- The partners of a channel other than one of them. -/
theorem Ch.third_of (hn : ch ≠ frm) : Ch.third ch frm = ch.next ∨ Ch.third ch frm = ch.prev := by
  revert hn
  cases ch <;> cases frm <;> decide

/-- Without the third channel's set a test waits. -/
theorem Chan.takeTest_waits {c : Chan} {set : List Word} (odd : List TestCase) (hn : ch ≠ frm)
    (h : (c.boot.testSets.set frm (some set)).get (Ch.third ch frm) = none) :
    c.takeTest ch frm set odd = { c with boot := { c.boot with testSets := c.boot.testSets.set frm (some set) } } := by
  unfold Chan.takeTest
  dsimp only
  split
  · next own next prev _ h2 h3 =>
    rcases Ch.third_of hn with e | e
    · rw [e, h2] at h
      simp at h
    · rw [e, h3] at h
      simp at h
  · rfl

section

variable {c : Chan} {set own next prev : List Word} {odd : List TestCase} {ch frm : Ch}
  (h1 : (c.boot.testSets.set frm (some set)).get ch = some own)
  (h2 : (c.boot.testSets.set frm (some set)).get ch.next = some next)
  (h3 : (c.boot.testSets.set frm (some set)).get ch.prev = some prev)

include h1 h2 h3

theorem Chan.takeTest_passes (h : firstOdd own next prev odd = none) :
    c.takeTest ch frm set odd =
      { c with
        boot := { c.boot with
          testSets := c.boot.testSets.set frm (some set), testOk := (c.boot.testOk.set ch.next true).set ch.prev true }
        vote := { c.vote with injDone := true } } := by
  simp only [Chan.takeTest, h1, h2, h3, h]

theorem Chan.takeTest_fails {t : TestCase} (h : firstOdd own next prev odd = some t) (hs : c.boot.stopped = false) :
    let d := c.takeTest ch frm set odd
    d.boot.stopped = true ∧ d.boot.code = 0x0401 ∧ d.vote.injFail = true ∧ d.vote.injTest = t.test % 16 ∧
      d.vote.injPath = t.path % 4 ∧ d.vote.injWord = t.word % 8192 ∧ d.boot.detail = d.vote.injectWord := by
  simp only [Chan.takeTest, h1, h2, h3, h, Chan.stop, hs]
  simp

end

theorem execCounters_taken {l : Link} {records : List GateRecord} (hn : ch ≠ frm) (hl : (s.ch ch).live = true)
    (ht : (s.ch ch).TakesFrom frm l (.counters records)) :
    execCounters ch frm l records s = .next (s.put ch
      (let c := (s.ch ch).readFrom frm l
      if c.boot.phase == 6 && !c.boot.stopped && (c.boot.counters.get frm).isNone then
        ({ c with boot := { c.boot with counters := c.boot.counters.set frm (some records) } } : Chan).settleCounters
      else c)) := by
  rw [execCounters, State.taken_of_takes _ hn hl ht]

end

/-- Settles O17: each wait at its end and before, the test with and without the third set, the counters once. -/
theorem startupWaitsAndTestsEnd : Obligations.StartupWaitsAndTestsEnd := by
  unfold Obligations.StartupWaitsAndTestsEnd
  refine ⟨fun s ch x ms hst hsp hx ht => execAgreementTimeout_ends hst hsp hx ht, fun s ch ms h => execAgreementTimeout_waits h,
    fun s ch skew ms hst ha ht => execAlignmentTimeout_ends hst ha ht, fun s ch skew ms h => execAlignmentTimeout_waits h,
    fun s ch ms hst ht => ⟨fun h => ?_, fun hn hp => ?_⟩, fun s ch ms h => execTestTimeout_waits h,
    fun s ch frm l set odd hn hst ht => ?_, fun s ch frm l records hn hl hph hs ht hc => ?_,
    fun s ch frm l records hn hl ht hc => ?_⟩
  · exact execTestTimeout_ends hst ht (by simp [h])
  · refine execTestTimeout_ends hst ht ?_
    rw [List.find?_cons_of_neg (by simpa using hn), List.find?_cons_of_pos (by simp [hp])]
  · intro c sets d
    have hexec : exec (.test ch frm l set odd) s = .next (s.put ch (c.takeTest ch frm set odd)) := execTest_taken hn hst ht
    refine ⟨fun h => ?_, fun own next prev h1 h2 h3 => ⟨fun h => ?_, fun t h => ?_⟩⟩
    · rw [hexec, Chan.takeTest_waits odd hn h]
    · rw [hexec, Chan.takeTest_passes h1 h2 h3 h]
    · refine ⟨_, hexec, .put _ _ _, ?_⟩
      rw [State.put_ch]
      exact Chan.takeTest_fails h1 h2 h3 h (Chan.starting_stopped hst)
  · intro c
    show execCounters ch frm l records s = _
    rw [execCounters_taken hn hl ht]
    dsimp only
    rw [if_pos (by simp [Chan.readFrom, hph, hs, hc])]
  · show execCounters ch frm l records s = _
    rw [execCounters_taken hn hl ht]
    dsimp only
    rw [if_neg (by
      have : ((s.ch ch).boot.counters.get frm).isNone = false := by simpa using hc
      simp [Chan.readFrom, this])]

/-! ### The role after the listen (R295 to R297) -/

/-- The role where another that starts up was heard (R297). -/
theorem Chan.decideRole_heard {c : Chan} {e r : Nat} (me : Ch) (h : c.part.heardActive = false)
    (h0 : c.part.heardStarting = some (e, r)) :
    c.decideRole me =
      if decide (e < c.nv.eSeen) || (e == c.nv.eSeen && decide (r < c.rank)) then
        ({ c with nv := { c.nv with eSeen := max c.nv.eSeen e } } : Chan).startActive me
      else { c with part := { c.part with role := 2, claim := 0, since := c.clock } } := by
  unfold Chan.decideRole
  rw [if_neg (by simp [h])]
  split
  · next h1 => simp [h0] at h1
  · next e' r' h1 =>
    obtain ⟨rfl, rfl⟩ : e = e' ∧ r = r' := by simpa [h0] using h1
    rfl

/-- Settles O18: an active heard, none heard, or the order of epoch and rank. -/
theorem listenGivesTheRole : Obligations.ListenGivesTheRole := by
  unfold Obligations.ListenGivesTheRole
  intro s ch ms hst hag hli hsk ht c standby active
  have hexec : exec (.partnerListenEnd ch ms) s = .next (s.put ch (c.decideRole ch)) := by
    show execPartnerListenEnd ch ms s = _
    rw [execPartnerListenEnd, State.onLive_eq _ (Chan.starting_live hst),
      if_pos (by simp [hst, hag, hli, hsk, Chan.phaseFor_eq.mpr ht])]
  rw [hexec]
  refine ⟨fun h => ?_, fun h h0 => ?_, fun e r h h0 hlt => ?_, fun e r h h0 hge => ?_⟩
  · rw [Chan.decideRole, if_pos (show c.part.heardActive = true from h)]
  · rw [Chan.decideRole, if_neg (show ¬ c.part.heardActive = true by simpa [c] using h)]
    simp only [show c.part.heardStarting = none from h0]
    rfl
  · rw [Chan.decideRole_heard ch (c := c) h h0, if_pos (by simpa using hlt)]
    have hmax : max c.nv.eSeen e = c.nv.eSeen := by omega
    rw [hmax]
    rfl
  · rw [Chan.decideRole_heard ch (c := c) h h0, if_neg (by simp; omega)]

/-! ### Markers (R23) -/

section

variable {c : Chan} {ch frm : Ch}

/-- A partner's offset formed while another is missing, or once the skew is judged. -/
theorem Chan.takeOffset_waits {o : Int}
    (h : (∃ x, x ∈ c.voters ∧ (c.vote.offsets.set frm (some o)).get x = none) ∨ c.vote.skewJudged = true) :
    c.takeOffset ch frm o = { c with vote := { c.vote with offsets := c.vote.offsets.set frm (some o) } } := by
  unfold Chan.takeOffset
  dsimp only
  split
  · next hall =>
    rcases h with ⟨x, hx, hnone⟩ | h
    · have := List.all_eq_true.mp hall x hx
      simp [hnone] at this
    · simp only [Chan.judgeSkew, h]
  · rfl

/-- The vote registers with a skew judged against the median (R23). -/
def Chan.judgedAgainst (c : Chan) (me : Ch) (m : Int) : Chan :=
  { c with
    vote := { c.vote with
      skewOffset := ((c.vote.offsets.get me).getD 0 - m) / 4
      moveNext := if c.onFabric && c.sync.st == 4 then 0 else max (-400) (min 400 m)
      skewJudged := true
      skews := if c.skewBits = 0 then c.vote.skews else (c.mainCycle, c.skewBits) :: c.vote.skews } }

theorem Chan.takeOffset_judges {d : Chan} {o m : Int}
    (hd : d = { c with vote := { c.vote with offsets := c.vote.offsets.set frm (some o) } })
    (hall : ∀ x ∈ d.voters, (d.vote.offsets.get x).isSome = true) (hj : d.vote.skewJudged = false) (hm : d.median = some m) :
    c.takeOffset ch frm o =
      if d.skewBits.getLsbD ch.code then
        ({ d.judgedAgainst ch m with
          vote := { (d.judgedAgainst ch m).vote with skewCnt := inc 16 (d.judgedAgainst ch m).vote.skewCnt } } : Chan).emit .skewFault ch.code []
      else d.judgedAgainst ch m := by
  have hjudge : c.takeOffset ch frm o = d.judgeSkew ch := by
    subst hd
    exact if_pos (List.all_eq_true.mpr hall)
  rw [hjudge]
  simp only [Chan.judgeSkew, hj, hm, beq_iff_eq]
  rfl

end

/-- A marker read off a link. -/
theorem execMarker_taken {s : State} {ch frm : Ch} {l : Link} {cycle localTime wait arrival : Nat} (hn : ch ≠ frm)
    (hl : (s.ch ch).live = true) (ht : (s.ch ch).TakesFrom frm l (.marker cycle localTime wait)) :
    exec (.marker ch frm l cycle localTime wait arrival) s = .next (s.put ch
      (let c := (s.ch ch).readFrom frm l
      let at_ : Int := (arrival : Int) - wait - 24
      if c.running && c.released && cycle == c.mainCycle then c.takeOffset ch frm (at_ - c.t1Clock * 40)
      else if c.running && cycle == c.nextMain then
        { c with vote := { c.vote with early := c.vote.early.set frm (some (cycle, at_)) } }
      else c)) := by
  show execMarker ch frm l cycle localTime wait arrival s = _
  rw [execMarker, State.taken_of_takes _ hn hl ht]

/-- Settles O23: by the cycle a marker names, and whether the offsets are all there. -/
theorem markerGivesOffset : Obligations.MarkerGivesOffset := by
  unfold Obligations.MarkerGivesOffset
  refine ⟨fun s ch frm l cycle localTime wait arrival hn hr ht => ?_, fun s ch frm l cycle localTime wait arrival hn hl hr ht => ?_⟩
  · intro c
    have hexec := execMarker_taken (arrival := arrival) hn (Chan.running_live hr) ht
    have hrun : ((s.ch ch).readFrom frm l).running = true := hr
    dsimp only at hexec
    rw [hrun, Bool.true_and, Bool.true_and] at hexec
    refine ⟨fun hrel hc => ?_, fun hc => ?_, fun hc h => ?_⟩
    · intro o d
      have hexec' : exec (.marker ch frm l cycle localTime wait arrival) s = .next (s.put ch (c.takeOffset ch frm o)) := by
        rw [hexec, if_pos (by simp [Chan.readFrom, hrel, hc])]
        rfl
      refine ⟨fun h => ?_, fun m hall hj hm => ?_⟩
      · rw [hexec', Chan.takeOffset_waits h]
      · intro e
        have htake := Chan.takeOffset_judges (c := c) (ch := ch) (o := o) (d := d) rfl hall hj hm
        refine ⟨fun h => ?_, fun h => ?_⟩
        · rw [hexec', htake, if_neg (by simp [h])]
          rfl
        · rw [hexec', htake, if_pos h]
          rfl
    · have hne : ((s.ch ch).released && cycle == (s.ch ch).mainCycle) = false := by
        cases hrel : (s.ch ch).released with
        | false => rfl
        | true => simp [hc, Chan.nextMain, hrel]
      rw [hexec, if_neg (by simpa [Chan.readFrom] using hne), if_pos]
      exact beq_iff_eq.mpr hc
    · rw [hexec, if_neg, if_neg]
      · exact fun h => hc (beq_iff_eq.mp h)
      · rcases h with h | h <;> simp [Chan.readFrom, h]
  · rw [execMarker_taken hn hl ht]
    have hrun : ((s.ch ch).readFrom frm l).running = false := hr
    simp [hrun]

end Sys2Proof.Machine

/-! PROOFS. Transfers on the exchange links and on the partner link (spec/06 R160, R161, R180, spec/11 R300, R301): the order in which
they begin. -/

namespace Sys2Proof.Machine

open Sys2Proof

/-! ### Lists in the order of their rank -/

section

variable {α : Type}

/-- In a list whose rank rises, the entries up to a rank stand in front. -/
theorem takeWhile_rank {r : α → Nat} {n : Nat} {l : List α} (h : l.Pairwise (fun a b => r a ≤ r b)) :
    l.takeWhile (fun a => decide (r a ≤ n)) = l.filter (fun a => decide (r a ≤ n)) ∧
      l.dropWhile (fun a => decide (r a ≤ n)) = l.filter (fun a => !decide (r a ≤ n)) := by
  induction l with
  | nil => exact ⟨rfl, rfl⟩
  | cons a l ih =>
    obtain ⟨hhead, htail⟩ := List.pairwise_cons.mp h
    by_cases ha : r a ≤ n
    · obtain ⟨h1, h2⟩ := ih htail
      simp [ha, h1, h2]
    · have hall : ∀ b ∈ l, ¬ r b ≤ n := fun b hb hle => ha ((hhead b hb).trans hle)
      have h1 : l.filter (fun a => decide (r a ≤ n)) = [] := List.filter_eq_nil_iff.mpr fun b hb => by simpa using hall b hb
      have h2 : l.filter (fun a => !decide (r a ≤ n)) = l := List.filter_eq_self.mpr fun b hb => by simpa using hall b hb
      simp [ha, h1, h2]

/-- Taking out the first entry that passes a test takes the front off those that pass it, and touches no others. -/
theorem filter_erase_find [BEq α] [LawfulBEq α] {p q : α → Bool} {l : List α} {e : α} (he : l.find? p = some e) :
    (l.erase e).filter p = (l.filter p).tail ∧ ((∀ a, p a = true → q a = false) → (l.erase e).filter q = l.filter q) := by
  induction l with
  | nil => simp at he
  | cons a l ih =>
    by_cases ha : p a = true
    · obtain rfl : a = e := by simpa [ha] using he
      refine ⟨by simp [ha], fun h => by simp [h a ha]⟩
    · have he' : l.find? p = some e := by simpa [ha] using he
      have hpe : p e = true := List.find?_some he'
      have hne : a ≠ e := fun h => ha (h ▸ hpe)
      obtain ⟨h1, h2⟩ := ih he'
      rw [List.erase_cons_tail (by simpa using hne)]
      refine ⟨by simp [ha, h1], fun h => ?_⟩
      simp [List.filter_cons, h2 h]

end

/-! ### The exchange links (R160, R161, R180) -/

theorem Chan.xsend_split {c : Chan} (dst : Ch) (msg : XMsg) (h : c.split = true) : c.xsend dst msg = c := by
  rw [Chan.xsend, if_pos h]

theorem Chan.xsend_vote {c : Chan} (dst : Ch) {msg : XMsg} (h : c.split = false) (hc : msg.copyClass = false) :
    c.xsend dst msg = c.xput dst msg := by
  rw [Chan.xsend, if_neg (by simp [h]), if_neg (by simp [hc])]

theorem Chan.xsend_copy {c : Chan} (dst : Ch) {msg : XMsg} (h : c.split = false) (hc : msg.copyClass = true) :
    c.xsend dst msg = { c with xwait := c.xwait ++ [(dst, msg)] } := by
  rw [Chan.xsend, if_neg (by simp [h]), if_pos hc]

/-- What a free link of the exchange begins: the copy that has waited longest for it. -/
def Chan.firstFor (c : Chan) (dst : Ch) : List XSent :=
  (c.xwait.find? (fun e => e.1 == dst)).toList.map (fun e => { dst := dst, seq := c.vote.txSeq.get dst, msg := e.2 })

theorem Chan.xdrain_frame (c : Chan) (dst : Ch) :
    (c.xdrain dst).xout = c.xout ++ c.firstFor dst ∧ (c.xdrain dst).pout = c.pout ∧ (c.xdrain dst).pwait = c.pwait ∧
      (c.xdrain dst).part = c.part ∧ (∀ x, x ≠ dst → (c.xdrain dst).vote.txSeq.get x = c.vote.txSeq.get x) ∧
      (c.xdrain dst).xwait.filter (fun e => e.1 == dst) = (c.xwait.filter (fun e => e.1 == dst)).tail ∧
      ∀ x, x ≠ dst → (c.xdrain dst).xwait.filter (fun e => e.1 == x) = c.xwait.filter (fun e => e.1 == x) := by
  unfold Chan.xdrain Chan.firstFor
  split
  · next e he =>
    rw [he]
    obtain ⟨h1, h2⟩ := filter_erase_find (p := fun (e : Ch × XMsg) => e.1 == dst) (q := fun e => e.1 == dst) he
    refine ⟨rfl, rfl, rfl, rfl, fun x hx => Tri.get_set_ne _ _ hx, h1, fun x hx => ?_⟩
    exact (filter_erase_find (p := fun (e : Ch × XMsg) => e.1 == dst) (q := fun e => e.1 == x) he).2 fun a ha => by
      have : a.1 = dst := by simpa using ha
      simpa [this] using hx.symm
  · next he =>
    rw [he]
    have : c.xwait.filter (fun e => e.1 == dst) = [] :=
      List.filter_eq_nil_iff.mpr (List.find?_eq_none.mp he)
    refine ⟨by simp, rfl, rfl, rfl, fun _ _ => rfl, by rw [this, List.tail_nil], fun _ _ => rfl⟩

/-- The first copy for a link is the front of those that wait for it. -/
theorem Chan.firstFor_eq (c : Chan) (dst : Ch) :
    c.firstFor dst = (c.xwait.filter (fun e => e.1 == dst)).head?.toList.map
      (fun e => { dst := dst, seq := c.vote.txSeq.get dst, msg := e.2 }) := by
  rw [Chan.firstFor, List.head?_filter]

theorem Chan.pdrain_frame (c : Chan) :
    c.pdrain.xout = c.xout ∧ c.pdrain.xwait = c.xwait ∧
      c.pdrain.pout = c.pout ++ c.pwait.head?.toList.map (fun m => (c.part.txSeq, m)) ∧ c.pdrain.pwait = c.pwait.tail := by
  unfold Chan.pdrain
  split
  · next m rest h =>
    have hseq : (c.part.begun m).txSeq = c.part.txSeq := by cases m <;> rfl
    simp [Chan.pput, h, hseq]
  · next h => simp [h]

/-- What the idle links of a channel begin. -/
theorem Chan.drainLinks_frame (c : Chan) (me : Ch) :
    (c.drainLinks me).xout = c.xout ++ c.firstFor me.next ++ c.firstFor me.prev ∧
      (c.drainLinks me).pout = c.pout ++ c.pwait.head?.toList.map (fun m => (c.part.txSeq, m)) ∧
      (c.drainLinks me).pwait = c.pwait.tail ∧
      ∀ y, y ≠ me → (c.drainLinks me).xwait.filter (fun e => e.1 == y) = (c.xwait.filter (fun e => e.1 == y)).tail := by
  obtain ⟨hx1, hp1, hw1, hpart1, hseq1, hown1, hoth1⟩ := c.xdrain_frame me.next
  obtain ⟨hx2, hp2, hw2, hpart2, hseq2, hown2, hoth2⟩ := (c.xdrain me.next).xdrain_frame me.prev
  obtain ⟨hx3, hxw3, hp3, hw3⟩ := ((c.xdrain me.next).xdrain me.prev).pdrain_frame
  have hne : me.prev ≠ me.next := (Ch.next_ne_prev me).symm
  have hfirst : (c.xdrain me.next).firstFor me.prev = c.firstFor me.prev := by
    rw [Chan.firstFor_eq, Chan.firstFor_eq, hoth1 _ hne, hseq1 _ hne]
  unfold Chan.drainLinks
  refine ⟨by rw [hx3, hx2, hx1, hfirst], by rw [hp3, hp2, hp1, hw2, hw1, hpart2, hpart1], by rw [hw3, hw2, hw1], fun y hy => ?_⟩
  rw [hxw3]
  rcases Ch.cases_of y me with e | e | e
  · exact absurd e hy
  · subst e
    rw [hoth2 _ (Ch.next_ne_prev me), hown1]
  · subst e
    rw [hown2, hoth1 _ hne]

/-- Settles O10: the two kinds of transfer on each link, and the links of an idle module. -/
theorem linksSendInOrder : Obligations.LinksSendInOrder := by
  unfold Obligations.LinksSendInOrder
  refine ⟨fun c dst msg => ⟨Chan.xsend_split dst msg, fun h hc => ?_, fun h hc => ?_⟩, fun c msg => ⟨fun h => ?_, fun h => ?_, fun h => ?_,
    fun h hs => ?_⟩, fun s x hp hl => ?_⟩
  · rw [Chan.xsend_vote dst h hc]
    exact ⟨rfl, rfl, Tri.get_set_self _ _ _, fun x hx => Tri.get_set_ne _ _ hx⟩
  · rw [Chan.xsend_copy dst h hc]
    exact ⟨rfl, rfl, rfl⟩
  · rw [Chan.psend, if_pos h]
    exact ⟨rfl, rfl, rfl⟩
  · rw [Chan.psend, if_neg (by omega), Chan.pwaitFor]
    split
    · refine ⟨rfl, rfl, List.perm_middle.trans (List.Perm.cons _ ?_)⟩
      rw [List.takeWhile_append_dropWhile]
    · exact ⟨rfl, rfl, List.perm_append_singleton _ _⟩
  · rw [Chan.psend, if_neg (by omega), Chan.pwaitFor, if_neg (by omega)]
  · rw [Chan.psend, if_neg (by omega), Chan.pwaitFor, if_pos (by omega)]
    obtain ⟨h1, h2⟩ := takeWhile_rank (n := 2) hs
    exact h1 ▸ h2 ▸ rfl
  · intro c first sent
    refine ⟨s.idle, by simp [step, hp], ?_⟩
    rw [State.idle, State.allLive_ch, if_pos hl]
    exact c.drainLinks_frame x

end Sys2Proof.Machine

/-! PROOFS. What the memory's rows leave of the listings of data and check bits (spec/12_memory_and_arbiter.md R318, R322): counters and
logs leave them alone, writes keep their form. -/

namespace Sys2Proof.Machine

open Sys2Proof

/-! ### Counters and logs -/

/-- The listings of a memory: later changes to data and to check bits. -/
def Mem.cells (m : Mem) : List Host.Cell × List (Nat × BitVec 5) := (m.data, m.check)

theorem Mem.wf_of_cells {m n : Mem} (h : n.cells = m.cells) (hm : m.wf = true) : n.wf = true :=
  Mem.wf_of_same (congrArg Prod.fst h :) (congrArg Prod.snd h :) hm

theorem Mem.countUe_cells (m : Mem) (a : Nat) : (m.countUe a).cells = m.cells := by
  unfold Mem.countUe
  split <;> rfl

theorem Mem.countCe_cells (m : Mem) (a : Nat) : (m.countCe a).cells = m.cells := by
  unfold Mem.countCe
  split <;> rfl

theorem Mem.noteHard_cells (m : Mem) (v : Variant) (was : LaneKind) (a : Nat) : (m.noteHard v was a).cells = m.cells := by
  unfold Mem.noteHard
  split
  · rfl
  · split
    · rfl
    · split <;> rfl

theorem Chan.seeUe_cells (c : Chan) (v : Variant) (a : Nat) : (c.seeUe v a).mem.cells = c.mem.cells := by
  unfold Chan.seeUe
  split <;> rfl

theorem Chan.lostLane_cells (c : Chan) (me : Ch) (v : Variant) (r : Reader) (a : Nat) :
    (c.lostLane me v r a).mem.cells = c.mem.cells :=
  (Chan.seeUe_cells _ v a).trans (c.mem.countUe_cells a)

theorem Chan.countSram_cells (c : Chan) (a : Nat) : (c.countSram a).mem.cells = c.mem.cells := by
  unfold Chan.countSram
  dsimp only
  split <;> rfl

theorem Chan.logCorrection_mem (c : Chan) (a lane : Nat) : (c.logCorrection a lane).mem = c.mem := by
  simp [Chan.logCorrection]

theorem Chan.noteCorrected_cells (c : Chan) (v : Variant) (r : Reader) (a : Nat) : (c.noteCorrected v r a).mem.cells = c.mem.cells := by
  unfold Chan.noteCorrected
  dsimp only
  split
  · rw [Chan.logCorrection_mem]
    rfl
  · split
    · exact Chan.countSram_cells _ _
    · rfl

theorem Chan.corrected_cells (c : Chan) (v : Variant) (r : Reader) (a : Nat) : (c.corrected v r a).mem.cells = c.mem.cells :=
  (Chan.noteCorrected_cells _ v r a).trans (c.mem.countCe_cells a)

theorem Chan.abortReader_cells (c : Chan) (r : Reader) (cause : Nat) : (c.abortReader r cause).mem.cells = c.mem.cells := by
  cases r <;> rfl

theorem State.withdraw_mem (s : State) (ch : Ch) : ((s.withdraw ch).ch ch).mem = (s.ch ch).mem := by
  by_cases h : (s.ch ch).running = true ∧ (s.ch ch).votes ch = true
  · exact (s.withdraw_gone h.1 h.2).1.mem
  · rw [s.withdraw_of_not (by simpa [imp_iff_not_or] using h)]

theorem Chan.stop_mem (c : Chan) (code : Nat) (detail : Word) : (c.stop code detail).mem = c.mem := by
  unfold Chan.stop
  split
  · rfl
  · simp

theorem State.trapped_cells (s : State) (ch : Ch) (a : Nat) : ((s.trapped ch a).ch ch).mem.cells = (s.ch ch).mem.cells := by
  unfold State.trapped
  extract_lets u p
  have hu : (u.ch ch).mem.cells = (s.ch ch).mem.cells := by
    unfold u
    rw [State.mod_ch, Chan.emit_mem]
    rfl
  split
  · rw [State.withdraw_mem, hu]
  · split
    · rw [State.mod_ch, Chan.stop_mem, hu]
    · exact hu

theorem State.halted_cells (s : State) (ch : Ch) (r : Reader) (h : Halt) :
    ((s.halted ch r h).ch ch).mem.cells = (s.ch ch).mem.cells := by
  unfold State.halted
  extract_lets u
  have hu : (u.ch ch).mem.cells = (s.ch ch).mem.cells := by
    unfold u
    split
    · rw [State.mod_ch, Chan.lostLane_cells]
    · rfl
  split
  · rw [State.trapped_cells, hu]
  · split
    · rw [State.withdraw_mem, hu]
    · exact hu

/-! ### DMA -/

/-- A sweep of steps that keep the memory's form keeps it. -/
theorem foldl_wf {α : Type} {f : Chan → α → Chan} (hf : ∀ c a, c.mem.wf = true → (f c a).mem.wf = true) (l : List α) (c : Chan)
    (h : c.mem.wf = true) : (l.foldl f c).mem.wf = true := by
  induction l generalizing c with
  | nil => exact h
  | cons a l ih => exact ih _ (hf c a h)

theorem Chan.correctedIn_cells (c : Chan) (me : Ch) (v : Variant) (e : Nat) (p : Piece) :
    (c.correctedIn me v e p).mem.cells = c.mem.cells :=
  foldl_view (g := fun (c : Chan) => c.mem.cells) (fun c _ => c.corrected_cells v _ _) _ c

theorem Chan.carryPiece_wf {c : Chan} (me : Ch) (v : Variant) (e : Nat) (d : Descriptor) (p : Piece) (h : c.mem.wf = true) :
    (c.carryPiece me v e d p).mem.wf = true := by
  unfold Chan.carryPiece
  extract_lets c1 c2 dst
  have h1 : c1.mem.wf = true := by
    unfold c1
    split
    · exact h
    · exact Mem.wf_of_cells (c.correctedIn_cells me v e p) h
  split
  · rw [Chan.protectionFault, Chan.emit_mem]
    exact h1
  · have h2 : c2.mem.wf = true := by
      unfold c2
      split <;> exact h1
    split
    · exact c2.zeroRange_wf me v _ _ h2
    · exact c2.copyRange_wf me v _ _ _ h2

theorem Chan.carryFrom_wf (me : Ch) (v : Variant) (e : Nat) (d : Descriptor) (n k : Nat) {c : Chan} (h : c.mem.wf = true) :
    (Chan.carryFrom me v e d n k c).1.mem.wf = true := by
  induction n generalizing k c with
  | zero => exact h
  | succ n ih =>
    unfold Chan.carryFrom
    split
    · exact h
    · split
      · exact h
      · split
        · exact Chan.carryPiece_wf me v e d _ h
        · exact ih _ (Chan.carryPiece_wf me v e d _ h)

theorem Mem.markRegions_cells (m : Mem) (new : List Nat) : (m.markRegions new).cells = m.cells := by
  simp only [Mem.markRegions, Mem.cells]

theorem Chan.completeDma_cells (before c : Chan) (me : Ch) (v : Variant) (e : Nat) (d : Descriptor) :
    (before.completeDma c me v e d).mem.cells = c.mem.cells := by
  unfold Chan.completeDma
  extract_lets c1 c2
  have h1 : c1.mem.cells = c.mem.cells := by
    unfold c1
    split
    · exact Mem.markRegions_cells _ _
    · rfl
  have h2 : c2.mem.cells = c1.mem.cells := by
    unfold c2
    split <;> rfl
  exact h2.trans h1

theorem State.runDma_wf {s : State} {ch : Ch} (e : Nat) (d : Descriptor) (start : Nat) (h : (s.ch ch).mem.wf = true) :
    ((s.runDma ch e d start).ch ch).mem.wf = true := by
  have hway := Chan.carryFrom_wf ch s.factory.variant e d ((s.ch ch).pieceFuel d) start h
  unfold State.runDma
  dsimp only
  split
  · next c' hc =>
    rw [hc] at hway
    rw [State.put_ch]
    exact Mem.wf_of_cells (Chan.completeDma_cells _ c' _ _ _ _) hway
  · next c' k hh hc =>
    rw [hc] at hway
    refine Mem.wf_of_cells (m := c'.mem) ?_ hway
    rw [State.halted_cells, State.put_ch]
    unfold Chan.stopDma
    dsimp only
    split <;> rfl

theorem State.runQueue_wf (ch : Ch) (e n : Nat) {s : State} (h : (s.ch ch).mem.wf = true) :
    ((State.runQueue ch e n s).ch ch).mem.wf = true := by
  induction n generalizing s with
  | zero => exact h
  | succ n ih =>
    unfold State.runQueue
    dsimp only
    split
    · refine ih (State.runDma_wf _ _ _ ?_)
      rw [State.mod_ch]
      exact h
    · exact h

/-! ### Scrubbing, flips, read errors and retirement -/

theorem Chan.scrubBad_wf {c : Chan} (me : Ch) (v : Variant) (a : Nat) (h : c.mem.wf = true) : (c.scrubBad me v a).mem.wf = true := by
  unfold Chan.scrubBad
  extract_lets k c1 m due m'
  have h1 : c1.mem.wf = true := by
    unfold c1
    split
    · exact h
    · exact c.poisonAt_wf me v _ h
  refine Mem.wf_of_cells (m := c1.mem) ?_ h1
  rw [Chan.seeUe_cells]
  exact Mem.noteHard_cells _ v k a

theorem Chan.scrubFix_wf {c : Chan} (me : Ch) (v : Variant) (a : Nat) (h : c.mem.wf = true) : (c.scrubFix me v a).mem.wf = true := by
  unfold Chan.scrubFix
  extract_lets home c1
  have h1 : c1.mem.wf = true := Mem.wf_of_cells (Chan.noteCorrected_cells _ v _ a) (c.putLane_wf me v home _ _ h)
  split
  · exact Mem.wf_of_cells (Mem.countCe_cells _ a) h1
  · exact h1

theorem Chan.scrubLane_wf {c : Chan} (me : Ch) (v : Variant) (a : Nat) (h : c.mem.wf = true) : (c.scrubLane me v a).mem.wf = true := by
  unfold Chan.scrubLane
  split
  · exact h
  · exact Chan.scrubFix_wf me v a h
  · exact Chan.scrubBad_wf me v a h

theorem Chan.scrubAt_wf {c : Chan} (me : Ch) (v : Variant) (a : Nat) (h : c.mem.wf = true) : (c.scrubAt me v a).mem.wf = true := by
  unfold Chan.scrubAt
  extract_lets fixed c1
  have h1 : c1.mem.wf = true := foldl_wf (fun c k => Chan.scrubLane_wf me v (a + k)) _ c h
  split <;> exact h1

theorem Chan.scrubSram_wf {c : Chan} (me : Ch) (v : Variant) (h : c.mem.wf = true) : (c.scrubSram me v).mem.wf = true :=
  Chan.scrubAt_wf me v _ h

theorem Chan.scrubDram_wf {c : Chan} (me : Ch) (v : Variant) (h : c.mem.wf = true) : (c.scrubDram me v).mem.wf = true := by
  unfold Chan.scrubDram
  split
  · exact h
  · next a w _ =>
    extract_lets m1 c1 c2
    have h1 : c1.mem.wf = true := by
      unfold c1
      split <;> exact h
    have h2 : c2.mem.wf = true := Chan.scrubAt_wf me v a h1
    split <;> exact h2

theorem Chan.flushWhere_mem (c : Chan) (p : Port) (gone : Frame → Bool) : (c.flushWhere p gone).mem = c.mem := by
  rw [Chan.flushWhere_eq]

theorem Chan.retirePage_wf {c : Chan} (v : Variant) (page cause spare : Nat) (h : c.mem.wf = true) :
    (c.retirePage v page cause spare).mem.wf = true := by
  unfold Chan.retirePage
  extract_lets src c1 c2
  have h1 : c1.mem = c.mem := by
    unfold c1
    split
    · rw [Chan.flushWhere_mem, Chan.flushWhere_mem]
    · rfl
  rw [Chan.emit_mem]
  have hw : c1.mem.wf = true := h1 ▸ h
  rw [Mem.wf_iff] at hw ⊢
  obtain ⟨hd, hda, hc, hca⟩ := hw
  exact ⟨hd, hda, rising_spliced _ _ _ _ hc rfl (by simp), all_spliced _ _ _ _ _ hca rfl⟩

theorem Chan.moveBank_wf {c : Chan} (me : Ch) (v : Variant) (bank p : Nat) (h : c.mem.wf = true) :
    (c.moveBank me v bank p).mem.wf = true := by
  unfold Chan.moveBank
  extract_lets lo regions c1
  have h1 : c1.mem.wf = true := c.zeroRange_wf me v _ _ h
  have h2 := c1.mem.markRegions_wf regions h1
  simpa only [Mem.wf] using h2

theorem Chan.dropFirst_mem (c : Chan) (p : Port) (cls : Nat) (range : Option (Port × Nat)) : (c.dropFirst p cls range).mem = c.mem := by
  unfold Chan.dropFirst
  split <;> rfl

theorem Chan.poolReadError_mem (c : Chan) (v : Variant) (a : Nat) : (c.poolReadError v a).mem = c.mem := by
  unfold Chan.poolReadError
  dsimp only
  split
  · rfl
  · rw [Chan.dropFirst_mem]

theorem Chan.failTile_mem (c : Chan) (i cause : Nat) : (c.failTile i cause).mem = c.mem := by
  simp [Chan.failTile]

/-- A channel's own event keeps the form of its memory where its change does. -/
theorem State.onLive_wf {s : State} {ch : Ch} {f : Chan → Chan} (h : (s.ch ch).mem.wf = true)
    (hf : (f (s.ch ch)).mem.wf = true) : ((s.onLive ch f).ch ch).mem.wf = true := by
  rcases s.onLive_cases ch f with ⟨-, e⟩ | ⟨-, e⟩
  · rw [e]
    exact h
  · rw [e, State.put_ch]
    exact hf

/-! ### The rows -/

section

variable {s t : State} {ch : Ch} (h : (s.ch ch).mem.wf = true)

include h

theorem execDmaDescriptor_wf {e : Nat} {d : Descriptor} (he : execDmaDescriptor ch e d s = .next t) : (t.ch ch).mem.wf = true := by
  unfold execDmaDescriptor at he
  dsimp only at he
  split at he
  · cases he
    exact h
  · split at he
    · cases he
      rw [State.mod_ch]
      exact h
    · cases he
      exact State.runDma_wf e d 0 h

theorem execDmaStop_wf {e : Nat} (he : execDmaStop ch e s = .next t) : (t.ch ch).mem.wf = true := by
  unfold execDmaStop at he
  extract_lets c q dflt u w at he
  have hu : (u.ch ch).mem.wf = true := by
    unfold u
    rw [State.mod_ch]
    exact h
  split at he
  · cases he
    refine State.runQueue_wf ch e _ ?_
    unfold w
    split
    · exact State.runDma_wf _ _ _ hu
    · exact hu
  · cases he
    exact h

theorem execScrubWord_wf {dram : Bool} (he : execScrubWord ch dram s = .next t) : (t.ch ch).mem.wf = true := by
  cases he
  refine State.onLive_wf h ?_
  split
  · exact h
  · split
    · exact Chan.scrubDram_wf ch _ h
    · exact Chan.scrubSram_wf ch _ h

theorem execFlipApply_wf {w : Writer} {a : Nat} {lanes : BitVec 4} {data : Word} (he : execFlipApply ch w a lanes data s = .next t) :
    (t.ch ch).mem.wf = true := by
  unfold execFlipApply at he
  dsimp only at he
  split at he
  · cases he
    exact h
  · split at he
    · cases he
      rw [State.mod_ch, Chan.protectionFault, Chan.emit_mem]
      exact h
    · split at he
      · cases he
        refine Mem.wf_of_cells ((State.trapped_cells _ ch a).trans ?_) h
        rw [State.mod_ch]
        cases w <;> rfl
      · split at he
        · cases he
          rw [State.mod_ch]
          exact Mem.wf_of_cells ((Chan.abortReader_cells _ _ _).trans (Chan.lostLane_cells _ _ _ _ _)) h
        · cases he
          rw [State.mod_ch]
          refine Chan.flipWrite_wf _ _ _ _ _ _ ?_
          split <;> exact h

theorem execMemoryReadError_wf {r : Reader} {a l : Nat} (he : execMemoryReadError ch r a l s = .next t) :
    (t.ch ch).mem.wf = true := by
  cases he
  refine State.onLive_wf h ?_
  extract_lets a home was c1 c2
  split
  · exact h
  · have h1 : c1.mem.wf = true := Mem.wf_of_cells (Chan.lostLane_cells _ _ _ _ _) (Chan.damage_wf _ _ _ _ h)
    have h2 : c2.mem.wf = true := Mem.wf_of_cells (Mem.noteHard_cells _ _ _ _) h1
    split
    · split
      · split
        · exact h2
        · rw [Chan.failTile_mem]
          exact h2
      · exact h2
    · rw [Chan.poolReadError_mem]
      exact h2
    · exact Mem.wf_of_cells (Chan.abortReader_cells _ _ _) h2

theorem execPageRetire_wf {page cause : Nat} (he : execPageRetire ch page cause s = .next t) : (t.ch ch).mem.wf = true := by
  cases he
  refine State.onLive_wf h ?_
  split
  · exact h
  · split
    · split
      · exact h
      · exact Chan.retirePage_wf _ _ _ _ h
    · split
      · exact h
      · rw [Chan.emit_mem]
        exact h

theorem execBankRetire_wf {bank : Nat} (he : execBankRetire ch bank s = .next t) : (t.ch ch).mem.wf = true := by
  unfold execBankRetire at he
  dsimp only at he
  split at he
  · cases he
    have hw : ((s.withdraw ch).ch ch).mem.wf = true := by rw [State.withdraw_mem]; exact h
    rw [State.mod_ch]
    split
    · rw [Chan.emit_mem]
      exact Chan.moveBank_wf _ _ _ _ hw
    · rw [Chan.emit_mem]
      exact hw
  · cases he
    exact h

end

/-- Settles O8, row by row. -/
theorem memoryStaysCanonical : Obligations.MemoryStaysCanonical := by
  unfold Obligations.MemoryStaysCanonical
  intro i ch s t hi h he
  rcases hi with ⟨e, d, rfl⟩ | ⟨e, rfl⟩ | ⟨d, rfl⟩ | ⟨w, a, l, d, rfl⟩ | ⟨r, a, l, rfl⟩ | ⟨p, k, rfl⟩ | ⟨b, rfl⟩
  · exact execDmaDescriptor_wf h he
  · exact execDmaStop_wf h he
  · exact execScrubWord_wf h he
  · exact execFlipApply_wf h he
  · exact execMemoryReadError_wf h he
  · exact execPageRetire_wf (page := p) (cause := k) h he
  · exact execBankRetire_wf h he

end Sys2Proof.Machine

/-! PROOFS. Vote sets as they are read off a link and as the comparator judges them (spec/06 R159 to R165). -/

namespace Sys2Proof.Machine

open Sys2Proof

/-! ### Sets off a link (R159, R162, R187) -/

section

variable {c : Chan} {frm me : Ch} {l : Link} {m : XMsg}

theorem Chan.takeTaskSet_late {t : TaskSet} (h : c.vote.decided.contains (t.task, t.taskCycle) = true) :
    c.takeTaskSet frm t = { c with vote := { c.vote with lateCnt := c.vote.lateCnt.set frm (inc 8 (c.vote.lateCnt.get frm)) } } := by
  unfold Chan.takeTaskSet
  exact if_pos h

theorem Chan.takeTaskSet_stale {t : TaskSet} (h : c.vote.decided.contains (t.task, t.taskCycle) = false)
    (he : t.taskCycle < (c.task t.task).runCycle) :
    c.takeTaskSet frm t =
      { c with
        vote := { c.vote with
          staleCnt := c.vote.staleCnt.set frm (inc 8 (c.vote.staleCnt.get frm))
          stale := c.vote.stale.set frm (t.task :: c.vote.stale.get frm) } } := by
  unfold Chan.takeTaskSet
  dsimp only
  rw [if_neg (by rw [h]; decide), if_pos (show c.runEarlier t = true from decide_eq_true he)]

theorem Chan.takeTaskSet_kept {t : TaskSet} (h : c.vote.decided.contains (t.task, t.taskCycle) = false)
    (he : (c.task t.task).runCycle ≤ t.taskCycle) :
    c.takeTaskSet frm t =
      { c with
        vote := { c.vote with
          kept := c.vote.kept.set frm ((c.vote.kept.get frm).filter
            (fun e => !(e.task == t.task && e.taskCycle == t.taskCycle)) ++ [t]) } } := by
  unfold Chan.takeTaskSet
  dsimp only
  rw [if_neg (by rw [h]; decide), if_neg (by simpa [Chan.runEarlier] using he)]

theorem Chan.takeTaskSet_votes (c : Chan) (t : TaskSet) : (c.takeTaskSet frm t).votes me = c.votes me := by
  unfold Chan.takeTaskSet
  dsimp only
  split
  · rfl
  · split <;> rfl

theorem Chan.takeSet_task {t : TaskSet} (h : t.task < 8) : c.takeSet frm (.task t) = c.takeTaskSet frm t := if_pos h

theorem Chan.followVotes_of_votes {t cycle : Nat} (h : c.votes me = true) : c.followVotes me t cycle = c := by
  unfold Chan.followVotes
  rw [if_pos (by rw [h]; rfl)]

theorem Chan.receive_full (hs : c.split = false) (hp : 4 ≤ c.boot.phase) (hf : l.full = true) :
    c.receive frm l m = ({ c with vote := { c.vote with full := c.vote.full.set frm allTasks } }, false) := by
  unfold Chan.receive
  dsimp only
  rw [if_neg (by simp [hs, hp]), if_pos hf]

theorem Chan.receive_corrupt (hs : c.split = false) (hp : 4 ≤ c.boot.phase) (hf : l.full = false)
    (h : l.intact m.kind m.payload = false ∨ l.seq ≠ c.vote.rxSeq.get frm) :
    c.receive frm l m =
      ({ c with
         vote := { c.vote with
           rxSeq := c.vote.rxSeq.set frm ((if l.crcOk m.payload then l.seq + 1 else c.vote.rxSeq.get frm + 1) % 16384)
           corruptCnt := c.vote.corruptCnt.set frm (inc 16 (c.vote.corruptCnt.get frm))
           corrupt := c.vote.corrupt.set frm allTasks } }, false) := by
  unfold Chan.receive
  dsimp only
  rw [if_neg (by simp [hs, hp]), if_neg (by simp [hf]), if_neg (by simpa [imp_iff_not_or] using h)]

theorem State.taken_refused {s : State} {ch : Ch} {d : Chan} (f : Chan → Chan) (hn : ch ≠ frm) (hl : (s.ch ch).live = true)
    (h : (s.ch ch).receive frm l m = (d, false)) : s.taken ch frm l m f = s.put ch d := by
  rw [State.taken, if_neg (by simpa using hn), State.onLive_eq _ hl]
  simp only [h]
  rfl

end

section

variable {s : State} {ch frm : Ch} {l : Link}

theorem exec_vote_task {k : TaskSet} (hn : ch ≠ frm) (hl : (s.ch ch).live = true) (ht : (s.ch ch).TakesFrom frm l (.vote (.task k)))
    (hk : k.task < 8) (hv : (s.ch ch).votes ch = true) :
    exec (.vote ch frm l (.task k)) s = .next (s.put ch (((s.ch ch).readFrom frm l).takeTaskSet frm k)) := by
  show execVote ch frm l (.task k) s = _
  rw [execVote, State.taken_of_takes _ hn hl ht]
  have hv' : (((s.ch ch).readFrom frm l).takeTaskSet frm k).votes ch = true := (Chan.takeTaskSet_votes _ k).trans hv
  simp only [Chan.takeSet_task hk, Chan.followVotes_of_votes hv']

theorem exec_vote_input {k : InputSet} (hn : ch ≠ frm) (hl : (s.ch ch).live = true)
    (ht : (s.ch ch).TakesFrom frm l (.vote (.input k))) :
    exec (.vote ch frm l (.input k)) s =
      .next (s.put ch (((s.ch ch).readFrom frm l).takeInstantSet frm k.mainCycle k.offset
        (fun d => { d with sets := d.sets.set frm (some k) }))) := by
  show execVote ch frm l (.input k) s = _
  rw [execVote, State.taken_of_takes _ hn hl ht]
  rfl

theorem exec_vote_partner {k : PartnerSet} (hn : ch ≠ frm) (hl : (s.ch ch).live = true)
    (ht : (s.ch ch).TakesFrom frm l (.vote (.partner k))) :
    exec (.vote ch frm l (.partner k)) s =
      .next (s.put ch { (s.ch ch).readFrom frm l with
        din := { ((s.ch ch).readFrom frm l).din with
          partSets := ((s.ch ch).readFrom frm l).din.partSets.set frm (some k) } }) := by
  show execVote ch frm l (.partner k) s = _
  rw [execVote, State.taken_of_takes _ hn hl ht]
  rfl

theorem exec_vote_agreement {k : AgreeSet} (hn : ch ≠ frm) (hl : (s.ch ch).live = true)
    (ht : (s.ch ch).TakesFrom frm l (.vote (.agreement k))) (hp : ((s.ch ch).readFrom frm l).boot.phase = 6) :
    exec (.vote ch frm l (.agreement k)) s =
      .next (s.put ch { (s.ch ch).readFrom frm l with
        boot := { ((s.ch ch).readFrom frm l).boot with
          agree := ((s.ch ch).readFrom frm l).boot.agree.set frm (some k) } }) := by
  show execVote ch frm l (.agreement k) s = _
  rw [execVote, State.taken_of_takes _ hn hl ht]
  exact congrArg (fun d => Host.Outcome.next (s.put ch d)) (if_pos (beq_iff_eq.mpr hp))

theorem exec_vote_refused {k : VoteSet} {d : Chan} (hn : ch ≠ frm) (hl : (s.ch ch).live = true)
    (h : (s.ch ch).receive frm l (.vote k) = (d, false)) : exec (.vote ch frm l k) s = .next (s.put ch d) :=
  congrArg Host.Outcome.next (State.taken_refused _ hn hl h)

end

/-- Settles O27: what the link lets through, by the kind of the set and the run or the point in time it is for. -/
theorem voteSetsAreKept : Obligations.VoteSetsAreKept := by
  unfold Obligations.VoteSetsAreKept
  constructor
  · intro s ch frm l hn hl c
    refine ⟨fun k ht hk hv => ?_, fun k ht => ?_, fun k ht => exec_vote_partner hn hl ht,
      fun k ht hp => exec_vote_agreement hn hl ht hp⟩
    · rw [exec_vote_task hn hl ht hk hv]
      refine ⟨fun h => ?_, fun h he => ?_, fun h he => ?_⟩
      · rw [Chan.takeTaskSet_late h]
      · rw [Chan.takeTaskSet_stale h he]
      · rw [Chan.takeTaskSet_kept h he]
    · rw [exec_vote_input hn hl ht]
      exact ⟨fun h => congrArg (fun d => Host.Outcome.next (s.put ch d)) (if_pos h),
        fun h => congrArg (fun d => Host.Outcome.next (s.put ch d)) (if_neg (by rw [h]; decide))⟩
  · intro s ch frm l k hn hl hs hp c m
    exact ⟨fun hf => exec_vote_refused hn hl (Chan.receive_full hs hp hf),
      fun hf h => exec_vote_refused hn hl (Chan.receive_corrupt hs hp hf h)⟩

/-! ### The decision (R163, R165) -/

section

variable {c : Chan} {me : Ch} {own : TaskSet}

theorem Chan.judge_outcome (h : c.skewIn me own.mainCycle = false) :
    (c.judge me own).outcome =
      outcomeOf (c.votes me.next) (c.votes me.prev) (c.resultFor own me.next == 0) (c.resultFor own me.prev == 0)
        (c.partnersAgree me own) := by
  simp [Chan.judge, h]

theorem Chan.resultFor_skewed {x : Ch} (h : c.skewIn x own.mainCycle = true) : c.resultFor own x = 7 := if_pos h

theorem Chan.resultFor_set {x : Ch} {t : TaskSet} (h : c.skewIn x own.mainCycle = false)
    (ht : c.setFrom x own.task own.taskCycle = some t) :
    c.resultFor own x = compareSets (taskSetWords own) (taskSetWords t) := by
  rw [Chan.resultFor, if_neg (by rw [h]; decide)]
  simp only [ht]

end

/-! ### The words of a set as the comparator takes them (Table 06-1) -/

theorem words64_inj {a b : BitVec 64} (hl : a.setWidth 32 = b.setWidth 32)
    (hh : (a >>> 32).setWidth 32 = (b >>> 32).setWidth 32) : a = b := by
  bv_omega

theorem and_mask_eq {a b m : Word} (h : ∀ i, m.getLsbD i = true → a.getLsbD i = b.getLsbD i) : a &&& m = b &&& m := by
  refine BitVec.eq_of_getLsbD_eq fun i _ => ?_
  rw [BitVec.getLsbD_and, BitVec.getLsbD_and]
  cases hm : m.getLsbD i with
  | true => rw [h i hm]
  | false => simp

theorem w32_getLsbD (n i : Nat) : (w32 n).getLsbD i = (decide (i < 32) && n.testBit i) := BitVec.getLsbD_ofNat 32 n i

/-- CH lies in the two lowest bits of word 0, which the comparator leaves out. -/
theorem w32_without_ch (n k j : Nat) (hk : k < 4) (hj : j < 4) : w32 (4 * n + k) &&& 0xFFFFFFFC = w32 (4 * n + j) &&& 0xFFFFFFFC := by
  refine and_mask_eq fun i hi => ?_
  have h2 : ¬ i < 2 := by
    intro h
    interval_cases i <;> exact absurd hi (by decide)
  rw [w32_getLsbD, w32_getLsbD, show 4 = 2 ^ 2 from rfl, Nat.testBit_two_pow_mul_add n hk, Nat.testBit_two_pow_mul_add n hj, if_neg h2,
    if_neg h2]

/-- PROB is bit 16 of word 4, which the comparator leaves out. -/
theorem w32_without_prob (n : Nat) (p : Bool) (hn : n < 65536) : w32 (n + bitAt p 16) &&& 0xFFFEFFFF = w32 n &&& 0xFFFEFFFF := by
  cases p with
  | false => rfl
  | true =>
    refine and_mask_eq fun i hi => ?_
    have h16 : i ≠ 16 := by
      rintro rfl
      exact absurd hi (by decide)
    rw [w32_getLsbD, w32_getLsbD, show n + bitAt true 16 = 2 ^ 16 * 1 + n by simp [bitAt]; omega, Nat.testBit_two_pow_mul_add 1 hn]
    congr 1
    split
    · rfl
    · next h =>
      rw [Nat.testBit_eq_false_of_lt (show n < 2 ^ i from lt_of_lt_of_le hn (Nat.pow_le_pow_right (n := 2) (by decide) (by omega : 16 ≤ i)))]
      exact Nat.testBit_eq_false_of_lt (Nat.one_lt_two_pow (by omega))

theorem Ch.code_lt (x : Ch) : x.code < 4 := by cases x <;> decide

theorem compareSets_cycles {a b : List Word} (h : setWord a 1 ≠ setWord b 1 ∨ setWord a 2 ≠ setWord b 2) : compareSets a b = 3 := by
  rw [compareSets, if_pos]
  simpa [sameWords, comparedWord, imp_iff_not_or] using h

theorem compareSets_digest {a b : List Word} (h1 : setWord a 1 = setWord b 1) (h2 : setWord a 2 = setWord b 2)
    (h : setWord a 6 ≠ setWord b 6 ∨ setWord a 7 ≠ setWord b 7) : compareSets a b = 2 := by
  rw [compareSets, if_neg (by simp [sameWords, comparedWord, h1, h2]), if_pos]
  simp only [sameWords, comparedWord, List.all_cons, List.all_nil, Bool.and_true, Bool.not_eq_true', Bool.and_eq_false_iff,
    beq_eq_false_iff_ne]
  exact Or.inr (Or.inr (Or.inr h))

/-- Two sets with one header but for CH and PROB: their outputs decide. -/
theorem compareSets_outputs {a b : List Word} (h : ∀ k < 8, comparedWord a k = comparedWord b k) :
    compareSets a b = if a.drop 8 = b.drop 8 then 0 else 1 := by
  have hk (ks : List Nat) (hks : ∀ k ∈ ks, k < 8) : sameWords a b ks = true :=
    List.all_eq_true.mpr fun k hm => beq_iff_eq.mpr (h k (hks k hm))
  rw [compareSets, hk _ (by decide), hk _ (by decide), hk _ (by decide)]
  by_cases hd : a.drop 8 = b.drop 8 <;> simp [hd]

theorem comparedWord_taskSet (a : TaskSet) (ch : Ch) (p : Bool) (out : List Word) (h : out.length = a.out.length) :
    ∀ k < 8, comparedWord (taskSetWords a) k = comparedWord (taskSetWords { a with ch := ch, prob := p, out := out }) k := by
  intro k hk
  have hw (c : Nat) : 2 ^ 24 + a.version * 2 ^ 16 + a.task * 2 ^ 8 + c = 4 * (2 ^ 22 + a.version * 2 ^ 14 + a.task * 2 ^ 6) + c := by
    omega
  interval_cases k
  · show w32 (2 ^ 24 + a.version * 2 ^ 16 + a.task * 2 ^ 8 + a.ch.code) &&& _ = w32 (2 ^ 24 + a.version * 2 ^ 16 + a.task * 2 ^ 8 + ch.code) &&& _
    rw [hw, hw, w32_without_ch _ _ _ (Ch.code_lt a.ch) (Ch.code_lt ch)]
  · rfl
  · rfl
  · rfl
  · show w32 (a.out.length % 16384 + bitAt a.prob 16) &&& _ = w32 (out.length % 16384 + bitAt p 16) &&& _
    rw [w32_without_prob _ _ (by omega), w32_without_prob _ _ (by omega), h]
  · rfl
  · rfl
  · rfl

/-- Settles O29: the outcome from the two results, then the result from the words of the two sets. -/
theorem decisionFollowsTheTable : Obligations.DecisionFollowsTheTable := by
  unfold Obligations.DecisionFollowsTheTable
  refine ⟨?_, fun a ch p _ _ => ?_, fun a b h => compareSets_cycles h, fun a b h1 h2 h => compareSets_digest h1 h2 ?_,
    fun a out hl h => ?_⟩
  · intro c me own hs rn rp
    rw [Chan.judge_outcome hs]
    refine ⟨fun h1 h2 => ⟨fun h3 h4 => ?_, fun h => ?_, fun h3 h4 h5 => ?_, fun h3 h4 h5 => ?_⟩, fun h1 h2 => ?_, fun h1 h2 => ?_,
      fun h1 h2 => ?_, fun x => Chan.resultFor_skewed, fun x t => Chan.resultFor_set⟩
    · simp [outcomeOf, h1, h2, show c.resultFor own me.next = 0 from h3, show c.resultFor own me.prev = 0 from h4]
    · rw [h1, h2]
      rcases h with ⟨h3, h4⟩ | ⟨h3, h4⟩
      · rw [beq_iff_eq.mpr h3, beq_eq_false_iff_ne.mpr h4]; rfl
      · rw [beq_eq_false_iff_ne.mpr h3, beq_iff_eq.mpr h4]; rfl
    · rw [h1, h2, beq_eq_false_iff_ne.mpr h3, beq_eq_false_iff_ne.mpr h4, h5]; rfl
    · rw [h1, h2, beq_eq_false_iff_ne.mpr h3, beq_eq_false_iff_ne.mpr h4, h5]; rfl
    · by_cases h : c.resultFor own me.next = 0 <;> simp [outcomeOf, h1, h2, rn, h]
    · by_cases h : c.resultFor own me.prev = 0 <;> simp [outcomeOf, h1, h2, rp, h]
    · rw [h1, h2]; rfl
  · exact (compareSets_outputs (comparedWord_taskSet a ch p a.out rfl)).trans (if_pos rfl)
  · by_contra hd
    obtain ⟨h6, h7⟩ := not_or.mp hd
    exact h (words64_inj (not_not.mp h6) (not_not.mp h7))
  · exact (compareSets_outputs (comparedWord_taskSet a a.ch a.prob out hl)).trans (if_neg fun e => h e.symm)

end Sys2Proof.Machine

/-! PROOFS. The run of a task (spec/05 R123): what its code can change, and the vote set it leaves behind (spec/06 R156, R163, R180). -/

namespace Sys2Proof.Machine

open Sys2Proof

/-- A channel but for what the code of a task can change: its blocks and doors, the resolver, the tiles and the memory they lie in,
the output supervision and what it keeps, the results of requests, and the recorder. -/
def Chan.besideRun (c : Chan) : Chan :=
  { c with
    nv := default, blocks := default, res := default, tiles := default, dout := default, doors := default, mem := default
    bist := default, recd := default, host := default }

theorem Chan.foldl_besideRun {α : Type} {f : Chan → α → Chan} (h : ∀ c a, (f c a).besideRun = c.besideRun) (l : List α) (c : Chan) :
    (l.foldl f c).besideRun = c.besideRun := foldl_view (g := Chan.besideRun) h l c

theorem Chan.emitTask_besideRun (c : Chan) (t : Nat) (name : EvName) (obj : Nat) (data : List Word) :
    (c.emitTask t name obj data).besideRun = c.besideRun := by
  rw [Chan.emitTask_eq]
  rfl

/-! ### The supervision of outputs (R192 to R199) -/

theorem Chan.lockGroup_besideRun (c : Chan) (g : Nat) (b : Bool) : (c.lockGroup g b).besideRun = c.besideRun := by
  cases b <;>
  · unfold Chan.lockGroup
    split
    · rfl
    · exact Chan.emitTask_besideRun _ _ _ _ _

theorem Chan.lockOutput_besideRun (c : Chan) (n : Nat) (f : OutFault) : (c.lockOutput n f).besideRun = c.besideRun := by
  unfold Chan.lockOutput
  extract_lets old d e
  have he : e.besideRun = c.besideRun := by
    dsimp only [e]
    split
    · exact Chan.emitTask_besideRun _ _ _ _ _
    · rfl
  split
  · split
    · exact Chan.emitTask_besideRun _ _ _ _ _
    · rfl
  · exact (Chan.emitTask_besideRun _ _ _ _ _).trans he

theorem Chan.superviseGroup_besideRun (c : Chan) (im : InImg) (g : Nat) : (c.superviseGroup im g).besideRun = c.besideRun := by
  unfold Chan.superviseGroup
  extract_lets sag d warn e drv k
  have hd : d.besideRun = c.besideRun := by
    dsimp only [d]
    split
    · exact Chan.emitTask_besideRun _ _ _ _ _
    · rfl
  have he : e.besideRun = c.besideRun := by
    dsimp only [e]
    split
    · exact (Chan.emitTask_besideRun _ _ _ _ _).trans hd
    · exact hd
  have hk : k.besideRun = c.besideRun := he
  split
  · exact (Chan.lockGroup_besideRun _ _ _).trans hk
  · exact hk

theorem Chan.superviseContactor_besideRun (c : Chan) (im : InImg) (us n : Nat) :
    (c.superviseContactor im us n).besideRun = c.besideRun := by
  unfold Chan.superviseContactor
  extract_lets dropped due
  split
  · split
    · split
      · exact Chan.emitTask_besideRun _ _ _ _ _
      · split <;> rfl
    · rfl
  · split
    · exact Chan.lockOutput_besideRun _ _ _
    · rfl

theorem Chan.superviseContactors_besideRun (c : Chan) (im : InImg) (us : Nat) :
    (c.superviseContactors im us).besideRun = c.besideRun := by
  unfold Chan.superviseContactors
  split
  · rfl
  · refine Chan.foldl_besideRun (fun c n => ?_) _ c
    split
    · exact Chan.superviseContactor_besideRun _ _ _ _
    · rfl

theorem Chan.pulseFinding_besideRun (c : Chan) (r : Repeat) : (c.pulseFinding r).besideRun = c.besideRun := by
  unfold Chan.pulseFinding
  extract_lets dips
  split <;> exact Chan.lockOutput_besideRun _ _ _

theorem Chan.judgePulse_besideRun (c : Chan) (e : Nat × Pair × Bool) : (c.judgePulse e).besideRun = c.besideRun := by
  obtain ⟨n, pair, dip⟩ := e
  unfold Chan.judgePulse
  dsimp only
  split
  · split
    · rfl
    · split
      · exact Chan.pulseFinding_besideRun _ _
      · rfl
  · split <;> rfl

theorem Chan.shorted_besideRun (c : Chan) (n : Nat) : (c.shorted n).besideRun = c.besideRun := Chan.lockGroup_besideRun _ _ _

theorem Chan.endSweep_besideRun (c : Chan) : c.endSweep.besideRun = c.besideRun := rfl

theorem Chan.startSweep_besideRun (c : Chan) (n : Nat) : (c.startSweep n).besideRun = c.besideRun := rfl

theorem Chan.decideSweep_besideRun (c : Chan) (w : Sweep) : (c.decideSweep w).besideRun = c.besideRun := by
  unfold Chan.decideSweep
  extract_lets d lowest e
  have hd : d.besideRun = c.besideRun := rfl
  split
  · split
    · exact hd
    · exact (Chan.emitTask_besideRun _ _ _ _ _).trans hd
  · split
    · exact (Chan.shorted_besideRun _ _).trans hd
    · split
      · exact hd
      · exact (Chan.foldl_besideRun (fun c _ => c.lockOutput_besideRun _ _) _ _).trans ((Chan.lockOutput_besideRun _ _ _).trans hd)

theorem Chan.endOpenLoad_besideRun (c : Chan) (im : InImg) (tripped : Bool) (n : Nat) :
    (c.endOpenLoad im tripped n).besideRun = c.besideRun := by
  unfold Chan.endOpenLoad
  split <;> rfl

theorem Chan.switchFindings_besideRun (c : Chan) : c.switchFindings.besideRun = c.besideRun := by
  unfold Chan.switchFindings
  exact Chan.foldl_besideRun (fun c (h : Nat × Pair) => c.lockOutput_besideRun h.1 _) _ _

theorem Chan.judgePulses_besideRun (c : Chan) : c.judgePulses.besideRun = c.besideRun := by
  unfold Chan.judgePulses
  exact Chan.foldl_besideRun Chan.judgePulse_besideRun _ _

theorem Chan.superviseReadback_besideRun (c : Chan) (im : InImg) (us : Nat) (tripped : Bool) :
    (c.superviseReadback im us tripped).besideRun = c.besideRun := by
  unfold Chan.superviseReadback
  extract_lets d e high
  have hd : d.besideRun = c.besideRun := by
    show (List.foldl _ c (List.range 32)).besideRun = _
    exact Chan.foldl_besideRun (fun c n => c.endOpenLoad_besideRun im tripped n) _ c
  have he : e.besideRun = c.besideRun := by
    dsimp only [e]
    split
    · split
      · exact (Chan.endSweep_besideRun d).trans hd
      · split
        · exact (Chan.decideSweep_besideRun _ _).trans hd
        · exact hd
    · exact hd
  split
  · exact he
  · exact (Chan.startSweep_besideRun e _).trans he
  · exact he
  · refine (Chan.foldl_besideRun Chan.shorted_besideRun _ _).trans ?_
    split
    · exact (Chan.endSweep_besideRun e).trans he
    · exact he

theorem Chan.planSlots_besideRun (c : Chan) (im : InImg) (tripped : Bool) (main offset us cycle : Nat) :
    (c.planSlots im tripped main offset us cycle).besideRun = c.besideRun := by
  have h : (c.turnLowSide us cycle).besideRun = c.besideRun := by
    unfold Chan.turnLowSide
    dsimp only
    split
    · rfl
    · split <;> rfl
  exact h

theorem Chan.supervise_besideRun (c : Chan) (tripped : Bool) : (c.supervise tripped).besideRun = c.besideRun := by
  unfold Chan.supervise
  extract_lets k im us a b d e f
  have ha : a.besideRun = c.besideRun := by
    dsimp only [a]
    exact Chan.foldl_besideRun (fun c g => c.superviseGroup_besideRun im g) _ c
  have hb : b.besideRun = c.besideRun := (Chan.superviseContactors_besideRun _ _ _).trans ha
  have hd : d.besideRun = c.besideRun := (Chan.switchFindings_besideRun b).trans hb
  have he : e.besideRun = c.besideRun := (Chan.judgePulses_besideRun d).trans hd
  have hf : f.besideRun = c.besideRun := (Chan.superviseReadback_besideRun _ _ _ _).trans he
  exact (Chan.planSlots_besideRun _ _ _ _ _ _ _).trans hf

/-! ### Blocks and doors (R126, R211 to R217) -/

theorem Chan.runInst_besideRun (c : Chan) (im : InImg) (d : InstDef) (cycle periodMs : Nat) :
    (c.runInst im d cycle periodMs).besideRun = c.besideRun := by
  unfold Chan.runInst
  split <;> rfl

theorem Chan.runInsts_besideRun (c : Chan) (t : Nat) (after : Bool) : (c.runInsts t after).besideRun = c.besideRun := by
  unfold Chan.runInsts
  split
  · rfl
  · exact Chan.foldl_besideRun (fun c d => c.runInst_besideRun _ d _ _) _ c

theorem Chan.trackPair_besideRun (c : Chan) (t elem input elapsed : Nat) (differs : Bool) :
    (c.trackPair t elem input elapsed differs).besideRun = c.besideRun := by
  unfold Chan.trackPair
  dsimp only
  split
  · rfl
  · split
    · rfl
    · split
      · exact Chan.emitTask_besideRun _ _ _ _ _
      · rfl

theorem Chan.trackPairs_besideRun (c : Chan) (t elapsed : Nat) (im : InImg) (ps : List (Nat × Nat × DoorSrc)) :
    (c.trackPairs t elapsed im ps).besideRun = c.besideRun :=
  Chan.foldl_besideRun (fun c _ => c.trackPair_besideRun _ _ _ _ _) ps c

theorem Chan.warnIsolation_besideRun (c : Chan) (g : GateState) : (c.warnIsolation g).besideRun = c.besideRun := by
  unfold Chan.warnIsolation
  split
  · exact Chan.emitTask_besideRun _ _ _ _ _
  · rfl

theorem Chan.runGate_besideRun (c : Chan) (im : InImg) (elapsed cycle periodMs : Nat) (d : GateDef) :
    (c.runGate im elapsed cycle periodMs d).besideRun = c.besideRun := by
  unfold Chan.runGate
  split
  · rfl
  · extract_lets lk1 lk2 e
    have he : e.besideRun = c.besideRun := Chan.warnIsolation_besideRun _ _
    split
    · exact he
    · split
      · exact (Chan.emitTask_besideRun _ _ _ _ _).trans he
      · dsimp only
        split
        · exact (Chan.emitTask_besideRun _ _ _ _ _).trans he
        · exact he

theorem Chan.runEdge_besideRun (c : Chan) (im : InImg) (main : Nat) (d : EdgeDef) :
    (c.runEdge im main d).besideRun = c.besideRun := by
  unfold Chan.runEdge
  split
  · rfl
  · dsimp only
    split
    · exact Chan.emitTask_besideRun _ _ _ _ _
    · rfl

theorem Chan.runDoors0_besideRun (c : Chan) : c.runDoors0.besideRun = c.besideRun := by
  unfold Chan.runDoors0
  split
  · rfl
  · extract_lets k ms elapsed a b d e
    have ha : a.besideRun = c.besideRun := Chan.trackPairs_besideRun _ _ _ _ _
    have hb : b.besideRun = c.besideRun := ha
    have hd : d.besideRun = c.besideRun := (Chan.foldl_besideRun (fun c d => c.runGate_besideRun _ _ _ _ d) _ b).trans hb
    have he : e.besideRun = c.besideRun := (Chan.foldl_besideRun (fun c d => c.runEdge_besideRun _ _ d) _ d).trans hd
    exact he

theorem Chan.runDoors1_besideRun (c : Chan) : c.runDoors1.besideRun = c.besideRun := by
  unfold Chan.runDoors1
  split
  · rfl
  · exact Chan.trackPairs_besideRun _ _ _ _ _

/-! ### The resolver's place (R113) -/

theorem Chan.record_besideRun (c : Chan) (log : List (EvName × Nat × List Word)) : (c.record log).besideRun = c.besideRun :=
  Chan.foldl_besideRun (fun c _ => c.emitTask_besideRun _ _ _ _) log c

theorem Chan.resolverPass_besideRun (c : Chan) (me : Ch) (v : Variant) (us : Nat) :
    (c.resolverPass me v us).besideRun = c.besideRun := by
  unfold Chan.resolverPass
  split
  · rfl
  · exact Chan.record_besideRun _ _

theorem Chan.rebuildMaster_besideRun (c : Chan) (v : Variant) (g : Image) (i : Nat) :
    (c.rebuildMaster v g i).besideRun = c.besideRun := by
  unfold Chan.rebuildMaster
  split <;> rfl

theorem Chan.writeStates_besideRun (c : Chan) (v : Variant) : (c.writeStates v).besideRun = c.besideRun := by
  unfold Chan.writeStates
  split
  · rfl
  · next g _ =>
    exact Chan.foldl_besideRun (f := fun c i => (c.rewriteSlot i).rebuildMaster v g i)
      (fun c i => Chan.rebuildMaster_besideRun (c.rewriteSlot i) v g i) _ c

theorem Chan.loadSlot_besideRun (c : Chan) (v : Variant) (g : Image) (i : Nat) : (c.loadSlot v g i).besideRun = c.besideRun := by
  unfold Chan.loadSlot
  split <;> rfl

theorem Chan.firmwareReload_besideRun (c : Chan) (me : Ch) (v : Variant) (i : Nat) :
    (c.firmwareReload me v i).besideRun = c.besideRun := by
  unfold Chan.firmwareReload
  split
  · rfl
  · next g _ =>
    split
    · rfl
    · extract_lets d
      have hd : d.besideRun = c.besideRun := by
        dsimp only [d]
        split
        · exact Chan.rebuildMaster_besideRun _ _ _ _
        · rfl
      split
      · exact hd
      · exact (Chan.emitTask_besideRun _ _ _ _ _).trans ((Chan.loadSlot_besideRun d v g i).trans hd)

theorem Chan.afterCommit_besideRun (c : Chan) (me : Ch) (v : Variant) : (c.afterCommit me v).besideRun = c.besideRun := by
  unfold Chan.afterCommit
  split
  · rfl
  · next g _ =>
    extract_lets a b d
    have ha : a.besideRun = c.besideRun := Chan.writeStates_besideRun _ _
    have hb : b.besideRun = c.besideRun := (Chan.foldl_besideRun (fun c i => c.rebuildMaster_besideRun v g i) _ a).trans ha
    exact (Chan.foldl_besideRun (fun c i => c.firmwareReload_besideRun me v i) _ b).trans hb

theorem Chan.passOfRun_besideRun (c : Chan) (me : Ch) (v : Variant) (us : Nat) : (c.passOfRun me v us).besideRun = c.besideRun :=
  (Chan.afterCommit_besideRun _ _ _).trans (Chan.resolverPass_besideRun _ _ _ _)

/-! ### The code of a task and the tiles it reads (R81, R123) -/

theorem Chan.writeRecords_besideRun (c : Chan) (t : Nat) : (c.writeRecords t).besideRun = c.besideRun := by
  unfold Chan.writeRecords
  split
  · rfl
  · exact Chan.foldl_besideRun (f := fun c (d : InstDef) => c.rewrite (instBase + 16 * d.offset) (4 * d.size)) (fun _ _ => rfl) _ c

/-- The code of a task changes its own results alone. -/
theorem Chan.runTask_besideRun (c : Chan) (me : Ch) (v : Variant) (t passUs : Nat) (tripped : Bool) :
    (c.runTask me v t passUs tripped).besideRun = c.besideRun := by
  unfold Chan.runTask
  extract_lets a b d e
  have ha : a.besideRun = c.besideRun := by
    dsimp only [a]
    split
    · exact Chan.supervise_besideRun _ _
    · rfl
  have hb : b.besideRun = c.besideRun := (Chan.runInsts_besideRun _ _ _).trans ha
  have hd : d.besideRun = c.besideRun := by
    dsimp only [d]
    split
    · exact (Chan.runDoors0_besideRun _).trans hb
    · split
      · exact (Chan.runDoors1_besideRun _).trans hb
      · exact hb
  have he : e.besideRun = c.besideRun := by
    dsimp only [e]
    split
    · exact (Chan.passOfRun_besideRun _ _ _ _).trans hd
    · exact hd
  exact (Chan.writeRecords_besideRun _ _).trans ((Chan.runInsts_besideRun _ _ _).trans he)

theorem Chan.progSound_besideRun (c : Chan) (me : Ch) (v : Variant) (g : Image) (task i : Nat) :
    (c.progSound me v g task i).besideRun = c.besideRun := by
  unfold Chan.progSound
  extract_lets a d
  show d.besideRun = c.besideRun
  dsimp only [d]
  split <;> rfl

theorem Chan.verifyProg_besideRun (c : Chan) (me : Ch) (v : Variant) (g : Image) (task i : Nat) (flips : List (Nat × Word))
    (poison : Bool) : (c.verifyProg me v g task i flips poison).besideRun = c.besideRun := by
  unfold Chan.verifyProg
  split
  · rfl
  · split
    · exact Chan.progSound_besideRun _ _ _ _ _ _
    · exact Chan.emitTask_besideRun _ _ _ _ _

theorem Chan.failTile_besideRun (c : Chan) (i cause : Nat) : (c.failTile i cause).besideRun = c.besideRun :=
  Chan.emitTask_besideRun _ _ _ _ _

theorem Chan.verifyTile_besideRun (c : Chan) (me : Ch) (v : Variant) (g : Image) (i : Nat) (flips : List (Nat × Word))
    (poison : Bool) : (c.verifyTile me v g i flips poison).besideRun = c.besideRun := by
  unfold Chan.verifyTile
  split
  · rfl
  · split
    · exact Chan.failTile_besideRun _ _ _
    · rfl
  · split
    · rfl
    · exact Chan.failTile_besideRun _ _ _

theorem Chan.verifyTiles_besideRun (c : Chan) (me : Ch) (v : Variant) (t : Nat) :
    (c.verifyTiles me v t).besideRun = c.besideRun := by
  unfold Chan.verifyTiles
  extract_lets d
  have hd : d.besideRun = c.besideRun := by
    dsimp only [d, Chan.verifyProgs]
    split
    · rfl
    · exact Chan.foldl_besideRun (fun c i => c.verifyProg_besideRun _ _ _ _ i _ _) _ c
  split
  · refine Eq.trans ?_ hd
    unfold Chan.verifyPass
    split
    · rfl
    · exact Chan.foldl_besideRun (fun c i => c.verifyTile_besideRun _ _ _ i _ _) _ d
  · exact hd

end Sys2Proof.Machine

/-! PROOFS. A run at its end (spec/05 R123 step 5, spec/06 R163 to R165): what completing it and telling of it leave of the tasks and of
the transfers already begun. -/

namespace Sys2Proof.Machine

open Sys2Proof

/-- What completing a run keeps once the run itself is closed: the tasks, what waits to be replayed, and every transfer begun. -/
structure Chan.Goes (c d : Chan) : Prop where
  tasks : d.tasks = c.tasks
  backlog : d.part.backlog = c.part.backlog
  role : d.part.role = c.part.role
  sent : ∀ q ∈ c.xout, q ∈ d.xout

namespace Chan.Goes

variable {c d e : Chan}

theorem refl (c : Chan) : c.Goes c := ⟨rfl, rfl, rfl, fun _ h => h⟩

theorem trans (h : c.Goes d) (k : d.Goes e) : c.Goes e :=
  ⟨k.tasks.trans h.tasks, k.backlog.trans h.backlog, k.role.trans h.role, fun q hq => k.sent q (h.sent q hq)⟩

theorem foldl {α : Type} {f : Chan → α → Chan} (h : ∀ c a, Chan.Goes c (f c a)) (l : List α) (c : Chan) : c.Goes (l.foldl f c) := by
  induction l generalizing c with
  | nil => exact refl c
  | cons a l ih => exact (h c a).trans (ih (f c a))

end Chan.Goes

/-- A change of fields that the view does not see. -/
theorem Chan.Goes.same {c d : Chan} (ht : d.tasks = c.tasks := by rfl) (hp : d.part = c.part := by rfl)
    (hx : d.xout = c.xout := by rfl) : c.Goes d := ⟨ht, by rw [hp], by rw [hp], fun q hq => by rwa [hx]⟩

/-! ### Outputs (R128, R129, R268) -/

theorem Chan.queueFrame_goes (c : Chan) (p : Port) (f : Frame) : c.Goes ((c.queueFrame p f).getD c) := by
  unfold Chan.queueFrame
  cases c.qm.take f.cls (c.levelOf p f) (frameCells f) with
  | none => exact .refl c
  | some q => exact .same

theorem Chan.sendFrame_goes (c : Chan) (cls kind : Nat) (dest : Option Nat) (payload : List Byte) (ports : List Port) :
    c.Goes (c.sendFrame cls kind dest payload ports) := by
  unfold Chan.sendFrame
  extract_lets f d
  exact Chan.Goes.trans (d := d) .same (.foldl (fun c p => c.queueFrame_goes p f) _ d)

theorem Chan.sendVital_goes (c : Chan) (me : Ch) (d : Conn) (cls kind : Nat) (dest : Option Nat) (seq ts : Nat)
    (data : List Word) : c.Goes (c.sendVital me d cls kind dest seq ts data) := by
  unfold Chan.sendVital
  split
  · exact .refl c
  · exact c.sendFrame_goes _ _ _ _ _

theorem Chan.commandOutput_goes (c : Chan) (n : Nat) (voted mine : Bool) (us : Nat) : c.Goes (c.commandOutput n voted mine us) := .same

theorem Chan.setLowSide_goes (c : Chan) : c.Goes c.setLowSide := by
  unfold Chan.setLowSide
  split
  · exact .refl c
  · exact .same

theorem Chan.writeLocal_goes (c : Chan) (t : Nat) (words : List Word) (mine : Bool) (us : Nat) :
    c.Goes (c.writeLocal t words mine us) := by
  unfold Chan.writeLocal
  extract_lets d
  have hd : c.Goes d := by
    dsimp only [d]
    split
    · exact c.setLowSide_goes
    · exact .refl c
  refine hd.trans (.foldl (fun c e => ?_) _ d)
  split
  · exact c.commandOutput_goes _ _ _ _
  · exact .refl c

theorem Chan.writeRemote_goes (c : Chan) (me : Ch) (t : Nat) (words : List Word) (seq ts : Nat) :
    c.Goes (c.writeRemote me t words seq ts) := by
  unfold Chan.writeRemote
  split
  · exact .refl c
  · extract_lets outs
    refine .foldl (fun c e => ?_) _ c
    split
    · exact c.sendVital_goes _ _ _ _ _ _ _ _
    · exact .refl c

theorem Chan.issue_goes (c : Chan) (me : Ch) (t : Nat) (words : List Word) (cycle ts us : Nat) :
    c.Goes (c.issue me t words cycle ts us) := by
  unfold Chan.issue
  extract_lets d
  have hd : c.Goes d := c.writeLocal_goes _ _ _ _
  split
  · exact hd.trans (d.writeRemote_goes _ _ _ _ _)
  · exact hd

theorem Chan.writeAbsent_goes (c : Chan) (me : Ch) (t us : Nat) : c.Goes (c.writeAbsent me t us) := by
  unfold Chan.writeAbsent
  extract_lets mine d
  exact Chan.Goes.trans (d := d) (.foldl (fun c e => c.commandOutput_goes _ _ _ _) _ c) .same

theorem Chan.forceOff_goes (c : Chan) (us : Nat) : c.Goes (c.forceOff us) := by
  unfold Chan.forceOff
  refine .foldl (fun c n => ?_) _ c
  split
  · exact .same
  · exact .refl c

theorem Chan.writeCounted_goes (c : Chan) : c.Goes c.writeCounted := by
  unfold Chan.writeCounted
  split
  · exact .refl c
  · exact .same

theorem Chan.takePlan_goes (c : Chan) : c.Goes c.takePlan := .same

theorem Chan.markDirty_goes (c : Chan) (me : Ch) (t : Nat) : c.Goes (c.markDirty me t) := by
  unfold Chan.markDirty
  extract_lets ns r d
  have hd : c.Goes d := by
    dsimp only [d]
    split
    · split
      · exact .same
      · exact .refl c
    · exact .refl c
  split
  · exact hd.trans ⟨rfl, rfl, rfl, fun _ h => h⟩
  · exact hd

/-! ### What follows T1 (R150, R178, R283, R306) -/

theorem Chan.psend_goes (c : Chan) (msg : PMsg) : c.Goes (c.psend msg) := by
  unfold Chan.psend
  split
  · exact ⟨rfl, rfl, rfl, fun _ h => h⟩
  · unfold Chan.pwaitFor
    split <;> exact .same

theorem Chan.feed_goes (c : Chan) (me : Ch) (msg : PMsg) : c.Goes (c.feed me msg) := by
  unfold Chan.feed
  split
  · exact c.psend_goes msg
  · exact .refl c

theorem Chan.xsend_goes (c : Chan) (x : Ch) (msg : XMsg) : c.Goes (c.xsend x msg) := by
  refine ⟨by simp, ?_, ?_, c.xsend_sent x msg⟩
  all_goals
    unfold Chan.xsend
    split
    · rfl
    · split <;> rfl

theorem Chan.xsendBoth_goes (c : Chan) (me : Ch) (msg : XMsg) : c.Goes (c.xsendBoth me msg) :=
  (c.xsend_goes _ _).trans (Chan.xsend_goes _ _ _)

theorem Chan.settleSwitch_goes (c : Chan) : c.Goes c.settleSwitch := by
  unfold Chan.settleSwitch
  split
  · exact .same
  · exact .refl c

theorem Chan.emit_goes (c : Chan) (name : EvName) (obj : Nat) (data : List Word) : c.Goes (c.emit name obj data) := by
  rw [Chan.emit_eq]
  exact .same

theorem Chan.sendEvent_goes (c : Chan) (me : Ch) (k : Nat) (d : Conn) (kind : Nat) (dest : Option Nat) (data : List Word) :
    c.Goes (c.sendEvent me k d kind dest data) := by
  unfold Chan.sendEvent
  dsimp only
  split
  · exact Chan.Goes.trans .same (Chan.sendVital_goes _ _ _ _ _ _ _ _ _)
  · exact .same

theorem Chan.eventTo_goes (c : Chan) (me : Ch) (im : Image) (node kind : Nat) (data : List Word) :
    c.Goes (c.eventTo me im node kind data) := by
  unfold Chan.eventTo
  split
  · exact c.sendEvent_goes _ _ _ _ _ _
  · exact .refl c

theorem Chan.sendReleaseAll_goes (c : Chan) (me : Ch) (im : Image) : c.Goes (c.sendReleaseAll me im) := by
  refine .foldl (fun c e => ?_) _ c
  split
  · exact c.sendEvent_goes _ _ _ _ _ _
  · exact .refl c

theorem Chan.sendAnswer_goes (c : Chan) (me : Ch) (im : Image) (e : ReqEntry) : c.Goes (c.sendAnswer me im e) := by
  unfold Chan.sendAnswer
  extract_lets
  split <;> exact c.eventTo_goes _ _ _ _ _

theorem Chan.sendAsk_goes (c : Chan) (me : Ch) (im : Image) (a : Nat × ReqEntry) : c.Goes (c.sendAsk me im a) := by
  unfold Chan.sendAsk
  extract_lets
  split
  · exact c.eventTo_goes _ _ _ _ _
  · split
    · exact c.eventTo_goes _ _ _ _ _
    · exact c.sendReleaseAll_goes _ _

theorem Chan.sendReservations_goes (c : Chan) (me : Ch) : c.Goes (c.sendReservations me) := by
  unfold Chan.sendReservations
  split
  · exact .refl c
  · next im _ =>
    extract_lets a b d
    have ha : c.Goes a := .foldl (fun c e => c.sendAnswer_goes me im e) _ c
    have hb : c.Goes b := ha.trans (.foldl (fun c e => c.sendAsk_goes me im e) _ a)
    have hd : c.Goes d := hb.trans (.foldl (fun c v => c.eventTo_goes _ _ _ _ _) _ b)
    exact hd.trans .same

theorem Chan.undoBoundary_goes (c : Chan) : c.Goes c.undoBoundary := by
  have h := c.undoBoundary_besideStore
  exact .same (congrArg (fun (x : Chan) => x.tasks) h :) (congrArg (fun (x : Chan) => x.part) h :)
    (congrArg (fun (x : Chan) => x.xout) h :)

theorem Chan.exchTo_goes (c : Chan) (st result kind id : Nat) : c.Goes (c.exchTo st result kind id) := by
  unfold Chan.exchTo
  extract_lets d b e
  have hd : c.Goes d := by
    dsimp only [d]
    split
    · exact .refl c
    · exact c.undoBoundary_goes
  exact hd.trans (Chan.Goes.trans (d := e) .same (e.emit_goes _ _ _))

theorem Chan.writeBoundary_goes (c : Chan) (v : Variant) (old new : Image) : c.Goes (c.writeBoundary v old new) := by
  unfold Chan.writeBoundary
  extract_lets b k d e
  have hd : c.Goes d := .same
  have he : c.Goes e := by
    dsimp only [e]
    exact hd.trans (.foldl (fun c i => .same) _ d)
  exact he.trans (.foldl (fun c i => .same) _ e)

theorem Chan.boundary_goes (c : Chan) (v : Variant) (main : Nat) : c.Goes (c.boundary v main) := by
  unfold Chan.boundary
  split
  · split
    · extract_lets locked
      split
      · exact c.exchTo_goes _ _ _ _
      · exact c.writeBoundary_goes _ _ _
    · exact .refl c
  · exact .refl c

theorem Chan.flushPages_goes (c : Chan) : c.Goes c.flushPages := by
  unfold Chan.flushPages
  split
  · exact .refl c
  · next x _ =>
    split
    · exact .refl c
    · extract_lets ns r d
      exact Chan.Goes.trans (d := d) .same (.foldl (fun c n => c.xsend_goes x _) _ d)

theorem Chan.flushXfers_goes (c : Chan) : c.Goes c.flushXfers := by
  unfold Chan.flushXfers
  split
  · split
    · exact .refl c
    · have hd : c.Goes { c with part := { c.part with sending := some [] } } := ⟨rfl, rfl, rfl, fun _ h => h⟩
      exact hd.trans (.foldl (f := Chan.sendXfer) (fun c n => c.psend_goes _) _ _)
  · exact .refl c

theorem Chan.afterT1_goes (c : Chan) (me : Ch) (v : Variant) (main : Nat) : c.Goes (c.afterT1 me v main) := by
  unfold Chan.afterT1
  extract_lets a b d p e f
  have ha : c.Goes a := c.settleSwitch_goes.trans (Chan.sendReservations_goes _ _)
  have hb : c.Goes b := ha.trans (a.boundary_goes _ _)
  have hd : c.Goes d := hb.trans (b.feed_goes _ _)
  have he : c.Goes e := by
    dsimp only [e]
    split
    · exact hd
    · exact hd.trans ⟨rfl, rfl, rfl, fun _ h => h⟩
  have hf : c.Goes f := by
    dsimp only [f]
    split
    · refine Chan.Goes.trans ?_ (Chan.flushPages_goes _)
      split
      · exact he.trans (Chan.xsend_goes _ _ _)
      · exact he
    · exact he
  exact hf.trans f.flushXfers_goes

/-! ### The end of a run (R123, R154) -/

/-- A task whose run is complete: its outputs are the voted image. -/
def TaskState.completed (k : TaskState) (own : TaskSet) (us : Nat) : TaskState :=
  { k with
    running := false, sent := false, own := none, skips := 0, voted := own.out, votedMain := own.mainCycle
    votedCycle := own.taskCycle, execLast := us, execMax := max k.execMax us }

/-- The run is closed first; what is replayed is looked at last. -/
theorem Chan.completeRun_closes (c : Chan) (me : Ch) (v : Variant) (own : TaskSet) (us : Nat) :
    ∃ d, (c.modTask own.task (fun k => k.completed own us)).Goes d ∧
      c.completeRun me v own us =
        if d.part.backlog.isEmpty then d else { d with part := d.part.replayed own.task own.taskCycle own.digest }.verifyRuns v := by
  unfold Chan.completeRun
  extract_lets t k u fed p noted closed mask fresh issued forced dirty r gone told after
  have hfed : c.Goes fed := c.feed_goes _ _
  have hnoted : c.Goes noted := by
    dsimp only [noted]
    split
    · exact hfed
    · exact hfed.trans ⟨rfl, rfl, rfl, fun _ h => h⟩
  have hclosed : (c.modTask own.task (fun k => k.completed own us)).Goes closed :=
    ⟨(congrArg (fun ts => modAt ts own.task (fun k => TaskState.completed k own us)) hnoted.tasks :), hnoted.backlog, hnoted.role, hnoted.sent⟩
  have hissued : closed.Goes issued :=
    Chan.Goes.trans (d := fresh) .same ((fresh.issue_goes _ _ _ _ _ _).trans (Chan.writeAbsent_goes _ _ _ _))
  have hforced : issued.Goes forced := by
    dsimp only [forced]
    split
    · exact (issued.forceOff_goes _).trans ((Chan.writeCounted_goes _).trans (Chan.takePlan_goes _))
    · exact .refl issued
  have hgone : forced.Goes gone := (forced.markDirty_goes _ _).trans .same
  have htold : gone.Goes told := by
    dsimp only [told]
    split
    · exact .refl gone
    · exact gone.feed_goes _ _
  have hafter : told.Goes after := by
    dsimp only [after]
    split
    · exact told.afterT1_goes _ _ _
    · exact .refl told
  exact ⟨after, hclosed.trans (hissued.trans (hforced.trans (hgone.trans (htold.trans hafter)))), rfl⟩

theorem Chan.completeRun_goes {c : Chan} (me : Ch) (v : Variant) (own : TaskSet) (us : Nat) (h : c.part.backlog = []) :
    (c.modTask own.task (fun k => k.completed own us)).Goes (c.completeRun me v own us) := by
  obtain ⟨d, hd, heq⟩ := c.completeRun_closes me v own us
  rw [heq, if_pos (by rw [hd.backlog, show (c.modTask own.task _).part.backlog = [] from h]; rfl)]
  exact hd

/-! ### The vote set of a run (R156, R163, R180) -/

theorem modAt_getD_self {α : Type} {l : List α} {k : Nat} (f : α → α) (a : α) (h : k < l.length) :
    (modAt l k f).getD k a = f (l.getD k a) := by
  simp [modAt_of_lt l k f h, h]

theorem Chan.modTask_task_self {c : Chan} {n : Nat} (f : TaskState → TaskState) (h : n < c.tasks.length) :
    (c.modTask n f).task n = f (c.task n) := modAt_getD_self f default h

/-- A transfer of the vote class that goes to both partners is begun on both links. -/
theorem Chan.xsendBoth_reaches {c : Chan} (me : Ch) {msg : XMsg} (hs : c.split = false) (hm : msg.copyClass = false) :
    (∃ q ∈ (c.xsendBoth me msg).xout, q.dst = me.next ∧ q.msg = msg) ∧
      (∃ q ∈ (c.xsendBoth me msg).xout, q.dst = me.prev ∧ q.msg = msg) := by
  unfold Chan.xsendBoth
  rw [Chan.xsend_vote _ (c := c) hs hm, Chan.xsend_vote _ (c := c.xput me.next msg) hs hm]
  refine ⟨⟨_, List.mem_append_left _ (List.mem_append_right _ (List.mem_singleton.mpr rfl)), rfl, rfl⟩,
    ⟨_, List.mem_append_right _ (List.mem_singleton.mpr rfl), rfl, rfl⟩⟩

/-- A channel whose run has been voted on: what the task holds, and where its set has gone. -/
theorem Chan.voteRun_sends {c : Chan} {me : Ch} {v : Variant} {n us : Nat} (hs : c.split = false) (hn : n < c.tasks.length) :
    ((c.voteRun me v n us).task n).own = some (c.ownSet me n (c.outImage n)) ∧ ((c.voteRun me v n us).task n).sent = true ∧
      (∃ q ∈ (c.voteRun me v n us).xout, q.dst = me.next ∧ q.msg = .vote (.task (c.ownSet me n (c.outImage n)))) ∧
      (∃ q ∈ (c.voteRun me v n us).xout, q.dst = me.prev ∧ q.msg = .vote (.task (c.ownSet me n (c.outImage n)))) := by
  unfold Chan.voteRun
  extract_lets own d r e
  have hd : d.task n = { c.task n with sent := true, own := some own } :=
    Chan.modTask_task_self (fun k => { k with sent := true, own := some own }) hn
  have he : e.tasks = d.tasks ∧ e.split = c.split := by
    dsimp only [e]
    split <;> exact ⟨rfl, rfl⟩
  obtain ⟨het, hes⟩ := he
  rw [if_neg (by rw [hes, hs]; decide)]
  have ht : (e.xsendBoth me (.vote (.task own))).task n = d.task n := by
    rw [Chan.task, (e.xsendBoth_goes me (.vote (.task own))).tasks, het]
    rfl
  rw [ht, hd]
  exact ⟨rfl, rfl, Chan.xsendBoth_reaches me (hes.trans hs) rfl⟩

/-- In SPLIT mode the run is complete with its set. -/
theorem Chan.voteRun_split {c : Chan} {me : Ch} {v : Variant} {n us : Nat} (hs : c.split = true) (hn : n < c.tasks.length)
    (hb : c.part.backlog = []) :
    ((c.voteRun me v n us).task n).running = false ∧ ((c.voteRun me v n us).task n).own = none ∧
      ((c.voteRun me v n us).task n).votedCycle = (c.task n).runCycle := by
  unfold Chan.voteRun
  extract_lets own d r e
  have he : e.tasks = d.tasks ∧ e.split = c.split ∧ e.part = c.part := by
    dsimp only [e]
    split <;> exact ⟨rfl, rfl, rfl⟩
  obtain ⟨het, hes, hep⟩ := he
  rw [if_pos (hes.trans hs)]
  have hlen : n < e.tasks.length := by
    rw [het]
    show n < (modAt c.tasks n _).length
    rw [modAt_of_lt _ _ _ hn, List.length_set]
    exact hn
  have hgoes := Chan.completeRun_goes me v own us (show e.part.backlog = [] by rw [hep, hb])
  have ht : (e.completeRun me v own us).task n = (e.task n).completed own us := by
    rw [Chan.task, hgoes.tasks]
    exact Chan.modTask_task_self (fun k => TaskState.completed k own us) hlen
  rw [ht]
  exact ⟨rfl, rfl, rfl⟩

/-- Settles O26: the run leaves what its vote set is taken from as the release has set it. -/
theorem taskRunSendsItsSet : Obligations.TaskRunSendsItsSet := by
  unfold Obligations.TaskRunSendsItsSet
  intro s ch n passUs execUs hv hn hl hr hi hs hm c
  have hexec : exec (.taskRun ch n passUs execUs) s =
      .next (s.put ch (if c.tilesReady n then
        (c.runTask ch s.factory.variant n passUs (s.hedgehog.copy1 || s.hedgehog.copy2)).voteRun ch s.factory.variant n execUs
        else c)) := by
    show execTaskRun ch n passUs execUs s = _
    unfold execTaskRun
    dsimp only
    rw [if_pos (by simp [hv, hn, hr, hi, hs, hm])]
    rfl
  rw [hexec]
  have hc : c.besideRun = (s.ch ch).besideRun := Chan.verifyTiles_besideRun _ _ _ _
  have hd := (c.runTask_besideRun ch s.factory.variant n passUs (s.hedgehog.copy1 || s.hedgehog.copy2)).trans hc
  revert hd
  generalize c.runTask ch s.factory.variant n passUs (s.hedgehog.copy1 || s.hedgehog.copy2) = d
  intro hd
  have htasks : d.tasks = (s.ch ch).tasks := (congrArg (fun (x : Chan) => x.tasks) hd :)
  have hsplit : d.split = (s.ch ch).split := (congrArg (fun (x : Chan) => x.split) hd :)
  have hpart : d.part = (s.ch ch).part := (congrArg (fun (x : Chan) => x.part) hd :)
  have htask : d.task n = (s.ch ch).task n := by rw [Chan.task, htasks, Chan.task]
  have hlen : n < d.tasks.length := by rw [htasks, hl]; exact hn
  refine ⟨fun h => ?_, fun h hsp => ?_, fun h hsp hb => ?_⟩
  · rw [if_neg (by rw [h]; decide)]
  · rw [if_pos h]
    obtain ⟨hown, hsent, hnext, hprev⟩ := Chan.voteRun_sends (me := ch) (v := s.factory.variant) (us := execUs) (hsplit.trans hsp) hlen
    refine ⟨_, d.ownSet ch n (d.outImage n), rfl, .put _ _ _, ?_⟩
    rw [State.put_ch]
    exact ⟨hown, hsent, rfl, rfl, congrArg TaskState.runCycle htask, congrArg TaskState.runMain htask, hnext, hprev⟩
  · rw [if_pos h]
    obtain ⟨hrun, hown, hcyc⟩ := Chan.voteRun_split (me := ch) (v := s.factory.variant) (us := execUs) (hsplit.trans hsp) hlen
      (by rw [hpart, hb])
    refine ⟨_, rfl, .put _ _ _, ?_⟩
    rw [State.put_ch]
    exact ⟨hrun, hown, hcyc.trans (congrArg TaskState.runCycle htask)⟩

end Sys2Proof.Machine

/-! PROOFS. The agreement of an instant (spec/07 R186 to R188, spec/15 R386): the consolidated inputs, the images of the runs that wait,
and the commands agreed. -/

namespace Sys2Proof.Machine

open Sys2Proof

/-! ### Vectors built bit by bit -/

theorem putBit_getLsbD {n : Nat} (v : BitVec n) (k i : Nat) (b : Bool) (hk : k < n) :
    (putBit v k b).getLsbD i = if i = k then b else v.getLsbD i := by
  have hone : (1#n <<< k).getLsbD i = decide (i = k) := by
    rw [BitVec.getLsbD_shiftLeft, BitVec.getLsbD_one]
    by_cases hi : i = k
    · subst hi
      simp [hk]
      omega
    · simp only [hi, decide_false]
      by_cases hlt : i < k
      · simp [hlt]
      · simp [show i - k ≠ 0 by omega]
  cases b
  · rw [putBit, if_neg (by decide), BitVec.getLsbD_and, BitVec.getLsbD_not, hone]
    by_cases hi : i = k
    · simp [hi]
    · by_cases hlt : i < n
      · simp [hi, hlt]
      · simp [BitVec.getLsbD_of_ge v i (by omega)]
  · rw [putBit, if_pos rfl, BitVec.getLsbD_or, hone]
    by_cases hi : i = k <;> simp [hi]

theorem foldl_putBit_getLsbD {n : Nat} (f : Nat → Bool) (m i : Nat) (hm : m ≤ n) :
    ((List.range m).foldl (fun v k => putBit v k (f k)) 0#n).getLsbD i = (decide (i < m) && f i) := by
  induction m with
  | zero => simp
  | succ m ih =>
    rw [List.range_succ, List.foldl_append, List.foldl_cons, List.foldl_nil, putBit_getLsbD _ _ _ _ (by omega), ih (by omega)]
    by_cases hi : i = m
    · simp [hi]
    · rw [if_neg hi]
      congr 1
      simp only [decide_eq_decide]
      omega

theorem buildBits_getLsbD {n : Nat} (f : Nat → Bool) {i : Nat} (h : i < n) : (buildBits n f).getLsbD i = f i := by
  rw [buildBits, foldl_putBit_getLsbD f n i le_rfl]
  simp [h]

/-! ### What an agreement keeps -/

/-- The inputs and the runs stay as they are. -/
structure Chan.KeepsImage (c d : Chan) : Prop where
  din : d.din = c.din
  tasks : d.tasks = c.tasks

namespace Chan.KeepsImage

variable {c d e : Chan}

theorem refl (c : Chan) : c.KeepsImage c := ⟨rfl, rfl⟩

theorem trans (h : c.KeepsImage d) (k : d.KeepsImage e) : c.KeepsImage e := ⟨k.din.trans h.din, k.tasks.trans h.tasks⟩

theorem foldl {α : Type} {f : Chan → α → Chan} (h : ∀ c a, Chan.KeepsImage c (f c a)) (l : List α) (c : Chan) :
    c.KeepsImage (l.foldl f c) :=
  ⟨foldl_view (g := Chan.din) (fun c a => (h c a).din) l c, foldl_view (g := Chan.tasks) (fun c a => (h c a).tasks) l c⟩

end Chan.KeepsImage

theorem Chan.emit_keepsImage (c : Chan) (name : EvName) (obj : Nat) (data : List Word) : c.KeepsImage (c.emit name obj data) := by
  rw [Chan.emit_eq]
  exact ⟨rfl, rfl⟩

theorem Chan.accept_keepsImage (c : Chan) (l : Listed) (p : List Byte) : c.KeepsImage (c.accept l p).1 := by
  unfold Chan.accept
  extract_lets h main offset tag kept task reply
  split
  · split <;> exact ⟨rfl, rfl⟩
  · exact ⟨rfl, rfl⟩

theorem Chan.undoBoundary_keepsImage (c : Chan) : c.KeepsImage c.undoBoundary :=
  ⟨(congrArg (fun (x : Chan) => x.din) c.undoBoundary_besideStore :), (congrArg (fun (x : Chan) => x.tasks) c.undoBoundary_besideStore :)⟩

theorem Chan.exchTo_keepsImage (c : Chan) (st result kind id : Nat) : c.KeepsImage (c.exchTo st result kind id) := by
  unfold Chan.exchTo
  extract_lets d b e
  have hd : c.KeepsImage d := by
    dsimp only [d]
    split
    · exact .refl c
    · exact c.undoBoundary_keepsImage
  exact hd.trans (Chan.KeepsImage.trans (d := e) ⟨rfl, rfl⟩ (e.emit_keepsImage _ _ _))

theorem Chan.exchVerify_keepsImage {c d : Chan} {me : Ch} {v : Variant} (h : c.exchVerify me v = some d) : c.KeepsImage d := by
  unfold Chan.exchVerify at h
  split at h
  · split at h
    · cases h
      exact (c.exchTo_keepsImage _ _ _ _).trans ⟨rfl, rfl⟩
    · cases h
      exact c.exchTo_keepsImage _ _ _ _
  · cases h

theorem Chan.writeImmediate_keepsImage (c : Chan) (num : Nat) (w : Word) : c.KeepsImage (c.writeImmediate num w) := by
  have h : (c.writeImmediate num w) = { c with mem := (c.writeImmediate num w).mem, arb := (c.writeImmediate num w).arb } := by
    unfold Chan.writeImmediate
    repeat' split
    all_goals rfl
  rw [h]
  exact ⟨rfl, rfl⟩

theorem Chan.applyEntry_keepsImage (c : Chan) (session : Nat) (all : Bool) (e : Nat × Word) :
    c.KeepsImage (c.applyEntry session all e) := by
  unfold Chan.applyEntry
  split
  · exact .refl c
  · split
    · exact ⟨rfl, rfl⟩
    · exact c.writeImmediate_keepsImage _ _
    · exact ⟨rfl, rfl⟩
    · split
      · exact ⟨rfl, rfl⟩
      · exact .refl c
    · exact .refl c

theorem Chan.onAgreed_keepsImage (c : Chan) (me : Ch) (v : Variant) (l : Listed) : c.KeepsImage (c.onAgreed me v l).1 := by
  unfold Chan.onAgreed
  extract_lets main offset d old x p e es f
  have hd : c.KeepsImage d := Chan.KeepsImage.trans (d := c.countAgreed) ⟨rfl, rfl⟩ (Chan.emit_keepsImage _ _ _ _)
  split
  · split
    · have he : c.KeepsImage e := by
        dsimp only [e]
        split
        · exact hd.trans (d.emit_keepsImage _ _ _)
        · exact hd
      exact he.trans ⟨rfl, rfl⟩
    · have hk (p : Option Prepare) : c.KeepsImage { d with host := d.host.setPrepare l.session p } := hd.trans ⟨rfl, rfl⟩
      dsimp only
      split
      · exact (hk _).trans (Chan.accept_keepsImage _ _ _)
      · exact hk _
  · split
    · exact hd.trans (.foldl (fun c e => c.applyEntry_keepsImage _ _ e) _ d)
    · split
      · split
        · next h => exact hd.trans (Chan.exchVerify_keepsImage h)
        · exact hd
      · exact hd.trans (d.accept_keepsImage _ _)

theorem Chan.onAgreedOut_keepsImage (c : Chan) (me : Ch) (v : Variant) (l : Listed) : c.KeepsImage (c.onAgreedOut me v l) := by
  unfold Chan.onAgreedOut
  split
  · exact .foldl (fun c e => c.applyEntry_keepsImage _ _ e) _ c
  · split
    · exact c.onAgreed_keepsImage _ _ _
    · exact .refl c

/-! ### The commands of the instant (R386) -/

/-- One channel keeps its inputs and runs; the others stay as they are. -/
structure State.AgreesAt (s t : State) (ch : Ch) : Prop where
  others : ∀ x, x ≠ ch → t.ch x = s.ch x
  keeps : (s.ch ch).KeepsImage (t.ch ch)

namespace State.AgreesAt

variable {s t u : State} {ch : Ch}

theorem refl (s : State) (ch : Ch) : s.AgreesAt s ch := ⟨fun _ _ => rfl, .refl _⟩

theorem trans (h : s.AgreesAt t ch) (k : t.AgreesAt u ch) : s.AgreesAt u ch :=
  ⟨fun x hx => (k.others x hx).trans (h.others x hx), h.keeps.trans k.keeps⟩

theorem put {d : Chan} (h : (s.ch ch).KeepsImage d) : s.AgreesAt (s.put ch d) ch :=
  ⟨fun _ hx => State.put_ch_ne s d hx, by rwa [State.put_ch]⟩

theorem foldl {α : Type} {f : State → α → State} (h : ∀ s a, State.AgreesAt s (f s a) ch) (l : List α) (s : State) :
    s.AgreesAt (l.foldl f s) ch := by
  induction l generalizing s with
  | nil => exact refl s ch
  | cons a l ih => exact (h s a).trans (ih (f s a))

end State.AgreesAt

theorem State.respond_agreesAt (s : State) (r : Reply) : s.AgreesAt (s.respond r) r.ch := by
  refine ⟨fun x hx => ?_, ?_⟩
  · rw [State.respond, State.reply_ch, State.mod_ch_ne _ _ hx]
  · rw [State.respond, State.reply_ch, State.mod_ch]
    exact ⟨rfl, rfl⟩

theorem State.agree_agreesAt (s : State) (ch : Ch) (e : CmdEntry) : s.AgreesAt (s.agree ch e) ch := by
  unfold State.agree
  extract_lets c h d
  split
  · exact .refl s ch
  · next l _ =>
    have hd : c.KeepsImage d := ⟨rfl, rfl⟩
    split
    · exact State.AgreesAt.trans (.put (hd.trans (d.onAgreed_keepsImage _ _ _))) (State.respond_agreesAt _ (l.reply ch _ _))
    · refine State.AgreesAt.trans (.put (hd.trans ?_)) (State.respond_agreesAt _ (l.reply ch _ _))
      split
      · exact d.onAgreed_keepsImage _ _ _
      · exact d.onAgreedOut_keepsImage _ _ _

theorem State.dropUnagreed_agreesAt (s : State) (ch : Ch) : s.AgreesAt (s.dropUnagreed ch) ch := by
  unfold State.dropUnagreed
  extract_lets c gone h t
  exact State.AgreesAt.trans (t := t) (.put ⟨rfl, rfl⟩) (.foldl (fun s l => s.respond_agreesAt (l.reply ch _ _)) _ t)

theorem State.consolidateCommands_agreesAt (s : State) (ch : Ch) : s.AgreesAt (s.consolidateCommands ch) ch :=
  State.AgreesAt.trans (.foldl (fun s e => s.agree_agreesAt ch e) _ s) (State.dropUnagreed_agreesAt _ _)

/-! ### The image of the instant (R180, R186, R271) -/

theorem Chan.takeConns_keepsImage (c : Chan) (im : Image) (report : Nat → Option RemoteEntry) (noRoute : Nat → Bool) :
    c.KeepsImage (c.takeConns im report noRoute) := ⟨rfl, rfl⟩

theorem Chan.takeEvent_keepsImage (c : Chan) (e : RemoteEvent) : c.KeepsImage (c.takeEvent e) := by
  unfold Chan.takeEvent
  extract_lets peer f fab
  split <;> exact ⟨rfl, rfl⟩

theorem Chan.ageReports_keepsImage (c : Chan) : c.KeepsImage c.ageReports := by
  unfold Chan.ageReports
  split <;> exact ⟨rfl, rfl⟩

theorem Chan.ageEvents_keepsImage (c : Chan) : c.KeepsImage c.ageEvents := by
  unfold Chan.ageEvents
  split <;> exact ⟨rfl, rfl⟩

theorem Chan.consEvent_keepsImage (c : Chan) (sets : List RemoteSet) (e : RemoteEvent) : c.KeepsImage (c.consEvent sets e) := by
  unfold Chan.consEvent
  split
  · exact .refl c
  · dsimp only
    generalize (if c.fab.waiting.any (fun w => w.ev == e) then 1 else 0) = k
    split
    · exact Chan.KeepsImage.trans (d := { c with fab := { c.fab with waiting := c.fab.waiting.filter (fun w => w.ev != e) } })
        ⟨rfl, rfl⟩ (Chan.takeEvent_keepsImage _ _)
    · split
      · exact .refl c
      · exact ⟨rfl, rfl⟩

theorem Chan.consolidateRemote_keepsImage (c : Chan) : c.KeepsImage c.consolidateRemote := by
  unfold Chan.consolidateRemote
  split
  · exact .refl c
  · extract_lets sets d
    have hd : c.KeepsImage d :=
      (c.ageReports_keepsImage.trans (Chan.ageEvents_keepsImage _)).trans (Chan.takeConns_keepsImage _ _ _ _)
    exact hd.trans (.foldl (fun c e => c.consEvent_keepsImage sets e) _ d)

theorem Chan.ownRemote_keepsImage (c : Chan) (me : Ch) : c.KeepsImage (c.ownRemote me) := by
  unfold Chan.ownRemote
  split
  · extract_lets d
    have hd : c.KeepsImage d := c.ageReports_keepsImage.trans (Chan.takeConns_keepsImage _ _ _ _)
    exact hd.trans (.foldl (fun c e => c.takeEvent_keepsImage e) _ d)
  · exact .refl c

theorem Chan.takeResults_keepsImage (c : Chan) : c.KeepsImage c.takeResults := ⟨rfl, rfl⟩

/-- Out of SPLIT mode the inputs are those of the consolidation. -/
theorem Chan.buildImage_consolidates {c : Chan} {me : Ch} (h : c.split = false) : c.consolidate.KeepsImage (c.buildImage me) := by
  unfold Chan.buildImage
  rw [if_neg (by rw [h]; decide)]
  extract_lets d
  have hd : c.consolidate.KeepsImage d := (Chan.takeResults_keepsImage _).trans (Chan.consolidateRemote_keepsImage _)
  split
  · exact hd.trans ⟨rfl, rfl⟩
  · exact hd

theorem Chan.buildImage_own {c : Chan} {me : Ch} (h : c.split = true) : (c.ownInputs me).KeepsImage (c.buildImage me) := by
  unfold Chan.buildImage
  rw [if_pos h]
  exact Chan.ownRemote_keepsImage _ _

/-- The runs that wait are those of the instant, whatever its inputs. -/
theorem Chan.buildImage_awaits (c : Chan) (me : Ch) :
    (c.buildImage me).tasks = c.tasks ∧ (c.buildImage me).awaitingImage = c.awaitingImage := by
  have key {d : Chan} (ht : d.tasks = c.tasks) (hm : d.din.mainCycle = c.din.mainCycle) (ho : d.din.offset = c.din.offset) :
      d.tasks = c.tasks ∧ d.awaitingImage = c.awaitingImage := by
    refine ⟨ht, ?_⟩
    unfold Chan.awaitingImage Chan.task
    rw [ht, hm, ho]
  cases h : c.split with
  | false =>
    have hk := Chan.buildImage_consolidates (me := me) h
    exact key hk.tasks (by rw [hk.din]; rfl) (by rw [hk.din]; rfl)
  | true =>
    have hk := Chan.buildImage_own (me := me) h
    have hown : (c.ownInputs me).tasks = c.tasks ∧ (c.ownInputs me).din.mainCycle = c.din.mainCycle ∧
        (c.ownInputs me).din.offset = c.din.offset := by
      unfold Chan.ownInputs
      split <;> exact ⟨rfl, rfl, rfl⟩
    obtain ⟨ht, hm, ho⟩ := hown
    exact key (hk.tasks.trans ht) (by rw [hk.din, hm]) (by rw [hk.din, ho])

/-! ### Freezing the images (R123, R124) -/

/-- A run's image is frozen with the consolidated inputs. -/
def Chan.Frozen (c : Chan) (n : Nat) : Prop := (c.task n).imageReady = true ∧ (c.task n).inImg.di = c.din.cons

theorem Chan.writeRin_keepsImage (c : Chan) : c.KeepsImage c.writeRin := by
  unfold Chan.writeRin
  split
  · exact .refl c
  · exact .foldl (f := Chan.rewriteSlot) (fun c i => ⟨rfl, rfl⟩) _ c

theorem Chan.feed_keepsImage (c : Chan) (me : Ch) (msg : PMsg) : c.KeepsImage (c.feed me msg) := by
  unfold Chan.feed
  split
  · exact ⟨by simp, by simp⟩
  · exact .refl c

/-- The image of one run frozen. -/
def Chan.freezeOne (me : Ch) (remote : List RemoteEntry) (c : Chan) (t : Nat) : Chan :=
  let (c, requests, tags) := if t == 1 then c.takeRequests else (c, [], [])
  let c := c.fillImage t remote requests tags
  let c := if t == 1 then c.writeRin else c
  c.feed me (.runIn (c.runInput t))

theorem Chan.freezeImages_eq (c : Chan) (me : Ch) :
    c.freezeImages me = c.awaitingImage.foldl (Chan.freezeOne me c.remoteImage) c := rfl

/-- Freezing a run's image fills it from the inputs in force, and nothing else of the tasks. -/
theorem Chan.freezeOne_fills (c : Chan) (me : Ch) (remote : List RemoteEntry) (t : Nat) :
    ∃ requests tags, (c.fillImage t remote requests tags).KeepsImage (c.freezeOne me remote t) := by
  unfold Chan.freezeOne
  by_cases ht : t = 1
  · subst ht
    exact ⟨c.takeRequests.2.1, c.takeRequests.2.2,
      Chan.KeepsImage.trans (d := c.takeRequests.1.fillImage 1 remote c.takeRequests.2.1 c.takeRequests.2.2) ⟨rfl, rfl⟩
        ((Chan.writeRin_keepsImage _).trans (Chan.feed_keepsImage _ _ _))⟩
  · refine ⟨[], [], ?_⟩
    have hb : (t == 1) = false := beq_eq_false_iff_ne.mpr ht
    simp only [hb, Bool.false_eq_true, if_false]
    exact Chan.feed_keepsImage _ _ _

theorem modAt_getD_ne {α : Type} (l : List α) {k n : Nat} (f : α → α) (a : α) (h : n ≠ k) : (modAt l k f).getD n a = l.getD n a := by
  unfold modAt
  split
  · rw [List.getD_eq_getElem?_getD, List.getElem?_set_ne h.symm, List.getD_eq_getElem?_getD]
  · rfl

theorem modAt_length {α : Type} (l : List α) (k : Nat) (f : α → α) : (modAt l k f).length = l.length := by
  unfold modAt
  split
  · exact List.length_set
  · rfl

section

variable {c : Chan} {me : Ch} {remote : List RemoteEntry} {t : Nat}

theorem Chan.freezeOne_din : (c.freezeOne me remote t).din = c.din := by
  obtain ⟨_, _, h⟩ := c.freezeOne_fills me remote t
  exact h.din

theorem Chan.freezeOne_length : (c.freezeOne me remote t).tasks.length = c.tasks.length := by
  obtain ⟨_, _, h⟩ := c.freezeOne_fills me remote t
  rw [h.tasks]
  exact modAt_length _ _ _

theorem Chan.freezeOne_frozen (ht : t < c.tasks.length) : (c.freezeOne me remote t).Frozen t := by
  obtain ⟨requests, tags, h⟩ := c.freezeOne_fills me remote t
  have htask : (c.freezeOne me remote t).task t = (c.fillImage t remote requests tags).task t := by rw [Chan.task, h.tasks, Chan.task]
  rw [Chan.Frozen, htask, h.din, Chan.fillImage, Chan.modTask_task_self _ ht]
  exact ⟨rfl, rfl⟩

theorem Chan.Frozen.freezeOne {n : Nat} (hn : c.Frozen n) (hl : n < c.tasks.length) : (c.freezeOne me remote t).Frozen n := by
  by_cases hnt : n = t
  · subst hnt
    exact Chan.freezeOne_frozen hl
  · obtain ⟨requests, tags, h⟩ := c.freezeOne_fills me remote t
    have htask : (c.freezeOne me remote t).task n = c.task n := by
      rw [Chan.task, h.tasks]
      exact modAt_getD_ne c.tasks _ _ hnt
    rwa [Chan.Frozen, htask, Chan.freezeOne_din]

end

theorem foldl_freezeOne (me : Ch) (remote : List RemoteEntry) (l : List Nat) (c : Chan) :
    (l.foldl (Chan.freezeOne me remote) c).din = c.din ∧
      (∀ n, n < c.tasks.length → (n ∈ l ∨ c.Frozen n) → (l.foldl (Chan.freezeOne me remote) c).Frozen n) := by
  induction l generalizing c with
  | nil => exact ⟨rfl, fun n _ h => h.resolve_left (by simp)⟩
  | cons t l ih =>
    obtain ⟨hdin, hfrozen⟩ := ih (c.freezeOne me remote t)
    refine ⟨hdin.trans Chan.freezeOne_din, fun n hn h => hfrozen n (by rwa [Chan.freezeOne_length]) ?_⟩
    rcases h with h | h
    · rcases List.mem_cons.mp h with rfl | h
      · exact .inr (Chan.freezeOne_frozen hn)
      · exact .inl h
    · exact .inr (h.freezeOne hn)

/-! ### The agreement as a whole -/

/-- The channel as the agreement of an instant leaves its inputs and images. -/
theorem exec_inputAgreement {s : State} {ch : Ch} (hr : (s.ch ch).running = true) (hs : (s.ch ch).statusOnly = false)
    (ho : (s.ch ch).din.openInstant = true) :
    ∃ t, exec (.inputAgreement ch) s = .next t ∧ (∀ x, x ≠ ch → t.ch x = s.ch x) ∧
      (t.ch ch).din = { (((s.ch ch).buildImage ch).freezeImages ch).din with openInstant := false } ∧
      (t.ch ch).tasks = (((s.ch ch).buildImage ch).freezeImages ch).tasks := by
  have hexec : exec (.inputAgreement ch) s =
      .next (((s.mod ch (fun c => (c.buildImage ch).freezeImages ch)).consolidateCommands ch).mod ch
        (fun c => { c with din := { c.din with openInstant := false } })) := by
    show execInputAgreement ch s = _
    unfold execInputAgreement
    dsimp only
    rw [if_pos (by simp [hr, hs, ho])]
  have h := (s.mod ch (fun c => (c.buildImage ch).freezeImages ch)).consolidateCommands_agreesAt ch
  refine ⟨_, hexec, fun x hx => ?_, ?_, ?_⟩
  · rw [State.mod_ch_ne _ _ hx, h.others x hx, State.mod_ch_ne _ _ hx]
  · rw [State.mod_ch, h.keeps.din, State.mod_ch]
  · rw [State.mod_ch]
    exact h.keeps.tasks.trans (by rw [State.mod_ch])

/-- Settles O25: the image is built and frozen first; the commands of the instant leave it alone. -/
theorem agreementConsolidatesInputs : Obligations.AgreementConsolidatesInputs := by
  unfold Obligations.AgreementConsolidatesInputs
  refine ⟨?_, fun s ch h => ?_, fun c n hn => ?_⟩
  · intro s ch hr hs ho c
    obtain ⟨t, hexec, hothers, hdin, htasks⟩ := exec_inputAgreement hr hs ho
    obtain ⟨hbt, hba⟩ := c.buildImage_awaits ch
    obtain ⟨hfd, hff⟩ := foldl_freezeOne ch (c.buildImage ch).remoteImage (c.buildImage ch).awaitingImage (c.buildImage ch)
    rw [← Chan.freezeImages_eq] at hfd hff
    have hd : (t.ch ch).din = { (c.buildImage ch).din with openInstant := false } := by rw [hdin, hfd]
    refine ⟨⟨t, hexec, hothers, by rw [hd]⟩, fun hsp hst => ⟨t, hexec, ?_⟩, fun hsp hst => ⟨t, hexec, ?_⟩, fun i hsp hi => ⟨t, hexec, ?_⟩,
      fun hl n hn => ⟨t, hexec, ?_⟩⟩
    · rw [hd, (Chan.buildImage_consolidates hsp).din]
      exact if_neg (by rw [hst]; decide)
    · rw [hd, (Chan.buildImage_consolidates hsp).din]
      exact if_pos hst
    · have hown : c.ownInputs ch =
          { c with
            din :=
              { c.din with
                cons := buildBits 96 (fun n => if i.stall || inputInv i n then c.inputSafe n else inputBit i n)
                rb := i.rb, warn := i.warn, low := i.low, lsf := i.lsf, dip := 0, sweep := 0 } } := by
        unfold Chan.ownInputs
        simp only [hi]
      rw [hd, (Chan.buildImage_own hsp).din, hown]
      exact ⟨rfl, fun n hn => buildBits_getLsbD _ hn⟩
    · have hlen : n < (c.buildImage ch).tasks.length := by
        rw [hbt, hl]
        exact List.mem_range.mp (List.mem_filter.mp hn).1
      obtain ⟨hready, hdi⟩ := hff n hlen (.inl (by rwa [hba]))
      have htask : (t.ch ch).task n = ((c.buildImage ch).freezeImages ch).task n := by rw [Chan.task, htasks, Chan.task]
      rw [htask, hd]
      exact ⟨hready, hdi.trans (by rw [hfd])⟩
  · show execInputAgreement ch s = _
    unfold execInputAgreement
    dsimp only
    rw [if_neg (by simp [h])]
  · rw [Chan.consInputs, Chan.safeInputs, buildBits_getLsbD _ hn, buildBits_getLsbD _ hn]
    refine ⟨fun a b d h => ?_, fun a h => ?_, fun a b h hab => ?_, fun h => ?_, rfl⟩
    · rw [h]
      cases a <;> cases b <;> cases d <;> rfl
    · rw [h]
      cases a <;> rfl
    · rw [h]
      exact congrArg Prod.fst (if_neg (by simpa using hab))
    · have hcases : c.readings n = [] ∨ ∃ a, c.readings n = [a] := by
        cases hr : c.readings n with
        | nil => exact .inl rfl
        | cons a l =>
          rw [hr, List.length_cons] at h
          exact .inr ⟨a, by rw [List.length_eq_zero_iff.mp (by omega : l.length = 0)]⟩
      rcases hcases with hr | ⟨a, hr⟩ <;> rw [hr] <;> rfl

end Sys2Proof.Machine

/-! PROOFS. A release (spec/01 R23, spec/05 R123 to R131, spec/15 R386 to R395): what its side effects, switches and effects of agreed
commands among them, leave of the instant itself. -/

namespace Sys2Proof.Machine

open Sys2Proof

/-- What an instant is made of: the clocks and numbers, the inputs, the seal, and how many tasks there are. -/
def Chan.actView (c : Chan) : Nat × Nat × Nat × Bool × Din × SealState × Nat :=
  (c.clock, c.t1Clock, c.mainCycle, c.released, c.din, c.seals, c.tasks.length)

/-- A side effect at an instant leaves these alone, and every transfer begun stays begun. -/
structure Chan.Acts (c d : Chan) : Prop where
  view : d.actView = c.actView
  sent : ∀ q ∈ c.xout, q ∈ d.xout

namespace Chan.Acts

variable {c d e : Chan}

theorem refl (c : Chan) : c.Acts c := ⟨rfl, fun _ h => h⟩

theorem trans (h : c.Acts d) (k : d.Acts e) : c.Acts e := ⟨k.view.trans h.view, fun q hq => k.sent q (h.sent q hq)⟩

theorem foldl {α : Type} {f : Chan → α → Chan} (h : ∀ c a, Chan.Acts c (f c a)) (l : List α) (c : Chan) : c.Acts (l.foldl f c) := by
  induction l generalizing c with
  | nil => exact refl c
  | cons a l ih => exact (h c a).trans (ih (f c a))

theorem clock (h : c.Acts d) : d.clock = c.clock := congrArg (fun v => v.1) h.view

theorem t1Clock (h : c.Acts d) : d.t1Clock = c.t1Clock := congrArg (fun v => v.2.1) h.view

theorem mainCycle (h : c.Acts d) : d.mainCycle = c.mainCycle := congrArg (fun v => v.2.2.1) h.view

theorem released (h : c.Acts d) : d.released = c.released := congrArg (fun v => v.2.2.2.1) h.view

theorem din (h : c.Acts d) : d.din = c.din := congrArg (fun v => v.2.2.2.2.1) h.view

theorem seals (h : c.Acts d) : d.seals = c.seals := congrArg (fun v => v.2.2.2.2.2.1) h.view

theorem length (h : c.Acts d) : d.tasks.length = c.tasks.length := congrArg (fun v => v.2.2.2.2.2.2) h.view

end Chan.Acts

/-- A change of fields that the view does not see. -/
theorem Chan.Acts.same {c d : Chan} (hv : d.actView = c.actView := by rfl) (hx : d.xout = c.xout := by rfl) : c.Acts d :=
  ⟨hv, fun q hq => by rwa [hx]⟩

/-! ### The steps of a channel -/

theorem Chan.emitAt_acts (c : Chan) (m n t : Nat) (name : EvName) (obj : Nat) (data : List Word) :
    c.Acts (c.emitAt m n t name obj data) := by
  rw [Chan.emitAt_eq]
  exact .same

theorem Chan.emit_acts (c : Chan) (name : EvName) (obj : Nat) (data : List Word) : c.Acts (c.emit name obj data) :=
  c.emitAt_acts _ _ _ _ _ _

theorem Chan.Writes.acts {c d : Chan} (h : c.Writes d) : c.Acts d := by
  have hl : d.tasks.length = c.tasks.length := by
    have := congrArg List.length h.runs
    simpa [Chan.runsNow] using this
  refine .same ?_ (congrArg (fun (x : Chan) => x.xout) h.beside :)
  have hb : ({ d with tasks := [] } : Chan).actView = ({ c with tasks := [] } : Chan).actView :=
    (congrArg (fun (x : Chan) => x.actView) h.beside :)
  unfold Chan.actView
  rw [hl]
  exact congrArg (fun v => (v.1, v.2.1, v.2.2.1, v.2.2.2.1, v.2.2.2.2.1, v.2.2.2.2.2.1, c.tasks.length)) hb

theorem Chan.modTask_acts (c : Chan) (t : Nat) (f : TaskState → TaskState) : c.Acts (c.modTask t f) := by
  refine .same ?_
  show _ = _
  unfold Chan.actView Chan.modTask
  rw [show (modAt c.tasks t f).length = c.tasks.length from modAt_length _ _ _]

theorem Chan.xsend_acts (c : Chan) (x : Ch) (msg : XMsg) : c.Acts (c.xsend x msg) := by
  refine ⟨?_, c.xsend_sent x msg⟩
  unfold Chan.xsend
  split
  · rfl
  · split <;> rfl

theorem Chan.xsendBoth_acts (c : Chan) (me : Ch) (msg : XMsg) : c.Acts (c.xsendBoth me msg) :=
  (c.xsend_acts _ _).trans (Chan.xsend_acts _ _ _)

theorem Chan.psend_acts (c : Chan) (msg : PMsg) : c.Acts (c.psend msg) := by
  unfold Chan.psend Chan.pwaitFor
  split
  · exact .same
  · split <;> exact .same

theorem Chan.undoBoundary_acts (c : Chan) : c.Acts c.undoBoundary :=
  .same (congrArg (fun (x : Chan) => x.actView) c.undoBoundary_besideStore :)
    (congrArg (fun (x : Chan) => x.xout) c.undoBoundary_besideStore :)

theorem Chan.exchTo_acts (c : Chan) (st result kind id : Nat) : c.Acts (c.exchTo st result kind id) := by
  unfold Chan.exchTo
  extract_lets d b e
  have hd : c.Acts d := by
    dsimp only [d]
    split
    · exact .refl c
    · exact c.undoBoundary_acts
  exact hd.trans (Chan.Acts.trans (d := e) .same (e.emit_acts _ _ _))

/-! ### Effects of agreed commands (R392 to R395) -/

theorem Chan.resetInsts_acts (c : Chan) (t : Nat) : c.Acts (c.resetInsts t) := by
  unfold Chan.resetInsts
  split <;> exact .same

theorem Chan.resetDoors_acts (c : Chan) (t : Nat) : c.Acts (c.resetDoors t) := by
  unfold Chan.resetDoors
  split
  · exact .same
  · dsimp only
    split
    · exact .same
    · split <;> exact .same

theorem Chan.clearFault_acts {c d : Chan} {t : Nat} (h : c.clearFault t = some d) : c.Acts d := by
  unfold Chan.clearFault at h
  split at h
  · cases h
    exact (c.modTask_acts _ _).trans ((Chan.resetInsts_acts _ _).trans (Chan.resetDoors_acts _ _))
  · cases h

theorem Chan.clearLockout_acts {c d : Chan} {n : Nat} (h : c.clearLockout n = some d) : c.Acts d := by
  unfold Chan.clearLockout at h
  split at h
  · split at h
    · cases h
      exact Chan.Acts.trans (d := c.setOutFault n (fun f => { f with cause := 0, pair := 0, psrc := false, partner := 0 })) .same
        (Chan.emitAt_acts _ _ _ _ _ _ _)
    · cases h
  · dsimp only at h
    split at h
    · cases h
      exact Chan.Acts.trans .same (Chan.emitAt_acts _ _ _ _ _ _ _)
    · cases h

theorem Chan.endSource_acts (c : Chan) : c.Acts c.endSource := by
  unfold Chan.endSource
  split <;> exact .same

theorem Chan.abandonSource_acts (c : Chan) : c.Acts c.abandonSource := by
  unfold Chan.abandonSource
  split
  · exact (c.xsend_acts _ _).trans (Chan.endSource_acts _)
  · exact .refl c

theorem Chan.failAttempt_acts (c : Chan) (me : Ch) (cause : Nat) : c.Acts (c.failAttempt me cause) := by
  unfold Chan.failAttempt
  split
  · exact .refl c
  · extract_lets attempt v r d
    have hd : c.Acts d := .same (by unfold Chan.actView; rw [show d.tasks.length = c.tasks.length from List.length_map _])
    exact hd.trans ((d.xsendBoth_acts _ _).trans (Chan.emit_acts _ _ _ _))

theorem Chan.abandon_acts (c : Chan) (cause : Nat) : c.Acts (c.abandon cause) :=
  Chan.Acts.trans .same (Chan.emit_acts _ _ _ _)

theorem Chan.abandonXfer_acts {c d : Chan} (h : c.abandonXfer = some d) : c.Acts d := by
  unfold Chan.abandonXfer at h
  split at h
  · cases h
    exact (c.psend_acts _).trans (Chan.abandon_acts _ _)
  · cases h

theorem Chan.exchArm_acts {c d : Chan} {now n : Nat} {ok : Bool} (h : c.exchArm now n = some (ok, d)) : c.Acts d := by
  unfold Chan.exchArm at h
  split at h
  · cases h
  · split at h
    · cases h
      exact Chan.Acts.trans .same (Chan.exchTo_acts _ _ _ _ _)
    · cases h
      exact c.exchTo_acts _ _ _ _

theorem Chan.armSwitchover_acts {c d : Chan} {now n : Nat} (h : c.armSwitchover now n = some d) : c.Acts d := by
  have hd : d = ({ c with part := { c.part with switchAt := n, swReady := false } } : Chan).psend (.switchAt n) := by
    unfold Chan.armSwitchover at h
    extract_lets standby at h
    split at h
    · exact (Option.some.inj h).symm
    · cases h
  rw [hd]
  exact Chan.Acts.trans .same (Chan.psend_acts _ _)

theorem Chan.exchAbort_acts {c d : Chan} (h : c.exchAbort = some d) : c.Acts d := by
  unfold Chan.exchAbort at h
  split at h <;> cases h <;> exact c.exchTo_acts _ _ _ _

theorem Chan.writeCal_acts (c : Chan) (k : CalCopy) : c.Acts (c.writeCal k) := .same

theorem Chan.calWrite_acts (c : Chan) (me : Ch) (p : List Byte) : c.Acts (c.calWrite me p) := by
  unfold Chan.calWrite
  dsimp only
  split
  · exact .refl c
  · exact c.writeCal_acts _

theorem Chan.allowReint_acts (c : Chan) (me : Ch) (x : Nat) : c.Acts (c.allowReint me x) := by
  unfold Chan.allowReint
  split
  · exact .same
  · exact .refl c

theorem Chan.isolateGate_acts {c d : Chan} {elem minutes cycle : Nat} (h : c.isolateGate elem minutes cycle = some d) : c.Acts d := by
  obtain ⟨g, -, rfl⟩ := Option.map_eq_some_iff.mp h
  exact .same

theorem Chan.serviceGate_acts {c d : Chan} {elem : Nat} (h : c.serviceGate elem = some d) : c.Acts d := by
  obtain ⟨g, -, rfl⟩ := Option.map_eq_some_iff.mp h
  exact .same

theorem Chan.resetPlunger_acts {c d : Chan} {elem : Nat} (h : c.resetPlunger elem = some d) : c.Acts d := by
  unfold Chan.resetPlunger at h
  split at h
  · split at h
    · cases h
    · cases h
      exact .same
  · cases h

theorem Chan.resetGate_acts {c d : Chan} {elem : Nat} (h : c.resetGate elem = some d) : c.Acts d := by
  unfold Chan.resetGate at h
  split at h
  · split at h
    · cases h
    · cases h
      exact .same
  · cases h

theorem Chan.endIsolation_acts {c d : Chan} {elem : Nat} (h : c.endIsolation elem = some d) : c.Acts d := by
  unfold Chan.endIsolation at h
  split at h
  · split at h
    · cases h
      exact .same
    · cases h
  · cases h

theorem Chan.resync_acts {c d : Chan} (h : c.resync = some d) : c.Acts d := by
  unfold Chan.resync at h
  split at h
  · cases h
    exact .same
  · cases h

/-! ### One channel of the module acts -/

/-- A side effect at one channel: the others stay as they are. -/
structure State.ActsAt (s t : State) (ch : Ch) : Prop where
  others : ∀ x, x ≠ ch → t.ch x = s.ch x
  acts : (s.ch ch).Acts (t.ch ch)

namespace State.ActsAt

variable {s t u : State} {ch : Ch}

theorem refl (s : State) (ch : Ch) : s.ActsAt s ch := ⟨fun _ _ => rfl, .refl _⟩

theorem trans (h : s.ActsAt t ch) (k : t.ActsAt u ch) : s.ActsAt u ch :=
  ⟨fun x hx => (k.others x hx).trans (h.others x hx), h.acts.trans k.acts⟩

theorem put {d : Chan} (h : (s.ch ch).Acts d) : s.ActsAt (s.put ch d) ch :=
  ⟨fun _ hx => State.put_ch_ne s d hx, by rwa [State.put_ch]⟩

theorem mod {f : Chan → Chan} (h : (s.ch ch).Acts (f (s.ch ch))) : s.ActsAt (s.mod ch f) ch := .put h

theorem foldl {α : Type} {f : State → α → State} (h : ∀ s a, State.ActsAt s (f s a) ch) (l : List α) (s : State) :
    s.ActsAt (l.foldl f s) ch := by
  induction l generalizing s with
  | nil => exact refl s ch
  | cons a l ih => exact (h s a).trans (ih (f s a))

end State.ActsAt

theorem State.byChan_actsAt (s : State) (ch : Ch) {f : Chan → Option Chan} (h : ∀ {d}, f (s.ch ch) = some d → (s.ch ch).Acts d) :
    s.ActsAt (s.byChan ch f).2 ch := by
  unfold State.byChan
  split
  · next d hd => exact .put (h hd)
  · exact .refl s ch

theorem State.rearm_actsAt {s t : State} {ch : Ch} {tag : Nat} (h : s.rearm ch tag = some t) : s.ActsAt t ch := by
  unfold State.rearm at h
  extract_lets mine u at h
  have hu : s.ActsAt u ch := .mod .same
  split at h
  · cases h
  · cases h
    split
    · exact hu
    · exact hu.trans ⟨fun _ _ => rfl, .refl _⟩

theorem Chan.clearRecorder_acts (c : Chan) : c.Acts c.clearRecorder := c.emit_acts _ _ _

theorem Chan.restoreFactory_acts (c : Chan) : c.Acts c.restoreFactory :=
  Chan.Acts.trans (c.writeCal_acts _) (Chan.emit_acts _ _ _ _)

theorem Chan.armed_acts {c d : Chan} {me : Ch} {now n : Nat} {ok : Bool} (h : c.exchArm now n = some (ok, d)) :
    c.Acts (if ok then (d.abandonXfer.getD d).armedAttempt me else d) := by
  have hd := Chan.exchArm_acts h
  split
  · refine hd.trans (Chan.Acts.trans ?_ ((Chan.abandonSource_acts _).trans (Chan.failAttempt_acts _ _ _)))
    cases hx : d.abandonXfer with
    | none => exact .refl d
    | some e => exact Chan.abandonXfer_acts hx
  · exact hd

theorem State.effect_actsAt (s : State) (ch : Ch) (opcode : Nat) (p : List Byte) (tag main cycle : Nat) :
    s.ActsAt (s.effect ch opcode p tag main cycle).2 ch := by
  unfold State.effect
  split
  · exact s.byChan_actsAt ch Chan.clearFault_acts
  · exact s.byChan_actsAt ch Chan.clearLockout_acts
  · split
    · next t h => exact State.rearm_actsAt h
    · exact .refl s ch
  · exact s.byChan_actsAt ch Chan.isolateGate_acts
  · exact s.byChan_actsAt ch Chan.resetPlunger_acts
  · exact .mod (Chan.allowReint_acts _ _ _)
  · split
    · next h => exact .put (Chan.armed_acts h)
    · exact .refl s ch
  · exact s.byChan_actsAt ch Chan.armSwitchover_acts
  · exact .mod (Chan.clearRecorder_acts _)
  · exact .mod (Chan.restoreFactory_acts _)
  · exact s.byChan_actsAt ch Chan.exchAbort_acts
  · exact s.byChan_actsAt ch Chan.resetGate_acts
  · exact s.byChan_actsAt ch Chan.endIsolation_acts
  · exact s.byChan_actsAt ch Chan.serviceGate_acts
  · exact .mod (f := fun c => c.calWrite ch p) (Chan.calWrite_acts _ _ _)
  · exact s.byChan_actsAt ch Chan.resync_acts
  · exact s.byChan_actsAt ch Chan.abandonXfer_acts
  · exact .refl s ch

theorem State.applyEffect_actsAt (s : State) (ch : Ch) (main offset : Nat) (e : Agreed) :
    s.ActsAt (s.applyEffect ch main offset e) ch := by
  unfold State.applyEffect
  dsimp only
  refine (s.effect_actsAt ch e.opcode e.params e.tag main _).trans (.mod ?_)
  exact Chan.Acts.trans .same (Chan.modTask_acts _ _ _)

theorem State.applyEffects_actsAt (s : State) (ch : Ch) (main offset : Nat) (starting due : List Nat) :
    s.ActsAt (s.applyEffects ch main offset starting due) ch := by
  unfold State.applyEffects
  exact State.ActsAt.trans (.mod .same) (.foldl (fun s e => s.applyEffect_actsAt ch main offset e) _ _)

/-! ### Switches and held releases (R128 to R130, R149 to R153) -/

theorem Chan.checkPrepared_acts (c : Chan) (main : Nat) : c.Acts (c.checkPrepared main) := by
  unfold Chan.checkPrepared
  split
  · exact c.exchTo_acts _ _ _ _
  · exact .refl c

theorem Chan.computeReact_acts (c : Chan) : c.Acts c.computeReact := by
  unfold Chan.computeReact
  split <;> exact .same

theorem Chan.switchImage_acts (c : Chan) (old new : Image) : c.Acts (c.switchImage old new) := by
  unfold Chan.switchImage
  extract_lets insts res doors voted tasks progs d b m k e
  have hd : c.Acts d := .foldl (f := Chan.rewriteSlot) (fun c i => .same) _ c
  have he : c.Acts e := by
    refine ⟨?_, hd.sent⟩
    show (d.clock, d.t1Clock, d.mainCycle, d.released, d.din, d.seals, tasks.length) = c.actView
    rw [hd.clock, hd.t1Clock, hd.mainCycle, hd.released, hd.din, hd.seals, show tasks.length = c.tasks.length from List.length_mapIdx]
    rfl
  exact he.trans (e.computeReact_acts.trans (Chan.exchTo_acts _ _ _ _ _))

theorem Chan.switchAtRelease_acts (c : Chan) (main : Nat) : c.Acts (c.switchAtRelease main) := by
  unfold Chan.switchAtRelease
  split
  · split
    · split
      · exact c.switchImage_acts _ _
      · exact c.exchTo_acts _ _ _ _
    · exact .refl c
  · exact .refl c

theorem Chan.reissue_acts (c : Chan) (me : Ch) (t cycle us : Nat) : c.Acts (c.reissue me t cycle us) := by
  unfold Chan.reissue
  dsimp only
  split
  · exact .refl c
  · exact (c.issue_writes _ _ _ _ _ _).acts

theorem Chan.heldRelease_acts (c : Chan) (me : Ch) (main offset t : Nat) : c.Acts (c.heldRelease me main offset t) := by
  unfold Chan.heldRelease
  extract_lets cycle us
  split
  · exact (c.modTask_acts _ _).trans (Chan.writeSafe_writes _ _ _ _ _).acts
  · split
    · exact (c.modTask_acts _ _).trans ((Chan.emitAt_acts _ _ _ _ _ _ _).trans (Chan.reissue_acts _ _ _ _ _))
    · exact (c.modTask_acts _ _).trans ((Chan.emitAt_acts _ _ _ _ _ _ _).trans (Chan.writeSafe_writes _ _ _ _ _).acts)

theorem Chan.latchTaskParams_acts (c : Chan) (main offset t : Nat) : c.Acts (c.latchTaskParams main offset t) :=
  Chan.Acts.trans .same (Chan.modTask_acts _ _ _)

theorem Chan.beginRun_acts (c : Chan) (main offset : Nat) (others : List (List Word)) (mains : List Nat) (t : Nat) :
    c.Acts (c.beginRun main offset others mains t) := Chan.Acts.trans .same (Chan.modTask_acts _ _ _)

theorem State.releaseTasks_actsAt (s : State) (ch : Ch) (main offset : Nat) : s.ActsAt (s.releaseTasks ch main offset) ch := by
  unfold State.releaseTasks
  extract_lets a c due starting others mains b d
  have ha : s.ActsAt a ch := by
    refine .mod ?_
    have hl : (s.ch ch).Acts
        ((((s.ch ch).releasedNow ch main offset).filter (s.ch ch).startsRun).foldl (fun c t => c.latchTaskParams main offset t)
          (s.ch ch)) := .foldl (fun c t => c.latchTaskParams_acts _ _ t) _ _
    dsimp only
    split
    · exact hl.trans ((Chan.checkPrepared_acts _ _).trans (Chan.switchAtRelease_acts _ _))
    · exact hl
  have hb : s.ActsAt b ch := ha.trans (.mod (.foldl (fun c t => c.heldRelease_acts _ _ _ t) _ _))
  have hd : s.ActsAt d ch := hb.trans (b.applyEffects_actsAt _ _ _ _ _)
  exact hd.trans (.mod (.foldl (fun c t => c.beginRun_acts _ _ _ _ t) _ _))

end Sys2Proof.Machine

/-! PROOFS. The decision on a run carried out (spec/06 R163 to R165, R173): the verdicts told, then the run complete, the channel out of
the vote, or the module shut down. -/

namespace Sys2Proof.Machine

open Sys2Proof

/-! ### The decision recorded (R165) -/

/-- A channel but for what deciding and telling of it change: the comparator's registers, reintegration, the links, the recorder. -/
def Chan.besideDecision (c : Chan) : Chan :=
  { c with
    vote := { (default : Vote) with inVote := c.vote.inVote, mode := c.vote.mode }
    reint := default, xout := [], xwait := [], recd := default }

theorem Chan.emit_besideDecision (c : Chan) (name : EvName) (obj : Nat) (data : List Word) :
    (c.emit name obj data).besideDecision = c.besideDecision := by
  rw [Chan.emit_eq]
  rfl

theorem Chan.judgeSkewFor_besideDecision (c : Chan) (me : Ch) (main : Nat) :
    (c.judgeSkewFor me main).besideDecision = c.besideDecision := by
  unfold Chan.judgeSkewFor Chan.judgeSkew
  split
  · split
    · dsimp only
      split
      · exact Chan.emit_besideDecision _ _ _ _
      · rfl
    · rfl
  · rfl

theorem Chan.xsend_besideDecision (c : Chan) (x : Ch) (msg : XMsg) : (c.xsend x msg).besideDecision = c.besideDecision := by
  unfold Chan.xsend
  split
  · rfl
  · split <;> rfl

theorem Chan.judgeAsSource_besideDecision (c : Chan) (own : TaskSet) : (c.judgeAsSource own).besideDecision = c.besideDecision := by
  unfold Chan.judgeAsSource
  split
  · split
    · rfl
    · split
      · split <;> rfl
      · unfold Chan.abandonSource Chan.endSource
        split
        · split
          · exact Chan.xsend_besideDecision _ _ _
          · exact Chan.xsend_besideDecision c _ _
        · rfl
  · rfl

theorem Chan.countCycle_besideDecision (c : Chan) (outcome : Nat) : (c.countCycle outcome).besideDecision = c.besideDecision := by
  unfold Chan.countCycle
  split
  · rfl
  · split <;> rfl

theorem Chan.noteNaming_besideDecision (c : Chan) (named : Option Ch) (code t cycle : Nat) :
    (c.noteNaming named code t cycle).besideDecision = c.besideDecision := by
  cases named <;> rfl

/-- The decision as the channel keeps it, before it tells its partners. -/
def Chan.noteDecision (c : Chan) (me : Ch) (own : TaskSet) (d : Decision) : Chan :=
  let t := own.task
  let named := namedBy me d.outcome d.resNext d.resPrev
  let code := if named == some me.next then d.resNext else d.resPrev
  let word := outcomeWord t own.taskCycle d.outcome d.resNext d.resPrev
  let v := c.verdictOf me t own.taskCycle d
  let c := c.noteNaming named code t own.taskCycle
  let c := c.setCuts me named
  let c := { c with
    vote := { (c.vote.used t own.taskCycle) with outcome := word, verdicts := c.vote.verdicts.set me (some v) } }
  if t == 1 then c.countCycle d.outcome else c

theorem Chan.recordDecision_eq (c : Chan) (me : Ch) (own : TaskSet) (d : Decision) :
    c.recordDecision me own d = (c.noteDecision me own d).xsendBoth me (.verdict (c.verdictOf me own.task own.taskCycle d)) := rfl

theorem Chan.noteDecision_besideDecision (c : Chan) (me : Ch) (own : TaskSet) (d : Decision) :
    (c.noteDecision me own d).besideDecision = c.besideDecision := by
  unfold Chan.noteDecision
  extract_lets t named code word v a b u e
  have ha : a.besideDecision = c.besideDecision := Chan.noteNaming_besideDecision _ _ _ _ _
  have he : e.besideDecision = c.besideDecision := ha
  split
  · exact (Chan.countCycle_besideDecision _ _).trans he
  · exact he

/-- The channel that has decided and told of it. -/
def Chan.told (c : Chan) (me : Ch) (own : TaskSet) : Chan :=
  let c := c.judgeSkewFor me own.mainCycle
  (c.judgeAsSource own).recordDecision me own (c.judge me own)

theorem Chan.told_besideDecision (c : Chan) (me : Ch) (own : TaskSet) : (c.told me own).besideDecision = c.besideDecision := by
  unfold Chan.told
  dsimp only
  rw [Chan.recordDecision_eq]
  exact (Chan.xsend_besideDecision _ _ _).trans ((Chan.xsend_besideDecision _ _ _).trans
    ((Chan.noteDecision_besideDecision _ _ _ _).trans
      ((Chan.judgeAsSource_besideDecision _ _).trans (Chan.judgeSkewFor_besideDecision _ _ _))))

/-- A transfer with a verdict of this decision. -/
def Chan.Tells (c : Chan) (dst : Ch) (own : TaskSet) (d : Decision) : Prop :=
  ∃ q ∈ c.xout, q.dst = dst ∧ ∃ v, q.msg = .verdict v ∧ v.outcome = d.outcome ∧ v.resNext = d.resNext ∧ v.resPrev = d.resPrev ∧
    v.task = own.task ∧ v.taskCycle = own.taskCycle

theorem Chan.Tells.mono {c e : Chan} {dst : Ch} {own : TaskSet} {d : Decision} (h : c.Tells dst own d)
    (hs : ∀ q ∈ c.xout, q ∈ e.xout) : e.Tells dst own d := by
  obtain ⟨q, hq, h⟩ := h
  exact ⟨q, hs q hq, h⟩

theorem Chan.told_tells {c : Chan} {me : Ch} {own : TaskSet} (hs : c.split = false) :
    (c.told me own).Tells me.next own ((c.judgeSkewFor me own.mainCycle).judge me own) ∧
      (c.told me own).Tells me.prev own ((c.judgeSkewFor me own.mainCycle).judge me own) := by
  unfold Chan.told
  extract_lets e
  have hsplit : ((e.judgeAsSource own).noteDecision me own (e.judge me own)).split = false := by
    have h := (Chan.noteDecision_besideDecision _ me own (e.judge me own)).trans
      ((Chan.judgeAsSource_besideDecision e own).trans (Chan.judgeSkewFor_besideDecision c me own.mainCycle))
    exact (congrArg (fun (x : Chan) => x.split) h :).trans hs
  rw [Chan.recordDecision_eq]
  obtain ⟨⟨q, hq, hd, hm⟩, ⟨q', hq', hd', hm'⟩⟩ := Chan.xsendBoth_reaches me hsplit (msg := .verdict
    ((e.judgeAsSource own).verdictOf me own.task own.taskCycle (e.judge me own))) rfl
  exact ⟨⟨q, hq, hd, _, hm, rfl, rfl, rfl, rfl, rfl⟩, ⟨q', hq', hd', _, hm', rfl, rfl, rfl, rfl, rfl⟩⟩

/-! ### The module shut down (R173) -/

theorem Chan.toSafe_opens {c : Chan} {me : Ch} {cause : Nat} (h : c.vote.mode ≠ 3) :
    (c.toSafe me cause).dout.high = 0 ∧ (c.toSafe me cause).dout.lowSide = 0 := by
  unfold Chan.toSafe
  rw [if_neg (by simpa using h)]
  rw [Chan.emit_eq]
  exact ⟨rfl, rfl⟩

/-- What a safe shutdown leaves in its channel, and at the Hedgehog. -/
theorem State.safeShutdown_shuts {s : State} {ch : Ch} {cause : Nat} (h : (s.ch ch).vote.mode ≠ 3) :
    ((s.safeShutdown ch cause).ch ch).vote.mode = 3 ∧ ((s.safeShutdown ch cause).ch ch).dout.high = 0 ∧
      ((s.safeShutdown ch cause).ch ch).dout.lowSide = 0 ∧ (s.safeShutdown ch cause).hedgehog.copy1 = true ∧
      (s.safeShutdown ch cause).hedgehog.copy2 = true ∧ ((s.safeShutdown ch cause).ch ch).xout = (s.ch ch).xout := by
  unfold State.safeShutdown
  extract_lets t
  have ht : t.ch ch = (s.ch ch).toSafe ch cause := State.mod_ch _ _ _
  have hset : (t.ch ch).Settles ((((t.setAlive ch false).settle cause).trip .command).ch ch) :=
    ((t.setAlive_false_settles ch).1.trans ((State.settle_settles _ _).trans (State.trip_settles _ _))) ch
  obtain ⟨hsafe, hmode⟩ := (s.ch ch).toSafe_settles ch cause
  obtain ⟨hhigh, hlow⟩ := Chan.toSafe_opens (me := ch) (cause := cause) h
  rw [ht] at hset
  refine ⟨hset.mode hmode, hset.high hhigh, hset.lowSide hlow, ?_, ?_, hset.xout.trans hsafe.xout⟩
  · rw [State.trip_hedgehog]
    rfl
  · rw [State.trip_hedgehog]
    rfl

/-! ### The run complete (R123, R166, R309) -/

theorem Chan.startImage_acts (c : Chan) (v : Variant) : c.Acts (c.startImage v) := by
  unfold Chan.startImage
  split <;> exact .same

theorem Chan.loseSync_acts (c : Chan) (v : Variant) (cause : Nat) : c.Acts (c.loseSync v cause) := by
  unfold Chan.loseSync
  split
  · have hf : c.Acts c.forgetRuns := .same (by
      unfold Chan.actView
      rw [show c.forgetRuns.tasks.length = c.tasks.length from List.length_map _]
      rfl)
    exact hf.trans ((Chan.startImage_acts _ _).trans (Chan.Acts.trans .same (Chan.emit_acts _ _ _ _)))
  · exact .refl c

theorem Chan.verifyRuns_acts (c : Chan) (v : Variant) : c.Acts (c.verifyRuns v) := by
  unfold Chan.verifyRuns
  split
  · exact c.loseSync_acts _ _
  · exact .same

theorem Chan.completeRun_sent (c : Chan) (me : Ch) (v : Variant) (own : TaskSet) (us : Nat) :
    ∀ q ∈ c.xout, q ∈ (c.completeRun me v own us).xout := by
  obtain ⟨d, hd, heq⟩ := c.completeRun_closes me v own us
  intro q hq
  rw [heq]
  have hq' : q ∈ d.xout := hd.sent q hq
  split
  · exact hq'
  · exact (Chan.verifyRuns_acts _ v).sent q hq'

/-- A channel but for the comparator's registers. -/
def Chan.besideNaming (c : Chan) : Chan := { c with vote := default }

theorem Chan.countNaming_besideNaming (c : Chan) (v : Verdict) : (c.countNaming v).besideNaming = c.besideNaming := by
  unfold Chan.countNaming
  split
  · dsimp only
    split
    · split <;> rfl
    · rfl
  · rfl

theorem Chan.loseChannel_besideNaming (c : Chan) (x : Ch) : (c.loseChannel x).besideNaming = c.besideNaming := by
  unfold Chan.loseChannel
  split <;> rfl

theorem Chan.settleVerdicts_besideNaming (c : Chan) (me : Ch) (v : Verdict) : (c.settleVerdicts me v).besideNaming = c.besideNaming := by
  unfold Chan.settleVerdicts
  split
  · exact c.countNaming_besideNaming v
  · split
    · split
      · exact c.loseChannel_besideNaming _
      · exact c.countNaming_besideNaming v
    · exact c.countNaming_besideNaming v

theorem Chan.settleVerdicts_xout (c : Chan) (me : Ch) (v : Verdict) : (c.settleVerdicts me v).xout = c.xout :=
  (congrArg (fun (x : Chan) => x.xout) (c.settleVerdicts_besideNaming me v) :)

theorem Chan.settleVerdicts_tasks (c : Chan) (me : Ch) (v : Verdict) : (c.settleVerdicts me v).tasks = c.tasks :=
  (congrArg (fun (x : Chan) => x.tasks) (c.settleVerdicts_besideNaming me v) :)

theorem Chan.settleVerdicts_part (c : Chan) (me : Ch) (v : Verdict) : (c.settleVerdicts me v).part = c.part :=
  (congrArg (fun (x : Chan) => x.part) (c.settleVerdicts_besideNaming me v) :)

theorem Chan.writeRin_xout (c : Chan) : c.writeRin.xout = c.xout := by
  unfold Chan.writeRin
  split
  · rfl
  · exact foldl_view (g := Chan.xout) (f := Chan.rewriteSlot) (fun _ _ => rfl) _ c

theorem State.replayNext_sent (s : State) (ch : Ch) : ∀ q ∈ (s.ch ch).xout, q ∈ ((s.replayNext ch).ch ch).xout := by
  unfold State.replayNext
  extract_lets c
  split
  · next r _ _ =>
    extract_lets a b
    have ha : s.ActsAt a ch := by
      refine .mod ?_
      dsimp only
      split
      · exact Chan.Acts.trans .same ((Chan.checkPrepared_acts _ _).trans (Chan.switchAtRelease_acts _ _))
      · exact .same
    have hb : s.ActsAt b ch := ha.trans (.foldl (fun s e => s.effect_actsAt ch _ _ _ _ _) _ a)
    intro q hq
    rw [State.mod_ch]
    split
    · rw [Chan.writeRin_xout]
      exact hb.acts.sent q hq
    · exact hb.acts.sent q hq
  · exact fun q hq => hq

theorem State.replayNext_of_active {s : State} {ch : Ch} (h : (s.ch ch).part.role = 1) : s.replayNext ch = s := by
  unfold State.replayNext Chan.follows
  dsimp only
  rw [show ((s.ch ch).part.role == 2) = false by rw [h]; rfl]
  split
  · next h => exact absurd h (by simp)
  · rfl

/-! ### The decision as a whole -/

section

variable {s : State} {ch : Ch} {n us : Nat} {own : TaskSet}

/-- The module once the channel has decided and told of it. -/
def State.toldAt (s : State) (ch : Ch) (own : TaskSet) : State := s.put ch ((s.ch ch).told ch own)

theorem exec_voteDecision (hv : (s.ch ch).vital ch = true) (hp : (s.ch ch).reint.phase ≠ 4) (hr : ((s.ch ch).task n).running = true)
    (hs : ((s.ch ch).task n).sent = true) (ho : ((s.ch ch).task n).own = some own) :
    exec (.voteDecision ch n us) s =
      .next ((s.mod ch (fun c => c.judgeSkewFor ch own.mainCycle)).carryOut ch own
        (((s.ch ch).judgeSkewFor ch own.mainCycle).judge ch own) us) := by
  show execVoteDecision ch n us s = _
  unfold execVoteDecision
  simp only [hv, hr, hs, ho, Bool.and_self]
  rw [if_neg (by simpa using hp), State.mod_ch]

theorem State.carryOut_told (s : State) (ch : Ch) (own : TaskSet) :
    (s.mod ch (fun c => c.judgeSkewFor ch own.mainCycle)).mod ch (fun c => (c.judgeAsSource own).recordDecision ch own
      (((s.ch ch).judgeSkewFor ch own.mainCycle).judge ch own)) = s.toldAt ch own := by
  rw [State.mod_mod]
  rfl

theorem State.carryOut_shuts {d : Decision} (hd : d = ((s.ch ch).judgeSkewFor ch own.mainCycle).judge ch own) (h : d.outcome = 6) :
    (s.mod ch (fun c => c.judgeSkewFor ch own.mainCycle)).carryOut ch own d us = (s.toldAt ch own).safeShutdown ch 6 := by
  unfold State.carryOut
  dsimp only
  rw [if_pos (beq_iff_eq.mpr h), hd, State.carryOut_told]

theorem State.carryOut_excludes {d : Decision} (hd : d = ((s.ch ch).judgeSkewFor ch own.mainCycle).judge ch own)
    (h : d.outcome = 2 ∨ d.outcome = 3) :
    (s.mod ch (fun c => c.judgeSkewFor ch own.mainCycle)).carryOut ch own d us =
      (s.toldAt ch own).exclude ch own.task own.taskCycle d.outcome := by
  unfold State.carryOut
  dsimp only
  rw [if_neg (by rcases h with h | h <;> simp [h]), if_pos (by simpa using h), hd, State.carryOut_told]

theorem State.carryOut_completes {d : Decision} (hd : d = ((s.ch ch).judgeSkewFor ch own.mainCycle).judge ch own)
    (h6 : d.outcome ≠ 6) (h2 : d.outcome ≠ 2) (h3 : d.outcome ≠ 3) :
    ∃ v, (s.mod ch (fun c => c.judgeSkewFor ch own.mainCycle)).carryOut ch own d us =
      ((s.toldAt ch own).mod ch
        (fun c => (c.completeRun ch (s.toldAt ch own).factory.variant own us).settleVerdicts ch v)).replayNext ch := by
  refine ⟨((s.ch ch).judgeSkewFor ch own.mainCycle).verdictOf ch own.task own.taskCycle d, ?_⟩
  unfold State.carryOut
  dsimp only
  rw [if_neg (by simpa using h6), if_neg (by simp [h2, h3]), hd, State.carryOut_told, State.mod_ch]

end

theorem Chan.votes_of_vital {c : Chan} {me : Ch} (hv : c.vital me = true) (hs : c.split = false) (hp : c.reint.phase ≠ 4) :
    c.running = true ∧ c.votes me = true ∧ c.vote.mode ≠ 3 := by
  simp only [Chan.vital, Bool.and_eq_true, Bool.or_eq_true, Bool.not_eq_true', Chan.statusOnly, Bool.or_eq_false_iff,
    beq_eq_false_iff_ne, hs, beq_iff_eq, hp, or_false, Bool.false_eq_true, false_or] at hv
  obtain ⟨⟨⟨hrun, ⟨-, hmode⟩, -⟩, -⟩, hvotes⟩ := hv
  exact ⟨hrun, hvotes, hmode⟩

/-- Settles O28: the channel that has told of its decision, then what the outcome makes of it. -/
theorem voteDecisionActs : Obligations.VoteDecisionActs := by
  unfold Obligations.VoteDecisionActs
  intro s ch n us own hv hsp hp hl hn hr hs ho hon c d
  subst hon
  obtain ⟨hrun, hvotes, hmode⟩ := Chan.votes_of_vital hv hsp hp
  have hexec := exec_voteDecision (us := us) hv hp hr hs ho
  have htold : (s.toldAt ch own).ch ch = (s.ch ch).told ch own := State.put_ch _ _ _
  have hb := (s.ch ch).told_besideDecision ch own
  have hrun' : ((s.toldAt ch own).ch ch).running = true := by
    rw [htold]; exact (congrArg (fun (x : Chan) => x.running) hb :).trans hrun
  have hvotes' : ((s.toldAt ch own).ch ch).votes ch = true := by
    rw [htold]; exact (congrArg (fun (x : Chan) => x.votes ch) hb :).trans hvotes
  have hmode' : ((s.toldAt ch own).ch ch).vote.mode ≠ 3 := by
    rw [htold, show ((s.ch ch).told ch own).vote.mode = (s.ch ch).vote.mode from (congrArg (fun (x : Chan) => x.vote.mode) hb :)]
    exact hmode
  have htasks : ((s.toldAt ch own).ch ch).tasks = (s.ch ch).tasks := by
    rw [htold]; exact (congrArg (fun (x : Chan) => x.tasks) hb :)
  have hpart : ((s.toldAt ch own).ch ch).part = (s.ch ch).part := by
    rw [htold]; exact (congrArg (fun (x : Chan) => x.part) hb :)
  have hcpart : c.part = (s.ch ch).part :=
    (congrArg (fun (x : Chan) => x.part) ((s.ch ch).judgeSkewFor_besideDecision ch own.mainCycle) :)
  obtain ⟨hnext, hprev⟩ := Chan.told_tells (me := ch) (own := own) hsp
  rw [← htold] at hnext hprev
  have gone (h : d.outcome = 2 ∨ d.outcome = 3) :
      ((s.toldAt ch own).ch ch).Gone (((s.toldAt ch own).exclude ch own.task own.taskCycle d.outcome).ch ch) ch d.outcome :=
    (State.exclude_gone hrun' hvotes' _ _ _).1
  refine ⟨?_, fun h hrole hback => ?_, fun h => ?_, fun h => ?_⟩
  · have told {t : State} (ht : ∀ q ∈ ((s.toldAt ch own).ch ch).xout, q ∈ (t.ch ch).xout) :
        (t.ch ch).Tells ch.next own d ∧ (t.ch ch).Tells ch.prev own d := ⟨hnext.mono ht, hprev.mono ht⟩
    by_cases h6 : d.outcome = 6
    · rw [State.carryOut_shuts rfl h6] at hexec
      exact ⟨_, hexec, told fun q hq => by
        obtain ⟨-, -, -, -, -, hx⟩ := State.safeShutdown_shuts (cause := 6) hmode'
        rwa [hx]⟩
    · by_cases h23 : d.outcome = 2 ∨ d.outcome = 3
      · rw [State.carryOut_excludes rfl h23] at hexec
        exact ⟨_, hexec, told (gone h23).sent⟩
      · obtain ⟨h2, h3⟩ := not_or.mp h23
        obtain ⟨v, hc⟩ := State.carryOut_completes (s := s) (ch := ch) (us := us) (own := own) rfl h6 h2 h3
        rw [hc] at hexec
        refine ⟨_, hexec, told fun q hq => State.replayNext_sent _ _ q ?_⟩
        rw [State.mod_ch, Chan.settleVerdicts_xout]
        exact Chan.completeRun_sent _ _ _ _ _ q hq
  · obtain ⟨v, hc⟩ := State.carryOut_completes (s := s) (ch := ch) (us := us) (own := own) rfl
      (by rcases h with h | h | h <;> rw [h] <;> decide) (by rcases h with h | h | h <;> rw [h] <;> decide)
      (by rcases h with h | h | h <;> rw [h] <;> decide)
    rw [hc] at hexec
    have hgoes := Chan.completeRun_goes (c := (s.toldAt ch own).ch ch) ch (s.toldAt ch own).factory.variant own us (by rw [hpart, ← hcpart, hback])
    rw [State.replayNext_of_active] at hexec
    · refine ⟨_, hexec, ?_⟩
      have htask : (((((s.toldAt ch own).ch ch).completeRun ch (s.toldAt ch own).factory.variant own us).settleVerdicts ch v).task
          own.task) = ((s.ch ch).task own.task).completed own us := by
        rw [Chan.task, Chan.settleVerdicts_tasks, hgoes.tasks]
        refine (Chan.modTask_task_self (fun k => TaskState.completed k own us) (by rw [htasks, hl]; exact hn)).trans ?_
        rw [Chan.task, htasks, Chan.task]
      rw [State.mod_ch, htask]
      exact ⟨rfl, rfl, rfl⟩
    · rw [State.mod_ch, Chan.settleVerdicts_part]
      exact hgoes.role.trans ((congrArg Part.role (hpart.trans hcpart.symm)).trans hrole)
  · rw [State.carryOut_excludes rfl h] at hexec
    exact ⟨_, hexec, (gone h).out, (gone h).high, (gone h).lowSide, (gone h).silent⟩
  · rw [State.carryOut_shuts rfl h] at hexec
    obtain ⟨hm, hh, hlo, h1, h2, -⟩ := State.safeShutdown_shuts (cause := 6) hmode'
    exact ⟨_, hexec, hm, hh, hlo, h1, h2⟩

end Sys2Proof.Machine

/-! PROOFS. A release instant as a whole (spec/01 R23, spec/02 R49, spec/05 R123, spec/07 R185): what it numbers, the sets it sends, and the
runs it starts. -/

namespace Sys2Proof.Machine

open Sys2Proof

/-! ### A seal change acted on (R49) -/

/-- The channel that a seal change has taken out, before the module settles. -/
structure Chan.SealedOff (d : Chan) : Prop where
  acted : d.seals.acted = true
  barred : d.reint.barred = true
  high : d.dout.high = 0
  lowSide : d.dout.lowSide = 0

/-- What a seal change leaves in its channel, and at the Hedgehog. -/
theorem State.actOnSeal_off (s : State) (ch : Ch) :
    ((s.actOnSeal ch).ch ch).SealedOff ∧ ((s.actOnSeal ch).ch ch).safe.alive = false ∧
      (s.actOnSeal ch).hedgehog.copy1 = true ∧ (s.actOnSeal ch).hedgehog.copy2 = true ∧ ((s.actOnSeal ch).ch ch).votes ch = false := by
  unfold State.actOnSeal
  extract_lets a b d
  have hb : (b.ch ch).SealedOff := by
    dsimp only [b, a]
    rw [State.mod_ch, State.mod_ch]
    exact ⟨rfl, rfl, rfl, rfl⟩
  have hd : (d.ch ch).SealedOff ∧ (d.ch ch).votes ch = false := by
    dsimp only [d]
    split
    · rw [State.mod_ch]
      have h := (b.ch ch).leave_hasLeft ch 0 ((b.ch ch).task 0).cycle causeSeal
      exact ⟨⟨(congrArg (fun (x : Chan) => x.seals.acted) h.beside :).trans hb.acted, h.barred.trans hb.barred, h.high, h.lowSide⟩, h.out⟩
    · next h => exact ⟨hb, by simpa using h⟩
  obtain ⟨hoff, hvotes⟩ := hd
  obtain ⟨hset, hsilent⟩ := d.setAlive_false_settles ch
  have hrest : ((d.setAlive ch false).ch ch).Settles ((((d.setAlive ch false).settle causeSeal).trip .command).ch ch) :=
    ((State.settle_settles _ _).trans (State.trip_settles _ _)) ch
  have hall := (hset ch).trans hrest
  refine ⟨⟨?_, ?_, hall.high hoff.high, hall.lowSide hoff.lowSide⟩, hrest.silent hsilent, ?_, ?_, (hall.votes ch).trans hvotes⟩
  · rw [hall.seals]; exact hoff.acted
  · rw [hall.reint]; exact hoff.barred
  · rw [State.trip_hedgehog]; rfl
  · rw [State.trip_hedgehog]; rfl

/-! ### A T1 release begins its cycle (R23, R177, R306, R315) -/

theorem Chan.judgeSkew_acts (c : Chan) (me : Ch) : c.Acts (c.judgeSkew me) := by
  unfold Chan.judgeSkew
  split
  · dsimp only
    split
    · exact Chan.Acts.trans .same (Chan.emit_acts _ _ _ _)
    · exact .same
  · exact .refl c

theorem Chan.takeEarly_acts (c : Chan) (me : Ch) (early : Tri (Option (Nat × Int))) (x : Ch) : c.Acts (c.takeEarly me early x) := by
  unfold Chan.takeEarly
  split
  · split
    · unfold Chan.takeOffset
      dsimp only
      split
      · exact Chan.Acts.trans .same (Chan.judgeSkew_acts _ _)
      · exact .same
    · exact .refl c
  · exact .refl c

/-- The channel at the T1 release of a main cycle, its numbers taken. -/
def Chan.atMain (c : Chan) (main now : Nat) : Chan := { c with mainCycle := main, released := true, t1Clock := now }

theorem Chan.beginCycle_acts (c : Chan) (me : Ch) (main now : Nat) (waits : Nat × Nat) :
    (c.atMain main now).Acts (c.beginCycle me main now waits) := by
  unfold Chan.beginCycle
  extract_lets early p v d e
  have hd : (c.atMain main now).Acts d := .same
  have he : d.Acts e := .foldl (fun c x => c.takeEarly_acts me early x) _ d
  exact hd.trans (he.trans ((e.xsend_acts _ _).trans (Chan.xsend_acts _ _ _)))

theorem Chan.sendClaimTo_acts (c : Chan) (me : Ch) (node : Nat) (block : List Byte) : c.Acts (c.sendClaimTo me node block) := by
  unfold Chan.sendClaimTo
  split
  · exact .refl c
  · exact .foldl (fun c e => (c.sendFrame_writes _ _ _ _ _).acts) _ c

theorem Chan.takeHandover_acts (c : Chan) (me : Ch) : c.Acts (c.takeHandover me) := by
  unfold Chan.takeHandover Chan.sendClaim
  have he : c.Acts (c.enterActive 2) := Chan.Acts.trans .same (Chan.emit_acts _ _ _ _)
  exact he.trans (Chan.Acts.trans .same (.foldl (fun c e => c.sendClaimTo_acts _ _ _) _ _))

theorem Chan.atSwitchover_acts (c : Chan) (me : Ch) (main : Nat) : c.Acts (c.atSwitchover me main) := by
  unfold Chan.atSwitchover
  split
  · split
    · exact .same
    · exact Chan.Acts.trans .same (Chan.emit_acts _ _ _ _)
  · split
    · exact c.takeHandover_acts me
    · exact .refl c

theorem Chan.joinSelf_acts (c : Chan) (me : Ch) : c.Acts (c.joinSelf me) := Chan.Acts.trans .same (Chan.emit_acts _ _ _ _)

theorem State.setAlive_true_actsAt (s : State) (ch : Ch) : s.ActsAt (s.setAlive ch true) ch := by
  unfold State.setAlive
  rw [if_neg (by simp)]
  exact .mod .same

theorem State.joinAtRelease_actsAt (s : State) (ch : Ch) (main : Nat) : s.ActsAt (s.joinAtRelease ch main) ch := by
  unfold State.joinAtRelease
  dsimp only
  split
  · exact .refl s ch
  · split
    · split
      · exact .mod .same
      · split
        · exact State.ActsAt.trans (.mod (Chan.joinSelf_acts _ _)) (State.setAlive_true_actsAt _ _)
        · exact .refl s ch
    · exact .refl s ch

theorem Chan.flushPages_acts (c : Chan) : c.Acts c.flushPages := by
  unfold Chan.flushPages
  split
  · exact .refl c
  · next x _ =>
    split
    · exact .refl c
    · extract_lets ns r d
      exact Chan.Acts.trans (d := d) .same (.foldl (fun c n => c.xsend_acts x _) _ d)

theorem Chan.sendJoin_acts (c : Chan) (x : Ch) (main : Nat) : c.Acts (c.sendJoin x main) :=
  c.flushPages_acts.trans .same

theorem State.finalStep_actsAt (s : State) (ch : Ch) (main : Nat) : s.ActsAt (s.finalStep ch main) ch := by
  unfold State.finalStep
  dsimp only
  split
  · split
    · exact .mod (Chan.sendJoin_acts _ _ _)
    · exact .refl s ch
  · exact .refl s ch

theorem Chan.flushXfers_acts (c : Chan) : c.Acts c.flushXfers := by
  unfold Chan.flushXfers
  split
  · split
    · exact .refl c
    · have hd : c.Acts { c with part := { c.part with sending := some [] } } := .same
      exact hd.trans (.foldl (f := Chan.sendXfer) (fun c n => c.psend_acts _) _ _)
  · exact .refl c

theorem Chan.finalTransfer_acts (c : Chan) (me : Ch) (main : Nat) : c.Acts (c.finalTransfer me main) := by
  unfold Chan.finalTransfer
  split
  · split
    · exact c.flushXfers_acts.trans .same
    · exact .same
  · exact .refl c

theorem Chan.askAgain_acts (c : Chan) (me : Ch) : c.Acts (c.askAgain me) := by
  unfold Chan.askAgain
  split
  · exact .refl c
  · exact Chan.Acts.trans .same (Chan.xsendBoth_acts _ _ _)

/-- A T1 release takes the cycle's numbers; all else that it begins leaves them alone. -/
theorem State.beginMain_begins (s : State) (ch : Ch) (main now : Nat) :
    (∀ x, x ≠ ch → (s.beginMain ch main now).ch x = s.ch x) ∧
      ((s.ch ch).atMain main now).Acts ((s.beginMain ch main now).ch ch) := by
  unfold State.beginMain
  extract_lets waits a
  have ha : ((s.ch ch).atMain main now).Acts (a.ch ch) := by
    dsimp only [a]
    rw [State.mod_ch]
    exact (Chan.beginCycle_acts _ _ _ _ _).trans (Chan.atSwitchover_acts _ _ _)
  have hothers : ∀ x, x ≠ ch → a.ch x = s.ch x := fun x hx => State.mod_ch_ne _ _ hx
  have hrest := ((a.joinAtRelease_actsAt ch main).trans (State.finalStep_actsAt _ ch main)).trans
    (State.ActsAt.mod (f := fun c => (c.finalTransfer ch main).askAgain ch)
      ((Chan.finalTransfer_acts _ _ _).trans (Chan.askAgain_acts _ _)))
  exact ⟨fun x hx => (hrest.others x hx).trans (hothers x hx), ha.trans hrest.acts⟩

/-! ### The sets of the instant (R185, R271, R385) -/

/-- The channel with its sets kept, before it sends them. -/
def Chan.formSets (c : Chan) (me : Ch) (main offset : Nat) (warn : BitVec 4) : Chan :=
  let c := { c with host := c.host.list }
  let i := c.inputSet me main offset warn
  let r := c.remoteSet me main offset
  let k := c.commandSet me main offset
  let d := c.din
  { c with
    din :=
      { d with
        openInstant := true, mainCycle := main, offset := offset
        sets := pruned main offset (fun t => (t.mainCycle, t.offset)) d.sets me (some i)
        remoteSets := pruned main offset (fun t => (t.mainCycle, t.offset)) d.remoteSets me (some r)
        cmdSets := pruned main offset (fun t => (t.mainCycle, t.offset)) d.cmdSets me (some k) } }

section

variable {c : Chan} {me : Ch} {main offset : Nat} {warn : BitVec 4}

/-- The set that this channel sends for its inputs. -/
def Chan.ownInputSet (c : Chan) (me : Ch) (main offset : Nat) (warn : BitVec 4) : InputSet := c.inputSet me main offset warn

theorem Chan.sendSets_acts : (c.formSets me main offset warn).Acts (c.sendSets me main offset warn) := by
  unfold Chan.sendSets
  exact ((Chan.xsendBoth_acts _ _ _).trans ((Chan.xsendBoth_acts _ _ _).trans (Chan.xsendBoth_acts _ _ _))).trans .same

theorem Chan.sendSets_tasks : (c.sendSets me main offset warn).tasks = c.tasks := by
  simp [Chan.sendSets]

/-- The own input set goes to both partners. -/
theorem Chan.sendSets_reaches (h : c.split = false) :
    (∃ q ∈ (c.sendSets me main offset warn).xout, q.dst = me.next ∧ q.msg = .vote (.input (c.ownInputSet me main offset warn))) ∧
      (∃ q ∈ (c.sendSets me main offset warn).xout, q.dst = me.prev ∧ q.msg = .vote (.input (c.ownInputSet me main offset warn))) := by
  have hs : (c.formSets me main offset warn).split = false := h
  obtain ⟨⟨q, hq, hd⟩, ⟨q', hq', hd'⟩⟩ := Chan.xsendBoth_reaches me hs (msg := .vote (.input (c.ownInputSet me main offset warn))) rfl
  have hsent : ∀ q ∈ ((c.formSets me main offset warn).xsendBoth me (.vote (.input (c.ownInputSet me main offset warn)))).xout,
      q ∈ (c.sendSets me main offset warn).xout := fun q hq => Chan.xsendBoth_sent _ _ _ q (Chan.xsendBoth_sent _ _ _ q hq)
  exact ⟨⟨q, hsent q hq, hd⟩, ⟨q', hsent q' hq', hd'⟩⟩

theorem pruned_own {α : Type} (at_ : α → Nat × Nat) (t : Tri (Option α)) (own : Option α) :
    (pruned main offset at_ t me own).get me = own := Tri.get_set_self _ _ _

end

/-! ### The runs that an instant starts (R123, R131) -/

/-- A task as the choice of the runs sees it. -/
def TaskState.choice (k : TaskState) : TaskState := { (default : TaskState) with fault := k.fault, running := k.running }

/-- What the choice of the runs depends on: the image, whether the unit runs them, and which are faulted or under way. -/
def Chan.choice (c : Chan) : Chan :=
  { (default : Chan) with
    image := c.image, boot := c.boot, supply := c.supply, seals := c.seals
    vote := { (default : Vote) with inVote := c.vote.inVote, mode := c.vote.mode }
    reint := { (default : Reint) with phase := c.reint.phase }
    part := { (default : Part) with role := c.part.role, handover := c.part.handover, switchAt := c.part.switchAt }
    blocks := { (default : Blocks) with exch := c.blocks.exch }
    tasks := c.tasks.map TaskState.choice }

theorem Chan.choice_task (c : Chan) (n : Nat) : c.choice.task n = (c.task n).choice :=
  List.getD_map c.tasks default TaskState.choice

section

variable {c d : Chan} {me : Ch} {main offset : Nat}

theorem Chan.releasedNow_of_choice (h : d.choice = c.choice) : d.releasedNow me main offset = c.releasedNow me main offset :=
  (congrArg (fun (x : Chan) => x.releasedNow me main offset) h :)

theorem Chan.startsRun_of_choice (h : d.choice = c.choice) (n : Nat) : d.startsRun n = c.startsRun n := by
  have hs (x : Chan) : x.startsRun n = x.choice.startsRun n := by
    unfold Chan.startsRun
    rw [Chan.choice_task]
    rfl
  rw [hs, h, ← hs]

theorem Chan.emit_choice (c : Chan) (name : EvName) (obj : Nat) (data : List Word) : (c.emit name obj data).choice = c.choice := by
  rw [Chan.emit_eq]
  rfl

theorem Chan.xsend_choice (c : Chan) (x : Ch) (msg : XMsg) : (c.xsend x msg).choice = c.choice := by
  unfold Chan.xsend
  split
  · rfl
  · split <;> rfl

theorem Chan.psend_choice (c : Chan) (msg : PMsg) : (c.psend msg).choice = c.choice := by
  unfold Chan.psend Chan.pwaitFor
  split
  · rfl
  · split <;> rfl

theorem Chan.takeEarly_choice (c : Chan) (me : Ch) (early : Tri (Option (Nat × Int))) (x : Ch) :
    (c.takeEarly me early x).choice = c.choice ∧ (c.takeEarly me early x).reint = c.reint := by
  unfold Chan.takeEarly
  split
  · split
    · unfold Chan.takeOffset
      dsimp only
      split
      · unfold Chan.judgeSkew
        split
        · dsimp only
          split
          · exact ⟨Chan.emit_choice _ _ _ _, by rw [Chan.emit_eq]⟩
          · exact ⟨rfl, rfl⟩
        · exact ⟨rfl, rfl⟩
      · exact ⟨rfl, rfl⟩
    · exact ⟨rfl, rfl⟩
  · exact ⟨rfl, rfl⟩

theorem Chan.beginCycle_choice (c : Chan) (me : Ch) (main now : Nat) (waits : Nat × Nat) :
    (c.beginCycle me main now waits).choice = c.choice ∧ (c.beginCycle me main now waits).reint = c.reint := by
  unfold Chan.beginCycle
  extract_lets early p v d e
  have he : e.choice = c.choice ∧ e.reint = c.reint :=
    ⟨foldl_view (g := Chan.choice) (fun c x => (c.takeEarly_choice me early x).1) _ d,
      foldl_view (g := Chan.reint) (fun c x => (c.takeEarly_choice me early x).2) _ d⟩
  obtain ⟨hc, hr⟩ := he
  exact ⟨(Chan.xsend_choice _ _ _).trans ((Chan.xsend_choice _ _ _).trans hc),
    (Chan.xsend_reint _ _ _).trans ((Chan.xsend_reint _ _ _).trans hr)⟩

/-- Where no switchover is due the release takes none. -/
theorem Chan.atSwitchover_same (h : c.part.switchAt = 0) : c.atSwitchover me main = c := by
  unfold Chan.atSwitchover
  have hno : (c.part.switchAt == main && main != 0) = false := by
    rw [h]
    cases main with
    | zero => rfl
    | succ n => rfl
  rw [if_neg (by rw [Bool.and_assoc, hno, Bool.and_false]; decide),
    if_neg (by rw [Bool.and_assoc (c.part.role == 2), hno, Bool.and_false]; simp)]

theorem Chan.flushPages_choice (c : Chan) : c.flushPages.choice = c.choice := by
  unfold Chan.flushPages
  split
  · rfl
  · next x _ =>
    split
    · rfl
    · extract_lets ns r d
      exact foldl_view (g := Chan.choice) (fun c n => c.xsend_choice x _) _ d

theorem Chan.flushXfers_choice (c : Chan) : c.flushXfers.choice = c.choice := by
  unfold Chan.flushXfers
  split
  · next ps _ =>
    split
    · rfl
    · exact foldl_view (g := Chan.choice) (f := Chan.sendXfer) (fun c n => c.psend_choice _) ps
        { c with part := { c.part with sending := some [] } }
  · rfl

theorem Chan.finalTransfer_choice (c : Chan) (me : Ch) (main : Nat) : (c.finalTransfer me main).choice = c.choice := by
  unfold Chan.finalTransfer
  split
  · split
    · exact c.flushXfers_choice
    · rfl
  · rfl

theorem Chan.askAgain_choice (c : Chan) (me : Ch) : (c.askAgain me).choice = c.choice := by
  unfold Chan.askAgain
  split
  · rfl
  · exact (Chan.xsend_choice _ _ _).trans (Chan.xsend_choice _ _ _)

theorem Chan.sendJoin_choice (c : Chan) (x : Ch) (main : Nat) : (c.sendJoin x main).choice = c.choice := c.flushPages_choice

theorem Chan.modTask_choice (c : Chan) (t : Nat) {f : TaskState → TaskState} (h : ∀ k, (f k).choice = k.choice) :
    (c.modTask t f).choice = c.choice :=
  congrArg (fun ts => ({ c.choice with tasks := ts } : Chan)) (map_modAt h c.tasks t)

theorem Chan.latchTaskParams_choice (c : Chan) (main offset t : Nat) : (c.latchTaskParams main offset t).choice = c.choice :=
  Chan.modTask_choice { c with params := c.params.latch t (c.cycleNumber t main offset) } t (fun _ => rfl)

end

/-- A T1 release with no switchover or join due leaves the choice of the runs as it is. -/
theorem State.beginMain_choice {s : State} {ch : Ch} (main now : Nat) (hs : (s.ch ch).part.switchAt = 0)
    (hj : (s.ch ch).reint.join = none) : ((s.beginMain ch main now).ch ch).choice = (s.ch ch).choice := by
  unfold State.beginMain
  extract_lets waits a
  have ha : (a.ch ch).choice = (s.ch ch).choice ∧ (a.ch ch).reint = (s.ch ch).reint := by
    obtain ⟨hc, hr⟩ := (s.ch ch).beginCycle_choice ch main now waits
    have hsw : ((s.ch ch).beginCycle ch main now waits).part.switchAt = 0 :=
      (congrArg (fun (x : Chan) => x.part.switchAt) hc :).trans hs
    have hach : a.ch ch = (s.ch ch).beginCycle ch main now waits := by
      dsimp only [a]
      rw [State.mod_ch]
      exact Chan.atSwitchover_same hsw
    rw [hach]
    exact ⟨hc, hr⟩
  obtain ⟨hc, hr⟩ := ha
  have hjoin : a.joinAtRelease ch main = a := by
    unfold State.joinAtRelease
    dsimp only
    rw [hr, hj]
  rw [hjoin, State.mod_ch]
  refine (Chan.askAgain_choice _ _).trans ((Chan.finalTransfer_choice _ _ _).trans (Eq.trans ?_ hc))
  unfold State.finalStep
  dsimp only
  split
  · split
    · rw [State.mod_ch]
      exact Chan.sendJoin_choice _ _ _
    · rfl
  · rfl

/-- A run begun for an instant. -/
def Chan.Begun (c : Chan) (main offset n : Nat) : Prop :=
  (c.task n).running = true ∧ (c.task n).imageReady = false ∧ (c.task n).runMain = main ∧ (c.task n).runOffset = offset

section

variable {main offset : Nat} {others : List (List Word)} {mains : List Nat}

theorem Chan.beginRun_begun {c : Chan} {t : Nat} (ht : t < c.tasks.length) : (c.beginRun main offset others mains t).Begun main offset t := by
  have h : (c.beginRun main offset others mains t).task t =
      (c.task t).begin main offset (c.cycleNumber t main offset) c.sync.cluster
        { (default : InImg) with task := t, others := others, otherMain := mains } false := modAt_getD_self _ default ht
  rw [Chan.Begun, h]
  exact ⟨rfl, rfl, rfl, rfl⟩

theorem Chan.Begun.beginRun {c : Chan} {n t : Nat} (h : c.Begun main offset n) (hn : n < c.tasks.length) :
    (c.beginRun main offset others mains t).Begun main offset n := by
  by_cases hnt : n = t
  · subst hnt
    exact Chan.beginRun_begun hn
  · have ht : (c.beginRun main offset others mains t).task n = c.task n := modAt_getD_ne c.tasks _ default hnt
    rwa [Chan.Begun, ht]

theorem foldl_beginRun (l : List Nat) (c : Chan) (n : Nat) (hn : n < c.tasks.length) (h : n ∈ l ∨ c.Begun main offset n) :
    (l.foldl (fun c t => c.beginRun main offset others mains t) c).Begun main offset n := by
  induction l generalizing c with
  | nil => exact h.resolve_left (by simp)
  | cons t l ih =>
    refine ih (c.beginRun main offset others mains t) (by rw [(c.beginRun_acts _ _ _ _ t).length]; exact hn) ?_
    rcases h with h | h
    · rcases List.mem_cons.mp h with rfl | h
      · exact .inr (Chan.beginRun_begun hn)
      · exact .inl h
    · exact .inr (h.beginRun hn)

end

/-- Outside an armed exchange the runs started are those that the choice before the latch gives. -/
theorem State.releaseTasks_begins {s : State} {ch : Ch} {main offset n : Nat} (he : (s.ch ch).blocks.exch ≠ 3)
    (hl : n < (s.ch ch).tasks.length) (hd : n ∈ (s.ch ch).releasedNow ch main offset) (hn : (s.ch ch).startsRun n = true) :
    ((s.releaseTasks ch main offset).ch ch).Begun main offset n := by
  unfold State.releaseTasks
  extract_lets a c due starting others mains b d
  have hc : c.choice = (s.ch ch).choice ∧ c.tasks.length = (s.ch ch).tasks.length := by
    have hacts : (s.ch ch).Acts
        ((((s.ch ch).releasedNow ch main offset).filter (s.ch ch).startsRun).foldl (fun c t => c.latchTaskParams main offset t)
          (s.ch ch)) := .foldl (fun c t => c.latchTaskParams_acts _ _ t) _ _
    have hlatch : ((((s.ch ch).releasedNow ch main offset).filter (s.ch ch).startsRun).foldl
        (fun c t => c.latchTaskParams main offset t) (s.ch ch)).choice = (s.ch ch).choice :=
      foldl_view (g := Chan.choice) (fun c t => c.latchTaskParams_choice main offset t) _ _
    have hexch : (((((s.ch ch).releasedNow ch main offset).filter (s.ch ch).startsRun).foldl
        (fun c t => c.latchTaskParams main offset t) (s.ch ch)).blocks.exch == 3) = false :=
      beq_eq_false_iff_ne.mpr (((congrArg (fun (x : Chan) => x.blocks.exch) hlatch :) : _ = (s.ch ch).blocks.exch) ▸ he)
    have hsame (x : Chan) (hx : (x.blocks.exch == 3) = false) : (x.checkPrepared main).switchAtRelease main = x := by
      have hp : x.checkPrepared main = x := by
        unfold Chan.checkPrepared
        rw [if_neg (by simp [hx])]
      rw [hp]
      unfold Chan.switchAtRelease
      split
      · rw [if_neg (by simp [hx])]
      · rfl
    have hac : c = _ := State.mod_ch s ch _
    dsimp only at hac
    rw [hsame _ hexch, ite_self] at hac
    rw [hac]
    exact ⟨hlatch, hacts.length⟩
  obtain ⟨hchoice, hlen⟩ := hc
  have hdue : n ∈ due := by
    dsimp only [due]
    rwa [Chan.releasedNow_of_choice hchoice]
  have hstart : n ∈ starting := List.mem_filter.mpr ⟨hdue, by rwa [Chan.startsRun_of_choice hchoice]⟩
  have hbd : a.ActsAt d ch :=
    State.ActsAt.trans (t := b) (.mod (.foldl (fun c t => c.heldRelease_acts _ _ _ t) _ _)) (b.applyEffects_actsAt _ _ _ _ _)
  rw [State.mod_ch]
  exact foldl_beginRun starting (d.ch ch) n (by rw [hbd.acts.length, show (a.ch ch).tasks.length = _ from hlen]; exact hl) (.inl hstart)

/-! ### The release as a whole -/

/-- The channel at an instant: its clock and snapshot taken, and at the T1 release the cycle's numbers. -/
def Chan.atInstant (c : Chan) (offset now snaps main : Nat) (back : Word) : Chan :=
  let c := { c with clock := now, din := { c.din.snapshot snaps back with mainCycle := main, offset := offset } }
  if offset == 0 then c.atMain main now else c

section

variable {s : State} {ch : Ch} {offset now snaps main : Nat} {back : Word} {warn : BitVec 4}

theorem Chan.atInstant_tasks (c : Chan) : (c.atInstant offset now snaps main back).tasks = c.tasks := by
  unfold Chan.atInstant
  dsimp only
  split <;> rfl

theorem Chan.atInstant_choice (c : Chan) : (c.atInstant offset now snaps main back).choice = c.choice := by
  unfold Chan.atInstant
  dsimp only
  split <;> rfl

theorem Chan.atInstant_din (c : Chan) :
    (c.atInstant offset now snaps main back).din = { c.din.snapshot snaps back with mainCycle := main, offset := offset } := by
  unfold Chan.atInstant
  dsimp only
  split <;> rfl

theorem Chan.atInstant_clock (c : Chan) : (c.atInstant offset now snaps main back).clock = now := by
  unfold Chan.atInstant
  dsimp only
  split <;> rfl

theorem Chan.atInstant_seals (c : Chan) : (c.atInstant offset now snaps main back).seals = c.seals := by
  unfold Chan.atInstant
  dsimp only
  split <;> rfl

/-- The module at an instant, before its tasks are released. -/
def State.atInstant (s : State) (ch : Ch) (offset now snaps main : Nat) (back : Word) : State :=
  let s := s.mod ch (fun c => { c with clock := now, din := c.din.snapshot snaps back })
  let s := s.mod ch (fun c => { c with din := { c.din with mainCycle := main, offset := offset } })
  if offset == 0 then s.beginMain ch main now else s

theorem State.atInstant_opens (s : State) (ch : Ch) :
    (∀ x, x ≠ ch → (s.atInstant ch offset now snaps main back).ch x = s.ch x) ∧
      ((s.ch ch).atInstant offset now snaps main back).Acts ((s.atInstant ch offset now snaps main back).ch ch) := by
  unfold State.atInstant Chan.atInstant
  extract_lets a b d c
  have hb : b.ch ch = c := by
    rw [State.mod_ch, State.mod_ch]
  have hbx : ∀ x, x ≠ ch → b.ch x = s.ch x := fun x hx => by
    rw [State.mod_ch_ne _ _ hx, State.mod_ch_ne _ _ hx]
  split
  · obtain ⟨hothers, hacts⟩ := b.beginMain_begins ch main now
    rw [hb] at hacts
    exact ⟨fun x hx => (hothers x hx).trans (hbx x hx), hacts⟩
  · refine ⟨hbx, ?_⟩
    rw [hb]
    exact .refl _

theorem State.atInstant_choice (hs : (s.ch ch).part.switchAt = 0) (hj : (s.ch ch).reint.join = none) :
    ((s.atInstant ch offset now snaps main back).ch ch).choice = (s.ch ch).choice := by
  unfold State.atInstant
  extract_lets a b
  have hb : (b.ch ch).choice = (s.ch ch).choice ∧ (b.ch ch).part = (s.ch ch).part ∧ (b.ch ch).reint = (s.ch ch).reint := by
    dsimp only [b, a]
    rw [State.mod_ch, State.mod_ch]
    exact ⟨rfl, rfl, rfl⟩
  obtain ⟨hc, hp, hr⟩ := hb
  split
  · exact (State.beginMain_choice main now (by rw [hp, hs]) (by rw [hr, hj])).trans hc
  · exact hc

/-- What makes an instant: P7, power, and a T1 release only where it is due. -/
theorem exec_taskRelease (hr : (s.ch ch).running = true) (hst : (s.ch ch).statusOnly = false)
    (hp : (s.ch ch).supply.powerFail = false) (ho : offset ≠ 0 ∨ (s.ch ch).atClusterStart = true)
    (hm : (s.ch ch).instantMain offset = some main) :
    exec (.taskRelease ch offset now snaps back warn) s =
      if (s.ch ch).seals.changed then .next (s.actOnSeal ch)
      else .next (((s.atInstant ch offset now snaps main back).releaseTasks ch main offset).mod ch
        (fun c => c.sendSets ch main offset warn)) := by
  show execTaskRelease ch offset now snaps back warn s = _
  unfold execTaskRelease
  dsimp only
  have hcond : ((s.ch ch).running && !(s.ch ch).statusOnly && !(s.ch ch).supply.powerFail &&
      (offset != 0 || (s.ch ch).atClusterStart)) = true := by
    rcases ho with ho | ho <;> simp [hr, hst, hp, ho]
  rw [hcond, hm]
  rfl

theorem exec_taskRelease_idle
    (h : (s.ch ch).instantMain offset = none ∨ (offset = 0 ∧ (s.ch ch).atClusterStart = false) ∨ (s.ch ch).running = false ∨
      (s.ch ch).statusOnly = true ∨ (s.ch ch).supply.powerFail = true) :
    exec (.taskRelease ch offset now snaps back warn) s = .next s := by
  show execTaskRelease ch offset now snaps back warn s = _
  unfold execTaskRelease
  dsimp only
  split
  · next m hc hm =>
    exfalso
    simp only [Bool.and_eq_true, Bool.or_eq_true, Bool.not_eq_true', bne_iff_ne] at hc
    obtain ⟨⟨⟨hrun, hst⟩, hpf⟩, hoff⟩ := hc
    rcases h with h | ⟨h0, hcl⟩ | h | h | h
    · exact absurd (hm.symm.trans h) (by simp)
    · rcases hoff with hoff | hoff
      · exact hoff h0
      · exact absurd (hoff.symm.trans hcl) (by decide)
    · exact absurd (hrun.symm.trans h) (by decide)
    · exact absurd (h.symm.trans hst) (by decide)
    · exact absurd (h.symm.trans hpf) (by decide)
  · rfl

end

/-- Settles O24: the instant opened, its tasks released, its sets sent; a seal change acts in its place. -/
theorem releaseOpensTheInstant : Obligations.ReleaseOpensTheInstant := by
  unfold Obligations.ReleaseOpensTheInstant
  refine ⟨?_, fun s ch offset now snaps back warn h => exec_taskRelease_idle h⟩
  intro s ch offset now snaps main back warn hr hst hp ho hm c
  have hexec := exec_taskRelease (now := now) (snaps := snaps) (back := back) (warn := warn) hr hst hp ho hm
  obtain ⟨hothers, hopen⟩ := s.atInstant_opens (offset := offset) (now := now) (snaps := snaps) (main := main) (back := back) ch
  have hrel := (s.atInstant ch offset now snaps main back).releaseTasks_actsAt ch main offset
  -- the channel before and after its sets are sent
  let u := ((s.atInstant ch offset now snaps main back).releaseTasks ch main offset).ch ch
  have hu : (c.atInstant offset now snaps main back).Acts u := hopen.trans hrel.acts
  have hfin : (u.formSets ch main offset warn).Acts (u.sendSets ch main offset warn) := Chan.sendSets_acts
  have hdin : u.din = { c.din.snapshot snaps back with mainCycle := main, offset := offset } := hu.din.trans c.atInstant_din
  have opens (hc : c.seals.changed = false) : exec (.taskRelease ch offset now snaps back warn) s =
      .next (((s.atInstant ch offset now snaps main back).releaseTasks ch main offset).put ch (u.sendSets ch main offset warn)) := by
    rw [hexec, if_neg (by rw [show (s.ch ch).seals.changed = false from hc]; decide)]
    rfl
  have seals (hc : c.seals.changed = true) : exec (.taskRelease ch offset now snaps back warn) s = .next (s.actOnSeal ch) := by
    rw [hexec, if_pos hc]
  refine ⟨fun hc => ⟨_, opens hc, fun x hx => ?_, ?_⟩, fun hc hsp => ⟨_, u.ownInputSet ch main offset warn, opens hc, ?_⟩,
    fun hc h0 => ⟨_, opens hc, ?_⟩, fun hc h0 => ⟨_, opens hc, ?_⟩, fun hc hrt hsw hho hex hj hlen n hn hsn => ⟨_, opens hc, ?_⟩,
    fun hc => ⟨_, seals hc, ?_⟩, fun hc hvo => ⟨_, seals hc, ?_⟩⟩
  · rw [State.put_ch_ne _ _ hx, hrel.others x hx, hothers x hx]
  · rw [State.put_ch]
    refine ⟨?_, ?_, ?_, ?_, rfl, rfl, ⟨u.ownInputSet ch main offset warn, ?_, rfl, rfl, rfl, rfl, ?_, ?_⟩,
      ⟨({ u with host := u.host.list } : Chan).commandSet ch main offset, ?_, rfl, rfl, rfl⟩⟩
    · rw [hfin.clock]
      exact hu.clock.trans c.atInstant_clock
    · rw [hfin.din]
      rfl
    · rw [hfin.din]
      rfl
    · rw [hfin.din]
      rfl
    · rw [hfin.din]
      exact pruned_own _ _ _
    · exact (congrArg (fun (d : Din) => d.raw.setWidth 64) hdin :)
    · exact (congrArg (fun (d : Din) => d.stall) hdin :)
    · rw [hfin.din]
      exact pruned_own _ _ _
  · rw [State.put_ch, hfin.din]
    have husp : u.split = false := by
      rw [Chan.split, hu.seals, c.atInstant_seals]
      exact hsp
    exact ⟨pruned_own _ _ _, Chan.sendSets_reaches husp⟩
  · subst h0
    rw [State.put_ch, hfin.mainCycle, hfin.released, hfin.t1Clock]
    exact ⟨hu.mainCycle, hu.released, hu.t1Clock⟩
  · have hat : c.atInstant offset now snaps main back =
        { c with clock := now, din := { c.din.snapshot snaps back with mainCycle := main, offset := offset } } :=
      if_neg (by simpa using h0)
    rw [hat] at hu
    rw [State.put_ch, hfin.mainCycle, hfin.t1Clock]
    exact ⟨hu.mainCycle, hu.t1Clock⟩
  · have hch := State.atInstant_choice (offset := offset) (now := now) (snaps := snaps) (main := main) (back := back) hsw hj
    have hlt : n < ((s.atInstant ch offset now snaps main back).ch ch).tasks.length := by
      rw [hopen.length, c.atInstant_tasks, hlen]
      exact List.mem_range.mp (List.mem_filter.mp hn).1
    have hbegun := State.releaseTasks_begins (main := main) (offset := offset) (n := n)
      (s := s.atInstant ch offset now snaps main back) (ch := ch)
      (by rw [show ((s.atInstant ch offset now snaps main back).ch ch).blocks.exch = c.blocks.exch from
        (congrArg (fun (x : Chan) => x.blocks.exch) hch :)]; exact hex) hlt
      (by
        rw [Chan.releasedNow_of_choice hch, Chan.releasedNow, if_pos (by
          rw [show (s.ch ch).runsTasks ch = true from hrt, show (s.ch ch).part.handover = false from hho]; rfl)]
        exact hn)
      (by rw [Chan.startsRun_of_choice hch]; exact hsn)
    have htask : (u.sendSets ch main offset warn).task n = u.task n := by rw [Chan.task, Chan.sendSets_tasks, Chan.task]
    rw [State.put_ch, htask]
    exact hbegun
  · obtain ⟨hoff, hsil, h1, h2, -⟩ := s.actOnSeal_off ch
    exact ⟨hoff.acted, hoff.barred, hoff.high, hoff.lowSide, hsil, h1, h2⟩
  · obtain ⟨-, -, -, -, hv⟩ := s.actOnSeal_off ch
    exact hv

end Sys2Proof.Machine

/-! PROOFS. Tiles verified at their use (spec/03 R81 to R88): the check before a pass reads one, the reload of one that failed, and the
run abandoned where it fails again. -/

namespace Sys2Proof.Machine

open Sys2Proof

/-! ### A run abandoned (R85) -/

theorem modAt_default_running (ks : List TaskState) (n : Nat) : ((modAt ks n TaskState.stopRun).getD n default).running = false := by
  by_cases h : n < ks.length
  · rw [modAt_getD_self _ _ h]
    rfl
  · rw [List.getD_eq_default _ _ (by rw [modAt_length]; omega)]
    rfl

/-- The tile that failed again is kept with cause 8, the run is over, and the channel has left the vote it was in. -/
theorem State.abandonRun_abandons (s : State) (ch : Ch) (task i : Nat) :
    ((s.abandonRun ch task i).ch ch).tiles.failCause = 8 ∧ ((s.abandonRun ch task i).ch ch).tiles.failIndex = i ∧
      (((s.abandonRun ch task i).ch ch).task task).running = false ∧
      ((s.ch ch).running = true → (s.ch ch).votes ch = true → ((s.abandonRun ch task i).ch ch).votes ch = false) := by
  unfold State.abandonRun
  extract_lets u
  have hu : (u.ch ch).tiles = (s.ch ch).tiles.failure (s.ch ch).mainCycle 8 i ∧
      (u.ch ch).tasks = modAt (s.ch ch).tasks task TaskState.stopRun ∧ (u.ch ch).running = (s.ch ch).running ∧
      (u.ch ch).votes ch = (s.ch ch).votes ch := by
    dsimp only [u]
    rw [State.mod_ch, Chan.emitTask_eq]
    exact ⟨rfl, rfl, rfl, rfl⟩
  obtain ⟨htiles, htasks, hrun, hvotes⟩ := hu
  by_cases h : (u.ch ch).running = true ∧ (u.ch ch).votes ch = true
  · obtain ⟨hg, -⟩ := State.withdraw_gone h.1 h.2
    refine ⟨?_, ?_, hg.runs task, fun _ _ => hg.out⟩
    · rw [hg.tiles, htiles]; rfl
    · rw [hg.tiles, htiles]; rfl
  · rw [State.withdraw_of_not (by simpa [imp_iff_not_or] using h)]
    refine ⟨?_, ?_, ?_, fun hr hv => absurd ⟨hrun.trans hr, hvotes.trans hv⟩ h⟩
    · rw [htiles]; rfl
    · rw [htiles]; rfl
    · rw [Chan.task, htasks]
      exact modAt_default_running _ _

/-! ### Tiles of a pass (R81, R84) -/

section

variable {c : Chan} {me : Ch} {v : Variant} {g : Image} {i : Nat} {flips : List (Nat × Word)} {poison : Bool}

theorem Chan.verifyTile_sound (hm : c.tiles.mark i = .unverified) (h : c.tileFinding me v g i flips poison = 0) :
    c.verifyTile me v g i flips poison = { c with tiles := c.tiles.setMark i .verified } := by
  unfold Chan.verifyTile
  rw [hm]
  dsimp only
  split
  · rfl
  · next h0 => exact absurd h h0

theorem Chan.verifyTile_fails {n : Nat} (hm : c.tiles.mark i = .unverified) (h : c.tileFinding me v g i flips poison = n) (hn : n ≠ 0) :
    c.verifyTile me v g i flips poison = c.failTile i n := by
  unfold Chan.verifyTile
  rw [hm]
  dsimp only
  split
  · next h0 => exact absurd (h.symm.trans h0) hn
  · rw [h]

theorem Chan.verifyTile_verified (hm : c.tiles.mark i = .verified) :
    c.verifyTile me v g i flips poison = if poison || c.slotBad me v i then c.failTile i 6 else c := by
  unfold Chan.verifyTile
  rw [hm]

theorem Chan.verifyTile_failed {cause : Nat} (hm : c.tiles.mark i = .failed cause) : c.verifyTile me v g i flips poison = c := by
  unfold Chan.verifyTile
  rw [hm]

theorem TileState.failedFor_of_mark {t : TileState} {cause : Nat} (hm : t.mark i = .failed cause) : t.failedFor i = some cause := by
  unfold TileState.failedFor
  rw [hm]

end

section

variable {s : State} {ch : Ch} {tile : Nat} {flips : List (Nat × Word)} {poison : Bool} {g : Image}

theorem exec_tileVerify (hl : (s.ch ch).live = true) (hg : (s.ch ch).resolverTile tile = some g) :
    exec (.tileVerify ch tile flips poison) s =
      .next (s.put ch ((s.ch ch).verifyTile ch s.factory.variant g tile flips poison)) := by
  show execTileVerify ch tile flips poison s = _
  rw [execTileVerify, State.onLive_eq _ hl]
  simp only [hg]

/-- The channel with a failed tile loaded again (R84). -/
def Chan.reloaded (c : Chan) (v : Variant) (g : Image) (tile cause : Nat) : Chan :=
  (({ c with tiles := { c.tiles with used := c.tiles.used + 1, reloadCnt := inc 16 c.tiles.reloadCnt } } : Chan).emitTask 1
    .tileReload tile [w32 cause]).loadSlot v g tile

/-- What the check finds in the tile loaded again. -/
def Chan.foundAgain (c : Chan) (me : Ch) (v : Variant) (g : Image) (tile cause : Nat) (flips : List (Nat × Word)) (poison : Bool) :
    Nat := (c.reloaded v g tile cause).tileFinding me v g tile flips (poison || c.masterBad me v g tile)

variable {cause : Nat}

theorem exec_tileReload_spent (hl : (s.ch ch).live = true) (hg : (s.ch ch).resolverTile tile = some g)
    (hm : (s.ch ch).tiles.mark tile = .failed cause) (hb : (s.ch ch).reloadBudget ≤ (s.ch ch).tiles.used) :
    exec (.tileReload ch tile flips poison) s = .next (s.abandonRun ch 1 tile) := by
  show execTileReload ch tile flips poison s = _
  unfold execTileReload
  simp only [hg, TileState.failedFor_of_mark hm, hl]
  exact if_pos hb

theorem exec_tileReload_sound (hl : (s.ch ch).live = true) (hg : (s.ch ch).resolverTile tile = some g)
    (hm : (s.ch ch).tiles.mark tile = .failed cause) (hb : (s.ch ch).tiles.used < (s.ch ch).reloadBudget)
    (hf : (s.ch ch).foundAgain ch s.factory.variant g tile cause flips poison = 0) :
    exec (.tileReload ch tile flips poison) s =
      .next (s.put ch { (s.ch ch).reloaded s.factory.variant g tile cause with
        tiles := ((s.ch ch).reloaded s.factory.variant g tile cause).tiles.setMark tile .verified }) := by
  show execTileReload ch tile flips poison s = _
  unfold execTileReload
  simp only [hg, TileState.failedFor_of_mark hm, hl]
  rw [if_neg (by omega)]
  simp only [State.mod_ch, State.mod_mod]
  split
  · rfl
  · next h0 => exact absurd hf h0

theorem exec_tileReload_fails (hl : (s.ch ch).live = true) (hg : (s.ch ch).resolverTile tile = some g)
    (hm : (s.ch ch).tiles.mark tile = .failed cause) (hb : (s.ch ch).tiles.used < (s.ch ch).reloadBudget)
    (hf : (s.ch ch).foundAgain ch s.factory.variant g tile cause flips poison ≠ 0) :
    exec (.tileReload ch tile flips poison) s =
      .next ((s.put ch ((s.ch ch).reloaded s.factory.variant g tile cause)).abandonRun ch 1 tile) := by
  show execTileReload ch tile flips poison s = _
  unfold execTileReload
  simp only [hg, TileState.failedFor_of_mark hm, hl]
  rw [if_neg (by omega)]
  simp only [State.mod_ch]
  split
  · next h0 => exact absurd h0 hf
  · rfl

end

/-! ### PROG tiles (R88) -/

section

variable {s : State} {ch : Ch} {task tile : Nat} {flips : List (Nat × Word)} {poison : Bool} {g : Image}

theorem exec_progTileVerify (hl : (s.ch ch).live = true) (hg : (s.ch ch).progTile task tile = some g)
    (hf : (s.ch ch).tiles.progFailedFor task tile = none) :
    exec (.progTileVerify ch task tile flips poison) s =
      .next (s.put ch ((s.ch ch).verifyProg ch s.factory.variant g task tile flips poison)) := by
  show execProgTileVerify ch task tile flips poison s = _
  unfold execProgTileVerify
  simp only [hg, hl, hf]
  rfl

theorem exec_progTileVerify_spent {n : Nat} (hl : (s.ch ch).live = true) (hg : (s.ch ch).progTile task tile = some g)
    (hf : (s.ch ch).tiles.progFailedFor task tile = some n)
    (hb : (s.ch ch).reloadBudget ≤ (tabGet (s.ch ch).tiles.progUsed task).getD 0) :
    exec (.progTileVerify ch task tile flips poison) s = .next (s.abandonRun ch task tile) := by
  show execProgTileVerify ch task tile flips poison s = _
  unfold execProgTileVerify
  simp only [hg, hl, hf]
  exact if_pos hb

variable {c : Chan} {v : Variant}

theorem Chan.verifyProg_marked (hm : c.tiles.progMarks.contains (task, tile) = true) :
    c.verifyProg ch v g task tile flips poison = c := by
  unfold Chan.verifyProg
  rw [if_pos (by rw [hm]; rfl)]

theorem Chan.verifyProg_sound (hm : c.tiles.progMarks.contains (task, tile) = false) (hf : c.tiles.progFailedFor task tile = none)
    (h : c.progFinding ch v g tile flips poison = 0) :
    c.verifyProg ch v g task tile flips poison = c.progSound ch v g task tile := by
  unfold Chan.verifyProg
  rw [if_neg (by rw [hm, hf]; decide)]
  split
  · rfl
  · next h0 => exact absurd h h0

theorem Chan.verifyProg_fails {n : Nat} (hm : c.tiles.progMarks.contains (task, tile) = false)
    (hf : c.tiles.progFailedFor task tile = none) (h : c.progFinding ch v g tile flips poison = n) (hn : n ≠ 0) :
    c.verifyProg ch v g task tile flips poison = c.progFails task tile n := by
  unfold Chan.verifyProg
  rw [if_neg (by rw [hm, hf]; decide)]
  split
  · next h0 => exact absurd (h.symm.trans h0) hn
  · rw [h]

theorem Chan.progSound_marks (c : Chan) : (c.progSound ch v g task tile).tiles.progMarks.contains (task, tile) = true := by
  unfold Chan.progSound
  simp

theorem Chan.progFails_fails (c : Chan) (n : Nat) :
    (c.progFails task tile n).tiles.progFailedFor task tile = some n ∧
      (c.progFails task tile n).tiles.vfailCnt = inc 16 c.tiles.vfailCnt := by
  unfold Chan.progFails
  rw [Chan.emitTask_eq]
  refine ⟨?_, rfl⟩
  simp [TileState.progFailedFor]

end

/-! ### The words of a tile as stored (R61) -/

/-- The fields of a header word, each below its width. -/
theorem tileHeader_fields (kind form gen index count : Nat) (hk : kind < 32) (hf : form < 4) (hg : gen < 8) (hi : index < 1024) :
    bits (tileHeader kind form gen index count).toNat 31 27 = kind ∧ bits (tileHeader kind form gen index count).toNat 26 25 = form ∧
      bits (tileHeader kind form gen index count).toNat 21 12 = index ∧
      bits (tileHeader kind form gen index count).toNat 24 22 = gen := by
  have hw : (tileHeader kind form gen index count).toNat =
      kind % 32 * 2 ^ 27 + form % 4 * 2 ^ 25 + gen % 8 * 2 ^ 22 + index % 1024 * 2 ^ 12 + count % 4096 := by
    rw [tileHeader, w32, BitVec.toNat_ofNat]
    exact Nat.mod_eq_of_lt (by omega)
  rw [hw]
  unfold bits
  refine ⟨?_, ?_, ?_, ?_⟩ <;> omega

/-- Settles O31: the marks first, then the reload within its budget, the PROG tiles, and the stored words. -/
theorem tilesAreVerified : Obligations.TilesAreVerified := by
  unfold Obligations.TilesAreVerified
  refine ⟨?_, ?_, fun ch key kind gen index count payload hk hg hi => ?_⟩
  · intro s ch tile flips poison g hl hg v c failed
    have hv := exec_tileVerify (flips := flips) (poison := poison) hl hg
    refine ⟨fun hm h => ?_, fun n h hn hm => ?_, fun hm hp hb => ?_, fun hm h => ?_, fun cause hm => ?_⟩
    · rw [hv, Chan.verifyTile_sound hm h]
    · rw [hv, Chan.verifyTile_fails hm h hn]
      rfl
    · rw [hv, Chan.verifyTile_verified hm, if_neg (by rw [hp, show (s.ch ch).slotBad ch s.factory.variant tile = false from hb]; decide),
        State.put_self]
    · rw [hv, Chan.verifyTile_verified hm, if_pos (by
        rcases h with h | h
        · rw [h]; rfl
        · rw [show (s.ch ch).slotBad ch s.factory.variant tile = true from h, Bool.or_true])]
      rfl
    · intro d found
      have hspent := exec_tileReload_spent (flips := flips) (poison := poison) hl hg hm
      have hfails := exec_tileReload_fails (flips := flips) (poison := poison) hl hg hm
      have hgone (h : c.reloadBudget ≤ c.tiles.used ∨ found ≠ 0) : ∃ u : State, (u.ch ch).running = c.running ∧
          (u.ch ch).votes ch = c.votes ch ∧ exec (.tileReload ch tile flips poison) s = .next (u.abandonRun ch 1 tile) := by
        by_cases hb : c.reloadBudget ≤ c.tiles.used
        · exact ⟨s, rfl, rfl, hspent hb⟩
        · refine ⟨_, ?_, ?_, hfails (Nat.lt_of_not_le hb) (h.resolve_left hb)⟩
          all_goals
            rw [State.put_ch]
            have hr : (c.reloaded s.factory.variant g tile cause).besideRun = c.besideRun :=
              (Chan.loadSlot_besideRun _ _ _ _).trans (Chan.emitTask_besideRun _ _ _ _ _)
          · exact (congrArg (fun (x : Chan) => x.running) hr :)
          · exact (congrArg (fun (x : Chan) => x.votes ch) hr :)
      refine ⟨?_, fun hb h => exec_tileReload_sound hl hg hm hb h, fun h => ?_, fun h hr hvo => ?_⟩
      · rw [hv, Chan.verifyTile_failed hm, State.put_self]
      · obtain ⟨u, -, -, hu⟩ := hgone h
        obtain ⟨h1, h2, h3, -⟩ := u.abandonRun_abandons ch 1 tile
        exact ⟨_, hu, h1, h2, h3⟩
      · obtain ⟨u, hur, huv, hu⟩ := hgone h
        obtain ⟨-, -, -, h4⟩ := u.abandonRun_abandons ch 1 tile
        exact ⟨_, hu, h4 (hur.trans hr) (huv.trans hvo)⟩
  · intro s ch task tile flips poison g hl hg v c
    have hv := exec_progTileVerify (flips := flips) (poison := poison) hl hg
    refine ⟨fun hm hf => ?_, fun hm hf h => ⟨_, hv hf, .put _ _ _, ?_⟩, fun n hm hf h hn => ⟨_, hv hf, .put _ _ _, ?_⟩,
      fun n hf hb => ⟨_, exec_progTileVerify_spent hl hg hf hb, ?_⟩⟩
    · rw [hv hf, Chan.verifyProg_marked hm, State.put_self]
    · rw [State.put_ch, Chan.verifyProg_sound hm hf h]
      exact Chan.progSound_marks _
    · rw [State.put_ch, Chan.verifyProg_fails hm hf h hn]
      exact Chan.progFails_fails _ n
    · obtain ⟨h1, h2, h3, -⟩ := s.abandonRun_abandons ch task tile
      exact ⟨h1, h2, h3⟩
  · obtain ⟨h1, h2, h3, h4⟩ := tileHeader_fields kind ch.code gen index count hk (Ch.code_lt ch) hg hi
    exact tileCause_stored ch key kind gen index count payload h1 h2 h3 h4

end Sys2Proof.Machine

/-! PROOFS. Timers of blocks, door pairs and gates (spec/05 R137, spec/08 R211, R213, R220). -/

namespace Sys2Proof.Machine

open Sys2Proof

/-! ### An on-delay timer (R137) -/

section

variable {d : InstDef} {i : InstState} {cycle ms : Nat}

/-- The time of a running timer in an execution. -/
def InstState.timeAt (i : InstState) (cycle ms : Nat) : Nat := (wordAt i.fields 1).toNat + elapsedAt i cycle ms

theorem onDelay_expiresAt (hk : d.kind = .onDelay) (hr : wordAt i.fields 2 = 1) :
    expiresAt d i cycle ms = decide (i.oldPreset.getD d.preset ≤ i.timeAt cycle ms) := by
  unfold expiresAt
  rw [hk, hr]
  rfl

theorem typeMask_onDelay (hk : d.kind = .onDelay) : typeMask d.typ d.version = [0xFF, 0xFFFFFFFF, 0xFF] := by
  unfold typeMask
  rw [show blockKind d.typ d.version = .onDelay from hk]

theorem onDelay_fields {ins : List Word} (hk : d.kind = .onDelay) (hr : wordAt i.fields 2 = 1) (hi : readBool (wordAt ins 0) = true)
    (he : i.oldPreset.getD d.preset ≤ i.timeAt cycle ms) :
    fitFields d.typ d.version
        (blockFields d i.fields ins i.first (elapsedAt i cycle ms) (i.oldPreset.getD d.preset)) =
      [0xC3, w32 (i.timeAt cycle ms), 1] := by
  have htime : timeOf i.fields (elapsedAt i cycle ms) = i.timeAt cycle ms := if_pos (beq_iff_eq.mpr hr)
  have hstep : blockFields d i.fields ins i.first (elapsedAt i cycle ms) (i.oldPreset.getD d.preset) =
      [0xC3, w32 (i.timeAt cycle ms), 1] := by
    unfold blockFields
    rw [hk]
    dsimp only
    unfold onDelayStep
    rw [if_pos hi, htime, decide_eq_true he]
    rfl
  rw [hstep, fitFields, typeMask_onDelay hk]
  have hall : w32 (i.timeAt cycle ms) &&& 0xFFFFFFFF = w32 (i.timeAt cycle ms) := BitVec.and_allOnes
  show [(0xC3 : Word) &&& 0xFF, w32 (i.timeAt cycle ms) &&& 0xFFFFFFFF, (1 : Word) &&& 0xFF] = _
  rw [hall]
  rfl

/-- A running on-delay timer that expires: it stays running, its preset kept. -/
theorem runInst_onDelay {c : Chan} {im : InImg} (hi : c.blocks.inst d.id = some i) (hk : d.kind = .onDelay)
    (hr : wordAt i.fields 2 = 1) (hin : readBool (wordAt (c.instInputs im d) 0) = true)
    (he : i.oldPreset.getD d.preset ≤ i.timeAt cycle ms) :
    c.runInst im d cycle ms =
      { c with
        blocks := c.blocks.putInst { i with first := false, prevCycle := cycle, fields := [0xC3, w32 (i.timeAt cycle ms), 1] } } := by
  unfold Chan.runInst
  simp only [hi, onDelay_fields hk hr hin he]
  have hruns : d.timerRuns [0xC3, w32 (i.timeAt cycle ms), 1] = true := by
    unfold InstDef.timerRuns
    rw [hk]
    rfl
  rw [if_pos hruns]

end

section

variable {s : State} {ch : Ch} {n : Nat} {g : Image} {d : InstDef} {i : InstState}

theorem exec_fbTimerExpiry (hl : (s.ch ch).live = true) (hg : (s.ch ch).image = some g) (hd : g.inst n = some d)
    (hi : (s.ch ch).blocks.inst n = some i) (hk : d.kind = .onDelay) (hrun : (s.ch ch).inRun d.task = true)
    (hr : wordAt i.fields 2 = 1) :
    exec (.fbTimerExpiry ch n) s = .next (s.put ch
      (if i.oldPreset.getD d.preset ≤ i.timeAt ((s.ch ch).task d.task).runCycle ((s.ch ch).periodUs d.task / 1000) then
        (s.ch ch).runInst ((s.ch ch).task d.task).inImg d ((s.ch ch).task d.task).runCycle ((s.ch ch).periodUs d.task / 1000)
      else s.ch ch)) := by
  show execFbTimerExpiry ch n s = _
  rw [execFbTimerExpiry, State.onLive_eq _ hl]
  simp only [hg, hi, Option.bind_some, hd, onDelay_expiresAt hk hr]
  rw [show (((s.ch ch).task d.task).running && ((s.ch ch).task d.task).imageReady && !((s.ch ch).task d.task).sent) = true from hrun,
    Bool.true_and]
  simp only [decide_eq_true_eq]

/-! ### Pairs of door inputs (R211) -/

theorem Chan.latePairs_late {c : Chan} {t e elem : Nat} {ps : List (Nat × Nat × DoorSrc)} :
    ∀ q ∈ c.latePairs t e elem ps, c.inRun t = true ∧ q.flagged = false ∧ c.discMs < q.ms + e := by
  intro q hq
  unfold Chan.latePairs at hq
  split at hq
  · simp at hq
  · next hrun =>
    obtain ⟨p, -, hp⟩ := List.mem_filterMap.mp hq
    split at hp
    · obtain ⟨-, hlate⟩ := Option.filter_eq_some_iff.mp hp
      simp only [Bool.and_eq_true, Bool.not_eq_true', decide_eq_true_eq] at hlate
      exact ⟨by simpa using hrun, hlate⟩
    · cases hp

theorem Chan.latePairs_idle {c : Chan} {t e elem : Nat} {ps : List (Nat × Nat × DoorSrc)} (h : c.inRun t = false) :
    c.latePairs t e elem ps = [] := if_pos (by rw [h]; rfl)

theorem Chan.flagPair_inRun (c : Chan) (t n : Nat) (p : PairDisc) : (c.flagPair t p).inRun n = c.inRun n := by
  unfold Chan.flagPair
  rw [Chan.emitTask_eq]
  rfl

theorem exec_doorInputDiscrepancy {elem : Nat} (hl : (s.ch ch).live = true) (hg : (s.ch ch).image = some g) :
    exec (.doorInputDiscrepancy ch elem) s = .next (s.put ch
      (let c := s.ch ch
       let c := (c.latePairs 0 (c.doorElapsed 0 c.doors.prev0) elem g.pairInputs).foldl (fun c p => c.flagPair 0 p) c
       (c.latePairs 1 (c.doorElapsed 1 c.doors.prev1) elem g.plungerInputs).foldl (fun c p => c.flagPair 1 p) c)) := by
  show execDoorInputDiscrepancy ch elem s = _
  rw [execDoorInputDiscrepancy, State.onLive_eq _ hl]
  simp only [hg]

/-! ### Gates (R213, R220) -/

variable {elem : Nat} {q : GateState}

theorem Gate.elem_of_find {gs : List GateState} (h : gs.find? (fun p => p.elem == elem) = some q) : q.elem = elem :=
  beq_iff_eq.mp (List.find?_some (p := fun (p : GateState) => p.elem == elem) h)

end

/-- Settles O32: each timer by what its run finds. -/
theorem timersOfBlocksAndGates : Obligations.TimersOfBlocksAndGates := by
  unfold Obligations.TimersOfBlocksAndGates
  refine ⟨?_, ?_, ?_⟩
  · intro s ch n g d i hl hg hd hi hk hrun hr c k e
    have hexec := exec_fbTimerExpiry hl hg hd hi hk hrun hr
    have hid : d.id = n := beq_iff_eq.mp (List.find?_some (p := fun (p : InstDef) => p.id == n) hd)
    refine ⟨fun he hin => ?_, fun he => ?_⟩
    · rw [hexec, if_pos (show _ ≤ InstState.timeAt _ _ _ from he),
        runInst_onDelay (by rw [hid]; exact hi) hk hr hin (show _ ≤ InstState.timeAt _ _ _ from he)]
      rfl
    · rw [hexec, if_neg (show ¬ _ ≤ InstState.timeAt _ _ _ from Nat.not_le.mpr he), State.put_self]
  · intro s ch elem g hl hg c late0 late1 flagged
    have hexec := exec_doorInputDiscrepancy (elem := elem) hl hg
    dsimp only at hexec
    refine ⟨fun t e ps q hq => Chan.latePairs_late q hq, fun q h0 h1 => ?_, fun q h0 h1 => ?_, fun h0 h1 => ?_⟩
    · rw [hexec, show Chan.latePairs _ 0 _ elem g.pairInputs = [q] from h0]
      simp only [List.foldl_cons, List.foldl_nil]
      rw [Chan.latePairs_idle ((Chan.flagPair_inRun _ _ _ _).trans h1)]
      rfl
    · rw [hexec, Chan.latePairs_idle h0]
      simp only [List.foldl_nil]
      rw [show Chan.latePairs _ 1 _ elem g.plungerInputs = [q] from h1]
      rfl
    · rw [hexec, show Chan.latePairs _ 0 _ elem g.pairInputs = [] from h0]
      simp only [List.foldl_nil]
      rw [show Chan.latePairs _ 1 _ elem g.plungerInputs = [] from h1]
      simp only [List.foldl_nil]
      rw [State.put_self]
  · intro s ch elem q hl hq c used
    obtain rfl := Gate.elem_of_find hq
    have hlapse : exec (.gateIsolationLapse ch q.elem) s = .next (s.put ch
        (if c.inRun 0 && q.isolated && decide (q.isolMs ≤ used) then { c with doors := c.doors.putGate q.lapse } else c)) := by
      show execGateIsolationLapse ch q.elem s = _
      rw [execGateIsolationLapse, State.onLive_eq _ hl]
      simp only [hq]
      rfl
    have hwarn : exec (.gateIsolationWarning ch q.elem) s = .next (s.put ch
        (if c.inRun 0 && q.isolated && !q.isolWarn && decide (q.isolMs - used ≤ 900000) then
          ({ c with doors := c.doors.putGate { q with isolWarn := true } }).emitTask 0 .isolWarning q.elem [] else c)) := by
      show execGateIsolationWarning ch q.elem s = _
      rw [execGateIsolationWarning, State.onLive_eq _ hl]
      simp only [hq]
      rfl
    refine ⟨?_, fun h0 hi hm => ?_, fun h0 hi hw hm => ?_, fun h => ?_⟩
    · intro g d hg hd im now
      have hfault : exec (.gateFault ch q.elem) s = .next (s.put ch
          (if c.inRun 0 && q.step != 4 && decide (c.discMs + 1 < now.split) then c.faultGate q else c)) := by
        show execGateFault ch q.elem s = _
        rw [execGateFault, State.onLive_eq _ hl]
        simp only [show (s.ch ch).image = some g from hg, Option.bind_some, hd, hq]
        rfl
      refine ⟨fun h0 hs hn => ?_, fun h => ?_⟩
      · rw [hfault, if_pos (by simp [h0, hs, hn])]
        rfl
      · rw [hfault, if_neg, State.put_self]
        rcases h with h | h | h
        · simp [h]
        · simp [h]
        · simp only [Bool.and_eq_true, decide_eq_true_eq, not_and]
          exact fun _ => Nat.not_lt.mpr h
    · rw [hlapse, if_pos (by simp [h0, hi, hm])]
      rfl
    · rw [hwarn, if_pos (by simp [h0, hi, hw, hm])]
      rfl
    · rw [hlapse, hwarn, if_neg (by rcases h with h | h <;> simp [h]), if_neg (by rcases h with h | h <;> simp [h]), State.put_self]
      exact ⟨rfl, rfl⟩

end Sys2Proof.Machine

/-! PROOFS. What verdicts settle (spec/06 R165 to R169): who leaves the vote, in whose view, and which drive the network removes. -/

namespace Sys2Proof.Machine

open Sys2Proof

/-! ### Signs for reintegration (R177, R178) -/

/-- A channel but for reintegration and the exchange links. -/
def Chan.besideSigns (c : Chan) : Chan :=
  { c with vote := { c.vote with txSeq := default }, reint := default, xout := [], xwait := [] }

theorem Chan.xsend_besideSigns (c : Chan) (x : Ch) (msg : XMsg) : (c.xsend x msg).besideSigns = c.besideSigns := by
  unfold Chan.xsend
  split
  · rfl
  · split <;> rfl

theorem Chan.sendAgainPages_besideSigns (c : Chan) (x : Ch) (ns : List Nat) : (c.sendAgainPages x ns).besideSigns = c.besideSigns := by
  unfold Chan.sendAgainPages
  split
  · rfl
  · refine foldl_view (g := Chan.besideSigns) (fun c n => ?_) ns c
    split
    · exact c.xsend_besideSigns _ _
    · rfl

/-- What a verdict says of reintegration changes that and what is sent alone. -/
theorem Chan.takeReintSigns_besideSigns (c : Chan) (frm : Ch) (v : Verdict) : (c.takeReintSigns frm v).besideSigns = c.besideSigns := by
  unfold Chan.takeReintSigns
  extract_lets r d r' e
  have hd : d.besideSigns = c.besideSigns := by
    dsimp only [d]
    split <;> rfl
  have he : e.besideSigns = c.besideSigns := by
    dsimp only [e]
    split
    · exact hd
    · exact hd
  split
  · exact (e.sendAgainPages_besideSigns _ _).trans he
  · exact he

/-! ### A partner's verdict (R165, R166) -/

/-- The channel that has taken a partner's verdict. -/
def Chan.heardVerdict (c : Chan) (frm : Ch) (l : Link) (v : Verdict) : Chan :=
  ({ c.readFrom frm l with
    vote := { (c.readFrom frm l).vote with verdicts := (c.readFrom frm l).vote.verdicts.set frm (some v) } } : Chan).takeReintSigns frm v

section

variable {s : State} {ch frm : Ch} {l : Link} {v : Verdict}

/-- What a verdict is taken into, seen beside its own register. -/
theorem Chan.heardVerdict_vote (c : Chan) :
    (c.heardVerdict frm l v).running = c.running ∧ (c.heardVerdict frm l v).vote.inVote = c.vote.inVote ∧
      (c.heardVerdict frm l v).vote.mode = c.vote.mode ∧ (c.heardVerdict frm l v).vote.verdicts = c.vote.verdicts.set frm (some v) := by
  have h := Chan.takeReintSigns_besideSigns ({ c.readFrom frm l with
    vote := { (c.readFrom frm l).vote with verdicts := (c.readFrom frm l).vote.verdicts.set frm (some v) } } : Chan) frm v
  exact ⟨(congrArg (fun (x : Chan) => x.running) h :), (congrArg (fun (x : Chan) => x.vote.inVote) h :),
    (congrArg (fun (x : Chan) => x.vote.mode) h :), (congrArg (fun (x : Chan) => x.vote.verdicts) h :)⟩

/-- A verdict read by a channel in P7 from the partner that gives it. -/
theorem exec_verdict (hn : ch ≠ frm) (hl : (s.ch ch).live = true) (hr : (s.ch ch).running = true)
    (ht : (s.ch ch).TakesFrom frm l (.verdict v)) (hv : v.ch = frm) :
    exec (.verdict ch frm l v) s =
      (let t := s.put ch ((s.ch ch).heardVerdict frm l v)
       let d := (s.ch ch).heardVerdict frm l v
       if !d.votes ch || !d.votes frm then .next t
       else if d.namedByBoth ch v then .next (t.exclude ch v.task v.taskCycle causeByPartners)
       else .next (t.mod ch (fun c => c.settleVerdicts ch v))) := by
  show execVerdict ch frm l v s = _
  unfold execVerdict
  dsimp only
  rw [if_neg (by simp [hn, hl])]
  simp only [Chan.receive_of_takes ht]
  have hrun : ((s.ch ch).readFrom frm l).running = true := hr
  rw [if_neg (by simp [hrun, hv])]
  simp only [State.mod_ch, State.put_ch]
  rw [State.mod, State.put_ch, State.put_put]
  rfl

theorem Chan.loseChannel_loses {c : Chan} {x : Ch} (h : c.votes x = true) :
    (c.loseChannel x).votes x = false ∧ (c.loseChannel x).vote.cut.get x = true ∧
      (c.loseChannel x).vote.mode = (if c.vote.mode = 1 then 2 else c.vote.mode) := by
  unfold Chan.loseChannel
  rw [if_pos h]
  refine ⟨putBit_getLsbD_self _ _, Tri.get_set_self _ _ _, ?_⟩
  by_cases hm : c.vote.mode = 1 <;> simp [hm]

theorem Ch.code_inj {x y : Ch} (h : x.code = y.code) : x = y := by
  cases x <;> cases y <;> simp_all [Ch.code]

theorem Chan.loseChannel_keeps {c : Chan} {x y : Ch} (h : y ≠ x) (hy : c.votes y = true) : (c.loseChannel x).votes y = true := by
  unfold Chan.loseChannel
  split
  · exact (putBit_getLsbD _ _ _ _ (by cases x <;> decide)).trans ((if_neg (mt Ch.code_inj h)).trans hy)
  · exact hy

theorem Chan.countNaming_vote (c : Chan) (v : Verdict) :
    (c.countNaming v).vote.inVote = c.vote.inVote ∧ (c.countNaming v).vote.verdicts = c.vote.verdicts := by
  unfold Chan.countNaming
  split
  · dsimp only
    split
    · split <;> exact ⟨rfl, rfl⟩
    · exact ⟨rfl, rfl⟩
  · exact ⟨rfl, rfl⟩

theorem Chan.settleVerdicts_none {c : Chan} (h : (c.verdictFor ch v).bind verdictNames = none) : c.settleVerdicts ch v = c.countNaming v := by
  unfold Chan.settleVerdicts
  rw [h]

theorem Chan.settleVerdicts_both {c : Chan} {x : Ch} (h : (c.verdictFor ch v).bind verdictNames = some x)
    (h' : (c.verdictFor (Ch.third ch x) v).bind verdictNames = some x) : c.settleVerdicts ch v = c.loseChannel x := by
  unfold Chan.settleVerdicts
  rw [h]
  dsimp only
  rw [h']
  exact if_pos (beq_self_eq_true x)

end

/-! ### Acknowledgements and cut lines (R166, R169) -/

section

variable {s : State}

theorem Chan.failAttempt_phase (c : Chan) (me : Ch) (cause : Nat) :
    (c.failAttempt me cause).reint.phase = (if c.reint.phase = 0 then 0 else 5) ∧
      (c.failAttempt me cause).vote.inVote = c.vote.inVote := by
  unfold Chan.failAttempt
  by_cases h0 : c.reint.phase = 0
  · rw [if_pos (by rw [h0]; rfl), if_pos h0]
    exact ⟨h0, rfl⟩
  · rw [if_neg h0]
    by_cases h5 : c.reint.phase = 5
    · rw [if_pos (by rw [h5]; rfl)]
      exact ⟨h5, rfl⟩
    · rw [if_neg (by simp [h0, h5])]
      dsimp only
      rw [Chan.emit_eq]
      refine ⟨?_, ?_⟩
      · show (Chan.xsendBoth _ _ _).reint.phase = 5
        simp [Chan.xsendBoth]
      · show (Chan.xsendBoth _ _ _).vote.inVote = _
        simp [Chan.xsendBoth]

theorem execCutLineChange_eq {frm whom : Ch} {level : Bool} (hn : frm ≠ whom) (hl : (s.ch frm).live = true)
    (hs : (s.ch frm).split = false) (hc : (s.ch frm).vote.cut.get whom = level) :
    exec (.cutLineChange frm whom level) s =
      .next { s with net := ({ s.net with cut := s.net.cut.set frm ((s.net.cut.get frm).set whom level) } : Network).settleDrives whom } := by
  show execCutLineChange frm whom level s = _
  unfold execCutLineChange
  dsimp only
  rw [if_pos (by simp [hn, hl, hs, hc])]

/-- The drives are judged in turn, that of the channel whose line changed first. -/
theorem Network.settleDrives_drive (n : Network) (whom : Ch) :
    (n.settleDrives whom).driveCut.get whom = n.evalDrive whom ∧ (n.settleDrives whom).cut = n.cut := by
  unfold Network.settleDrives
  refine ⟨?_, rfl⟩
  simp only [List.foldl_cons, List.foldl_nil]
  rw [Tri.get_set_ne _ _ (by cases whom <;> decide), Tri.get_set_ne _ _ (by cases whom <;> decide), Tri.get_set_self]

end

/-- Settles O33: verdict by verdict, then the acknowledgements, the lines and the standing naming. -/
theorem verdictsSettleTheVote : Obligations.VerdictsSettleTheVote := by
  unfold Obligations.VerdictsSettleTheVote
  refine ⟨?_, ?_, ?_, ?_, ?_⟩
  · intro s ch frm l v hn hl hr ht hv c d
    have hexec := exec_verdict hn hl hr ht hv
    obtain ⟨hrun, hin, hmode, hver⟩ := (s.ch ch).heardVerdict_vote (frm := frm) (l := l) (v := v)
    have hvotes (x : Ch) : ((s.ch ch).heardVerdict frm l v).votes x = c.votes x := by
      rw [Chan.votes, hin]; rfl
    dsimp only at hexec
    rw [hvotes, hvotes] at hexec
    refine ⟨fun h => ?_, fun h1 h2 h3 => ?_, fun x h1 h2 h3 hx h4 h5 => ?_, fun h1 h2 h3 h4 => ?_⟩
    · rw [hexec, if_pos (by rcases h with h | h <;> simp [h])]
      rfl
    all_goals rw [if_neg (by simp [h1, h2])] at hexec
    · have h3 : ((s.ch ch).heardVerdict frm l v).namedByBoth ch v = true := h3
      rw [if_pos h3] at hexec
      obtain ⟨hg, -⟩ := State.exclude_gone (s := s.put ch ((s.ch ch).heardVerdict frm l v)) (ch := ch)
        (by rw [State.put_ch, hrun, hr]) (by rw [State.put_ch, hvotes, h1]) v.task v.taskCycle causeByPartners
      exact ⟨_, hexec, hg.out, hg.high, hg.lowSide, hg.silent, hg.exclCause⟩
    · have h3 : ((s.ch ch).heardVerdict frm l v).namedByBoth ch v = false := h3
      rw [if_neg (by rw [h3]; decide)] at hexec
      refine ⟨_, hexec, State.OnlyAt.trans (.put _ _ _) (.mod _ _ _), ?_⟩
      rw [State.mod_ch, State.put_ch, Chan.settleVerdicts_both (c := (s.ch ch).heardVerdict frm l v) h4 h5]
      obtain ⟨g1, g2, g3⟩ := Chan.loseChannel_loses ((hvotes x).trans hx)
      refine ⟨g1, g2, g3.trans ?_⟩
      rw [hmode]
      rfl
    · have h3 : ((s.ch ch).heardVerdict frm l v).namedByBoth ch v = false := h3
      rw [if_neg (by rw [h3]; decide)] at hexec
      refine ⟨_, hexec, State.OnlyAt.trans (.put _ _ _) (.mod _ _ _), ?_⟩
      rw [State.mod_ch, State.put_ch, Chan.settleVerdicts_none (c := (s.ch ch).heardVerdict frm l v) h4]
      obtain ⟨g1, g2⟩ := Chan.countNaming_vote ((s.ch ch).heardVerdict frm l v) v
      exact ⟨g1.trans hin, by rw [g2, hver, Tri.get_set_self]⟩
  · intro s ch frm who l n hn hl ht c
    refine ⟨fun h => ?_, fun h => ?_⟩
    · have hexec : exec (.exclAck ch frm l who n) s = .next (s.put ch
          { c.failAttempt ch 3 with
            vote :=
              { (c.failAttempt ch 3).vote with
                ackDue := (c.failAttempt ch 3).vote.ackDue.set who false
                acked := (c.failAttempt ch 3).vote.acked.set who ((c.failAttempt ch 3).votes who) } }) := by
        show execExclAck ch frm l who n s = _
        rw [execExclAck, State.taken_of_takes _ hn hl ht, if_pos (beq_iff_eq.mpr h)]
      refine ⟨_, hexec, .put _ _ _, ?_⟩
      obtain ⟨hp, hi⟩ := c.failAttempt_phase ch 3
      rw [State.put_ch]
      refine ⟨Tri.get_set_self _ _ _, ?_, hi, hp⟩
      refine (Tri.get_set_self _ _ _).trans ?_
      rw [Chan.votes, hi, Chan.votes]
    · show execExclAck ch frm l who n s = _
      rw [execExclAck, State.taken_of_takes _ hn hl ht, if_neg (by simpa using h)]
  · intro s ch who hl c
    refine ⟨fun h => ?_, fun h => ?_⟩
    · show execExclAckTimeout ch who s = _
      rw [execExclAckTimeout, State.onLive_eq _ hl, if_pos h]
    · exact congrArg Host.Outcome.next (State.onLive_same (if_neg (by rw [show (s.ch ch).vote.ackDue.get who = false from h]; decide)))
  · intro s frm whom level hn
    refine ⟨fun hl hs hc => ⟨_, execCutLineChange_eq hn hl hs hc, rfl, rfl, ?_, ?_⟩, fun h => ?_⟩
    · rw [(Network.settleDrives_drive _ whom).2, Tri.get_set_self, Tri.get_set_self]
    · rw [(Network.settleDrives_drive _ whom).1, (Network.settleDrives_drive _ whom).2]
      simp [Network.evalDrive, and_assoc]
    · show execCutLineChange frm whom level s = _
      unfold execCutLineChange
      dsimp only
      rw [if_neg (by rcases h with h | h | h <;> simp [h])]
  · intro s ch x y hr hv hx hname hb
    have hexec : exec (.oneSidedLimit ch) s =
        if x == ch then
          .next (s.exclude ch (s.ch ch).currentTask ((s.ch ch).task (s.ch ch).currentTask).runCycle causeOneSided)
        else .next (s.mod ch (fun c => c.loseChannel x)) := by
      show execOneSidedLimit ch s = _
      unfold execOneSidedLimit
      dsimp only
      rw [hname, show ((s.ch ch).running && (s.ch ch).votes ch && decide (bits ((s.ch ch).act 0x0C02) 3 0 ≤ (s.ch ch).vote.single)) = true
        by simp [hr, hv, hb]]
    refine ⟨fun h => ?_, fun h => ?_⟩
    · subst h
      rw [if_pos (beq_self_eq_true x)] at hexec
      obtain ⟨hg, -⟩ := State.exclude_gone hr hv (s.ch x).currentTask ((s.ch x).task (s.ch x).currentTask).runCycle causeOneSided
      exact ⟨_, hexec, hg.out, hg.high, hg.lowSide, hg.silent⟩
    · rw [if_neg (by simpa using h)] at hexec
      refine ⟨_, hexec, .mod _ _ _, ?_⟩
      rw [State.mod_ch]
      obtain ⟨g1, g2, -⟩ := Chan.loseChannel_loses hx
      exact ⟨g1, g2, Chan.loseChannel_keeps (Ne.symm h) hv⟩

end Sys2Proof.Machine

/-! PROOFS. Voter faults, trips and the limit of running on two channels (spec/06 R172 to R175, spec/07 R201). -/

namespace Sys2Proof.Machine

open Sys2Proof

section

variable {s : State}

theorem any_split_eq_false (h : ∀ x, (s.ch x).split = false) : s.chans.toList.any Chan.split = false := by
  have ha : s.chans.a.split = false := h .a
  have hb : s.chans.b.split = false := h .b
  have hc : s.chans.c.split = false := h .c
  simp [Tri.toList, ha, hb, hc]

theorem any_split_of {x : Ch} (h : (s.ch x).split = true) : s.chans.toList.any Chan.split = true := by
  rw [List.any_eq_true]
  exact ⟨s.ch x, by cases x <;> simp [Tri.toList, State.ch, Tri.get], h⟩

/-- A trip leaves a channel that does not execute as it is. -/
theorem State.trip_ch_of_not_live (cause : TripCause) {x : Ch} (h : (s.ch x).live = false) : (s.trip cause).ch x = s.ch x := by
  unfold State.trip
  extract_lets armed u
  have hu : u.ch x = s.ch x := rfl
  split
  · rw [State.allLive_ch, hu, if_neg (by simp [h])]
  · exact hu

/-- The latches of the network, and what they leave. -/
def State.withNet (s : State) (n : Network) : State := { s with net := n }

theorem State.withNet_ch (n : Network) (x : Ch) : (s.withNet n).ch x = s.ch x := rfl

/-- The module as a voter fault of the output network leaves it before the Hedgehog trips: latched everywhere. -/
def State.networkLatched (s : State) : State :=
  (s.allLive (fun _ c => c.latchVoter .outputNetwork)).withNet { s.net with voterFault := true }

theorem State.networkLatched_ch (x : Ch) :
    s.networkLatched.ch x = if (s.ch x).live then (s.ch x).latchVoter .outputNetwork else s.ch x :=
  (State.withNet_ch _ x).trans (State.allLive_ch _ _ _)

theorem execVoterFault_network (h : ∀ x, (s.ch x).split = false) :
    execVoterFault .outputNetwork s = .next (s.networkLatched.trip .voter) := by
  rw [execVoterFault, if_neg (by rw [any_split_eq_false h]; decide), State.networkLatched]
  dsimp only
  rw [State.allLive_net]
  rfl

theorem execVoterFault_comparator (h : ∀ x, (s.ch x).split = false) :
    execVoterFault .commitComparator s =
      .next ((s.allLive (fun _ c => c.latchVoter .commitComparator)).withNet { s.net with recFault := true }) := by
  rw [execVoterFault, if_neg (by rw [any_split_eq_false h]; decide)]
  dsimp only
  rw [State.allLive_net]
  rfl

/-- What a voter fault of the output network leaves in a channel. -/
theorem State.voterTrip_ch (x : Ch) :
    ((s.ch x).live = true → ((s.networkLatched.trip .voter).ch x).vote.outFault = true) ∧
      ((s.ch x).live = false → (s.networkLatched.trip .voter).ch x = s.ch x) := by
  have hw := s.networkLatched_ch x
  refine ⟨fun h => ?_, fun h => ?_⟩
  · obtain ⟨r, n, m, ht⟩ := s.networkLatched.trip_ch .voter x
    rw [if_pos h, Chan.latchVoter, Chan.emit_eq] at hw
    rw [ht, hw]
  · rw [if_neg (by simp [h])] at hw
    rw [State.trip_ch_of_not_live _ (by rw [hw, h]), hw]

/-- What a trip leaves of the Hedgehog and of the trip counters. -/
theorem State.trip_leaves (cause : TripCause) :
    let t := s.trip cause
    t.hedgehog.copy1 = true ∧ t.hedgehog.copy2 = true ∧ t.hedgehog.cause = putBit s.hedgehog.cause (tripBit cause) true ∧
      (s.hedgehog.st = 0 → t.hedgehog.st = 0) ∧ (s.hedgehog.st ≠ 0 → t.hedgehog.st = 2) ∧ t.net = s.net ∧
      (s.hedgehog.st = 1 → ∀ x, (s.ch x).live = true → (t.ch x).safe.tripCnt = inc 16 (s.ch x).safe.tripCnt) ∧
      (s.hedgehog.st ≠ 1 → t.chans = s.chans) := by
  intro t
  have hh : t.hedgehog = s.hedgehog.causeNow cause := s.trip_hedgehog cause
  rw [hh]
  refine ⟨rfl, rfl, rfl, fun h => ?_, fun h => ?_, s.trip_net cause, fun h x hl => ?_, fun h => ?_⟩
  · simp [Hedgehog.causeNow, h]
  · simp [Hedgehog.causeNow, h]
  · have ht : t = ({ s with hedgehog := s.hedgehog.causeNow cause } : State).allLive (fun _ c => c.noteTrip cause) :=
      if_pos (by simp [h])
    rw [ht, State.allLive_ch]
    refine (congrArg (fun (c : Chan) => c.safe.tripCnt) (if_pos hl)).trans ?_
    rw [Chan.noteTrip, Chan.emit_eq]
    rfl
  · have ht : t = ({ s with hedgehog := s.hedgehog.causeNow cause } : State) := if_neg (by simp [h])
    rw [ht]

theorem Chan.toSafe_reint (c : Chan) (me : Ch) (cause : Nat) : (c.toSafe me cause).reint = c.reint :=
  (c.toSafe_settles me cause).1.reint

theorem State.safeShutdown_reint (ch : Ch) (cause : Nat) : ((s.safeShutdown ch cause).ch ch).reint = (s.ch ch).reint := by
  unfold State.safeShutdown
  extract_lets t
  have ht : t.ch ch = (s.ch ch).toSafe ch cause := State.mod_ch _ _ _
  have hset : (t.ch ch).Settles ((((t.setAlive ch false).settle cause).trip .command).ch ch) :=
    ((t.setAlive_false_settles ch).1.trans ((State.settle_settles _ _).trans (State.trip_settles _ _))) ch
  rw [hset.reint, ht, Chan.toSafe_reint]

end

/-- Settles O34: the voter faults, the trip, then the limit of running on two channels. -/
theorem degradedModuleIsLimited : Obligations.DegradedModuleIsLimited := by
  unfold Obligations.DegradedModuleIsLimited
  refine ⟨fun s hs => ?_, fun s u x hx => ?_, fun s hs => ?_, fun s cause => ⟨fun h => ?_, fun h => ?_⟩, ?_⟩
  · refine ⟨_, execVoterFault_network hs, ?_, ?_, ?_, fun x => (State.voterTrip_ch x).1, fun x => (State.voterTrip_ch x).2⟩
    · rw [State.trip_net]
      rfl
    · rw [State.trip_net]
      rfl
    · rw [State.trip_hedgehog]
      exact congrArg (Hedgehog.causeNow · .voter) (State.allLive_hedgehog s (fun _ c => c.latchVoter .outputNetwork))
  · exact if_pos (any_split_of hx)
  · have hch (x : Ch) := s.allLive_ch (fun _ c => c.latchVoter .commitComparator) x
    refine ⟨_, execVoterFault_comparator hs, rfl, State.allLive_hedgehog s (fun _ c => c.latchVoter .commitComparator),
      fun x h => ?_, fun x h => ?_⟩
    · rw [State.withNet_ch, hch, if_pos h, Chan.latchVoter, Chan.emit_eq]
    · rw [State.withNet_ch, hch, if_neg (by simp [h])]
  · exact ⟨_, congrArg Host.Outcome.next (if_pos h), s.trip_leaves cause⟩
  · exact congrArg Host.Outcome.next (if_neg (by rw [h]; decide))
  · intro s ch hl c
    refine ⟨fun hr hv hw hd => ?_, fun hr hv hm hd ht => ?_, fun h => ?_, fun hr hm hg => ?_⟩
    · show execDegLimitWarning ch s = _
      rw [execDegLimitWarning, State.onLive_eq _ hl]
      exact congrArg (fun x => Host.Outcome.next (s.put ch x)) (if_pos (by simp [c, hr, hv, hw, hd]))
    · have hexec : exec (.degLimitExpired ch) s = .next
          ((s.mod ch (fun c => { c with reint := { c.reint with barred := true } })).safeShutdown ch causeDegLimit) :=
        if_pos (by simp [c, hr, hv, hm, hd, ht])
      obtain ⟨hmode, hhigh, hlow, h1, h2, -⟩ := State.safeShutdown_shuts
        (s := s.mod ch (fun c => { c with reint := { c.reint with barred := true } })) (cause := causeDegLimit)
        (by rw [State.mod_ch]; exact hm)
      refine ⟨_, hexec, hmode, ?_, hhigh, hlow, h1, h2⟩
      rw [State.safeShutdown_reint, State.mod_ch]
    · exact if_neg (by rcases h with h | h <;> simp [c] at h ⊢ <;> omega)
    · show execDegCountReset ch s = _
      rw [execDegCountReset, State.onLive_eq _ hl]
      exact congrArg (fun x => Host.Outcome.next (s.put ch x)) (if_pos (by simp [c, hr, hm, hg]))

end Sys2Proof.Machine

/-! PROOFS. Reintegration (spec/06 R176 to R179, spec/04 R112): the attempt, what its sources do, and the start of probation. -/

namespace Sys2Proof.Machine

open Sys2Proof

/-! ### Memory rewritten (R77, R85, R87, R323) -/

/-- A channel but for its memory and its tiles. -/
def Chan.besideMem (c : Chan) : Chan := { c with mem := default, tiles := default }

theorem Chan.eq_of_besideMem {c d : Chan} (h : d.besideMem = c.besideMem) : d = { c with mem := d.mem, tiles := d.tiles } :=
  calc d = { d.besideMem with mem := d.mem, tiles := d.tiles } := rfl
    _ = { c.besideMem with mem := d.mem, tiles := d.tiles } := congrArg (fun (x : Chan) => { x with mem := d.mem, tiles := d.tiles }) h
    _ = { c with mem := d.mem, tiles := d.tiles } := rfl

/-- A rewriting step changes memory and tiles alone, and where no tile is marked it marks none. -/
structure Chan.Rewrites (c d : Chan) : Prop where
  beside : d.besideMem = c.besideMem
  marks : c.tiles.marks = [] → d.tiles.marks = []

namespace Chan.Rewrites

variable {c d e : Chan}

theorem refl (c : Chan) : c.Rewrites c := ⟨rfl, id⟩

theorem trans (h : c.Rewrites d) (k : d.Rewrites e) : c.Rewrites e := ⟨k.beside.trans h.beside, k.marks ∘ h.marks⟩

theorem foldl {α : Type} {f : Chan → α → Chan} (h : ∀ c a, Chan.Rewrites c (f c a)) (l : List α) (c : Chan) :
    c.Rewrites (l.foldl f c) := by
  induction l generalizing c with
  | nil => exact refl c
  | cons a l ih => exact (h c a).trans (ih (f c a))

end Chan.Rewrites

theorem Chan.rewrite_rewrites (c : Chan) (lo len : Nat) : c.Rewrites (c.rewrite lo len) := ⟨rfl, id⟩

theorem Chan.rewriteSlot_rewrites (c : Chan) (i : Nat) : c.Rewrites (c.rewriteSlot i) := by
  refine ⟨rfl, fun h => ?_⟩
  show tabDel c.tiles.marks i = []
  rw [h]
  rfl

theorem Chan.rebuildMaster_rewrites (c : Chan) (v : Variant) (g : Image) (i : Nat) : c.Rewrites (c.rebuildMaster v g i) := by
  unfold Chan.rebuildMaster
  split
  · exact .refl c
  · exact c.rewrite_rewrites _ _

theorem Chan.writeStates_rewrites (c : Chan) (v : Variant) : c.Rewrites (c.writeStates v) := by
  unfold Chan.writeStates
  split
  · exact .refl c
  · exact .foldl (fun c i => (c.rewriteSlot_rewrites i).trans (Chan.rebuildMaster_rewrites _ v _ i)) _ c

theorem Chan.buildStore_marks (c : Chan) (v : Variant) : (c.buildStore v).tiles.marks = [] := rfl

theorem Chan.buildStore_rewrites (c : Chan) (v : Variant) : c.Rewrites (c.buildStore v) := ⟨rfl, fun _ => c.buildStore_marks v⟩

/-- The state tiles stamped: the GEN expected, and memory. -/
theorem Chan.stampStates_eq (c : Chan) (v : Variant) (gen : Nat) :
    ∃ m ts, c.stampStates v gen = { c with res := { c.res with gen := gen % 8 }, mem := m, tiles := ts } ∧
      (c.tiles.marks = [] → ts.marks = []) := by
  have h := Chan.writeStates_rewrites ({ c with res := { c.res with gen := gen % 8 } } : Chan) v
  exact ⟨_, _, Chan.eq_of_besideMem h.beside, h.marks⟩

theorem Chan.takePages_eq (c : Chan) (pages : List (Nat × List Word)) (prev : Nat → Nat) :
    ∃ b d, c.takePages pages prev = { c with blocks := b, doors := d } ∧ b.exch = c.blocks.exch ∧
      ∀ g, c.image = some g → b.insts = g.insts.map (fun d => instOfPages pages (prev d.task) d) := by
  unfold Chan.takePages
  split
  · next h => exact ⟨_, _, rfl, rfl, fun g hg => by rw [h] at hg; cases hg⟩
  · next im h => exact ⟨_, _, rfl, rfl, fun g hg => by rw [h] at hg; cases hg; rfl⟩

/-- A block read out of no pages stands as at its first run but for FIRST, every word at 0. -/
theorem instOfPages_nil (prev : Nat) (d : InstDef) :
    (instOfPages [] prev d).first = false ∧ ∀ w ∈ (instOfPages [] prev d).fields, w = 0 := by
  have hz : ∀ w ∈ recordOfPages [] d, w = 0 := by
    intro w hw
    obtain ⟨k, -, rfl⟩ := List.mem_map.mp hw
    rfl
  have hw : wordAt (recordOfPages [] d) 3 = 0 := by
    unfold wordAt
    rw [List.getD_eq_getElem?_getD]
    cases h : (recordOfPages [] d)[3]? with
    | none => rfl
    | some w => exact hz w (List.mem_of_getElem? h)
  refine ⟨?_, fun w h => hz w (List.drop_subset _ _ (List.take_subset _ _ h))⟩
  show (wordAt (recordOfPages [] d) 3).getLsbD 0 = false
  rw [hw]
  rfl

/-! ### The attempt (R176, R177, R179) -/

/-- The channel with firmware area, page tables, tile store and master copy rebuilt and its block data cleared. -/
def Chan.prepared (c : Chan) (v : Variant) : Chan :=
  let c := (((c.rewrite 0x40000000 0x900000).takePages [] (fun _ => 0)).writeInstances v).buildStore v
  c.stampStates v c.mainCycle

theorem Chan.buildStore_eq (c : Chan) (v : Variant) :
    ∃ m ts, (c.writeInstances v).buildStore v = { c with mem := m, tiles := ts } ∧ ts.marks = [] :=
  ⟨_, _, Chan.eq_of_besideMem ((c.rewrite_rewrites _ _).trans (Chan.buildStore_rewrites _ v)).beside,
    Chan.buildStore_marks _ v⟩

theorem Chan.prepared_eq (c : Chan) (v : Variant) :
    ∃ b d m ts, c.prepared v = { c with
        blocks := b, doors := d, mem := m, tiles := ts, res := { c.res with gen := c.mainCycle % 8 } } ∧ ts.marks = [] ∧
      ∀ g, c.image = some g → b.insts = g.insts.map (fun d => instOfPages [] 0 d) := by
  obtain ⟨b, d, ht, -, hi⟩ := (c.rewrite 0x40000000 0x900000).takePages_eq [] (fun _ => 0)
  obtain ⟨m0, h0⟩ : ∃ m, c.rewrite 0x40000000 0x900000 = { c with mem := m } := ⟨_, rfl⟩
  unfold Chan.prepared
  rw [ht]
  rw [h0] at hi ⊢
  obtain ⟨m1, t1, h1, hm1⟩ := ({ c with mem := m0, blocks := b, doors := d } : Chan).buildStore_eq v
  dsimp only at h1 ⊢
  rw [h1]
  obtain ⟨m, ts, hs, hm⟩ := ({ c with mem := m1, tiles := t1, blocks := b, doors := d } : Chan).stampStates_eq v c.mainCycle
  exact ⟨b, d, m, ts, hs, hm hm1, hi⟩

theorem Chan.failAttempt_fails {c : Chan} (me : Ch) (cause : Nat) (h0 : c.reint.phase ≠ 0) (h5 : c.reint.phase ≠ 5) :
    (c.failAttempt me cause).reint.phase = 5 ∧ (c.failAttempt me cause).reint.triesLeft = c.reint.triesLeft - 1 ∧
      (c.failAttempt me cause).vote.inVote = c.vote.inVote ∧ ∀ k ∈ (c.failAttempt me cause).tasks, k.running = false := by
  obtain ⟨hp, hi⟩ := c.failAttempt_phase me cause
  rw [if_neg h0] at hp
  refine ⟨hp, ?_, hi, ?_⟩
  all_goals
    unfold Chan.failAttempt
    rw [if_neg (by simp [h0, h5])]
    dsimp only
    rw [Chan.emit_eq]
  · show (Chan.xsendBoth _ _ _).reint.triesLeft = _
    rw [Chan.xsendBoth_reint]
  · show ∀ k ∈ (Chan.xsendBoth _ _ _).tasks, _
    rw [Chan.xsendBoth, Chan.xsend_tasks, Chan.xsend_tasks]
    exact stopRun_not_running _

/-! ### At a source (R177 to R179) -/

/-- What sends pages changes what waits for the exchange link alone. -/
theorem Chan.sendPages_eq (x : Ch) (ns : List Nat) (c : Chan) :
    (c.sendPages x ns).reint = c.reint ∧ (c.sendPages x ns).besideSigns = c.besideSigns :=
  ⟨foldl_view (g := Chan.reint) (fun c _ => c.xsend_reint x _) ns c,
    foldl_view (g := Chan.besideSigns) (fun c _ => c.xsend_besideSigns x _) ns c⟩

theorem Chan.flushPages_reint (c : Chan) :
    ∃ a b, c.flushPages.reint = { c.reint with toSend := a, dirty := b } ∧ c.flushPages.besideSigns = c.besideSigns := by
  unfold Chan.flushPages
  split
  · exact ⟨_, _, rfl, rfl⟩
  · next x _ =>
    split
    · exact ⟨_, _, rfl, rfl⟩
    · extract_lets ns r d
      obtain ⟨h1, h2⟩ := Chan.sendPages_eq x ns d
      exact ⟨_, _, h1, h2⟩

theorem Chan.serve_serves (c : Chan) (me x : Ch) (n : Nat) :
    (c.serve me x n).reint.source = some x ∧ (c.serve me x n).reint.attempt = n ∧ (c.serve me x n).reint.join = none ∧
      (c.serve me x n).vote.inVote = c.vote.inVote := by
  unfold Chan.serve
  extract_lets r d
  obtain ⟨a, b, hr, hs⟩ := d.flushPages_reint
  rw [hr]
  exact ⟨rfl, rfl, rfl, (congrArg (fun (x : Chan) => x.vote.inVote) hs :)⟩

theorem Chan.endSource_ends {c : Chan} {x : Ch} (h : c.reint.source = some x) :
    c.endSource.reint.source = none ∧ c.endSource.reint.join = none := by
  unfold Chan.endSource
  rw [h]
  exact ⟨rfl, rfl⟩

/-! ### The start of probation (R177) -/

section

variable {s : State} {ch : Ch}

/-- The vital state taken over, field by field. -/
theorem Chan.adopt_adopts (c : Chan) (v : Variant) (x : StateXfer) (pages : List (Nat × List Word)) (j : Nat) :
    (c.adopt v x pages j).res.estate = x.estate ∧ (c.adopt v x pages j).res.rstate = x.rstate ∧
      (c.adopt v x pages j).params.active = x.active ∧ (c.adopt v x pages j).vote = c.vote ∧
      (c.adopt v x pages j).mainCycle = c.mainCycle ∧ (c.adopt v x pages j).din = c.din := by
  unfold Chan.adopt
  extract_lets ticks held r res a pp b q d
  obtain ⟨m, ts, hs, -⟩ := (d.writeInstances v).stampStates_eq v d.mainCycle
  obtain ⟨b', d', ht, -⟩ := c.takePages_eq pages (fun t => c.cycleNumber t j 0 - 1)
  have ha : a = { c with blocks := b', doors := d' } := ht
  have hv : d.vote = c.vote ∧ d.mainCycle = c.mainCycle ∧ d.din = c.din := by
    show a.vote = _ ∧ a.mainCycle = _ ∧ a.din = _
    rw [ha]
    exact ⟨rfl, rfl, rfl⟩
  rw [hs]
  exact ⟨rfl, rfl, rfl, hv⟩

/-- The channel on the state taken, in probation. -/
def Chan.inProbation (c : Chan) (me : Ch) (v : Variant) (x : StateXfer) (j : Nat) : Chan :=
  let d := c.adopt v x c.reint.pages j
  { d with
    reint := { d.reint with phase := 4, agreed := 0, pages := [], taken := none }
    vote := { d.vote with probation := putBit d.vote.probation me.code true } }

theorem State.startProbation_others (x : StateXfer) (j : Nat) : ∀ y, y ≠ ch → (s.startProbation ch x j).ch y = s.ch y := by
  intro y hy
  unfold State.startProbation
  extract_lets v t c u
  have ht : t.ch y = s.ch y := State.mod_ch_ne _ _ hy
  have hu : u.ch y = s.ch y := ((t.releaseTasks_actsAt ch j 0).others y hy).trans ht
  split
  · split
    · exact hu
    · exact (State.mod_ch_ne _ _ hy).trans hu
  · exact ht

/-- Probation begun away from the instant of J: nothing is released with it. -/
theorem State.startProbation_later {x : StateXfer} {j : Nat} (h : (s.ch ch).mainCycle ≠ j ∨ (s.ch ch).din.offset ≠ 0) :
    s.startProbation ch x j = s.put ch ((s.ch ch).inProbation ch s.factory.variant x j) := by
  obtain ⟨-, -, -, -, hm, hd⟩ := (s.ch ch).adopt_adopts s.factory.variant x (s.ch ch).reint.pages j
  unfold State.startProbation
  extract_lets v t c u
  have hc : c = (s.ch ch).inProbation ch s.factory.variant x j := State.mod_ch _ _ _
  rw [if_neg ?_]
  · rfl
  · rw [hc]
    show ¬ (((s.ch ch).adopt s.factory.variant x (s.ch ch).reint.pages j).mainCycle == j &&
      ((s.ch ch).adopt s.factory.variant x (s.ch ch).reint.pages j).din.offset == 0) = true
    rw [hm, hd]
    rcases h with h | h <;> simp [h]

theorem State.tryProbation_waits (h : ((s.ch ch).reint.phase ≠ 3 ∨ (s.ch ch).reint.taken = none ∨
    (s.ch ch).reint.acks.get ch.next = false ∨ (s.ch ch).reint.acks.get ch.prev = false ∨ (s.ch ch).pagesMissing ≠ 0)) :
    s.tryProbation ch = s := by
  unfold State.tryProbation
  dsimp only
  split
  · next x j hx hj hb =>
    simp only [Bool.and_eq_true, beq_iff_eq] at hb
    obtain ⟨⟨⟨h3, hn⟩, hp⟩, hm⟩ := hb
    rcases h with h | h | h | h | h
    · exact absurd h3 h
    · rw [h] at hx
      cases hx
    · rw [h] at hn
      cases hn
    · rw [h] at hp
      cases hp
    · exact absurd hm h
  · rfl

theorem State.tryProbation_starts {x : StateXfer} {j : Nat} (h3 : (s.ch ch).reint.phase = 3) (hx : (s.ch ch).reint.taken = some x)
    (hj : (s.ch ch).reint.join = some j) (hn : (s.ch ch).reint.acks.get ch.next = true)
    (hp : (s.ch ch).reint.acks.get ch.prev = true) (hm : (s.ch ch).pagesMissing = 0) :
    s.tryProbation ch = s.startProbation ch x j := by
  unfold State.tryProbation
  dsimp only
  rw [hx, hj, h3, hn, hp, hm]
  rfl

end

/-! ### The rows -/

section

variable {s : State} {ch frm : Ch} {l : Link}

/-- An attempt begins (R176). -/
def Chan.attemptBegun (c : Chan) : Chan :=
  { c with
    reint :=
      { c.reint with
        phase := 1, attempt := c.reint.attempt + 1, asked := false, acks := Tri.const false, pages := [], taken := none
        again := [], agreed := 0, join := none, judged := none, source := none, pagesLeft := c.pagesInUse.length } }

theorem exec_reintStart (hl : (s.ch ch).live = true) (hm : (s.ch ch).mayReintegrate ch = true)
    (hp : (s.ch ch).past (s.ch ch).reint.since (bits ((s.ch ch).act 0x0C05) 15 8 * 1000000) = true) :
    exec (.reintStart ch) s = .next (s.put ch (s.ch ch).attemptBegun) := by
  show execReintStart ch s = _
  rw [execReintStart, State.onLive_eq _ hl, if_pos (by rw [hm, hp]; rfl)]
  rfl

theorem exec_reintPrepareDone (hl : (s.ch ch).live = true) (hr : (s.ch ch).running = true) (hp : (s.ch ch).reint.phase = 1)
    (ha : (s.ch ch).reint.asked = false) :
    exec (.reintPrepareDone ch) s = .next (s.put ch
      (({ (s.ch ch).prepared s.factory.variant with
          reint := { ((s.ch ch).prepared s.factory.variant).reint with
            asked := true, since := ((s.ch ch).prepared s.factory.variant).clock } } : Chan).xsendBoth ch
        (.reintReq false ((s.ch ch).prepared s.factory.variant).reint.attempt))) := by
  show execReintPrepareDone ch s = _
  unfold execReintPrepareDone
  dsimp only
  rw [State.onLive_eq _ hl, if_pos (by simp [hr, hp, ha])]
  rfl

theorem exec_reintTimeout (hl : (s.ch ch).live = true) (hp : (s.ch ch).reint.phase = 1 ∨ (s.ch ch).reint.phase = 2)
    (ha : (s.ch ch).reint.asked = true)
    (ht : (s.ch ch).past (s.ch ch).reint.since (bits ((s.ch ch).act 0x0C05) 30 24 * 1000000) = true) :
    exec (.reintTimeout ch) s = .next (s.put ch ((s.ch ch).failAttempt ch 2)) := by
  show execReintTimeout ch s = _
  rw [execReintTimeout, State.onLive_eq _ hl, if_pos (by rcases hp with h | h <;> simp [h, ha, ht])]

/-- What REINT_PREPARE_DONE leaves: the tiles unmarked, the request asked, the GEN expected, the block data. -/
theorem exec_reintPrepareDone_leaves (hl : (s.ch ch).live = true) (hr : (s.ch ch).running = true)
    (hp : (s.ch ch).reint.phase = 1) (ha : (s.ch ch).reint.asked = false) :
    ∃ t, exec (.reintPrepareDone ch) s = .next t ∧ s.OnlyAt t ch ∧ (t.ch ch).tiles.marks = [] ∧
      (t.ch ch).reint = { (s.ch ch).reint with asked := true, since := (s.ch ch).clock } ∧
      (t.ch ch).res.gen = (s.ch ch).mainCycle % 8 ∧
      (∀ g, (s.ch ch).image = some g → (t.ch ch).blocks.insts = g.insts.map (fun d => instOfPages [] 0 d)) ∧
      ((s.ch ch).split = false →
        (∃ q ∈ (t.ch ch).xout, q.dst = ch.next ∧ q.msg = .reintReq false (s.ch ch).reint.attempt) ∧
        (∃ q ∈ (t.ch ch).xout, q.dst = ch.prev ∧ q.msg = .reintReq false (s.ch ch).reint.attempt)) := by
  obtain ⟨b, d, m, ts, hprep, hmarks, hinsts⟩ := (s.ch ch).prepared_eq s.factory.variant
  refine ⟨_, exec_reintPrepareDone hl hr hp ha, .put _ _ _, ?_⟩
  rw [State.put_ch, hprep]
  dsimp only
  refine ⟨?_, Chan.xsendBoth_reint _ _ _, ?_, fun g hg => ?_, fun h => Chan.xsendBoth_reaches ch h rfl⟩
  · rw [Chan.xsendBoth_tiles]
    exact hmarks
  · rw [Chan.xsendBoth_res]
  · rw [Chan.xsendBoth_blocks]
    exact hinsts g hg

theorem exec_page (hn : ch ≠ frm) (hl : (s.ch ch).live = true) {page : Nat} {data : List Word}
    (ht : (s.ch ch).TakesFrom frm l (.page page data)) (hc : ((s.ch ch).readFrom frm l).copying = true) :
    let c := (s.ch ch).readFrom frm l
    let d : Chan := { c with reint := { c.reint with pages := tabPut c.reint.pages page data } }
    exec (.page ch frm l page data) s =
      .next ((s.put ch { d with reint := { d.reint with pagesLeft := d.pagesMissing } }).tryProbation ch) := by
  intro c d
  show execPage ch frm l page data s = _
  unfold execPage
  dsimp only
  rw [if_neg (by simp [hn, hl]), Chan.receive_of_takes ht, if_neg (by rw [hc]; decide)]
  rfl

theorem exec_join (hn : ch ≠ frm) (hl : (s.ch ch).live = true) {cycle pages : Nat}
    (ht : (s.ch ch).TakesFrom frm l (.join cycle pages))
    (hp : ((s.ch ch).readFrom frm l).reint.phase = 2 ∨ ((s.ch ch).readFrom frm l).reint.phase = 3) :
    let c := (s.ch ch).readFrom frm l
    let acks := if c.reint.join = some cycle then c.reint.acks else Tri.const false
    let d : Chan := { c with
      reint := { c.reint with phase := 3, join := some cycle, acks := acks.set frm true, finalPages := pages } }
    exec (.join ch frm l cycle pages) s = .next ((s.put ch d).tryProbation ch) := by
  intro c acks d
  show execJoin ch frm l cycle pages s = _
  unfold execJoin
  dsimp only
  rw [if_neg (by simp [hn, hl]), Chan.receive_of_takes ht]
  dsimp only
  rw [if_pos (by rcases hp with h | h <;> simp [h])]
  simp only [beq_iff_eq]
  rfl

end

/-- Settles O35: the attempt at the channel, what comes over the exchange links, and a page that is refused. -/
theorem reintegrationRunsItsPhases : Obligations.ReintegrationRunsItsPhases := by
  unfold Obligations.ReintegrationRunsItsPhases
  refine ⟨fun s ch hl => ?_, fun s ch frm l hn hl => ?_, fun s ch frm l page data hn hl hs hb hf hcrc hc => ?_⟩
  · intro c r delayOver timeOver
    refine ⟨fun hr hso hv hba ho hp hcm ht hbi h1 h2 he hd => ?_, fun h => ?_, fun hr hs hp ha => ?_,
      fun g hr hp ha hg => ?_, fun hp ha ht => ?_, fun h => ?_⟩
    · refine exec_reintStart hl ?_ hd
      have hcm' : ((c.act 0x0C05).testBit 31 || c.reint.commanded) = true := by
        rcases hcm with h | h <;> rw [h] <;> simp
      have hp' : (c.reint.phase == 0 || c.reint.phase == 5) = true := by
        rcases hp with h | h <;> rw [h] <;> simp
      have he' : (c.blocks.exch == 0 || c.blocks.exch == 4 || c.blocks.exch == 5) = true := by
        rcases he with h | h | h <;> rw [h] <;> simp
      have hba' : c.reint.barred = false := hba
      have ht' : 0 < c.reint.triesLeft := ht
      show Chan.mayReintegrate c ch = true
      unfold Chan.mayReintegrate
      rw [hr, hso, hv, hba', ho, hp', hcm', decide_eq_true ht', hbi, h1, h2, he']
      rfl
    · refine congrArg Host.Outcome.next (State.onLive_same (if_neg ?_))
      rcases h with h | h | h | h
      · simp [Chan.mayReintegrate, show (s.ch ch).votes ch = true from h]
      · simp [Chan.mayReintegrate, show (s.ch ch).reint.barred = true from h]
      · simp [Chan.mayReintegrate, show (s.ch ch).reint.triesLeft = 0 from h]
      · simp [show (s.ch ch).past (s.ch ch).reint.since (bits ((s.ch ch).act 0x0C05) 15 8 * 1000000) = false from h]
    · obtain ⟨t, hexec, honly, hmarks, hreint, hgen, -, hsent⟩ := exec_reintPrepareDone_leaves hl hr hp ha
      exact ⟨t, hexec, honly, hmarks, hreint, hgen, hsent hs⟩
    · obtain ⟨t, hexec, -, -, -, -, hinsts, -⟩ := exec_reintPrepareDone_leaves hl hr hp ha
      refine ⟨t, hexec, fun i hi => ?_⟩
      rw [hinsts g hg] at hi
      obtain ⟨d, -, rfl⟩ := List.mem_map.mp hi
      exact instOfPages_nil 0 d
    · refine ⟨_, exec_reintTimeout hl hp ha ht, .put _ _ _, ?_⟩
      rw [State.put_ch]
      exact Chan.failAttempt_fails ch 2 (by rcases hp with h | h <;> exact fun h0 => by simp [r, c, h0] at h)
        (by rcases hp with h | h <;> exact fun h0 => by simp [r, c, h0] at h)
    · refine congrArg Host.Outcome.next (State.onLive_same (if_neg ?_))
      rcases h with ⟨h1, h2⟩ | h | h
      · simp [show (s.ch ch).reint.phase ≠ 1 from h1, show (s.ch ch).reint.phase ≠ 2 from h2]
      · simp [show (s.ch ch).reint.asked = false from h]
      · simp [show (s.ch ch).past (s.ch ch).reint.since (bits ((s.ch ch).act 0x0C05) 30 24 * 1000000) = false from h]
  · intro c
    have hsplit {m : XMsg} (ht : (s.ch ch).TakesFrom frm l m) : c.split = false := ht.split
    refine ⟨?_, ?_, ?_, ?_, ?_⟩
    · intro n ht hr hv hvf hm
      have hexec : exec (.reintReq ch frm l false n) s =
          .next (s.put ch (if c.blocks.exch == 3 then c.xsend frm (.reintReq true n) else c.serve ch frm n)) := by
        show execReintReq ch frm l false n s = _
        rw [execReintReq, State.taken_of_takes _ hn hl ht, if_neg (by rw [hr]; decide), if_neg (by decide),
          if_pos (by rw [hv, hvf, hm]; rfl)]
      refine ⟨fun h => ?_, fun h => ?_⟩
      · rw [if_neg (by simpa using h)] at hexec
        refine ⟨_, hexec, .put _ _ _, ?_⟩
        rw [State.put_ch]
        exact c.serve_serves ch frm n
      · rw [if_pos (by simpa using h)] at hexec
        refine ⟨_, hexec, .put _ _ _, ?_⟩
        rw [State.put_ch]
        refine ⟨Chan.xsend_reint _ _ _, ?_⟩
        rw [Chan.xsend_vote _ (hsplit ht) rfl]
        exact ⟨_, List.mem_append_right _ (List.mem_singleton.mpr rfl), rfl, rfl⟩
    · intro n ht hr
      have hexec : exec (.reintReq ch frm l true n) s =
          .next (s.put ch (if c.reint.source == some frm then c.endSource else if c.votes ch then c else c.failAttempt ch 4)) := by
        show execReintReq ch frm l true n s = _
        rw [execReintReq, State.taken_of_takes _ hn hl ht, if_neg (by rw [hr]; decide), if_pos rfl]
      refine ⟨fun h => ?_, fun h hv => ?_, fun h hv h0 h5 => ?_⟩
      · rw [if_pos (by simpa using h)] at hexec
        refine ⟨_, hexec, .put _ _ _, ?_⟩
        rw [State.put_ch]
        exact Chan.endSource_ends h
      · rw [hexec, if_neg (by simpa using h), if_pos hv]
      · rw [if_neg (by simpa using h), if_neg (by rw [hv]; decide)] at hexec
        refine ⟨_, hexec, .put _ _ _, ?_⟩
        rw [State.put_ch]
        obtain ⟨g1, g2, -⟩ := Chan.failAttempt_fails ch 4 h0 h5
        exact ⟨g1, g2⟩
    · intro page data ht hc d h
      refine (exec_page hn hl ht hc).trans (congrArg Host.Outcome.next (State.tryProbation_waits ?_))
      rw [State.put_ch]
      exact h
    · intro x ht hc
      have hexec : exec (.stateTransfer ch frm l x) s =
          .next (s.put ch (if x.exch == 3 then c.failAttempt ch 5 else { c with reint := { c.reint with taken := some x } })) := by
        show execStateTransfer ch frm l x s = _
        rw [execStateTransfer, State.taken_of_takes _ hn hl ht, if_pos hc]
      refine ⟨fun h => ?_, fun h => ?_⟩
      · rw [hexec, if_neg (by simpa using h)]
      · rw [if_pos (by simpa using h)] at hexec
        refine ⟨_, hexec, .put _ _ _, ?_⟩
        rw [State.put_ch, (c.failAttempt_phase ch 5).1, if_neg ?_]
        intro h0
        rw [Chan.copying, h0] at hc
        exact absurd hc (by simp)
    · intro cycle pages ht hp acks d
      have hexec := exec_join hn hl ht hp
      refine ⟨fun h => ?_, fun x hx h1 h2 hm => ?_⟩
      · refine hexec.trans (congrArg Host.Outcome.next (State.tryProbation_waits ?_))
        rw [State.put_ch]
        exact .inr h
      · have hstart : (s.put ch d).tryProbation ch = (s.put ch d).startProbation ch x cycle := by
          have hd : (s.put ch d).ch ch = d := State.put_ch _ _ _
          exact State.tryProbation_starts (by rw [hd]) (by rw [hd, hx]) (by rw [hd]) (by rw [hd, h1]) (by rw [hd, h2])
            (by rw [hd, hm])
        have hexec : exec (.join ch frm l cycle pages) s = .next ((s.put ch d).startProbation ch x cycle) :=
          hexec.trans (congrArg Host.Outcome.next hstart)
        refine ⟨⟨_, hexec, fun y hy => (State.startProbation_others x cycle y hy).trans (State.put_ch_ne _ _ hy)⟩, fun h => ?_⟩
        refine ⟨_, hexec, ?_⟩
        rw [State.startProbation_later (by rw [State.put_ch]; exact h), State.put_ch, State.put_ch]
        obtain ⟨g1, g2, g3, g4, -, -⟩ := d.adopt_adopts (s.put ch d).factory.variant x d.reint.pages cycle
        refine ⟨rfl, ?_, g1, g2, g3, ?_⟩
        · exact (putBit_getLsbD _ _ _ _ (by cases ch <;> decide)).trans (if_pos rfl)
        · show (d.adopt (s.put ch d).factory.variant x d.reint.pages cycle).vote.inVote = d.vote.inVote
          rw [g4]
  · have hrec := Chan.receive_corrupt (c := s.ch ch) (m := .page page data) (frm := frm) hs hb hf
      (.inl (by simp [Link.intact, hcrc]))
    have hexec : exec (.page ch frm l page data) s = .next (s.put ch
        (let c := ((s.ch ch).receive frm l (.page page data)).1
         { c with reint := { c.reint with again := (c.reint.again ++ [page]).eraseDups } })) := by
      show execPage ch frm l page data s = _
      unfold execPage
      dsimp only
      rw [if_neg (by simp [hn, hl]), hrec]
      dsimp only
      rw [if_neg (by show ¬ (!(s.ch ch).copying) = true; rw [hc]; decide), if_neg (by decide),
        if_neg (by rw [hf]; decide)]
    refine ⟨_, hexec, .put _ _ _, ?_⟩
    rw [State.put_ch, hrec]
    exact ⟨rfl, rfl, Tri.get_set_self _ _ _⟩

end Sys2Proof.Machine

/-! PROOFS. Output tests, sags and returns to service (spec/07 R190 to R200, R203, R207). -/

namespace Sys2Proof.Machine

open Sys2Proof

/-! ### Groups of outputs -/

theorem groupMask_getLsbD : ∀ g < 4, ∀ n < 32, (groupMask g).getLsbD n = decide (groupOf n = g) := by
  decide

/-- The outputs outside a group, bit by bit. -/
theorem and_not_groupMask_getLsbD (w : Word) {g n : Nat} (hg : g < 4) (hn : n < 32) :
    (w &&& ~~~(groupMask g)).getLsbD n = (w.getLsbD n && !decide (groupOf n = g)) := by
  rw [BitVec.getLsbD_and, BitVec.getLsbD_not, groupMask_getLsbD g hg n hn]
  simp [hn]

theorem mem_groupOuts {g n : Nat} (h : groupOf n = g) : n ∈ groupOuts g := by
  unfold groupOf at h
  refine List.mem_map.mpr ⟨n % 8, List.mem_range.mpr (Nat.mod_lt _ (by decide)), ?_⟩
  omega

theorem lookup_tabDel {α : Type} (t : List (Nat × α)) {k n : Nat} (h : n ≠ k) : (tabDel t k).lookup n = t.lookup n := by
  unfold tabDel
  induction t with
  | nil => rfl
  | cons e t ih =>
    rw [List.filter_cons]
    by_cases he : e.1 = k
    · have hne : (n == e.1) = false := by simpa [he] using h
      rw [if_neg (by simp [he]), ih, List.lookup_cons, hne]
    · rw [if_pos (by simp [he]), List.lookup_cons, List.lookup_cons, ih]

theorem lookup_tabPut_self {α : Type} (t : List (Nat × α)) (k : Nat) (x : α) : (tabPut t k x).lookup k = some x := by
  simp [tabPut]

theorem lookup_tabPut_ne {α : Type} (t : List (Nat × α)) {k n : Nat} (x : α) (h : n ≠ k) :
    (tabPut t k x).lookup n = t.lookup n := by
  unfold tabPut
  rw [List.lookup_cons, beq_false_of_ne h]
  exact lookup_tabDel t h

theorem lookup_foldl_tabPut {α : Type} {x : α} {n : Nat} (ns : List Nat) (t : List (Nat × α))
    (h : n ∈ ns ∨ t.lookup n = some x) : (ns.foldl (fun t k => tabPut t k x) t).lookup n = some x := by
  induction ns generalizing t with
  | nil => exact h.resolve_left (List.not_mem_nil)
  | cons k ns ih =>
    refine ih _ ?_
    by_cases hk : n = k
    · subst hk
      exact .inr (lookup_tabPut_self t n x)
    · rw [lookup_tabPut_ne t x hk]
      exact h.imp_left fun hm => (List.mem_cons.mp hm).resolve_left hk

/-! ### On-test currents and low-side switches (R190, R191) -/

theorem Chan.inService_getLsbD (c : Chan) {g : Nat} (h : g < 4) :
    c.inService.getLsbD g = !(c.nv.groupLocked.getLsbD g || c.dout.sag.getLsbD g || c.dout.sagLatch.getLsbD g) := by
  unfold Chan.inService
  rw [BitVec.getLsbD_not, BitVec.getLsbD_or, BitVec.getLsbD_or]
  simp [h]

/-- The on-test currents set anew: those of a group out of service are removed, the switches stay. -/
theorem Chan.setOnTest_eq (c : Chan) :
    ∃ w, c.setOnTest = { c with dout := { c.dout with onTestOff := w } } ∧
      ∀ n, n < 32 → c.inService.getLsbD (groupOf n) = false → w.getLsbD n = true := by
  refine ⟨_, rfl, fun n hn h => ?_⟩
  have hm : (groupsMask (~~~c.inService)).getLsbD n = (~~~c.inService).getLsbD (groupOf n) :=
    buildBits_getLsbD (n := 32) (fun n => (~~~c.inService).getLsbD (groupOf n)) hn
  have hg : groupOf n < 4 := by
    unfold groupOf
    omega
  rw [BitVec.getLsbD_or, hm, BitVec.getLsbD_not, h]
  simp [hg]

theorem Chan.setLowSide_of_fail {c : Chan} (h : c.supply.powerFail = true) : c.setLowSide = c := if_pos h

theorem Chan.setLowSide_eq {c : Chan} (h : c.supply.powerFail = false) :
    ∃ w, c.setLowSide = { c with dout := { c.dout with lowSide := c.inService, onTestOff := w } } := by
  obtain ⟨w, hw, -⟩ := Chan.setOnTest_eq ({ c with dout := { c.dout with lowSide := c.inService } } : Chan)
  exact ⟨w, (if_neg (by rw [h]; decide)).trans hw⟩

/-! ### The rows -/

section

variable {s : State} {ch : Ch}

theorem exec_offTestPulse {n : Nat} {pair : Pair} {sweep : Option Bool} {dip cut : Bool} (hl : (s.ch ch).live = true)
    (hr : (s.ch ch).running = true) (hd : (s.ch ch).stageDrives ch = true)
    (hu : (s.ch ch).dout.plan.contains (useOf n pair sweep.isSome) = true) (hp : sweep = none ∨ pair = .ab)
    (hc : cut = true ∨ ((s.ch ch).dout.on.getLsbD n = true ∧ s.hedgehog.copy1 = false ∧ s.hedgehog.copy2 = false)) :
    exec (.offTestPulse ch n pair sweep dip cut) s = .next (s.put ch
      (({ s.ch ch with
          dout := { (s.ch ch).dout with plan := passedTo (useOf n pair sweep.isSome) (s.ch ch).dout.plan } } : Chan).pulse
        n pair sweep dip cut)) := by
  show execOffTestPulse ch n pair sweep dip cut s = _
  unfold execOffTestPulse
  dsimp only
  have hp' : (sweep.isNone || pair == .ab) = true := by
    rcases hp with h | h <;> simp [h]
  have hc' : (cut || ((s.ch ch).dout.on.getLsbD n && !(s.hedgehog.copy1 || s.hedgehog.copy2))) = true := by
    rcases hc with h | ⟨h, h1, h2⟩
    · simp [h]
    · simp [h, h1, h2]
  rw [State.onLive_eq _ hl, if_pos (by rw [hr, hd, hu, hp', hc']; rfl)]

theorem exec_offTestPulse_same {n : Nat} {pair : Pair} {sweep : Option Bool} {dip cut : Bool}
    (h : (s.ch ch).dout.plan.contains (useOf n pair sweep.isSome) = false ∨ (cut = false ∧ (s.ch ch).dout.on.getLsbD n = false)) :
    exec (.offTestPulse ch n pair sweep dip cut) s = .next s := by
  refine congrArg Host.Outcome.next (State.onLive_same (if_neg ?_))
  rcases h with h | ⟨h, h'⟩
  · rw [h]
    simp
  · rw [h, h']
    simp

/-- A pulse made: what it leaves of the outputs' record. -/
theorem Chan.pulse_leaves (c : Chan) (n : Nat) (pair : Pair) (sweep : Option Bool) (dip cut : Bool) :
    let o := c.dout
    let d := (c.pulse n pair sweep dip cut).dout
    d.pulseCnt = inc 16 o.pulseCnt ∧ d.high = o.high ∧ d.lowSide = o.lowSide ∧ d.plan = o.plan ∧
      d.tpgLast =
        w32 (n + bitAt sweep.isSome 5 + pair.code * 2 ^ 8 + (if cut then 3 else if dip then 1 else 2) * 2 ^ 12 +
          c.mainCycle % 65536 * 2 ^ 16) ∧
      d.pulseFail = (if !cut && !dip then inc 16 o.pulseFail else o.pulseFail) ∧
      d.pulsed = (if cut then o.pulsed else o.pulsed ++ [(n, pair)]) ∧
      d.dipNow = (if !cut && dip then putBit o.dipNow n true else o.dipNow) ∧
      d.sweepNow = (if !cut && sweep == some true then putBit o.sweepNow n true else o.sweepNow) := by
  unfold Chan.pulse
  cases sweep with
  | none =>
    dsimp only
    by_cases hr : (c.dout.repeats.any fun r => r.out == n) = true <;> cases cut <;> cases dip <;> simp [hr]
  | some b => cases b <;> cases cut <;> cases dip <;> simp

/-- The channel that has latched a sag of a group, before its on-test currents are set (R199). -/
def Chan.sagged (c : Chan) (g : Nat) : Chan :=
  { c with dout := { c.dout with
      sagLatch := putBit c.dout.sagLatch g true
      high := c.dout.high &&& ~~~(groupMask g)
      timerOn := c.dout.timerOn &&& ~~~(groupMask g)
      lowSide := putBit c.dout.lowSide g false } }

theorem exec_fieldSupplySag {g : Nat} (hl : (s.ch ch).live = true) (h1 : 1 ≤ g) (h4 : g ≤ 4) :
    exec (.fieldSupplySag ch g) s = .next (s.put ch ((s.ch ch).sagged (g - 1)).setOnTest) := by
  show execFieldSupplySag ch g s = _
  rw [execFieldSupplySag, State.onLive_eq _ hl, if_pos (by simp [h1, h4])]
  rfl

/-- What a sag leaves of a group's switches and currents, and of the others' switches. -/
theorem Chan.sagged_leaves (c : Chan) {g : Nat} (hg : g < 4) :
    let d := (c.sagged g).setOnTest.dout
    d.sagLatch.getLsbD g = true ∧ d.lowSide.getLsbD g = false ∧
      (∀ n, n < 32 → groupOf n = g → d.high.getLsbD n = false ∧ d.onTestOff.getLsbD n = true) ∧
      (∀ n, n < 32 → groupOf n ≠ g → d.high.getLsbD n = c.dout.high.getLsbD n) := by
  obtain ⟨w, hw, hoff⟩ := (c.sagged g).setOnTest_eq
  have hlatch : (c.sagged g).dout.sagLatch.getLsbD g = true := (putBit_getLsbD _ _ _ _ hg).trans (if_pos rfl)
  intro d
  have hd : d = { (c.sagged g).dout with onTestOff := w } := congrArg Chan.dout hw
  rw [hd]
  refine ⟨hlatch, (putBit_getLsbD _ _ _ _ hg).trans (if_pos rfl), fun n hn h => ⟨?_, hoff n hn ?_⟩, fun n hn h => ?_⟩
  · refine (and_not_groupMask_getLsbD c.dout.high hg hn).trans ?_
    simp [h]
  · rw [h, Chan.inService_getLsbD _ hg, hlatch]
    simp
  · refine (and_not_groupMask_getLsbD c.dout.high hg hn).trans ?_
    simp [h]

/-- The channel whose group's sag latches are cleared, its outputs waiting for a later run (R200). -/
def Chan.backInService (c : Chan) (g : Nat) : Chan :=
  { c with
    dout := { c.dout.awaitFresh (groupOuts g) c.lastInstant with
      sag := putBit c.dout.sag g false
      sagLatch := putBit c.dout.sagLatch g false
      restore := putBit c.dout.restore g false } }

theorem exec_groupReturnToService {g : Nat} (hl : (s.ch ch).live = true) (h1 : 1 ≤ g) (h4 : g ≤ 4)
    (hr : (s.ch ch).running = true) (hw : (s.ch ch).warnClearLong (g - 1) = true)
    (hs : (s.ch ch).dout.sag.getLsbD (g - 1) = true ∨ (s.ch ch).dout.sagLatch.getLsbD (g - 1) = true) :
    exec (.groupReturnToService ch g) s = .next (s.put ch
      (if (s.ch ch).stageDrives ch then ((s.ch ch).backInService (g - 1)).setLowSide else (s.ch ch).backInService (g - 1))) := by
  show execGroupReturnToService ch g s = _
  have hs' : ((s.ch ch).dout.sag.getLsbD (g - 1) || (s.ch ch).dout.sagLatch.getLsbD (g - 1)) = true := by
    simpa using hs
  rw [execGroupReturnToService, State.onLive_eq _ hl, if_pos (by rw [hr, hw, hs']; simp [h1, h4])]
  rfl

theorem Chan.backInService_needFresh (c : Chan) {g n : Nat} (h : groupOf n = g) :
    (c.backInService g).dout.needFresh.lookup n = some c.lastInstant :=
  lookup_foldl_tabPut (groupOuts g) c.dout.needFresh (.inl (mem_groupOuts h))

theorem Chan.backInService_inService (c : Chan) {g : Nat} (hg : g < 4) :
    (c.backInService g).inService.getLsbD g = !c.nv.groupLocked.getLsbD g := by
  have h1 : (c.backInService g).dout.sag.getLsbD g = false := (putBit_getLsbD _ _ _ _ hg).trans (if_pos rfl)
  have h2 : (c.backInService g).dout.sagLatch.getLsbD g = false := (putBit_getLsbD _ _ _ _ hg).trans (if_pos rfl)
  rw [Chan.inService_getLsbD _ hg, h1, h2, Bool.or_false, Bool.or_false]
  rfl

/-- A group returned to service: what holds whether or not the channel's stage drives. -/
theorem Chan.backInService_leaves (c : Chan) {g : Nat} (hg : g < 4) (drives : Bool) :
    let d := (if drives then (c.backInService g).setLowSide else c.backInService g).dout
    d.sag.getLsbD g = false ∧ d.sagLatch.getLsbD g = false ∧ d.high = c.dout.high ∧
      (∀ n, n < 32 → groupOf n = g → d.needFresh.lookup n = some c.lastInstant) := by
  have h1 : (c.backInService g).dout.sag.getLsbD g = false := (putBit_getLsbD _ _ _ _ hg).trans (if_pos rfl)
  have h2 : (c.backInService g).dout.sagLatch.getLsbD g = false := (putBit_getLsbD _ _ _ _ hg).trans (if_pos rfl)
  have hall : (c.backInService g).dout.sag.getLsbD g = false ∧ (c.backInService g).dout.sagLatch.getLsbD g = false ∧
      (c.backInService g).dout.high = c.dout.high ∧
      (∀ n, n < 32 → groupOf n = g → (c.backInService g).dout.needFresh.lookup n = some c.lastInstant) :=
    ⟨h1, h2, rfl, fun n _ h => c.backInService_needFresh h⟩
  cases drives with
  | false => exact hall
  | true =>
    cases hp : c.supply.powerFail with
    | true =>
      rw [if_pos rfl, Chan.setLowSide_of_fail (c := c.backInService g) hp]
      exact hall
    | false =>
      obtain ⟨w, hw⟩ := Chan.setLowSide_eq (c := c.backInService g) hp
      rw [if_pos rfl, hw]
      exact hall

end

/-- Settles O36: pulse, low-side test, sag, return to service, then the output's timer. -/
theorem outputsAreTested : Obligations.OutputsAreTested := by
  unfold Obligations.OutputsAreTested
  refine ⟨?_, ?_, ?_⟩
  · intro s ch n pair sweep dip cut hl o u
    refine ⟨fun hr hd hu hp hc => ?_, exec_offTestPulse_same⟩
    refine ⟨_, exec_offTestPulse hl hr hd hu hp hc, .put _ _ _, ?_⟩
    rw [State.put_ch]
    exact Chan.pulse_leaves _ n pair sweep dip cut
  · intro s ch g hl h1 h4 c o u
    have hg : g - 1 < 4 := by omega
    refine ⟨fun ok hr hm hd hu hi => ?_, fun ok h => ?_, ?_, fun hr hw hs => ⟨?_, fun hd hp => ?_, fun h => ?_⟩, fun hw => ?_⟩
    · show execLowSideTest ch g ok s = _
      rw [execLowSideTest, State.onLive_eq _ hl]
      exact congrArg (fun x => Host.Outcome.next (s.put ch x)) (if_pos (by
        rw [hr, hd, hi, show (s.ch ch).vote.mode = 1 from hm,
          show (s.ch ch).dout.plan.contains (SlotUse.lowSide ch (g - 1)) = true from hu]
        simp [h1]))
    · refine congrArg Host.Outcome.next (State.onLive_same (if_neg ?_))
      rcases h with h | h
      · rw [show (s.ch ch).dout.plan.contains (SlotUse.lowSide ch (g - 1)) = false from h]
        simp
      · simp [show (s.ch ch).vote.mode ≠ 1 from h]
    · refine ⟨_, exec_fieldSupplySag hl h1 h4, .put _ _ _, ?_⟩
      rw [State.put_ch]
      exact Chan.sagged_leaves _ hg
    · refine ⟨_, exec_groupReturnToService hl h1 h4 hr hw hs, .put _ _ _, ?_⟩
      rw [State.put_ch]
      exact Chan.backInService_leaves _ hg _
    · refine ⟨_, exec_groupReturnToService hl h1 h4 hr hw hs, ?_⟩
      obtain ⟨w, hw⟩ := Chan.setLowSide_eq (c := (s.ch ch).backInService (g - 1)) hp
      rw [State.put_ch, if_pos hd, hw]
      exact Chan.backInService_inService _ hg
    · refine ⟨_, exec_groupReturnToService hl h1 h4 hr hw hs, ?_⟩
      rw [State.put_ch]
      rcases h with h | h
      · rw [if_neg (by rw [h]; decide)]
        rfl
      · rw [Chan.setLowSide_of_fail (c := (s.ch ch).backInService (g - 1)) h, ite_self]
        rfl
    · refine congrArg Host.Outcome.next (State.onLive_same (if_neg ?_))
      rw [show (s.ch ch).warnClearLong (g - 1) = false from hw]
      simp
  · intro s ch n c
    refine ⟨fun hl hn h => ?_, fun h => ?_⟩
    · show execOutputTimeout ch n s = _
      rw [execOutputTimeout, State.onLive_eq _ hl]
      exact congrArg (fun x => Host.Outcome.next (s.put ch x)) (if_pos (by simp [hn, show (s.ch ch).dout.timerOn.getLsbD n = true from h]))
    · exact congrArg Host.Outcome.next (State.onLive_same (if_neg (by simp [show (s.ch ch).dout.timerOn.getLsbD n = false from h])))

end Sys2Proof.Machine

/-! PROOFS. Frames on a lane (spec/09 R228 to R232, spec/10 R255 to R265): what queueing, relaying and launching a frame leave
alone. -/

namespace Sys2Proof.Machine

open Sys2Proof

theorem live_of_laneLive {c : Chan} (h : c.laneLive = true) : c.live = true := by
  simp only [Chan.laneLive, Bool.and_eq_true] at h
  obtain ⟨⟨⟨hl, -⟩, -⟩, -⟩ := h
  exact hl

theorem laneLive_of_laneOpen {c : Chan} (h : c.laneOpen = true) : c.laneLive = true := (Bool.and_eq_true_iff.mp h).1

theorem live_of_hears {c : Chan} {me : Ch} {f : FrameRx} {kind : Nat} (h : c.HearsFrame me f kind) : c.live = true :=
  live_of_laneLive (laneLive_of_laneOpen h.isOpen)

/-- A channel but for its frame queues, the slots armed for a relay, and its recorder. -/
def Chan.besideQueues (c : Chan) : Chan :=
  { c with
    qm := default, recd := default, fab := { c.fab with fseq := [], queueX := [], queueY := [] }
    guard := { c.guard with armed := [] } }

theorem Chan.emit_besideQueues (c : Chan) (name : EvName) (obj : Nat) (data : List Word) :
    (c.emit name obj data).besideQueues = c.besideQueues := by
  rw [Chan.emit_eq]
  rfl

theorem Chan.queueFrame_besideQueues {c d : Chan} {p : Port} {f : Frame} (h : c.queueFrame p f = some d) :
    d.besideQueues = c.besideQueues := by
  obtain ⟨q, -, rfl⟩ := Option.map_eq_some_iff.mp h
  cases p <;> rfl

theorem Chan.sendFrame_besideQueues (c : Chan) (cls kind : Nat) (dest : Option Nat) (payload : List Byte) (ports : List Port) :
    (c.sendFrame cls kind dest payload ports).besideQueues = c.besideQueues := by
  unfold Chan.sendFrame
  extract_lets f d
  refine (foldl_view (g := Chan.besideQueues) (fun c p => ?_) _ d).trans rfl
  cases h : c.queueFrame p f with
  | none => rfl
  | some e => exact Chan.queueFrame_besideQueues h

theorem Chan.sendManagement_besideQueues (c : Chan) (kind : Nat) (payload : List Byte) :
    (c.sendManagement kind payload).besideQueues = c.besideQueues := c.sendFrame_besideQueues _ _ _ _ _

theorem Chan.relay_besideQueues (c : Chan) (f : FrameRx) : (c.relay f).besideQueues = c.besideQueues := by
  unfold Chan.relay
  extract_lets p
  split
  · cases h : c.queueFrame p (relayed f) with
    | none => rfl
    | some d =>
      dsimp only
      split
      · exact Chan.queueFrame_besideQueues (d := d) h
      · exact Chan.queueFrame_besideQueues h
  · rfl

section

variable {c d : Chan} (h : d.besideQueues = c.besideQueues)

include h

theorem sync_of_besideQueues : d.sync = c.sync := (congrArg (fun (x : Chan) => x.sync) h :)

theorem frt_of_besideQueues : d.frt = c.frt := (congrArg (fun (x : Chan) => x.frt) h :)

theorem sent_of_besideQueues : d.fab.sent = c.fab.sent := (congrArg (fun (x : Chan) => x.fab.sent) h :)

theorem nodeKey_of_besideQueues : d.nodeKey = c.nodeKey := (congrArg Chan.nodeKey h :)

end

/-- A frame launched: on the line, its port busy until it has ended, nothing else but the counts of credits. -/
theorem Chan.launch_eq (c : Chan) (p : Port) (at_ : Nat) (f : Frame) :
    ∃ qm n, c.launch p at_ f =
      { c with
        qm := qm, guard := c.guard.modLine p (fun l => { l with busy := at_ + frameNs f })
        fab := { c.fab with sent := c.fab.sent ++ [(p,
          if f.hop == 0 then { f with lseq := n, cluster := c.sync.cluster, basic := c.sync.basic } else { f with lseq := n })] } } := by
  refine ⟨(c.qm.spend p f).1, (c.qm.spend p f).2, ?_⟩
  unfold Chan.launch
  by_cases h : (f.hop == 0) = true
  · simp only [h, if_true]
    rfl
  · simp only [h]
    rfl

theorem Guard.modLine_babble (g : Guard) (p q : Port) (l : PortLine → PortLine) : (g.modLine p l).babble q = g.babble q := by
  cases p <;> rfl

theorem Chan.launch_portOpen (c : Chan) (p q : Port) (at_ : Nat) (f : Frame) : (c.launch p at_ f).portOpen q = c.portOpen q := by
  obtain ⟨qm, n, h⟩ := c.launch_eq p at_ f
  rw [h, Chan.portOpen, Guard.modLine_babble]
  rfl

/-- A frame of the node itself launched: it leaves by an open port in the cycle under way. -/
theorem Chan.launchOwn_leaves (c : Chan) (p : Port) (at_ kind : Nat) (ps : List Byte) :
    (c.launchOwn p at_ kind ps).sync = c.sync ∧ (c.launchOwn p at_ kind ps).nodeKey = c.nodeKey ∧
      (∀ q, (c.launchOwn p at_ kind ps).portOpen q = c.portOpen q) ∧
      (∀ q ∈ c.fab.sent, q ∈ (c.launchOwn p at_ kind ps).fab.sent) ∧
      (c.portOpen p = true → ∃ q ∈ (c.launchOwn p at_ kind ps).fab.sent, q.1 = p ∧ q.2.kind = kind ∧ q.2.origin = c.nodeKey ∧
        q.2.cluster = c.sync.cluster ∧ q.2.basic = c.sync.basic ∧ q.2.payload = ps) := by
  unfold Chan.launchOwn
  by_cases ho : c.portOpen p = true
  · rw [if_pos ho]
    extract_lets f
    obtain ⟨qm, n, h⟩ := ({ c with fab := c.fab.useSeq 3 } : Chan).launch_eq p at_ f
    refine ⟨by rw [h], by rw [h]; rfl, fun q => Chan.launch_portOpen _ _ _ _ _, fun q hq => ?_, fun _ => ?_⟩
    · rw [h]
      exact List.mem_append_left _ hq
    · rw [h]
      exact ⟨_, List.mem_append_right _ (List.mem_singleton.mpr rfl), rfl, rfl, rfl, rfl, rfl, rfl⟩
  · rw [if_neg ho]
    exact ⟨rfl, rfl, fun _ => rfl, fun _ h => h, fun h => absurd h ho⟩

end Sys2Proof.Machine

/-! PROOFS. References (spec/09 R238 to R247, spec/10 R264): sent, relayed, followed, missed. -/

namespace Sys2Proof.Machine

open Sys2Proof

/-! ### Following a reference (R240, R243, R244) -/

/-- What a drift leaves beside the clock: at most what is queued and recorded. -/
theorem Chan.drift_of_near {c : Chan} {off : Int} (h : c.sync.st ≠ 4 ∨ off.natAbs ≤ 1500) : c.drift off = c := by
  refine if_neg ?_
  rcases h with h | h
  · simp [h]
  · simp [Nat.not_lt.mpr h]

theorem Chan.drift_besideQueues {c : Chan} {off : Int} (h4 : c.sync.st = 4) (h : 1500 < off.natAbs) :
    (c.drift off).besideQueues = ({ c with
      sync := { c.sync.toIntegrating with dropCnt := inc 16 c.sync.dropCnt, drifted := true } } : Chan).besideQueues := by
  unfold Chan.drift
  rw [if_pos (by simp [h4, h])]
  exact (Chan.sendManagement_besideQueues _ _ _).trans (Chan.emit_besideQueues _ _ _ _)

theorem Chan.drift_sent (c : Chan) (off : Int) : (c.drift off).fab.sent = c.fab.sent := by
  by_cases h : c.sync.st ≠ 4 ∨ off.natAbs ≤ 1500
  · rw [Chan.drift_of_near h]
  · obtain ⟨h4, ho⟩ := not_or.mp h
    exact (sent_of_besideQueues (Chan.drift_besideQueues (not_not.mp h4) (Nat.lt_of_not_le ho))).trans rfl

/-- The clock of a node that uses a copy, before its drift is judged. -/
def Sync.using (y : Sync) (key : Nat) (r : Ref) (off : Int) : Sync :=
  let fresh := y.st == 1 || y.st == 2 || y.cold
  let y := if y.st == 1 || y.st == 2 then y.toIntegrating else y
  let y := { y with
    takeoverCnt := if y.owlKey != 0x7F && y.owlKey != r.owl then inc 8 y.takeoverCnt else y.takeoverCnt
    owlKey := r.owl, cluster := if y.st == 4 then y.cluster else r.cluster, basic := if y.st == 4 then y.basic else r.basic
    compiled := if fresh then r.sched else y.compiled
    switchAt := r.switchAt, nextSched := r.next, b2 := r.b2, b3 := r.b3, b4 := r.b4
    missing := 0, gotRef := true, cold := false, copy := some (r.hop, off) }
  let y := { y with rank := if y.st == 4 then y.backupRank key else 0 }
  { y with offset := off, idleAdj := off, maxNs := if y.st == 4 then max y.maxNs (min off.natAbs 65535) else y.maxNs }

theorem Chan.useRef_eq (c : Chan) (r : Ref) (off : Int) :
    c.useRef r off = ({ c with sync := c.sync.using c.nodeKey r off } : Chan).drift off := rfl

theorem Chan.takeCopy_first {c : Chan} {f : FrameRx} {r : Ref} (h : c.sync.copy = none) :
    c.takeCopy f r = c.useRef r (c.offsetOf f r.acc) := by
  unfold Chan.takeCopy
  rw [h]

theorem Chan.useRef_sent (c : Chan) (r : Ref) (off : Int) : (c.useRef r off).fab.sent = c.fab.sent :=
  (Chan.drift_sent _ _).trans rfl

theorem Chan.takeCopy_sent (c : Chan) (f : FrameRx) (r : Ref) : (c.takeCopy f r).fab.sent = c.fab.sent := by
  unfold Chan.takeCopy
  extract_lets off
  split
  · exact c.useRef_sent _ _
  · extract_lets d
    have hd : d.fab.sent = c.fab.sent := by
      dsimp only [d]
      split <;> rfl
    split
    · exact (d.useRef_sent _ _).trans hd
    · exact hd

theorem Chan.followRef_sent (c : Chan) (f : FrameRx) (r : Ref) : (c.followRef f r).fab.sent = c.fab.sent := by
  unfold Chan.followRef
  extract_lets y other held
  split
  · split
    · split
      · split <;> rfl
      · exact Chan.takeCopy_sent _ f r
    · rfl
  · split
    · rfl
    · split
      · exact Chan.takeCopy_sent _ f r
      · split
        · rfl
        · exact c.takeCopy_sent f r

/-- A node outside SYNC that uses a copy integrates, and judges no drift. -/
theorem Chan.useRef_integrating {c : Chan} {r : Ref} {off : Int} (h : c.sync.st = 1 ∨ c.sync.st = 2 ∨ c.sync.st = 3) :
    (c.useRef r off).sync = c.sync.using c.nodeKey r off ∧ (c.sync.using c.nodeKey r off).st = 3 ∧
      (c.sync.using c.nodeKey r off).rank = 0 ∧ (c.sync.using c.nodeKey r off).cluster = r.cluster ∧
      (c.sync.using c.nodeKey r off).basic = r.basic := by
  have hst : (c.sync.using c.nodeKey r off).st = 3 ∧ (c.sync.using c.nodeKey r off).rank = 0 ∧
      (c.sync.using c.nodeKey r off).cluster = r.cluster ∧ (c.sync.using c.nodeKey r off).basic = r.basic := by
    rcases h with h | h | h <;> simp [Sync.using, Sync.toIntegrating, h]
  refine ⟨?_, hst⟩
  rw [Chan.useRef_eq, Chan.drift_of_near (.inl (by rw [hst.1]; decide))]

section

variable {c : Chan} {f : FrameRx} {r : Ref}

theorem Chan.followRef_owl (ho : c.sync.isOwl = true) (h : c.nodeKey ≤ r.owl) : c.followRef f r = c := by
  unfold Chan.followRef
  dsimp only
  rw [if_pos ho, if_neg (Nat.not_lt.mpr h)]

/-- An Owl on the start-up schedule that hears a lower one follows it. -/
theorem Chan.followRef_yields (ho : c.sync.isOwl = true) (h : r.owl < c.nodeKey) (hc : c.sync.compiled = false) :
    (c.followRef f r).sync.st = 3 ∧ (c.followRef f r).sync.owlKey = r.owl ∧ (c.followRef f r).sync.rank = 0 := by
  unfold Chan.followRef
  dsimp only
  rw [if_pos ho, if_pos h, if_neg (by rw [hc]; decide), Chan.takeCopy_first rfl]
  obtain ⟨hs, h3, hr, -⟩ := Chan.useRef_integrating
    (c := ({ c with sync := { c.sync.toIntegrating with owlKey := 0x7F, copy := none } } : Chan)) (r := r)
    (off := Chan.offsetOf { c with sync := { c.sync.toIntegrating with owlKey := 0x7F, copy := none } } f r.acc)
    (.inr (.inr rfl))
  rw [hs]
  exact ⟨h3, rfl, hr⟩

/-- An Owl on the compiled schedule that hears a lower one announces the start-up schedule. -/
theorem Chan.followRef_announces (ho : c.sync.isOwl = true) (h : r.owl < c.nodeKey) (hc : c.sync.compiled = true)
    (hs : c.sync.switchAt = 0) :
    c.followRef f r = { c with sync := { c.sync with switchAt := (c.sync.cluster + 2) % 2 ^ 32, nextSched := false } } := by
  unfold Chan.followRef
  dsimp only
  rw [if_pos ho, if_pos h, if_pos hc, if_pos (by simp [hs])]

theorem Chan.followRef_takes (ho : c.sync.isOwl = false) (h : c.sync.st < 3 ∨ r.owl = c.sync.owlKey) :
    c.followRef f r = c.takeCopy f r := by
  unfold Chan.followRef
  dsimp only
  have hno : (decide (3 ≤ c.sync.st) && (c.sync.owlKey != 0x7F && r.owl != c.sync.owlKey)) = false := by
    rcases h with h | h
    · simp [Nat.not_le.mpr h]
    · simp [h]
  rw [if_neg (by rw [ho]; decide), hno]
  rfl

/-- A follower on the compiled schedule that hears another Owl counts a conflict. -/
theorem Chan.followRef_conflict (h3 : 3 ≤ c.sync.st) (ho : c.sync.isOwl = false) (hc : c.sync.compiled = true)
    (hk : c.sync.owlKey ≠ 0x7F) (hr : r.owl ≠ c.sync.owlKey) (hh : c.sync.gotRef = true ∨ c.sync.missing = 0) :
    c.followRef f r = { c with sync := c.sync.conflict } := by
  unfold Chan.followRef
  dsimp only
  have hh' : (c.sync.gotRef || c.sync.missing == 0) = true := by
    rcases hh with h | h <;> simp [h]
  rw [if_neg (by rw [ho]; decide), if_pos]
  simp [h3, hk, hr, hc, hh']

end

theorem Sync.not_owl {y : Sync} (h : y.rank ≠ 1) : y.isOwl = false := by
  simp [Sync.isOwl, h]

/-- A node in SYNC keeps its cycle numbers when it uses a copy. -/
theorem Sync.using_of_inSync {y : Sync} (key : Nat) (r : Ref) (off : Int) (h : y.st = 4) :
    (y.using key r off).st = 4 ∧ (y.using key r off).cluster = y.cluster ∧ (y.using key r off).basic = y.basic ∧
      (y.using key r off).dropCnt = y.dropCnt := by
  simp [Sync.using, h]

/-! ### The relay (R239) -/

theorem Sync.noteRelay_eq (y : Sync) (p : Port) : ∃ a b, y.noteRelay p = { y with relayedX := a, relayedY := b } := by
  cases p <;> exact ⟨_, _, rfl⟩

/-- What the relay of a reference leaves alone. -/
theorem Chan.relayRef_leaves (c : Chan) (f : FrameRx) (r : Ref) :
    (∃ a b, (c.relayRef f r).sync = { c.sync with relayedX := a, relayedY := b }) ∧ (c.relayRef f r).nodeKey = c.nodeKey := by
  unfold Chan.relayRef
  extract_lets p r' fr out y
  split
  · obtain ⟨qm, n, h⟩ := Chan.launch_eq ({ c with
        sync := c.sync.noteRelay p
        guard := c.guard.modLine p (fun l => { l with relayAt := some f.arrival }) } : Chan) p (f.arrival + 4000) out
    rw [h]
    exact ⟨c.sync.noteRelay_eq p, rfl⟩
  · exact ⟨⟨_, _, rfl⟩, rfl⟩

theorem Chan.relayRef_sends {c : Chan} {f : FrameRx} {r : Ref} (hr : r.hop < 6) (hd : c.delayOk f.port = true)
    (ho : c.portOpen f.port.other = true) (hn : c.sync.relayedOn f.port.other = false) :
    ∃ q ∈ (c.relayRef f r).fab.sent, q.1 = f.port.other ∧ q.2.kind = f.kind ∧ q.2.hop = f.hop + 1 ∧ q.2.origin = f.origin ∧
      q.2.payload = wordsBytes (refWords { r with hop := r.hop + 1, acc := r.acc + c.sync.delayNs f.port + 4000 }) := by
  unfold Chan.relayRef
  extract_lets p r' fr out
  rw [if_pos (by simp [p, hr, hd, ho, hn])]
  obtain ⟨qm, n, h⟩ := Chan.launch_eq ({ c with
      sync := c.sync.noteRelay p
      guard := c.guard.modLine p (fun l => { l with relayAt := some f.arrival }) } : Chan) p (f.arrival + 4000) out
  rw [h]
  refine ⟨_, List.mem_append_right _ (List.mem_singleton.mpr rfl), rfl, ?_⟩
  rw [if_neg (by simp [out, fr, relayed])]
  exact ⟨rfl, rfl, rfl, rfl⟩

/-! ### The rows -/

section

variable {s : State} {ch : Ch} {f : FrameRx}

theorem exec_reference (hl : (s.ch ch).live = true) (hh : (s.ch ch).HearsFrame ch f 1) (ho : f.origin ≠ (s.ch ch).nodeKey)
    (hd : (s.ch ch).delayOk f.port = true) :
    exec (.reference ch f) s =
      .next (s.put ch ((((s.ch ch).heardFrame f).relayRef f (refOf (frameWords f))).followRef f (refOf (frameWords f)))) := by
  show execReference ch f s = _
  rw [execReference, State.onLive_eq _ hl]
  dsimp only
  rw [Chan.hear_of_hears hh]
  have ho' : (f.origin != ((s.ch ch).heardFrame f).nodeKey) = true := bne_iff_ne.mpr ho
  have hd' : ((s.ch ch).heardFrame f).delayOk f.port = true := hd
  rw [if_pos (by rw [ho', hd']; rfl)]

theorem exec_referenceSend (hl : (s.ch ch).live = true) (hop : (s.ch ch).laneOpen = true) (ho : (s.ch ch).sync.isOwl = true)
    (hs : (s.ch ch).sync.refSent = false) (hp : (s.ch ch).portOpen .x = true ∨ (s.ch ch).portOpen .y = true) :
    let ps := wordsBytes (refWords (s.ch ch).ownRef)
    let d := ((s.ch ch).launchOwn .x 0 1 ps).launchOwn .y 0 1 ps
    exec (.referenceSend ch) s = .next (s.put ch { d with sync := { d.sync with refSent := true, unsent := 0 } }) := by
  intro ps d
  show execReferenceSend ch s = _
  rw [execReferenceSend, State.onLive_eq _ hl, if_pos ?_]
  have hp' : ((s.ch ch).portOpen .x || (s.ch ch).portOpen .y) = true := by simpa using hp
  rw [hop, ho, hs, hp']
  rfl

/-- The Owl's reference on both ports: by each that is open. -/
theorem Chan.launchBoth_leaves (c : Chan) (ps : List Byte) :
    ((c.launchOwn .x 0 1 ps).launchOwn .y 0 1 ps).sync = c.sync ∧
      (∀ p, c.portOpen p = true → ∃ q ∈ ((c.launchOwn .x 0 1 ps).launchOwn .y 0 1 ps).fab.sent, q.1 = p ∧ q.2.kind = 1 ∧
        q.2.origin = c.nodeKey ∧ q.2.cluster = c.sync.cluster ∧ q.2.basic = c.sync.basic ∧ q.2.payload = ps) := by
  obtain ⟨hy1, hk1, ho1, -, hs1⟩ := c.launchOwn_leaves .x 0 1 ps
  obtain ⟨hy2, hk2, ho2, hkeep, hs2⟩ := (c.launchOwn .x 0 1 ps).launchOwn_leaves .y 0 1 ps
  refine ⟨hy2.trans hy1, fun p hp => ?_⟩
  cases p with
  | x =>
    obtain ⟨q, hq, h⟩ := hs1 hp
    exact ⟨q, hkeep q hq, h⟩
  | y =>
    obtain ⟨q, hq, h⟩ := hs2 ((ho1 .y).trans hp)
    rw [hk1, hy1] at h
    exact ⟨q, hq, h⟩

theorem exec_referenceMissing (hl : (s.ch ch).live = true) (hop : (s.ch ch).laneOpen = true) (h3 : 3 ≤ (s.ch ch).sync.st)
    (ho : (s.ch ch).sync.isOwl = false) (hg : (s.ch ch).sync.gotRef = false) (hj : (s.ch ch).sync.judged = false)
    (hc : (s.ch ch).sync.cold = false ∨ (s.ch ch).sync.basic % 2 = (s.ch ch).sync.owlKey % 2) :
    let y := { (s.ch ch).sync with
      judged := true, missing := (s.ch ch).sync.missing + 1, missCnt := inc 16 (s.ch ch).sync.missCnt, good := 0 }
    exec (.referenceMissing ch) s = .next (s.put ch { s.ch ch with sync := if 8 ≤ y.missing then y.toListen else y }) := by
  intro y
  show execReferenceMissing ch s = _
  have hc' : (!(s.ch ch).sync.cold || (s.ch ch).sync.basic % 2 == (s.ch ch).sync.owlKey % 2) = true := by
    rcases hc with h | h <;> simp [h]
  rw [execReferenceMissing, State.onLive_eq _ hl]
  dsimp only
  rw [if_pos (by rw [hop, decide_eq_true h3, ho, hg, hj, hc']; rfl)]

end

/-- Settles O37: what an Owl and its followers send and count, then what a reference heard leads to. -/
theorem referencesAreFollowed : Obligations.ReferencesAreFollowed := by
  unfold Obligations.ReferencesAreFollowed
  refine ⟨fun s ch hl hop => ?_, fun s ch f hl hh horg hd => ?_⟩
  · intro c y
    refine ⟨fun ho hs hp => ?_, fun ho hu => ?_, fun h3 ho hg hj hc => ⟨fun hm => ?_, fun hm => ?_⟩, fun h => ?_,
      fun h4 hr hm => ?_, fun h => ?_, fun hcm hcr => ?_⟩
    · obtain ⟨hsync, hsent⟩ := c.launchBoth_leaves (wordsBytes (refWords c.ownRef))
      refine ⟨_, exec_referenceSend hl hop ho hs hp, .put _ _ _, ?_⟩
      rw [State.put_ch]
      exact ⟨congrArg (fun (x : Sync) => { x with refSent := true, unsent := 0 }) hsync, hsent⟩
    · show execOwlGiveUp ch s = _
      rw [execOwlGiveUp, State.onLive_eq _ hl]
      exact congrArg (fun x => Host.Outcome.next (s.put ch x)) (if_pos (by
        rw [hop, show (s.ch ch).sync.isOwl = true from ho, decide_eq_true (show 2 ≤ (s.ch ch).sync.unsent from hu)]; rfl))
    · refine (exec_referenceMissing hl hop h3 ho hg hj hc).trans ?_
      have hm : (s.ch ch).sync.missing < 7 := hm
      rw [if_neg (show ¬ 8 ≤ (s.ch ch).sync.missing + 1 by omega)]
    · have hm : 7 ≤ (s.ch ch).sync.missing := hm
      refine ⟨_, exec_referenceMissing hl hop h3 ho hg hj hc, .put _ _ _, ?_⟩
      rw [State.put_ch, if_pos (show 8 ≤ (s.ch ch).sync.missing + 1 by omega)]
      exact ⟨rfl, rfl, rfl, rfl⟩
    · refine congrArg Host.Outcome.next (State.onLive_same (if_neg ?_))
      rcases h with h | h
      · simp [show (s.ch ch).sync.gotRef = true from h]
      · simp [show (s.ch ch).sync.judged = true from h]
    · have hexec : exec (.owlTakeover ch) s = .next (s.put ch (c.becomeOwl y.rank false)) := by
        show execOwlTakeover ch s = _
        rw [execOwlTakeover, State.onLive_eq _ hl]
        exact congrArg (fun x => Host.Outcome.next (s.put ch x)) (if_pos (by
          rw [hop, show (s.ch ch).sync.st = 4 from h4, decide_eq_true (show 2 ≤ (s.ch ch).sync.rank from hr),
            decide_eq_true (show 2 * ((s.ch ch).sync.rank - 1) ≤ (s.ch ch).sync.missing from hm)]; rfl))
      refine ⟨_, hexec, .put _ _ _, ?_⟩
      rw [State.put_ch]
      exact ⟨rfl, rfl, rfl, rfl, rfl, rfl⟩
    · refine congrArg Host.Outcome.next (State.onLive_same (if_neg ?_))
      simp [Nat.not_le.mpr (show (s.ch ch).sync.missing < 2 * ((s.ch ch).sync.rank - 1) from h)]
    · have hexec : exec (.referenceConflictLimit ch) s =
          .next (s.put ch { c.topologyFault 4 with sync := { c.sync with conflictRun := 0 } }) := by
        show execReferenceConflictLimit ch s = _
        rw [execReferenceConflictLimit, State.onLive_eq _ hl]
        rw [if_pos (by rw [hop, show (s.ch ch).sync.compiled = true from hcm,
            decide_eq_true (show 8 ≤ (s.ch ch).sync.conflictRun from hcr)]; rfl)]
      have hq : (c.topologyFault 4).frt = { c.frt with fault := true, cause := 4 } := by
        unfold Chan.topologyFault
        exact frt_of_besideQueues ((Chan.sendManagement_besideQueues _ _ _).trans (Chan.emit_besideQueues _ _ _ _))
      refine ⟨_, hexec, .put _ _ _, ?_⟩
      rw [State.put_ch]
      exact ⟨congrArg Frt.fault hq, congrArg Frt.cause hq, rfl⟩
  · have hexec := exec_reference hl hh horg hd
    obtain ⟨⟨a, b, hsync⟩, hkey⟩ := ((s.ch ch).heardFrame f).relayRef_leaves f (refOf (frameWords f))
    have hoff : (((s.ch ch).heardFrame f).relayRef f (refOf (frameWords f))).offsetOf f (refOf (frameWords f)).acc =
        (f.arrival : Int) - (refOf (frameWords f)).acc - ((s.ch ch).heardFrame f).sync.delayNs f.port := by
      rw [Chan.offsetOf, hsync]
      rfl
    generalize he : ((s.ch ch).heardFrame f).relayRef f (refOf (frameWords f)) = e at hexec hsync hkey hoff
    have hput : s.OnlyAt (s.put ch (e.followRef f (refOf (frameWords f)))) ch := .put _ _ _
    intro c y r off
    have howl : e.sync.isOwl = y.isOwl := by rw [hsync]; rfl
    refine ⟨⟨_, hexec, hput⟩, fun hr ho hn => ?_, fun ho hk => ?_, fun ho hk hc => ?_, fun ho hk hc hs => ?_,
      fun hst hc => ?_, fun hst hr hc hk => ⟨fun hn => ?_, fun hn => ?_⟩, fun h3 ho hc hk hr hg hn => ?_⟩
    · obtain ⟨q, hq, h1, h2, h3, h4, h5⟩ := Chan.relayRef_sends (c := c) hr hd ho hn
      rw [show c.relayRef f r = e from he] at hq
      refine ⟨_, hexec, q, ?_, h1, h2.trans hh.named, h3, h4, h5⟩
      rwa [State.put_ch, Chan.followRef_sent]
    · rw [hexec, Chan.followRef_owl (howl.trans ho) (hkey.trans_le hk), ← he]
    · refine ⟨_, hexec, ?_⟩
      rw [State.put_ch]
      exact (Chan.followRef_yields (howl.trans ho) (by rw [hkey]; exact hk) (by rw [hsync]; exact hc))
    · refine ⟨_, hexec, ?_⟩
      rw [State.put_ch, Chan.followRef_announces (howl.trans ho) (by rw [hkey]; exact hk) (by rw [hsync]; exact hc) (by rw [hsync]; exact hs)]
      refine ⟨by rw [hsync], rfl, ?_⟩
      rw [hsync]
      exact beq_iff_eq.mp (Bool.and_eq_true_iff.mp ho).1
    · refine ⟨_, hexec, ?_⟩
      rw [State.put_ch]
      have hst' : e.sync.st = 1 ∨ e.sync.st = 2 := by rw [hsync]; exact hst
      have hno : e.sync.isOwl = false := by rcases hst' with h | h <;> simp [Sync.isOwl, h]
      rw [Chan.followRef_takes hno (.inl (by omega)), Chan.takeCopy_first (by rw [hsync]; exact hc), hoff]
      obtain ⟨g1, g2, g3, g4, g5⟩ := Chan.useRef_integrating (c := e) (r := r) (off := off) (by omega)
      rw [g1]
      refine ⟨g2, rfl, g4, g5, ?_, rfl, rfl, rfl⟩
      rcases hst' with h | h <;> simp [Sync.using, h]
    · have h4 : e.sync.st = 4 := by rw [hsync]; exact hst
      refine ⟨_, hexec, ?_⟩
      rw [State.put_ch, Chan.followRef_takes (howl.trans (Sync.not_owl hr)) (.inr (by rw [hsync]; exact hk)),
        Chan.takeCopy_first (by rw [hsync]; exact hc), hoff, Chan.useRef_eq, Chan.drift_of_near (.inr hn)]
      obtain ⟨g1, g2, g3, g4⟩ := Sync.using_of_inSync e.nodeKey r off h4
      refine ⟨rfl, rfl, rfl, g2.trans ?_, g3.trans ?_, g1, g4.trans ?_⟩ <;> rw [hsync]
    · have h4 : e.sync.st = 4 := by rw [hsync]; exact hst
      obtain ⟨g1, -, -, g4⟩ := Sync.using_of_inSync e.nodeKey r off h4
      refine ⟨_, hexec, ?_⟩
      rw [State.put_ch, Chan.followRef_takes (howl.trans (Sync.not_owl hr)) (.inr (by rw [hsync]; exact hk)),
        Chan.takeCopy_first (by rw [hsync]; exact hc), hoff, Chan.useRef_eq,
        sync_of_besideQueues (Chan.drift_besideQueues (c := { e with sync := e.sync.using e.nodeKey r off }) g1 hn)]
      exact ⟨rfl, rfl, rfl, by rw [show inc 16 y.dropCnt = inc 16 e.sync.dropCnt by rw [hsync], ← g4]⟩
    · refine ⟨_, hexec, ?_⟩
      rw [State.put_ch, Chan.followRef_conflict (by rw [hsync]; exact h3) (howl.trans ho) (by rw [hsync]; exact hc) (by rw [hsync]; exact hk)
        (by rw [hsync]; exact hr) (by rw [hsync]; exact hg)]
      have hcn : e.sync.conflict = { e.sync with conflictCnt := inc 8 e.sync.conflictCnt, conflictNow := true } :=
        if_neg (by rw [hsync]; exact Bool.eq_false_iff.mp hn)
      refine ⟨(congrArg Sync.conflictCnt hcn).trans ?_, congrArg Sync.conflictNow hcn, (congrArg Sync.owlKey hcn).trans ?_,
        (congrArg Sync.st hcn).trans ?_⟩ <;> rw [hsync]

end Sys2Proof.Machine

/-! PROOFS. Cold start and cycles (spec/09 R226, R237, R243, R244, R248 to R251, spec/10 R277). -/

namespace Sys2Proof.Machine

open Sys2Proof

/-! ### Queues flushed (R277) -/

theorem Chan.flushWhere_queues (c : Chan) (p : Port) (gone : Frame → Bool) :
    (c.flushWhere p gone).fab.queue p.other = c.fab.queue p.other ∧
      (c.flushWhere p gone).fab.queue p = (c.fab.queue p).filter (fun f => !gone f) := by
  unfold Chan.flushWhere
  extract_lets out qm
  split
  · next h =>
    refine ⟨rfl, (List.filter_eq_self.mpr fun f hf => ?_).symm⟩
    have hf' := List.filter_eq_nil_iff.mp (List.isEmpty_iff.mp h) f hf
    simpa using hf'
  · cases p <;> exact ⟨rfl, rfl⟩

theorem Chan.flushVital_queues (c : Chan) : ∀ f ∈ c.flushVital.fab.queueX ++ c.flushVital.fab.queueY, 2 ≤ f.cls := by
  intro f hf
  obtain ⟨-, hx1⟩ := c.flushWhere_queues .x (fun q => decide (q.cls < 2))
  obtain ⟨hx2, hy2⟩ := (c.flushWhere .x (fun q => decide (q.cls < 2))).flushWhere_queues .y (fun q => decide (q.cls < 2))
  have hkept {fs : List Frame} (h : f ∈ fs.filter (fun f => !decide (f.cls < 2))) : 2 ≤ f.cls := by
    exact Nat.le_of_not_lt (by simpa using (List.mem_filter.mp h).2)
  rcases List.mem_append.mp hf with h | h
  · have hx : c.flushVital.fab.queueX = _ := hx2.trans hx1
    exact hkept (hx ▸ h)
  · have hy : c.flushVital.fab.queueY = _ := hy2
    exact hkept (hy ▸ h)

/-! ### A basic cycle (R226, R243, R248) -/

theorem Chan.clusterStart_besideQueues (c : Chan) (serial : BitVec 64) (variant draw : Nat) :
    ∃ y n g, (c.clusterStart serial variant draw).besideQueues =
      ({ c with sync := y, guard := g, frt := n } : Chan).besideQueues ∧ y.st = c.sync.st ∧ y.basic = c.sync.basic ∧
        y.cluster = c.sync.cluster ∧ y.gotRef = c.sync.gotRef ∧ y.refSent = c.sync.refSent ∧ y.copy = c.sync.copy := by
  unfold Chan.clusterStart
  extract_lets y skew rate names y' g n d e a
  have he : e.besideQueues = d.besideQueues := by
    dsimp only [e]
    split
    · exact foldl_view (g := Chan.besideQueues) (fun c p => c.sendFrame_besideQueues _ _ _ _ _) _ d
    · rfl
  have ha : a.besideQueues = d.besideQueues := by
    dsimp only [a]
    split
    · exact (e.sendManagement_besideQueues _ _).trans he
    · exact he
  have hd : d.besideQueues = ({ c with sync := y', guard := d.guard, frt := d.frt } : Chan).besideQueues := rfl
  refine ⟨y', d.frt, d.guard, ?_, rfl, rfl, rfl, rfl, rfl, rfl⟩
  split
  · exact (Chan.sendManagement_besideQueues _ _ _).trans (ha.trans hd)
  · exact ha.trans hd

/-- The clock of a node at the start of its next basic cycle. -/
def Sync.nextCycle (y : Sync) (key : Nat) : Sync := y.closeCycle.advance key

/-- What a basic cycle start leaves of the numbers of the cycle. -/
theorem Sync.nextCycle_numbers (y : Sync) (key : Nat) :
    (y.nextCycle key).basic = (y.basic + 1) % 64 ∧
      (y.nextCycle key).cluster = (if y.basic = 63 then (y.cluster + 1) % 2 ^ 32 else y.cluster) ∧
      (y.nextCycle key).gotRef = false ∧ (y.nextCycle key).refSent = false ∧ (y.nextCycle key).copy = none := by
  unfold Sync.nextCycle Sync.advance
  extract_lets wrap z
  have hz : z.basic = (y.basic + 1) % 64 ∧ z.cluster = (if y.basic = 63 then (y.cluster + 1) % 2 ^ 32 else y.cluster) ∧
      z.gotRef = false ∧ z.refSent = false ∧ z.copy = none := by
    refine ⟨rfl, ?_, rfl, rfl, rfl⟩
    show (if (y.basic == 63) = true then (y.cluster + 1) % 2 ^ 32 else y.cluster) = _
    simp only [beq_iff_eq]
  split
  · exact hz
  · exact hz

theorem Sync.closeCycle_good (y : Sync) :
    (y.copy = none → y.closeCycle.good = y.good) ∧
      ∀ h o, y.copy = some (h, o) → o.natAbs ≤ 1000 → y.closeCycle.good = y.good + 1 := by
  refine ⟨fun hc => ?_, fun h o hc ho => ?_⟩
  · simp only [Sync.closeCycle, hc]
  · simp only [Sync.closeCycle, hc]
    exact if_pos ho

/-- A node that does not qualify keeps its state. -/
theorem Sync.nextCycle_st {y : Sync} {key : Nat} (h : y.st ≠ 3 ∨ y.closeCycle.good < 8) : (y.nextCycle key).st = y.st := by
  unfold Sync.nextCycle Sync.advance
  extract_lets wrap z
  have hg : z.good = y.closeCycle.good := rfl
  have hs : z.st = y.st := rfl
  refine (congrArg Sync.st (if_neg ?_)).trans hs
  rw [hs, hg]
  rcases h with h | h
  · simp [h]
  · simp [Nat.not_le.mpr h]

/-- A node that qualifies enters SYNC. -/
theorem Sync.nextCycle_enters {y : Sync} {key : Nat} (h3 : y.st = 3) (hg : 8 ≤ y.closeCycle.good)
    (hc : (y.compiled = false ∧ y.drifted = false) ∨ y.basic = 63) : (y.nextCycle key).st = 4 := by
  unfold Sync.nextCycle Sync.advance
  extract_lets wrap z
  have hg' : z.good = y.closeCycle.good := rfl
  have hs : z.st = y.st := rfl
  have hc' : ((!z.compiled && !z.drifted) || y.closeCycle.basic == 63) = true := by
    rcases hc with ⟨h1, h2⟩ | h
    · simp [show z.compiled = false from h1, show z.drifted = false from h2]
    · simp [show y.closeCycle.basic = 63 from h]
  refine congrArg Sync.st (if_pos ?_)
  rw [hs, hg', h3, decide_eq_true hg]
  exact hc'

/-- One basic cycle start: the clock's next cycle, but for what steering and a cluster cycle start set beside. -/
theorem Chan.basicCycle_besideQueues {c : Chan} (h : c.sync.st ≠ 0) (serial : BitVec 64) (variant draw : Nat) :
    ∃ y n g, (c.basicCycle serial variant draw).besideQueues = ({ c with sync := y, guard := g, frt := n } : Chan).besideQueues ∧
      y.st = (c.sync.nextCycle c.nodeKey).st ∧ y.basic = (c.sync.nextCycle c.nodeKey).basic ∧
      y.cluster = (c.sync.nextCycle c.nodeKey).cluster ∧ y.gotRef = (c.sync.nextCycle c.nodeKey).gotRef ∧
      y.refSent = (c.sync.nextCycle c.nodeKey).refSent ∧ y.copy = (c.sync.nextCycle c.nodeKey).copy := by
  unfold Chan.basicCycle
  extract_lets wrap d e y a
  have hy : e.sync = c.sync.nextCycle c.nodeKey := rfl
  obtain ⟨z, ha, hz⟩ : ∃ z, a = { c with sync := z, guard := d.guard, frt := d.frt } ∧ z.st = e.sync.st ∧ z.basic = e.sync.basic ∧
      z.cluster = e.sync.cluster ∧ z.gotRef = e.sync.gotRef ∧ z.refSent = e.sync.refSent ∧ z.copy = e.sync.copy := by
    dsimp only [a]
    split
    · exact ⟨_, rfl, rfl, rfl, rfl, rfl, rfl, rfl⟩
    · exact ⟨_, rfl, rfl, rfl, rfl, rfl, rfl, rfl⟩
  rw [hy] at hz
  rw [if_neg (by simp [show d.sync.st ≠ 0 from h])]
  split
  · obtain ⟨y', n, g, hq, h1, h2, h3, h4, h5, h6⟩ := a.clusterStart_besideQueues serial variant draw
    rw [ha] at hq h1 h2 h3 h4 h5 h6
    obtain ⟨k1, k2, k3, k4, k5, k6⟩ := hz
    exact ⟨y', n, g, ha ▸ hq, h1.trans k1, h2.trans k2, h3.trans k3, h4.trans k4, h5.trans k5, h6.trans k6⟩
  · exact ⟨z, d.frt, d.guard, by rw [ha], hz⟩

/-! ### Coldstart frames (R250, R251) -/

section

variable {c : Chan} {own serial : BitVec 64} {key : Nat}

/-- Another node's serial number noted: in the tables of keys, and at most recorded. -/
theorem Chan.noteSerial_other (h : key ≠ c.nodeKey) :
    ∃ a b r, c.noteSerial own key serial = { c with sync := { c.sync with serials := a, duplicated := b }, recd := r } := by
  unfold Chan.noteSerial
  rw [if_neg (by simpa using h)]
  split
  · exact ⟨_, _, _, rfl⟩
  · split
    · exact ⟨_, _, _, rfl⟩
    · rw [Chan.emit_eq]
      exact ⟨_, _, _, rfl⟩

theorem Chan.noteSerial_own : c.noteSerial own c.nodeKey own = c := by
  unfold Chan.noteSerial
  rw [if_pos (beq_self_eq_true _), if_pos (beq_self_eq_true _)]

theorem Chan.noteSerial_duplicate (h : serial ≠ own) :
    (c.noteSerial own c.nodeKey serial).sync.st = 0 ∧ (c.noteSerial own c.nodeKey serial).sync.dupLatched = true ∧
      (c.noteSerial own c.nodeKey serial).sync.dupDetect = min 3 (c.sync.dupDetect + 1) ∧
      (c.noteSerial own c.nodeKey serial).sync.dupKey = c.nodeKey := by
  unfold Chan.noteSerial
  rw [if_pos (beq_self_eq_true _), if_neg (by simpa using h), Chan.duplicateId, Chan.emit_eq]
  exact ⟨rfl, rfl, rfl, rfl⟩

/-- The candidates that a node takes as its reference. -/
theorem Chan.followsCold_of (h : (c.sync.st = 1 ∧ c.owlEligible = false) ∨ ((c.sync.st = 1 ∨ c.sync.st = 2) ∧ key < c.nodeKey) ∨
    (c.sync.st = 3 ∧ c.sync.cold = true ∧ key ≤ c.sync.owlKey)) : c.followsCold key = true ∧ c.sync.st ≠ 0 := by
  unfold Chan.followsCold
  rcases h with ⟨h1, h2⟩ | ⟨h1 | h1, h2⟩ | ⟨h1, h2, h3⟩
  · simp [h1, h2]
  · simp [h1, h2]
  · simp [h1, h2]
  · simp [h1, h2, h3]

theorem Chan.followsCold_of_higher (h : c.nodeKey < key) (he : c.owlEligible = true) (hs : c.sync.st = 1 ∨ c.sync.st = 2) :
    c.followsCold key = false := by
  unfold Chan.followsCold
  rcases hs with hs | hs
  · simp [hs, he, Nat.not_lt.mpr h.le]
  · simp [hs, Nat.not_lt.mpr h.le]

/-- The clock of a node that follows a candidate. -/
def Sync.followingCold (y : Sync) (key basic : Nat) : Sync :=
  { (if y.st == 3 then y else y.toIntegrating) with
    cold := true, owlKey := key, cluster := 0, basic := basic, gotRef := true, missing := 0, compiled := false }

theorem Sync.followingCold_st (y : Sync) (key basic : Nat) : (y.followingCold key basic).st = 3 := by
  unfold Sync.followingCold
  by_cases h : y.st = 3
  · rw [if_pos (beq_iff_eq.mpr h)]
    exact h
  · rw [if_neg (by simpa using h)]
    rfl

theorem Chan.takeOffsetNs_integrating {off : Int} (h : c.sync.st = 3) :
    ∃ m, c.takeOffsetNs off = { c with sync := { c.sync with offset := off, idleAdj := off, maxNs := m } } :=
  ⟨_, Chan.drift_of_near (.inl (by rw [show Sync.st _ = c.sync.st from rfl, h]; decide))⟩

end

section

variable {s : State} {ch : Ch} {f : FrameRx}

/-- What a channel does with a coldstart frame heard: the serial number noted, the candidate followed or not. -/
def Chan.heardCold (c : Chan) (f : FrameRx) (own : BitVec 64) (key : Nat) : Chan :=
  let d := c.noteSerial own key (serialOf (frameWords f) 3)
  if key != d.nodeKey && d.sync.st != 0 && d.followsCold key then
    ({ d with sync := d.sync.followingCold key (bits (Machine.wordAt (frameWords f) 1).toNat 5 0) } : Chan).takeOffsetNs
      (d.offsetOf f ((103 + 10 * (key / 2)) * 1000))
  else d

theorem exec_coldstart (hl : (s.ch ch).live = true) (hh : (s.ch ch).HearsFrame ch f 2) :
    exec (.coldstart ch f) s = .next (s.put ch
      (((s.ch ch).heardFrame f).heardCold f s.factory.serial (bits (wordAt (frameWords f) 2).toNat 6 0))) := by
  show execColdstart ch f s = _
  unfold execColdstart
  dsimp only
  rw [State.onLive_eq _ hl]
  rw [Chan.hear_of_hears hh, if_neg (by simp)]
  rfl

theorem Chan.heardCold_follows {c : Chan} {own : BitVec 64} {key : Nat} (hk : key ≠ c.nodeKey)
    (h : (c.sync.st = 1 ∧ c.owlEligible = false) ∨ ((c.sync.st = 1 ∨ c.sync.st = 2) ∧ key < c.nodeKey) ∨
      (c.sync.st = 3 ∧ c.sync.cold = true ∧ key ≤ c.sync.owlKey)) :
    (c.heardCold f own key).sync.st = 3 ∧ (c.heardCold f own key).sync.cold = true ∧
      (c.heardCold f own key).sync.owlKey = key ∧ (c.heardCold f own key).sync.cluster = 0 ∧
      (c.heardCold f own key).sync.basic = bits (Machine.wordAt (frameWords f) 1).toNat 5 0 ∧
      (c.heardCold f own key).sync.compiled = false := by
  obtain ⟨a, b, r, hn⟩ := Chan.noteSerial_other (own := own) (serial := serialOf (frameWords f) 3) hk
  obtain ⟨hf, h0⟩ := Chan.followsCold_of h
  unfold Chan.heardCold
  rw [hn]
  dsimp only
  rw [if_pos ?_]
  · obtain ⟨m, hm⟩ := Chan.takeOffsetNs_integrating
      (c := ({ c with
        sync := ({ c.sync with serials := a, duplicated := b } : Sync).followingCold key
          (bits (Machine.wordAt (frameWords f) 1).toNat 5 0), recd := r } : Chan))
      (off := Chan.offsetOf { c with sync := { c.sync with serials := a, duplicated := b }, recd := r } f
        ((103 + 10 * (key / 2)) * 1000))
      (Sync.followingCold_st _ _ _)
    rw [hm]
    exact ⟨Sync.followingCold_st { c.sync with serials := a, duplicated := b } key
      (bits (Machine.wordAt (frameWords f) 1).toNat 5 0), rfl, rfl, rfl, rfl, rfl⟩
  · exact Bool.and_eq_true_iff.mpr ⟨Bool.and_eq_true_iff.mpr ⟨bne_iff_ne.mpr hk, bne_iff_ne.mpr h0⟩, hf⟩

theorem Chan.heardCold_ignores {c : Chan} {own : BitVec 64} {key : Nat} (hk : c.nodeKey < key) (he : c.owlEligible = true)
    (hs : c.sync.st = 1 ∨ c.sync.st = 2) :
    (c.heardCold f own key).sync.st = c.sync.st ∧ (c.heardCold f own key).sync.owlKey = c.sync.owlKey := by
  obtain ⟨a, b, r, hn⟩ := Chan.noteSerial_other (own := own) (serial := serialOf (frameWords f) 3) (Nat.ne_of_gt hk)
  have hf : Chan.followsCold { c with sync := { c.sync with serials := a, duplicated := b }, recd := r } key = false :=
    Chan.followsCold_of_higher (c := c) hk he hs
  unfold Chan.heardCold
  rw [hn]
  dsimp only
  rw [if_neg (fun hh => absurd ((Bool.and_eq_true_iff.mp hh).2.symm.trans hf) (by decide))]
  exact ⟨rfl, rfl⟩

theorem Chan.noteSerial_nodeKey (c : Chan) (own serial : BitVec 64) (key : Nat) :
    (c.noteSerial own key serial).nodeKey = c.nodeKey := by
  by_cases hk : key = c.nodeKey
  · unfold Chan.noteSerial
    rw [if_pos (beq_iff_eq.mpr hk)]
    split
    · rfl
    · rw [Chan.duplicateId, Chan.emit_eq]
      rfl
  · obtain ⟨a, b, r, hn⟩ := Chan.noteSerial_other (own := own) (serial := serial) hk
    rw [hn]
    rfl

/-- Under the node's own key nobody is followed. -/
theorem Chan.heardCold_own (c : Chan) (own : BitVec 64) :
    c.heardCold f own c.nodeKey = c.noteSerial own c.nodeKey (serialOf (frameWords f) 3) := by
  unfold Chan.heardCold
  dsimp only
  rw [if_neg (by rw [Chan.noteSerial_nodeKey]; simp)]

/-- The channel on the schedule announced (R237, R264, R277). -/
def Chan.scheduleSwitched (c : Chan) : Chan :=
  let y := c.sync
  let d := if y.nextSched != y.compiled then c.flushVital else c
  let e := { d with sync := { y with compiled := y.nextSched, switchAt := 0, nextSched := false } }
  if y.nextSched then e
  else { e with frt := { e.frt with complete := false, stable := 0, ready := [], acked := [] } }

theorem exec_scheduleSwitch (hl : (s.ch ch).live = true) (hop : (s.ch ch).laneOpen = true) (h3 : 3 ≤ (s.ch ch).sync.st)
    (h0 : (s.ch ch).sync.switchAt ≠ 0) (hc : (s.ch ch).sync.switchAt = (s.ch ch).sync.cluster) (hb : (s.ch ch).sync.basic = 0) :
    exec (.scheduleSwitch ch) s = .next (s.put ch (s.ch ch).scheduleSwitched) := by
  show execScheduleSwitch ch s = _
  rw [execScheduleSwitch, State.onLive_eq _ hl]
  dsimp only
  rw [if_pos (by rw [hop, decide_eq_true h3, bne_iff_ne.mpr h0, beq_iff_eq.mpr hc, hb]; rfl)]
  rfl

theorem Chan.scheduleSwitched_leaves (c : Chan) :
    c.scheduleSwitched.sync = { c.sync with compiled := c.sync.nextSched, switchAt := 0, nextSched := false } ∧
      (c.sync.nextSched ≠ c.sync.compiled →
        ∀ f ∈ c.scheduleSwitched.fab.queueX ++ c.scheduleSwitched.fab.queueY, 2 ≤ f.cls) ∧
      (c.sync.nextSched = false → c.scheduleSwitched.frt.complete = false ∧ c.scheduleSwitched.frt.ready = []) := by
  unfold Chan.scheduleSwitched
  extract_lets y d e
  have he : e.fab = d.fab := rfl
  have hd (h : c.sync.nextSched ≠ c.sync.compiled) : d = c.flushVital := if_pos (by simpa [y] using h)
  refine ⟨?_, fun h => ?_, fun h => ?_⟩
  · split <;> rfl
  · have hq : ∀ f ∈ e.fab.queueX ++ e.fab.queueY, 2 ≤ f.cls := by
      rw [he, hd h]
      exact c.flushVital_queues
    split
    · exact hq
    · exact hq
  · rw [if_neg (by rw [show y.nextSched = false from h]; decide)]
    exact ⟨rfl, rfl⟩

/-- A basic cycle start, seen at its channel before it leaves the vote for its distance from the lane. -/
theorem exec_basicCycleStart (now : Nat) (hl : (s.ch ch).laneLive = true) :
    ∃ serial variant draw,
      let d := (s.ch ch).basicCycle serial variant draw
      let u := s.drawn.put ch d
      exec (.basicCycleStart ch now) s =
        if (s.ch ch).sync.st != 4 && d.sync.st == 4 && d.offLane ch now then
          .next ((u.mod ch (fun c =>
            { c with vote := { c.vote with skewCnt := inc 16 c.vote.skewCnt } }.emit .skewFault ch.code [])).withdraw ch)
        else .next u := by
  refine ⟨s.factory.serial, (match s.factory.variant with
    | .hx4096 => 0
    | .hx1024 => 1), s.draws, ?_⟩
  intro d u
  show execBasicCycleStart ch now s = _
  unfold execBasicCycleStart
  dsimp only
  rw [if_pos hl]
  simp only [State.mod_ch, State.drawn_ch]
  rfl

/-- What a basic cycle start leaves: the clock's next cycle, in this channel alone unless it enters SYNC too far from its own T1
release. -/
theorem exec_basicCycleStart_leaves (now : Nat) (hl : (s.ch ch).laneLive = true) (h0 : (s.ch ch).sync.st ≠ 0) :
    let c := s.ch ch
    let z := c.sync.nextCycle c.nodeKey
    let far := (now + 64000 - z.basic * 1000 + 64000 - c.t1Clock % 64000) % 64000
    ∃ t, exec (.basicCycleStart ch now) s = .next t ∧
      ((t.ch ch).sync.st = z.st ∧ (t.ch ch).sync.basic = z.basic ∧ (t.ch ch).sync.cluster = z.cluster ∧
        (t.ch ch).sync.gotRef = z.gotRef ∧ (t.ch ch).sync.refSent = z.refSent ∧ (t.ch ch).sync.copy = z.copy) ∧
      (c.sync.st = 4 ∨ z.st ≠ 4 → s.OnlyAt t ch) ∧
      (c.sync.st ≠ 4 → z.st = 4 → c.running = true → c.released = true → c.votes ch = true → 50 < far → far < 63950 →
        (t.ch ch).votes ch = false ∧ (t.ch ch).vote.skewCnt = inc 16 c.vote.skewCnt) := by
  intro c z far
  obtain ⟨serial, variant, draw, hexec⟩ := exec_basicCycleStart now hl
  obtain ⟨y, n, g, hq, hz⟩ := Chan.basicCycle_besideQueues h0 serial variant draw
  dsimp only at hexec
  have hsync : (c.basicCycle serial variant draw).sync = y := (congrArg (fun (x : Chan) => x.sync) hq :)
  have hrun : (c.basicCycle serial variant draw).running = c.running := (congrArg Chan.running hq :)
  have hvotes : (c.basicCycle serial variant draw).votes ch = c.votes ch := (congrArg (fun (x : Chan) => x.votes ch) hq :)
  have hrel : (c.basicCycle serial variant draw).released = c.released := (congrArg (fun (x : Chan) => x.released) hq :)
  have ht1 : (c.basicCycle serial variant draw).t1Clock = c.t1Clock := (congrArg (fun (x : Chan) => x.t1Clock) hq :)
  have hskew : (c.basicCycle serial variant draw).vote.skewCnt = c.vote.skewCnt :=
    (congrArg (fun (x : Chan) => x.vote.skewCnt) hq :)
  have hoff : (c.basicCycle serial variant draw).offLane ch now =
      (c.running && c.released && c.votes ch && decide (50 < far) && decide (far < 63950)) := by
    unfold Chan.offLane
    dsimp only
    rw [hrun, hrel, hvotes, hsync, hz.2.1, ht1]
  have hst : (c.basicCycle serial variant draw).sync.st = z.st := by rw [hsync]; exact hz.1
  rw [show (s.ch ch).basicCycle serial variant draw = c.basicCycle serial variant draw from rfl, hst, hoff] at hexec
  by_cases hb : ((s.ch ch).sync.st != 4 && z.st == 4 && (c.running && c.released && c.votes ch && decide (50 < far) &&
      decide (far < 63950))) = true
  · rw [if_pos hb] at hexec
    simp only [Bool.and_eq_true, bne_iff_ne, beq_iff_eq, decide_eq_true_eq] at hb
    obtain ⟨⟨h4, hz4⟩, ⟨⟨⟨hr, -⟩, hv⟩, -⟩, -⟩ := hb
    obtain ⟨hg, -⟩ := State.withdraw_gone (ch := ch) (s := (s.drawn.put ch (c.basicCycle serial variant draw)).mod ch (fun c =>
        { c with vote := { c.vote with skewCnt := inc 16 c.vote.skewCnt } }.emit .skewFault ch.code []))
      (by rw [State.mod_ch, State.put_ch, Chan.emit_eq]; exact hrun.trans hr)
      (by rw [State.mod_ch, State.put_ch, Chan.emit_eq]; exact hvotes.trans hv)
    refine ⟨_, hexec, ?_, fun h => absurd hz4 (h.resolve_left h4), fun _ _ _ _ _ _ _ => ⟨hg.out, hg.skewCnt.trans ?_⟩⟩
    · rw [hg.sync, State.mod_ch, State.put_ch, Chan.emit_eq]
      dsimp only
      rw [hsync]
      exact hz
    · rw [State.mod_ch, State.put_ch, Chan.emit_eq, ← hskew]
  · rw [if_neg hb] at hexec
    refine ⟨_, hexec, ?_, fun _ => ?_, fun h4 hz4 hr hre hv hf1 hf2 => absurd ?_ hb⟩
    · rw [State.put_ch, hsync]
      exact hz
    · exact State.OnlyAt.trans (.drawn _ _) (.put _ _ _)
    · simp [show (s.ch ch).sync.st ≠ 4 from h4, hz4, hr, hre, hv, hf1, hf2]

end

/-- Settles O38: listening and candidates, the schedule change, basic cycles, then coldstart frames heard. -/
theorem coldStartAndCycles : Obligations.ColdStartAndCycles := by
  unfold Obligations.ColdStartAndCycles
  refine ⟨fun s ch hl hop => ?_, fun s ch now hl => ?_, fun s ch f hl hh => ?_⟩
  · intro c y
    refine ⟨fun h1 h2 => ?_, fun h => ?_, fun h1 h2 h3 => ?_, fun h => ?_, fun h1 h2 h3 => ?_, fun h => ?_,
      fun h3 h0 hc hb => ?_, fun h => ?_⟩
    · show execListenTimeout ch s = _
      rw [execListenTimeout, State.onLive_eq _ hl]
      exact congrArg (fun x => Host.Outcome.next (s.put ch x)) (if_pos (by
        rw [hop, show (s.ch ch).sync.st = 1 from h1, decide_eq_true (show 128 ≤ (s.ch ch).sync.listened from h2)]; rfl))
    · refine congrArg Host.Outcome.next (State.onLive_same (if_neg ?_))
      rcases h with h | h
      · simp [show (s.ch ch).sync.st ≠ 1 from h]
      · simp [Nat.not_le.mpr (show (s.ch ch).sync.listened < 128 from h)]
    · show execColdstartEntry ch s = _
      rw [execColdstartEntry, State.onLive_eq _ hl]
      exact congrArg (fun x => Host.Outcome.next (s.put ch x)) (if_pos (by
        rw [hop, show (s.ch ch).sync.st = 1 from h1, show (s.ch ch).sync.listenOver = true from h2,
          show (s.ch ch).owlEligible = true from h3]; rfl))
    · refine congrArg Host.Outcome.next (State.onLive_same (if_neg ?_))
      rcases h with h | h | h
      · simp [show (s.ch ch).sync.st ≠ 1 from h]
      · simp [show (s.ch ch).sync.listenOver = false from h]
      · simp [show (s.ch ch).owlEligible = false from h]
    · have hexec : exec (.coldstartComplete ch) s = .next (s.put ch (c.becomeOwl 1 true)) := by
        show execColdstartComplete ch s = _
        rw [execColdstartComplete, State.onLive_eq _ hl]
        exact congrArg (fun x => Host.Outcome.next (s.put ch x)) (if_pos (by
          rw [hop, show (s.ch ch).sync.st = 2 from h1, show (s.ch ch).sync.coldSent = 8 from h2,
            show (s.ch ch).sync.basic = 16 from h3]; rfl))
      refine ⟨_, hexec, .put _ _ _, ?_⟩
      rw [State.put_ch]
      exact ⟨rfl, rfl, rfl⟩
    · refine congrArg Host.Outcome.next (State.onLive_same (if_neg ?_))
      rcases h with h | h
      · simp [show (s.ch ch).sync.coldSent ≠ 8 from h]
      · simp [show (s.ch ch).sync.basic ≠ 16 from h]
    · obtain ⟨h1, h2, h4⟩ := c.scheduleSwitched_leaves
      have hexec := exec_scheduleSwitch hl hop h3 h0 hc hb
      refine ⟨⟨_, hexec, .put _ _ _, ?_⟩, fun h => ⟨_, hexec, ?_⟩, fun h => ⟨_, hexec, ?_⟩⟩ <;> rw [State.put_ch]
      · exact h1
      · exact h2 h
      · exact h4 h
    · refine congrArg Host.Outcome.next (State.onLive_same (if_neg ?_))
      rcases h with h | h
      · simp [show (s.ch ch).sync.switchAt ≠ (s.ch ch).sync.cluster from h]
      · simp [show (s.ch ch).sync.basic ≠ 0 from h]
  · intro c y b far enters
    have hlv := live_of_laneLive hl
    have henters (h : enters) : (y.nextCycle c.nodeKey).st = 4 ∧ y.st = 3 := by
      obtain ⟨h3, ⟨k, o, hc, ho⟩, hg, hw⟩ := h
      have hg' := (Sync.closeCycle_good y).2 k o hc ho
      exact ⟨Sync.nextCycle_enters h3 (by omega) hw, h3⟩
    refine ⟨fun h0 hd hn hb => ?_, fun h => ?_, fun h0 => ?_, fun h0 h3 => ?_, fun h3 hc hg => ?_, fun h => ?_,
      fun h hr hre hv hf1 hf2 => ?_⟩
    · have hexec : exec (.dupBackoffEnd ch) s = .next (s.put ch { c with sync := y.toListen }) := by
        show execDupBackoffEnd ch s = _
        rw [execDupBackoffEnd, State.onLive_eq _ hlv]
        exact congrArg (fun x => Host.Outcome.next (s.put ch x)) (if_pos (by
          rw [hl, show (s.ch ch).sync.st = 0 from h0, show (s.ch ch).sync.dupLatched = true from hd,
            decide_eq_true (show (s.ch ch).sync.dupDetect < 3 from hn), show (s.ch ch).sync.backoff = 0 from hb]; rfl))
      refine ⟨_, hexec, .put _ _ _, ?_⟩
      rw [State.put_ch]
      exact ⟨rfl, rfl⟩
    · refine congrArg Host.Outcome.next (State.onLive_same (if_neg ?_))
      rcases h with h | h
      · simp [Nat.not_lt.mpr (show 3 ≤ (s.ch ch).sync.dupDetect from h)]
      · simp [show (s.ch ch).sync.backoff ≠ 0 from h]
    · obtain ⟨t, hexec, ⟨-, h2, h3, h4, h5, h6⟩, -⟩ := exec_basicCycleStart_leaves now hl h0
      obtain ⟨g2, g3, g4, g5, g6⟩ := y.nextCycle_numbers c.nodeKey
      exact ⟨t, hexec, h2.trans g2, h3.trans g3, h4.trans g4, h5.trans g5, h6.trans g6⟩
    · obtain ⟨t, hexec, ⟨h1, -⟩, honly, -⟩ := exec_basicCycleStart_leaves now hl h0
      have hst := Sync.nextCycle_st (y := y) (key := c.nodeKey) (.inl h3)
      refine ⟨t, hexec, honly ?_, h1.trans hst⟩
      by_cases h4 : y.st = 4
      · exact .inl h4
      · exact .inr (hst ▸ h4)
    · have h0 : y.st ≠ 0 := by omega
      obtain ⟨t, hexec, ⟨h1, -⟩, honly, -⟩ := exec_basicCycleStart_leaves now hl h0
      have hst := Sync.nextCycle_st (y := y) (key := c.nodeKey) (.inr ((Sync.closeCycle_good y).1 hc ▸ hg))
      exact ⟨t, hexec, honly (.inr (by rw [show Sync.st _ = y.st from hst, h3]; decide)), h1.trans (hst.trans h3)⟩
    · obtain ⟨h4, h3⟩ := henters h
      obtain ⟨t, hexec, ⟨h1, -⟩, -⟩ := exec_basicCycleStart_leaves now hl (show y.st ≠ 0 by omega)
      exact ⟨t, hexec, h1.trans h4⟩
    · obtain ⟨h4, h3⟩ := henters h
      obtain ⟨t, hexec, -, -, hleaves⟩ := exec_basicCycleStart_leaves now hl (show y.st ≠ 0 by omega)
      have hb : (y.nextCycle c.nodeKey).basic = b := (y.nextCycle_numbers c.nodeKey).1
      rw [show ((s.ch ch).sync.nextCycle (s.ch ch).nodeKey).basic = b from hb] at hleaves
      exact ⟨t, hexec, hleaves (show y.st ≠ 4 by omega) h4 hr hre hv hf1 hf2⟩
  · have hexec := exec_coldstart hl hh
    intro c key serial
    refine ⟨fun hk h => ?_, fun hk he hs => ?_, fun hk hs => ?_, fun hk hs => ?_⟩
    · refine ⟨_, hexec, .put _ _ _, ?_⟩
      rw [State.put_ch]
      exact Chan.heardCold_follows (c := c) hk h
    · refine ⟨_, hexec, .put _ _ _, ?_⟩
      rw [State.put_ch]
      exact Chan.heardCold_ignores (c := c) hk he hs
    · refine ⟨_, hexec, .put _ _ _, ?_⟩
      rw [State.put_ch, show bits (wordAt (frameWords f) 2).toNat 6 0 = ((s.ch ch).heardFrame f).nodeKey from hk,
        Chan.heardCold_own]
      exact Chan.noteSerial_duplicate (c := c) hs
    · rw [hexec, show bits (wordAt (frameWords f) 2).toNat 6 0 = ((s.ch ch).heardFrame f).nodeKey from hk,
        Chan.heardCold_own, show serialOf (frameWords f) 3 = s.factory.serial from hs, Chan.noteSerial_own]

end Sys2Proof.Machine

/-! PROOFS. Transceivers, ports and their Badgers (spec/02 R38, spec/09 R231, R243, spec/10 R257, R265, R273, R277, R280). -/

namespace Sys2Proof.Machine

open Sys2Proof

/-! ### Cells and credits (R276, R277, R280) -/

@[simp] theorem Qm.setFree_credits (q : Qm) (cls : Nat) (level : Option (Port × Nat)) (n : Nat) :
    (q.setFree cls level n).credits = q.credits := rfl

theorem Qm.give_credits (q : Qm) (cls : Nat) (level : Option (Port × Nat)) (n : Nat) : (q.give cls level n).credits = q.credits := by
  unfold Qm.give
  split
  · split <;> rfl
  · rfl

theorem Qm.take_credits {q r : Qm} {cls n : Nat} {level : Option (Port × Nat)} (h : q.take cls level n = some r) :
    r.credits = q.credits := by
  unfold Qm.take at h
  split at h
  · split at h
    · cases h
    · cases h
      rfl
  · cases h

theorem Chan.flushWhere_credits (c : Chan) (p : Port) (gone : Frame → Bool) : (c.flushWhere p gone).qm.credits = c.qm.credits := by
  unfold Chan.flushWhere
  extract_lets out
  split
  · rfl
  · exact foldl_view (g := Qm.credits) (fun q f => q.give_credits _ _ _) _ _

theorem Chan.queueFrame_leaves {c d : Chan} {p : Port} {f : Frame} (h : c.queueFrame p f = some d) :
    d.qm.credits = c.qm.credits ∧ d.fab.queue p.other = c.fab.queue p.other := by
  obtain ⟨q, hq, rfl⟩ := Option.map_eq_some_iff.mp h
  exact ⟨Qm.take_credits hq, by cases p <;> rfl⟩

/-- A frame for one port: the credits stay, and the other port's queue. -/
theorem Chan.sendFrame_leaves (c : Chan) (cls kind : Nat) (dest : Option Nat) (payload : List Byte) (p : Port) :
    (c.sendFrame cls kind dest payload [p]).qm.credits = c.qm.credits ∧
      (c.sendFrame cls kind dest payload [p]).fab.queue p.other = c.fab.queue p.other := by
  unfold Chan.sendFrame
  extract_lets f d
  rw [List.filter_cons]
  split
  · rw [List.filter_nil, List.foldl_cons, List.foldl_nil]
    cases h : d.queueFrame p f with
    | none => exact ⟨rfl, by cases p <;> rfl⟩
    | some e =>
      obtain ⟨h1, h2⟩ := Chan.queueFrame_leaves h
      exact ⟨h1, h2.trans (by cases p <;> rfl)⟩
  · exact ⟨rfl, by cases p <;> rfl⟩

theorem Chan.sendManagement_credits (c : Chan) (kind : Nat) (payload : List Byte) :
    (c.sendManagement kind payload).qm.credits = c.qm.credits := by
  unfold Chan.sendManagement Chan.sendFrame
  extract_lets f d
  refine (foldl_view (g := fun (x : Chan) => x.qm.credits) (fun c p => ?_) _ d).trans rfl
  cases h : c.queueFrame p f with
  | none => rfl
  | some e => exact (Chan.queueFrame_leaves h).1

/-- A port whose credits are dropped holds none. -/
theorem Qm.dropCredits_none (q : Qm) (p : Port) :
    ∀ e ∈ (q.dropCredits p).credits, e.port = p → e.cells = 0 ∧ e.known = false := by
  intro e he hp
  obtain ⟨k, -, rfl⟩ := List.mem_map.mp he
  by_cases hk : (k.port == p) = true
  · rw [if_pos hk]
    exact ⟨rfl, rfl⟩
  · rw [if_neg hk] at hp
    exact absurd (beq_iff_eq.mpr hp) hk

/-! ### Frames flushed (R273, R277) -/

/-- What a flush leaves: a queue that was empty stays so, and the credits stay. -/
theorem Chan.flushBoth_leaves (c : Chan) (gone : Frame → Bool) :
    (c.flushBoth gone).qm.credits = c.qm.credits ∧ ∀ p, c.fab.queue p = [] → (c.flushBoth gone).fab.queue p = [] := by
  unfold Chan.flushBoth
  refine ⟨(Chan.flushWhere_credits _ _ _).trans (Chan.flushWhere_credits _ _ _), fun p hp => ?_⟩
  obtain ⟨hy1, hx1⟩ := c.flushWhere_queues .x gone
  obtain ⟨hx2, hy2⟩ := (c.flushWhere .x gone).flushWhere_queues .y gone
  cases p with
  | x => exact (hx2.trans hx1).trans (by rw [hp]; rfl)
  | y => exact hy2.trans (by rw [show Fab.queue _ .y = _ from hy1, show Fab.queue _ Port.x.other = _ from hp]; rfl)

theorem Chan.flushUnreachable_eq (c : Chan) :
    ∃ a qm fab, c.flushUnreachable = { c with frt := { c.frt with acked := a }, qm := qm, fab := fab } ∧
      qm.credits = c.qm.credits ∧ ∀ p, c.fab.queue p = [] → fab.queue p = [] := by
  unfold Chan.flushUnreachable
  split
  · rw [Chan.flushBoth_eq]
    refine ⟨_, _, _, rfl, ?_, ?_⟩
    · exact (Chan.flushBoth_leaves _ _).1
    · exact fun p hp => (Chan.flushBoth_leaves _ _).2 p hp
  · exact ⟨_, _, _, rfl, rfl, fun _ h => h⟩

/-! ### A port lost (R265) -/

@[simp] theorem Frt.port_putPort_self (f : Frt) (p : Port) (v : PortState) : (f.putPort p v).port p = v := by
  cases p <;> rfl

@[simp] theorem Frt.port_putPort_other (f : Frt) (p : Port) (v : PortState) : (f.putPort p v).port p.other = f.port p.other := by
  cases p <;> rfl

/-- The state of a port that has gone down. -/
def PortState.fallen (st : PortState) : PortState :=
  { st with up := false, nbr := none, wrong := false, fell := true, quiet := 0, lively := 0, near := none, named := false }

theorem Chan.flushPort_leaves (c : Chan) (p : Port) :
    (c.flushPort p).frt = c.frt ∧ (c.flushPort p).nodeKey = c.nodeKey ∧ (c.flushPort p).fab.queue p = [] ∧
      ∀ e ∈ (c.flushPort p).qm.credits, e.port = p → e.cells = 0 ∧ e.known = false := by
  unfold Chan.flushPort
  extract_lets d e
  have hd : d.fab.queue p = [] := by
    refine (c.flushWhere_queues p _).2.trans ?_
    simp
  have he : e.fab.queue p = [] := by
    have h := (d.flushWhere_queues p.other (fun f => f.origin != d.nodeKey)).1
    rw [show p.other.other = p by cases p <;> rfl] at h
    exact h.trans hd
  have hde : d.frt = c.frt ∧ d.nodeKey = c.nodeKey := by
    dsimp only [d]
    rw [Chan.flushWhere_eq]
    exact ⟨rfl, rfl⟩
  have hee : e.frt = d.frt ∧ e.nodeKey = d.nodeKey := by
    dsimp only [e]
    rw [Chan.flushWhere_eq]
    exact ⟨rfl, rfl⟩
  exact ⟨hee.1.trans hde.1, hee.2.trans hde.2, he, Qm.dropCredits_none _ p⟩

/-- A port's state replaced, and frames that lead nowhere flushed. -/
theorem Chan.putPort_flushed (e : Chan) (p : Port) (v : PortState) :
    let t := ({ e with frt := e.frt.putPort p v } : Chan).flushUnreachable
    t.frt.port p = v ∧ t.frt.port p.other = e.frt.port p.other ∧ (e.fab.queue p = [] → t.fab.queue p = []) ∧
      t.qm.credits = e.qm.credits ∧ t.frt.lostLinks = e.frt.lostLinks := by
  intro t
  obtain ⟨a, qm, fab, ht, hc, hq⟩ := ({ e with frt := e.frt.putPort p v } : Chan).flushUnreachable_eq
  rw [show t = _ from ht]
  refine ⟨?_, ?_, hq p, hc, ?_⟩ <;> cases p <;> rfl

/-- The loss of a link announced: to the recorder, and with a known neighbour by a LINK_DOWN on the other port. -/
def Chan.announcesLoss (c : Chan) (p : Port) (nbr : Option (Nat × Port)) : Chan :=
  match nbr with
  | some n =>
    let c := c.emit .linkDown (portCode p) [w32 n.1]
    let c := { c with frt := { c.frt with lostLinks := linkPair (endOf c.nodeKey p) (endOf n.1 n.2) :: c.frt.lostLinks } }
    c.sendFrame 3 0x0A none (wordsBytes (linkWords c.nodeKey p n)) [p.other]
  | none => c.emit .linkDown (portCode p) []

theorem Chan.announcesLoss_leaves (c : Chan) (p : Port) (nbr : Option (Nat × Port)) :
    (∀ q, (c.announcesLoss p nbr).frt.port q = c.frt.port q) ∧ (c.announcesLoss p nbr).fab.queue p = c.fab.queue p ∧
      (c.announcesLoss p nbr).qm.credits = c.qm.credits ∧
      ∀ n, nbr = some n → linkPair (endOf c.nodeKey p) (endOf n.1 n.2) ∈ (c.announcesLoss p nbr).frt.lostLinks := by
  unfold Chan.announcesLoss
  cases nbr with
  | none =>
    dsimp only
    rw [Chan.emit_eq]
    exact ⟨fun _ => rfl, rfl, rfl, fun n h => by cases h⟩
  | some n =>
    dsimp only
    rw [Chan.emit_eq]
    dsimp only
    have hfrt := frt_of_besideQueues (Chan.sendFrame_besideQueues
      ({ c with
        recd := (c.emit .linkDown (portCode p) [w32 n.1]).recd
        frt := { c.frt with lostLinks := linkPair (endOf c.nodeKey p) (endOf n.1 n.2) :: c.frt.lostLinks } } : Chan)
      3 0x0A none (wordsBytes (linkWords c.nodeKey p n)) [p.other])
    have hleaves := Chan.sendFrame_leaves
      ({ c with
        recd := (c.emit .linkDown (portCode p) [w32 n.1]).recd
        frt := { c.frt with lostLinks := linkPair (endOf c.nodeKey p) (endOf n.1 n.2) :: c.frt.lostLinks } } : Chan)
      3 0x0A none (wordsBytes (linkWords c.nodeKey p n)) p.other
    rw [show p.other.other = p by cases p <;> rfl] at hleaves
    refine ⟨fun q => (congrArg (fun (x : Frt) => x.port q) hfrt).trans (by cases q <;> rfl), hleaves.2, hleaves.1, fun m hm => ?_⟩
    cases hm
    exact (congrArg Frt.lostLinks hfrt) ▸ List.mem_cons_self

theorem Chan.portLost_eq {c : Chan} {p : Port} (h : (c.frt.port p).up = true) :
    c.portLost p =
      ({ (c.flushPort p).announcesLoss p (c.frt.port p).nbr with
        frt := ((c.flushPort p).announcesLoss p (c.frt.port p).nbr).frt.putPort p (c.frt.port p).fallen } : Chan).flushUnreachable := by
  unfold Chan.portLost
  dsimp only
  rw [if_neg (by rw [h]; decide)]
  cases (c.frt.port p).nbr <;> rfl

/-- What a lost port leaves: its own state fallen and its queue and credits gone, the other port as it was. -/
theorem Chan.portLost_leaves {c : Chan} {p : Port} (h : (c.frt.port p).up = true) :
    (c.portLost p).frt.port p = (c.frt.port p).fallen ∧ (c.portLost p).frt.port p.other = c.frt.port p.other ∧
      (c.portLost p).fab.queue p = [] ∧
      (∀ e ∈ (c.portLost p).qm.credits, e.port = p → e.cells = 0 ∧ e.known = false) ∧
      ∀ n, (c.frt.port p).nbr = some n → linkPair (endOf c.nodeKey p) (endOf n.1 n.2) ∈ (c.portLost p).frt.lostLinks := by
  obtain ⟨hf, hk, hq, hc⟩ := c.flushPort_leaves p
  obtain ⟨ha, hb, hd, he⟩ := (c.flushPort p).announcesLoss_leaves p (c.frt.port p).nbr
  obtain ⟨h1, h2, h3, h4, h5⟩ := ((c.flushPort p).announcesLoss p (c.frt.port p).nbr).putPort_flushed p (c.frt.port p).fallen
  rw [Chan.portLost_eq h]
  refine ⟨h1, ?_, h3 (hb.trans hq), ?_, fun n hn => ?_⟩
  · rw [h2, ha, hf]
  · rw [h4, hd]
    exact hc
  · rw [h5, ← hk]
    exact he n hn

theorem Chan.portLost_down {c : Chan} {p : Port} (h : (c.frt.port p).up = false) : c.portLost p = c :=
  if_pos (by rw [h]; rfl)

/-! ### A port coming up (R243, R265, R280) -/

/-- The channel whose port has come up, before a wrong neighbour is told of. -/
def Chan.cameUp (c : Chan) (p : Port) : Chan :=
  let st := c.frt.port p
  let nbr := st.near.map (fun k => (k, p.other))
  let back := match nbr with
    | some n => c.frt.lostLinks.filter (fun l => l != linkPair (endOf c.nodeKey p) (endOf n.1 n.2))
    | none => c.frt.lostLinks
  { c with
    frt := { c.frt.putPort p { st with up := true, wrong := c.wrongNeighbour p, nbr := nbr, quiet := 0 } with lostLinks := back }
    qm := c.qm.dropCredits p
    sync := if c.sync.st == 0 && !c.sync.dupLatched then c.sync.toListen else c.sync }

theorem Chan.cameUp_leaves (c : Chan) (p : Port) :
    ((c.cameUp p).frt.port p).up = true ∧ ((c.cameUp p).frt.port p).nbr = (c.frt.port p).near.map (fun k => (k, p.other)) ∧
      ((c.cameUp p).frt.port p).wrong = c.wrongNeighbour p ∧ (c.cameUp p).frt.port p.other = c.frt.port p.other ∧
      (c.cameUp p).frt.fault = c.frt.fault ∧ (c.cameUp p).frt.cause = c.frt.cause := by
  cases p <;> exact ⟨rfl, rfl, rfl, rfl, rfl, rfl⟩

theorem Chan.cameUp_sync (c : Chan) (p : Port) :
    (c.cameUp p).sync = if c.sync.st == 0 && !c.sync.dupLatched then c.sync.toListen else c.sync := rfl

/-- A fault of the topology raised: told in the routing block, queued, recorded; the rest stays. -/
theorem Chan.topologyFault_leaves (c : Chan) (cause : Nat) :
    (c.topologyFault cause).frt = { c.frt with fault := true, cause := cause } ∧ (c.topologyFault cause).sync = c.sync ∧
      (c.topologyFault cause).qm.credits = c.qm.credits := by
  unfold Chan.topologyFault
  have hq := (Chan.sendManagement_besideQueues (({ c with frt := { c.frt with fault := true, cause := cause } } : Chan).emit
    .topoFault c.nodeKey [w32 cause]) 0x0C (wordsBytes [w32 c.nodeKey, w32 cause])).trans (Chan.emit_besideQueues _ _ _ _)
  refine ⟨frt_of_besideQueues hq, (sync_of_besideQueues hq).trans rfl, (Chan.sendManagement_credits _ _ _).trans ?_⟩
  rw [Chan.emit_eq]

/-- The channel whose port has come up. -/
def Chan.raised (c : Chan) (p : Port) : Chan := if c.wrongNeighbour p then (c.cameUp p).topologyFault 5 else c.cameUp p

section

variable {s : State} {ch : Ch} {p : Port}

theorem exec_portUp (hl : (s.ch ch).laneLive = true) (ho : (s.ch ch).onFabric = true) (hm : (s.ch ch).mayComeUp p = true) :
    exec (.portUp ch p) s = .next (s.put ch ((s.ch ch).raised p)) := by
  show execPortUp ch p s = _
  rw [execPortUp, State.onLive_eq _ (live_of_laneLive hl), if_pos (by rw [hl, ho, hm]; rfl)]
  rfl

/-- What a port come up leaves, a wrong neighbour or not. -/
theorem Chan.raised_leaves (c : Chan) (p : Port) :
    (((c.raised p).frt.port p).up = true ∧ ((c.raised p).frt.port p).nbr = (c.frt.port p).near.map (fun k => (k, p.other)) ∧
      ((c.raised p).frt.port p).wrong = c.wrongNeighbour p ∧ (c.raised p).frt.port p.other = c.frt.port p.other ∧
      ∀ e ∈ (c.raised p).qm.credits, e.port = p → e.cells = 0 ∧ e.known = false) ∧
    (c.raised p).sync = (if c.sync.st == 0 && !c.sync.dupLatched then c.sync.toListen else c.sync) ∧
    (c.wrongNeighbour p = true → (c.raised p).frt.fault = true ∧ (c.raised p).frt.cause = 5) ∧
    (c.wrongNeighbour p = false → (c.raised p).frt.fault = c.frt.fault ∧ (c.raised p).frt.cause = c.frt.cause) := by
  obtain ⟨h1, h2, h3, h4, h5, h6⟩ := c.cameUp_leaves p
  have hc : ∀ e ∈ (c.cameUp p).qm.credits, e.port = p → e.cells = 0 ∧ e.known = false := Qm.dropCredits_none _ p
  unfold Chan.raised
  by_cases hw : c.wrongNeighbour p = true
  · obtain ⟨hf, hs, hq⟩ := (c.cameUp p).topologyFault_leaves 5
    have hp (q : Port) : ((c.cameUp p).topologyFault 5).frt.port q = (c.cameUp p).frt.port q := by
      rw [hf]
      cases q <;> rfl
    rw [if_pos hw, hp, hp, hq]
    exact ⟨⟨h1, h2, h3, h4, hc⟩, hs.trans (c.cameUp_sync p), fun _ => by rw [hf]; exact ⟨rfl, rfl⟩,
      fun h => by rw [h] at hw; cases hw⟩
  · rw [if_neg hw]
    exact ⟨⟨h1, h2, h3, h4, hc⟩, c.cameUp_sync p, fun h => absurd h hw, fun _ => ⟨h5, h6⟩⟩

/-! ### The Badger (R231, R257) -/

/-- A violation counted, and a babble fault where it is the fourth. -/
def Chan.violated (c : Chan) (p : Port) : Chan :=
  let d := { c with guard := c.guard.violation p, qm := c.qm.txCut p }
  if 4 ≤ d.guard.now p && !d.guard.babble p then { d with guard := d.guard.latch p }.emit .babble (portCode p) [] else d

theorem exec_badgerViolation {at_ : Nat} (hl : (s.ch ch).live = true) (hp : 6 ≤ (s.ch ch).boot.phase)
    (he : (s.ch ch).enables p at_ = false) : exec (.badgerViolation ch p at_) s = .next (s.put ch ((s.ch ch).violated p)) := by
  show execBadgerViolation ch p at_ s = _
  rw [execBadgerViolation, State.onLive_eq _ hl, if_neg (by simp [hp, he])]
  rfl

theorem Chan.violated_leaves (c : Chan) (p : Port) :
    (c.violated p).guard.now p = c.guard.now p + 1 ∧
      ((c.violated p).guard.babble p = true ↔ c.guard.babble p = true ∨ 3 ≤ c.guard.now p) ∧
      (c.violated p).guard.now p.other = c.guard.now p.other ∧ (c.violated p).guard.babble p.other = c.guard.babble p.other := by
  unfold Chan.violated
  extract_lets d
  have hn : d.guard.now p = c.guard.now p + 1 := by cases p <;> rfl
  have hb : d.guard.babble p = c.guard.babble p := by cases p <;> rfl
  have hno : d.guard.now p.other = c.guard.now p.other := by cases p <;> rfl
  have hbo : d.guard.babble p.other = c.guard.babble p.other := by cases p <;> rfl
  have hlatch : (d.guard.latch p).now p = d.guard.now p ∧ (d.guard.latch p).babble p = true ∧
      (d.guard.latch p).now p.other = d.guard.now p.other ∧ (d.guard.latch p).babble p.other = d.guard.babble p.other := by
    cases p <;> exact ⟨rfl, rfl, rfl, rfl⟩
  obtain ⟨l1, l2, l3, l4⟩ := hlatch
  by_cases h : (decide (4 ≤ d.guard.now p) && !d.guard.babble p) = true
  · rw [if_pos h, Chan.emit_eq]
    simp only [Bool.and_eq_true, decide_eq_true_eq, hn] at h
    exact ⟨l1.trans hn, ⟨fun _ => .inr (by omega), fun _ => l2⟩, l3.trans hno, l4.trans hbo⟩
  · rw [if_neg h]
    refine ⟨hn, ?_, hno, hbo⟩
    rw [hb]
    simp only [Bool.and_eq_true, decide_eq_true_eq, hn, hb, Bool.not_eq_true'] at h
    refine ⟨.inl, fun hh => hh.elim id fun h3 => ?_⟩
    by_contra hc
    exact h ⟨by omega, by simpa using hc⟩

end

/-! ### A LINK_DOWN heard (R265, R273) -/

/-- The link that a LINK_DOWN names is out of the hop counts. -/
def Chan.linkLost (c : Chan) (f : FrameRx) (w : Nat) : Chan :=
  ({ c with
    guard := { c.guard with downAfter := max c.guard.downAfter (f.arrival + 4000) }
    frt := { c.frt with
      lostLinks :=
        (linkPair (endOf (bits w 6 0) (if w.testBit 8 then Port.y else .x))
          (endOf (bits w 22 16) (if w.testBit 24 then Port.y else .x)) :: c.frt.lostLinks).eraseDups } } : Chan).flushUnreachable

theorem Chan.linkLost_leaves (c : Chan) (f : FrameRx) (w : Nat) :
    linkPair (endOf (bits w 6 0) (if w.testBit 8 then .y else .x)) (endOf (bits w 22 16) (if w.testBit 24 then .y else .x)) ∈
        (c.linkLost f w).frt.lostLinks ∧
      ∀ l ∈ c.frt.lostLinks, l ∈ (c.linkLost f w).frt.lostLinks := by
  unfold Chan.linkLost
  obtain ⟨a, qm, fab, h, -⟩ := Chan.flushUnreachable_eq ({ c with
    guard := { c.guard with downAfter := max c.guard.downAfter (f.arrival + 4000) }
    frt := { c.frt with
      lostLinks :=
        (linkPair (endOf (bits w 6 0) (if w.testBit 8 then Port.y else .x))
          (endOf (bits w 22 16) (if w.testBit 24 then Port.y else .x)) :: c.frt.lostLinks).eraseDups } } : Chan)
  rw [h]
  exact ⟨List.mem_eraseDups.mpr List.mem_cons_self, fun l hl => List.mem_eraseDups.mpr (List.mem_cons_of_mem _ hl)⟩

/-- Settles O39: transceivers and ports going down, ports coming up, the Badger, then a LINK_DOWN heard. -/
theorem portsComeAndGo : Obligations.PortsComeAndGo := by
  unfold Obligations.PortsComeAndGo
  refine ⟨fun s ch p hl => ?_, fun s ch p hl ho hopt hup => ?_, fun s ch p h => ?_, fun s ch p at_ hl => ?_,
    fun s ch f hh horg => ?_⟩
  · intro c st
    have hlost : ((c.portLost p).frt.port p).up = false ∧ (c.portLost p).frt.port p.other = c.frt.port p.other := by
      by_cases hu : (c.frt.port p).up = true
      · obtain ⟨h1, h2, -⟩ := Chan.portLost_leaves hu
        exact ⟨by rw [h1]; rfl, h2⟩
      · rw [Chan.portLost_down (by simpa using hu)]
        exact ⟨by simpa using hu, rfl⟩
    have hdown (hlane : c.laneLive = true) (hq : 3 ≤ st.quiet) : exec (.portDown ch p) s = .next (s.put ch (c.portLost p)) := by
      show execPortDown ch p s = _
      rw [execPortDown, State.onLive_eq _ hl]
      exact congrArg (fun x => Host.Outcome.next (s.put ch x)) (if_pos (by
        rw [show (s.ch ch).laneLive = true from hlane, decide_eq_true (show 3 ≤ ((s.ch ch).frt.port p).quiet from hq)]; rfl))
    refine ⟨fun code mw hc hm => ?_, fun code mw h => ?_, ?_, fun hlane hq hu => ?_, fun n hlane hq hu hn => ?_, fun h => ?_⟩
    · show execSfpInserted ch p code mw s = _
      rw [execSfpInserted, State.onLive_eq _ hl]
      exact congrArg (fun x => Host.Outcome.next (s.put ch x)) (if_pos (by simp [hc, hm]))
    · have hbad : (code != .otherCode && decide (mw ≤ 1000)) = false := by
        rcases h with h | h
        · simp [h]
        · simp [Nat.not_le.mpr h]
      have hexec : exec (.sfpInserted ch p code mw) s = .next (s.put ch
          (({ c.portLost p with
              frt := (c.portLost p).frt.putPort p { (c.portLost p).frt.port p with optics := false } } : Chan).emit
            .unsupportedOptics (portCode p) [])) := by
        show execSfpInserted ch p code mw s = _
        unfold execSfpInserted
        dsimp only
        rw [State.onLive_eq _ hl, hbad]
        rfl
      refine ⟨_, hexec, .put _ _ _, ?_⟩
      rw [State.put_ch, Chan.emit_eq]
      dsimp only
      rw [Frt.port_putPort_self, Frt.port_putPort_other]
      exact ⟨rfl, hlost⟩
    · have hexec : exec (.sfpRemoved ch p) s = .next (s.put ch
          { c.portLost p with
            frt := (c.portLost p).frt.putPort p { (c.portLost p).frt.port p with optics := false } }) := by
        show execSfpRemoved ch p s = _
        rw [execSfpRemoved, State.onLive_eq _ hl]
      refine ⟨_, hexec, .put _ _ _, ?_⟩
      rw [State.put_ch]
      dsimp only
      rw [Frt.port_putPort_self, Frt.port_putPort_other]
      exact ⟨rfl, hlost⟩
    · obtain ⟨h1, h2, h3, h4, -⟩ := Chan.portLost_leaves (c := c) hu
      refine ⟨_, hdown hlane hq, .put _ _ _, ?_⟩
      rw [State.put_ch]
      exact ⟨h1, h2, h3, h4⟩
    · obtain ⟨-, -, -, -, h5⟩ := Chan.portLost_leaves (c := c) hu
      refine ⟨_, hdown hlane hq, ?_⟩
      rw [State.put_ch]
      exact h5 n hn
    · refine congrArg Host.Outcome.next (State.onLive_same ?_)
      rcases h with h | h | h
      · exact if_neg (by simp [show (s.ch ch).laneLive = false from h])
      · exact if_neg (by simp [Nat.not_le.mpr (show ((s.ch ch).frt.port p).quiet < 3 from h)])
      · rw [Chan.portLost_down (c := s.ch ch) h, ite_self]
  · intro c st returns
    have hrows (h : returns) : exec (.portUp ch p) s = .next (s.put ch (c.raised p)) := by
      refine exec_portUp hl ho ?_
      unfold Chan.mayComeUp
      dsimp only
      rw [hopt, hup]
      rcases h with h | ⟨h1, h2, h3⟩
      · simp [show ((s.ch ch).frt.port p).fell = false from h]
      · have h3' : ((c.described p).isNone || st.named || c.wrongNeighbour p) = true := by
          rcases h3 with h | h | h <;> simp [h]
        rw [decide_eq_true (show 3 ≤ ((s.ch ch).frt.port p).lively from h1), show (s.ch ch).delayOk p = true from h2]
        simp only [Bool.true_and, Bool.not_false]
        exact Bool.or_eq_true_iff.mpr (.inr h3')
    obtain ⟨hall, hsync, hwrong, hright⟩ := c.raised_leaves p
    refine ⟨fun h => ⟨_, hrows h, .put _ _ _, ?_⟩, fun h h0 hd => ⟨_, hrows h, ?_⟩, fun h h0 => ⟨_, hrows h, ?_⟩,
      fun h hw => ⟨_, hrows h, ?_⟩, fun h hw => ⟨_, hrows h, ?_⟩, fun hf h => ?_⟩
    · rw [State.put_ch]
      exact hall
    · rw [State.put_ch, hsync, if_pos (by rw [h0, hd]; rfl)]
      rfl
    · rw [State.put_ch, hsync, if_neg (by simp [h0])]
    · rw [State.put_ch]
      exact hwrong hw
    · rw [State.put_ch]
      exact hright hw
    · refine congrArg Host.Outcome.next (State.onLive_same (if_neg ?_))
      have hno : (s.ch ch).mayComeUp p = false := by
        unfold Chan.mayComeUp
        have hf' : ((s.ch ch).frt.port p).fell = true := hf
        rcases h with h | h
        · simp [hf', Nat.not_le.mpr (show ((s.ch ch).frt.port p).lively < 3 from h)]
        · simp [hf', show (s.ch ch).delayOk p = false from h]
      rw [hno]
      simp
  · refine congrArg Host.Outcome.next (State.onLive_same (if_neg ?_))
    rcases h with h | h | h | h
    · simp [h]
    · simp [h]
    · simp [Chan.mayComeUp, h]
    · simp [Chan.mayComeUp, h]
  · intro c
    have hno (h : c.portOpen p = false) : c.enables p at_ = false := by
      unfold Chan.enables
      simp [h]
    refine ⟨fun hp he => ?_, fun hp ho => ?_, fun ho hd h1 h2 => ?_, fun h => ?_⟩
    · refine ⟨_, exec_badgerViolation hl hp he, .put _ _ _, ?_⟩
      rw [State.put_ch]
      exact c.violated_leaves p
    · refine ⟨_, exec_badgerViolation hl hp (hno ho), ?_⟩
      rw [State.put_ch]
      exact (c.violated_leaves p).1
    · refine congrArg Host.Outcome.next (State.onLive_same (if_pos ?_))
      have he : (s.ch ch).enables p at_ = true := by
        unfold Chan.enables
        dsimp only
        rw [show (s.ch ch).portOpen p = true from ho, show (s.ch ch).dynamicOpen = true from hd,
          show inTicks at_ 741 995 = true by simp [inTicks, h1, h2]]
        simp
      rw [he]
      simp
    · refine congrArg Host.Outcome.next (State.onLive_same (if_pos ?_))
      rcases h with h | h
      · simp [show (s.ch ch).boot.phase < 6 from h]
      · simp [show (s.ch ch).enables p at_ = true from h]
  · intro w
    have hexec : exec (.linkDown ch f) s = .next (s.put ch (((s.ch ch).heardFrame f).relay f |>.linkLost f w)) := by
      show execLinkDown ch f s = _
      unfold execLinkDown
      dsimp only
      rw [State.onLive_eq _ (live_of_hears hh), Chan.hearRelay_of_hears hh horg]
      dsimp only
      rw [if_pos rfl]
      rfl
    refine ⟨_, hexec, .put _ _ _, ?_⟩
    rw [State.put_ch]
    have hfrt : (((s.ch ch).heardFrame f).relay f).frt.lostLinks = (s.ch ch).frt.lostLinks := by
      rw [frt_of_besideQueues (Chan.relay_besideQueues _ f)]
      cases hp : f.port <;> simp [Chan.heardFrame, Chan.noteValid, Frt.putPort, hp]
    obtain ⟨h1, h2⟩ := Chan.linkLost_leaves (((s.ch ch).heardFrame f).relay f) f w
    exact ⟨h1, fun l hl => h2 l (hfrt ▸ hl)⟩

end Sys2Proof.Machine

/-! PROOFS. What a port sends, and when (spec/09 R228, R233, R234, R236, spec/10 R259, R276, R279, R280). -/

namespace Sys2Proof.Machine

open Sys2Proof

/-! ### Frames on the line -/

theorem Chan.launch_sends (c : Chan) (p : Port) (at_ : Nat) (f : Frame) :
    (∃ q ∈ (c.launch p at_ f).fab.sent, q.1 = p ∧ q.2.kind = f.kind ∧ q.2.hop = f.hop ∧ q.2.origin = f.origin ∧
        q.2.payload = f.payload) ∧
      (c.launch p at_ f).fab.queue p = c.fab.queue p := by
  obtain ⟨qm, n, h⟩ := c.launch_eq p at_ f
  rw [h]
  refine ⟨⟨_, List.mem_append_right _ (List.mem_singleton.mpr rfl), rfl, ?_⟩, by cases p <;> rfl⟩
  dsimp only
  split <;> exact ⟨rfl, rfl, rfl, rfl⟩

theorem Chan.launch_busy (c : Chan) (p : Port) (at_ : Nat) (f : Frame) :
    ((c.launch p at_ f).guard.line p).busy = at_ + frameNs f := by
  obtain ⟨qm, n, h⟩ := c.launch_eq p at_ f
  rw [h]
  cases p <;> rfl

theorem Chan.dequeue_queue (c : Chan) (p : Port) (f : Frame) : (c.dequeue p f).fab.queue p = (c.fab.queue p).erase f := by
  cases p <;> rfl

theorem stampDelay_kind (f : Frame) (at_ : Nat) : (stampDelay f at_).kind = f.kind := by
  unfold stampDelay
  split
  · rfl
  · split <;> rfl

theorem pickFrame_none {q : List Frame} {admits : Frame → Bool} {rank : Frame → Nat} (h : q.filter admits = []) :
    pickFrame q admits rank = none := by
  unfold pickFrame
  rw [h]
  rfl

/-! ### The segments of a basic cycle -/

section

variable {s : State} {ch : Ch} {p : Port} {at_ : Nat}

theorem live_of_portOpen {c : Chan} (h : c.portOpen p = true) : c.live = true := by
  simp only [Chan.portOpen, Bool.and_eq_true] at h
  obtain ⟨⟨⟨ho, -⟩, -⟩, -⟩ := h
  exact live_of_laneLive (laneLive_of_laneOpen ho)

/-- What a channel starts on an open port at a time. -/
def Chan.transmit (c : Chan) (p : Port) (at_ : Nat) (serial : BitVec 64) : Chan :=
  if 743000 ≤ at_ ∧ at_ ≤ 993000 then c.sendDynamic p at_
  else if 100000 ≤ at_ ∧ at_ < 740000 then
    if c.sync.compiled then ((c.windowAt p at_).map (fun w => c.sendWindow p at_ w)).getD c
    else c.sendStatic p at_ serial
  else c

theorem exec_frameTransmit (ho : (s.ch ch).portOpen p = true) :
    exec (.frameTransmit ch p at_) s = .next (s.put ch ((s.ch ch).transmit p at_ s.factory.serial)) := by
  show execFrameTransmit ch p at_ s = _
  rw [execFrameTransmit, State.onLive_eq _ (live_of_portOpen ho), if_neg (by rw [ho]; decide), Chan.transmit]
  simp only [Bool.and_eq_true, decide_eq_true_eq]
  cases (s.ch ch).windowAt p at_ <;> rfl

theorem exec_frameTransmit_closed (h : (s.ch ch).portOpen p = false) : exec (.frameTransmit ch p at_) s = .next s :=
  congrArg Host.Outcome.next (State.onLive_same (if_pos (by rw [h]; rfl)))

/-- Whether a port is open or not, nothing is started where an open port starts nothing. -/
theorem exec_frameTransmit_same (h : (s.ch ch).transmit p at_ s.factory.serial = s.ch ch) :
    exec (.frameTransmit ch p at_) s = .next s := by
  by_cases ho : (s.ch ch).portOpen p = true
  · rw [exec_frameTransmit ho, h, State.put_self]
  · exact exec_frameTransmit_closed (by simpa using ho)

variable {c : Chan} {serial : BitVec 64}

theorem Chan.transmit_dynamic (h1 : 743000 ≤ at_) (h2 : at_ ≤ 993000) : c.transmit p at_ serial = c.sendDynamic p at_ :=
  if_pos ⟨h1, h2⟩

theorem Chan.transmit_window {w : Window} (h1 : 100000 ≤ at_) (h2 : at_ < 740000) (hc : c.sync.compiled = true)
    (hw : c.windowAt p at_ = some w) : c.transmit p at_ serial = c.sendWindow p at_ w := by
  unfold Chan.transmit
  rw [if_neg (by omega), if_pos ⟨h1, h2⟩, if_pos hc, hw]
  rfl

theorem Chan.transmit_noWindow (h1 : 100000 ≤ at_) (h2 : at_ < 740000) (hc : c.sync.compiled = true)
    (hw : c.windowAt p at_ = none) : c.transmit p at_ serial = c := by
  unfold Chan.transmit
  rw [if_neg (by omega), if_pos ⟨h1, h2⟩, if_pos hc, hw]
  rfl

theorem Chan.transmit_static (h1 : 100000 ≤ at_) (h2 : at_ < 740000) (hc : c.sync.compiled = false) :
    c.transmit p at_ serial = c.sendStatic p at_ serial := by
  unfold Chan.transmit
  rw [if_neg (by omega), if_pos ⟨h1, h2⟩, if_neg (by rw [hc]; decide)]

theorem Chan.transmit_nothing (h : at_ < 100000 ∨ 993000 < at_ ∨ (740000 ≤ at_ ∧ at_ < 743000)) : c.transmit p at_ serial = c := by
  unfold Chan.transmit
  rw [if_neg (by omega), if_neg (by omega)]

theorem Chan.sendDynamic_idle (h : c.dynamicOpen = false ∨ at_ % 1000 ≠ 0 ∨ at_ < (c.guard.line p).busy) :
    c.sendDynamic p at_ = c := by
  refine if_pos ?_
  rcases h with h | h | h
  · simp [h]
  · simp [h]
  · simp [h]

theorem Chan.sendDynamic_eq (hd : c.dynamicOpen = true) (hm : at_ % 1000 = 0) (hb : (c.guard.line p).busy ≤ at_) (hn : at_ ≠ 743000)
    {f : Frame} (hf : pickFrame (c.fab.queue p) (c.inDynamic at_) (dynamicRank c.nodeKey) = some f) :
    c.sendDynamic p at_ =
      if endsBy at_ 993 f && c.credited p f then (c.dequeue p f).launch p at_ (stampDelay f at_) else c := by
  unfold Chan.sendDynamic
  rw [if_neg (by simp [hd, hm, hb]), if_neg (by simpa using hn), hf]

theorem Chan.sendWindow_eq {w : Window} (h4 : c.sync.st = 4) (hc : c.holdsClaim = true) (hm : c.mayStart p at_ w.start = true)
    {f : Frame} (hf : pickFrame (c.fab.queue p) (fun g => windowTakes w g.origin g.cls) (fun g => g.cls * 128 + g.origin) = some f) :
    c.sendWindow p at_ w =
      if !endsBy at_ (w.start + w.len - 3) f then c.spend p w.start
      else if c.credited p f then (c.dequeue p f).launch p at_ f
      else if f.cls == 0 then { c.spend p w.start with qm := { c.qm with late := inc 16 c.qm.late } }
      else c := by
  unfold Chan.sendWindow
  rw [if_neg (by simp [h4, hc, hm]), hf]

/-- A HELLO in the own slot of the start-up schedule. -/
theorem Chan.sendStatic_hello (ho : c.portOpen p = true) (h4 : c.sync.st = 4) (hp : c.sync.basic % 2 = bitAt c.rankBit 0)
    (h8 : c.sync.basic % 8 < 2) (h1 : (103 + 10 * c.node) * 1000 ≤ at_) (h2 : at_ < (107 + 10 * c.node) * 1000)
    (hm : c.mayStart p at_ (100 + 10 * c.node) = true)
    (hc : c.credited p (c.ownFrame 3 3 none (wordsBytes (c.helloWords serial))) = true) :
    c.sendStatic p at_ serial = (({ c with fab := c.fab.useSeq 3 } : Chan).launch p at_
      (c.ownFrame 3 3 none (wordsBytes (c.helloWords serial)))).spend p (100 + 10 * c.node) := by
  have hfrom : (100 + 10 * c.node + 3) * 1000 ≤ at_ := by
    rwa [show 100 + 10 * c.node + 3 = 103 + 10 * c.node by omega]
  have hto : at_ < (100 + 10 * c.node + 7) * 1000 := by
    rwa [show 100 + 10 * c.node + 7 = 107 + 10 * c.node by omega]
  have hslot : (at_ / 1000 - 100) / 10 = c.node := by omega
  unfold Chan.sendStatic
  dsimp only
  rw [hslot, if_pos (by rw [hm, decide_eq_true hfrom, decide_eq_true hto]; rfl), if_pos (by simp [hp]), Chan.sendOwnSlot,
    if_neg (by rw [h4]; decide), if_pos (by rw [h4]; rfl), if_pos h8, if_pos hc, Chan.launchOwn, if_pos ho]

end

/-- Settles O40: the closed port, the dynamic segment, the windows of the compiled schedule, the own static slot. -/
theorem framesKeepTheirWindows : Obligations.FramesKeepTheirWindows := by
  unfold Obligations.FramesKeepTheirWindows
  intro s ch p at_ c
  refine ⟨exec_frameTransmit_closed, fun h => ?_, fun h1 h2 h => ?_, fun ho ha hd hb => ?_, fun f ho h1 h2 hm hd hb hf he hc => ?_,
    fun f h1 h2 hf h => ?_, fun w f ho h1 h2 hc hw h4 hcl hm hf => ?_, fun w ho h1 h2 hc hw h4 hcl hm ha hq har hcls hid => ?_,
    fun h1 h2 hc h => ?_, fun ho hc h4 hp h8 h2 ha hb hm hcr => ?_⟩
  · exact exec_frameTransmit_same (Chan.transmit_nothing h)
  · exact exec_frameTransmit_same ((Chan.transmit_dynamic h1 h2).trans (Chan.sendDynamic_idle h))
  · have hsend : c.transmit p at_ s.factory.serial =
        ({ c with fab := c.fab.useSeq 3 } : Chan).launch p at_ (c.ownFrame 3 9 none (wordsBytes (c.qm.creditWords p))) := by
      rw [Chan.transmit_dynamic (by omega) (by omega), Chan.sendDynamic, if_neg (by rw [hd, ha]; simp [ha ▸ hb]),
        if_pos (by rw [ha]; rfl), Chan.launchOwn, if_pos ho]
    refine ⟨_, exec_frameTransmit ho, .put _ _ _, ?_⟩
    obtain ⟨⟨q, hq, hqp, hk, -, -, hpay⟩, hqueue⟩ := ({ c with fab := c.fab.useSeq 3 } : Chan).launch_sends p at_
      (c.ownFrame 3 9 none (wordsBytes (c.qm.creditWords p)))
    rw [State.put_ch, hsend]
    exact ⟨⟨q, hq, hqp, hk, hpay⟩, hqueue.trans (by cases p <;> rfl)⟩
  · have hsend : c.transmit p at_ s.factory.serial = (c.dequeue p f).launch p at_ (stampDelay f at_) := by
      rw [Chan.transmit_dynamic (by omega) h2, Chan.sendDynamic_eq hd hm hb (by omega) hf, if_pos (by rw [he, hc]; rfl)]
    obtain ⟨⟨q, hq, hqp, hk, -, -, hpay⟩, hqueue⟩ := (c.dequeue p f).launch_sends p at_ (stampDelay f at_)
    refine ⟨_, exec_frameTransmit ho, .put _ _ _, ?_⟩
    rw [State.put_ch, hsend]
    exact ⟨hqueue.trans (c.dequeue_queue p f), Chan.launch_busy _ _ _ _, q, hq, hqp, hk.trans (stampDelay_kind f at_), hpay⟩
  · refine exec_frameTransmit_same ((Chan.transmit_dynamic (by omega) h2).trans ?_)
    by_cases hidle : c.dynamicOpen = false ∨ at_ % 1000 ≠ 0 ∨ at_ < (c.guard.line p).busy
    · exact Chan.sendDynamic_idle hidle
    · simp only [not_or, Bool.not_eq_false, not_not, not_lt] at hidle
      obtain ⟨hd, hm, hb⟩ := hidle
      refine (Chan.sendDynamic_eq hd hm hb (by omega) hf).trans (if_neg ?_)
      rcases h with h | h
      · simp [h]
      · simp [h]
  · have hexec := exec_frameTransmit (at_ := at_) ho
    rw [Chan.transmit_window h1 h2 hc hw, Chan.sendWindow_eq h4 hcl hm hf] at hexec
    refine ⟨fun he => ?_, fun he hcr => ?_, fun he hcr h0 => ?_, fun he hcr h0 => ?_⟩
    · rw [hexec, if_pos (by rw [he]; rfl)]
    all_goals rw [if_neg (by rw [he]; decide)] at hexec
    · rw [if_pos hcr] at hexec
      obtain ⟨⟨q, hq, hqp, hk, -, -, hpay⟩, hqueue⟩ := (c.dequeue p f).launch_sends p at_ f
      refine ⟨_, hexec, .put _ _ _, ?_⟩
      rw [State.put_ch]
      exact ⟨hqueue.trans (c.dequeue_queue p f), q, hq, hqp, hk, hpay⟩
    all_goals rw [if_neg (by rw [show (s.ch ch).credited p f = false from hcr]; decide)] at hexec
    · rw [hexec, if_pos (by rw [h0]; rfl)]
    · rw [hexec, if_neg (by simpa using h0), State.put_self]
  · have hidle : c.sendWindow p at_ w = c.idleWindow p w := by
      unfold Chan.sendWindow
      rw [if_neg (by simp [h4, hcl, hm]), pickFrame_none hq]
      exact if_pos (by rw [ha]; exact beq_self_eq_true _)
    have hexec := exec_frameTransmit (at_ := at_) ho
    rw [Chan.transmit_window h1 h2 hc hw, show (s.ch ch).sendWindow p at_ w = _ from hidle] at hexec
    refine hexec.trans (congrArg (fun x => Host.Outcome.next (s.put ch x)) ?_)
    unfold Chan.idleWindow
    rw [if_neg (by rw [har]; decide)]
    exact if_pos (by rw [hcls, show (c.spend p w.start).idleUnreachable w = c.idleUnreachable w from rfl, hid]; rfl)
  · refine exec_frameTransmit_same ?_
    cases hw : (s.ch ch).windowAt p at_ with
    | none => exact Chan.transmit_noWindow h1 h2 hc hw
    | some w =>
      refine (Chan.transmit_window h1 h2 hc hw).trans (if_pos ?_)
      rcases h with h | h | h | h
      · rw [show (s.ch ch).windowAt p at_ = none from h] at hw
        cases hw
      · simp [show ¬ c.sync.st = 4 from h]
      · simp [h]
      · simp [Chan.mayStart, h]
  · have hsend := Chan.sendStatic_hello (c := c) (serial := s.factory.serial) ho h4 hp h8 ha hb hm hcr
    obtain ⟨⟨q, hq, hqp, hk, hhop, horg, hpay⟩, -⟩ := ({ c with fab := c.fab.useSeq 3 } : Chan).launch_sends p at_
      (c.ownFrame 3 3 none (wordsBytes (c.helloWords s.factory.serial)))
    refine ⟨_, exec_frameTransmit ho, .put _ _ _, q, ?_, hqp, hk, hhop, horg, hpay⟩
    rw [State.put_ch, Chan.transmit_static (by omega) h2 hc, hsend]
    exact hq

end Sys2Proof.Machine

/-! PROOFS. Discovery (spec/10 R251, R256, R259 to R263, R279; spec/09 R239, R244, R245). -/

namespace Sys2Proof.Machine

open Sys2Proof

/-! ### Claims sent, and the announcement -/

theorem Chan.sendClaimTo_besideQueues (c : Chan) (me : Ch) (node : Nat) (block : List Byte) :
    (c.sendClaimTo me node block).besideQueues = c.besideQueues := by
  unfold Chan.sendClaimTo
  split
  · rfl
  · exact foldl_view (g := Chan.besideQueues) (fun c e => c.sendFrame_besideQueues _ _ _ _ _) _ c

theorem Chan.sendClaim_besideQueues (c : Chan) (me : Ch) :
    (c.sendClaim me).besideQueues = ({ c with frt := { c.frt with acked := [] } } : Chan).besideQueues :=
  foldl_view (g := Chan.besideQueues) (fun c _ => c.sendClaimTo_besideQueues me _ _) _ _

theorem Chan.claimAnew_besideQueues (c : Chan) (me : Ch) (node : Nat) : (c.claimAnew me node).besideQueues = c.besideQueues := by
  unfold Chan.claimAnew
  split
  · split
    · exact c.sendClaimTo_besideQueues me node _
    · rfl
  · rfl

/-- An announcement sets the clock's next schedule and nothing else. -/
theorem Chan.announce_frt (c : Chan) : c.announce.frt = c.frt ∧ c.announce.nodeKey = c.nodeKey := by
  unfold Chan.announce
  split
  · split <;> exact ⟨rfl, rfl⟩
  · exact ⟨rfl, rfl⟩

/-- The Owl with every image holder READY and every claim acknowledged announces the compiled schedule. -/
theorem Chan.announce_of {c : Chan} {sc : Schedule} (ho : c.sync.isOwl = true) (hc : c.sync.compiled = false)
    (ha : c.sync.switchAt = 0) (hs : c.schedule = some sc) (hr : ∀ k ∈ sc.imageKeys, k ∈ c.frt.ready)
    (hn : ∀ n ∈ sc.ioNodes, n ∈ c.frt.acked) :
    c.announce.sync = { c.sync with switchAt := (c.sync.cluster + 2) % 2 ^ 32, nextSched := true } := by
  have hall : (sc.imageKeys.all (fun k => c.frt.ready.contains k) && sc.ioNodes.all (fun n => c.frt.acked.contains n)) = true := by
    simp only [Bool.and_eq_true, List.all_eq_true, List.contains_iff_mem]
    exact ⟨hr, hn⟩
  have hdue : (c.sync.isOwl && !c.sync.compiled && c.sync.switchAt == 0) = true := by
    rw [ho, hc, ha]
    rfl
  unfold Chan.announce
  rw [hdue, hs]
  dsimp only
  rw [if_pos hall]

/-! ### HELLO (R251, R259, R260) -/

/-- A HELLO of another node entered: its neighbour's port, the link table, the claims heard. -/
def Chan.takeHello (c : Chan) (f : FrameRx) (h : Hello) : Chan :=
  let d := if f.hop == 0 then
      { c with frt := c.frt.putPort f.port { c.frt.port f.port with nbr := some (h.key, c.senderPort f.port h) } }
    else c
  { d with frt := d.frt.enter h, fab := d.fab.noteClaim (h.key / 2) h.key h.claim }

@[simp] theorem Frt.port_enter (f : Frt) (h : Hello) (p : Port) : (f.enter h).port p = f.port p := by
  cases p <;> rfl

@[simp] theorem Frt.hellos_putPort (f : Frt) (p : Port) (v : PortState) : (f.putPort p v).hellos = f.hellos := by
  cases p <;> rfl

@[simp] theorem Frt.changed_putPort (f : Frt) (p : Port) (v : PortState) : (f.putPort p v).changed = f.changed := by
  cases p <;> rfl

theorem Frt.enter_leaves (f : Frt) (h : Hello) :
    (f.enter h).hellos.find? (fun g => g.key == h.key) = some h ∧
      ((f.enter h).changed = true ↔ f.changed = true ∨ f.hellos.find? (fun g => g.key == h.key) ≠ some h) := by
  refine ⟨List.find?_cons_of_pos (beq_self_eq_true _), ?_⟩
  show (f.changed || f.hellos.find? (fun g => g.key == h.key) != some h) = true ↔ _
  rw [Bool.or_eq_true, bne_iff_ne]

theorem Chan.takeHello_leaves (c : Chan) (f : FrameRx) (h : Hello) :
    (c.takeHello f h).frt.hellos.find? (fun g => g.key == h.key) = some h ∧
      ((c.takeHello f h).frt.changed = true ↔
        c.frt.changed = true ∨ c.frt.hellos.find? (fun g => g.key == h.key) ≠ some h) ∧
      (f.hop = 0 → (((c.takeHello f h).frt.port f.port).nbr.map Prod.fst) = some h.key) ∧
      (f.hop ≠ 0 → (c.takeHello f h).frt.port f.port = c.frt.port f.port) := by
  unfold Chan.takeHello
  by_cases h0 : f.hop = 0
  · obtain ⟨h1, h2⟩ := Frt.enter_leaves
      (c.frt.putPort f.port { c.frt.port f.port with nbr := some (h.key, c.senderPort f.port h) }) h
    rw [if_pos (beq_iff_eq.mpr h0)]
    refine ⟨h1, by simpa using h2, fun _ => ?_, fun h => absurd h0 h⟩
    dsimp only
    rw [Frt.port_enter, Frt.port_putPort_self]
    rfl
  · obtain ⟨h1, h2⟩ := Frt.enter_leaves c.frt h
    rw [if_neg (by simpa using h0)]
    exact ⟨h1, h2, fun h => absurd h h0, fun _ => Frt.port_enter _ _ _⟩

/-! ### Link delays (R239) -/

theorem Chan.setDelay_leaves (c : Chan) (p : Port) (ns : Nat) :
    (c.setDelay p ns).sync.delay p = some ns ∧ (c.setDelay p ns).sync.delay p.other = c.sync.delay p.other := by
  unfold Chan.setDelay
  extract_lets y d
  have hd : d.sync.delay p = some ns ∧ d.sync.delay p.other = c.sync.delay p.other := by
    cases p <;> exact ⟨rfl, rfl⟩
  split
  · rw [Chan.emit_eq]
    exact hd
  · exact hd

/-! ### Credits (R279, R280) -/

/-- The credits of one class and level of a port, as a CREDIT frame's word gives them. -/
def Qm.credited (q : Qm) (p : Port) (ws : List Word) (k : Nat) : Credit :=
  let w := (wordAt ws k).toNat
  let old := (q.credit p (k / 7) (k % 7)).getD
    { port := p, cls := k / 7, level := k % 7, cells := 0, lseq := 0, known := false, log := [] }
  let log := cellsOut (w / 65536) old.log
  { old with cells := w % 65536 - (log.map Prod.snd).sum, known := true, log := log }

/-- A CREDIT frame's word taken. -/
def Qm.takeCredit (q : Qm) (p : Port) (ws : List Word) (k : Nat) : Qm := q.putCredit (q.credited p ws k)

theorem Qm.credit_putCredit_self (q : Qm) (e : Credit) : (q.putCredit e).credit e.port e.cls e.level = some e :=
  List.find?_cons_of_pos (by simp)

theorem Qm.credit_putCredit_other {q : Qm} {e : Credit} {p : Port} {cls level : Nat}
    (h : ¬ (e.port = p ∧ e.cls = cls ∧ e.level = level)) : (q.putCredit e).credit p cls level = q.credit p cls level := by
  unfold Qm.putCredit Qm.credit
  have hne : (e.port == p && e.cls == cls && e.level == level) = false := by
    rw [Bool.eq_false_iff]
    simpa only [ne_eq, Bool.and_eq_true, beq_iff_eq, and_assoc] using h
  rw [List.find?_cons_of_neg (by simpa using hne), List.find?_filter]
  refine congrArg (fun g => q.credits.find? g) (funext fun a => Bool.eq_iff_iff.mpr ?_)
  rw [decide_eq_true_iff]
  refine ⟨And.right, fun ha => ⟨?_, ha⟩⟩
  simp only [Bool.and_eq_true, beq_iff_eq, and_assoc] at ha
  obtain ⟨rfl, rfl, rfl⟩ := ha
  rw [Bool.not_eq_true', Bool.eq_false_iff]
  intro hb
  simp only [Bool.and_eq_true, beq_iff_eq, and_assoc] at hb
  obtain ⟨h1, h2, h3⟩ := hb
  exact h ⟨h1.symm, h2.symm, h3.symm⟩

theorem Qm.credited_names (q : Qm) (p : Port) (ws : List Word) (k : Nat) :
    (q.credited p ws k).port = p ∧ (q.credited p ws k).cls = k / 7 ∧ (q.credited p ws k).level = k % 7 := by
  unfold Qm.credited
  extract_lets w old log
  have hold : old.port = p ∧ old.cls = k / 7 ∧ old.level = k % 7 := by
    cases h : q.credit p (k / 7) (k % 7) with
    | none => simp only [old, h, Option.getD_none, and_self]
    | some e =>
      have he := List.find?_some h
      simp only [Bool.and_eq_true, beq_iff_eq, and_assoc] at he
      simpa only [old, h, Option.getD_some] using he
  exact hold

/-- What a CREDIT frame's word says of an entry. -/
def Credit.Says (e : Credit) (w : Nat) : Prop :=
  e.known = true ∧ e.cells = w % 65536 - (e.log.map Prod.snd).sum ∧
    ∀ x ∈ e.log, (x.1 + 65536 - w / 65536) % 65536 < 32768

theorem Qm.credited_says (q : Qm) (p : Port) (ws : List Word) (k : Nat) :
    (q.credited p ws k).Says (wordAt ws k).toNat :=
  ⟨rfl, rfl, fun _ hx => of_decide_eq_true (List.mem_filter.mp hx).2⟩

/-- After the first words of a CREDIT frame, each entry that they name says what its word says. -/
theorem Qm.takeCredits_says (q : Qm) (p : Port) (ws : List Word) (n : Nat) :
    ∀ k < n, ∃ e, ((List.range n).foldl (fun q k => q.takeCredit p ws k) q).credit p (k / 7) (k % 7) = some e ∧
      e.Says (wordAt ws k).toNat := by
  induction n with
  | zero => exact fun k hk => absurd hk (Nat.not_lt_zero k)
  | succ n ih =>
    intro k hk
    rw [List.range_succ, List.foldl_append, List.foldl_cons, List.foldl_nil]
    obtain ⟨h1, h2, h3⟩ := ((List.range n).foldl (fun q k => q.takeCredit p ws k) q).credited_names p ws n
    rcases Nat.lt_succ_iff_lt_or_eq.mp hk with hlt | rfl
    · obtain ⟨e, he, hsays⟩ := ih k hlt
      refine ⟨e, (Qm.credit_putCredit_other ?_).trans he, hsays⟩
      rw [h1, h2, h3]
      omega
    · refine ⟨((List.range k).foldl (fun q k => q.takeCredit p ws k) q).credited p ws k, ?_, Qm.credited_says _ p ws k⟩
      have h := Qm.credit_putCredit_self ((List.range k).foldl (fun q k => q.takeCredit p ws k) q)
        (((List.range k).foldl (fun q k => q.takeCredit p ws k) q).credited p ws k)
      rw [h1, h2, h3] at h
      exact h

/-! ### The frames (R239, R244, R245, R251, R256, R259 to R263, R279) -/

section

variable {s : State} {ch : Ch} {f : FrameRx}

/-- What a channel does with a HELLO heard. -/
def Chan.heardHello (c : Chan) (f : FrameRx) (own : BitVec 64) : Chan :=
  let h := helloOf (frameWords f)
  let d := c.noteSerial own h.key h.serial
  if h.key == d.nodeKey || d.sync.st == 0 then d else (d.relay f).takeHello f h

theorem exec_hello (hh : (s.ch ch).HearsFrame ch f 3) :
    exec (.hello ch f) s = .next (s.put ch (((s.ch ch).heardFrame f).heardHello f s.factory.serial)) := by
  show execHello ch f s = _
  unfold execHello
  dsimp only
  rw [State.onLive_eq _ (live_of_hears hh), Chan.hear_of_hears hh, if_neg (by simp)]
  rfl

theorem Chan.heardHello_other {c : Chan} {own : BitVec 64} (hk : (helloOf (frameWords f)).key ≠ c.nodeKey)
    (h0 : c.sync.st ≠ 0) :
    ∃ d : Chan, c.heardHello f own = d.takeHello f (helloOf (frameWords f)) ∧ d.frt = c.frt := by
  obtain ⟨a, b, r, hn⟩ := Chan.noteSerial_other (own := own) (serial := (helloOf (frameWords f)).serial) hk
  refine ⟨(c.noteSerial own (helloOf (frameWords f)).key (helloOf (frameWords f)).serial).relay f, if_neg ?_,
    (frt_of_besideQueues (Chan.relay_besideQueues _ f)).trans (by rw [hn])⟩
  rw [Chan.noteSerial_nodeKey, hn]
  simp [hk, h0]

theorem Chan.heardHello_own {c : Chan} {own : BitVec 64} (hk : (helloOf (frameWords f)).key = c.nodeKey) :
    c.heardHello f own = c.noteSerial own c.nodeKey (helloOf (frameWords f)).serial := by
  unfold Chan.heardHello
  dsimp only
  rw [if_pos (by rw [Chan.noteSerial_nodeKey, hk]; simp), hk]

/-- A claim of an I/O node acknowledged. -/
def Chan.acknowledged (c : Chan) (f : FrameRx) : Chan :=
  ({ c with frt := { c.frt with acked := (f.origin / 2 :: c.frt.acked).eraseDups } } : Chan).announce

theorem exec_claimAck (hh : (s.ch ch).HearsFrame ch f 0x0E) (ho : f.origin ≠ (s.ch ch).nodeKey) :
    exec (.claimAck ch f) s = .next (s.put ch ((((s.ch ch).heardFrame f).relay f).acknowledged f)) := by
  show execClaimAck ch f s = _
  unfold execClaimAck
  dsimp only
  rw [State.onLive_eq _ (live_of_hears hh), Chan.hearRelay_of_hears hh ho]
  dsimp only
  rw [if_pos rfl]
  rfl

/-- What a channel does with an IDENTITY heard. -/
def Chan.heardIdentity (c : Chan) (me : Ch) (f : FrameRx) (own : BitVec 64) : Chan :=
  let d := (c.noteSerial own f.origin (serialOf (frameWords f) 0)).relay f
  let node := bits (Machine.wordAt (frameWords f) 2).toNat 5 0
  ({ d with fab := { d.fab with
      identities := ((serialOf (frameWords f) 0, node) :: d.fab.identities).eraseDups } } : Chan).claimAnew me node

theorem exec_identity (hh : (s.ch ch).HearsFrame ch f 8) (ho : f.origin ≠ (s.ch ch).nodeKey) (h0 : (s.ch ch).sync.st ≠ 0) :
    exec (.identity ch f) s = .next (s.put ch (((s.ch ch).heardFrame f).heardIdentity ch f s.factory.serial)) := by
  obtain ⟨a, b, r, hn⟩ := Chan.noteSerial_other (c := (s.ch ch).heardFrame f) (own := s.factory.serial)
    (serial := serialOf (frameWords f) 0) ho
  have h0' : ((s.ch ch).heardFrame f).sync.st ≠ 0 := h0
  show execIdentity ch f s = _
  unfold execIdentity
  dsimp only
  rw [State.onLive_eq _ (live_of_hears hh), Chan.hear_of_hears hh, if_neg (by simp)]
  dsimp only
  rw [if_neg]
  · rfl
  · rw [Chan.noteSerial_nodeKey, hn]
    simp [show f.origin ≠ ((s.ch ch).heardFrame f).nodeKey from ho, h0']

theorem Chan.heardIdentity_identities (c : Chan) (me : Ch) (own : BitVec 64) :
    (serialOf (frameWords f) 0, bits (Machine.wordAt (frameWords f) 2).toNat 5 0) ∈ (c.heardIdentity me f own).fab.identities := by
  unfold Chan.heardIdentity
  extract_lets d node
  have h : (Chan.claimAnew _ me node).fab.identities = _ :=
    (congrArg (fun (x : Chan) => x.fab.identities) (Chan.claimAnew_besideQueues
      { d with fab := { d.fab with identities := ((serialOf (frameWords f) 0, node) :: d.fab.identities).eraseDups } } me node) :)
  rw [h]
  exact List.mem_eraseDups.mpr List.mem_cons_self

end

/-- Settles O41: HELLO, READY and TOPO_FAULT, acknowledged claims, then the frames of the dynamic segment. -/
theorem discoveryFramesAreHeard : Obligations.DiscoveryFramesAreHeard := by
  unfold Obligations.DiscoveryFramesAreHeard
  intro s ch f horg c ws h cyc there stay
  have hrelay : (c.relay f).besideQueues = c.besideQueues := c.relay_besideQueues f
  have hfrt : (c.relay f).frt = c.frt := frt_of_besideQueues hrelay
  have hsync : (c.relay f).sync = c.sync := sync_of_besideQueues hrelay
  refine ⟨fun hh hk => ?_, fun hh hk hs => ?_, fun hh hk hs => ?_, fun hh => ?_, fun hh => ?_, fun hh => ?_,
    fun sc hh ho hc ha hsc hr hn => ?_, fun hh hw => ?_, fun hh hw => ?_, fun hh => ?_, fun hh ha => ?_, fun hh ha => ?_,
    fun hh => ?_, fun hh => ?_, fun hh => ?_⟩
  · have h0 : (s.ch ch).sync.st ≠ 0 := by
      simpa only [bne_iff_ne] using (Bool.and_eq_true_iff.mp hh.isOpen).2
    obtain ⟨d, hd, hdf⟩ := Chan.heardHello_other (f := f) (c := c) (own := s.factory.serial) hk h0
    refine ⟨_, exec_hello hh, .put _ _ _, ?_⟩
    rw [State.put_ch, show (s.ch ch).heardFrame f = c from rfl, hd, ← hdf]
    exact d.takeHello_leaves f h
  · obtain ⟨h1, h2, -⟩ := Chan.noteSerial_duplicate (c := c) hs
    refine ⟨_, exec_hello hh, .put _ _ _, ?_⟩
    rw [State.put_ch, Chan.heardHello_own hk]
    exact ⟨h1, h2⟩
  · rw [exec_hello hh, Chan.heardHello_own hk, show (helloOf (frameWords f)).serial = s.factory.serial from hs,
      Chan.noteSerial_own]
  · have hexec : exec (.ready ch f) s = .next (s.put ch ({ c.relay f with frt := { (c.relay f).frt with
        ready := (bits (wordAt ws 0).toNat 6 0 :: (c.relay f).frt.ready).eraseDups } } : Chan).announce) := by
      show execReady ch f s = _
      unfold execReady
      dsimp only
      rw [State.onLive_eq _ (live_of_hears hh), Chan.hearRelay_of_hears hh horg]
      dsimp only
      rw [if_pos rfl]
    refine ⟨_, hexec, .put _ _ _, ?_⟩
    rw [State.put_ch, (Chan.announce_frt _).1, hfrt]
    exact ⟨List.mem_eraseDups.mpr List.mem_cons_self, fun k hk => List.mem_eraseDups.mpr (List.mem_cons_of_mem _ hk)⟩
  · show execTopoFault ch f s = _
    unfold execTopoFault
    rw [State.onLive_eq _ (live_of_hears hh), Chan.hearRelay_of_hears hh horg]
  · refine ⟨_, exec_claimAck hh horg, .put _ _ _, ?_⟩
    rw [State.put_ch, Chan.acknowledged, (Chan.announce_frt _).1]
    exact List.mem_eraseDups.mpr List.mem_cons_self
  · refine ⟨_, exec_claimAck hh horg, ?_⟩
    rw [State.put_ch, Chan.acknowledged, Chan.announce_of (sc := sc)]
    · exact ⟨congrArg (fun (y : Sync) => (y.cluster + 2) % 2 ^ 32) hsync, rfl⟩
    · exact (congrArg Sync.isOwl hsync).trans ho
    · exact (congrArg Sync.compiled hsync).trans hc
    · exact (congrArg Sync.switchAt hsync).trans ha
    · exact (congrArg Chan.schedule hrelay :).trans hsc
    · dsimp only
      rw [show (((s.ch ch).heardFrame f).relay f).frt = c.frt from hfrt]
      exact hr
    · dsimp only
      rw [show (((s.ch ch).heardFrame f).relay f).frt = c.frt from hfrt]
      refine fun n hns => List.mem_eraseDups.mpr ?_
      rcases hn n hns with h | rfl
      · exact List.mem_cons_of_mem _ h
      · exact List.mem_cons_self
  · have hexec : exec (.timeStatus ch f) s = .next (s.put ch { c.relay f with sync := { (c.relay f).sync with
        announced := (bits (wordAt ws 0).toNat 6 0 :: (c.relay f).sync.announced).eraseDups } }) := by
      show execTimeStatus ch f s = _
      unfold execTimeStatus
      dsimp only
      rw [State.onLive_eq _ (live_of_hears hh), Chan.hearRelay_of_hears hh horg]
      exact congrArg (fun x => Host.Outcome.next (s.put ch x))
        (if_pos (by rw [show wordAt (frameWords f) 1 = 4 from hw]; rfl))
    refine ⟨_, hexec, .put _ _ _, ?_⟩
    rw [State.put_ch]
    exact List.mem_eraseDups.mpr List.mem_cons_self
  · show execTimeStatus ch f s = _
    unfold execTimeStatus
    dsimp only
    rw [State.onLive_eq _ (live_of_hears hh), Chan.hearRelay_of_hears hh horg]
    refine congrArg (fun x => Host.Outcome.next (s.put ch x)) (if_neg fun hb => hw (BitVec.eq_of_toNat_eq ?_))
    exact beq_iff_eq.mp (Bool.and_eq_true_iff.mp hb).2
  · show execDelayReq ch f s = _
    unfold execDelayReq
    dsimp only
    rw [State.onLive_eq _ (live_of_hears hh), Chan.hear_of_hears hh]
    exact congrArg (fun x => Host.Outcome.next (s.put ch x)) (if_pos (bne_iff_ne.mpr horg))
  · have hexec : exec (.delayResp ch f) s = .next (s.put ch (c.setDelay f.port (((there + cyc - stay) % cyc) / 2))) := by
      show execDelayResp ch f s = _
      unfold execDelayResp
      dsimp only
      rw [State.onLive_eq _ (live_of_hears hh), Chan.hear_of_hears hh]
      exact congrArg (fun x => Host.Outcome.next (s.put ch x))
        (if_pos (Bool.and_eq_true_iff.mpr ⟨bne_iff_ne.mpr horg, ha⟩))
    refine ⟨_, hexec, .put _ _ _, ?_⟩
    rw [State.put_ch]
    exact c.setDelay_leaves _ _
  · show execDelayResp ch f s = _
    unfold execDelayResp
    dsimp only
    rw [State.onLive_eq _ (live_of_hears hh), Chan.hear_of_hears hh]
    exact congrArg (fun x => Host.Outcome.next (s.put ch x))
      (if_neg fun hb => absurd ((Bool.and_eq_true_iff.mp hb).2.symm.trans ha) (by decide))
  · have hexec : exec (.reintNotice ch f) s = .next (s.put ch { c.relay f with fab := { (c.relay f).fab with
        notices := (c.relay f).fab.notices ++ [bits (wordAt ws 0).toNat 6 0] } }) := by
      show execReintNotice ch f s = _
      unfold execReintNotice
      dsimp only
      rw [State.onLive_eq _ (live_of_hears hh), Chan.hearRelay_of_hears hh horg]
      dsimp only
      rw [if_pos rfl]
    refine ⟨_, hexec, .put _ _ _, ?_⟩
    rw [State.put_ch]
    exact congrArg (· ++ [bits (wordAt ws 0).toNat 6 0]) (congrArg (fun (x : Chan) => x.fab.notices) hrelay :)
  · have h0 : (s.ch ch).sync.st ≠ 0 := by
      simpa only [bne_iff_ne] using (Bool.and_eq_true_iff.mp hh.isOpen).2
    refine ⟨_, exec_identity hh horg h0, .put _ _ _, ?_⟩
    rw [State.put_ch]
    exact Chan.heardIdentity_identities _ _ _
  · have hexec : exec (.credit ch f) s = .next (s.put ch { c with
        qm := (List.range 28).foldl (fun q k => q.takeCredit f.port ws k) c.qm }) := by
      show execCredit ch f s = _
      unfold execCredit
      dsimp only
      rw [State.onLive_eq _ (live_of_hears hh), Chan.hear_of_hears hh]
      dsimp only
      rw [if_pos rfl]
      rfl
    refine ⟨_, hexec, .put _ _ _, fun k hk => ?_⟩
    rw [State.put_ch]
    obtain ⟨e, he, h1, h2, h3⟩ := c.qm.takeCredits_says f.port ws 28 k hk
    exact ⟨e, he, h1, h2, h3⟩

/-! ### Discovery complete (R260 to R263) -/

/-- Discovery completed: the digest taken. -/
def Chan.discovered (c : Chan) : Chan := { c with frt := { c.frt with complete := true, digest := c.topologyDigest } }

/-- READY sent by this node, and the claims after it. -/
def Chan.sendReady (c : Chan) (me : Ch) : Chan :=
  let d := c.sendManagement 0x0B (wordsBytes [w32 c.nodeKey, c.frt.digest.setWidth 32, (c.frt.digest >>> 32).setWidth 32])
  let e := ({ d with frt := { d.frt with ready := (d.nodeKey :: d.frt.ready).eraseDups } } : Chan).announce
  if e.holdsClaim then e.sendClaim me else e

section

variable (c : Chan)

@[simp] theorem Chan.discovered_beyond : c.discovered.beyond = c.beyond := rfl

@[simp] theorem Chan.discovered_oneLetter : c.discovered.oneLetter = c.oneLetter := rfl

@[simp] theorem Chan.discovered_sync : c.discovered.sync = c.sync := rfl

@[simp] theorem Chan.discovered_digest : c.discovered.frt.digest = c.topologyDigest := rfl

@[simp] theorem Chan.discovered_boot : c.discovered.boot = c.boot := rfl

@[simp] theorem Chan.discovered_imageDigest : c.discovered.imageDigest = c.imageDigest := rfl

end

/-- What a node that holds an image sends on: the fault of the first cause that holds, else READY. -/
def Chan.judgeTopology (c : Chan) (me : Ch) (d : BitVec 64) : Chan :=
  if c.beyond then c.topologyFault 2
  else if c.oneLetter then c.topologyFault 3
  else if !c.sync.duplicated.isEmpty then c.topologyFault 6
  else if c.frt.digest != d then c.topologyFault 1
  else c.sendReady me

/-- What a node sends on once discovery is complete: nothing without an image. -/
def Chan.concludes (c : Chan) (me : Ch) : Chan :=
  match c.boot.unprog, c.imageDigest with
  | false, some d => c.judgeTopology me d
  | _, _ => c

theorem Chan.concludes_image {c : Chan} {me : Ch} {d : BitVec 64} (hu : c.boot.unprog = false) (hd : c.imageDigest = some d) :
    c.concludes me = c.judgeTopology me d := by
  rw [Chan.concludes, hu, hd]

theorem Chan.concludes_none {c : Chan} {me : Ch} (h : c.boot.unprog = true ∨ c.imageDigest = none) : c.concludes me = c := by
  rcases h with h | h
  · rw [Chan.concludes, h]
  · rw [Chan.concludes, h]
    cases c.boot.unprog <;> rfl

theorem Chan.sendReady_leaves (c : Chan) (me : Ch) :
    (c.sendReady me).frt.complete = c.frt.complete ∧ (c.sendReady me).frt.digest = c.frt.digest ∧
      (c.sendReady me).frt.fault = c.frt.fault ∧ (c.sendReady me).frt.cause = c.frt.cause ∧
      c.nodeKey ∈ (c.sendReady me).frt.ready := by
  unfold Chan.sendReady
  extract_lets d fr e
  have hd : d.besideQueues = c.besideQueues := c.sendManagement_besideQueues _ _
  have he : e.frt = { c.frt with ready := (c.nodeKey :: c.frt.ready).eraseDups } := by
    refine (Chan.announce_frt _).1.trans ?_
    rw [show d.nodeKey = c.nodeKey from nodeKey_of_besideQueues hd]
    exact congrArg (fun (r : Frt) => ({ r with ready := (c.nodeKey :: r.ready).eraseDups } : Frt)) (frt_of_besideQueues hd)
  have hready : c.nodeKey ∈ e.frt.ready := by
    rw [he]
    exact List.mem_eraseDups.mpr List.mem_cons_self
  split
  · rw [show (e.sendClaim me).frt = { e.frt with acked := [] } from frt_of_besideQueues (e.sendClaim_besideQueues me)]
    exact ⟨by rw [he], by rw [he], by rw [he], by rw [he], hready⟩
  · exact ⟨by rw [he], by rw [he], by rw [he], by rw [he], hready⟩

theorem Chan.judgeTopology_frt (c : Chan) (me : Ch) (d : BitVec 64) :
    (c.judgeTopology me d).frt.complete = c.frt.complete ∧ (c.judgeTopology me d).frt.digest = c.frt.digest := by
  have hfault (n : Nat) : (c.topologyFault n).frt.complete = c.frt.complete ∧ (c.topologyFault n).frt.digest = c.frt.digest := by
    rw [(c.topologyFault_leaves n).1]
    exact ⟨rfl, rfl⟩
  unfold Chan.judgeTopology
  split
  · exact hfault 2
  · split
    · exact hfault 3
    · split
      · exact hfault 6
      · split
        · exact hfault 1
        · obtain ⟨h1, h2, -⟩ := c.sendReady_leaves me
          exact ⟨h1, h2⟩

theorem Chan.topologyFault_names (c : Chan) (n : Nat) : (c.topologyFault n).frt.fault = true ∧ (c.topologyFault n).frt.cause = n := by
  rw [(c.topologyFault_leaves n).1]
  exact ⟨rfl, rfl⟩

section

variable {s : State} {ch : Ch}

/-- Discovery is at its end: every HELLO unchanged for two cluster cycles, every node in SYNC, every link known. -/
def Chan.Discovered (c : Chan) : Prop :=
  (c.laneOpen && !c.frt.complete && decide (2 ≤ c.frt.stable) && c.sync.st == 4 &&
    c.frt.hellos.all (fun h => h.st == 4) && c.linksKnown) = true

theorem exec_discoveryComplete (h : (s.ch ch).Discovered) :
    exec (.discoveryComplete ch) s = .next (s.put ch ((s.ch ch).discovered.concludes ch)) := by
  have hl : (s.ch ch).live = true := by
    refine live_of_laneLive (laneLive_of_laneOpen ?_)
    simp only [Chan.Discovered, Bool.and_eq_true, and_assoc] at h
    exact h.1
  show execDiscoveryComplete ch s = _
  rw [execDiscoveryComplete, State.onLive_eq _ hl]
  exact congrArg (fun x => Host.Outcome.next (s.put ch x)) ((if_pos h).trans rfl)

end

/-- Settles O42: the causes in the order in which they are looked for. -/
theorem discoveryEnds : Obligations.DiscoveryEnds := by
  unfold Obligations.DiscoveryEnds
  refine ⟨fun s ch hop hc hst h4 hall hk => ?_, fun s ch h => ?_⟩
  · intro c
    have hdisc : c.Discovered := by
      simp only [Chan.Discovered, Bool.and_eq_true]
      exact ⟨⟨⟨⟨⟨hop, by rw [show c.frt.complete = false from hc]; rfl⟩, decide_eq_true hst⟩, beq_iff_eq.mpr h4⟩, hall⟩, hk⟩
    have hexec (d : BitVec 64) (hu : c.boot.unprog = false) (hd : c.imageDigest = some d) :
        ∃ t, exec (.discoveryComplete ch) s = .next t ∧ t.ch ch = c.discovered.judgeTopology ch d :=
      ⟨_, exec_discoveryComplete hdisc, (State.put_ch _ _ _).trans (Chan.concludes_image (c := c.discovered) hu hd)⟩
    have hfault (d : BitVec 64) (n : Nat) (hu : c.boot.unprog = false) (hd : c.imageDigest = some d)
        (hj : c.discovered.judgeTopology ch d = c.discovered.topologyFault n) :
        ∃ t, exec (.discoveryComplete ch) s = .next t ∧ (t.ch ch).frt.fault = true ∧ (t.ch ch).frt.cause = n := by
      obtain ⟨t, ht, hch⟩ := hexec d hu hd
      refine ⟨t, ht, ?_⟩
      rw [hch, hj]
      exact Chan.topologyFault_names _ n
    refine ⟨?_, fun d hu hd hb => hfault d 2 hu hd ?_, fun d hu hd hb ho => hfault d 3 hu hd ?_,
      fun d hu hd hb ho hp => hfault d 6 hu hd ?_, fun d hu hd hb ho hp hne => hfault d 1 hu hd ?_,
      fun d hu hd hb ho hp he => ?_, fun hn => ?_⟩
    · refine ⟨_, exec_discoveryComplete hdisc, .put _ _ _, ?_⟩
      rw [State.put_ch]
      by_cases hn : c.boot.unprog = true ∨ c.imageDigest = none
      · rw [Chan.concludes_none (c := c.discovered) hn]
        exact ⟨rfl, rfl⟩
      · obtain ⟨hu, hd⟩ := not_or.mp hn
        obtain ⟨d, hd⟩ := Option.ne_none_iff_exists'.mp hd
        rw [Chan.concludes_image (c := c.discovered) (by simpa using hu) hd]
        exact Chan.judgeTopology_frt _ _ _
    · simp [Chan.judgeTopology, hb]
    · simp [Chan.judgeTopology, hb, ho]
    · simp [Chan.judgeTopology, hb, ho, hp]
    · simp [Chan.judgeTopology, hb, ho, hp, hne]
    · obtain ⟨t, ht, hch⟩ := hexec d hu hd
      have hj : c.discovered.judgeTopology ch d = c.discovered.sendReady ch := by
        simp [Chan.judgeTopology, hb, ho, hp, he]
      obtain ⟨-, -, h3, h4, h5⟩ := c.discovered.sendReady_leaves ch
      refine ⟨t, ht, ?_⟩
      rw [hch, hj]
      exact ⟨h5, h4, h3⟩
    · rw [exec_discoveryComplete hdisc, Chan.concludes_none (c := (s.ch ch).discovered) hn]
      rfl
  · refine congrArg Host.Outcome.next (State.onLive_same (if_neg fun hb => ?_))
    simp only [Bool.and_eq_true, and_assoc, Bool.not_eq_true', decide_eq_true_eq, beq_iff_eq] at hb
    obtain ⟨h1, h2, h3, h4, -, h6⟩ := hb
    rcases h with h | h | h | h | h
    · exact absurd (h1.symm.trans h) (by decide)
    · exact absurd (h2.symm.trans h) (by decide)
    · omega
    · exact h h4
    · exact absurd (h6.symm.trans h) (by decide)

end Sys2Proof.Machine

/-! PROOFS. The other unit of a pair (spec/11 R293 to R310): what entering, losing and leaving the standby role do, and what a
heartbeat leaves. -/

namespace Sys2Proof.Machine

open Sys2Proof

/-! ### A start of the running image (R138, R313) -/

/-- A channel but for its memory, the marks on its tiles, its blocks, its doors and its resolver. -/
def Chan.besideImage (c : Chan) : Chan :=
  { c with mem := default, tiles := default, blocks := default, doors := default, res := default }

theorem Chan.startImage_besideImage (c : Chan) (v : Variant) : (c.startImage v).besideImage = c.besideImage := by
  unfold Chan.startImage
  split <;> rfl

section

variable (c : Chan) (v : Variant)

@[simp] theorem Chan.startImage_part : (c.startImage v).part = c.part :=
  (congrArg (fun (x : Chan) => x.part) (c.startImage_besideImage v) :)

@[simp] theorem Chan.startImage_dout : (c.startImage v).dout = c.dout :=
  (congrArg (fun (x : Chan) => x.dout) (c.startImage_besideImage v) :)

@[simp] theorem Chan.startImage_clock : (c.startImage v).clock = c.clock :=
  (congrArg (fun (x : Chan) => x.clock) (c.startImage_besideImage v) :)

@[simp] theorem Chan.startImage_nv : (c.startImage v).nv = c.nv :=
  (congrArg (fun (x : Chan) => x.nv) (c.startImage_besideImage v) :)

end

/-! ### Demotion (R299) -/

/-- The partner block of a unit that is demoted: a standby without a claim. -/
def Part.demoted (p : Part) (kept : Bool) (now main : Nat) : Part :=
  { p with
    role := 2, claim := 0, cause := if kept then 2 else 3, switchAt := 0, swReady := false, handover := false
    feeding := false, sending := none, phase := 0, sync := if kept then 2 else 0, since := now
    applied := if kept then main - 1 else 0 }

theorem Chan.flushVital_eq (c : Chan) : c.flushVital = { c with fab := c.flushVital.fab, qm := c.flushVital.qm } :=
  c.flushBoth_eq _

theorem Chan.demote_leaves (c : Chan) (v : Variant) (kept : Bool) :
    (c.demote v kept).part = c.part.demoted kept c.clock c.mainCycle ∧ (c.demote v kept).dout = c.dout.opened := by
  unfold Chan.demote
  rw [Chan.flushVital_eq]
  extract_lets d nv part e f
  have hf : f.part = c.part.demoted kept c.clock c.mainCycle ∧ f.dout = c.dout.opened := by
    dsimp only [f]
    rw [Chan.emit_eq]
    exact ⟨rfl, rfl⟩
  split
  · exact hf
  · rw [Chan.startImage_part, Chan.startImage_dout]
    exact hf

theorem Chan.demoteOn_of_higher {c : Chan} {claim : Word} (v : Variant) (hr : c.part.role = 1)
    (hc : c.part.claim.toNat < claim.toNat) : c.demoteOn v claim = c.demote v c.part.handover :=
  if_pos (by rw [hr, decide_eq_true hc]; rfl)

theorem Chan.demoteOn_of_not {c : Chan} {claim : Word} (v : Variant) (h : c.part.role ≠ 1 ∨ claim.toNat ≤ c.part.claim.toNat) :
    c.demoteOn v claim = c := by
  refine if_neg ?_
  rcases h with h | h
  · simp [h]
  · simp [Nat.not_lt.mpr h]

/-! ### A standby's state discarded (R310) -/

theorem Chan.loseSync_of {c : Chan} (v : Variant) {cause : Nat} (hr : c.part.role = 2) (hs : c.part.sync ≠ 0) :
    (c.loseSync v cause).part = { c.part.dropTransfer with cause := cause, applied := 0, since := c.clock } ∧
      (c.loseSync v cause).nv = { c.nv with syncLossCnt := inc 8 c.nv.syncLossCnt } ∧
      (c.loseSync v cause).dout = c.dout := by
  unfold Chan.loseSync
  rw [if_pos (by rw [hr, bne_iff_ne.mpr hs]; rfl), Chan.emit_eq]
  dsimp only
  rw [Chan.startImage_part, Chan.startImage_nv, Chan.startImage_dout, Chan.startImage_clock]
  exact ⟨rfl, rfl, rfl⟩

theorem Chan.loseSync_of_follows {c : Chan} (v : Variant) (cause : Nat) (h : c.follows = true) :
    (c.loseSync v cause).part = { c.part.dropTransfer with cause := cause, applied := 0, since := c.clock } ∧
      (c.loseSync v cause).nv = { c.nv with syncLossCnt := inc 8 c.nv.syncLossCnt } ∧
      (c.loseSync v cause).dout = c.dout := by
  simp only [Chan.follows, Bool.and_eq_true, beq_iff_eq] at h
  exact Chan.loseSync_of v h.1 (by rw [h.2]; decide)

/-- A standby that has lost its state holds none. -/
theorem Part.dropTransfer_sync {p : Part} (h : p.role = 2) : p.dropTransfer.sync = 0 := if_pos (beq_iff_eq.mpr h)

/-! ### Heartbeats (R293, R298, R299, R303) -/

theorem Chan.stop_part (c : Chan) (code : Nat) (detail : Word) : (c.stop code detail).part = c.part := by
  unfold Chan.stop
  split
  · rfl
  · dsimp only
    rw [Chan.emit_eq]
    rfl

theorem Chan.pairingFault_pairing (c : Chan) (b : Beat) : (c.pairingFault b).part.pairing = true := by
  unfold Chan.pairingFault
  extract_lets p d
  have hd : d.part.pairing = true := by
    dsimp only [d]
    split
    · next h => exact h
    · rw [Chan.emit_eq]
  split
  · rw [Chan.stop_part]
    exact hd
  · exact hd

/-- What a valid heartbeat leaves in the partner block. -/
structure Part.Learnt (p q : Part) (b : Beat) : Prop where
  role : q.role = p.role
  claim : q.claim = p.claim
  sync : q.sync = p.sync
  partnerRole : q.partnerRole = b.role
  partnerClaim : q.partnerClaim = higherClaim p.partnerClaim b.claim
  seqX3 : q.seqX3 = p.seqX3
  runX3 : q.runX3 = p.runX3
  seqLane : q.seqLane = p.seqLane
  runLane : q.runLane = p.runLane
  seen : q.seen = p.seen

theorem Part.learn_learnt (p : Part) (b : Beat) : p.Learnt (p.learn b) b := by
  unfold Part.learn
  extract_lets q
  split
  · exact ⟨rfl, rfl, rfl, rfl, rfl, rfl, rfl, rfl, rfl, rfl⟩
  · exact ⟨rfl, rfl, rfl, rfl, rfl, rfl, rfl, rfl, rfl, rfl⟩

/-- A channel that has noted a valid heartbeat. -/
def Chan.noted (c : Chan) (path : Path) (b : Beat) : Chan :=
  { c with part := (c.part.noteBeat path b).learn b, nv := c.nv.seeEpoch b }

/-- What noting a heartbeat leaves of both paths. -/
structure Part.Notes (p q : Part) (path : Path) (b : Beat) : Prop where
  role : q.role = p.role
  claim : q.claim = p.claim
  sync : q.sync = p.sync
  partnerRole : q.partnerRole = b.role
  partnerClaim : q.partnerClaim = higherClaim p.partnerClaim b.claim
  seen : q.seen = true
  x3 : path = .x3 → q.seqX3 = some b.hbSeq ∧ q.runX3 = 0
  lane : path = .lane → q.seqLane = some b.hbSeq ∧ q.runLane = 0

theorem Chan.noted_notes (c : Chan) (path : Path) (b : Beat) : c.part.Notes (c.noted path b).part path b := by
  have h := (c.part.noteBeat path b).learn_learnt b
  cases path with
  | x3 =>
    exact ⟨h.role, h.claim, h.sync, h.partnerRole, h.partnerClaim, h.seen, fun _ => ⟨h.seqX3, h.runX3⟩, fun hp => absurd hp (by decide)⟩
  | lane =>
    exact ⟨h.role, h.claim, h.sync, h.partnerRole, h.partnerClaim, h.seen, fun hp => absurd hp (by decide), fun _ => ⟨h.seqLane, h.runLane⟩⟩

theorem Chan.takeBeat_silent {c : Chan} (v : Variant) (path : Path) (b : Beat) (h : c.beats = false) : c.takeBeat v path b = c :=
  if_pos (by rw [h]; rfl)

theorem Chan.takeBeat_elsewhere {c : Chan} {b : Beat} (v : Variant) (h : b.node ≠ c.node) : c.takeBeat v .lane b = c := by
  have hf : c.fromPartner b = false := by simp [Chan.fromPartner, h]
  have hp : (Path.lane == Path.x3 || b.node == c.node) = false := by simp [h]
  unfold Chan.takeBeat
  rw [hf, hp]
  simp

theorem Chan.takeBeat_paired {c : Chan} {b : Beat} (v : Variant) {path : Path} (hb : c.beats = true) (hf : c.fromPartner b = false)
    (hp : path = .x3 ∨ b.node = c.node) : (c.takeBeat v path b).part.pairing = true := by
  have hp' : (path == .x3 || b.node == c.node) = true := by simpa using hp
  unfold Chan.takeBeat
  rw [if_neg (by rw [hb]; decide), if_pos (by rw [hf]; rfl), if_pos hp']
  exact c.pairingFault_pairing b

theorem Chan.takeBeat_refused {c : Chan} {b : Beat} (v : Variant) {path : Path} (hf : c.fromPartner b = true)
    (h : c.part.pairing = true ∨ c.part.seqOk path b = false) : c.takeBeat v path b = c := by
  unfold Chan.takeBeat
  rw [if_neg (show ¬ (!c.fromPartner b) = true by rw [hf]; decide),
    if_pos (show (c.part.pairing || !c.part.seqOk path b) = true by rcases h with h | h <;> simp [h]), ite_self]

/-- A valid heartbeat noted, and a switch to an image that a standby cannot follow. -/
def Chan.followed (c : Chan) (v : Variant) (path : Path) (b : Beat) : Chan :=
  if path == .x3 && (c.noted path b).switchedAway b then (c.noted path b).loseSync v 7 else c.noted path b

theorem Chan.takeBeat_valid {c : Chan} {b : Beat} (v : Variant) {path : Path} (hb : c.beats = true) (hf : c.fromPartner b = true)
    (hp : c.part.pairing = false) (hs : c.part.seqOk path b = true) :
    c.takeBeat v path b = (c.followed v path b).demoteOn v b.claim := by
  unfold Chan.takeBeat
  rw [if_neg (by rw [hb]; decide), if_neg (by rw [hf]; decide), if_neg (by rw [hp, hs]; decide)]
  rfl

theorem Chan.follows_of_switchedAway {c : Chan} {b : Beat} (h : c.switchedAway b = true) : c.follows = true := by
  unfold Chan.switchedAway at h
  simp only [Bool.and_eq_true] at h
  exact h.1.1.1

/-- What following a heartbeat leaves: the state of a standby may go, its role and its paths stay. -/
theorem Chan.followed_notes (c : Chan) (v : Variant) (path : Path) (b : Beat) :
    (c.followed v path b).part.role = c.part.role ∧ (c.followed v path b).part.claim = c.part.claim ∧
      (c.followed v path b).part.partnerRole = b.role ∧
      (c.followed v path b).part.partnerClaim = higherClaim c.part.partnerClaim b.claim ∧
      (c.followed v path b).part.seen = true ∧
      (path = .x3 → (c.followed v path b).part.seqX3 = some b.hbSeq ∧ (c.followed v path b).part.runX3 = 0) ∧
      (path = .lane → (c.followed v path b).part.seqLane = some b.hbSeq ∧ (c.followed v path b).part.runLane = 0) ∧
      (c.followed v path b).dout = c.dout := by
  have h := c.noted_notes path b
  unfold Chan.followed
  split
  · next hs =>
    obtain ⟨hp, -, hd⟩ := Chan.loseSync_of_follows v 7 (Chan.follows_of_switchedAway (Bool.and_eq_true_iff.mp hs).2)
    rw [hp, hd]
    exact ⟨h.role, h.claim, h.partnerRole, h.partnerClaim, h.seen, h.x3, h.lane, rfl⟩
  · exact ⟨h.role, h.claim, h.partnerRole, h.partnerClaim, h.seen, h.x3, h.lane, rfl⟩

/-- What a valid heartbeat leaves of its path. -/
theorem Chan.takeBeat_notes {c : Chan} {b : Beat} (v : Variant) {path : Path} (hb : c.beats = true) (hf : c.fromPartner b = true)
    (hp : c.part.pairing = false) (hs : c.part.seqOk path b = true) :
    (c.takeBeat v path b).part.partnerRole = b.role ∧
      (c.takeBeat v path b).part.partnerClaim = higherClaim c.part.partnerClaim b.claim ∧
      (c.takeBeat v path b).part.seen = true ∧
      (path = .x3 → (c.takeBeat v path b).part.seqX3 = some b.hbSeq ∧ (c.takeBeat v path b).part.runX3 = 0) ∧
      (path = .lane → (c.takeBeat v path b).part.seqLane = some b.hbSeq ∧ (c.takeBeat v path b).part.runLane = 0) := by
  obtain ⟨-, -, h1, h2, h3, h4, h5, -⟩ := c.followed_notes v path b
  rw [Chan.takeBeat_valid v hb hf hp hs]
  unfold Chan.demoteOn
  split
  · rw [(Chan.demote_leaves _ _ _).1]
    exact ⟨h1, h2, h3, h4, h5⟩
  · exact ⟨h1, h2, h3, h4, h5⟩

/-- A higher claim demotes an active unit. -/
theorem Chan.takeBeat_demotes {c : Chan} {b : Beat} (v : Variant) {path : Path} (hb : c.beats = true) (hf : c.fromPartner b = true)
    (hp : c.part.pairing = false) (hs : c.part.seqOk path b = true) (hr : c.part.role = 1)
    (hc : c.part.claim.toNat < b.claim.toNat) :
    (c.takeBeat v path b).part.role = 2 ∧ (c.takeBeat v path b).part.claim = 0 ∧ (c.takeBeat v path b).dout.high = 0 ∧
      (c.takeBeat v path b).dout.lowSide = 0 := by
  obtain ⟨h1, h2, -⟩ := c.followed_notes v path b
  rw [Chan.takeBeat_valid v hb hf hp hs, Chan.demoteOn_of_higher v (h1.trans hr) (by rw [h2]; exact hc),
    (Chan.demote_leaves _ _ _).1, (Chan.demote_leaves _ _ _).2]
  exact ⟨rfl, rfl, rfl, rfl⟩

theorem Chan.takeBeat_keeps {c : Chan} {b : Beat} (v : Variant) {path : Path} (hb : c.beats = true) (hf : c.fromPartner b = true)
    (hp : c.part.pairing = false) (hs : c.part.seqOk path b = true) (h : c.part.role ≠ 1 ∨ b.claim.toNat ≤ c.part.claim.toNat) :
    (c.takeBeat v path b).part.role = c.part.role ∧ (c.takeBeat v path b).part.claim = c.part.claim ∧
      (c.takeBeat v path b).dout = c.dout := by
  obtain ⟨h1, h2, -, -, -, -, -, h3⟩ := c.followed_notes v path b
  rw [Chan.takeBeat_valid v hb hf hp hs, Chan.demoteOn_of_not v (by rw [h1, h2]; exact h)]
  exact ⟨h1, h2, h3⟩

theorem Chan.noted_switchedAway (c : Chan) (path : Path) (b : Beat) : (c.noted path b).switchedAway b = c.switchedAway b := by
  have h := c.noted_notes path b
  have hf : (c.noted path b).follows = c.follows := by rw [Chan.follows, Chan.follows, h.role, h.sync]
  unfold Chan.switchedAway
  rw [hf]
  rfl

/-- A standby loses the state that it cannot keep up with. -/
theorem Chan.takeBeat_switchedAway {c : Chan} {b : Beat} (v : Variant) (hb : c.beats = true) (hf : c.fromPartner b = true)
    (hp : c.part.pairing = false) (hs : c.part.seqOk .x3 b = true) (h : c.switchedAway b = true) :
    (c.takeBeat v .x3 b).part.sync = 0 ∧ (c.takeBeat v .x3 b).part.cause = 7 := by
  have hn := c.noted_notes .x3 b
  have hrole : c.part.role = 2 := by
    have h2 := Chan.follows_of_switchedAway h
    simp only [Chan.follows, Bool.and_eq_true, beq_iff_eq] at h2
    exact h2.1
  have h' : (c.noted .x3 b).switchedAway b = true := (c.noted_switchedAway .x3 b).trans h
  obtain ⟨hpart, -, -⟩ := Chan.loseSync_of_follows v 7 (Chan.follows_of_switchedAway h')
  obtain ⟨hr, -⟩ := c.followed_notes v .x3 b
  rw [Chan.takeBeat_valid v hb hf hp hs, Chan.demoteOn_of_not v (.inl (by rw [hr, hrole]; decide)), Chan.followed,
    if_pos (by rw [h']; rfl), hpart]
  exact ⟨Part.dropTransfer_sync (hn.role.trans hrole), rfl⟩

end Sys2Proof.Machine

/-! PROOFS. Claims, heartbeats and non-vital data on a lane, and the queue pool's link words (spec/10 R256, R266, R267, R278, spec/11
R298, R299, R303). -/

namespace Sys2Proof.Machine

open Sys2Proof

/-! ### A claim held and applied (R266, R267) -/

/-- A claim that this channel holds is held by every channel of its vote. -/
def Chan.allHold (c : Chan) (me : Ch) (k : ClaimBlock) : Bool :=
  c.voters.all (fun x => x == me || (c.fab.digests.get x).map (fun e => e.2.2) == some (claimDigest k)) && c.votes me

theorem Chan.allHold_of {c : Chan} {me : Ch} {k : ClaimBlock} (hv : c.votes me = true)
    (h : ∀ x, c.votes x = true → x = me ∨ (c.fab.digests.get x).map (fun e => e.2.2) = some (claimDigest k)) :
    c.allHold me k = true := by
  refine Bool.and_eq_true_iff.mpr ⟨List.all_eq_true.mpr fun x hx => ?_, hv⟩
  simpa using h x (List.mem_filter.mp hx).2

theorem Chan.allHold_of_not {c : Chan} {me x : Ch} {k : ClaimBlock} (hv : c.votes x = true) (hx : x ≠ me)
    (hd : (c.fab.digests.get x).map (fun e => e.2.2) ≠ some (claimDigest k)) : c.allHold me k = false := by
  refine Bool.eq_false_iff.mpr fun h => ?_
  have hall := List.all_eq_true.mp (Bool.and_eq_true_iff.mp h).1 x (List.mem_filter.mpr ⟨by cases x <;> decide, hv⟩)
  simp [hx, hd] at hall

theorem Chan.tryClaim_none {c : Chan} (me : Ch) (h : c.fab.held = none) : c.tryClaim me = c := by
  rw [Chan.tryClaim, h]

theorem Chan.tryClaim_waits {c : Chan} {me : Ch} {k : ClaimBlock} (hk : c.fab.held = some k) (h : c.allHold me k = false) :
    c.tryClaim me = c := by
  unfold Chan.tryClaim
  rw [hk]
  rw [Chan.allHold] at h
  exact if_neg (by rw [h]; decide)

theorem Chan.tryClaim_acts {c : Chan} {me : Ch} {k : ClaimBlock} (hk : c.fab.held = some k) (h : c.allHold me k = true) :
    c.tryClaim me = (if c.fab.claimed && c.fab.claim == k.number then c else c.applyClaim k).ackClaim k := by
  unfold Chan.tryClaim
  rw [hk]
  exact if_pos h

/-- What trying a claim keeps: the claim held, the digests, every transfer begun. -/
theorem Chan.tryClaim_keeps (c : Chan) (me : Ch) :
    (c.tryClaim me).fab.held = c.fab.held ∧ (c.tryClaim me).fab.digests = c.fab.digests ∧ (c.tryClaim me).xout = c.xout := by
  cases hk : c.fab.held with
  | none => rw [Chan.tryClaim_none me hk, hk]; exact ⟨rfl, rfl, rfl⟩
  | some k =>
    cases h : c.allHold me k with
    | false => rw [Chan.tryClaim_waits hk h, hk]; exact ⟨rfl, rfl, rfl⟩
    | true =>
      rw [Chan.tryClaim_acts hk h]
      have hq (d : Chan) : (d.ackClaim k).besideQueues = d.besideQueues := d.sendManagement_besideQueues _ _
      have hack (d : Chan) : (d.ackClaim k).fab.held = d.fab.held ∧ (d.ackClaim k).fab.digests = d.fab.digests ∧
          (d.ackClaim k).xout = d.xout :=
        ⟨(congrArg (fun (x : Chan) => x.fab.held) (hq d) :), (congrArg (fun (x : Chan) => x.fab.digests) (hq d) :),
          (congrArg (fun (x : Chan) => x.xout) (hq d) :)⟩
      obtain ⟨h1, h2, h3⟩ := hack (if c.fab.claimed && c.fab.claim == k.number then c else c.applyClaim k)
      rw [h1, h2, h3]
      split
      · exact ⟨hk, rfl, rfl⟩
      · rw [Chan.applyClaim, Chan.emit_eq]
        exact ⟨hk, rfl, rfl⟩

/-- A claim that every channel holds comes into force. -/
theorem Chan.tryClaim_applies {c : Chan} {me : Ch} {k : ClaimBlock} (hk : c.fab.held = some k) (h : c.allHold me k = true)
    (hn : c.fab.claimed = false ∨ c.fab.claim ≠ k.number) :
    (c.tryClaim me).fab.claimed = true ∧ (c.tryClaim me).fab.claim = k.number ∧ (c.tryClaim me).fab.claimant = k.claimant := by
  have hb : (c.fab.claimed && c.fab.claim == k.number) = false := by rcases hn with h | h <;> simp [h]
  have hq : ((c.applyClaim k).ackClaim k).besideQueues = (c.applyClaim k).besideQueues := Chan.sendManagement_besideQueues _ _ _
  have ha : (c.applyClaim k).fab.claimed = true ∧ (c.applyClaim k).fab.claim = k.number ∧
      (c.applyClaim k).fab.claimant = k.claimant := by
    rw [Chan.applyClaim, Chan.emit_eq]
    exact ⟨rfl, rfl, rfl⟩
  rw [Chan.tryClaim_acts hk h, if_neg (by rw [hb]; decide)]
  exact ⟨(congrArg (fun (x : Chan) => x.fab.claimed) hq :).trans ha.1, (congrArg (fun (x : Chan) => x.fab.claim) hq :).trans ha.2.1,
    (congrArg (fun (x : Chan) => x.fab.claimant) hq :).trans ha.2.2⟩

theorem Chan.acceptsClaim_iff (c : Chan) (k : ClaimBlock) :
    c.acceptsClaim k = true ↔ c.boot.unprog = true ∧ c.split = false ∧ c.certOk k = true ∧ claimSigned k = true ∧
      c.frt.complete = true ∧ k.topology = c.frt.digest ∧ ∀ h, c.fab.held = some h → h.number.toNat ≤ k.number.toNat := by
  have hleast {w : Word} (hw : c.fab.held = none → w = 0) (hs : ∀ h, c.fab.held = some h → w = h.number) :
      w.toNat ≤ k.number.toNat ↔ ∀ h, c.fab.held = some h → h.number.toNat ≤ k.number.toNat := by
    cases hh : c.fab.held with
    | none => simp [hw hh]
    | some h => simp [hs h hh]
  unfold Chan.acceptsClaim
  extract_lets least
  rw [← hleast (w := least) (fun h => by simp only [least, h]) (fun h hh => by simp only [least, hh])]
  simp only [Bool.and_eq_true, Bool.not_eq_true', beq_iff_eq, decide_eq_true_eq, and_assoc]

/-- The channel that holds a claim, before it tries it. -/
def Chan.holding (c : Chan) (me : Ch) (k : ClaimBlock) : Chan :=
  ({ c with
    fab := { c.fab with held := some k, digests := c.fab.digests.set me (some (k.number, k.claimant, claimDigest k)) } } :
      Chan).xsendBoth me (.claim k.number k.claimant (claimDigest k))

theorem Chan.holdClaim_eq (c : Chan) (me : Ch) (k : ClaimBlock) : c.holdClaim me k = (c.holding me k).tryClaim me := rfl

theorem Chan.holding_fab (c : Chan) (me : Ch) (k : ClaimBlock) :
    (c.holding me k).fab =
      { c.fab with held := some k, digests := c.fab.digests.set me (some (k.number, k.claimant, claimDigest k)) } ∧
      ∀ x, (c.holding me k).votes x = c.votes x := by
  refine ⟨by simp [Chan.holding], fun x => by simp [Chan.holding, Chan.votes]⟩

/-! ### The rows -/

section

variable {s : State} {ch : Ch} {f : FrameRx}

/-- A part of a claim kept. -/
def Chan.keptPart (c : Chan) (f : FrameRx) : Fab :=
  c.fab.keepPart f.origin (bits (Machine.wordAt (frameWords f) 0).toNat 15 0) (f.payload.drop 4)

/-- The claim that a frame's origin has sent, once all its parts are there. -/
def Chan.wholeClaim (c : Chan) (f : FrameRx) : Option (List Byte) :=
  (c.keptPart f).claimText f.origin (bits (Machine.wordAt (frameWords f) 0).toNat 31 16)

/-- The channel that has read all parts of a claim. -/
def Chan.readClaim (c : Chan) (f : FrameRx) : Chan :=
  { c with fab := { c.keptPart f with claimParts := (c.keptPart f).claimParts.filter (fun e => e.1 != f.origin) } }

/-- What a channel does with a part of a claim for it. -/
def Chan.takePart (c : Chan) (me : Ch) (f : FrameRx) : Chan :=
  match c.wholeClaim f with
  | none => { c with fab := c.keptPart f }
  | some bytes =>
    match Config.claimOf me bytes with
    | some k => if (c.readClaim f).acceptsClaim k then (c.readClaim f).holdClaim me k else c.readClaim f
    | none => c.readClaim f

theorem exec_claim (hh : (s.ch ch).HearsFrame ch f 0x0D) (ho : f.origin ≠ (s.ch ch).nodeKey) :
    exec (.claim ch f) s = .next (s.put ch
      (if (((s.ch ch).heardFrame f).relay f).addressed f then (((s.ch ch).heardFrame f).relay f).takePart ch f
        else ((s.ch ch).heardFrame f).relay f)) := by
  show execClaim ch f s = _
  unfold execClaim
  dsimp only
  rw [State.onLive_eq _ (live_of_hears hh), Chan.hearRelay_of_hears hh ho]
  exact congrArg (fun x => Host.Outcome.next (s.put ch x)) (ite_congr (by rw [Bool.true_and]) (fun _ => rfl) (fun _ => rfl))

theorem exec_heartbeatFrame (hh : (s.ch ch).HearsFrame ch f 0x0F) (ho : f.origin ≠ (s.ch ch).nodeKey) :
    exec (.heartbeatFrame ch f) s = .next (s.put ch
      (({ ((s.ch ch).heardFrame f).relay f with
          fab := (((s.ch ch).heardFrame f).relay f).fab.noteClaim (beatOf (frameWords f)).node (beatKey (beatOf (frameWords f)))
            (beatOf (frameWords f)).claim } : Chan).takeBeat s.factory.variant .lane (beatOf (frameWords f)))) := by
  show execHeartbeatFrame ch f s = _
  unfold execHeartbeatFrame
  dsimp only
  rw [State.onLive_eq _ (live_of_hears hh), Chan.hearRelay_of_hears hh ho]
  dsimp only
  rw [if_pos rfl]

end

/-! ### The queue pool (R278) -/

@[simp] theorem Qm.give_eccUe (q : Qm) (cls : Nat) (level : Option (Port × Nat)) (n : Nat) : (q.give cls level n).eccUe = q.eccUe := by
  unfold Qm.give
  split
  · split <;> rfl
  · rfl

theorem Chan.flushWhere_eccUe (c : Chan) (p : Port) (gone : Frame → Bool) : (c.flushWhere p gone).qm.eccUe = c.qm.eccUe := by
  unfold Chan.flushWhere
  extract_lets out qm
  split
  · rfl
  · exact foldl_view (g := Qm.eccUe) (fun q f => q.give_eccUe _ _ _) _ c.qm

/-- Both queues without the frames of a range. -/
theorem Chan.flushedRange_queues (c : Chan) (gx gy : Frame → Bool) :
    (∀ f ∈ ((c.flushWhere .x gx).flushWhere .y gy).fab.queue .x, gx f = false) ∧
      ∀ f ∈ ((c.flushWhere .x gx).flushWhere .y gy).fab.queue .y, gy f = false := by
  obtain ⟨-, hx1⟩ := c.flushWhere_queues .x gx
  obtain ⟨hx2, hy2⟩ := (c.flushWhere .x gx).flushWhere_queues .y gy
  refine ⟨fun f hf => ?_, fun f hf => ?_⟩
  · have hf' : f ∈ (c.fab.queue .x).filter (fun f => !gx f) := hx1 ▸ hx2 ▸ hf
    simpa using (List.mem_filter.mp hf').2
  · rw [hy2] at hf
    simpa using (List.mem_filter.mp hf).2

/-- The channel that has given up a range's cells until the sweep has rebuilt its free list. -/
def Chan.rangeLost (c : Chan) (cls : Nat) (range : Option (Port × Nat)) : Chan :=
  let d := (c.flushWhere .x (c.inRange .x cls range)).flushWhere .y (c.inRange .y cls range)
  { d with
    qm := { d.qm with
      eccUe := inc 8 d.qm.eccUe
      ranges := d.qm.ranges.map (fun (r : Range) =>
        if r.cls == cls && r.level == range then { r with rebuilding := true, free := 0 } else r) } }

/-- Settles O43: claims in parts, the digests of the other channels, heartbeats and other data on the lane, then a queue range. -/
theorem laneClaimsBeatsAndQueues : Obligations.LaneClaimsBeatsAndQueues := by
  unfold Obligations.LaneClaimsBeatsAndQueues
  refine ⟨fun s ch f hh horg => ?_, fun s ch frm l number claimant digest hn hl ht => ?_, fun s ch f hh horg => ?_,
    fun s ch f hh horg => ?_, fun s ch cls range r hl hr => ?_⟩
  · intro c w fab d whole
    have hexec := exec_claim hh horg
    have hpart (ha : c.addressed f = true) : exec (.claim ch f) s = .next (s.put ch (c.takePart ch f)) :=
      hexec.trans (congrArg (fun x => Host.Outcome.next (s.put ch x)) (if_pos ha))
    have hread (bytes : List Byte) (hw : whole = some bytes) (x : Option ClaimBlock) (hx : Config.claimOf ch bytes = x) :
        (x = none → c.takePart ch f = d) ∧
          ∀ k, x = some k → c.takePart ch f = if d.acceptsClaim k then d.holdClaim ch k else d := by
      subst hx
      refine ⟨fun h => ?_, fun k h => ?_⟩
      · rw [Chan.takePart, show c.wholeClaim f = some bytes from hw]
        dsimp only
        rw [h]
        rfl
      · rw [Chan.takePart, show c.wholeClaim f = some bytes from hw]
        dsimp only
        rw [h]
        rfl
    refine ⟨fun ha => ?_, fun ha hw => ?_, fun bytes ha hw hk => ?_, fun bytes k ha hw hk => ?_⟩
    · exact hexec.trans (congrArg (fun x => Host.Outcome.next (s.put ch x))
        (if_neg (fun h => absurd (h.symm.trans ha) (by decide))))
    · rw [hpart ha, Chan.takePart, show c.wholeClaim f = none from hw]
      rfl
    · rw [hpart ha, (hread bytes hw _ hk).1 rfl]
    · have htake := (hread bytes hw _ hk).2 k rfl
      obtain ⟨hfab, hvotes⟩ := d.holding_fab ch k
      have hheld : (d.holding ch k).fab.held = some k := by rw [hfab]
      have haccept (hu : c.boot.unprog = true) (hs : c.split = false) (hc : c.certOk k = true) (hsg : claimSigned k = true)
          (hcm : c.frt.complete = true) (htp : k.topology = c.frt.digest)
          (hle : ∀ h, c.fab.held = some h → h.number.toNat ≤ k.number.toNat) :
          exec (.claim ch f) s = .next (s.put ch ((d.holding ch k).tryClaim ch)) := by
        rw [hpart ha, htake, if_pos ((d.acceptsClaim_iff k).mpr ⟨hu, hs, hc, hsg, hcm, htp, hle⟩), Chan.holdClaim_eq]
      refine ⟨fun h => ?_, fun hu hs hc hsg hcm htp hle => ?_, fun x hu hs hc hsg hcm htp hle hv hx hd => ?_,
        fun hu hs hc hsg hcm htp hle hv hall hnew => ?_⟩
      · rw [hpart ha, htake, if_neg]
        intro hacc
        obtain ⟨hu, hs, hc, hsg, hcm, htp, hle⟩ := (d.acceptsClaim_iff k).mp hacc
        rcases h with h | h | h | h | h | h | ⟨q, hq, hlt⟩
        · exact absurd (hu.symm.trans h) (by decide)
        · exact absurd (hs.symm.trans h) (by decide)
        · exact absurd (hc.symm.trans h) (by decide)
        · exact absurd (hsg.symm.trans h) (by decide)
        · exact absurd (hcm.symm.trans h) (by decide)
        · exact h htp
        · exact absurd (hle q hq) (Nat.not_le.mpr hlt)
      · obtain ⟨h1, h2, h3⟩ := (d.holding ch k).tryClaim_keeps ch
        refine ⟨_, haccept hu hs hc hsg hcm htp hle, .put _ _ _, ?_⟩
        rw [State.put_ch, h1, h2, h3, hfab]
        exact ⟨rfl, Tri.get_set_self _ _ _, Chan.xsendBoth_reaches ch hs rfl⟩
      · refine ⟨_, haccept hu hs hc hsg hcm htp hle, ?_⟩
        rw [State.put_ch, Chan.tryClaim_waits hheld (Chan.allHold_of_not ((hvotes x).trans hv) hx ?_), hfab]
        · exact ⟨rfl, rfl⟩
        · rw [hfab]
          dsimp only
          rw [Tri.get_set_ne _ _ hx]
          exact hd
      · refine ⟨_, haccept hu hs hc hsg hcm htp hle, ?_⟩
        rw [State.put_ch]
        refine Chan.tryClaim_applies hheld (Chan.allHold_of ((hvotes ch).trans hv) fun x hx => ?_) (by rw [hfab]; exact hnew)
        by_cases he : x = ch
        · exact .inl he
        · rw [hfab]
          dsimp only
          rw [Tri.get_set_ne _ _ he]
          exact hall x ((hvotes x).symm.trans hx)
  · intro c d
    have hexec : exec (.claimTransfer ch frm l number claimant digest) s = .next (s.put ch (d.tryClaim ch)) := by
      show execClaimTransfer ch frm l number claimant digest s = _
      rw [execClaimTransfer, State.taken_of_takes _ hn hl ht]
    refine ⟨fun h => ?_, fun k x hk hv hx hd => ?_, fun k hk hv hc hall => ?_⟩
    · rw [hexec, Chan.tryClaim_none ch h]
    · rw [hexec, Chan.tryClaim_waits hk (Chan.allHold_of_not hv hx hd)]
    · refine ⟨_, hexec, .put _ _ _, ?_⟩
      rw [State.put_ch]
      exact Chan.tryClaim_applies hk (Chan.allHold_of hv hall) (.inl hc)
  · intro b c d
    have hexec : exec (.heartbeatFrame ch f) s = .next (s.put ch (d.takeBeat s.factory.variant .lane b)) :=
      exec_heartbeatFrame hh horg
    refine ⟨fun h => ?_, fun hb hnode hr => ?_, fun hb hf hp hs => ?_, fun hb hf hp hs hr hc => ?_, fun hb hf hp hs h => ?_⟩
    · rw [hexec]
      rcases h with h | ⟨-, h⟩ | ⟨-, hf, h⟩
      · rw [Chan.takeBeat_silent _ _ _ h]
      · rw [Chan.takeBeat_elsewhere _ h]
      · rw [Chan.takeBeat_refused _ hf h]
    · refine ⟨_, hexec, .put _ _ _, ?_⟩
      rw [State.put_ch]
      exact Chan.takeBeat_paired _ hb (by simp [Chan.fromPartner, hnode, hr]) (.inr hnode)
    · obtain ⟨h1, h2, h3, -, h5⟩ := Chan.takeBeat_notes s.factory.variant hb hf hp hs
      refine ⟨_, hexec, .put _ _ _, ?_⟩
      rw [State.put_ch]
      exact ⟨(h5 rfl).1, (h5 rfl).2, h3, h1, h2⟩
    · refine ⟨_, hexec, ?_⟩
      rw [State.put_ch]
      exact Chan.takeBeat_demotes s.factory.variant hb hf hp hs hr hc
    · refine ⟨_, hexec, ?_⟩
      rw [State.put_ch]
      exact Chan.takeBeat_keeps s.factory.variant hb hf hp hs h
  · intro c
    have hexec : exec (.nonvital ch f) s = .next (s.put ch (if c.addressed f then
        { c with fab := { c.fab with nonvital := c.fab.nonvital ++ [(f.origin, f.payload)] } } else c)) := by
      show execNonvital ch f s = _
      unfold execNonvital
      dsimp only
      rw [State.onLive_eq _ (live_of_hears hh), Chan.hearRelay_of_hears hh horg]
      rfl
    exact ⟨fun ha => hexec.trans (congrArg (fun x => Host.Outcome.next (s.put ch x)) (if_pos ha)),
      fun ha => hexec.trans (congrArg (fun x => Host.Outcome.next (s.put ch x))
        (if_neg (fun h => absurd (h.symm.trans ha) (by decide))))⟩
  · intro c
    refine ⟨?_, fun hb => ?_, fun hb => ?_⟩
    · have hexec : exec (.queueLinkError ch cls range) s = .next (s.put ch (c.rangeLost cls range)) := by
        show execQueueLinkError ch cls range s = _
        rw [execQueueLinkError, State.onLive_eq _ hl]
        exact congrArg (fun x => Host.Outcome.next (s.put ch x))
          (if_pos (by rw [show (s.ch ch).qm.range cls range = some r from hr]; rfl))
      obtain ⟨hx, hy⟩ := c.flushedRange_queues (c.inRange .x cls range) (c.inRange .y cls range)
      refine ⟨_, hexec, .put _ _ _, ?_⟩
      rw [State.put_ch]
      refine ⟨fun p => ?_, fun e he hc hv => ?_, ?_⟩
      · cases p with
        | x => exact hx
        | y => exact hy
      · obtain ⟨q, -, hq⟩ := List.mem_map.mp he
        split at hq
        · rw [← hq]
          exact ⟨rfl, rfl⟩
        · next hne =>
          rw [← hq] at hc hv
          exact absurd (by rw [hc, hv]; simp) hne
      · exact congrArg (inc 8) ((Chan.flushWhere_eccUe _ _ _).trans (c.flushWhere_eccUe _ _))
    · show execQueueRangeRebuild ch cls range s = _
      rw [execQueueRangeRebuild, State.onLive_eq _ hl]
      dsimp only
      rw [hr]
      dsimp only
      rw [if_pos hb]
    · refine congrArg Host.Outcome.next (State.onLive_same ?_)
      dsimp only
      rw [hr]
      exact if_neg (by rw [hb]; decide)

end Sys2Proof.Machine

/-! PROOFS. Vital messages on the lane (spec/10 R268 to R271, R281): their checks, and what is kept of them. -/

namespace Sys2Proof.Machine

open Sys2Proof

/-! ### The checks (R270) -/

section

variable {c : Chan} {me : Ch} {event : Bool} {m : VMsg}

/-- The connections of a class under whose key the message's CODE checks. -/
def Chan.keyed (c : Chan) (me : Ch) (event : Bool) (m : VMsg) : List (Nat × Conn) :=
  (c.inboundOf event).filter (fun e => codeOk me e.2 m)

theorem Chan.checkMessage_code (h : c.keyed me event m = []) :
    c.checkMessage me event m = ({ c with fab := { c.fab with codeErr := inc 16 c.fab.codeErr } }, none) := by
  rw [Chan.keyed] at h
  rw [Chan.checkMessage, h]

theorem Chan.checkMessage_ends (h : c.keyed me event m ≠ [])
    (hn : (c.keyed me event m).find? (fun e => e.2.dst == m.dst && e.2.src == m.src) = none) :
    c.checkMessage me event m = (c.rxError, none) := by
  rw [Chan.keyed] at h hn
  unfold Chan.checkMessage
  split
  · next h0 => exact absurd h0 h
  · rw [hn]

theorem Chan.checkMessage_some {e : Nat × Conn}
    (he : (c.keyed me event m).find? (fun e => e.2.dst == m.dst && e.2.src == m.src) = some e) :
    c.checkMessage me event m = (c, some e) := by
  rw [Chan.keyed] at he
  unfold Chan.checkMessage
  split
  · next h0 =>
    rw [h0] at he
    exact absurd he (by simp)
  · rw [he]

end

/-! ### Messages taken (R270, R271) -/

/-- SEQ is later than the last of its connection. -/
def Chan.Later (c : Chan) (k : Nat) (m : VMsg) : Prop :=
  (c.fab.rxOf k).seq = none ∨ ∃ n, (c.fab.rxOf k).seq = some n ∧ n < m.seq

section

variable {c : Chan} {k : Nat} {m : VMsg}

theorem Chan.takeCyclic_later (h : c.Later k m) :
    c.takeCyclic k m =
      { c with fab := { c.fab with rx := tabPut c.fab.rx k { seq := some m.seq, ts := m.ts, data := m.data } } } := by
  unfold Chan.takeCyclic
  rcases h with h | ⟨n, h, hn⟩
  · simp [h]
  · simp [h, hn]

theorem Chan.takeCyclic_old {n : Nat} (h : (c.fab.rxOf k).seq = some n) (hn : m.seq ≤ n) : c.takeCyclic k m = c := by
  simp [Chan.takeCyclic, h, Nat.not_lt.mpr hn]

theorem Chan.takeEventMsg_later (kind : EventKind) (h : c.Later k m) :
    (c.takeEventMsg k kind m).fab.rx = tabPut c.fab.rx k { seq := some m.seq, ts := m.ts, data := m.data } ∧
      (c.takeEventMsg k kind m).fab.events = c.fab.events ++ [{ conn := k, seq := m.seq, kind := kind, data := m.data }] ∧
      (c.takeEventMsg k kind m).fab.rxErr =
        (if ((c.fab.rxOf k).seq.map (fun n => decide (n + 1 < m.seq))) = some true then inc 16 c.fab.rxErr
          else c.fab.rxErr) := by
  unfold Chan.takeEventMsg
  rcases h with h | ⟨n, h, hn⟩
  · simp [h]
  · by_cases hg : n + 1 < m.seq
    · simp [h, hn, hg, Chan.rxError]
    · simp [h, hn, hg]

theorem Chan.takeEventMsg_old {n : Nat} (kind : EventKind) (h : (c.fab.rxOf k).seq = some n) (hn : m.seq ≤ n) :
    c.takeEventMsg k kind m = c := by
  simp [Chan.takeEventMsg, h, Nat.not_lt.mpr hn]

end

/-! ### The rows -/

/-- A vital frame is for this unit to read (R180, R261, R298). -/
def Chan.reads (c : Chan) (f : FrameRx) : Bool := !c.split && c.addressed f && c.holdsClaim && c.fromHolder f

theorem Chan.reads_iff (c : Chan) (f : FrameRx) :
    c.reads f = true ↔ c.split = false ∧ c.addressed f = true ∧ c.holdsClaim = true ∧ c.fromHolder f = true := by
  simp [Chan.reads, and_assoc]

/-- What a channel does with a vital message: its checks, and what a message that passes them leaves. -/
def Chan.checked (c : Chan) (me : Ch) (f : FrameRx) (event : Bool) (act : Chan → Nat → VMsg → Chan) : Chan :=
  match c.checkMessage me event (vmsgOf f.payload) with
  | (d, some (k, _)) => act d k (vmsgOf f.payload)
  | (d, none) => d

section

variable {s : State} {ch : Ch} {f : FrameRx} {kind : Nat}

theorem Chan.hearVital_of_hears {c : Chan} (hh : c.HearsFrame ch f kind) (ho : f.origin ≠ c.nodeKey) :
    c.hearVital ch f kind = ((c.heardFrame f).relay f, ((c.heardFrame f).relay f).reads f) := by
  unfold Chan.hearVital
  rw [Chan.hearRelay_of_hears hh ho]
  rfl

theorem exec_vitalData (hh : (s.ch ch).HearsFrame ch f 0x10) (ho : f.origin ≠ (s.ch ch).nodeKey) :
    exec (.vitalData ch f) s = .next (s.put ch
      (if (((s.ch ch).heardFrame f).relay f).reads f then
        (((s.ch ch).heardFrame f).relay f).checked ch f false (fun d k m => d.takeCyclic k m)
        else ((s.ch ch).heardFrame f).relay f)) := by
  show execVitalData ch f s = _
  unfold execVitalData
  dsimp only
  rw [State.onLive_eq _ (live_of_hears hh), Chan.hearVital_of_hears hh ho]
  rfl

theorem State.eventFrame_of_hears {ek : EventKind} (hh : (s.ch ch).HearsFrame ch f kind) (ho : f.origin ≠ (s.ch ch).nodeKey) :
    s.eventFrame ch f kind ek = s.put ch
      (if (((s.ch ch).heardFrame f).relay f).reads f then
        (((s.ch ch).heardFrame f).relay f).checked ch f true (fun d k m => d.takeEventMsg k ek m)
        else ((s.ch ch).heardFrame f).relay f) := by
  unfold State.eventFrame
  dsimp only
  rw [State.onLive_eq _ (live_of_hears hh), Chan.hearVital_of_hears hh ho]
  rfl

/-- The rows of event frames, each with its kind. -/
theorem exec_eventFrame {i : Instr} {ek : EventKind}
    (hi : (i, kind, ek) ∈
      [(Instr.reserve ch f, 0x11, EventKind.reserve), (Instr.grant ch f, 0x12, EventKind.grant),
        (Instr.refuse ch f, 0x13, EventKind.refuse), (Instr.unreserve ch f, 0x14, EventKind.unreserve),
        (Instr.releaseAll ch f, 0x15, EventKind.releaseAll), (Instr.report ch f, 0x16, EventKind.other)]) :
    exec i s = .next (s.eventFrame ch f kind ek) := by
  simp only [List.mem_cons, List.not_mem_nil, or_false, Prod.mk.injEq] at hi
  rcases hi with ⟨rfl, rfl, rfl⟩ | ⟨rfl, rfl, rfl⟩ | ⟨rfl, rfl, rfl⟩ | ⟨rfl, rfl, rfl⟩ | ⟨rfl, rfl, rfl⟩ | ⟨rfl, rfl, rfl⟩
  all_goals rfl

end

/-- Settles O44: cyclic messages, then the kinds of event messages together. -/
theorem messagesAreChecked : Obligations.MessagesAreChecked := by
  unfold Obligations.MessagesAreChecked
  intro s ch f horg c forUs m codeErr rxErr
  have hfor : c.reads f = true ↔ forUs := c.reads_iff f
  refine ⟨fun hh => ?_, fun i kind ek hi hh => ?_⟩
  · intro es mine
    have hexec := exec_vitalData hh horg
    have hact (hu : forUs) {d : Chan} (h : c.checked ch f false (fun d k m => d.takeCyclic k m) = d) :
        exec (.vitalData ch f) s = .next (s.put ch d) :=
      hexec.trans (congrArg (fun x => Host.Outcome.next (s.put ch x)) ((if_pos (hfor.mpr hu)).trans h))
    refine ⟨fun hu => ?_, fun hu he => hact hu ?_, fun hu he hn => hact hu ?_, fun k d hu hm hl => hact hu ?_,
      fun k d n hu hm hs hn => hact hu ?_⟩
    · exact hexec.trans (congrArg (fun x => Host.Outcome.next (s.put ch x)) (if_neg (fun h => hu (hfor.mp h))))
    · rw [Chan.checked, Chan.checkMessage_code (c := c) he]
    · rw [Chan.checked, Chan.checkMessage_ends (c := c) he hn]
      rfl
    · rw [Chan.checked, Chan.checkMessage_some (c := c) hm]
      exact Chan.takeCyclic_later hl
    · rw [Chan.checked, Chan.checkMessage_some (c := c) hm]
      exact Chan.takeCyclic_old hs hn
  · intro es mine
    have hexec : exec i s = .next (s.put ch
        (if c.reads f then c.checked ch f true (fun d k m => d.takeEventMsg k ek m) else c)) := by
      rw [exec_eventFrame hi, State.eventFrame_of_hears hh horg]
    have hact (hu : forUs) {d : Chan} (h : c.checked ch f true (fun d k m => d.takeEventMsg k ek m) = d) :
        exec i s = .next (s.put ch d) :=
      hexec.trans (congrArg (fun x => Host.Outcome.next (s.put ch x)) ((if_pos (hfor.mpr hu)).trans h))
    refine ⟨fun hu => ?_, fun hu he => hact hu ?_, fun hu he hn => hact hu ?_, fun k d hu hm hl => ?_,
      fun k d n hu hm hs hn => hact hu ?_⟩
    · exact hexec.trans (congrArg (fun x => Host.Outcome.next (s.put ch x)) (if_neg (fun h => hu (hfor.mp h))))
    · rw [Chan.checked, Chan.checkMessage_code (c := c) he]
    · rw [Chan.checked, Chan.checkMessage_ends (c := c) he hn]
      rfl
    · refine ⟨_, hact hu (d := c.takeEventMsg k ek m) ?_, .put _ _ _, ?_⟩
      · rw [Chan.checked, Chan.checkMessage_some (c := c) hm]
      · rw [State.put_ch]
        exact Chan.takeEventMsg_later ek hl
    · rw [Chan.checked, Chan.checkMessage_some (c := c) hm]
      exact Chan.takeEventMsg_old ek hs hn

end Sys2Proof.Machine

/-! PROOFS. The partner module watched (spec/11 R302 to R304, R310, R311, R315): heartbeat points, misses, the agreement on the
partner, and a takeover. -/

namespace Sys2Proof.Machine

open Sys2Proof

/-! ### Transfers begun on the partner link (R301) -/

theorem Chan.psend_first (c : Chan) {msg : PMsg} (h : msg.rank ≤ 1) : c.psend msg = c.pput msg := if_pos h

/-- A channel but for its frame queues, its recorder, and the partner link's transfers begun. -/
def Chan.besideBeats (c : Chan) : Chan := { c.besideQueues with pout := [], part := { c.part with txSeq := 0 } }

theorem Chan.pput_besideBeats (c : Chan) (msg : PMsg) : (c.pput msg).besideBeats = c.besideBeats := rfl

theorem Chan.besideBeats_of_queues {c d : Chan} (h : d.besideQueues = c.besideQueues) : d.besideBeats = c.besideBeats :=
  (congrArg (fun (x : Chan) => ({ x with pout := [], part := { x.part with txSeq := 0 } } : Chan)) h :)

/-- REQ 2 begun for each of a list of transfers. -/
def Chan.askFor (c : Chan) (ns : List Nat) : Chan := ns.foldl (fun c n => c.psend (.req 2 n)) c

theorem Chan.askFor_besideBeats (c : Chan) (ns : List Nat) : (c.askFor ns).besideBeats = c.besideBeats :=
  foldl_view (g := Chan.besideBeats) (fun c n => by rw [c.psend_first (show PMsg.rank (.req 2 n) ≤ 1 from Nat.le_refl 1)]; rfl) ns c

theorem Chan.askFor_sent (c : Chan) (ns : List Nat) :
    (∀ q ∈ c.pout, q ∈ (c.askFor ns).pout) ∧ ∀ n ∈ ns, ∃ q ∈ (c.askFor ns).pout, q.2 = .req 2 n := by
  induction ns generalizing c with
  | nil => exact ⟨fun _ h => h, fun _ h => absurd h (by simp)⟩
  | cons k ns ih =>
    obtain ⟨h1, h2⟩ := ih (c.psend (.req 2 k))
    have hk : (c.psend (.req 2 k)).pout = c.pout ++ [(c.part.txSeq, .req 2 k)] := by
      rw [c.psend_first (show PMsg.rank (.req 2 k) ≤ 1 from Nat.le_refl 1)]
      rfl
    rw [hk] at h1
    refine ⟨fun q hq => h1 q (List.mem_append_left _ hq), fun n hn => ?_⟩
    rcases List.mem_cons.mp hn with rfl | hn
    · exact ⟨_, h1 _ (List.mem_append_right _ (List.mem_singleton.mpr rfl)), rfl⟩
    · exact h2 n hn

/-! ### Heartbeat points (R302, R304, R310) -/

/-- The channel with its heartbeat begun on the partner link. -/
theorem Chan.sendBeat_leaves (c : Chan) (me : Ch) (ready : Bool) :
    (c.sendBeat me ready).besideBeats = ({ c with part := { c.part with hbSeq := c.part.hbSeq + 1 } } : Chan).besideBeats ∧
      (c.boot.phase = 6 ∨ c.votes me = true →
        (c.part.txSeq, PMsg.heartbeat (c.beat me ready)) ∈ (c.sendBeat me ready).pout) := by
  unfold Chan.sendBeat
  extract_lets b d e p
  have hd : d.besideBeats = c.besideBeats := by
    dsimp only [d]
    split
    · rw [c.psend_first (show PMsg.rank (.heartbeat b) ≤ 1 from Nat.zero_le 1), Chan.pput_besideBeats]
    · rfl
  have he : e.besideQueues = d.besideQueues := by
    dsimp only [e]
    split
    · exact d.sendManagement_besideQueues _ _
    · rfl
  refine ⟨(congrArg (fun (x : Chan) => ({ x with part := { x.part with hbSeq := x.part.hbSeq + 1 } } : Chan))
    ((Chan.besideBeats_of_queues he).trans hd) :), fun h => ?_⟩
  have hpout : e.pout = d.pout := (congrArg (fun (x : Chan) => x.pout) he :)
  show _ ∈ e.pout
  rw [hpout]
  dsimp only [d]
  rw [if_pos (by simpa using h), c.psend_first (show PMsg.rank (.heartbeat b) ≤ 1 from Nat.zero_le 1)]
  exact List.mem_append_right _ (List.mem_singleton.mpr rfl)

/-- The channel at its next heartbeat point: its partner set formed. -/
def Chan.atBeat (c : Chan) (me : Ch) : Chan :=
  let offset := c.part.instant * c.hbPeriodUs
  { c with
    part := { c.part with instant := c.part.instant + 1 }
    din := { c.din with partSets := c.din.partSets.set me (some (c.partnerSet me offset (c.readyFor offset))) } }

/-- A heartbeat point: the heartbeat, the partner set to both partners, and what is asked for again. -/
def Chan.beatPoint (c : Chan) (me : Ch) : Chan :=
  let offset := c.part.instant * c.hbPeriodUs
  (((c.atBeat me).sendBeat me (c.readyFor offset)).xsendBoth me
    (.vote (.partner (c.partnerSet me offset (c.readyFor offset))))).askTransfers

theorem Chan.askTransfers_leaves (c : Chan) :
    c.askTransfers.besideBeats = ({ c with part := { c.part with asked := c.askTransfers.part.asked } } : Chan).besideBeats ∧
      (∀ q ∈ c.pout, q ∈ c.askTransfers.pout) ∧
      ∀ n, c.part.role = 2 → n ∈ c.part.refused → n ∉ c.part.asked →
        n ∈ c.askTransfers.part.asked ∧ ∃ q ∈ c.askTransfers.pout, q.2 = .req 2 n := by
  by_cases hr : c.part.role = 2
  · have heq : c.askTransfers = ({ c with part := { c.part with
        asked := c.part.asked ++ c.part.refused.filter (fun n => !c.part.asked.contains n) } } : Chan).askFor
          (c.part.refused.filter (fun n => !c.part.asked.contains n)) := if_pos (beq_iff_eq.mpr hr)
    rw [heq]
    generalize hns : c.part.refused.filter (fun n => !c.part.asked.contains n) = ns
    have hb := Chan.askFor_besideBeats { c with part := { c.part with asked := c.part.asked ++ ns } } ns
    obtain ⟨h1, h2⟩ := Chan.askFor_sent { c with part := { c.part with asked := c.part.asked ++ ns } } ns
    have hasked : (Chan.askFor { c with part := { c.part with asked := c.part.asked ++ ns } } ns).part.asked = c.part.asked ++ ns :=
      (congrArg (fun (x : Chan) => x.part.asked) hb :)
    rw [hasked]
    refine ⟨hb, h1, fun n _ hn hna => ?_⟩
    have hmem : n ∈ ns := by
      rw [← hns]
      exact List.mem_filter.mpr ⟨hn, by simpa using hna⟩
    exact ⟨List.mem_append_right _ hmem, h2 n hmem⟩
  · have heq : c.askTransfers = c := if_neg (by simpa using hr)
    rw [heq]
    exact ⟨rfl, fun _ h => h, fun n h => absurd h hr⟩

theorem Chan.beatPoint_leaves {c : Chan} (me : Ch) (hs : c.split = false) :
    (c.beatPoint me).part.instant = c.part.instant + 1 ∧ (c.beatPoint me).part.hbSeq = c.part.hbSeq + 1 ∧
      (c.beatPoint me).part.role = c.part.role ∧ (c.beatPoint me).part.loop = c.part.loop ∧
      (c.beatPoint me).din.partSets.get me =
        some (c.partnerSet me (c.part.instant * c.hbPeriodUs) (c.readyFor (c.part.instant * c.hbPeriodUs))) ∧
      (∃ q ∈ (c.beatPoint me).xout, q.dst = me.next ∧ q.msg = .vote (.partner
        (c.partnerSet me (c.part.instant * c.hbPeriodUs) (c.readyFor (c.part.instant * c.hbPeriodUs))))) ∧
      (∃ q ∈ (c.beatPoint me).xout, q.dst = me.prev ∧ q.msg = .vote (.partner
        (c.partnerSet me (c.part.instant * c.hbPeriodUs) (c.readyFor (c.part.instant * c.hbPeriodUs))))) ∧
      (c.boot.phase = 6 ∨ c.votes me = true →
        (c.part.txSeq, PMsg.heartbeat ((c.atBeat me).beat me (c.readyFor (c.part.instant * c.hbPeriodUs)))) ∈
          (c.beatPoint me).pout) ∧
      ∀ n, c.part.role = 2 → n ∈ c.part.refused → n ∉ c.part.asked →
        n ∈ (c.beatPoint me).part.asked ∧ ∃ q ∈ (c.beatPoint me).pout, q.2 = .req 2 n := by
  unfold Chan.beatPoint
  extract_lets offset
  obtain ⟨hb, hsent⟩ := (c.atBeat me).sendBeat_leaves me (c.readyFor offset)
  generalize hd : (c.atBeat me).sendBeat me (c.readyFor offset) = d at hb hsent
  have hds : d.split = false := (congrArg (fun (x : Chan) => x.split) hb :).trans hs
  obtain ⟨hnext, hprev⟩ := Chan.xsendBoth_reaches me hds (msg := .vote (.partner (c.partnerSet me offset (c.readyFor offset)))) rfl
  have hpart : (d.xsendBoth me (.vote (.partner (c.partnerSet me offset (c.readyFor offset))))).part = d.part := by simp
  have hdin : (d.xsendBoth me (.vote (.partner (c.partnerSet me offset (c.readyFor offset))))).din = d.din := by simp
  have hpout : (d.xsendBoth me (.vote (.partner (c.partnerSet me offset (c.readyFor offset))))).pout = d.pout := by simp
  generalize d.xsendBoth me (.vote (.partner (c.partnerSet me offset (c.readyFor offset)))) = e at *
  obtain ⟨hask, hkept, hreq⟩ := e.askTransfers_leaves
  have hrole : e.part.role = c.part.role := by
    rw [hpart]
    exact (congrArg (fun (x : Chan) => x.part.role) hb :)
  have hrefused : e.part.refused = c.part.refused := by
    rw [hpart]
    exact (congrArg (fun (x : Chan) => x.part.refused) hb :)
  have hasked : e.part.asked = c.part.asked := by
    rw [hpart]
    exact (congrArg (fun (x : Chan) => x.part.asked) hb :)
  have hxout : e.askTransfers.xout = e.xout := (congrArg (fun (x : Chan) => x.xout) hask :)
  refine ⟨?_, ?_, ?_, ?_, ?_, ?_, ?_, fun h => hkept _ (by rw [hpout]; exact hsent h), fun n hr hn ha => ?_⟩
  · exact (congrArg (fun (x : Chan) => x.part.instant) hask :).trans
      ((congrArg Part.instant hpart).trans (congrArg (fun (x : Chan) => x.part.instant) hb :))
  · exact (congrArg (fun (x : Chan) => x.part.hbSeq) hask :).trans
      ((congrArg Part.hbSeq hpart).trans (congrArg (fun (x : Chan) => x.part.hbSeq) hb :))
  · exact (congrArg (fun (x : Chan) => x.part.role) hask :).trans hrole
  · exact (congrArg (fun (x : Chan) => x.part.loop) hask :).trans
      ((congrArg Part.loop hpart).trans (congrArg (fun (x : Chan) => x.part.loop) hb :))
  · have hsets : e.askTransfers.din.partSets = (c.atBeat me).din.partSets :=
      (congrArg (fun (x : Chan) => x.din.partSets) hask :).trans
        ((congrArg Din.partSets hdin).trans (congrArg (fun (x : Chan) => x.din.partSets) hb :))
    rw [hsets]
    exact Tri.get_set_self _ _ _
  · rw [hxout]
    exact hnext
  · rw [hxout]
    exact hprev
  · exact hreq n (hrole.trans hr) (hrefused ▸ hn) (hasked ▸ ha)

/-! ### A takeover (R110, R311 to R313) -/

/-- What a takeover is judged by: the partner block, the non-volatile memory, and the point in time. -/
def Chan.unitView (c : Chan) : Part × Nv × Bool × Din × Nat := (c.part, c.nv, c.released, c.din, c.mainCycle)

theorem Chan.unitView_of_queues {c d : Chan} (h : d.besideQueues = c.besideQueues) : d.unitView = c.unitView :=
  (congrArg Chan.unitView h :)

theorem Chan.sendClaim_unitView (c : Chan) (me : Ch) : (c.sendClaim me).unitView = c.unitView :=
  (Chan.unitView_of_queues (c.sendClaim_besideQueues me)).trans rfl

theorem Chan.reissueAll_unitView (c : Chan) (me : Ch) : (c.reissueAll me).unitView = c.unitView := by
  unfold Chan.reissueAll
  refine foldl_view (g := Chan.unitView) (fun c t => ?_) _ c
  split
  · unfold Chan.reissue
    dsimp only
    split
    · rfl
    · exact (congrArg Chan.unitView (c.issue_writes _ _ _ _ _ _).beside :)
  · rfl

theorem Chan.stampStates_unitView (c : Chan) (v : Variant) (gen : Nat) : (c.stampStates v gen).unitView = c.unitView := by
  obtain ⟨m, ts, h, -⟩ := c.stampStates_eq v gen
  rw [h]
  rfl

/-- What discarding runs leaves of what a takeover enters the active role with. -/
theorem Chan.discardRuns_leaves (c : Chan) (v : Variant) :
    (c.discardRuns v).part = c.part ∧ (c.discardRuns v).nv.eSeen = c.nv.eSeen ∧
      (c.discardRuns v).nv.takeoverCnt = c.nv.takeoverCnt ∧ (c.discardRuns v).rank = c.rank ∧
      (c.discardRuns v).released = c.released ∧ (c.discardRuns v).din = c.din ∧
      (c.discardRuns v).mainCycle = c.mainCycle := by
  unfold Chan.discardRuns
  split
  · exact ⟨rfl, rfl, rfl, rfl, rfl, rfl, rfl⟩
  · exact ⟨rfl, rfl, rfl, rfl, rfl, rfl, rfl⟩

/-- What a takeover leaves. -/
theorem Chan.takeOver_leaves (c : Chan) (me : Ch) (v : Variant) :
    (c.takeOver me v).part.role = 1 ∧ (c.takeOver me v).nv.eSeen = (c.nv.eSeen + 1) % 65536 ∧
      (c.takeOver me v).part.claim = w32 ((c.nv.eSeen + 1) % 65536 % 65536 * 65536 + c.rank) ∧
      (c.takeOver me v).part.sync = 0 ∧ (c.takeOver me v).part.backlog = [] ∧
      (c.takeOver me v).nv.takeoverCnt = inc 8 c.nv.takeoverCnt ∧ (c.takeOver me v).released = c.released ∧
      (c.takeOver me v).din = c.din ∧ (c.takeOver me v).mainCycle = c.mainCycle := by
  unfold Chan.takeOver
  extract_lets behind level d nv e f part g r h k
  have hd : d.part = c.part ∧ d.nv.eSeen = c.nv.eSeen ∧ d.nv.takeoverCnt = c.nv.takeoverCnt ∧ d.rank = c.rank ∧
      d.released = c.released ∧ d.din = c.din ∧ d.mainCycle = c.mainCycle := by
    dsimp only [d]
    split
    · exact c.discardRuns_leaves v
    · exact ⟨rfl, rfl, rfl, rfl, rfl, rfl, rfl⟩
  obtain ⟨-, h1, h2, h3, h4, h5, h6⟩ := hd
  have hg : g.part.role = 1 ∧ g.nv.eSeen = (d.nv.eSeen + 1) % 65536 ∧
      g.part.claim = w32 ((d.nv.eSeen + 1) % 65536 % 65536 * 65536 + d.rank) ∧ g.part.sync = 0 ∧ g.part.backlog = [] ∧
      g.nv.takeoverCnt = inc 8 d.nv.takeoverCnt ∧ g.released = d.released ∧ g.din = d.din ∧ g.mainCycle = d.mainCycle := by
    dsimp only [g, part, f]
    rw [Chan.enterActive]
    dsimp only
    rw [Chan.emit_eq]
    exact ⟨rfl, rfl, rfl, rfl, rfl, rfl, rfl, rfl, rfl⟩
  rw [h1, h2, h3, h4, h5, h6] at hg
  have hview {x : Chan} (h : x.unitView = g.unitView) : x.part.role = 1 ∧ x.nv.eSeen = (c.nv.eSeen + 1) % 65536 ∧
      x.part.claim = w32 ((c.nv.eSeen + 1) % 65536 % 65536 * 65536 + c.rank) ∧ x.part.sync = 0 ∧ x.part.backlog = [] ∧
      x.nv.takeoverCnt = inc 8 c.nv.takeoverCnt ∧ x.released = c.released ∧ x.din = c.din ∧ x.mainCycle = c.mainCycle := by
    rw [show x.part = g.part from congrArg (fun u => u.1) h, show x.nv = g.nv from congrArg (fun u => u.2.1) h,
      show x.released = g.released from congrArg (fun u => u.2.2.1) h, show x.din = g.din from congrArg (fun u => u.2.2.2.1) h,
      show x.mainCycle = g.mainCycle from congrArg (fun u => u.2.2.2.2) h]
    exact hg
  split
  · exact hview ((Chan.sendClaim_unitView _ me).trans (Chan.reissueAll_unitView _ me))
  · exact hview ((Chan.sendClaim_unitView _ me).trans ((Chan.stampStates_unitView _ v _).trans
      (congrArg Chan.unitView (Chan.startImage_besideImage g.forgetRuns v) :)))

/-! ### The agreement on the partner (R299, R304, R311, R315) -/

/-- What the channels consolidate of the partner. -/
def Chan.partnerLost (c : Chan) (me : Ch) : Bool := (takeValue ((c.countedPartner me).map (fun k => k.lost)) false).1

def Chan.partnerHigher (c : Chan) (me : Ch) : Bool :=
  (takeValue ((c.countedPartner me).map (fun k => k.higher)) Config.higherUnmatched).1

def Chan.partnerReady (c : Chan) (me : Ch) : Bool := (takeValue ((c.countedPartner me).map (fun k => k.swReady)) false).1

/-- The loss of the partner noted. -/
def Chan.noteLost (c : Chan) (lost : Bool) : Chan := { c with part := { c.part with lostCons := lost } }

/-- What a unit does with its consolidated partner sets. -/
def State.settlePartner (s : State) (ch : Ch) (own : PartnerSet) : State :=
  let lost := (s.ch ch).partnerLost ch
  if (s.ch ch).part.role == 2 then
    let t := s.put ch { (s.ch ch).noteLost lost with
      part := { ((s.ch ch).noteLost lost).part with swReady := (s.ch ch).partnerReady ch } }
    if lost then (t.mod ch (fun c => c.takeOver ch s.factory.variant)).startRuns ch own.offset else t
  else if (s.ch ch).part.role == 1 then
    if (s.ch ch).partnerHigher ch then
      s.put ch (((s.ch ch).noteLost lost).demote s.factory.variant (s.ch ch).part.handover)
    else if lost then s.put ch ((s.ch ch).standbyLost.noteLost lost)
    else s.put ch ((s.ch ch).noteLost lost)
  else s.put ch ((s.ch ch).noteLost lost)

theorem Chan.standbyLost_leaves {c : Chan} (h : c.part.lostCons = false) :
    c.standbyLost.part.role = c.part.role ∧ c.standbyLost.part.feeding = false ∧ c.standbyLost.part.seen = false ∧
      c.standbyLost.pwait = [] := by
  unfold Chan.standbyLost
  rw [if_neg (by rw [h]; decide)]
  extract_lets d e
  have hd : d.part.role = c.part.role := by
    dsimp only [d]
    rw [Chan.emit_eq]
  have he : e.part.role = c.part.role := by
    dsimp only [e]
    split
    · rw [Chan.abandon, Chan.emit_eq]
      exact hd
    · exact hd
  exact ⟨he, rfl, rfl, rfl⟩

section

variable {s : State} {ch : Ch} {own : PartnerSet}

theorem exec_partnerAgreement (hl : (s.ch ch).live = true) (hr : (s.ch ch).running = true) (hs : (s.ch ch).statusOnly = false)
    (hb : (s.ch ch).beats = true) (ho : (s.ch ch).din.partSets.get ch = some own) :
    exec (.partnerAgreement ch) s = .next (s.settlePartner ch own) := by
  show execPartnerAgreement ch s = _
  unfold execPartnerAgreement State.settlePartner
  dsimp only
  rw [hl, hr, hs, hb, ho, show (true && true && !false && true) = true from rfl]
  dsimp only
  simp only [apply_ite Host.Outcome.next]
  rfl

theorem exec_partnerAgreement_none (h : (s.ch ch).live = false ∨ (s.ch ch).running = false ∨ (s.ch ch).beats = false ∨
    (s.ch ch).din.partSets.get ch = none) : exec (.partnerAgreement ch) s = .next s := by
  show execPartnerAgreement ch s = _
  unfold execPartnerAgreement
  dsimp only
  split
  · next hc ho =>
    simp only [Bool.and_eq_true] at hc
    obtain ⟨⟨⟨h1, h2⟩, -⟩, h4⟩ := hc
    rcases h with h | h | h | h
    · exact absurd (h1.symm.trans h) (by decide)
    · exact absurd (h2.symm.trans h) (by decide)
    · exact absurd (h4.symm.trans h) (by decide)
    · exact absurd (ho.symm.trans h) (by simp)
  · rfl

theorem State.startRuns_same {offset : Nat} (h : (s.ch ch).din.mainCycle ≠ (s.ch ch).mainCycle ∨ (s.ch ch).din.offset ≠ offset ∨
    (s.ch ch).released = false) : s.startRuns ch offset = s := by
  refine if_neg fun hb => ?_
  simp only [Bool.and_eq_true, beq_iff_eq] at hb
  obtain ⟨⟨h1, h2⟩, h3⟩ := hb
  rcases h with h | h | h
  · exact h h3
  · exact h h2
  · exact absurd (h1.symm.trans h) (by decide)

/-- A takeover away from the point of the last release. -/
theorem State.settlePartner_takesOver (h2 : (s.ch ch).part.role = 2) (hl : (s.ch ch).partnerLost ch = true)
    (h : (s.ch ch).din.mainCycle ≠ (s.ch ch).mainCycle ∨ (s.ch ch).din.offset ≠ own.offset ∨ (s.ch ch).released = false) :
    ∃ d : Chan, d.nv = (s.ch ch).nv ∧ d.rank = (s.ch ch).rank ∧
      s.settlePartner ch own = s.put ch (d.takeOver ch s.factory.variant) := by
  generalize hd : ({ (s.ch ch).noteLost true with
    part := { ((s.ch ch).noteLost true).part with swReady := (s.ch ch).partnerReady ch } } : Chan) = d
  obtain ⟨-, -, -, -, -, -, h7, h8, h9⟩ := d.takeOver_leaves ch s.factory.variant
  refine ⟨d, by rw [← hd]; rfl, by rw [← hd]; rfl, ?_⟩
  unfold State.settlePartner
  dsimp only
  rw [if_pos (beq_iff_eq.mpr h2), hl, if_pos rfl, hd, State.mod, State.put_ch, State.put_put]
  refine State.startRuns_same ?_
  rw [State.put_ch, h7, h8, h9, ← hd]
  exact h

end

/-! ### Misses (R303) -/

theorem Chan.countMiss_leaves (c : Chan) :
    (c.countMiss .x3).part.runX3 = min 15 (c.part.runX3 + 1) ∧ (c.countMiss .x3).part.missX3 = inc 8 c.part.missX3 ∧
      (c.countMiss .x3).part.runLane = c.part.runLane ∧
      (c.countMiss .x3).part.seqX3 = (if c.hbCount ≤ min 15 (c.part.runX3 + 1) then none else c.part.seqX3) ∧
      (c.countMiss .lane).part.runLane = min 15 (c.part.runLane + 1) ∧
      (c.countMiss .lane).part.missLane = inc 8 c.part.missLane ∧ (c.countMiss .lane).part.runX3 = c.part.runX3 ∧
      (c.countMiss .lane).part.seqLane = (if c.hbCount ≤ min 15 (c.part.runLane + 1) then none else c.part.seqLane) :=
  ⟨rfl, rfl, rfl, rfl, rfl, rfl, rfl, rfl⟩

/-- Settles O45: heartbeat points and misses, heartbeats that arrive, then the agreement on the partner. -/
theorem partnerIsWatched : Obligations.PartnerIsWatched := by
  unfold Obligations.PartnerIsWatched
  refine ⟨fun s ch loop hl => ?_, fun s ch l b hl ht => ?_, fun s ch own hl hr hs hb ho => ?_,
    fun s ch h => exec_partnerAgreement_none h⟩
  · intro c here
    generalize hd : ({ c with part := { c.part with loop := loop } } : Chan) = d
    have hexec : exec (.heartbeatInstant ch loop) s = .next (s.put ch
        (if d.beats && (!d.released || decide (d.part.instant * d.hbPeriodUs < d.periodUs 1)) then d.beatPoint ch else d)) := by
      show execHeartbeatInstant ch loop s = _
      rw [execHeartbeatInstant, State.onLive_eq _ hl, ← hd]
      rfl
    have hhere : (d.beats && (!d.released || decide (d.part.instant * d.hbPeriodUs < d.periodUs 1))) = true ↔ here := by
      rw [← hd]
      show (c.beats && (!c.released || decide (c.part.instant * c.hbPeriodUs < c.periodUs 1))) = true ↔ _
      simp [here]
    have hpoint (h : here) : exec (.heartbeatInstant ch loop) s = .next (s.put ch (d.beatPoint ch)) :=
      hexec.trans (congrArg (fun x => Host.Outcome.next (s.put ch x)) (if_pos (hhere.mpr h)))
    have hsplit (h : here) : d.split = false := by
      have hb := h.1
      simp only [Chan.beats, Bool.and_eq_true, Bool.not_eq_true'] at hb
      obtain ⟨⟨-, hb⟩, -⟩ := hb
      rw [← hd]
      exact hb
    refine ⟨fun h => ?_, fun h hv => ?_, fun n h hr hn ha => ?_, fun h => ?_, fun h p => ?_, fun h => ?_, fun h => ?_⟩
    · obtain ⟨h1, h2, h3, h4, h5, h6, h7, -⟩ := d.beatPoint_leaves ch (hsplit h)
      refine ⟨_, hpoint h, .put _ _ _, ?_⟩
      rw [State.put_ch, h1, h2, h3, h4, ← hd] at *
      exact ⟨rfl, rfl, rfl, rfl, _, h5, rfl, rfl, rfl, rfl, h6, h7⟩
    · obtain ⟨-, -, -, -, -, -, -, h8, -⟩ := d.beatPoint_leaves ch (hsplit h)
      refine ⟨_, hpoint h, ?_⟩
      rw [State.put_ch]
      refine ⟨_, h8 ?_, _, rfl, ?_, ?_, ?_⟩
      · rw [← hd]
        exact hv
      · rw [← hd]
        rfl
      · rw [← hd]
        rfl
      · rw [← hd]
        rfl
    · obtain ⟨-, -, -, -, -, -, -, -, h9⟩ := d.beatPoint_leaves ch (hsplit h)
      refine ⟨_, hpoint h, ?_⟩
      rw [State.put_ch]
      rw [← hd] at h9 ⊢
      exact h9 n hr hn ha
    · rw [hexec, if_neg (fun hc => h (hhere.mp hc))]
    · exact congrArg Host.Outcome.next (State.onLive_same (if_neg (by rw [show (s.ch ch).beats = false from h]; decide)))
    · obtain ⟨h1, h2, h3, h4, -⟩ := c.countMiss_leaves
      refine ⟨s.put ch (c.countMiss .x3), ?_, .put _ _ _, ?_⟩
      · show execHeartbeatMiss ch .x3 s = _
        rw [execHeartbeatMiss, State.onLive_eq _ hl]
        exact congrArg (fun x => Host.Outcome.next (s.put ch x)) (if_pos h)
      · rw [State.put_ch]
        exact ⟨h1, h2, h3, h4⟩
    · obtain ⟨-, -, -, -, h5, h6, h7, h8⟩ := c.countMiss_leaves
      refine ⟨s.put ch (c.countMiss .lane), ?_, .put _ _ _, ?_⟩
      · show execHeartbeatMiss ch .lane s = _
        rw [execHeartbeatMiss, State.onLive_eq _ hl]
        exact congrArg (fun x => Host.Outcome.next (s.put ch x)) (if_pos h)
      · rw [State.put_ch]
        exact ⟨h5, h6, h7, h8⟩
  · intro d
    have hexec : exec (.heartbeat ch l b) s = .next (s.put ch (d.takeBeat s.factory.variant .x3 b)) := by
      show execHeartbeat ch l b s = _
      rw [execHeartbeat, State.takenP_of_takes _ hl ht]
    have hbeats (hp : d.supply.powerFail = false) : d.beats = true := by
      simp only [Chan.beats, Bool.and_eq_true, Bool.not_eq_true', decide_eq_true_eq]
      exact ⟨⟨⟨ht.phase, ht.started⟩, ht.split⟩, hp⟩
    refine ⟨fun hp => ?_, fun hp hf => ?_, fun hf h => ?_, fun hp hf hq hs => ⟨?_, fun hr hc => ?_, fun h => ?_, fun h => ?_⟩⟩
    · rw [hexec, Chan.takeBeat_silent _ _ _ (by simp [Chan.beats, hp])]
    · refine ⟨_, hexec, .put _ _ _, ?_⟩
      rw [State.put_ch]
      exact Chan.takeBeat_paired _ (hbeats hp) hf (.inl rfl)
    · rw [hexec, Chan.takeBeat_refused _ hf h]
    · obtain ⟨h1, h2, h3, h4, -⟩ := Chan.takeBeat_notes s.factory.variant (hbeats hp) hf hq hs
      refine ⟨_, hexec, .put _ _ _, ?_⟩
      rw [State.put_ch]
      exact ⟨(h4 rfl).1, (h4 rfl).2, h3, h1, h2⟩
    · refine ⟨_, hexec, ?_⟩
      rw [State.put_ch]
      exact Chan.takeBeat_demotes s.factory.variant (hbeats hp) hf hq hs hr hc
    · obtain ⟨h1, h2, -⟩ := Chan.takeBeat_keeps s.factory.variant (hbeats hp) hf hq hs h
      refine ⟨_, hexec, ?_⟩
      rw [State.put_ch]
      exact ⟨h1, h2⟩
    · refine ⟨_, hexec, ?_⟩
      rw [State.put_ch]
      exact Chan.takeBeat_switchedAway s.factory.variant (hbeats hp) hf hq hs h
  · intro c sets lost higher ready
    have hexec := exec_partnerAgreement hl hr hs hb ho
    have hact {x : Chan} (h : s.settlePartner ch own = s.put ch x) : exec (.partnerAgreement ch) s = .next (s.put ch x) :=
      hexec.trans (congrArg Host.Outcome.next h)
    have h12 (h1 : c.part.role = 1) : ¬ ((s.ch ch).part.role == 2) = true := by simp [show (s.ch ch).part.role = 1 from h1]
    have hone {x : Chan} (h1 : c.part.role = 1) (hx : (if (s.ch ch).partnerHigher ch then
          s.put ch (((s.ch ch).noteLost lost).demote s.factory.variant (s.ch ch).part.handover)
        else if lost then s.put ch ((s.ch ch).standbyLost.noteLost lost) else s.put ch ((s.ch ch).noteLost lost)) = s.put ch x) :
        exec (.partnerAgreement ch) s = .next (s.put ch x) :=
      hact (((if_neg (h12 h1)).trans (if_pos (beq_iff_eq.mpr h1))).trans hx)
    refine ⟨fun h2 hlo h => ?_, fun _ _ => ⟨_, hexec⟩, fun h2 hlo => hact ?_, fun h1 hh => ?_, fun h1 hh hlo hc => ?_,
      fun h1 hh hlo => hone h1 ?_⟩
    · obtain ⟨d, hnv, hrank, hd⟩ := State.settlePartner_takesOver (own := own) h2 hlo h
      obtain ⟨k1, k2, k3, k4, k5, k6, -⟩ := d.takeOver_leaves ch s.factory.variant
      refine ⟨_, hact hd, .put _ _ _, ?_⟩
      rw [State.put_ch, k1, k2, k3, k4, k5, k6, hnv, hrank]
      exact ⟨rfl, rfl, rfl, rfl, rfl, rfl⟩
    · unfold State.settlePartner
      dsimp only
      rw [if_pos (beq_iff_eq.mpr h2), show (s.ch ch).partnerLost ch = false from hlo, if_neg (by decide)]
      rfl
    · refine ⟨_, hone h1 (if_pos hh), .put _ _ _, ?_⟩
      rw [State.put_ch, (Chan.demote_leaves _ _ _).1, (Chan.demote_leaves _ _ _).2]
      exact ⟨rfl, rfl, rfl, rfl⟩
    · obtain ⟨k1, k2, k3, k4⟩ := Chan.standbyLost_leaves hc
      refine ⟨_, hone h1 ((if_neg (by rw [show (s.ch ch).partnerHigher ch = false from hh]; decide)).trans (if_pos hlo)),
        .put _ _ _, ?_⟩
      rw [State.put_ch]
      exact ⟨k1.trans h1, k2, k3, hlo, k4⟩
    · rw [if_neg (by rw [show (s.ch ch).partnerHigher ch = false from hh]; decide), if_neg (by rw [hlo]; decide), hlo]
      rfl

end Sys2Proof.Machine

/-! PROOFS. The twin stage (spec/07 R197, R203, spec/11 R316): what commands from the other unit and its lockouts leave of each output. -/

namespace Sys2Proof.Machine

open Sys2Proof

/-! ### A fold that touches one place at a time -/

section

variable {σ β γ : Type} {f : σ → Nat → σ} {g : σ → β} {at_ : Nat → σ → γ} {N : Nat}

theorem foldl_off (hf : ∀ c k i, k < N → i ≠ k → at_ i (f c k) = at_ i c) {i : Nat} (ks : List Nat) (hk : ∀ k ∈ ks, k < N)
    (hi : i ∉ ks) (c : σ) : at_ i (ks.foldl f c) = at_ i c := by
  induction ks generalizing c with
  | nil => rfl
  | cons k ks ih =>
    rw [List.foldl_cons, ih (fun n hn => hk n (List.mem_cons_of_mem _ hn)) (fun h => hi (List.mem_cons_of_mem _ h))]
    exact hf c k i (hk k List.mem_cons_self) (fun h => hi (h ▸ List.mem_cons_self))

/-- Each place is as its own step leaves it. -/
theorem foldl_range_at (hg : ∀ c k, g (f c k) = g c) (hf : ∀ c k i, k < N → i ≠ k → at_ i (f c k) = at_ i c) {i : Nat} {M : Nat}
    (hM : M ≤ N) (hi : i < M) (c : σ) :
    ∃ d, g d = g c ∧ at_ i d = at_ i c ∧ at_ i ((List.range M).foldl f c) = at_ i (f d i) := by
  induction M with
  | zero => exact absurd hi (Nat.not_lt_zero i)
  | succ M ih =>
    rw [List.range_succ, List.foldl_append, List.foldl_cons, List.foldl_nil]
    by_cases h : i = M
    · subst h
      refine ⟨(List.range i).foldl f c, foldl_view hg _ c, ?_, rfl⟩
      exact foldl_off hf _ (fun k hk => (List.mem_range.mp hk).trans (Nat.lt_of_succ_le hM)) (by simp) c
    · obtain ⟨d, h1, h2, h3⟩ := ih (Nat.le_of_succ_le hM) (by omega)
      exact ⟨d, h1, h2, (hf _ M i (Nat.lt_of_succ_le hM) h).trans h3⟩

end

/-! ### One output -/

/-- A channel but for what commands set output by output. -/
def Chan.besideStage (c : Chan) : Chan :=
  { c with dout := { c.dout with cmd := 0, on := 0, offSince := [], onSince := [], high := 0, timerOn := 0 } }

/-- What a channel holds of one output: its switches, whether it is energised, what is commanded. -/
def Chan.output (n : Nat) (c : Chan) : Bool × Bool × Bool :=
  (c.dout.high.getLsbD n, c.dout.on.getLsbD n, c.dout.cmd.getLsbD n)

theorem heldOff_of_besideStage {c d : Chan} (h : d.besideStage = c.besideStage) (n : Nat) : d.heldOff n = c.heldOff n :=
  (congrArg (fun (x : Chan) => x.heldOff n) h :)

theorem twin_of_besideStage {c d : Chan} (h : d.besideStage = c.besideStage) :
    d.dout.twinCmd = c.dout.twinCmd ∧ d.dout.twinLock = c.dout.twinLock :=
  ⟨(congrArg (fun (x : Chan) => x.dout.twinCmd) h :), (congrArg (fun (x : Chan) => x.dout.twinLock) h :)⟩

/-- An output commanded at the channel's own stage. -/
theorem Chan.commandOutput_output (c : Chan) {k : Nat} (n : Nat) (voted : Bool) (us : Nat) (hk : k < 32) :
    (c.commandOutput k voted true us).output n =
      if n = k then
        (voted && !c.heldOff k && !c.supply.powerFail && !c.dout.sagLatch.getLsbD (groupOf k),
          voted && !c.heldOff k && !c.supply.powerFail, voted)
      else c.output n := by
  refine Prod.ext ?_ (Prod.ext ?_ ?_)
  · refine (putBit_getLsbD c.dout.high k n _ hk).trans ?_
    split <;> rfl
  · refine (putBit_getLsbD c.dout.on k n _ hk).trans ?_
    split <;> rfl
  · refine (putBit_getLsbD c.dout.cmd k n _ hk).trans ?_
    split <;> rfl

/-- An output that stays off forced off. -/
def Chan.forceOutput (us : Nat) (c : Chan) (n : Nat) : Chan :=
  if c.heldOff n && c.dout.on.getLsbD n then
    { c with dout := (c.dout.command n (c.dout.cmd.getLsbD n) false us).drive n false }
  else c

theorem Chan.forceOff_eq (c : Chan) (us : Nat) : c.forceOff us = (List.range 32).foldl (Chan.forceOutput us) c := rfl

theorem Chan.forceOutput_besideStage (us : Nat) (c : Chan) (n : Nat) : (c.forceOutput us n).besideStage = c.besideStage := by
  unfold Chan.forceOutput
  split <;> rfl

theorem Chan.forceOutput_output (us : Nat) (c : Chan) {k : Nat} (n : Nat) (hk : k < 32) :
    (c.forceOutput us k).output n =
      if n = k ∧ c.heldOff k = true ∧ c.dout.on.getLsbD k = true then (false, false, c.dout.cmd.getLsbD k) else c.output n := by
  unfold Chan.forceOutput
  by_cases h : (c.heldOff k && c.dout.on.getLsbD k) = true
  · rw [if_pos h]
    rw [Bool.and_eq_true] at h
    refine Prod.ext ?_ (Prod.ext ?_ ?_)
    · refine (putBit_getLsbD c.dout.high k n _ hk).trans ?_
      by_cases hn : n = k
      · rw [if_pos hn, if_pos ⟨hn, h⟩, Bool.false_and]
      · rw [if_neg hn, if_neg (fun h => hn h.1)]
        rfl
    · refine (putBit_getLsbD c.dout.on k n _ hk).trans ?_
      by_cases hn : n = k
      · rw [if_pos hn, if_pos ⟨hn, h⟩]
      · rw [if_neg hn, if_neg (fun h => hn h.1)]
        rfl
    · refine (putBit_getLsbD c.dout.cmd k n _ hk).trans ?_
      by_cases hn : n = k
      · rw [if_pos hn, if_pos ⟨hn, h⟩]
      · rw [if_neg hn, if_neg (fun h => hn h.1)]
        rfl
  · rw [if_neg h, if_neg]
    rw [Bool.and_eq_true] at h
    exact fun hh => h hh.2

/-- Outputs that stay off forced off: each as it was, but for the energised ones among them. -/
theorem Chan.forceOff_output (c : Chan) (us : Nat) {n : Nat} (hn : n < 32) :
    (c.forceOff us).output n =
      if c.heldOff n = true ∧ c.dout.on.getLsbD n = true then (false, false, c.dout.cmd.getLsbD n) else c.output n := by
  rw [Chan.forceOff_eq]
  obtain ⟨d, hd, ho, h⟩ := foldl_range_at (g := Chan.besideStage) (at_ := Chan.output) (Chan.forceOutput_besideStage us)
    (fun c k i hk hi => (Chan.forceOutput_output us c i hk).trans (if_neg (fun h => hi h.1))) (Nat.le_refl 32) hn c
  have hon : d.dout.on.getLsbD n = c.dout.on.getLsbD n := congrArg (fun o => o.2.1) ho
  have hcmd : d.dout.cmd.getLsbD n = c.dout.cmd.getLsbD n := congrArg (fun o => o.2.2) ho
  rw [h, Chan.forceOutput_output us d n hn, heldOff_of_besideStage hd, hon, hcmd, ho]
  simp only [true_and]

theorem Chan.forceOff_besideStage (c : Chan) (us : Nat) : (c.forceOff us).besideStage = c.besideStage :=
  foldl_view (Chan.forceOutput_besideStage us) _ c

/-! ### Commands from the other unit (R203) -/

/-- Outputs of a mask commanded. -/
def Chan.commandMask (c : Chan) (mask outs : Word) (us : Nat) : Chan :=
  (List.range 32).foldl (fun c n => if mask.getLsbD n then c.commandOutput n (outs.getLsbD n) true us else c) c

theorem Chan.commandMask_besideStage (c : Chan) (mask outs : Word) (us : Nat) :
    (c.commandMask mask outs us).besideStage = c.besideStage := by
  refine foldl_view (g := Chan.besideStage) (fun c n => ?_) _ c
  split <;> rfl

theorem Chan.commandMask_output (c : Chan) (mask outs : Word) (us : Nat) {n : Nat} (hn : n < 32) :
    (c.commandMask mask outs us).output n =
      if mask.getLsbD n = true then
        (outs.getLsbD n && !c.heldOff n && !c.supply.powerFail && !c.dout.sagLatch.getLsbD (groupOf n),
          outs.getLsbD n && !c.heldOff n && !c.supply.powerFail, outs.getLsbD n)
      else c.output n := by
  obtain ⟨d, hd, ho, h⟩ := foldl_range_at (g := Chan.besideStage) (at_ := Chan.output)
    (f := fun c n => if mask.getLsbD n then c.commandOutput n (outs.getLsbD n) true us else c) (N := 32)
    (fun c n => by split <;> rfl)
    (fun c k i hk hi => by
      split
      · exact (c.commandOutput_output i _ us hk).trans (if_neg hi)
      · rfl)
    (Nat.le_refl 32) hn c
  have hpf : d.supply.powerFail = c.supply.powerFail := (congrArg (fun (x : Chan) => x.supply.powerFail) hd :)
  have hsag : d.dout.sagLatch = c.dout.sagLatch := (congrArg (fun (x : Chan) => x.dout.sagLatch) hd :)
  unfold Chan.commandMask
  rw [h]
  by_cases hm : mask.getLsbD n = true
  · rw [if_pos hm, if_pos hm, d.commandOutput_output n _ us hn, if_pos rfl, heldOff_of_besideStage hd, hpf, hsag]
  · rw [if_neg hm, if_neg hm, ho]

/-- The other unit's commands and lockouts taken, before any output is commanded. -/
def Chan.twinTaken (c : Chan) (mask outs lockouts : Word) (us : Nat) : Chan :=
  { c with
    dout := { c.dout.freshFrom mask us with twinCmd := (c.dout.twinCmd &&& ~~~mask) ||| (outs &&& mask), twinLock := lockouts } }

theorem Chan.twinCommand_eq (c : Chan) (mask outs lockouts : Word) (us : Nat) :
    c.twinCommand mask outs lockouts us = ((c.twinTaken mask outs lockouts us).setLowSide.commandMask mask outs us).forceOff us :=
  rfl

theorem lookup_filter_none {α : Type} {l : List (Nat × α)} {n : Nat} {p : Nat × α → Bool} (h : l.lookup n = none) :
    (l.filter p).lookup n = none := by
  rw [List.lookup_eq_none_iff] at h ⊢
  exact fun e he => h e (List.mem_filter.mp he).1

section

variable {c : Chan} {mask outs lockouts : Word} {us : Nat}

theorem Chan.twinTaken_heldOff_of_locked {n : Nat} (ht : c.twin = true) (hl : lockouts.getLsbD n = true) :
    (c.twinTaken mask outs lockouts us).heldOff n = true := by
  simp only [Chan.heldOff, show (c.twinTaken mask outs lockouts us).twin = true from ht,
    show (c.twinTaken mask outs lockouts us).dout.twinLock = lockouts from rfl, hl, Bool.and_self, Bool.or_true, Bool.true_or]

theorem Chan.twinTaken_heldOff_of_free {n : Nat} (hl : lockouts.getLsbD n = false) (hc : c.nv.outCause n = 0)
    (hs : c.dout.sag.getLsbD (groupOf n) = false) (hf : c.dout.needFresh.lookup n = none) (hu : c.unclaimed = false) :
    (c.twinTaken mask outs lockouts us).heldOff n = false := by
  have hf' : (c.twinTaken mask outs lockouts us).dout.needFresh.lookup n = none := lookup_filter_none hf
  simp only [Chan.heldOff, hf', show (c.twinTaken mask outs lockouts us).nv.outCause n = 0 from hc,
    show (c.twinTaken mask outs lockouts us).dout.twinLock = lockouts from rfl, hl,
    show (c.twinTaken mask outs lockouts us).dout.sag = c.dout.sag from rfl, hs,
    show (c.twinTaken mask outs lockouts us).unclaimed = false from hu]
  simp

/-- What commands from the other unit leave of a channel's stage. -/
theorem Chan.twinCommand_leaves (ht : c.twin = true) (hp : c.supply.powerFail = false) :
    (c.twinCommand mask outs lockouts us).dout.twinCmd = ((c.dout.twinCmd &&& ~~~mask) ||| (outs &&& mask)) ∧
      (c.twinCommand mask outs lockouts us).dout.twinLock = lockouts ∧
      (∀ n, n < 32 → lockouts.getLsbD n = true → mask.getLsbD n = true ∨ c.dout.on.getLsbD n = true →
        (c.twinCommand mask outs lockouts us).dout.high.getLsbD n = false) ∧
      (∀ n, n < 32 → lockouts.getLsbD n = false → mask.getLsbD n = false → c.heldOff n = false →
        (c.twinCommand mask outs lockouts us).dout.high.getLsbD n = c.dout.high.getLsbD n) ∧
      (∀ n, n < 32 → lockouts.getLsbD n = false → mask.getLsbD n = true → c.nv.outCause n = 0 →
        c.dout.sag.getLsbD (groupOf n) = false → c.dout.needFresh.lookup n = none → c.unclaimed = false →
        (c.twinCommand mask outs lockouts us).dout.high.getLsbD n =
          (outs.getLsbD n && !c.dout.sagLatch.getLsbD (groupOf n))) := by
  rw [Chan.twinCommand_eq]
  obtain ⟨w, hw⟩ := Chan.setLowSide_eq (c := c.twinTaken mask outs lockouts us) hp
  generalize hd : (c.twinTaken mask outs lockouts us).setLowSide = d at hw
  have hheld (n : Nat) : d.heldOff n = (c.twinTaken mask outs lockouts us).heldOff n := by rw [hw]; rfl
  have hout (n : Nat) : d.output n = c.output n := by rw [hw]; rfl
  have hlatch : d.dout.sagLatch = c.dout.sagLatch := by rw [hw]; rfl
  have hpf : d.supply.powerFail = false := by rw [hw]; exact hp
  have hb := (Chan.forceOff_besideStage (d.commandMask mask outs us) us).trans (d.commandMask_besideStage mask outs us)
  have he (n : Nat) : (d.commandMask mask outs us).heldOff n = (c.twinTaken mask outs lockouts us).heldOff n :=
    (heldOff_of_besideStage (d.commandMask_besideStage mask outs us) n).trans (hheld n)
  generalize hm : d.commandMask mask outs us = e at hb he
  have hmask {n : Nat} (hn : n < 32) := d.commandMask_output mask outs us hn
  rw [hm] at hmask
  have hhigh {n : Nat} (hn : n < 32) : (e.forceOff us).dout.high.getLsbD n =
      (if e.heldOff n = true ∧ e.dout.on.getLsbD n = true then (false, false, e.dout.cmd.getLsbD n) else e.output n).1 :=
    congrArg Prod.fst (e.forceOff_output us hn)
  refine ⟨?_, ?_, fun n hn hl h => ?_, fun n hn hl hm hf => ?_, fun n hn hl hm hc hs hf hu => ?_⟩
  · rw [(twin_of_besideStage hb).1, hw]
    rfl
  · rw [(twin_of_besideStage hb).2, hw]
    rfl
  · have hh := Chan.twinTaken_heldOff_of_locked (mask := mask) (outs := outs) (us := us) ht hl
    rw [hhigh hn, he, hh]
    by_cases hmn : mask.getLsbD n = true
    · have ho : e.output n = (false, false, outs.getLsbD n) := by
        rw [hmask hn, if_pos hmn, hheld, hh]
        simp
      rw [ho]
      split <;> rfl
    · have ho : e.output n = c.output n := by rw [hmask hn, if_neg hmn, hout]
      have hon : e.dout.on.getLsbD n = true := (congrArg (fun o => o.2.1) ho).trans (h.resolve_left hmn)
      rw [if_pos ⟨rfl, hon⟩]
  · simp only [Chan.heldOff, Bool.or_eq_false_iff, bne_eq_false_iff_eq, Option.isSome_eq_false_iff, Option.isNone_iff_eq_none]
      at hf
    obtain ⟨⟨⟨⟨hc, -⟩, hs⟩, hf⟩, hu⟩ := hf
    have hh := Chan.twinTaken_heldOff_of_free (mask := mask) (outs := outs) (us := us) hl hc hs hf hu
    rw [hhigh hn, he, hh, if_neg (by simp), hmask hn, if_neg (by rw [hm]; decide), hout]
    rfl
  · have hh := Chan.twinTaken_heldOff_of_free (mask := mask) (outs := outs) (us := us) hl hc hs hf hu
    rw [hhigh hn, he, hh, if_neg (by simp), hmask hn, if_pos hm, hheld, hh, hpf, hlatch]
    simp

/-- The other unit's lockouts taken: energised outputs among them go off. -/
theorem Chan.takeLockouts_leaves (ht : c.twin = true) :
    (c.takeLockouts lockouts us).dout.twinLock = lockouts ∧ (c.takeLockouts lockouts us).dout.cmd = c.dout.cmd ∧
      ∀ n, n < 32 → lockouts.getLsbD n = true → c.dout.on.getLsbD n = true →
        (c.takeLockouts lockouts us).dout.high.getLsbD n = false := by
  unfold Chan.takeLockouts
  generalize hd : ({ c with dout := { c.dout with twinLock := lockouts } } : Chan) = d
  have hb := d.forceOff_besideStage us
  have hout {n : Nat} (hn : n < 32) := d.forceOff_output us hn
  refine ⟨?_, BitVec.eq_of_getLsbD_eq fun n hn => ?_, fun n hn hl hon => ?_⟩
  · rw [(twin_of_besideStage hb).2, ← hd]
  · refine (congrArg (fun o => o.2.2) (hout hn)).trans ?_
    rw [show c.dout.cmd.getLsbD n = d.dout.cmd.getLsbD n by rw [← hd]]
    split <;> rfl
  · refine (congrArg (fun o => o.1) (hout hn)).trans ?_
    have hlock : (d.twin && d.dout.twinLock.getLsbD n) = true := by
      rw [← hd]
      exact Bool.and_eq_true_iff.mpr ⟨ht, hl⟩
    have hh : d.heldOff n = true := by
      rw [Chan.heldOff, hlock, Bool.or_true, Bool.true_or, Bool.true_or, Bool.true_or]
    rw [if_pos ⟨hh, by rw [← hd]; exact hon⟩]

end

end Sys2Proof.Machine

/-! PROOFS. The standby follows the active (spec/11 R309, R310, R314, R315): its backlog, the ends of runs, the delta's end. -/

namespace Sys2Proof.Machine

open Sys2Proof

section

variable {s : State} {ch : Ch}

theorem State.replayNext_same (h : (s.ch ch).follows = false ∨ (s.ch ch).part.nextRun = none ∨ (s.ch ch).part.refused ≠ [] ∨
    (s.ch ch).tasks.any (fun k => k.running) = true) : s.replayNext ch = s := by
  unfold State.replayNext
  dsimp only
  split
  · next r hr hb =>
    simp only [Bool.and_eq_true, Bool.not_eq_true', List.isEmpty_iff] at hb
    obtain ⟨⟨h1, h2⟩, h3⟩ := hb
    rcases h with h | h | h | h
    · exact absurd (h1.symm.trans h) (by decide)
    · exact absurd (hr.symm.trans h) (by simp)
    · exact absurd h2 h
    · exact absurd (h3.symm.trans h) (by decide)
  · rfl

/-- The channel with its next run begun. -/
def Chan.replaying (c : Chan) (r : RunInput) : Chan :=
  ({ c with
    part := c.part.keepBefore r c.saved, params := c.params.replay r.latched, tiles := c.tiles.beginRun r.task
    released := true } : Chan).modTask r.task
      (fun k => k.begin r.mainCycle r.offset r.taskCycle c.sync.cluster (Machine.runImage r) true)

/-- A run of another task than T1 without commands begins at once. -/
theorem State.replayNext_begins {r : RunInput} (hf : (s.ch ch).follows = true) (hn : (s.ch ch).part.nextRun = some r)
    (hr : (s.ch ch).part.refused = []) (ht : (s.ch ch).tasks.any (fun k => k.running) = false) (hc : r.commands = [])
    (h1 : r.task ≠ 1) : s.replayNext ch = s.put ch ((s.ch ch).replaying r) := by
  have h1' : ¬ (r.task == 1) = true := by simpa using h1
  unfold State.replayNext
  dsimp only
  rw [hn, hf, hr, ht, show (true && ([] : List Nat).isEmpty && !false) = true from rfl]
  dsimp only
  simp only [if_neg h1']
  rw [hc, List.foldl_nil, State.mod, State.mod, State.put_put, State.put_ch]
  rfl

theorem Chan.replaying_task (c : Chan) {r : RunInput} (h : r.task < c.tasks.length) :
    ((c.replaying r).task r.task).running = true ∧ ((c.replaying r).task r.task).runMain = r.mainCycle ∧
      ((c.replaying r).task r.task).runCycle = r.taskCycle ∧ ((c.replaying r).task r.task).imageReady = true ∧
      ((c.replaying r).task r.task).inImg = Machine.runImage r := by
  have ht : (c.replaying r).task r.task =
      (c.task r.task).begin r.mainCycle r.offset r.taskCycle c.sync.cluster (Machine.runImage r) true :=
    modAt_getD_self _ default h
  rw [ht]
  exact ⟨rfl, rfl, rfl, rfl, rfl⟩

end

/-! ### The backlog (R309, R310) -/

theorem Chan.follows_iff (c : Chan) : c.follows = true ↔ c.part.role = 2 ∧ c.part.sync = 2 := by
  simp [Chan.follows]

theorem Chan.takesRuns_iff (c : Chan) : c.takesRuns = true ↔ c.running = true ∧ c.part.role = 2 ∧ c.part.sync ≠ 0 := by
  simp [Chan.takesRuns, and_assoc]

/-- The ends of runs taken: differences discard the state of a standby. -/
theorem Chan.verifyRuns_differs {c : Chan} (v : Variant) (hf : c.follows = true) (hd : c.part.backlog.any Replay.differs = true) :
    (c.verifyRuns v).part.sync = 0 ∧ (c.verifyRuns v).part.cause = 4 ∧
      (c.verifyRuns v).nv.syncLossCnt = inc 8 c.nv.syncLossCnt := by
  have h : c.verifyRuns v = c.loseSync v 4 := if_pos (by rw [hf, hd]; rfl)
  obtain ⟨hp, hn, -⟩ := Chan.loseSync_of_follows v 4 hf
  rw [h, hp, hn]
  exact ⟨Part.dropTransfer_sync ((Chan.follows_iff c).mp hf).1, rfl, rfl⟩

/-- The runs verified, in a partner block. -/
def Part.verified (p : Part) : Part :=
  { p with
    backlog := p.backlog.filter (fun r => !r.isVerified && !r.differs)
    applied := ((p.backlog.filter (fun r => r.isVerified && r.run.task == 1)).map (fun r => r.run.mainCycle)).foldl max p.applied }

theorem Chan.verifyRuns_same {c : Chan} (v : Variant) (h : c.follows = false ∨ c.part.backlog.any Replay.differs = false) :
    c.verifyRuns v = { c with part := c.part.verified } :=
  if_neg (by rcases h with h | h <;> simp [h])

theorem le_foldl_max (l : List Nat) (n : Nat) : n ≤ l.foldl max n ∧ ∀ k ∈ l, k ≤ l.foldl max n := by
  induction l generalizing n with
  | nil => exact ⟨Nat.le_refl n, fun _ h => absurd h (by simp)⟩
  | cons a l ih =>
    obtain ⟨h1, h2⟩ := ih (max n a)
    refine ⟨(Nat.le_max_left n a).trans h1, fun k hk => ?_⟩
    rcases List.mem_cons.mp hk with rfl | hk
    · exact (Nat.le_max_right n k).trans h1
    · exact h2 k hk

theorem Part.verified_applied (p : Part) :
    ∀ r ∈ p.backlog, r.isVerified = true → r.run.task = 1 → r.run.mainCycle ≤ p.verified.applied := by
  intro r hr hv ht
  refine (le_foldl_max _ p.applied).2 _ (List.mem_map.mpr ⟨r, List.mem_filter.mpr ⟨hr, ?_⟩, rfl⟩)
  simp [hv, ht]

theorem Part.verified_backlog {p : Part} (h : p.backlog.any Replay.differs = false) :
    p.verified.backlog = p.backlog.filter (fun r => !r.isVerified) := by
  refine List.filter_congr fun r hr => ?_
  have hd : r.differs = false := by
    rw [List.any_eq_false] at h
    simpa using h r hr
  rw [hd]
  simp

theorem Chan.loseSync_follows {c : Chan} (v : Variant) (cause : Nat) (h : c.follows = true) :
    (c.loseSync v cause).part.sync = 0 ∧ (c.loseSync v cause).part.cause = cause ∧ (c.loseSync v cause).follows = false := by
  obtain ⟨hp, -, -⟩ := Chan.loseSync_of_follows v cause h
  have hs : (c.loseSync v cause).part.sync = 0 := by
    rw [hp]
    exact Part.dropTransfer_sync ((Chan.follows_iff c).mp h).1
  exact ⟨hs, by rw [hp], by simp [Chan.follows, hs]⟩

/-! ### Transfers abandoned and the delta's end (R308 to R310) -/

theorem Chan.abandon_part (c : Chan) (cause : Nat) :
    (c.abandon cause).part = { c.part.dropTransfer with cause := cause, commanded := false, since := c.clock } ∧
      (c.abandon cause).nv = { c.nv with abandonCnt := inc 8 c.nv.abandonCnt } := by
  rw [Chan.abandon, Chan.emit_eq]
  exact ⟨rfl, rfl⟩

/-- A standby whose transfers are missing for good holds no state. -/
theorem Chan.missingTransfer_leaves {c : Chan} (v : Variant) (hr : c.part.role = 2)
    (h : c.follows = true ∨ c.transferring = true) :
    (c.missingTransfer v).part.sync = 0 ∧ (c.missingTransfer v).part.cause = 5 := by
  unfold Chan.missingTransfer
  by_cases hf : c.follows = true
  · rw [if_pos hf]
    obtain ⟨h1, h2, -⟩ := Chan.loseSync_follows v 5 hf
    exact ⟨h1, h2⟩
  · rw [if_neg hf, if_pos (h.resolve_left hf), (c.abandon_part 5).1]
    exact ⟨Part.dropTransfer_sync hr, rfl⟩

theorem Chan.sendLockouts_part (c : Chan) (me : Ch) (cycle : Nat) :
    (c.sendLockouts me cycle).part.sync = c.part.sync ∧ (c.sendLockouts me cycle).part.cause = c.part.cause := by
  unfold Chan.sendLockouts
  split
  · exact ⟨rfl, rfl⟩
  · exact ⟨rfl, rfl⟩

/-- Settles O46: each transfer of the delta, then the twin stage, the delta's end and a switchover. -/
theorem standbyFollows : Obligations.StandbyFollows := by
  unfold Obligations.StandbyFollows
  intro s ch l hl c
  refine ⟨fun r ht => ?_, fun task cycle digest ht => ?_, fun task cycle mask outs lockouts ht => ?_,
    fun cycle runs ht => ?_, fun cycle ht => ?_⟩
  · intro d
    have hexec {x : Chan} (hx : (if !c.takesRuns then c else if c.follows && c.backlogFull r.mainCycle then
        c.loseSync s.factory.variant 6 else d) = x) : exec (.runIn ch l r) s = .next ((s.put ch x).replayNext ch) := by
      show execRunIn ch l r s = _
      rw [execRunIn, State.takenP_of_takes _ hl ht]
      exact congrArg (fun x => Host.Outcome.next ((s.put ch x).replayNext ch)) hx
    have hd (h1 : c.takesRuns = true) (h2 : c.follows = false ∨ c.backlogFull r.mainCycle = false) :
        exec (.runIn ch l r) s = .next ((s.put ch d).replayNext ch) :=
      hexec ((if_neg (by rw [h1]; decide)).trans (if_neg (by rcases h2 with h | h <;> simp [h])))
    refine ⟨fun hr => ?_, fun h1 h2 => ?_, fun h1 h2 h3 h4 => ?_, fun h1 h2 h3 h4 h5 h6 h7 h8 h9 => ?_, fun h1 h2 h3 => ?_⟩
    · have hnot : c.takesRuns = false := by simp [Chan.takesRuns, hr]
      rw [hexec (if_pos (by rw [hnot]; rfl)), State.replayNext_same]
      rw [State.put_ch]
      exact .inl (by simp [Chan.follows, hr])
    · rw [hd h1 (.inl h2), State.replayNext_same]
      rw [State.put_ch]
      exact .inl h2
    · rw [hd h1 (.inr h3), State.replayNext_same]
      rw [State.put_ch]
      exact .inr (.inr (h4.symm.imp_right id))
    · have hfull : c.backlogFull r.mainCycle = false := by simp [Chan.backlogFull, h3]
      have hnext : d.part.nextRun = some r := by simp [d, Part.addRun, Part.nextRun, h3]
      have hput := State.replayNext_begins (s := s.put ch d) (ch := ch) (r := r)
      rw [State.put_ch, State.put_put] at hput
      refine ⟨_, (hd h1 (.inr hfull)).trans (congrArg Host.Outcome.next (hput h2 hnext h4 h5 h6 h9)), .put _ _ _, ?_⟩
      rw [State.put_ch]
      exact d.replaying_task (by rw [show d.tasks.length = 8 from h8]; exact h7)
    · obtain ⟨k1, k2, k3⟩ := Chan.loseSync_follows s.factory.variant 6 h2
      refine ⟨s.put ch (c.loseSync s.factory.variant 6), ?_, .put _ _ _, ?_⟩
      · rw [hexec ((if_neg (by rw [h1]; decide)).trans (if_pos (by rw [h2, h3]; rfl))), State.replayNext_same]
        rw [State.put_ch]
        exact .inl k3
      · rw [State.put_ch]
        exact ⟨k1, k2⟩
  · intro p
    generalize he : ({ c with part := { p with runsSince := p.runsSince + 1 } } : Chan) = e
    have hexec {x : Chan} (hx : (if c.takesRuns then (if e.follows then e.verifyRuns s.factory.variant else e)
        else if c.running && c.part.role == 1 && c.part.outstanding task cycle then
          ({ c with part := p } : Chan).verifyRuns s.factory.variant else c) = x) :
        exec (.runEnd ch l task cycle digest) s = .next (s.put ch x) := by
      show execRunEnd ch l task cycle digest s = _
      rw [execRunEnd, State.takenP_of_takes _ hl ht]
      refine congrArg (fun x => Host.Outcome.next (s.put ch x)) (Eq.trans ?_ hx)
      rw [← he]
    have hfe : e.follows = c.follows := by rw [← he]; rfl
    have hbe : e.part.backlog = p.backlog := by rw [← he]
    have hne : e.nv = c.nv := by rw [← he]
    have hse : e.part.sync = c.part.sync := by rw [← he]; rfl
    refine ⟨fun h1 h2 => ?_, fun h1 h2 h3 => ?_, fun h1 h2 h3 => ?_, fun h1 h2 h3 => ?_, fun h1 h2 => ?_⟩
    · exact hexec ((if_pos h1).trans (if_neg (by rw [hfe, h2]; decide)))
    · obtain ⟨k1, k2, k3⟩ := Chan.verifyRuns_differs (c := e) s.factory.variant (hfe.trans h2) (by rw [hbe]; exact h3)
      refine ⟨_, hexec ((if_pos h1).trans (if_pos (hfe.trans h2))), .put _ _ _, ?_⟩
      rw [State.put_ch, k1, k2, k3, hne]
      exact ⟨rfl, rfl, rfl⟩
    · refine ⟨_, hexec ((if_pos h1).trans (if_pos (hfe.trans h2))), .put _ _ _, ?_⟩
      rw [State.put_ch, Chan.verifyRuns_same s.factory.variant (.inr (by rw [hbe]; exact h3))]
      refine ⟨hse.trans ((Chan.follows_iff c).mp h2).2, ?_, fun r hr => ?_⟩
      · rw [← hbe]
        exact Part.verified_backlog (by rw [hbe]; exact h3)
      · exact e.part.verified_applied r (by rw [hbe]; exact hr)
    · have hnot : c.takesRuns = false := by simp [Chan.takesRuns, h2]
      have hnf : Chan.follows { c with part := p } = false := by
        simp [Chan.follows, show p.role = c.part.role from rfl, h2]
      refine ⟨_, hexec ((if_neg (by rw [hnot]; decide)).trans (if_pos (by rw [h1, h2, h3]; rfl))), .put _ _ _, ?_⟩
      rw [State.put_ch, Chan.verifyRuns_same s.factory.variant (.inl hnf)]
      exact ⟨h2, rfl⟩
    · exact hexec ((if_neg (by rw [h1]; decide)).trans (if_neg (by rw [h2, Bool.and_false]; decide)))
  · intro acts
    generalize hus : cycle * c.periodUs task = us
    have hexec {x : Chan} (hx : (if !c.running || c.statusOnly || !c.twin || !c.votes ch || c.supply.powerFail then c
        else if c.takesRuns && c.higher then c.twinCommand mask outs lockouts us
        else if c.part.role == 1 then c.takeLockouts lockouts us else c) = x) :
        exec (.cmd ch l task cycle mask outs lockouts) s = .next (s.put ch x) := by
      show execCmd ch l task cycle mask outs lockouts s = _
      rw [execCmd, State.takenP_of_takes _ hl ht]
      refine congrArg (fun x => Host.Outcome.next (s.put ch x)) (Eq.trans ?_ hx)
      rw [← hus]
    have hacts : acts ↔ ¬ (!c.running || c.statusOnly || !c.twin || !c.votes ch || c.supply.powerFail) = true := by
      simp [acts, and_assoc]
    refine ⟨fun ha h1 h2 => ?_, fun ha h1 => ?_, fun h => ?_⟩
    · refine ⟨_, hexec ((if_neg (hacts.mp ha)).trans (if_pos (by rw [h1, h2]; rfl))), .put _ _ _, ?_⟩
      rw [State.put_ch]
      obtain ⟨-, -, htw, -, hpf⟩ := ha
      exact Chan.twinCommand_leaves htw hpf
    · have hnot : c.takesRuns = false := by simp [Chan.takesRuns, h1]
      refine ⟨_, hexec ((if_neg (hacts.mp ha)).trans ((if_neg (by rw [hnot, Bool.false_and]; decide)).trans (if_pos (beq_iff_eq.mpr h1)))),
        .put _ _ _, ?_⟩
      rw [State.put_ch]
      obtain ⟨-, -, htw, -, -⟩ := ha
      exact Chan.takeLockouts_leaves htw
    · by_cases ha : acts
      · obtain ⟨h1, h2⟩ := h.resolve_left (fun hn => hn ha)
        exact hexec ((if_neg (hacts.mp ha)).trans ((if_neg (by rw [h2, Bool.and_false]; decide)).trans
          (if_neg (by rw [h1]; decide))))
      · exact hexec (if_pos (Decidable.not_not.mp (fun hn => ha (hacts.mpr hn))))
  · intro d
    have hexec {x : Chan} (hx : (if !c.takesRuns then c else
        (if !c.part.refused.isEmpty || c.part.runsSince != runs then d.missingTransfer s.factory.variant else d).sendLockouts ch
          cycle) = x) : exec (.deltaEnd ch l cycle runs) s = .next (s.put ch x) := by
      show execDeltaEnd ch l cycle runs s = _
      rw [execDeltaEnd, State.takenP_of_takes _ hl ht]
      exact congrArg (fun x => Host.Outcome.next (s.put ch x)) hx
    have hwhole (h1 : c.takesRuns = true) (h2 : c.part.refused = []) (h3 : c.part.runsSince = runs) :
        exec (.deltaEnd ch l cycle runs) s = .next (s.put ch (d.sendLockouts ch cycle)) :=
      hexec ((if_neg (by rw [h1]; decide)).trans (congrArg (fun (x : Chan) => x.sendLockouts ch cycle)
        (if_neg (by rw [h2, h3]; simp))))
    refine ⟨fun h1 h2 h3 h4 => ?_, fun h1 h2 h3 h4 h5 => ?_, fun h1 h2 h3 => ?_, fun h1 => ?_⟩
    · refine (hwhole h1 h2 h3).trans (congrArg (fun x => Host.Outcome.next (s.put ch x)) (if_neg ?_))
      rcases h4 with h | h
      · rw [show d.twin = false from h]
        simp
      · rw [show d.votes ch = false from h]
        simp
    · refine (hwhole h1 h2 h3).trans (congrArg (fun x => Host.Outcome.next (s.put ch x)) ((if_pos ?_).trans rfl))
      rw [show d.twin = true from h4, show d.votes ch = true from h5, show d.part.role = 2 from ((Chan.takesRuns_iff c).mp h1).2.1]
      rfl
    · have hmiss : (!c.part.refused.isEmpty || c.part.runsSince != runs) = true := by
        rcases h2 with h | h <;> simp [h]
      obtain ⟨k1, k2⟩ := Chan.missingTransfer_leaves (c := d) s.factory.variant ((Chan.takesRuns_iff c).mp h1).2.1 h3
      obtain ⟨k3, k4⟩ := (d.missingTransfer s.factory.variant).sendLockouts_part ch cycle
      refine ⟨_, hexec ((if_neg (by rw [h1]; decide)).trans (congrArg (fun (x : Chan) => x.sendLockouts ch cycle) (if_pos hmiss))),
        .put _ _ _, ?_⟩
      rw [State.put_ch]
      exact ⟨k3.trans k1, k4.trans k2⟩
    · exact hexec (if_pos (by rw [h1]; rfl))
  · have hexec {x : Chan} (hx : (if c.running && c.follows then
        { c with part := { c.part with switchAt := cycle, swReady := false } } else c) = x) :
        exec (.switchTransfer ch l cycle) s = .next (s.put ch x) := by
      show execSwitchTransfer ch l cycle s = _
      rw [execSwitchTransfer, State.takenP_of_takes _ hl ht]
      exact congrArg (fun x => Host.Outcome.next (s.put ch x)) hx
    refine ⟨fun h1 h2 => hexec (if_pos (by rw [h1, h2]; rfl)), fun h => hexec (if_neg ?_)⟩
    rcases h with h | h <;> simp [h]

end Sys2Proof.Machine

/-! PROOFS. The full transfer of state to the standby (spec/11 R305 to R308, R317). -/

namespace Sys2Proof.Machine

open Sys2Proof

/-! ### Pages sent by the active (R306) -/

/-- Pages read and sent, one after the other. -/
def Chan.sendXfers (c : Chan) (ps : List Nat) : Chan := ps.foldl Chan.sendXfer c

theorem Chan.sendXfers_leaves (c : Chan) (ps : List Nat) :
    (c.sendXfers ps).part = c.part ∧ (∀ m ∈ c.pwait, m ∈ (c.sendXfers ps).pwait) ∧
      ∀ p ∈ ps, .xfer p (pageCrc (c.pageWords p)) (c.pageWords p) ∈ (c.sendXfers ps).pwait := by
  induction ps generalizing c with
  | nil => exact ⟨rfl, fun _ h => h, fun _ h => absurd h (by simp)⟩
  | cons n ps ih =>
    obtain ⟨h1, h2, h3⟩ := ih (c.sendXfer n)
    refine ⟨h1, fun m hm => h2 m (List.mem_append_left _ hm), fun p hp => ?_⟩
    rcases List.mem_cons.mp hp with rfl | hp
    · exact h2 _ (List.mem_append_right _ (List.mem_singleton.mpr rfl))
    · exact h3 p hp

theorem mem_insertNat {n a : Nat} {l : List Nat} : n ∈ insertNat a l ↔ n = a ∨ n ∈ l := by
  induction l with
  | nil => simp [insertNat]
  | cons b l ih =>
    unfold insertNat
    split
    · simp
    · rw [List.mem_cons, ih, List.mem_cons]
      exact or_left_comm

theorem mem_sortNat {n : Nat} {l : List Nat} (h : n ∈ l) : n ∈ sortNat l := by
  have key (l ms : List Nat) (h : n ∈ l ∨ n ∈ ms) : n ∈ l.foldl (fun ms n => insertNat n ms) ms := by
    induction l generalizing ms with
    | nil => exact h.resolve_left (by simp)
    | cons a l ih =>
      refine ih _ ?_
      rcases h with h | h
      · rcases List.mem_cons.mp h with rfl | h
        · exact .inr (mem_insertNat.mpr (.inl rfl))
        · exact .inl h
      · exact .inr (mem_insertNat.mpr (.inr h))
  exact key l [] (.inl h)

/-- The active at the start of PAGES. -/
def Chan.pagesBegun (c : Chan) : Chan :=
  { c with
    part := { c.part with phase := 1, feeding := false, sending := some (sortNat c.pagesInUse), since := c.clock }
    pwait := [] }

theorem Chan.startPages_eq {c : Chan} {me : Ch} (hr : c.part.role = 1) (hv : c.votes me = true) :
    c.startPages me = if c.exchAllows then c.pagesBegun.flushXfers else c.psend (.req 3 0) :=
  if_pos (by rw [hr, hv]; rfl)

/-- The active as its pages go, one after the other. -/
def Chan.pagesGoing (c : Chan) : Chan := { c.pagesBegun with part := { c.pagesBegun.part with sending := some [] } }

theorem Chan.pagesGoing_pageWords (c : Chan) (p : Nat) : c.pagesGoing.pageWords p = c.pageWords p := rfl

theorem Chan.pagesBegun_flushed (c : Chan) :
    c.pagesBegun.flushXfers =
      if c.engineStopped 3 then c.pagesBegun else c.pagesGoing.sendXfers (sortNat c.pagesInUse) := rfl

/-! ### The standby's state rebuilt (R306, R307) -/

/-- What a transfer of state leaves in the resolver and the partner block. -/
theorem Chan.adoptX_leaves (c : Chan) (v : Variant) (x : XStateXfer) (main : Nat) :
    (c.adoptX v x main).part = { c.part with applied := main } ∧ (c.adoptX v x main).res.estate = x.estate ∧
      (c.adoptX v x main).res.rstate = x.rstate := by
  unfold Chan.adoptX
  extract_lets pages d e blocks res part f p
  have hd : e.part = c.part := by
    obtain ⟨b, g, h, -⟩ := d.takePages_eq pages (fun t => x.taskCycles.getD t 0)
    exact (congrArg (fun (q : Chan) => q.part) h).trans rfl
  obtain ⟨m, ts, h, -⟩ := (f.writeInstances v).stampStates_eq v f.mainCycle
  have hf : (f.writeInstances v).part = { e.part with applied := main } := rfl
  rw [h]
  exact ⟨hf.trans (by rw [hd]), rfl, rfl⟩

/-! ### The rows -/

section

variable {s : State} {ch : Ch} {l : PLink}

/-- What a standby does that may ask for a transfer. -/
def Chan.asksFor (c : Chan) (b : Beat) : Chan :=
  if c.sameImage b then
    { c with
      part :=
        { c.part.dropTransfer with
          sync := 1, phase := 1, pagesLeft := c.pagesInUse.length, commanded := false, since := c.clock } }.psend
      (.req 1 0)
  else { c with part := { c.part with cause := 7 } }

/-- A page held. -/
def Chan.holdPage (c : Chan) (page : Nat) (crc : Word) (data : List Word) : Chan :=
  let c := { c with part := { c.part with pages := tabPut c.part.pages page (crc, data) } }
  { c with part := { c.part with pagesLeft := c.xferMissing } }

theorem exec_xfer {page : Nat} {crc : Word} {data : List Word} (hl : (s.ch ch).live = true)
    (ht : (s.ch ch).TakesPartner l (.xfer page crc data)) :
    exec (.xfer ch l page crc data) s = .next (s.put ch
      (if !((s.ch ch).readPartner l).receiving then (s.ch ch).readPartner l
        else if pageCrc data == crc then ((s.ch ch).readPartner l).holdPage page crc data
        else ((s.ch ch).readPartner l).refuseTransfers [l.link.seq])) := by
  show execXfer ch l page crc data s = _
  rw [execXfer, State.takenP_of_takes _ hl ht]
  rfl

/-- What a channel does with a REQ. -/
def Chan.takeReq (c : Chan) (me : Ch) (code n : Nat) : Chan :=
  if !c.running then c
  else if code == 1 then c.startPages me
  else if code == 2 then (if c.part.role == 1 && c.votes me then c.sendAgain n else c)
  else if code == 3 then (if c.transferring then c.abandon 11 else c)
  else c

theorem Chan.takeReq_one {c : Chan} {me : Ch} {n : Nat} (hr : c.running = true) : c.takeReq me 1 n = c.startPages me := by
  simp [Chan.takeReq, hr]

theorem Chan.takeReq_again {c : Chan} {me : Ch} {n : Nat} (hr : c.running = true) (h1 : c.part.role = 1)
    (hv : c.votes me = true) : c.takeReq me 2 n = c.sendAgain n := by
  simp [Chan.takeReq, hr, h1, hv]

theorem Chan.takeReq_ends {c : Chan} {me : Ch} {n : Nat} (hr : c.running = true) (ht : c.transferring = true) :
    c.takeReq me 3 n = c.abandon 11 := by
  simp [Chan.takeReq, hr, ht]

theorem Chan.takeReq_same {c : Chan} {me : Ch} {code n : Nat}
    (h : c.running = false ∨ (code = 1 ∧ c.part.role ≠ 1) ∨ (code = 3 ∧ c.transferring = false)) : c.takeReq me code n = c := by
  rcases h with h | ⟨rfl, h⟩ | ⟨rfl, h⟩
  · simp [Chan.takeReq, h]
  · simp [Chan.takeReq, Chan.startPages, h]
  · simp [Chan.takeReq, h]

theorem exec_req {code n : Nat} (hl : (s.ch ch).live = true) (ht : (s.ch ch).TakesPartner l (.req code n)) :
    exec (.req ch l code n) s = .next (s.put ch (((s.ch ch).readPartner l).takeReq ch code n)) := by
  show execReq ch l code n s = _
  rw [execReq, State.takenP_of_takes _ hl ht]
  rfl

/-- What a standby that is being brought level does with COMMIT. -/
def Chan.takeCommit (c : Chan) (v : Variant) (cycle pages : Nat) (digest : BitVec 64) (x : XStateXfer) : Chan :=
  if c.xferMissing == 0 && pages == c.pagesInUse.length && c.ownCommit x == digest then
    { c.adoptX v x cycle with
      part := { (c.adoptX v x cycle).part with
        phase := 3, commit := some (cycle, pages, digest), commitOwn := c.ownCommit x } }
  else c.abandon 9

theorem exec_commit {cycle pages : Nat} {digest : BitVec 64} (hl : (s.ch ch).live = true)
    (ht : (s.ch ch).TakesPartner l (.commit cycle pages digest)) (hr : ((s.ch ch).readPartner l).receiving = true) :
    (((s.ch ch).readPartner l).part.xstate = none →
      exec (.commit ch l cycle pages digest) s = .next (s.put ch (((s.ch ch).readPartner l).abandon 5))) ∧
      ∀ x, ((s.ch ch).readPartner l).part.xstate = some x → exec (.commit ch l cycle pages digest) s =
        .next (s.put ch (((s.ch ch).readPartner l).takeCommit s.factory.variant cycle pages digest x)) := by
  refine ⟨fun h => ?_, fun x h => ?_⟩
  · show execCommit ch l cycle pages digest s = _
    rw [execCommit, State.takenP_of_takes _ hl ht]
    dsimp only
    rw [if_neg (by rw [hr]; decide), h]
  · show execCommit ch l cycle pages digest s = _
    rw [execCommit, State.takenP_of_takes _ hl ht]
    dsimp only
    rw [if_neg (by rw [hr]; decide), h]
    rfl

/-- The standby synchronised. -/
def Chan.synchronised (c : Chan) : Chan :=
  { c with
    part := { c.part with sync := 2, phase := 4, pages := [], xstate := none, commit := none, pagesLeft := 0 } }.emit
    .syncChange 0 []

theorem exec_xferVerify {cycle pages : Nat} {d : BitVec 64} (hl : (s.ch ch).live = true) (hr : (s.ch ch).receiving = true)
    (hp : (s.ch ch).part.phase = 3) (hc : (s.ch ch).part.commit = some (cycle, pages, d)) :
    exec (.xferVerify ch) s =
      if (s.ch ch).part.commitOwn == d &&
          decide (2 ≤ (((s.ch ch).countedPartner ch).filter (fun k => k.commit == d)).length) then
        .next ((s.put ch (s.ch ch).synchronised).replayNext ch)
      else .next s := by
  show execXferVerify ch s = _
  unfold execXferVerify
  dsimp only
  rw [hl, hr, hp, hc]
  rfl

end

theorem Chan.receiving_iff (c : Chan) : c.receiving = true ↔ c.running = true ∧ c.part.role = 2 ∧ c.part.sync = 1 := by
  simp [Chan.receiving, and_assoc]

/-- Settles O47: what the standby asks for, what the active sends, and how the standby takes it. -/
theorem stateIsTransferred : Obligations.StateIsTransferred := by
  unfold Obligations.StateIsTransferred
  refine ⟨fun s ch hl => ?_, fun s ch l hl => ?_⟩
  · intro c delay limit
    refine ⟨fun b hb hr hs hv h2 h0 hw h1 hp => ?_, fun h => ?_, fun hr ht hp => ?_, fun h => ?_, fun cycle pages d hr hp hc => ?_⟩
    · have hwant : ((c.act 0x1807).testBit 31 || c.part.commanded) = true := by simpa using hw
      have hexec : exec (.xferRequest ch) s = .next (s.put ch (c.asksFor b)) := by
        show execXferRequest ch s = _
        rw [execXferRequest, State.onLive_eq _ hl]
        refine congrArg (fun x => Host.Outcome.next (s.put ch x)) ?_
        dsimp only
        split
        · next hn => exact absurd (hb.symm.trans hn) (by simp)
        next b' hb' =>
        obtain rfl : b = b' := Option.some.inj (hb.symm.trans hb')
        refine (if_pos ?_).trans rfl
        simp only [Bool.and_eq_true, Bool.not_eq_true', beq_iff_eq]
        exact ⟨⟨⟨⟨⟨⟨⟨hr, hs⟩, hv⟩, h2⟩, h0⟩, hwant⟩, h1⟩, hp⟩
      refine ⟨fun hi => ?_, fun hi => ?_⟩
      · rw [Chan.asksFor, if_pos hi] at hexec
        refine ⟨_, hexec, .put _ _ _, ?_⟩
        rw [State.put_ch]
        exact ⟨rfl, rfl, rfl, rfl⟩
      · rw [hexec, Chan.asksFor, if_neg (by rw [hi]; decide)]
    · refine congrArg Host.Outcome.next (State.onLive_same ?_)
      dsimp only
      split
      · rfl
      · next b hb =>
        refine if_neg fun hcond => ?_
        simp only [Bool.and_eq_true, beq_iff_eq] at hcond
        obtain ⟨⟨⟨⟨⟨⟨⟨h1, -⟩, -⟩, h4⟩, h5⟩, -⟩, -⟩, h8⟩ := hcond
        rcases h with h | h | h | h | h
        · exact absurd (hb.symm.trans h) (by simp)
        · exact absurd (h1.symm.trans h) (by decide)
        · exact h h4
        · exact h h5
        · exact absurd (h8.symm.trans h) (by decide)
    · have hexec : exec (.xferTimeout ch) s = .next (s.put ch (c.abandon 8)) := by
        show execXferTimeout ch s = _
        rw [execXferTimeout, State.onLive_eq _ hl]
        exact congrArg (fun x => Host.Outcome.next (s.put ch x))
          (if_pos (Bool.and_eq_true_iff.mpr ⟨Bool.and_eq_true_iff.mpr ⟨hr, ht⟩, hp⟩))
      refine ⟨_, hexec, .put _ _ _, ?_⟩
      rw [State.put_ch, (c.abandon_part 8).1, (c.abandon_part 8).2]
      exact ⟨rfl, rfl, rfl⟩
    · refine congrArg Host.Outcome.next (State.onLive_same (if_neg fun hcond => ?_))
      simp only [Bool.and_eq_true] at hcond
      obtain ⟨⟨h1, h2⟩, h3⟩ := hcond
      rcases h with h | h | h
      · exact absurd (h1.symm.trans h) (by decide)
      · exact absurd (h2.symm.trans h) (by decide)
      · exact absurd (h3.symm.trans h) (by decide)
    · have hexec := exec_xferVerify hl hr hp hc
      refine ⟨fun ho h2 h => ?_, fun h => ?_⟩
      · refine ⟨s.put ch c.synchronised, ?_, .put _ _ _, ?_⟩
        · rw [hexec, if_pos (Bool.and_eq_true_iff.mpr ⟨beq_iff_eq.mpr ho, decide_eq_true h2⟩), State.replayNext_same]
          rw [State.put_ch, Chan.synchronised, Chan.emit_eq]
          exact .inr h
        · rw [State.put_ch, Chan.synchronised, Chan.emit_eq]
          exact ⟨rfl, rfl, rfl⟩
      · refine hexec.trans (if_neg ?_)
        rcases h with h | h
        · simp [show (s.ch ch).part.commitOwn ≠ d from h]
        · rw [decide_eq_false (Nat.not_le.mpr h), Bool.and_false]
          decide
  · intro c
    refine ⟨fun n ht hr h1 hv => ?_, fun n ht hr h1 hv => ?_, fun n ht hr htr => ?_, fun code n ht h => ?_,
      fun page crc data ht => ?_, fun x ht => ?_, fun cycle pages digest ht => ?_⟩
    · have hexec : exec (.req ch l 1 n) s = .next (s.put ch (c.startPages ch)) := by
        rw [exec_req hl ht, Chan.takeReq_one hr]
      refine ⟨fun ha he => ?_, fun ha he => ?_, fun ha => ?_⟩
      · rw [Chan.startPages_eq h1 hv, if_pos ha, Chan.pagesBegun_flushed, if_neg (by rw [he]; decide)] at hexec
        obtain ⟨hpart, -, hsent⟩ := c.pagesGoing.sendXfers_leaves (sortNat c.pagesInUse)
        refine ⟨_, hexec, .put _ _ _, ?_⟩
        rw [State.put_ch, hpart]
        exact ⟨rfl, h1, fun p hp => c.pagesGoing_pageWords p ▸ hsent p (mem_sortNat hp)⟩
      · rw [Chan.startPages_eq h1 hv, if_pos ha, Chan.pagesBegun_flushed, if_pos he] at hexec
        refine ⟨_, hexec, .put _ _ _, ?_⟩
        rw [State.put_ch]
        exact ⟨rfl, rfl⟩
      · rw [hexec, Chan.startPages_eq h1 hv, if_neg (by rw [ha]; decide)]
        rfl
    · have hexec : exec (.req ch l 2 n) s = .next (s.put ch (c.sendAgain n)) := by
        rw [exec_req hl ht, Chan.takeReq_again hr h1 hv]
      refine ⟨fun e he => ?_, fun he => ?_⟩
      · rw [hexec, Chan.sendAgain, he]
      · rw [hexec, Chan.sendAgain, he]
    · have hexec : exec (.req ch l 3 n) s = .next (s.put ch (c.abandon 11)) := by
        rw [exec_req hl ht, Chan.takeReq_ends hr htr]
      refine ⟨_, hexec, .put _ _ _, ?_⟩
      rw [State.put_ch, (c.abandon_part 11).1]
      exact ⟨rfl, rfl⟩
    · rw [exec_req hl ht, Chan.takeReq_same h]
    · have hexec := exec_xfer hl ht
      refine ⟨fun hr hcrc => ?_, fun hr hcrc => ?_, fun hr => ?_⟩
      · rw [if_neg (by rw [show Chan.receiving _ = true from hr]; decide), if_pos (beq_iff_eq.mpr hcrc)] at hexec
        refine ⟨_, hexec, .put _ _ _, ?_⟩
        rw [State.put_ch]
        exact ⟨rfl, rfl⟩
      · rw [hexec, if_neg (by rw [show Chan.receiving _ = true from hr]; decide), if_neg (by simpa using hcrc)]
        exact congrArg (fun x => Host.Outcome.next (s.put ch x)) (if_pos (beq_iff_eq.mpr ((Chan.receiving_iff c).mp hr).2.1))
      · rw [hexec, if_pos (by rw [show Chan.receiving _ = false from hr]; rfl)]
    · have hexec {y : Chan} (hy : (if c.receiving then { c with part := { c.part with xstate := some x, phase := 2 } } else c) = y) :
          exec (.xstate ch l x) s = .next (s.put ch y) := by
        show execXstate ch l x s = _
        rw [execXstate, State.takenP_of_takes _ hl ht]
        exact congrArg (fun x => Host.Outcome.next (s.put ch x)) hy
      exact ⟨fun hr => hexec (if_pos hr), fun hr => hexec (if_neg (by rw [hr]; decide))⟩
    · have hnine (hr : c.receiving = true) (cause : Nat) : (c.abandon cause).part.cause = cause ∧ (c.abandon cause).part.sync = 0 := by
        rw [(c.abandon_part cause).1]
        exact ⟨rfl, Part.dropTransfer_sync ((Chan.receiving_iff c).mp hr).2.1⟩
      refine ⟨fun hr => ?_, fun hr hx => ?_, fun x hr hx h0 hp hd => ?_, fun x hr hx h => ?_⟩
      · show execCommit ch l cycle pages digest s = _
        rw [execCommit, State.takenP_of_takes _ hl ht]
        exact congrArg (fun x => Host.Outcome.next (s.put ch x)) (if_pos (by rw [hr]; rfl))
      · refine ⟨_, (exec_commit hl ht hr).1 hx, .put _ _ _, ?_⟩
        rw [State.put_ch]
        exact hnine hr 5
      · obtain ⟨h1, h2, h3⟩ := c.adoptX_leaves s.factory.variant x cycle
        have hexec := (exec_commit hl ht hr).2 x hx
        rw [Chan.takeCommit, if_pos (by rw [show Chan.xferMissing _ = 0 from h0, ← hd]; simp [c, hp])] at hexec
        refine ⟨_, hexec, .put _ _ _, ?_⟩
        rw [State.put_ch]
        refine ⟨rfl, rfl, hd, h2, h3, ?_⟩
        exact congrArg Part.applied h1
      · refine ⟨_, (exec_commit hl ht hr).2 x hx, .put _ _ _, ?_⟩
        rw [State.put_ch, Chan.takeCommit, if_neg]
        · exact hnine hr 9
        · intro hb
          simp only [Bool.and_eq_true, beq_iff_eq] at hb
          obtain ⟨⟨k1, k2⟩, k3⟩ := hb
          rcases h with h | h | h
          · exact h k1
          · exact h k2
          · exact h k3

end Sys2Proof.Machine

/-! PROOFS. The background self-test (spec/13 R344 to R354): what a slice, an abandoned slice and the limits of a round leave. -/

namespace Sys2Proof.Machine

open Sys2Proof

/-! ### Blocks back in service -/

theorem Chan.zeroRange_besideMem (c : Chan) (me : Ch) (v : Variant) (lo len : Nat) :
    (c.zeroRange me v lo len).besideMem = c.besideMem := by
  unfold Chan.zeroRange
  split <;> rfl

theorem Chan.copyRange_besideMem (c : Chan) (me : Ch) (v : Variant) (src dst len : Nat) :
    (c.copyRange me v src dst len).besideMem = c.besideMem := by
  unfold Chan.copyRange
  split <;> rfl

theorem Chan.loadSlot_besideMem (c : Chan) (v : Variant) (g : Image) (i : Nat) :
    (c.loadSlot v g i).besideMem = c.besideMem := by
  unfold Chan.loadSlot
  split <;> rfl

theorem Chan.slotBack_besideMem (c : Chan) (me : Ch) (v : Variant) (i : Nat) :
    (c.slotBack me v i).besideMem = c.besideMem := by
  unfold Chan.slotBack
  split
  · split
    · exact c.zeroRange_besideMem _ _ _ _
    · split
      · rfl
      · exact c.loadSlot_besideMem _ _ _
  · exact c.zeroRange_besideMem _ _ _ _

/-- A block back in service leaves the channel as it was beside memory and tiles. -/
theorem Chan.returned_besideMem (c : Chan) (me : Ch) (v : Variant) (block slice : Nat) :
    (c.returned me v block slice).besideMem = c.besideMem := by
  unfold Chan.returned
  extract_lets flip a z
  repeat' split
  · rfl
  · exact c.slotBack_besideMem _ _ _
  · rfl
  · exact (Chan.copyRange_besideMem _ _ _ _ _ _).trans (c.copyRange_besideMem _ _ _ _ _)
  · rfl
  · rfl
  · rfl
  · exact c.zeroRange_besideMem _ _ _ _
  · rfl

theorem Chan.bist_of_besideMem {c d : Chan} (h : d.besideMem = c.besideMem) : d.bist = c.bist :=
  (congrArg (fun (x : Chan) => x.bist) h :)

/-! ### What a slice leaves of the self-test -/

theorem Bist.complete_counts (b : Bist) (total now : Nat) (forward : Bool) (block slice : Nat) :
    (b.complete total now forward block slice).sliceCnt = inc 16 b.sliceCnt ∧
      (b.complete total now forward block slice).block = b.block ∧
      (b.complete total now forward block slice).turn = b.turn ∧
      (b.complete total now forward block slice).fail = b.fail ∧
      (b.complete total now forward block slice).lastFail = b.lastFail := by
  unfold Bist.complete
  dsimp only
  split
  · exact ⟨rfl, rfl, rfl, rfl, rfl⟩
  · split <;> exact ⟨rfl, rfl, rfl, rfl, rfl⟩

/-- The last slice of a round ends it. -/
theorem Bist.complete_last {b : Bist} {total : Nat} (now block slice : Nat) (hin : b.inRound = true) (hd : b.done + 1 = total) :
    (b.complete total now false block slice).inRound = false ∧
      (b.complete total now false block slice).rounds = inc 16 b.rounds := by
  have hlast : (b.done + 1 == total && b.inRound) = true := by simp [hin, hd]
  constructor
  · exact congrArg Bist.inRound (if_pos hlast)
  · exact congrArg Bist.rounds (if_pos hlast)

/-- What a slice leaves before it is counted: block and turn noted, and a signature that differs. -/
structure Bist.RanSlice (a b : Bist) (main run block slice : Nat) (ok : Bool) : Prop where
  block_eq : b.block = block
  turn : b.turn = some (main, run + 1)
  count : b.sliceCnt = a.sliceCnt
  done : b.done = a.done
  inRound : b.inRound = a.inRound
  rounds : b.rounds = a.rounds
  fail : b.fail = if ok then a.fail else putBit a.fail block true
  lastFail : ok = false → b.lastFail = w32 (slice % 512 + block % 32 * 2 ^ 9 + main % 65536 * 2 ^ 16)

theorem Chan.switchTested_bist (c : Chan) (me : Ch) (g : Nat) (ok : Bool) (hot : List (Nat × Pair)) :
    (c.switchTested me g ok hot).bist = { c.bist with due := putBit c.bist.due g false } := rfl

theorem Bist.RanSlice.due {a b : Bist} {main run block slice : Nat} {ok : Bool} (h : a.RanSlice b main run block slice ok)
    (d : BitVec 4) : a.RanSlice { b with due := d } main run block slice ok := ⟨h.1, h.2, h.3, h.4, h.5, h.6, h.7, h.8⟩

/-- The self-test after a slice is what the slice has left, completed. -/
theorem Chan.slice_bist (c : Chan) (me : Ch) (v : Variant) (block slice : Nat) (results : List Word) (hot : List (Nat × Pair)) :
    ∃ b now, (c.slice me v block slice results hot).bist = b.complete c.roundSlices now (c.isForward block slice) block slice ∧
      c.bist.RanSlice b c.mainCycle c.slicesRun block slice (c.signatureOk block slice results) := by
  unfold Chan.slice
  extract_lets ok forward total c1 c2 c3 c4
  have h2 : c.bist.RanSlice c2.bist c.mainCycle c.slicesRun block slice ok := by
    unfold c2
    split
    · next h => exact ⟨rfl, rfl, rfl, rfl, rfl, rfl, (if_pos h).symm, fun hf => by rw [hf] at h; cases h⟩
    · next h =>
      rw [Chan.bistFailed, Chan.emit_bist]
      exact ⟨rfl, rfl, rfl, rfl, rfl, rfl, (if_neg h).symm, fun _ => rfl⟩
  have h3 : c3.bist = c2.bist := Chan.bist_of_besideMem (c2.returned_besideMem _ _ _ _)
  refine ⟨c4.bist, c4.clock, rfl, ?_⟩
  unfold c4
  split
  · rw [Chan.switchTested_bist, h3]
    exact h2.due _
  · rw [h3]
    exact h2

/-! ### The rows -/

section

variable {s : State} {ch : Ch}

theorem execBistSlice_runs {block slice idle : Nat} {results : List Word} {hot : List (Nat × Pair)} (hi : 1000 ≤ idle)
    (hr : (s.ch ch).runsSlice ch block slice = true) :
    exec (.bistSlice ch block slice idle results hot) s =
      .next (if block == 16 then (s.put ch ((s.ch ch).slice ch s.factory.variant block slice results hot)).shareSwitch
        else s.put ch ((s.ch ch).slice ch s.factory.variant block slice results hot)) :=
  if_pos (by simp [hi, hr])

/-- BIST.SWITCH brought up to date is all that the channels see of it. -/
theorem State.shareSwitch_ch (s : State) (x : Ch) :
    ∃ w, s.shareSwitch.ch x = { s.ch x with dout := { (s.ch x).dout with switchAll := w } } := by
  rw [State.shareSwitch, State.allLive_ch]
  split
  · exact ⟨_, rfl⟩
  · exact ⟨_, rfl⟩

/-- A slice run: the self-test of its channel afterwards. -/
theorem execBistSlice_bist {block slice idle : Nat} (results : List Word) (hot : List (Nat × Pair)) (hi : 1000 ≤ idle)
    (hr : (s.ch ch).runsSlice ch block slice = true) :
    ∃ t b now, exec (.bistSlice ch block slice idle results hot) s = .next t ∧
      (t.ch ch).bist =
        b.complete (s.ch ch).roundSlices now ((s.ch ch).isForward block slice) block slice ∧
      (s.ch ch).bist.RanSlice b (s.ch ch).mainCycle (s.ch ch).slicesRun block slice
        ((s.ch ch).signatureOk block slice results) ∧
      (block ≠ 16 → s.OnlyAt t ch) ∧
      (∀ x, x ≠ ch → ∃ w, t.ch x = { s.ch x with dout := { (s.ch x).dout with switchAll := w } }) := by
  obtain ⟨b, now, hb, hran⟩ := (s.ch ch).slice_bist ch s.factory.variant block slice results hot
  refine ⟨_, b, now, execBistSlice_runs hi hr, ?_, hran, ?_, ?_⟩
  · rw [← hb]
    split
    · obtain ⟨w, hw⟩ := State.shareSwitch_ch (s.put ch ((s.ch ch).slice ch s.factory.variant block slice results hot)) ch
      rw [hw, State.put_ch]
    · rw [State.put_ch]
  · intro hne
    rw [if_neg (by simpa using hne)]
    exact .put _ _ _
  · intro x hx
    split
    · obtain ⟨w, hw⟩ := State.shareSwitch_ch (s.put ch ((s.ch ch).slice ch s.factory.variant block slice results hot)) x
      rw [State.put_ch_ne s _ hx] at hw
      exact ⟨w, hw⟩
    · exact ⟨_, State.put_ch_ne s _ hx⟩

/-- Both ways in which a slice does not run to its end do the same. -/
theorem exec_bistStopped {i : Instr} {block slice : Nat}
    (hi : i = Instr.bistSliceTimeout ch block slice ∨ i = Instr.bistSliceAbandon ch block slice) :
    exec i s = .next (s.onLive ch (fun c =>
      if c.runsSlice ch block slice then c.abandonSlice ch s.factory.variant block slice else c)) := by
  rcases hi with rfl | rfl <;> rfl

/-- An abandoned slice is repeated, unless it was a test brought forward. -/
theorem Chan.abandonSlice_again (c : Chan) (me : Ch) (v : Variant) {block slice : Nat} (h : c.isForward block slice = false) :
    (c.mainCycle, block, slice) ∈ (c.abandonSlice me v block slice).bist.again := by
  show _ ∈ (if c.isForward block slice then _ else _)
  rw [h, if_neg Bool.false_ne_true]
  have hm : (c.returned me v block slice).mainCycle = c.mainCycle :=
    (congrArg (fun (x : Chan) => x.mainCycle) (c.returned_besideMem me v block slice) :)
  rw [hm]
  exact List.mem_append_right _ (List.mem_singleton.mpr rfl)

end

/-- Settles O55: a slice run is counted before its signature is judged, and only the switch test reaches the other channels. -/
theorem selfTestTakesItsTurns : Obligations.SelfTestTakesItsTurns := by
  unfold Obligations.SelfTestTakesItsTurns
  intro s ch hl
  refine ⟨?_, ?_, ?_, ?_, ?_, ?_, ?_⟩
  · intro block slice idle results hot hi hr hb
    obtain ⟨t, b, now, ht, htb, hran, hhome, hothers⟩ := execBistSlice_bist results hot hi hr
    obtain ⟨hcnt, hblk, hturn, hfail, hlast⟩ :=
      b.complete_counts (s.ch ch).roundSlices now ((s.ch ch).isForward block slice) block slice
    rw [← htb] at hcnt hblk hturn hfail hlast
    refine ⟨⟨t, ht, ?_, ?_, ?_⟩, fun hd => ⟨t, ht, ?_, ?_⟩, fun he => ⟨t, ht, ?_⟩, fun hne => ⟨t, ht, hhome hne⟩,
      fun hf hin hd => ⟨t, ht, ?_⟩, fun _ => ⟨t, ht, fun x _ hx => hothers x hx⟩⟩
    · rw [hcnt, hran.count]
    · rw [hblk, hran.block_eq]
    · rw [hturn, hran.turn]
    · have hok : (s.ch ch).signatureOk block slice results = false := beq_false_of_ne hd
      rw [hfail, hran.fail, hok, if_neg Bool.false_ne_true]
      rw [putBit_getLsbD _ _ _ _ hb, if_pos rfl]
    · rw [hlast, hran.lastFail (beq_false_of_ne hd)]
    · have hok : (s.ch ch).signatureOk block slice results = true := beq_iff_eq.mpr he
      rw [hfail, hran.fail, hok, if_pos rfl]
    · rw [htb, hf, ← hran.rounds]
      exact Bist.complete_last now block slice (hran.inRound.trans hin) (by rw [hran.done, hd])
  · intro block slice idle results hot h
    refine if_neg ?_
    rcases h with h | h
    · simp [Nat.not_le.mpr h]
    · simp [h]
  · intro i block slice hi
    refine ⟨fun hr => ?_, fun hr => ?_⟩
    · refine ⟨_, (exec_bistStopped hi).trans (congrArg Host.Outcome.next ((State.onLive_eq _ hl).trans
        (congrArg (s.put ch) (if_pos hr)))), .put _ _ _, ?_⟩
      rw [State.put_ch]
      exact ⟨rfl, rfl, rfl, Chan.abandonSlice_again _ _ _⟩
    · exact (exec_bistStopped hi).trans (congrArg Host.Outcome.next (State.onLive_same (if_neg (by simp [hr]))))
  · intro hrun hpf hin hd
    show Host.Outcome.next _ = _
    rw [State.onLive_eq _ hl]
    have hdue : (s.ch ch).roundDue = true := by
      unfold Chan.roundDue
      rcases hd with hd | hd <;> simp [hrun, hpf, hin, hd]
    exact congrArg (fun x => Host.Outcome.next (s.put ch x)) (if_pos hdue)
  · intro hd
    exact congrArg Host.Outcome.next (State.onLive_same (if_neg (by simp [hd])))
  · intro hin hlate hp
    show Host.Outcome.next _ = _
    rw [State.onLive_eq _ hl]
    exact congrArg (fun x => Host.Outcome.next (s.put ch x)) (if_pos (by simp [hin, hlate, hp]))
  · intro h
    refine congrArg Host.Outcome.next (State.onLive_same (if_neg ?_))
    rcases h with h | h | h <;> simp [h]

end Sys2Proof.Machine

/-! PROOFS. The byte lanes of the memories (spec/12 R318, R322 to R324): what an address holds after a lane or a range is written. -/

namespace Sys2Proof.Machine

open Sys2Proof

/-! ### Listings -/

section

variable {α : Type}

/-- A replaced range reads as what replaces it, every other address as before. -/
theorem lookup_spliced (t new : List (Nat × α)) {lo len : Nat} (hnew : ∀ e ∈ new, lo ≤ e.1 ∧ e.1 < lo + len) (a : Nat) :
    (spliced t lo len new).lookup a = if lo ≤ a ∧ a < lo + len then new.lookup a else t.lookup a := by
  split
  · next h => exact lookup_spliced_in t new lo len a h
  · next h => exact lookup_spliced_out t new lo len a (by omega) hnew

theorem lookup_clipped (t : List (Nat × α)) (lo len a : Nat) :
    (spliced t lo len []).lookup a = if lo ≤ a ∧ a < lo + len then none else t.lookup a :=
  lookup_spliced t [] (fun _ he => nomatch he) a

/-- A moved entry is found where it was moved to. -/
theorem lookup_moved (t : List (Nat × α)) {src len dst k : Nat} (hk : k < len) :
    (moved t src len dst).lookup (dst + k) = t.lookup (src + k) := by
  have hfilter := lookup_filter_key t (within src len) (src + k)
  rw [if_pos (by simp [within, hk])] at hfilter
  rw [← hfilter, moved]
  have hin : ∀ e ∈ t.filter (fun e => within src len e.1), src ≤ e.1 := fun e he => by
    have := (List.mem_filter.mp he).2
    simp only [within, Bool.and_eq_true, decide_eq_true_eq] at this
    exact this.1
  generalize t.filter (fun e => within src len e.1) = u at hin
  induction u with
  | nil => rfl
  | cons e u ih =>
    have hle := hin e List.mem_cons_self
    rw [List.map_cons, List.lookup_cons, List.lookup_cons, ih fun e he => hin e (List.mem_cons_of_mem _ he)]
    have hkey : (dst + k == e.1 - src + dst) = (src + k == e.1) := by
      rw [Bool.eq_iff_iff, beq_iff_eq, beq_iff_eq]
      omega
    rw [hkey]

end

theorem lookup_cellOf (a : Nat) (b : Byte) : ((cellOf a b).lookup a).getD 0 = b := by
  unfold cellOf
  split
  · next h => rw [beq_iff_eq.mp h]; rfl
  · simp

/-! ### What the units keep at an address -/

/-- The channel without what the content that units keep at an address does not rest on: the listings of memory, tile marks, the
recorder, the correction log, the queue pool. -/
def Chan.kept (c : Chan) : Chan :=
  { c with
    mem := { (default : Mem) with tables := c.mem.tables }, tiles := default, recd := default, qm := default
    nv := { (default : Nv) with retired := c.nv.retired, bankMap := c.nv.bankMap } }

theorem Chan.kept_baseByte (c : Chan) (me : Ch) (v : Variant) (a : Nat) : c.kept.baseByte me v a = c.baseByte me v a := rfl

theorem Chan.kept_home (c : Chan) (a : Nat) : c.kept.nv.home a = c.nv.home a := rfl

section

variable {c d : Chan} (h : d.kept = c.kept)

include h

theorem Chan.baseByte_of_kept (me : Ch) (v : Variant) (a : Nat) : d.baseByte me v a = c.baseByte me v a := by
  rw [← d.kept_baseByte, h, c.kept_baseByte]

theorem Chan.home_of_kept (a : Nat) : d.nv.home a = c.nv.home a := by
  rw [← d.kept_home, h, c.kept_home]

end

/-- A channel's memory with the same content at every lane. -/
structure Chan.SameLanes (c d : Chan) : Prop where
  kept : d.kept = c.kept
  cells : d.mem.cells = c.mem.cells

namespace Chan.SameLanes

variable {c d e : Chan}

theorem refl (c : Chan) : c.SameLanes c := ⟨rfl, rfl⟩

theorem trans (h : c.SameLanes d) (k : d.SameLanes e) : c.SameLanes e := ⟨k.kept.trans h.kept, k.cells.trans h.cells⟩

theorem byteAt (h : c.SameLanes d) (me : Ch) (v : Variant) (a : Nat) : d.byteAt me v a = c.byteAt me v a := by
  have hd : d.mem.data = c.mem.data := congrArg Prod.fst h.cells
  rw [Chan.byteAt, Chan.byteAt, Chan.baseByte_of_kept h.kept, Mem.byte, Mem.byte, hd]

theorem diff (h : c.SameLanes d) (a : Nat) : d.mem.diff a = c.mem.diff a := by
  have hd : d.mem.check = c.mem.check := congrArg Prod.snd h.cells
  rw [Mem.diff, Mem.diff, hd]

theorem kindAt (h : c.SameLanes d) (me : Ch) (v : Variant) (a : Nat) : d.kindAt me v a = c.kindAt me v a := by
  rw [Chan.kindAt, Chan.kindAt, h.byteAt, h.diff]

end Chan.SameLanes

/-! ### One lane written -/

section

variable (c : Chan) (me : Ch) (v : Variant) (a : Nat) (b : Byte) (x : BitVec 5)

theorem Chan.putLane_byteAt (k : Nat) : (c.putLane me v a b x).byteAt me v k = if k = a then b else c.byteAt me v k := by
  split
  · next h => rw [h, Chan.byteAt_putLane_self]
  · next h => exact c.byteAt_putLane_ne me v b x h

theorem Chan.putLane_diff (k : Nat) : (c.putLane me v a b x).mem.diff k = if k = a then x else c.mem.diff k := by
  split
  · next h => rw [h]; exact c.mem.diff_putLane_self a _ x
  · next h => exact c.mem.diff_putLane_ne _ x h

end

/-- A poisoned lane is decoded as one. -/
theorem Chan.poisonAt_kindAt (c : Chan) (me : Ch) (v : Variant) (a : Nat) : (c.poisonAt me v a).kindAt me v a = .poisoned := by
  rw [Chan.poisonAt, Chan.kindAt_putLane_self]
  decide

/-! ### Ranges written -/

/-- Bytes listed one by one read as they are listed. -/
theorem lookup_cells (f : Byte → Nat → Byte) (bs : List Byte) (lo n k : Nat) (hk : k < bs.length) :
    (((bs.zipIdx n).flatMap (fun e => cellOf (lo + e.2) (f e.1 e.2))).lookup (lo + (n + k))).getD 0 =
      f (bs.getD k 0) (n + k) := by
  induction bs generalizing n k with
  | nil => exact absurd hk (Nat.not_lt_zero _)
  | cons b bs ih =>
    rw [List.zipIdx_cons, List.flatMap_cons, List.lookup_append]
    cases k with
    | zero =>
      have hrest : ((bs.zipIdx (n + 1)).flatMap (fun e => cellOf (lo + e.2) (f e.1 e.2))).lookup (lo + (n + 0)) = none := by
        rw [List.lookup_eq_none_iff]
        intro e he
        have := (cells_ok (fun k b => f b k) lo bs (n + 1)).1 e he
        simp only [bne_iff_ne, ne_eq]
        omega
      rw [hrest, Option.or_none]
      exact lookup_cellOf _ _
    | succ k =>
      have hfirst : (cellOf (lo + n) (f b n)).lookup (lo + (n + (k + 1))) = none := by
        rw [List.lookup_eq_none_iff]
        intro e he
        have := cellOf_in _ _ e he
        simp only [bne_iff_ne, ne_eq]
        omega
      have := ih (n + 1) k (Nat.lt_of_succ_lt_succ hk)
      rw [show n + (k + 1) = n + 1 + k by omega] at hfirst ⊢
      rw [hfirst, Option.none_or, this]
      rfl

theorem Chan.cellsFor_range (c : Chan) (me : Ch) (v : Variant) (lo : Nat) (bs : List Byte) :
    ∀ e ∈ c.cellsFor me v lo bs, lo ≤ e.1 ∧ e.1 < lo + bs.length :=
  (cells_ok (fun k b => b ^^^ c.baseByte me v (lo + k)) lo bs 0).1

section

variable (c : Chan) (me : Ch) (v : Variant) (lo : Nat)

theorem Chan.putBytes_kept (bs : List Byte) : (c.putBytes me v lo bs).kept = c.kept := rfl

theorem Chan.putBytes_byteAt (bs : List Byte) (a : Nat) :
    (c.putBytes me v lo bs).byteAt me v a =
      if lo ≤ a ∧ a < lo + bs.length then bs.getD (a - lo) 0 else c.byteAt me v a := by
  rw [Chan.byteAt, Chan.baseByte_of_kept (c.putBytes_kept me v lo bs)]
  show c.baseByte me v a ^^^ ((spliced c.mem.data lo bs.length (c.cellsFor me v lo bs)).lookup a).getD 0 = _
  rw [lookup_spliced _ _ (c.cellsFor_range me v lo bs)]
  split
  · next h =>
    have hl := lookup_cells (fun b k => b ^^^ c.baseByte me v (lo + k)) bs lo 0 (a - lo) (by omega)
    rw [show lo + (0 + (a - lo)) = a by omega] at hl
    rw [Chan.cellsFor, hl, BitVec.xor_comm (bs.getD _ _), ← BitVec.xor_assoc,
      BitVec.xor_self, BitVec.zero_xor]
  · rfl

theorem Chan.putBytes_diff (bs : List Byte) (a : Nat) :
    (c.putBytes me v lo bs).mem.diff a = if lo ≤ a ∧ a < lo + bs.length then 0 else c.mem.diff a := by
  show ((spliced c.mem.check lo bs.length []).lookup a).getD 0 = _
  rw [lookup_clipped]
  split <;> rfl

/-- Where no part of a range is kept by a unit, none of its addresses is. -/
theorem Chan.hasBase_within {c : Chan} {v : Variant} {lo len a : Nat} (h : c.hasBase v lo len = false) (ha : lo ≤ a)
    (hb : a < lo + len) : c.hasBase v a 1 = false := by
  refine Bool.eq_false_iff.mpr fun hone => Bool.eq_false_iff.mp h ?_
  unfold Chan.hasBase at hone ⊢
  simp only [Bool.or_eq_true, Bool.and_eq_true, decide_eq_true_eq] at hone ⊢
  exact hone.imp (.imp_right fun m => by omega) (.imp_right (.imp (.imp (.imp (fun m => by omega) (fun m => by omega))
    (fun m => by omega)) (fun m => by omega)))

theorem Chan.baseByte_of_not {c : Chan} {me : Ch} {v : Variant} {a : Nat} (h : c.hasBase v a 1 = false) :
    c.baseByte me v a = 0 := if_neg (by simp [h])

theorem Chan.rewrite_kept (len : Nat) : (c.rewrite lo len).kept = c.kept := rfl

theorem Chan.rewrite_byteAt (len a : Nat) (h : c.hasBase v lo len = false) :
    (c.rewrite lo len).byteAt me v a =
      if lo ≤ a ∧ a < lo + len then 0 else c.byteAt me v a := by
  rw [Chan.byteAt, Chan.baseByte_of_kept (c.rewrite_kept lo len)]
  show c.baseByte me v a ^^^ ((spliced c.mem.data lo len []).lookup a).getD 0 = _
  rw [lookup_clipped]
  split
  · next hin =>
    rw [Chan.baseByte_of_not (Chan.hasBase_within h hin.1 hin.2)]
    rfl
  · rfl

theorem Mem.clearRange_diff (m : Mem) (lo len a : Nat) :
    (m.clearRange lo len).diff a = if lo ≤ a ∧ a < lo + len then 0 else m.diff a := by
  show ((spliced m.check lo len []).lookup a).getD 0 = _
  rw [lookup_clipped]
  split <;> rfl

/-- A range written with zero data reads as 0x00 with valid check bits, every other address as before. -/
theorem Chan.zeroRange_lanes (len a : Nat) :
    (c.zeroRange me v lo len).byteAt me v a = (if lo ≤ a ∧ a < lo + len then 0 else c.byteAt me v a) ∧
      (c.zeroRange me v lo len).mem.diff a = (if lo ≤ a ∧ a < lo + len then 0 else c.mem.diff a) := by
  unfold Chan.zeroRange
  split
  · rw [Chan.putBytes_byteAt, Chan.putBytes_diff, List.length_replicate]
    refine ⟨?_, rfl⟩
    split
    · rw [List.getD_eq_getElem?_getD, List.getElem?_replicate]
      split <;> rfl
    · rfl
  · next h => exact ⟨c.rewrite_byteAt me v lo len a (by simpa using h), c.mem.clearRange_diff lo len a⟩

/-- A range copied reads as its source did, with valid check bits; every other address as before. -/
theorem Chan.copyRange_lanes (src dst len a : Nat) :
    (c.copyRange me v src dst len).byteAt me v a =
        (if dst ≤ a ∧ a < dst + len then c.byteAt me v (src + (a - dst)) else c.byteAt me v a) ∧
      (c.copyRange me v src dst len).mem.diff a = (if dst ≤ a ∧ a < dst + len then 0 else c.mem.diff a) := by
  have hlen : (c.bytesAt me v src len).length = len := by simp [Chan.bytesAt]
  unfold Chan.copyRange
  split
  · rw [Chan.putBytes_byteAt, Chan.putBytes_diff, hlen]
    refine ⟨?_, rfl⟩
    split
    · next hin =>
      have hlt : a - dst < len := by omega
      rw [Chan.bytesAt, List.getD_eq_getElem?_getD, List.getElem?_map, List.getElem?_range hlt]
      rfl
    · rfl
  · next h =>
    have hno : c.hasBase v src len = false ∧ c.hasBase v dst len = false := by
      simpa only [Bool.or_eq_true, not_or, Bool.not_eq_true] using h
    constructor
    · show c.baseByte me v a ^^^ _ = _
      show c.baseByte me v a ^^^ ((spliced c.mem.data dst len (moved c.mem.data src len dst)).lookup a).getD 0 = _
      rw [lookup_spliced _ _ (mem_moved _ _ _ _)]
      split
      · next hin =>
        have hlt : a - dst < len := by omega
        have hm := lookup_moved c.mem.data (src := src) (dst := dst) hlt
        rw [show dst + (a - dst) = a by omega] at hm
        rw [hm, Chan.byteAt, Chan.baseByte_of_not (Chan.hasBase_within hno.1 (Nat.le_add_right _ _) (by omega)),
          Chan.baseByte_of_not (Chan.hasBase_within hno.2 hin.1 hin.2)]
        rfl
      · rfl
    · show ((spliced c.mem.check dst len []).lookup a).getD 0 = _
      rw [lookup_clipped]
      split <;> rfl

end

/-! ### The lanes of a word -/

/-- Pages and banks move whole: a word's lanes stay together, in their places. -/
theorem Nv.bankHome_word (nv : Nv) {a k : Nat} (ha : a % 4 = 0) (hk : k < 4) :
    nv.bankHome (a + k) = nv.bankHome a + k ∧ nv.bankHome a % 4 = 0 := by
  have hbank : bankOf (a + k) = bankOf a := by unfold bankOf; omega
  have hle : decide (0x40000000 ≤ a + k) = decide (0x40000000 ≤ a) := by
    rw [decide_eq_decide]
    omega
  unfold Nv.bankHome
  rw [hbank, hle]
  split
  · next j hj =>
    have hlow : 0x40000000 ≤ a := by
      have := List.find?_some hj
      simp only [Bool.and_eq_true, decide_eq_true_eq] at this
      exact this.1.1
    have : bankOf a * 0x4000000 ≤ a := by unfold bankOf; omega
    constructor <;> omega
  · exact ⟨rfl, ha⟩

/-- The page that a retired page's spare stands for, in place of the spare. -/
def Retired.home (e : Retired) (a : Nat) : Nat :=
  let spare := 0x40900000 + 4096 * e.spare
  if e.valid && decide (spare ≤ a) && decide (a < spare + 4096) then 0x40000000 + 4096 * e.page + (a - spare) else a

theorem Nv.home_eq (nv : Nv) (a : Nat) : nv.home a = nv.bankHome (nv.retired.foldr Retired.home a) := rfl

theorem Retired.home_word (e : Retired) {a k : Nat} (ha : a % 4 = 0) (hk : k < 4) :
    e.home (a + k) = e.home a + k ∧ e.home a % 4 = 0 := by
  unfold Retired.home
  dsimp only
  by_cases h : (e.valid && decide (0x40900000 + 4096 * e.spare ≤ a) && decide (a < 0x40900000 + 4096 * e.spare + 4096)) = true
  · simp only [Bool.and_eq_true, decide_eq_true_eq] at h
    obtain ⟨⟨hv, hlo⟩, hhi⟩ := h
    rw [if_pos (by simp [hv]; omega), if_pos (by simp [hv]; omega)]
    omega
  · simp only [Bool.and_eq_true, decide_eq_true_eq] at h
    rw [if_neg (by
        simp only [Bool.and_eq_true, decide_eq_true_eq]
        exact fun hc => h ⟨⟨hc.1.1, by omega⟩, by omega⟩),
      if_neg (by simpa only [Bool.and_eq_true, decide_eq_true_eq] using h)]
    exact ⟨rfl, ha⟩

theorem Nv.home_word (nv : Nv) {a k : Nat} (ha : a % 4 = 0) (hk : k < 4) :
    nv.home (a + k) = nv.home a + k ∧ nv.home a % 4 = 0 := by
  have pages (l : List Retired) :
      l.foldr Retired.home (a + k) = l.foldr Retired.home a + k ∧ l.foldr Retired.home a % 4 = 0 := by
    induction l with
    | nil => exact ⟨rfl, ha⟩
    | cons e l ih =>
      rw [List.foldr_cons, List.foldr_cons, ih.1]
      exact e.home_word ih.2 hk
  obtain ⟨hp, hz⟩ := pages nv.retired
  rw [Nv.home_eq, Nv.home_eq, hp]
  exact nv.bankHome_word hz hk

end Sys2Proof.Machine

/-! PROOFS. Flip masks and blocked writes (spec/12 R329, spec/03 R78): what a write that takes the mask leaves at each address. -/

namespace Sys2Proof.Machine

open Sys2Proof

/-! ### Lanes written one after another -/

/-- One lane of a word written where its byte is enabled. -/
def Chan.putEnabled (me : Ch) (v : Variant) (lanes : BitVec 4) (at_ : Nat → Nat) (g : Nat → Byte) (x : Nat → BitVec 5) (c : Chan)
    (k : Nat) : Chan := if lanes.getLsbD k then c.putLane me v (at_ k) (g k) (x k) else c

section

variable (me : Ch) (v : Variant) (lanes : BitVec 4) (at_ : Nat → Nat) (g : Nat → Byte) (x : Nat → BitVec 5)

theorem Chan.putEnabled_out {c : Chan} {k a : Nat} (h : lanes.getLsbD k = true → a ≠ at_ k) :
    (c.putEnabled me v lanes at_ g x k).byteAt me v a = c.byteAt me v a ∧
      (c.putEnabled me v lanes at_ g x k).mem.diff a = c.mem.diff a := by
  unfold Chan.putEnabled
  split
  · next hk => rw [Chan.putLane_byteAt, Chan.putLane_diff, if_neg (h hk), if_neg (h hk)]; exact ⟨rfl, rfl⟩
  · exact ⟨rfl, rfl⟩

theorem Chan.putAll_out (ks : List Nat) (c : Chan) {a : Nat} (h : ∀ k ∈ ks, lanes.getLsbD k = true → a ≠ at_ k) :
    (ks.foldl (Chan.putEnabled me v lanes at_ g x) c).byteAt me v a = c.byteAt me v a ∧
      (ks.foldl (Chan.putEnabled me v lanes at_ g x) c).mem.diff a = c.mem.diff a := by
  induction ks generalizing c with
  | nil => exact ⟨rfl, rfl⟩
  | cons k ks ih =>
    obtain ⟨hb, hd⟩ := ih (c.putEnabled me v lanes at_ g x k) fun j hj => h j (List.mem_cons_of_mem _ hj)
    obtain ⟨hb', hd'⟩ := Chan.putEnabled_out me v lanes at_ g x (c := c) (h k List.mem_cons_self)
    exact ⟨hb.trans hb', hd.trans hd'⟩

theorem Chan.putAll_in (ks : List Nat) (c : Chan) (hnd : ks.Nodup) (hinj : ∀ j ∈ ks, ∀ k ∈ ks, at_ j = at_ k → j = k) {k : Nat}
    (hk : k ∈ ks) (hl : lanes.getLsbD k = true) :
    (ks.foldl (Chan.putEnabled me v lanes at_ g x) c).byteAt me v (at_ k) = g k ∧
      (ks.foldl (Chan.putEnabled me v lanes at_ g x) c).mem.diff (at_ k) = x k := by
  induction ks generalizing c with
  | nil => cases hk
  | cons j ks ih =>
    obtain ⟨hnot, hnd'⟩ := List.nodup_cons.mp hnd
    rcases List.mem_cons.mp hk with rfl | hin
    · have hrest : ∀ i ∈ ks, lanes.getLsbD i = true → at_ k ≠ at_ i := fun i hi _ he =>
        hnot (hinj k List.mem_cons_self i (List.mem_cons_of_mem _ hi) he ▸ hi)
      obtain ⟨hb, hd⟩ := Chan.putAll_out me v lanes at_ g x ks (c.putEnabled me v lanes at_ g x k) hrest
      rw [List.foldl_cons, hb, hd, Chan.putEnabled, if_pos hl, Chan.putLane_byteAt, Chan.putLane_diff, if_pos rfl, if_pos rfl]
      exact ⟨rfl, rfl⟩
    · exact ih _ hnd' (fun i hi l hl' => hinj i (List.mem_cons_of_mem _ hi) l (List.mem_cons_of_mem _ hl')) hin

theorem Chan.putEnabled_beside (c : Chan) (k : Nat) :
    (c.putEnabled me v lanes at_ g x k).kept = c.kept ∧ (c.putEnabled me v lanes at_ g x k).mem.mask = c.mem.mask := by
  unfold Chan.putEnabled
  split <;> exact ⟨rfl, rfl⟩

end

/-! ### The write that takes the mask -/

/-- A channel with the mask used up. -/
def Chan.flipDone (c : Chan) : Chan := { c with mem := { c.mem with arm := false, done := true } }

theorem Chan.flipDone_lanes (c : Chan) : c.SameLanes c.flipDone := ⟨rfl, rfl⟩

theorem Chan.flipWrite_done (c : Chan) (me : Ch) (v : Variant) (addr : Nat) (lanes : BitVec 4) (data : Word) :
    c.flipWrite me v addr lanes data = ((List.range 4).foldl (fun (c : Chan) (k : Nat) => if lanes.getLsbD k then
      c.putLane me v (c.nv.home (addr / 4 * 4 + k)) ((data >>> (8 * k)).setWidth 8) ((c.mem.mask >>> (5 * k)).setWidth 5)
      else c) c).flipDone := by
  rw [Chan.flipWrite, Chan.flipDone]

/-- The lanes of a write stay at the same places, with the same mask, while it goes on. -/
theorem Chan.foldl_flip_eq {c d : Chan} (me : Ch) (v : Variant) (addr : Nat) (lanes : BitVec 4) (data : Word) (ks : List Nat)
    (hk : d.kept = c.kept) (hm : d.mem.mask = c.mem.mask) :
    ks.foldl (fun (c : Chan) (k : Nat) => if lanes.getLsbD k then
      c.putLane me v (c.nv.home (addr / 4 * 4 + k)) ((data >>> (8 * k)).setWidth 8) ((c.mem.mask >>> (5 * k)).setWidth 5)
      else c) d =
      ks.foldl (Chan.putEnabled me v lanes (fun k => c.nv.home (addr / 4 * 4 + k))
        (fun k => (data >>> (8 * k)).setWidth 8) (fun k => (c.mem.mask >>> (5 * k)).setWidth 5)) d := by
  induction ks generalizing d with
  | nil => rw [List.foldl_nil, List.foldl_nil]
  | cons k ks ih =>
    obtain ⟨hk', hm'⟩ := Chan.putEnabled_beside me v lanes (fun k => c.nv.home (addr / 4 * 4 + k))
      (fun k => (data >>> (8 * k)).setWidth 8) (fun k => (c.mem.mask >>> (5 * k)).setWidth 5) d k
    rw [List.foldl_cons, List.foldl_cons, Chan.home_of_kept hk, hm, ← ih (hk'.trans hk) (hm'.trans hm), Chan.putEnabled]

theorem Chan.flipWrite_eq (c : Chan) (me : Ch) (v : Variant) (addr : Nat) (lanes : BitVec 4) (data : Word) :
    c.flipWrite me v addr lanes data =
      ((List.range 4).foldl (Chan.putEnabled me v lanes (fun k => c.nv.home (addr / 4 * 4 + k))
        (fun k => (data >>> (8 * k)).setWidth 8) (fun k => (c.mem.mask >>> (5 * k)).setWidth 5)) c).flipDone := by
  rw [Chan.flipWrite_done, Chan.foldl_flip_eq (c := c) me v addr lanes data _ rfl rfl]

theorem Chan.flipWrite_in (c : Chan) (me : Ch) (v : Variant) (addr : Nat) {lanes : BitVec 4} (data : Word) {k : Nat} (hk : k < 4)
    (hl : lanes.getLsbD k = true) :
    (c.flipWrite me v addr lanes data).byteAt me v (c.nv.home (addr / 4 * 4 + k)) = (data >>> (8 * k)).setWidth 8 ∧
      (c.flipWrite me v addr lanes data).mem.diff (c.nv.home (addr / 4 * 4 + k)) = (c.mem.mask >>> (5 * k)).setWidth 5 := by
  rw [Chan.flipWrite_eq, (Chan.flipDone_lanes _).byteAt, (Chan.flipDone_lanes _).diff]
  refine Chan.putAll_in me v lanes _ _ _ _ c List.nodup_range (fun i hi j hj he => ?_) (List.mem_range.mpr hk) hl
  have ha : addr / 4 * 4 % 4 = 0 := Nat.mul_mod_left _ _
  rw [(c.nv.home_word ha (List.mem_range.mp hi)).1, (c.nv.home_word ha (List.mem_range.mp hj)).1] at he
  omega

theorem Chan.flipWrite_out (c : Chan) (me : Ch) (v : Variant) {addr : Nat} {lanes : BitVec 4} (data : Word) {a : Nat}
    (h : ∀ k, k < 4 → lanes.getLsbD k = true → a ≠ c.nv.home (addr / 4 * 4 + k)) :
    (c.flipWrite me v addr lanes data).byteAt me v a = c.byteAt me v a ∧
      (c.flipWrite me v addr lanes data).mem.diff a = c.mem.diff a := by
  rw [Chan.flipWrite_eq, (Chan.flipDone_lanes _).byteAt, (Chan.flipDone_lanes _).diff]
  exact Chan.putAll_out me v lanes _ _ _ _ c fun k hk => h k (List.mem_range.mp hk)

/-! ### Lanes that cannot be read -/

theorem Mem.countUe_flip (m : Mem) (a : Nat) : (m.countUe a).arm = m.arm := by
  unfold Mem.countUe
  split <;> rfl

theorem Chan.seeUe_arm (c : Chan) (v : Variant) (a : Nat) : (c.seeUe v a).mem.arm = c.mem.arm := by
  unfold Chan.seeUe
  split <;> rfl

theorem Chan.lostLane_arm (c : Chan) (me : Ch) (v : Variant) (r : Reader) (a : Nat) : (c.lostLane me v r a).mem.arm = c.mem.arm :=
  (Chan.seeUe_arm _ v a).trans (c.mem.countUe_flip a)

/-! ### Trapped accesses -/

/-- A trap is noted whatever follows of it, and the mask stays as it is. -/
theorem State.trapped_mem (s : State) (ch : Ch) (a : Nat) :
    ((s.trapped ch a).ch ch).mem = { (s.ch ch).mem with trap := true } := by
  unfold State.trapped
  extract_lets u p
  have hu : (u.ch ch).mem = { (s.ch ch).mem with trap := true } := by
    unfold u
    rw [State.mod_ch, Chan.emit_mem]
  split
  · rw [State.withdraw_mem, hu]
  · split
    · rw [State.mod_ch, Chan.stop_mem, hu]
    · exact hu

/-! ### The rows -/

/-- A slot written loses its mark of verification; its lanes stay. -/
def Chan.unmarked (c : Chan) (addr : Nat) : Chan :=
  if inTileStore addr then { c with tiles := c.tiles.unmark (slotOfAddr addr) } else c

theorem Chan.unmarked_lanes (c : Chan) (addr : Nat) : c.SameLanes (c.unmarked addr) := by
  unfold Chan.unmarked
  split
  · exact ⟨rfl, rfl⟩
  · exact .refl c

theorem Chan.unmarked_mem (c : Chan) (addr : Nat) : (c.unmarked addr).mem = c.mem := by
  unfold Chan.unmarked
  split <;> rfl

theorem Chan.flipWrite_used (c : Chan) (me : Ch) (v : Variant) (addr : Nat) (lanes : BitVec 4) (data : Word) :
    (c.flipWrite me v addr lanes data).mem.arm = false ∧ (c.flipWrite me v addr lanes data).mem.done = true := by
  rw [Chan.flipWrite_done]
  exact ⟨rfl, rfl⟩

/-- The host arms no mask for a range other than the test page. -/
theorem Chan.immediateOk_range {c : Chan} {value : Word} {host : Bool} (hh : host = true) (hr : value.getLsbD 29 = true) :
    c.immediateOk 0x0406 value host = false := by
  unfold Chan.immediateOk
  split
  · rfl
  · simp [hh, hr]

section

variable {s : State} {ch : Ch} {w : Writer} {addr : Nat} {lanes : BitVec 4}

/-- A write takes the mask: it matches, writes something, and is let into the tile store. -/
def State.FlipTaken (s : State) (ch : Ch) (w : Writer) (addr : Nat) (lanes : BitVec 4) : Prop :=
  (s.ch ch).mem.flipMatches s.factory.variant w addr = true ∧ lanes ≠ 0 ∧ (inTileStore addr = false ∨ mayWriteTiles w = true)

/-- What is done to the writer of an access that is trapped. -/
def Chan.abortWriter (c : Chan) : Writer → Chan
  | .dma e => c.abortReader (.dma e) 2
  | .core _ => c.abortReader .core 2
  | .atomic _ => c.abortReader .core 2
  | _ => c

theorem Chan.abortWriter_flip (c : Chan) (w : Writer) :
    (c.abortWriter w).mem.arm = c.mem.arm ∧ (c.abortWriter w).mem.data = c.mem.data := by
  cases w <;> exact ⟨rfl, rfl⟩

section

variable (data : Word) (hl : (s.ch ch).live = true) (ht : s.FlipTaken ch w addr lanes)

include hl ht

theorem FlipTaken.passes :
    (!(s.ch ch).live || !(s.ch ch).mem.flipMatches s.factory.variant w addr || lanes == 0) = false ∧
      (inTileStore addr && !mayWriteTiles w) = false := by
  obtain ⟨hm, hne, hst⟩ := ht
  refine ⟨by simpa [hl, hm] using hne, ?_⟩
  rcases hst with h | h <;> simp [h]

theorem execFlipApply_trapped (hm : (s.ch ch).mem.marked s.factory.variant addr = false) :
    exec (.flipApply ch w addr lanes data) s = .next ((s.put ch ((s.ch ch).abortWriter w)).trapped ch addr) := by
  obtain ⟨h1, h2⟩ := FlipTaken.passes hl ht
  show execFlipApply ch w addr lanes data s = _
  unfold execFlipApply
  dsimp only
  rw [if_neg (Bool.eq_false_iff.mp h1), if_neg (Bool.eq_false_iff.mp h2), if_pos (by simp [hm])]
  cases w <;> rfl

theorem execFlipApply_lost {a : Nat} (hm : (s.ch ch).mem.marked s.factory.variant addr = true)
    (ha : (s.ch ch).atomicLost ch s.factory.variant w addr lanes = some a) :
    exec (.flipApply ch w addr lanes data) s =
      .next (s.put ch (((s.ch ch).lostLane ch s.factory.variant .core a).abortReader .core 3)) := by
  obtain ⟨h1, h2⟩ := FlipTaken.passes hl ht
  show execFlipApply ch w addr lanes data s = _
  unfold execFlipApply
  dsimp only
  rw [if_neg (Bool.eq_false_iff.mp h1), if_neg (Bool.eq_false_iff.mp h2), if_neg (by simp [hm]), ha]
  rfl

theorem execFlipApply_writes (hm : (s.ch ch).mem.marked s.factory.variant addr = true)
    (ha : (s.ch ch).atomicLost ch s.factory.variant w addr lanes = none) :
    exec (.flipApply ch w addr lanes data) s =
      .next (s.put ch (((s.ch ch).unmarked addr).flipWrite ch s.factory.variant addr lanes data)) := by
  obtain ⟨h1, h2⟩ := FlipTaken.passes hl ht
  show execFlipApply ch w addr lanes data s = _
  unfold execFlipApply
  dsimp only
  rw [if_neg (Bool.eq_false_iff.mp h1), if_neg (Bool.eq_false_iff.mp h2), if_neg (by simp [hm]), ha]
  rfl

end

end

/-- Settles O51: a write is judged in one order, blocked, trapped, lost, written; only the last takes the mask. -/
theorem flipsAreWritten : Obligations.FlipsAreWritten := by
  unfold Obligations.FlipsAreWritten
  refine ⟨?_, ?_, ?_⟩
  · intro s ch w addr lanes data hl
    dsimp only
    refine ⟨?_, ?_, ?_, ?_, ?_⟩
    · intro ht hm ha
      have hk := ((s.ch ch).unmarked_lanes addr)
      obtain ⟨harm, hdone⟩ := ((s.ch ch).unmarked addr).flipWrite_used ch s.factory.variant addr lanes data
      refine ⟨_, execFlipApply_writes data hl ht hm ha, .put _ _ _, ?_⟩
      rw [State.put_ch]
      refine ⟨harm, hdone, fun k hk4 hlane => ?_, fun b hb => ?_⟩
      · obtain ⟨h1, h2⟩ := ((s.ch ch).unmarked addr).flipWrite_in ch s.factory.variant addr data hk4 hlane
        rw [Chan.home_of_kept hk.kept] at h1 h2
        rw [Chan.unmarked_mem] at h2
        exact ⟨h1, h2⟩
      · obtain ⟨h1, h2⟩ := ((s.ch ch).unmarked addr).flipWrite_out ch s.factory.variant data (a := b) (addr := addr)
          (lanes := lanes) fun k hk4 hlane => by
            rw [Chan.home_of_kept hk.kept]
            exact hb k hk4 hlane
        exact ⟨h1.trans (hk.byteAt _ _ _), h2.trans (hk.diff _)⟩
    · intro a ht hm ha
      have hcells := (s.ch ch).lostLane_cells ch s.factory.variant .core a
      refine ⟨_, execFlipApply_lost data hl ht hm ha, .put _ _ _, ?_⟩
      rw [State.put_ch]
      exact ⟨rfl, (s.ch ch).lostLane_arm _ _ _ _, congrArg Prod.fst hcells, congrArg Prod.snd hcells⟩
    · intro ht hm
      refine ⟨_, execFlipApply_trapped data hl ht hm, ?_⟩
      rw [State.trapped_mem, State.put_ch]
      exact ⟨rfl, ((s.ch ch).abortWriter_flip w).1, ((s.ch ch).abortWriter_flip w).2⟩
    · intro h
      refine if_pos ?_
      rcases h with h | h <;> simp [h]
    · intro hm hne hst hw
      refine (if_neg (by simpa [hl, hm] using hne)).trans (if_pos (by simp [hst, hw]))
  · intro s ch value host hl
    dsimp only
    refine ⟨fun h => ?_, fun h => ?_, fun hh hr => ?_⟩
    · show Host.Outcome.next _ = _
      rw [State.onLive_eq _ hl]
      exact congrArg (fun x => Host.Outcome.next (s.put ch x)) (if_pos h)
    · exact congrArg Host.Outcome.next (State.onLive_same (if_neg (by simp [h])))
    · exact congrArg Host.Outcome.next (State.onLive_same (if_neg (by
        rw [Chan.immediateOk_range hh hr]
        exact Bool.false_ne_true)))
  · intro s ch w addr hl
    refine ⟨fun hst hw => ?_, fun h => ?_⟩
    · show Host.Outcome.next _ = _
      rw [State.onLive_eq _ hl]
      exact congrArg (fun x => Host.Outcome.next (s.put ch x)) (if_pos (by simp [hst, hw]))
    · refine congrArg Host.Outcome.next (State.onLive_same (if_neg ?_))
      rcases h with h | h <;> simp [h]

end Sys2Proof.Machine

/-! PROOFS. Effects of agreed commands (spec/15 R388, R392, R395 and the chapters of the commands): what each does at its effect
release in one channel, or that it is refused. -/

namespace Sys2Proof.Machine

open Sys2Proof

/-! ### Tasks and lockouts (R131, R197) -/

theorem Chan.task_of_tasks {c d : Chan} (h : d.tasks = c.tasks) (t : Nat) : d.task t = c.task t := by
  rw [Chan.task, Chan.task, h]

theorem Chan.resetInsts_tasks (c : Chan) (t : Nat) : (c.resetInsts t).tasks = c.tasks := by
  unfold Chan.resetInsts
  split <;> rfl

theorem Chan.resetDoors_tasks (c : Chan) (t : Nat) : (c.resetDoors t).tasks = c.tasks := by
  unfold Chan.resetDoors
  split
  · rfl
  · dsimp only
    split
    · rfl
    · split <;> rfl

/-- A task that has faulted is one of the image's. -/
theorem Chan.lt_of_fault {c : Chan} {t : Nat} (h : (c.task t).fault = true) : t < c.tasks.length := by
  by_contra hge
  rw [Chan.task, List.getD_eq_getElem?_getD, List.getElem?_eq_none (Nat.le_of_not_lt hge)] at h
  cases h

theorem Chan.clearFault_clears {c : Chan} {t : Nat} (h : (c.task t).fault = true) :
    ∃ d, c.clearFault t = some d ∧ (d.task t).fault = false ∧ (d.task t).skips = 0 := by
  refine ⟨_, if_pos h, ?_⟩
  rw [Chan.task_of_tasks (Chan.resetDoors_tasks _ t), Chan.task_of_tasks (Chan.resetInsts_tasks _ t),
    Chan.modTask_task_self _ (Chan.lt_of_fault h)]
  exact ⟨rfl, rfl⟩

theorem Chan.clearLockout_output {c : Chan} {n : Nat} (hn : n < 32) :
    ((c.nv.outFault n).cause = 0 ∨ c.causeGone n = false → c.clearLockout n = none) ∧
      ((c.nv.outFault n).cause ≠ 0 → c.causeGone n = true → c.nv.outFaults.length = 32 →
        ∃ d, c.clearLockout n = some d ∧ (d.nv.outFault n).cause = 0) := by
  unfold Chan.clearLockout
  rw [if_pos hn]
  refine ⟨fun h => if_neg ?_, fun h0 hg hlen => ⟨_, if_pos (by simp [h0, hg]), ?_⟩⟩
  · rcases h with h | h <;> simp [h]
  · rw [Chan.emitAt_eq]
    show ((modAt c.nv.outFaults n _).getD n OutFault.none).cause = 0
    rw [modAt_getD_self _ _ (by omega)]

theorem Chan.clearLockout_group {c : Chan} {g : Nat} (hg : g < 4) :
    (c.nv.groupLocked.getLsbD g = false ∨ c.groupLow g = false ∨
        (c.nv.groupLsf.getLsbD g = true ∧ c.groupTested g = false) → c.clearLockout (0x81 + g) = none) ∧
      (c.nv.groupLocked.getLsbD g = true → c.groupLow g = true → c.nv.groupLsf.getLsbD g = false ∨ c.groupTested g = true →
        ∃ d, c.clearLockout (0x81 + g) = some d ∧ d.nv.groupLocked.getLsbD g = false ∧ d.nv.groupLsf.getLsbD g = false) := by
  unfold Chan.clearLockout
  rw [if_neg (by omega), show 0x81 + g - 0x81 = g by omega]
  refine ⟨fun h => if_neg ?_, fun hlk hlow ht => ⟨_, if_pos ?_, ?_⟩⟩
  · rcases h with h | h | ⟨h, h'⟩
    · simp [h]
    · simp [h]
    · simp [h, h']
  · have hle : 0x81 + g ≤ 0x84 := by omega
    rcases ht with ht | ht <;> simp [hlk, hlow, ht, hle]
  · rw [Chan.emitAt_eq]
    exact ⟨putBit_getLsbD_self _ g, putBit_getLsbD_self _ g⟩

/-! ### Gates and plungers (R213 to R220, R223) -/

/-- The gate of an element. -/
def Doors.gateOf (d : Doors) (elem : Nat) : Option GateState := d.gates.find? (fun g => g.elem == elem)

theorem find?_replaced {l : List GateState} {g h : GateState} (hf : l.find? (fun x => x.elem == h.elem) = some g) :
    (l.map (fun x => if x.elem == h.elem then h else x)).find? (fun x => x.elem == h.elem) = some h := by
  induction l with
  | nil => cases hf
  | cons x l ih =>
    by_cases hx : (x.elem == h.elem) = true
    · rw [List.map_cons, if_pos hx]
      exact List.find?_cons_of_pos (p := fun x : GateState => x.elem == h.elem) (beq_self_eq_true _)
    · have hf' : l.find? (fun x => x.elem == h.elem) = some g :=
        (List.find?_cons_of_neg (p := fun x : GateState => x.elem == h.elem) hx).symm.trans hf
      rw [List.map_cons, if_neg hx]
      exact (List.find?_cons_of_neg (p := fun x : GateState => x.elem == h.elem) hx).trans (ih hf')

/-- A gate replaced by one of the same element is found there. -/
theorem Doors.putGate_gateOf {d : Doors} {elem : Nat} {g h : GateState} (hf : d.gateOf elem = some g) (he : h.elem = g.elem) :
    (d.putGate h).gateOf elem = some h := by
  have hg : g.elem = elem := by simpa using List.find?_some hf
  have hh : h.elem = elem := he.trans hg
  subst hh
  exact find?_replaced hf

theorem Chan.gate_refused {c : Chan} {elem : Nat} (h : c.doors.gateOf elem = none) (minutes cycle : Nat) :
    c.isolateGate elem minutes cycle = none ∧ c.resetGate elem = none ∧ c.endIsolation elem = none ∧ c.serviceGate elem = none := by
  unfold Doors.gateOf at h
  unfold Chan.isolateGate Chan.resetGate Chan.endIsolation Chan.serviceGate
  rw [h]
  exact ⟨rfl, rfl, rfl, rfl⟩

theorem Chan.gate_changed {c : Chan} {elem : Nat} {g : GateState} (h : c.doors.gateOf elem = some g) (minutes cycle : Nat) :
    (∃ d, c.isolateGate elem minutes cycle = some d ∧ ∃ h, d.doors.gateOf elem = some h ∧ h.isolated = true ∧
        h.isolMs = (if minutes = 0 then c.act 0x1103 else minutes) * 60000) ∧
      ((g.isolated = true ∨ g.lk1 ≠ g.lk2 → c.resetGate elem = none) ∧
        (g.isolated = false → g.lk1 = g.lk2 → ∃ d, c.resetGate elem = some d ∧
          ∃ h, d.doors.gateOf elem = some h ∧ h.step = 0 ∧ h.unproven = true)) ∧
      ((g.isolated = false → c.endIsolation elem = none) ∧
        (g.isolated = true → ∃ d, c.endIsolation elem = some d ∧
          ∃ h, d.doors.gateOf elem = some h ∧ h.isolated = false ∧ h.step = 0)) ∧
      ∃ d, c.serviceGate elem = some d ∧ ∃ h, d.doors.gateOf elem = some h ∧ h.since = 0 ∧ h.total = g.total := by
  have hf : c.doors.gates.find? (fun g => g.elem == elem) = some g := h
  unfold Chan.isolateGate Chan.resetGate Chan.endIsolation Chan.serviceGate
  rw [hf]
  refine ⟨⟨_, rfl, _, Doors.putGate_gateOf h rfl, rfl, ?_⟩, ⟨fun hr => if_pos ?_, fun h1 h2 => ⟨_, if_neg ?_, _,
    Doors.putGate_gateOf h rfl, rfl, rfl⟩⟩, ⟨fun hr => if_neg (by simp [hr]), fun hr => ⟨_, if_pos hr, _,
    Doors.putGate_gateOf h rfl, rfl, rfl⟩⟩, _, rfl, _, Doors.putGate_gateOf h rfl, rfl, rfl⟩
  · simp only [beq_iff_eq]
  · rcases hr with hr | hr <;> simp [hr]
  · simp [h1, h2]

theorem Chan.plunger_reset {c : Chan} {elem : Nat} {q : PlungerState}
    (hq : c.doors.plungers.find? (fun q => q.elem == elem) = some q) :
    (q.operated = true → c.resetPlunger elem = none) ∧
      (q.operated = false → ∃ d, c.resetPlunger elem = some d ∧
        ∃ r, d.doors.plungers.find? (fun q => q.elem == elem) = some r ∧ r.latched = false) := by
  unfold Chan.resetPlunger
  rw [hq]
  refine ⟨fun h => if_pos h, fun h => ⟨_, if_neg (by simp [h]), ?_⟩⟩
  dsimp only
  generalize c.doors.plungers = l at hq
  induction l with
  | nil => cases hq
  | cons x l ih =>
    by_cases hx : (x.elem == elem) = true
    · rw [List.map_cons, if_pos hx]
      exact ⟨_, List.find?_cons_of_pos (p := fun q : PlungerState => q.elem == elem) hx, rfl⟩
    · obtain ⟨r, hr, hlat⟩ := ih ((List.find?_cons_of_neg (p := fun q : PlungerState => q.elem == elem) hx).symm.trans hq)
      rw [List.map_cons, if_neg hx]
      exact ⟨r, (List.find?_cons_of_neg (p := fun q : PlungerState => q.elem == elem) hx).trans hr, hlat⟩

/-! ### Exchanges (R143, R147, R179) -/

theorem Chan.exchTo_moves (c : Chan) (st result kind id : Nat) :
    (c.exchTo st result kind id).blocks.exch = st ∧ (c.exchTo st result kind id).blocks.result = result ∧
      (c.exchTo st result kind id).part = c.part ∧ (c.exchTo st result kind id).reint = c.reint := by
  have h := c.undoBoundary_besideStore
  have hpart : c.undoBoundary.part = c.part := (congrArg (fun (d : Chan) => d.part) h :)
  have hreint : c.undoBoundary.reint = c.reint := (congrArg (fun (d : Chan) => d.reint) h :)
  unfold Chan.exchTo
  rw [Chan.emit_eq]
  refine ⟨rfl, rfl, ?_, ?_⟩
  · dsimp only
    split
    · rfl
    · exact hpart
  · dsimp only
    split
    · rfl
    · exact hreint

theorem Chan.exchTo_armed (c : Chan) :
    (c.exchTo 3 0 0 0).blocks.exchCycle = c.blocks.exchCycle ∧ (c.exchTo 3 0 0 0).blocks.prepared = c.blocks.prepared := by
  unfold Chan.exchTo
  rw [Chan.emit_eq]
  exact ⟨rfl, rfl⟩

/-- The transfers of an attempt abandoned change neither the exchange nor the partner's part. -/
theorem Chan.armedAttempt_leaves (c : Chan) (me : Ch) :
    (c.armedAttempt me).blocks = c.blocks ∧ (c.armedAttempt me).part = c.part ∧ (c.armedAttempt me).reint.source = none ∧
      (c.reint.phase ≠ 0 → (c.armedAttempt me).reint.phase = 5) := by
  have hsrc : c.abandonSource.blocks = c.blocks ∧ c.abandonSource.part = c.part ∧ c.abandonSource.reint.source = none ∧
      c.abandonSource.reint.phase = c.reint.phase := by
    unfold Chan.abandonSource
    split
    · next x hx =>
      unfold Chan.endSource
      rw [Chan.xsend_reint, hx]
      simp [Chan.xdrop]
    · next hx => exact ⟨rfl, rfl, hx, rfl⟩
  obtain ⟨hb, hp, hs, hph⟩ := hsrc
  unfold Chan.armedAttempt
  generalize c.abandonSource = d at hb hp hs hph
  rw [← hb, ← hp, ← hph]
  obtain ⟨hphase, -⟩ := d.failAttempt_phase me 5
  refine ⟨?_, ?_, ?_, fun h => by rw [hphase, if_neg h]⟩
  all_goals
    unfold Chan.failAttempt
    split
    · first | rfl | exact hs
    · dsimp only
      rw [Chan.emit_eq]
      simp [Chan.xsendBoth, hs]

theorem Chan.abandonXfer_ends {c : Chan} (h : c.transferring = true) :
    ∃ d, c.abandonXfer = some d ∧ d.part.phase = 0 ∧ d.part.cause = 11 ∧ d.blocks = c.blocks ∧ d.reint = c.reint := by
  refine ⟨_, if_pos h, ?_⟩
  rw [c.psend_first (show PMsg.rank (.req 3 0) ≤ 1 from Nat.le_refl 1)]
  unfold Chan.abandon
  rw [Chan.emit_eq]
  exact ⟨rfl, rfl, rfl, rfl⟩

theorem Chan.exchAbort_refused {c : Chan} (h2 : c.blocks.exch ≠ 2) (h3 : c.blocks.exch ≠ 3) (h5 : c.blocks.exch ≠ 5) :
    c.exchAbort = none := by
  unfold Chan.exchAbort
  split
  · next h => exact absurd h h2
  · next h => exact absurd h h3
  · next h => exact absurd h h5
  · rfl

theorem Chan.exchAbort_idle {c : Chan} (h : c.blocks.exch = 2 ∨ c.blocks.exch = 5) :
    ∃ d, c.exchAbort = some d ∧ d.blocks.exch = 0 ∧ d.blocks.result = 0x10 := by
  obtain ⟨h1, h2, -⟩ := c.exchTo_moves 0 0x10 0 0
  refine ⟨_, ?_, h1, h2⟩
  unfold Chan.exchAbort
  rcases h with h | h <;> simp only [h]

theorem Chan.exchAbort_verified {c : Chan} (h : c.blocks.exch = 3) :
    ∃ d, c.exchAbort = some d ∧ d.blocks.exch = 2 ∧ d.blocks.result = 0x10 := by
  obtain ⟨h1, h2, -⟩ := c.exchTo_moves 2 0x10 0 0
  refine ⟨_, ?_, h1, h2⟩
  unfold Chan.exchAbort
  simp only [h]

/-! ### Switchover (R314) -/

theorem Chan.armSwitchover_refused {c : Chan} {now n : Nat}
    (h : c.part.role ≠ 1 ∨ c.blocks.exch = 3 ∨ c.res.restart = true ∨ c.pathsLive = false) : c.armSwitchover now n = none := by
  unfold Chan.armSwitchover
  extract_lets standby
  refine if_neg ?_
  rcases h with h | h | h | h <;> simp [h]

theorem Chan.armSwitchover_arms {c : Chan} {now n : Nat} {b : Beat} (hb : c.part.beat = some b) (hr : b.role = 2)
    (hs : b.sync = 2) (h1 : c.part.role = 1) (hp : c.pathsLive = true) (hx : c.blocks.exch ≠ 3) (hres : c.res.restart = false)
    (hn : switchCycleOk now n c.ratioBoth = true) :
    ∃ d, c.armSwitchover now n = some d ∧ d.part.switchAt = n ∧ d.pout = c.pout ++ [(c.part.txSeq, .switchAt n)] := by
  unfold Chan.armSwitchover
  rw [hb]
  refine ⟨_, if_pos (by simp [hr, hs, h1, hp, hx, hres, hn]), ?_⟩
  rw [Chan.psend_first _ (show PMsg.rank (.switchAt n) ≤ 1 from Nat.le_refl 1)]
  exact ⟨rfl, rfl⟩

/-! ### Calibration (R424, R425) -/

/-- A user copy written is the one in force. -/
theorem Nv.writeCal_inForce (v : Nv) (k : CalCopy) :
    ∃ n, calInForce (v.writeCal k).cal0 (v.writeCal k).cal1 = some { k with count := n, crcOk := true } := by
  unfold Nv.writeCal calInForce
  by_cases hlt : v.cal0.count < v.cal1.count <;>
    cases h0 : v.cal0.crcOk <;> cases h1 : v.cal1.crcOk <;> simp [h0, h1, hlt]

theorem Chan.restoreFactory_inForce (c : Chan) :
    ∃ k, calInForce c.restoreFactory.nv.cal0 c.restoreFactory.nv.cal1 = some k ∧ k.di = List.replicate 96 0 ∧
      k.rb = List.replicate 32 0 ∧ k.feedWarn = 180 := by
  obtain ⟨n, hn⟩ := c.nv.writeCal_inForce (CalCopy.plain 0)
  refine ⟨{ CalCopy.plain 0 with count := n, crcOk := true }, ?_, rfl, rfl, rfl⟩
  rw [Chan.restoreFactory, Chan.emit_nv]
  exact hn

theorem Chan.calWrite_inForce (c : Chan) (me : Ch) {p : List Byte}
    (h : (calEntries p).filter (fun e => e.1 == me.code) ≠ []) :
    ∃ k, calInForce (c.calWrite me p).nv.cal0 (c.calWrite me p).nv.cal1 = some k ∧ (c.calWrite me p).cal.di = k.di ∧
      (c.calWrite me p).cal.rb = k.rb ∧ (c.calWrite me p).cal.feedWarn = k.feedWarn ∧
      (c.calWrite me p).cal.userDefault = false := by
  unfold Chan.calWrite
  dsimp only
  rw [if_neg (by simpa using h)]
  generalize List.foldl _ _ _ = k
  obtain ⟨n, hn⟩ := c.nv.writeCal_inForce k
  refine ⟨_, hn, ?_⟩
  unfold Chan.writeCal
  dsimp only
  rw [hn]
  exact ⟨rfl, rfl, rfl, rfl⟩

/-! ### One channel acts -/

section

variable (s : State) (ch : Ch)

/-- An effect on one channel that is carried out leaves what it makes of that channel. -/
theorem State.byChan_acts {r : Bool × State} (f : Chan → Option Chan) (hr : r = s.byChan ch f) {q : Chan → Prop}
    (h : ∃ d, f (s.ch ch) = some d ∧ q d) : r.1 = true ∧ s.OnlyAt r.2 ch ∧ q (r.2.ch ch) := by
  obtain ⟨d, hd, hq⟩ := h
  rw [hr, State.byChan, hd]
  refine ⟨rfl, .put _ _ _, ?_⟩
  rw [State.put_ch]
  exact hq

theorem State.byChan_refuses {r : Bool × State} (f : Chan → Option Chan) (hr : r = s.byChan ch f) (h : f (s.ch ch) = none) :
    r = (false, s) := by
  rw [hr, State.byChan, h]

/-- An effect that every channel carries out. -/
theorem State.mod_acts {r : Bool × State} (f : Chan → Chan) (hr : r = (true, s.mod ch f)) {q : Chan → Prop}
    (h : q (f (s.ch ch))) : r.1 = true ∧ s.OnlyAt r.2 ch ∧ q (r.2.ch ch) := by
  rw [hr]
  refine ⟨rfl, .mod _ _ _, ?_⟩
  rw [State.mod_ch]
  exact h

theorem State.mod_same {f : Chan → Chan} (h : f (s.ch ch) = s.ch ch) : s.mod ch f = s := by
  rw [State.mod, h, State.put_self]

end

/-! ### Re-arming (R202) -/

section

variable {s : State} {ch : Ch} {tag : Nat} (hc : s.causeStands tag = false)

include hc

theorem State.rearm_other (ha : s.hedgehog.armTag ≠ some tag) (hst : s.hedgehog.st ≠ 1) :
    s.rearm ch tag = some { s.mod ch (fun c => { c with dout := c.dout.awaitFresh (List.range 32) c.lastInstant }) with
      hedgehog := { s.hedgehog.arm with armTag := some tag } } := by
  unfold State.rearm
  dsimp only
  rw [beq_false_of_ne ha, hc, beq_false_of_ne hst]
  rfl

theorem State.rearm_mine (ha : s.hedgehog.armTag = some tag) :
    s.rearm ch tag = some (s.mod ch (fun c => { c with dout := c.dout.awaitFresh (List.range 32) c.lastInstant })) := by
  unfold State.rearm
  dsimp only
  rw [ha, beq_self_eq_true, hc, Bool.not_true, Bool.and_false]
  rfl

end

theorem State.rearm_refused {s : State} {ch : Ch} {tag : Nat}
    (h : s.causeStands tag = true ∨ (s.hedgehog.st = 1 ∧ s.hedgehog.armTag ≠ some tag)) : s.rearm ch tag = none := by
  refine if_pos ?_
  rcases h with h | ⟨hst, ha⟩
  · simp [h]
  · simp [hst, ha]

theorem Dout.awaitFresh_lookup (d : Dout) (us : Nat) {n : Nat} (hn : n < 32) :
    (d.awaitFresh (List.range 32) us).needFresh.lookup n = some us :=
  lookup_foldl_tabPut _ _ (.inl (List.mem_range.mpr hn))

/-! ### The obligation, by command -/

section

variable (s : State) (ch : Ch) (p : List Byte) (tag main cycle : Nat)

theorem effect_rearm :
    (s.rearm ch tag = none → s.effect ch 0x0205 p tag main cycle = (false, s)) ∧
      ∀ t, s.rearm ch tag = some t → s.effect ch 0x0205 p tag main cycle = (true, t) := by
  constructor
  · intro h
    show (match s.rearm ch tag with | some t => (true, t) | none => (false, s)) = _
    rw [h]
  · intro t h
    show (match s.rearm ch tag with | some t => (true, t) | none => (false, s)) = _
    rw [h]

theorem effect_exchArm :
    ((s.ch ch).exchArm main (fieldAt p 0 4) = none → s.effect ch 0x0209 p tag main cycle = (false, s)) ∧
      ∀ ok c, (s.ch ch).exchArm main (fieldAt p 0 4) = some (ok, c) → s.effect ch 0x0209 p tag main cycle =
        (ok, s.put ch (if ok then (c.abandonXfer.getD c).armedAttempt ch else c)) := by
  constructor
  · intro h
    show (match (s.ch ch).exchArm main (fieldAt p 0 4) with
      | some (ok, c) => (ok, s.put ch (if ok then (c.abandonXfer.getD c).armedAttempt ch else c))
      | none => (false, s)) = _
    rw [h]
  · intro ok c h
    show (match (s.ch ch).exchArm main (fieldAt p 0 4) with
      | some (ok, c) => (ok, s.put ch (if ok then (c.abandonXfer.getD c).armedAttempt ch else c))
      | none => (false, s)) = _
    rw [h]

end

/-- An exchange armed: what the channel has made of itself, its transfer and its attempt. -/
theorem Chan.armed_state {c : Chan} (me : Ch) {main n : Nat} (he : c.blocks.exch = 2) (hn : switchCycleOk main n c.ratioBoth = true) :
    ∃ d, c.exchArm main n = some (true, d) ∧
      ((d.abandonXfer.getD d).armedAttempt me).blocks.exch = 3 ∧
      ((d.abandonXfer.getD d).armedAttempt me).blocks.exchCycle = n ∧
      ((d.abandonXfer.getD d).armedAttempt me).blocks.prepared = false ∧
      ((d.abandonXfer.getD d).armedAttempt me).reint.source = none ∧
      (c.reint.phase ≠ 0 → ((d.abandonXfer.getD d).armedAttempt me).reint.phase = 5) ∧
      (c.transferring = true → ((d.abandonXfer.getD d).armedAttempt me).part.phase = 0 ∧
        ((d.abandonXfer.getD d).armedAttempt me).part.cause = 11) := by
  refine ⟨_, (if_neg (by simp [he])).trans (if_pos hn), ?_⟩
  obtain ⟨hcyc, hprep⟩ := ({ c with
    blocks := { c.blocks with exchCycle := n, prepared := false, boundaryOk := false, newInsts := [] } } : Chan).exchTo_armed
  obtain ⟨hex, -, hpart, hreint⟩ := ({ c with
    blocks := { c.blocks with exchCycle := n, prepared := false, boundaryOk := false, newInsts := [] } } : Chan).exchTo_moves 3 0 0 0
  generalize Chan.exchTo _ 3 0 0 0 = d at hcyc hprep hex hpart hreint
  have ht : d.transferring = c.transferring := by rw [Chan.transferring, Chan.transferring, hpart]
  by_cases htr : c.transferring = true
  · obtain ⟨e, hsome, hph, hca, hb, hr⟩ := Chan.abandonXfer_ends (ht.trans htr)
    obtain ⟨ab, ap, as, aph⟩ := e.armedAttempt_leaves me
    rw [hsome, Option.getD_some, ab, ap, hb]
    exact ⟨hex, hcyc, hprep, as, fun h => aph (by rw [hr, hreint]; exact h), fun _ => ⟨hph, hca⟩⟩
  · have hnone : d.abandonXfer = none := if_neg (by rw [ht]; exact htr)
    obtain ⟨ab, ap, as, aph⟩ := d.armedAttempt_leaves me
    rw [hnone, Option.getD_none, ab, ap]
    exact ⟨hex, hcyc, hprep, as, fun h => aph (by rw [hreint]; exact h), fun h => absurd h htr⟩

/-- Settles O60: an effect at one channel is read off that channel's own operation; the re-arm alone reaches the Hedgehog. -/
theorem agreedCommandsAct : Obligations.AgreedCommandsAct := by
  unfold Obligations.AgreedCommandsAct
  intro s ch p tag main cycle
  have rearm := effect_rearm s ch p tag main cycle
  have exchArm := effect_exchArm s ch p tag main cycle
  dsimp only
  refine ⟨?_, ?_, ?_, ?_, ?_, ?_, ?_, ?_, ?_, ?_, ?_, ?_, ?_, ?_, ?_, ?_, ?_, ?_, ?_, ?_, ?_, ?_, ?_, ?_, ?_, ?_, ?_, ?_, ?_, ?_⟩
  · exact fun h => s.byChan_refuses ch (fun c => c.clearFault (fieldAt p 0 1)) rfl (if_neg (by simp [h]))
  · exact fun h => s.byChan_acts ch (fun c => c.clearFault (fieldAt p 0 1)) rfl (Chan.clearFault_clears h)
  · intro hn hlen
    obtain ⟨hr, ha⟩ := Chan.clearLockout_output (c := s.ch ch) hn
    exact ⟨fun h => s.byChan_refuses ch (fun c => c.clearLockout (fieldAt p 0 1)) rfl (hr h),
      fun h0 hg => s.byChan_acts ch (fun c => c.clearLockout (fieldAt p 0 1)) rfl (ha h0 hg hlen)⟩
  · intro g hg hp
    obtain ⟨hr, ha⟩ := Chan.clearLockout_group (c := s.ch ch) hg
    rw [← hp] at hr ha
    exact ⟨fun h => s.byChan_refuses ch (fun c => c.clearLockout (fieldAt p 0 1)) rfl (hr h),
      fun h1 h2 h3 => s.byChan_acts ch (fun c => c.clearLockout (fieldAt p 0 1)) rfl (ha h1 h2 h3)⟩
  · exact fun h => rearm.1 (State.rearm_refused (.inl h))
  · exact fun h h' => rearm.1 (State.rearm_refused (.inr ⟨h, h'⟩))
  · intro hc hst ha
    rw [rearm.2 _ (State.rearm_other hc ha hst)]
    exact ⟨rfl, rfl, rfl, rfl, rfl, rfl⟩
  · intro hc ha
    rw [rearm.2 _ (State.rearm_mine hc ha)]
    exact ⟨rfl, rfl⟩
  · intro hc h n hn
    by_cases ha : s.hedgehog.armTag = some tag
    · rw [rearm.2 _ (State.rearm_mine hc ha)]
      dsimp only
      rw [State.mod_ch]
      exact Dout.awaitFresh_lookup _ _ hn
    · rw [rearm.2 _ (State.rearm_other hc ha (h.resolve_right ha))]
      have hch (h : Hedgehog) (u : State) : ({ u with hedgehog := h } : State).ch ch = u.ch ch := rfl
      rw [hch, State.mod_ch]
      exact Dout.awaitFresh_lookup _ _ hn
  · intro hg
    exact ⟨s.byChan_refuses ch (fun c => c.isolateGate (fieldAt p 0 4) (fieldAt p 4 2) cycle) rfl (Chan.gate_refused hg _ _).1,
      s.byChan_refuses ch (fun c => c.resetGate (fieldAt p 0 4)) rfl (Chan.gate_refused hg 0 0).2.1,
      s.byChan_refuses ch (fun c => c.endIsolation (fieldAt p 0 4)) rfl (Chan.gate_refused hg 0 0).2.2.1,
      s.byChan_refuses ch (fun c => c.serviceGate (fieldAt p 0 4)) rfl (Chan.gate_refused hg 0 0).2.2.2⟩
  · intro g hg
    obtain ⟨iso, reset, ends, serve⟩ := Chan.gate_changed hg (fieldAt p 4 2) cycle
    refine ⟨s.byChan_acts ch (fun c => c.isolateGate (fieldAt p 0 4) (fieldAt p 4 2) cycle) rfl iso,
      fun h => s.byChan_refuses ch (fun c => c.resetGate (fieldAt p 0 4)) rfl (reset.1 h),
      fun h1 h2 => s.byChan_acts ch (fun c => c.resetGate (fieldAt p 0 4)) rfl (reset.2 h1 h2),
      fun h => s.byChan_refuses ch (fun c => c.endIsolation (fieldAt p 0 4)) rfl (ends.1 h),
      fun h => s.byChan_acts ch (fun c => c.endIsolation (fieldAt p 0 4)) rfl (ends.2 h),
      s.byChan_acts ch (fun c => c.serviceGate (fieldAt p 0 4)) rfl serve⟩
  · intro q hq
    obtain ⟨hr, ha⟩ := Chan.plunger_reset hq
    exact ⟨fun h => s.byChan_refuses ch (fun c => c.resetPlunger (fieldAt p 0 4)) rfl (hr h),
      fun h => s.byChan_acts ch (fun c => c.resetPlunger (fieldAt p 0 4)) rfl (ha h)⟩
  · intro h
    refine s.mod_acts ch (fun c => c.allowReint ch (fieldAt p 0 1)) rfl
      (q := fun d => d.reint.commanded = true ∧ d.reint.triesLeft = bits ((s.ch ch).act 0x0C05) 3 0) ?_
    rw [Chan.allowReint, if_pos (by simpa using h)]
    exact ⟨rfl, rfl⟩
  · exact fun h => congrArg (Prod.mk true) (s.mod_same ch (f := fun c => c.allowReint ch (fieldAt p 0 1)) (if_neg (by simpa using h)))
  · exact fun h => exchArm.1 (if_pos (by simpa using h))
  · intro he hn
    obtain ⟨d, hd, hst⟩ := Chan.armed_state (c := s.ch ch) ch he hn
    rw [exchArm.2 true d hd, if_pos rfl]
    refine ⟨rfl, .put _ _ _, ?_⟩
    rw [State.put_ch]
    exact hst
  · intro he hn
    rw [exchArm.2 false _ ((if_neg (by simp [he])).trans (if_neg (by simp [hn]))), if_neg Bool.false_ne_true, State.put_ch]
    obtain ⟨h1, h2, -⟩ := (s.ch ch).exchTo_moves 2 8 0 0
    exact ⟨rfl, h1, h2⟩
  · exact fun h2 h3 h5 => s.byChan_refuses ch Chan.exchAbort rfl (Chan.exchAbort_refused h2 h3 h5)
  · exact fun h => s.byChan_acts ch Chan.exchAbort rfl (Chan.exchAbort_idle h)
  · exact fun h => s.byChan_acts ch Chan.exchAbort rfl (Chan.exchAbort_verified h)
  · exact fun h => s.byChan_refuses ch (fun c => c.armSwitchover main (fieldAt p 0 4)) rfl (Chan.armSwitchover_refused h)
  · exact fun b hb hr hs h1 hp hx hres hn => s.byChan_acts ch (fun c => c.armSwitchover main (fieldAt p 0 4)) rfl
      (Chan.armSwitchover_arms hb hr hs h1 hp hx hres hn)
  · exact fun h => s.byChan_refuses ch Chan.resync rfl (if_neg (by rcases h with h | h <;> simp [h]))
  · exact fun h1 h2 => s.byChan_acts ch Chan.resync rfl (q := fun d => d.part.commanded = true) ⟨_, if_pos (by simp [h1, h2]), rfl⟩
  · exact fun h => s.byChan_refuses ch Chan.abandonXfer rfl (if_neg (by simp [h]))
  · intro h
    obtain ⟨d, hd, hph, hca, -⟩ := Chan.abandonXfer_ends h
    exact s.byChan_acts ch Chan.abandonXfer rfl (q := fun d => d.part.phase = 0 ∧ d.part.cause = 11) ⟨d, hd, hph, hca⟩
  · exact s.mod_acts ch Chan.clearRecorder rfl (q := fun d => d = (s.ch ch).emit .clear 0 [w32 (s.ch ch).recd.nextSeq]) rfl
  · exact s.mod_acts ch Chan.restoreFactory rfl (q := fun d => ∃ k, calInForce d.nv.cal0 d.nv.cal1 = some k ∧
      k.di = List.replicate 96 0 ∧ k.rb = List.replicate 32 0 ∧ k.feedWarn = 180) (s.ch ch).restoreFactory_inForce
  · exact fun h => congrArg (Prod.mk true) (s.mod_same ch (f := fun c => c.calWrite ch p) (if_pos (by simp [h])))
  · exact fun h => s.mod_acts ch (fun c => c.calWrite ch p) rfl (q := fun d => ∃ k,
      calInForce d.nv.cal0 d.nv.cal1 = some k ∧ d.cal.di = k.di ∧ d.cal.rb = k.rb ∧ d.cal.feedWarn = k.feedWarn ∧
      d.cal.userDefault = false) ((s.ch ch).calWrite_inForce ch h)

end Sys2Proof.Machine

/-! PROOFS. A packet at one channel (spec/15 R378 to R384, R396): what the channel does with it, whatever the others do with theirs. -/

namespace Sys2Proof.Machine

open Sys2Proof

/-! ### The module as one channel finds it -/

/-- A state in which other channels have handled the packet: to one channel it looks as before. -/
structure State.Looks (s u : State) (x : Ch) : Prop where
  same : u.ch x = s.ch x
  replies : u.repliesOf x = s.repliesOf x
  views : ∀ y, (u.ch y).hubView = (s.ch y).hubView
  rest : u = { s with chans := u.chans, hub := { s.hub with replies := u.hub.replies }, draws := u.draws }

namespace State.Looks

variable {s t u : State} {x y : Ch}

theorem refl (s : State) (x : Ch) : s.Looks s x := ⟨rfl, rfl, fun _ => rfl, rfl⟩

theorem stepped (h : s.Looks t x) (k : t.HostStep u y) (hne : x ≠ y) : s.Looks u x where
  same := (k.others x hne).trans h.same
  replies := (k.replies x hne).trans h.replies
  views z := by
    by_cases hz : z = y
    · rw [hz, k.view, h.views]
    · rw [k.others z hz, h.views]
  rest := by rw [k.rest, h.rest]

theorem hub_alive (h : s.Looks u x) : u.hub.alive = s.hub.alive := by rw [h.rest]

theorem reports (h : s.Looks u x) : u.hostReports = s.hostReports := by
  have key (y : Ch) : (u.ch y).hostKnown = (s.ch y).hostKnown ∧ (u.ch y).hostParams = (s.ch y).hostParams :=
    ⟨congrArg (fun v => v.2.1) (h.views y), congrArg (fun v => v.2.2.1) (h.views y)⟩
  obtain ⟨ka, pa⟩ := key .a
  obtain ⟨kb, pb⟩ := key .b
  obtain ⟨kc, pc⟩ := key .c
  have list (v : State) : v.chans.toList = [v.ch .a, v.ch .b, v.ch .c] := rfl
  unfold State.hostReports
  rw [list, list]
  simp only [List.filter_cons, List.filter_nil, ka, kb, kc]
  split <;> split <;> split <;> simp only [List.map_cons, List.map_nil, pa, pb, pc]

theorem hears_eq (h : s.Looks u x) (p : Pkt) : u.hears x p = s.hears x p := by
  have ha : u.hostAddress = s.hostAddress := by rw [State.hostAddress, State.hostAddress, h.reports]
  have hf : u.forHost p = s.forHost p := by
    unfold State.forHost
    rw [ha]
  unfold State.hears
  rw [hf, h.hub_alive, h.same]

theorem sealActed (h : s.Looks u x) : u.sealActed = s.sealActed := by
  have key (y : Ch) : ((u.ch y).live && (u.ch y).seals.acted) = ((s.ch y).live && (s.ch y).seals.acted) :=
    congrArg (fun v => v.1 && v.2.2.2.1) (h.views y)
  simp only [State.sealActed, key]

end State.Looks

/-- What becomes of a packet at one channel is what that channel makes of it. -/
theorem State.packet_at (s : State) (op : Nat) (p : Pkt) {f : Ch → State → State} (hf : ∀ y (s : State), s.HostStep (f y s) y)
    (x : Ch) :
    ∃ u, s.Looks u x ∧ (s.packet op p f).ch x = (u.receive x op p (f x)).ch x ∧
      (s.packet op p f).repliesOf x = (u.receive x op p (f x)).repliesOf x := by
  have step (y : Ch) (v : State) := v.receive_hostStep op p (hf y)
  show ∃ u, s.Looks u x ∧ (State.receive _ .c op p (f .c)).ch x = _ ∧ (State.receive _ .c op p (f .c)).repliesOf x = _
  cases x with
  | a =>
    refine ⟨s, .refl s _, ?_, ?_⟩
    · rw [(step .c _).others .a (by decide), (step .b _).others .a (by decide)]
    · rw [(step .c _).replies .a (by decide), (step .b _).replies .a (by decide)]
  | b =>
    refine ⟨_, (State.Looks.refl s .b).stepped (step .a s) (by decide), ?_, ?_⟩
    · rw [(step .c _).others .b (by decide)]
    · rw [(step .c _).replies .b (by decide)]
  | c => exact ⟨_, ((State.Looks.refl s .c).stepped (step .a s) (by decide)).stepped (step .b _) (by decide), rfl, rfl⟩

/-! ### The host port's own part -/

namespace Chan.HostOnly

variable {c d e : Chan}

theorem refl (c : Chan) : c.HostOnly c := rfl

theorem trans (h : c.HostOnly d) (k : d.HostOnly e) : c.HostOnly e := by
  unfold Chan.HostOnly at *
  rw [k, h]

end Chan.HostOnly

/-- The packet counted at the channel. -/
def Chan.counted (c : Chan) : Chan := { c with host := { c.host with rxCnt := inc 16 c.host.rxCnt } }

theorem Chan.counted_hostOnly (c : Chan) : c.HostOnly c.counted := rfl

theorem Chan.takePacket_hostOnly (c : Chan) (t : Session) (p : Pkt) (crc : Word) : c.HostOnly (c.takePacket t p crc) := rfl

theorem Chan.afterIntake_hostOnly (c : Chan) (op : Nat) (p : Pkt) : c.HostOnly (c.afterIntake op p) := by
  unfold Chan.afterIntake
  dsimp only
  split
  · rfl
  · split <;> rfl

/-- The sessions' records of a reply, and the last status that was not OK. -/
def Chan.afterReply (c : Chan) (r : Reply) : Chan :=
  { c with
    host := { c.host with
      sessions := c.host.sessions.map (fun (t : Session) => if t.id == r.session then t.answered r else t)
      lastReject :=
        if r.status < 0x10 then c.host.lastReject else w32 (r.status % 65536 + r.opcode % 65536 * 65536) } }

theorem Chan.afterReply_hostOnly (c : Chan) (r : Reply) : c.HostOnly (c.afterReply r) := rfl

section

variable {s : State}

theorem State.reply_own (r : Reply) (ha : s.hub.alive = true) : s.Answered (s.reply r) r.ch r := by
  show (s.reply r).hub.replies.filter _ = s.hub.replies.filter _ ++ [r]
  rw [State.reply, if_pos ha]
  show (s.hub.replies ++ [r]).filter _ = _
  rw [List.filter_append, List.filter_cons_of_pos (by simp), List.filter_nil]

theorem State.respond_own (r : Reply) (ha : s.hub.alive = true) :
    (s.respond r).ch r.ch = (s.ch r.ch).afterReply r ∧ s.Answered (s.respond r) r.ch r := by
  refine ⟨?_, State.reply_own (s := s.mod r.ch (fun c => c.afterReply r)) r ha⟩
  unfold State.respond
  dsimp only
  rw [State.reply_ch, State.mod_ch]
  rfl

theorem State.answer_own (x : Ch) (op : Nat) (p : Pkt) (st : Nat) (bytes : List Byte) (ha : s.hub.alive = true) :
    (s.answer x op p st bytes).ch x = (s.ch x).afterReply (p.replyOf x op st bytes) ∧
      s.Answered (s.answer x op p st bytes) x (p.replyOf x op st bytes) := State.respond_own _ ha

/-- A packet answered at a state that looks as before is answered at the state before. -/
theorem State.Answered.of_replies {t u v : State} {x : Ch} {r : Reply} (h : u.Answered v x r) (hu : u.repliesOf x = s.repliesOf x)
    (ht : t.repliesOf x = v.repliesOf x) : s.Answered t x r := by
  rw [State.Answered, ht, h, hu]

end

/-! ### The checks of a packet, one by one -/

section

variable {u : State} {x : Ch} {op : Nat} {p : Pkt} {f : State → State}

theorem State.receive_deaf (h : u.hears x p = false) : u.receive x op p f = u := if_pos (by simp [h])

section

variable (hh : u.hears x p = true)

include hh

theorem State.alive_of_hears : u.hub.alive = true := by
  unfold State.hears at hh
  simp only [Bool.and_eq_true] at hh
  obtain ⟨⟨⟨⟨⟨h, -⟩, -⟩, -⟩, -⟩, -⟩ := hh
  exact h

theorem State.receive_crc (hc : crcFails op p x = true) :
    u.receive x op p f = u.put x { (u.ch x).counted with
      host := { (u.ch x).counted.host with crcCnt := inc 8 (u.ch x).counted.host.crcCnt } } := by
  refine (if_neg (by simp [hh])).trans ((if_pos hc).trans ?_)
  rw [State.mod_mod]
  rfl

theorem State.receive_discarded (hc : crcFails op p x = false) (hd : discarded p x = true) :
    u.receive x op p f = u.put x { (u.ch x).counted with
      host := { (u.ch x).counted.host with discardCnt := inc 8 (u.ch x).counted.host.discardCnt } } := by
  refine (if_neg (by simp [hh])).trans ((if_neg (by simp [hc])).trans ((if_pos hd).trans ?_))
  rw [State.mod_mod]
  rfl

theorem State.receive_admitted (hc : crcFails op p x = false) (hd : discarded p x = false) :
    u.receive x op p f = (u.put x (u.ch x).counted).admitted x op p f :=
  (if_neg (by simp [hh])).trans ((if_neg (by simp [hc])).trans (if_neg (by simp [hd])))

end

/-- The answer given, and the session found, rest on nothing that counting the packet changes. -/
theorem Chan.counted_admission (c : Chan) (sealed : Bool) : c.counted.admission sealed op p = c.admission sealed op p := rfl

theorem State.put_sealActed {d : Chan} (hd : d.live = (u.ch x).live) (hs : d.seals.acted = (u.ch x).seals.acted) :
    (u.put x d).sealActed = u.sealActed := by
  have key (y : Ch) : (((u.put x d).ch y).live && ((u.put x d).ch y).seals.acted) = ((u.ch y).live && (u.ch y).seals.acted) := by
    by_cases hy : y = x
    · subst hy
      rw [State.put_ch, hd, hs]
    · rw [State.put_ch_ne u d hy]
  simp only [State.sealActed, key]

theorem State.put_counted_sealActed : (u.put x (u.ch x).counted).sealActed = u.sealActed := State.put_sealActed rfl rfl

section

variable {st : Nat}

theorem State.admitted_refused (h : (u.ch x).admission u.sealActed op p = some st) :
    u.admitted x op p f = u.deny x op p st 0 := by
  unfold State.admitted
  simp only [h]

variable (h : (u.ch x).admission u.sealActed op p = none)

include h

theorem State.admitted_version (hv : p.version ≠ 1) : u.admitted x op p f = u.deny x op p 0x20 0 := by
  unfold State.admitted
  simp only [h]
  exact if_pos (by simpa using hv)

theorem State.admitted_plain (hv : p.version = 1) (ho : op = 1 ∨ op = 2 ∨ op = 3) : u.admitted x op p f = u.handle x op p f := by
  unfold State.admitted
  simp only [h]
  exact (if_neg (by simp [hv])).trans (if_pos (by simpa [or_assoc] using ho))

theorem State.admitted_unbound (hv : p.version = 1) (ho : op ≠ 1 ∧ op ≠ 2 ∧ op ≠ 3) (hb : (u.ch x).boundSession p = none) :
    u.admitted x op p f = u.deny x op p 0x30 0 := by
  unfold State.admitted
  simp only [h, hb]
  exact (if_neg (by simp [hv])).trans (if_neg (by simp [ho]))

theorem State.admitted_bound {t : Session} (hv : p.version = 1) (ho : op ≠ 1 ∧ op ≠ 2 ∧ op ≠ 3)
    (hb : (u.ch x).boundSession p = some t) : u.admitted x op p f = u.inSession x op p t f := by
  unfold State.admitted
  simp only [h, hb]
  exact (if_neg (by simp [hv])).trans (if_neg (by simp [ho]))

end

theorem State.inSession_taken {t : Session} (ht : t.Takes p) :
    u.inSession x op p t f = (u.put x ((u.ch x).takePacket t p (packetCrc op p))).handle x op p f :=
  (if_neg (by simp [ht.1])).trans (if_neg (by simp [ht.2]))

theorem State.handle_passes (hl : isOpcode op = true) (hm : (u.ch x).isVital op p.params = true → p.chmask = 7)
    (hs : sizeFits op p.params = true) : u.handle x op p f = f u := by
  have hmask : ((u.ch x).isVital op p.params && p.chmask != 7) = false := by
    cases hv : (u.ch x).isVital op p.params
    · rfl
    · simp [hm hv]
  exact (if_neg (by simp [hl])).trans ((if_neg (Bool.eq_false_iff.mp hmask)).trans (if_neg (by simp [hs])))

end

/-! ### An accepted packet -/

/-- The state in which a channel hands an accepted packet to its handler. -/
structure State.Intake (s u : State) (x : Ch) (op : Nat) (p : Pkt) : Prop where
  intake : u.ch x = (s.ch x).afterIntake op p
  replies : u.repliesOf x = s.repliesOf x
  views : ∀ y, (u.ch y).hubView = (s.ch y).hubView
  rest : u = { s with chans := u.chans, hub := { s.hub with replies := u.hub.replies }, draws := u.draws }
  alive : u.hub.alive = true

theorem Chan.HostOnly.hubView {c d : Chan} (h : c.HostOnly d) : d.hubView = c.hubView := by
  rw [h]
  rfl

/-- A channel that looks as before takes the packet in. -/
theorem State.Looks.intake {s u : State} {x : Ch} (h : s.Looks u x) (op : Nat) (p : Pkt) (ha : u.hub.alive = true) :
    s.Intake (u.put x ((u.ch x).afterIntake op p)) x op p where
  intake := by rw [State.put_ch, h.same]
  replies := h.replies
  views y := by
    by_cases hy : y = x
    · subst hy
      rw [State.put_ch, ((u.ch y).afterIntake_hostOnly op p).hubView, h.views]
    · rw [State.put_ch_ne u _ hy, h.views]
  rest := by
    conv_lhs => rw [h.rest]
    rfl
  alive := ha

/-- An accepted packet comes to the handler of its row. -/
theorem HostRow.accepted {op : Nat} {i : Pkt → Instr} {f : Pkt → Ch → State → State} (hr : HostRow op i f) {s : State} {x : Ch}
    {p : Pkt} (h : s.Accepts x op p) :
    ∃ t u, exec (i p) s = .next t ∧ s.Intake u x op p ∧ t.ch x = (f p x u).ch x ∧ t.repliesOf x = (f p x u).repliesOf x := by
  obtain ⟨hh, hc, hd, hl, had, hv, hs, hm, hsz⟩ := h
  obtain ⟨u, hu, hch, hrep⟩ := s.packet_at op p (hr.step p) x
  have hh' : u.hears x p = true := (hu.hears_eq p).trans hh
  have hrec : u.receive x op p (f p x) = f p x (u.put x ((u.ch x).afterIntake op p)) := by
    rw [State.receive_admitted hh' hc hd]
    have had' : ((u.put x (u.ch x).counted).ch x).admission (u.put x (u.ch x).counted).sealActed op p = none := by
      rw [State.put_ch, State.put_counted_sealActed, Chan.counted_admission, hu.same, hu.sealActed, had]
    by_cases ho : op = 1 ∨ op = 2 ∨ op = 3
    · have hin : (u.ch x).afterIntake op p = (u.ch x).counted := if_pos (by simpa [or_assoc] using ho)
      rw [State.admitted_plain had' hv ho, hin]
      refine State.handle_passes hl (fun hvit => hm ?_) hsz
      rw [State.put_ch, hu.same] at hvit
      exact hvit
    · have hne : op ≠ 1 ∧ op ≠ 2 ∧ op ≠ 3 := by simpa [not_or] using ho
      obtain ⟨t, hb, ht⟩ : ∃ t, (s.ch x).boundSession p = some t ∧ t.Takes p := by
        rcases hs with h | h | h | h
        · exact absurd h hne.1
        · exact absurd h hne.2.1
        · exact absurd h hne.2.2
        · exact h
      have hb' : ((u.put x (u.ch x).counted).ch x).boundSession p = some t := by
        rw [State.put_ch, hu.same]
        exact hb
      have hin : (u.ch x).afterIntake op p = (u.ch x).counted.takePacket t p (packetCrc op p) := by
        refine (if_neg (by simp [hne])).trans ?_
        show (match (u.ch x).counted.boundSession p with
          | some t => (u.ch x).counted.takePacket t p (packetCrc op p)
          | none => (u.ch x).counted) = _
        rw [show (u.ch x).counted.boundSession p = some t by rw [hu.same]; exact hb]
      rw [State.admitted_bound had' hv hne hb', State.inSession_taken ht, State.put_ch, State.put_put, ← hin]
      refine State.handle_passes hl (fun hvit => hm ?_) hsz
      rw [State.put_ch, hu.same, (s.ch x).afterIntake_hostOnly op p] at hvit
      exact hvit
  rw [hrec] at hch hrep
  exact ⟨_, _, hr.exec_eq p s, hu.intake op p (State.alive_of_hears hh'), hch, hrep⟩

end Sys2Proof.Machine

/-! PROOFS. The order of the checks of a host packet (spec/15 R380 to R384, R396, R398, R399). -/

namespace Sys2Proof.Machine

open Sys2Proof

/-- A packet of one row at one channel: `u` is the state in which the channel finds the module, `t` the state after the packet. -/
structure State.AtChannel (s u t : State) (x : Ch) (op : Nat) (p : Pkt) (f : State → State) : Prop where
  looks : s.Looks u x
  chan : t.ch x = (u.receive x op p f).ch x
  replies : t.repliesOf x = (u.receive x op p f).repliesOf x

namespace State.AtChannel

variable {s u t w : State} {x : Ch} {op : Nat} {p : Pkt} {f : State → State} (h : s.AtChannel u t x op p f)

include h

theorem deaf (hh : s.hears x p = false) : t.ch x = s.ch x ∧ t.repliesOf x = s.repliesOf x := by
  have hv : u.receive x op p f = u := State.receive_deaf ((h.looks.hears_eq p).trans hh)
  rw [h.chan, h.replies, hv]
  exact ⟨h.looks.same, h.looks.replies⟩

theorem admission_eq :
    ((u.put x (u.ch x).counted).ch x).admission (u.put x (u.ch x).counted).sealActed op p = (s.ch x).admission s.sealActed op p := by
  rw [State.put_ch, State.put_counted_sealActed, Chan.counted_admission, h.looks.same, h.looks.sealActed]

theorem bound_eq : ((u.put x (u.ch x).counted).ch x).boundSession p = (s.ch x).boundSession p := by
  rw [State.put_ch, h.looks.same]
  rfl

theorem session_eq (ha : (s.ch x).admission s.sealActed op p = none) (hv : p.version = 1) (ho : op ≠ 1 ∧ op ≠ 2 ∧ op ≠ 3)
    {q : Session} (hb : (s.ch x).boundSession p = some q) :
    (u.put x (u.ch x).counted).admitted x op p f = (u.put x (u.ch x).counted).inSession x op p q f :=
  State.admitted_bound (h.admission_eq.trans ha) hv ho (h.bound_eq.trans hb)

theorem denied {st d : Nat} (hv : u.receive x op p f = w.deny x op p st d) (hw : (u.ch x).counted.HostOnly (w.ch x))
    (hrx : (w.ch x).host.rxCnt = (u.ch x).counted.host.rxCnt) (hwr : w.repliesOf x = u.repliesOf x) (ha : w.hub.alive = true) :
    (s.ch x).HostOnly (t.ch x) ∧ s.Answered t x (p.replyOf x op st (detailed st d)) ∧
      (t.ch x).host.rxCnt = inc 16 (s.ch x).host.rxCnt := by
  obtain ⟨hc, hans⟩ := w.answer_own x op p st (detailed st d) ha
  have hch : t.ch x = (w.ch x).afterReply (p.replyOf x op st (detailed st d)) := by rw [h.chan, hv]; exact hc
  have hrep : t.repliesOf x = (w.deny x op p st d).repliesOf x := by rw [h.replies, hv]
  rw [hch, ← h.looks.same]
  refine ⟨((Chan.counted_hostOnly _).trans hw).trans (Chan.afterReply_hostOnly _ _), ?_, hrx⟩
  exact State.Answered.of_replies (s := s) hans (hwr.trans h.looks.replies) hrep

section

variable (hh : s.hears x p = true)

include hh

theorem hears_there : u.hears x p = true := (h.looks.hears_eq p).trans hh

theorem alive (d : Chan) : (u.put x d).hub.alive = true :=
  show u.hub.alive = true from State.alive_of_hears (h.hears_there hh)

theorem crc (hc : crcFails op p x = true) :
    (s.ch x).HostOnly (t.ch x) ∧ (t.ch x).host.crcCnt = inc 8 (s.ch x).host.crcCnt ∧ t.repliesOf x = s.repliesOf x ∧
      (t.ch x).host.rxCnt = inc 16 (s.ch x).host.rxCnt := by
  have hv := State.receive_crc (f := f) (h.hears_there hh) hc
  rw [h.chan, h.replies, hv, State.put_ch, ← h.looks.same]
  exact ⟨rfl, rfl, h.looks.replies, rfl⟩

theorem dropped (hc : crcFails op p x = false) (hd : discarded p x = true) :
    (s.ch x).HostOnly (t.ch x) ∧ (t.ch x).host.discardCnt = inc 8 (s.ch x).host.discardCnt ∧ t.repliesOf x = s.repliesOf x ∧
      (t.ch x).host.rxCnt = inc 16 (s.ch x).host.rxCnt := by
  have hv := State.receive_discarded (f := f) (h.hears_there hh) hc hd
  rw [h.chan, h.replies, hv, State.put_ch, ← h.looks.same]
  exact ⟨rfl, rfl, h.looks.replies, rfl⟩

variable (hc : crcFails op p x = false) (hd : discarded p x = false)

include hc hd

/-- A packet that no discard check holds back is answered at once, in the state in which it is counted. -/
theorem answered {st : Nat}
    (hv : (u.put x (u.ch x).counted).admitted x op p f = (u.put x (u.ch x).counted).deny x op p st 0) :
    (s.ch x).HostOnly (t.ch x) ∧ s.Answered t x (p.replyOf x op st (detailed st 0)) ∧
      (t.ch x).host.rxCnt = inc 16 (s.ch x).host.rxCnt := by
  refine h.denied (w := u.put x (u.ch x).counted) ((State.receive_admitted (h.hears_there hh) hc hd).trans hv) ?_ ?_ rfl
    (h.alive hh _)
  · rw [State.put_ch]
    exact .refl _
  · rw [State.put_ch]

theorem refused {st : Nat} (ha : (s.ch x).admission s.sealActed op p = some st) :
    (s.ch x).HostOnly (t.ch x) ∧ s.Answered t x (p.replyOf x op st (detailed st 0)) ∧
      (t.ch x).host.rxCnt = inc 16 (s.ch x).host.rxCnt :=
  h.answered hh hc hd (State.admitted_refused ((h.admission_eq).trans ha))

variable (ha : (s.ch x).admission s.sealActed op p = none)

include ha

theorem wrongVersion (hv : p.version ≠ 1) :
    (s.ch x).HostOnly (t.ch x) ∧ s.Answered t x (p.replyOf x op 0x20 (detailed 0x20 0)) ∧
      (t.ch x).host.rxCnt = inc 16 (s.ch x).host.rxCnt :=
  h.answered hh hc hd (State.admitted_version ((h.admission_eq).trans ha) hv)

variable (hv : p.version = 1)

include hv

/-- An opcode that needs no session comes to the last checks as it was counted. -/
theorem handled_plain (ho : op = 1 ∨ op = 2 ∨ op = 3) :
    u.receive x op p f = (u.put x (u.ch x).counted).handle x op p f :=
  (State.receive_admitted (h.hears_there hh) hc hd).trans (State.admitted_plain ((h.admission_eq).trans ha) hv ho)

section

variable (ho : op ≠ 1 ∧ op ≠ 2 ∧ op ≠ 3)

include ho

theorem unbound (hb : (s.ch x).boundSession p = none) :
    (s.ch x).HostOnly (t.ch x) ∧ s.Answered t x (p.replyOf x op 0x30 (detailed 0x30 0)) ∧
      (t.ch x).host.rxCnt = inc 16 (s.ch x).host.rxCnt :=
  h.answered hh hc hd (State.admitted_unbound ((h.admission_eq).trans ha) hv ho
    ((h.bound_eq).trans hb))

variable {q : Session} (hb : (s.ch x).boundSession p = some q)

include hb

theorem budget (hn : q.isNew p.seq = true) (hw : 4 ≤ q.waiting) :
    (s.ch x).HostOnly (t.ch x) ∧ s.Answered t x (p.replyOf x op 0x41 (detailed 0x41 0)) ∧
      (t.ch x).host.rxCnt = inc 16 (s.ch x).host.rxCnt :=
  h.answered hh hc hd ((h.session_eq ha hv ho hb).trans ((if_neg (by simp [hn])).trans (if_pos hw)))

section

variable (hn : q.isNew p.seq = false)

include hn

theorem repeated_unknown (hf : q.heard.find? (fun e => e.crc == packetCrc op p) = none) :
    (s.ch x).HostOnly (t.ch x) ∧ s.Answered t x (p.replyOf x op 0x32 (detailed 0x32 0)) ∧
      (t.ch x).host.rxCnt = inc 16 (s.ch x).host.rxCnt := by
  refine h.answered hh hc hd ((h.session_eq ha hv ho hb).trans ((if_pos (by simp [hn])).trans ?_))
  simp only [hf]

/-- A duplicate changes nothing but the count of packets. -/
theorem repeated {e : Heard} (hf : q.heard.find? (fun e => e.crc == packetCrc op p) = some e) :
    (s.ch x).HostOnly (t.ch x) ∧ (∀ r, e.reply = some r → r.ch = x → s.Answered t x r) ∧
      (e.reply = none → t.repliesOf x = s.repliesOf x) := by
  have hv' : u.receive x op p f = (u.put x (u.ch x).counted).inSession x op p q f :=
    (State.receive_admitted (h.hears_there hh) hc hd).trans (h.session_eq ha hv ho hb)
  rw [State.inSession, if_pos (by simp [hn])] at hv'
  simp only [hf] at hv'
  have halive := h.alive hh (u.ch x).counted
  cases hr : e.reply with
  | none =>
    simp only [hr] at hv'
    rw [h.chan, h.replies, hv', State.put_ch, ← h.looks.same]
    exact ⟨rfl, fun r hr' => (by cases hr'), fun _ => h.looks.replies⟩
  | some r =>
    simp only [hr] at hv'
    refine ⟨?_, fun r' hr' hx => ?_, fun hn => by cases hn⟩
    · rw [h.chan, hv', State.reply_ch, State.put_ch, ← h.looks.same]
      exact Chan.counted_hostOnly _
    · cases hr'
      subst hx
      refine State.Answered.of_replies (s := s) (u := u.put r.ch (u.ch r.ch).counted)
        (v := (u.put r.ch (u.ch r.ch).counted).reply r) (State.reply_own r halive) h.looks.replies ?_
      rw [h.replies, hv']

end

end

/-- A packet that reaches the last checks does so with the channel as after its intake. -/
theorem handled (hs : (op = 1 ∨ op = 2 ∨ op = 3) ∨ ∃ q, (s.ch x).boundSession p = some q ∧ q.Takes p) :
    ∃ w : State, u.receive x op p f = w.handle x op p f ∧ (u.ch x).counted.HostOnly (w.ch x) ∧
      (w.ch x).host.rxCnt = (u.ch x).counted.host.rxCnt ∧ w.repliesOf x = u.repliesOf x ∧ w.hub.alive = true := by
  have halive : u.hub.alive = true := State.alive_of_hears (h.hears_there hh)
  by_cases ho : op = 1 ∨ op = 2 ∨ op = 3
  · refine ⟨_, h.handled_plain hh hc hd ha hv ho, ?_, ?_, rfl, halive⟩
    · rw [State.put_ch]
      exact .refl _
    · rw [State.put_ch]
  · obtain ⟨q, hb, ht⟩ := hs.resolve_left ho
    have hne : op ≠ 1 ∧ op ≠ 2 ∧ op ≠ 3 := by simpa [not_or] using ho
    refine ⟨_, (State.receive_admitted (h.hears_there hh) hc hd).trans ((h.session_eq ha hv hne hb).trans
      (State.inSession_taken ht)), ?_, ?_, rfl, halive⟩
    · rw [State.put_ch, State.put_ch]
      exact Chan.takePacket_hostOnly _ _ _ _
    · rw [State.put_ch, State.put_ch]
      rfl

end

end State.AtChannel

theorem Chan.HostOnly.isVital {c d : Chan} (h : c.HostOnly d) (op : Nat) (ps : List Byte) : d.isVital op ps = c.isVital op ps := by
  rw [h]
  rfl

theorem sessionOr {op : Nat} {c : Chan} {p : Pkt}
    (h : ¬ (op ≠ 1 ∧ op ≠ 2 ∧ op ≠ 3) ∨ ∃ q, c.boundSession p = some q ∧ q.Takes p) :
    (op = 1 ∨ op = 2 ∨ op = 3) ∨ ∃ q, c.boundSession p = some q ∧ q.Takes p :=
  h.imp_left fun h => by omega

theorem isOpcode_of_hostRows : ∀ e ∈ hostRows, isOpcode e.1 = true := by decide

/-- Settles O56: each check answers in the state in which the packet was counted, so only the host port's own part moves. -/
theorem packetsAreChecked : Obligations.PacketsAreChecked := by
  unfold Obligations.PacketsAreChecked
  intro e he p s x
  obtain ⟨f, hrow⟩ := hostRows_row e he
  obtain ⟨u, hu, hch, hrep⟩ := s.packet_at e.1 p (hrow.step p) x
  have h : s.AtChannel u (s.packet e.1 p (f p)) x e.1 p (f p x) := ⟨hu, hch, hrep⟩
  have hop := isOpcode_of_hostRows e he
  refine ⟨_, hrow.exec_eq p s, h.deaf, fun hh => ⟨?_, ?_, ?_, ?_⟩⟩
  · intro hcase
    by_cases hc : crcFails e.1 p x = true
    · exact (h.crc hh hc).2.2.2
    · have hc' : crcFails e.1 p x = false := by simpa using hc
      by_cases hd : discarded p x = true
      · exact (h.dropped hh hc' hd).2.2.2
      · obtain ⟨st, hst⟩ := Option.isSome_iff_exists.mp ((hcase.resolve_left hc).resolve_left hd)
        exact (h.refused hh hc' (by simpa using hd) hst).2.2
  · intro hc
    obtain ⟨h1, h2, h3, -⟩ := h.crc hh hc
    exact ⟨h1, h2, h3⟩
  · intro hc hd
    obtain ⟨h1, h2, h3, -⟩ := h.dropped hh hc hd
    exact ⟨h1, h2, h3⟩
  · intro hc hd
    refine ⟨fun st ha => ?_, fun ha => ⟨fun hv => ?_, fun hv ho hb => ?_, fun hv ho q hb => ⟨fun hn => ?_, fun hn hw => ?_⟩,
      fun hv hs => ⟨fun hvit hm => ?_, fun hvit hsz => ?_⟩⟩⟩
    · exact (h.refused hh hc hd ha).imp_right And.left
    · exact (h.wrongVersion hh hc hd ha hv).imp_right And.left
    · exact (h.unbound hh hc hd ha hv ho hb).imp_right And.left
    · cases hf : q.heard.find? (fun h => h.crc == packetCrc e.1 p) with
      | none =>
        obtain ⟨h1, h2, -⟩ := h.repeated_unknown hh hc hd ha hv ho hb hn hf
        exact ⟨h1, fun _ _ h' => (by cases h'), fun _ h' => (by cases h'), fun _ => h2⟩
      | some g =>
        obtain ⟨h1, h2, h3⟩ := h.repeated hh hc hd ha hv ho hb hn hf
        exact ⟨h1, fun g' r hg hr hx => h2 r (Option.some.inj hg ▸ hr) hx,
          fun g' hg hr => h3 (Option.some.inj hg ▸ hr), fun h' => (by cases h')⟩
    · exact (h.budget hh hc hd ha hv ho hb hn hw).imp_right And.left
    · obtain ⟨w, hv', hw, hrx, hwr, halive⟩ := h.handled hh hc hd ha hv (sessionOr hs)
      have hmask : ((w.ch x).isVital e.1 p.params && p.chmask != 7) = true := by
        rw [hw.isVital, hu.same]
        simpa using ⟨hvit, hm⟩
      exact (h.denied (hv'.trans ((if_neg (by simp [hop])).trans (if_pos hmask))) hw hrx hwr halive).imp_right And.left
    · obtain ⟨w, hv', hw, hrx, hwr, halive⟩ := h.handled hh hc hd ha hv (sessionOr hs)
      have hmask : ((w.ch x).isVital e.1 p.params && p.chmask != 7) = false := by
        rw [hw.isVital, hu.same]
        rcases hvit with hvit | hvit
        · rw [show (s.ch x).counted.isVital e.1 p.params = false from hvit, Bool.false_and]
        · rw [hvit, bne_self_eq_false, Bool.and_false]
      exact (h.denied (hv'.trans ((if_neg (by simp [hop])).trans ((if_neg (Bool.eq_false_iff.mp hmask)).trans
        (if_pos (by simp [hsz]))))) hw hrx hwr halive).imp_right And.left

end Sys2Proof.Machine

/-! PROOFS. Accepted packets: what a handler's answer leaves, and vital commands listed for agreement (spec/15 R380, R384, R385). -/

namespace Sys2Proof.Machine

open Sys2Proof

/-! ### What an accepted packet's handler leaves -/

section

variable {s u : State} {x : Ch} {op : Nat} {p : Pkt} {i : Pkt → Instr} {f : Pkt → Ch → State → State}

theorem State.Intake.factory (h : s.Intake u x op p) : u.factory = s.factory := by rw [h.rest]

/-- A handler that replies: the channel is as the handler has left it but for the reply's records. -/
theorem HostRow.responds (hr : HostRow op i f) (h : s.Accepts x op p) {r : Reply} (hx : r.ch = x) {d : Chan}
    (hf : ∀ u, s.Intake u x op p → ∃ v : State, f p x u = v.respond r ∧ v.ch x = d ∧
      v.repliesOf x = u.repliesOf x ∧ v.hub.alive = u.hub.alive) :
    ∃ t, exec (i p) s = .next t ∧ t.ch x = d.afterReply r ∧ s.Answered t x r := by
  obtain ⟨t, u, ht, hu, hch, hrep⟩ := hr.accepted h
  obtain ⟨v, hv, hd, hvr, hva⟩ := hf u hu
  subst hx
  obtain ⟨hc, hans⟩ := v.respond_own r (hva.trans hu.alive)
  rw [hv] at hch hrep
  exact ⟨t, ht, by rw [hch, hc, hd], hans.of_replies (hvr.trans hu.replies) hrep⟩

/-- A handler that answers the packet. -/
theorem HostRow.answers (hr : HostRow op i f) (h : s.Accepts x op p) {st : Nat} {bytes : List Byte} {d : Chan}
    (hf : ∀ u, s.Intake u x op p → ∃ v : State, f p x u = v.answer x op p st bytes ∧ v.ch x = d ∧
      v.repliesOf x = u.repliesOf x ∧ v.hub.alive = u.hub.alive) :
    ∃ t, exec (i p) s = .next t ∧ t.ch x = d.afterReply (p.replyOf x op st bytes) ∧
      s.Answered t x (p.replyOf x op st bytes) := hr.responds h rfl hf

/-- A handler that answers at once, in the state in which the channel has taken the packet in. -/
theorem HostRow.answers_plain (hr : HostRow op i f) (h : s.Accepts x op p) {st : Nat} {bytes : List Byte}
    (hf : ∀ u, s.Intake u x op p → f p x u = u.answer x op p st bytes) :
    ∃ t, exec (i p) s = .next t ∧ (s.ch x).HostOnly (t.ch x) ∧ s.Answered t x (p.replyOf x op st bytes) := by
  obtain ⟨t, ht, hch, hans⟩ := hr.answers h fun u hu => ⟨u, hf u hu, hu.intake, rfl, rfl⟩
  refine ⟨t, ht, ?_, hans⟩
  rw [hch]
  exact ((s.ch x).afterIntake_hostOnly op p).trans (Chan.afterReply_hostOnly _ _)

/-- A handler that changes its channel, then answers. -/
theorem HostRow.answers_put (hr : HostRow op i f) (h : s.Accepts x op p) {st : Nat} {bytes : List Byte} {d : Chan}
    (hf : ∀ u, s.Intake u x op p → f p x u = (u.put x d).answer x op p st bytes) :
    ∃ t, exec (i p) s = .next t ∧ t.ch x = d.afterReply (p.replyOf x op st bytes) ∧
      s.Answered t x (p.replyOf x op st bytes) :=
  hr.answers h fun u hu => ⟨_, hf u hu, State.put_ch _ _ _, rfl, rfl⟩

end

/-! ### Checks of a command's parameters rest on nothing of the host port's own part -/

theorem Chan.HostOnly.writeImmediate {c d : Chan} (h : c.HostOnly d) (n : Nat) (w : Word) :
    (c.writeImmediate n w).HostOnly (d.writeImmediate n w) := by
  rw [h]
  generalize d.host = e
  unfold Chan.writeImmediate Chan.HostOnly
  dsimp only
  repeat' split
  all_goals rfl

theorem Chan.HostOnly.writeFault {c d : Chan} (h : c.HostOnly d) (n pad : Nat) (w : Word) :
    d.writeFault n pad w = c.writeFault n pad w := by
  rw [h]
  rfl

theorem Chan.HostOnly.firstWriteFault {c d : Chan} (h : c.HostOnly d) (k : Nat) (es : List (Nat × Nat × Word)) :
    firstWriteFault d k es = firstWriteFault c k es := by
  induction es generalizing c d k with
  | nil => rfl
  | cons e es ih =>
    unfold Machine.firstWriteFault
    rw [h.writeFault]
    split
    · refine ih ?_ _
      split
      · exact h.writeImmediate _ _
      · exact h
    · rfl

theorem Chan.HostOnly.targetOk {c d : Chan} (h : c.HostOnly d) (op : Nat) (q : List Byte) : d.targetOk op q = c.targetOk op q := by
  rw [h]
  rfl

theorem Chan.HostOnly.paramFault {c d : Chan} (h : c.HostOnly d) (op : Nat) (ps : List Byte) :
    d.paramFault op ps = c.paramFault op ps := by
  unfold Chan.paramFault
  simp only [h.firstWriteFault, h.targetOk]

theorem Chan.HostOnly.split {c d : Chan} (h : c.HostOnly d) : d.split = c.split := by
  rw [h]
  rfl

/-! ### Vital commands (R384, R385) -/

theorem Chan.split_of_isVital {c : Chan} {op : Nat} {ps : List Byte} (h : c.isVital op ps = true) : c.split = false := by
  unfold Chan.isVital at h
  simp only [Bool.and_eq_true, Bool.not_eq_true'] at h
  exact h.1

/-- The rows of vital commands. -/
def vitalRows : List (Nat × (Pkt → Instr)) :=
  criticalRows ++ requestRows ++ partnerRows ++ splitRows ++ [(0x0102, Instr.writeParam)]

/-- A row submits a vital command to the agreement of the channels. -/
def Submits (op : Nat) (i : Pkt → Instr) : Prop :=
  ∃ f, HostRow op i f ∧ ∀ p x (u : State), (u.ch x).isVital op p.params = true → f p x u = u.submit x op p

theorem State.writeParam_vital {s : State} {ch : Ch} {p : Pkt} (h : (s.ch ch).isVital 0x0102 p.params = true) :
    s.writeParam ch p = s.submit ch 0x0102 p := by
  unfold State.writeParam State.submit
  dsimp only
  split
  · rfl
  · rw [if_pos h]
    rfl

theorem vitalRows_submit : ∀ e ∈ vitalRows, Submits e.1 e.2 := by
  have submits {op : Nat} {i : Pkt → Instr}
      (h : ∀ p s, exec (i p) s = .next (s.packet op p (fun ch s => s.submit ch op p))) : Submits op i :=
    ⟨_, hostRow_submit h, fun _ _ _ _ => rfl⟩
  have critical : ∀ e ∈ criticalRows ++ requestRows ++ partnerRows, Submits e.1 e.2 := by
    simp only [criticalRows, requestRows, partnerRows, List.cons_append, List.nil_append, List.forall_mem_cons]
    repeat' apply And.intro
    all_goals first | exact submits (fun _ _ => rfl) | exact fun _ h => nomatch h
  have split : ∀ e ∈ splitRows ++ [(0x0102, Instr.writeParam)], Submits e.1 e.2 := by
    simp only [splitRows, List.cons_append, List.nil_append, List.forall_mem_cons]
    exact ⟨⟨_, hostRow_exchVerify, fun _ _ _ h => if_neg (by simp [Chan.split_of_isVital h])⟩,
      ⟨_, hostRow_exchAbort, fun _ _ _ h => if_neg (by simp [Chan.split_of_isVital h])⟩,
      ⟨_, hostRow_calWrite, fun _ _ _ h => if_neg (by simp [Chan.split_of_isVital h])⟩,
      ⟨_, hostRow_writeParam, fun _ _ _ h => State.writeParam_vital h⟩, fun _ h => nomatch h⟩
  intro e he
  rw [vitalRows, List.append_assoc _ splitRows, List.mem_append] at he
  exact he.elim (critical e) (split e)

/-- A vital command accepted: listed, or answered at once where its parameters do not stand. -/
theorem Submits.listed {op : Nat} {i : Pkt → Instr} (hsub : Submits op i) {s : State} {x : Ch} {p : Pkt}
    (h : s.Accepts x op p) (hv : (s.ch x).isVital op p.params = true) :
    ((s.ch x).paramFault op p.params = none →
      ∃ t, exec (i p) s = .next t ∧ t.ch x = ((s.ch x).afterIntake op p).listVital op p ∧ t.repliesOf x = s.repliesOf x) ∧
    (∀ st d, (s.ch x).paramFault op p.params = some (st, d) →
      ∃ t, exec (i p) s = .next t ∧ (s.ch x).HostOnly (t.ch x) ∧
        (t.ch x).host.listed = ((s.ch x).afterIntake op p).host.listed ∧
        s.Answered t x (p.replyOf x op st (detailed st d))) := by
  obtain ⟨f, hr, hf⟩ := hsub
  have hin := (s.ch x).afterIntake_hostOnly op p
  have hsubmit (u : State) (hu : s.Intake u x op p) : f p x u = u.submit x op p :=
    hf p x u (by rw [hu.intake, hin.isVital, hv])
  have hfault (u : State) (hu : s.Intake u x op p) : (u.ch x).paramFault op p.params = (s.ch x).paramFault op p.params := by
    rw [hu.intake, hin.paramFault]
  constructor
  · intro hp
    obtain ⟨t, u, ht, hu, hch, hrep⟩ := hr.accepted h
    have hval : f p x u = u.mod x (fun c => c.listVital op p) := by
      rw [hsubmit u hu, State.submit, hfault u hu, hp]
    rw [hval] at hch hrep
    exact ⟨t, ht, by rw [hch, State.mod_ch, hu.intake], hrep.trans hu.replies⟩
  · intro st d hp
    obtain ⟨t, ht, hch, hans⟩ := hr.answers (st := st) (bytes := detailed st d) (d := (s.ch x).afterIntake op p) h
      fun u hu => ⟨u, by rw [hsubmit u hu, State.submit, hfault u hu, hp]; rfl, hu.intake, rfl, rfl⟩
    refine ⟨t, ht, ?_, ?_, hans⟩
    · rw [hch]
      exact hin.trans (Chan.afterReply_hostOnly _ _)
    · rw [hch]
      rfl

/-! ### SPLIT mode (R180) -/

section

variable {s : State} {x : Ch} {p : Pkt}

/-- What SPLIT mode carries out at once, or refuses. -/
theorem HostRow.applies {op : Nat} {i : Pkt → Instr} {f : Pkt → Ch → State → State} (hr : HostRow op i f) (h : s.Accepts x op p)
    {r : Option (Chan × List Byte)} (hf : ∀ u, s.Intake u x op p → f p x u = u.applyNow x op p r) :
    (∀ d bytes, r = some (d, bytes) → ∃ t, exec (i p) s = .next t ∧ d.HostOnly (t.ch x) ∧
      s.Answered t x (p.replyOf x op 0 bytes)) ∧
    (r = none → ∃ t, exec (i p) s = .next t ∧ (s.ch x).HostOnly (t.ch x) ∧
      s.Answered t x (p.replyOf x op refusedCode (detailed refusedCode 0))) := by
  constructor
  · intro d bytes hd
    obtain ⟨t, ht, hch, hans⟩ := hr.answers_put (st := 0) (bytes := bytes) (d := d) h fun u hu => by rw [hf u hu, hd]; rfl
    refine ⟨t, ht, ?_, hans⟩
    rw [hch]
    exact Chan.afterReply_hostOnly _ _
  · intro hd
    exact hr.answers_plain h fun u hu => by rw [hf u hu, hd]; rfl

theorem State.Intake.split {u : State} {op : Nat} (hu : s.Intake u x op p) : (u.ch x).split = (s.ch x).split := by
  rw [hu.intake, ((s.ch x).afterIntake_hostOnly op p).split]

end

/-- Settles O57: a vital command is judged on the channel that has taken the packet in, which its checks do not tell from before. -/
theorem vitalCommandsAreListed : Obligations.VitalCommandsAreListed := by
  unfold Obligations.VitalCommandsAreListed
  refine ⟨fun e he p s x h hv => (vitalRows_submit e he).listed h hv, ?_⟩
  intro p s x hs
  refine ⟨fun h => ?_, fun h => ?_, fun h hp => ?_⟩
  · obtain ⟨hsome, hnone⟩ := hostRow_exchVerify.applies h (r := (((s.ch x).afterIntake 0x0303 p).exchVerify x s.factory.variant).map
      (fun c => (c, bytesOfNat 4 c.blocks.result))) fun u hu => by
        rw [if_pos (hu.split.trans hs), hu.intake, hu.factory]
    refine ⟨fun d hd => hsome d _ (by rw [hd]; rfl), fun hn => hnone (by rw [hn]; rfl)⟩
  · obtain ⟨hsome, hnone⟩ := hostRow_exchAbort.applies h (r := ((s.ch x).afterIntake 0x0304 p).exchAbort.map
      (fun c => (c, []))) fun u hu => by
        rw [if_pos (hu.split.trans hs), hu.intake]
    refine ⟨fun d hd => hsome d _ (by rw [hd]; rfl), fun hn => hnone (by rw [hn]; rfl)⟩
  · refine (hostRow_calWrite.applies h (r := some (((s.ch x).afterIntake 0x0701 p).calWrite x p.params, [])) fun u hu => ?_).1
      _ _ rfl
    have hfault : (u.ch x).paramFault 0x0701 p.params = none := by
      rw [hu.intake, ((s.ch x).afterIntake_hostOnly 0x0701 p).paramFault, hp]
    rw [if_pos (hu.split.trans hs), hfault, hu.intake]

end Sys2Proof.Machine

/-! PROOFS. Sessions, status and identity (spec/15 R381, R392, R396, spec/16 R420), and what the hub answers itself. -/

namespace Sys2Proof.Machine

open Sys2Proof

/-! ### The sessions of a host port -/

theorem Session.answered_id (t : Session) (r : Reply) : (t.answered r).id = t.id := by
  unfold Session.answered
  split <;> rfl

theorem find?_map_id {l : List Session} {g : Session → Session} (hg : ∀ t, (g t).id = t.id) (n : Nat) :
    (l.map g).find? (fun t => t.id == n) = (l.find? (fun t => t.id == n)).map g := by
  rw [List.find?_map]
  simp only [Function.comp_def, hg]

/-- The sessions after a reply: the same, each with its own record of it. -/
theorem Chan.afterReply_session (c : Chan) (r : Reply) (n : Nat) :
    (c.afterReply r).host.session n = (c.host.session n).map (fun t => if t.id == r.session then t.answered r else t) :=
  find?_map_id (g := fun t => if t.id == r.session then t.answered r else t)
    (fun t => by split <;> [exact t.answered_id r; rfl]) n

theorem HostState.close_session (h : HostState) (n : Nat) : (h.close n).session n = none := by
  unfold HostState.session HostState.close
  rw [List.find?_eq_none]
  intro t ht
  have := (List.mem_filter.mp ht).2
  simpa using this

/-- A session as it opens. -/
def newSession (p : Pkt) (n now : Nat) : Session :=
  { id := n, addr := p.addr, port := p.port, lastSeq := none, heard := [], waiting := 0, prepare := none
    selectors := [], snap := none, lastAt := now }

/-- A session opened at a free ID is found there. -/
theorem HostState.openFor_session {h : HostState} {n : Nat} (hf : h.freeId = some n) (p : Pkt) (now : Nat) :
    (h.openFor n p now).session n = some (newSession p n now) := by
  have hnone : h.sessions.find? (fun t => t.id == n) = none := by
    have := List.find?_some hf
    simpa only [HostState.session, Option.isNone_iff_eq_none] using this
  unfold HostState.session HostState.openFor
  rw [List.find?_append, hnone, Option.none_or]
  exact List.find?_cons_of_pos (p := fun t : Session => t.id == n) (a := newSession p n now) (beq_self_eq_true n)

/-! ### Status and identity -/

theorem State.Intake.hedgehogWord {s u : State} {x : Ch} {op : Nat} {p : Pkt} (h : s.Intake u x op p) (c : Chan) :
    u.hedgehogWord c = s.hedgehogWord c := by
  have key (y : Ch) : (u.ch y).safe.alive = (s.ch y).safe.alive := congrArg (fun v => v.2.2.2.2) (h.views y)
  have ha : u.chans.a.safe.alive = s.chans.a.safe.alive := key .a
  have hb : u.chans.b.safe.alive = s.chans.b.safe.alive := key .b
  have hc : u.chans.c.safe.alive = s.chans.c.safe.alive := key .c
  have hh : u.hedgehog = s.hedgehog := by rw [h.rest]
  unfold State.hedgehogWord
  rw [ha, hb, hc, hh]

/-- Counting the packet is nothing that the status tells. -/
theorem State.Intake.statusBytes {s u : State} {x : Ch} {p : Pkt} (h : s.Intake u x 1 p) : u.statusBytes x = s.statusBytes x := by
  have hc : u.ch x = (s.ch x).counted := h.intake
  have hw : s.hedgehogWord (s.ch x).counted = s.hedgehogWord (s.ch x) := rfl
  unfold State.statusBytes
  dsimp only
  rw [h.hedgehogWord, hc, hw]
  rfl

theorem State.Intake.identityBytes {s u : State} {x : Ch} {p : Pkt} (h : s.Intake u x 2 p) :
    u.identityBytes x = s.identityBytes x := by
  have hc : u.ch x = (s.ch x).counted := h.intake
  unfold State.identityBytes
  dsimp only
  rw [h.factory, hc]
  rfl

/-! ### The rows -/

section

variable {s : State} {x : Ch} {p : Pkt}

theorem exec_openSession_free (h : s.Accepts x 3 p) {n : Nat} (hn : (s.ch x).host.freeId = some n) :
    ∃ t, exec (.openSession p) s = .next t ∧ (s.ch x).HostOnly (t.ch x) ∧ s.Answered t x { p.replyOf x 3 0 [] with session := n } ∧
      (∃ u, (t.ch x).host.session n = some u ∧ u.addr = p.addr ∧ u.port = p.port ∧ u.prepare = none ∧ u.snap = none) := by
  have hfree : (s.ch x).counted.host.freeId = some n := hn
  obtain ⟨t, ht, hch, hans⟩ := hostRow_openSession.responds (r := { p.replyOf x 3 0 [] with session := n })
    (d := { (s.ch x).counted with host := (s.ch x).counted.host.openFor n p (s.ch x).counted.clock }) h rfl fun u hu => by
      have hc : u.ch x = (s.ch x).counted := hu.intake
      refine ⟨u.mod x (fun c => { c with host := c.host.openFor n p c.clock }), ?_, ?_, rfl, rfl⟩
      · unfold State.openAt
        rw [hc, hfree]
        rfl
      · rw [State.mod_ch, hc]
  refine ⟨t, ht, ?_, hans, ?_⟩
  · rw [hch]
    rfl
  · rw [hch, Chan.afterReply_session, HostState.openFor_session hfree]
    have hnew : (newSession p n (s.ch x).counted.clock).answered { p.replyOf x 3 0 [] with session := n } =
        newSession p n (s.ch x).counted.clock := rfl
    refine ⟨newSession p n (s.ch x).counted.clock, ?_, rfl, rfl, rfl, rfl⟩
    rw [Option.map_some, hnew, ite_self]

theorem exec_openSession_full (h : s.Accepts x 3 p) (hn : (s.ch x).host.freeId = none) :
    ∃ t, exec (.openSession p) s = .next t ∧ (s.ch x).HostOnly (t.ch x) ∧ s.Answered t x (p.replyOf x 3 0x31 (detailed 0x31 0)) :=
  hostRow_openSession.answers_plain h fun u hu => by
    have hc : u.ch x = (s.ch x).counted := hu.intake
    have hfree : (s.ch x).counted.host.freeId = none := hn
    show u.openAt x p = _
    unfold State.openAt
    rw [hc, hfree]
    rfl

theorem exec_closeSession (h : s.Accepts x 4 p) :
    ∃ t, exec (.closeSession p) s = .next t ∧ (s.ch x).HostOnly (t.ch x) ∧ s.Answered t x (p.replyOf x 4 0 []) ∧
      (t.ch x).host.session p.session = none ∧ (∀ r ∈ (t.ch x).host.results, r.session ≠ p.session) := by
  have hin := (s.ch x).afterIntake_hostOnly 4 p
  obtain ⟨t, ht, hch, hans⟩ := hostRow_closeSession.answers_put h (st := 0) (bytes := [])
    (d := { (s.ch x).afterIntake 4 p with host := ((s.ch x).afterIntake 4 p).host.close p.session }) fun u hu => by
      rw [State.mod, hu.intake]
  refine ⟨t, ht, ?_, hans, ?_, ?_⟩
  · rw [hch]
    generalize (s.ch x).afterIntake 4 p = d at hin
    exact hin.trans rfl
  · rw [hch, Chan.afterReply_session, HostState.close_session]
    rfl
  · rw [hch]
    intro r hr
    simpa using (List.mem_filter.mp hr).2

theorem exec_writeParam_plain (h : s.Accepts x 0x0102 p) (hp : (s.ch x).paramFault 0x0102 p.params = none)
    (hv : (s.ch x).isVital 0x0102 p.params = false) :
    ∃ t, exec (.writeParam p) s = .next t ∧ s.Answered t x (p.replyOf x 0x0102 0 []) ∧
      ((writeEntries p.params).foldl (fun d e => d.applyEntry p.session true e) ((s.ch x).afterIntake 0x0102 p)).HostOnly
        (t.ch x) := by
  have hin := (s.ch x).afterIntake_hostOnly 0x0102 p
  obtain ⟨t, ht, hch, hans⟩ := hostRow_writeParam.answers_put h (st := 0) (bytes := [])
    (d := (writeEntries p.params).foldl (fun d e => d.applyEntry p.session true e) ((s.ch x).afterIntake 0x0102 p))
    fun u hu => by
      unfold State.writeParam
      dsimp only
      rw [hu.intake, hin.paramFault, hp, hin.isVital, hv]
      rfl
  refine ⟨t, ht, hans, ?_⟩
  rw [hch]
  exact Chan.afterReply_hostOnly _ _

theorem exec_portRestart (h : s.Accepts x 0x050A p) (hk : fieldAt p.params 0 1 < 2) :
    ∃ t, exec (.portRestart p) s = .next t ∧ s.Answered t x (p.replyOf x 0x050A 0 []) ∧
      ({ s.ch x with guard := (s.ch x).guard.restart (fieldAt p.params 0 1) } : Chan).HostOnly (t.ch x) := by
  have hin := (s.ch x).afterIntake_hostOnly 0x050A p
  obtain ⟨t, ht, hch, hans⟩ := hostRow_portRestart.answers_put h (st := 0) (bytes := [])
    (d := { (s.ch x).afterIntake 0x050A p with guard := ((s.ch x).afterIntake 0x050A p).guard.restart (fieldAt p.params 0 1) })
    fun u hu => by
      rw [if_neg (Nat.not_le.mpr hk), State.mod, hu.intake]
  refine ⟨t, ht, hans, ?_⟩
  rw [hch]
  generalize (s.ch x).afterIntake 0x050A p = d at hin
  rw [hin]
  rfl

theorem exec_badOpcode {op : Nat} (hop : isOpcode op = false) (hh : s.hears x p = true) (hc : crcFails op p x = false)
    (hd : discarded p x = false) (ha : (s.ch x).admission s.sealActed op p = none) (hv : p.version = 1)
    (hs : ∃ u, (s.ch x).boundSession p = some u ∧ u.Takes p) :
    ∃ t, exec (.badOpcode op p) s = .next t ∧ (s.ch x).HostOnly (t.ch x) ∧ s.Answered t x (p.replyOf x op 0x21 (detailed 0x21 0)) := by
  obtain ⟨u, hu, hch, hrep⟩ := s.packet_at op p (f := fun _ s => s) (fun y s => State.HostStep.refl s y) x
  have h : s.AtChannel u (s.packet op p (fun _ s => s)) x op p (fun s => s) := ⟨hu, hch, hrep⟩
  obtain ⟨w, hv', hw, hrx, hwr, halive⟩ := h.handled hh hc hd ha hv (.inr hs)
  refine ⟨_, congrArg Host.Outcome.next (if_neg (by simp [hop])), ?_⟩
  exact (h.denied (hv'.trans (if_pos (by simp [hop]))) hw hrx hwr halive).imp_right And.left

end

/-! ### Sessions that end by themselves, and the hub -/

/-- Settles O58: what a session command leaves is read off the host port's own operation, its reply apart. -/
theorem sessionsOpenAndClose : Obligations.SessionsOpenAndClose := by
  unfold Obligations.SessionsOpenAndClose
  refine ⟨?_, ?_, ?_, ?_, ?_⟩
  · intro p s x
    dsimp only
    refine ⟨fun h => ?_, fun h => ?_, fun h => ⟨fun n hn => exec_openSession_free h hn, fun hn => exec_openSession_full h hn⟩,
      exec_closeSession, fun h => hostRow_nop.answers_plain h fun u _ => rfl, exec_writeParam_plain,
      fun h => ⟨fun hk => exec_portRestart h hk, fun hk => ?_⟩, fun op h1 h2 h3 h4 h5 h6 h7 => exec_badOpcode h1 h2 h3 h4 h5 h6 h7⟩
    · exact hostRow_getStatus.answers_plain h fun u hu => by rw [hu.statusBytes]
    · exact hostRow_getIdentity.answers_plain h fun u hu => by rw [hu.identityBytes]
    · exact hostRow_portRestart.answers_plain h fun u hu => by rw [if_pos hk]; rfl
  · intro s ch n hl
    dsimp only
    refine ⟨fun u hu hp => ?_, fun u hu hp => ?_, fun hn => ⟨?_, ?_⟩, fun u k hu hk he => ?_, fun u k hu hk he => ?_, fun u hu hk => ?_⟩
    · show Host.Outcome.next _ = _
      rw [State.onLive_eq _ hl]
      rw [hu]
      exact congrArg (fun x => Host.Outcome.next (s.put ch x)) (if_pos hp)
    · refine congrArg Host.Outcome.next (State.onLive_same ?_)
      rw [hu]
      exact if_neg (by simp [hp])
    · refine congrArg Host.Outcome.next (State.onLive_same ?_)
      rw [hn]
    · refine congrArg Host.Outcome.next (State.onLive_same ?_)
      rw [hn]
      rfl
    · show Host.Outcome.next _ = _
      rw [State.onLive_eq _ hl]
      rw [hu, Option.bind_some, hk]
      exact congrArg (fun x => Host.Outcome.next (s.put ch x)) (if_pos (by simpa using he))
    · refine congrArg Host.Outcome.next (State.onLive_same ?_)
      rw [hu, Option.bind_some, hk]
      exact if_neg (by simpa using he)
    · refine congrArg Host.Outcome.next (State.onLive_same ?_)
      rw [hu, Option.bind_some, hk]
  · intro s ch n hl
    exact ⟨congrArg Host.Outcome.next (if_neg (by simp [hl])), congrArg Host.Outcome.next (if_neg (by simp [hl]))⟩
  · intro s target ip rest size now ha hip
    have harp : exec (.arp target) s =
        .next (if target.toNat == ip then { s with hub := { s.hub with arps := s.hub.arps + 1 } } else s) := by
      show execArp target s = _
      unfold execArp
      rw [ha, hip]
    have hecho : exec (.icmpEcho target size now) s =
        .next (if target.toNat == ip && decide (size ≤ 1472) && decide ((s.hub.echoesSince now).length < 10) then
          { s with hub := { s.hub with echoes := s.hub.echoes + 1, echoAt := now :: s.hub.echoesSince now } } else s) := by
      show execIcmpEcho target size now s = _
      unfold execIcmpEcho
      rw [ha, hip]
    refine ⟨fun ht => ?_, fun ht h1 h2 => ?_, fun h => ?_, fun ht => ?_⟩
    · rw [harp]
      exact congrArg Host.Outcome.next (if_pos (by simpa using ht))
    · rw [hecho]
      have h2' : (s.hub.echoesSince now).length < 10 := h2
      exact congrArg Host.Outcome.next (if_pos (by simp [ht, h1, h2']))
    · rw [hecho]
      refine congrArg Host.Outcome.next (if_neg ?_)
      rcases h with h | h | h
      · simp [h]
      · simp [Nat.not_le.mpr h]
      · have h' : ¬ (s.hub.echoesSince now).length < 10 := Nat.not_lt.mpr h
        simp [h']
    · rw [harp]
      exact congrArg Host.Outcome.next (if_neg (by simpa using ht))
  · intro s target size now h
    have harp : execArp target s = .next s ∧ execIcmpEcho target size now s = .next s := by
      unfold execArp execIcmpEcho
      rcases h with h | h <;> rw [h] <;> cases s.hub.alive <;> exact ⟨rfl, rfl⟩
    exact harp

end Sys2Proof.Machine

/-! PROOFS. Reads, loads, snapshots and identity (spec/14 R372, R373, spec/15 R395, spec/16 R411 to R420, spec/17 R429, R434). -/

namespace Sys2Proof.Machine

open Sys2Proof

/-! ### The channel that has taken a packet in -/

namespace Chan.HostOnly

variable {c d : Chan} (h : c.HostOnly d)

include h

theorem load : d.load = c.load := by rw [h]

theorem nv : d.nv = c.nv := by rw [h]

theorem boot : d.boot = c.boot := by rw [h]

theorem loadBarred (kind : Nat) : d.loadBarred kind = c.loadBarred kind := by rw [h]; rfl

theorem loadFault (me : Ch) (f : Factory) (k : Container) : d.loadFault me f k = c.loadFault me f k := by rw [h]; rfl

theorem keyEnrol : d.keyEnrol = c.keyEnrol := by rw [h]; rfl

end Chan.HostOnly

/-- The sessions with the packet accepted in its own. -/
theorem Chan.afterIntake_session (c : Chan) (op : Nat) (p : Pkt) (n : Nat) :
    ∃ g : Session → Session, (c.afterIntake op p).host.session n = (c.host.session n).map g ∧
      ∀ t, (g t).selectors = t.selectors ∧ (g t).snap = t.snap := by
  unfold Chan.afterIntake
  dsimp only
  split
  · exact ⟨id, by rw [Option.map_id]; rfl, fun _ => ⟨rfl, rfl⟩⟩
  · split
    · next t _ =>
      refine ⟨fun u => if u.id == t.id then u.accepted p.seq (packetCrc op p) c.clock else u, ?_, fun u => ?_⟩
      · exact find?_map_id (g := fun u => if u.id == t.id then u.accepted p.seq (packetCrc op p) c.clock else u)
          (fun u => by split <;> rfl) n
      · dsimp only
        split <;> exact ⟨rfl, rfl⟩
    · exact ⟨id, by rw [Option.map_id]; rfl, fun _ => ⟨rfl, rfl⟩⟩

theorem Chan.afterIntake_snapOf (c : Chan) (op : Nat) (p : Pkt) (n : Nat) : (c.afterIntake op p).snapOf n = c.snapOf n := by
  obtain ⟨g, hg, hk⟩ := c.afterIntake_session op p n
  unfold Chan.snapOf
  rw [hg]
  cases c.host.session n with
  | none => rfl
  | some t => exact (hk t).2

theorem Chan.afterIntake_selector (c : Chan) (op : Nat) (p : Pkt) (n k : Nat) :
    (c.afterIntake op p).host.selector n k = c.host.selector n k := by
  obtain ⟨g, hg, hk⟩ := c.afterIntake_session op p n
  unfold HostState.selector
  rw [hg]
  cases c.host.session n with
  | none => rfl
  | some t =>
    rw [Option.map_some, Option.bind_some, Option.bind_some, (hk t).1]

/-- The session of an accepted packet is open. -/
theorem State.Accepts.session_open {s : State} {x : Ch} {op : Nat} {p : Pkt} (h : s.Accepts x op p)
    (ho : op ≠ 1 ∧ op ≠ 2 ∧ op ≠ 3) : ∃ t, (s.ch x).host.session p.session = some t := by
  rcases h.session with h1 | h2 | h3 | ⟨t, ht, -⟩
  · exact absurd h1 ho.1
  · exact absurd h2 ho.2.1
  · exact absurd h3 ho.2.2
  · exact ⟨t, (Option.filter_eq_some_iff.mp ht).1⟩

/-! ### Handlers that read more than the channel -/

section

variable {s t u v : State} {x : Ch} {op : Nat} {p : Pkt} {st : Nat} {bytes : List Byte}

theorem State.Intake.answered (hu : s.Intake u x op p) (hch : t.ch x = (v.answer x op p st bytes).ch x)
    (hrep : t.repliesOf x = (v.answer x op p st bytes).repliesOf x) (hvr : v.repliesOf x = u.repliesOf x)
    (hva : v.hub.alive = u.hub.alive) :
    t.ch x = (v.ch x).afterReply (p.replyOf x op st bytes) ∧ s.Answered t x (p.replyOf x op st bytes) := by
  obtain ⟨hc, hans⟩ := v.answer_own x op p st bytes (hva.trans hu.alive)
  exact ⟨hch.trans hc, hans.of_replies (hvr.trans hu.replies) hrep⟩

end

/-! ### Parameters read (R429, R434) -/

theorem State.readOne_hub (s : State) (ch : Ch) (session n : Nat) : (s.readOne ch session n).2.hub = s.hub := by
  unfold State.readOne
  dsimp only
  split <;> rfl

theorem State.readMany_hub (ns : List Nat) (s : State) (ch : Ch) (session : Nat) : (s.readMany ch session ns).2.hub = s.hub := by
  induction ns generalizing s with
  | nil => rfl
  | cons n ns ih =>
    unfold State.readMany
    dsimp only
    rw [ih]
    split
    · exact s.readOne_hub ch session n
    · rfl

theorem State.readMany_length (ns : List Nat) (s : State) (ch : Ch) (session : Nat) :
    (s.readMany ch session ns).1.length = ns.length := by
  induction ns generalizing s with
  | nil => rfl
  | cons n ns ih =>
    unfold State.readMany
    dsimp only
    rw [List.length_cons, ih, List.length_cons]

/-- A number that no row names reads 0. -/
theorem State.readMany_unassigned (ns : List Nat) (s : State) (ch : Ch) (session : Nat) {k : Nat} (hk : k < ns.length)
    (h : (paramRow (ns.getD k 0)).isNone = true) : (s.readMany ch session ns).1.getD k 0 = 0 := by
  induction ns generalizing s k with
  | nil => exact absurd hk (Nat.not_lt_zero _)
  | cons n ns ih =>
    unfold State.readMany
    dsimp only
    cases k with
    | zero =>
      have hn : ¬ (paramRow n).isSome = true := by
        rw [List.getD_cons_zero] at h
        simpa using h
      rw [List.getD_cons_zero, if_neg hn]
    | succ k =>
      rw [List.getD_cons_succ] at h ⊢
      exact ih _ (Nat.lt_of_succ_lt_succ hk) h

theorem State.readMany_one {s : State} {ch : Ch} {session n : Nat} (h : (paramRow n).isSome = true) :
    (s.readMany ch session [n]).1 = [s.word ch ((s.ch ch).host.selector session (selectorOf (n / 256))) n] := by
  unfold State.readMany State.readMany
  rw [if_pos h]
  rfl

/-- Block BOOT lists five words. -/
theorem boot_paramRow : ∀ k < 256, (paramRow (0x1B00 + k)).isSome = true → k ≤ 4 := by decide +kernel

/-- What a word reads rests on the channel, the factory, the network and the Hedgehog; only 0x1B04 holds a free value. -/
theorem State.word_congr {a b : State} {x : Ch} {n : Nat} (sel : Nat) (hc : a.ch x = b.ch x) (hf : a.factory = b.factory)
    (hn : a.net = b.net) (hh : ∀ c, a.hedgehogWord c = b.hedgehogWord c) (hrow : (paramRow n).isSome = true)
    (h4 : n ≠ 0x1B04) : a.word x sel n = b.word x sel n := by
  have hboot (c : Chan) : n / 256 = 0x1B → c.wordBoot a.draws n = c.wordBoot b.draws n := by
    intro h
    have hk : n = 0x1B00 + (n - 0x1B00) := by omega
    have := boot_paramRow (n - 0x1B00) (by omega) (by rw [← hk]; exact hrow)
    have hcases : n = 0x1B00 ∨ n = 0x1B01 ∨ n = 0x1B02 ∨ n = 0x1B03 := by omega
    unfold Chan.wordBoot
    split
    · rfl
    · rfl
    · rfl
    · rfl
    · next h0 h1 h2 h3 => exact absurd hcases (by simp only [not_or]; exact ⟨h0, h1, h2, h3⟩)
  unfold State.word
  dsimp only
  rw [hc, hf, hn, hh]
  split
  all_goals first | rfl | exact hboot _ (by assumption)

section

variable {s : State} {x : Ch} {p : Pkt} {i : Pkt → Instr} {op : Nat} {f : Pkt → Ch → State → State}

/-- A list of numbers read: as many words as numbers, in the state in which the packet was taken in. -/
theorem HostRow.reads (hr : HostRow op i f) (h : s.Accepts x op p) {ns : List Nat}
    (hf : ∀ u, s.Intake u x op p → f p x u = u.replyWords x op p ns) :
    ∃ t u, exec (i p) s = .next t ∧ s.Intake u x op p ∧
      s.Answered t x (p.replyOf x op 0 (wordsBytes (u.readMany x p.session ns).1)) := by
  obtain ⟨t, u, ht, hu, hch, hrep⟩ := hr.accepted h
  have hhub := State.readMany_hub ns u x p.session
  rw [hf u hu] at hch hrep
  refine ⟨t, u, ht, hu, (hu.answered (v := (u.readMany x p.session ns).2) (t := t) hch hrep ?_ ?_).2⟩
  · rw [State.repliesOf, State.repliesOf, hhub]
  · rw [hhub]

/-- One word read is the word of the channel that has taken the packet in. -/
theorem State.Intake.word {u : State} (hu : s.Intake u x op p) {n : Nat} (hrow : (paramRow n).isSome = true) (h4 : n ≠ 0x1B04) :
    (u.readMany x p.session [n]).1 =
      [(s.put x ((s.ch x).afterIntake op p)).word x ((s.ch x).host.selector p.session (selectorOf (n / 256))) n] := by
  rw [State.readMany_one hrow, hu.intake, Chan.afterIntake_selector]
  have hput (c : Chan) : (s.put x ((s.ch x).afterIntake op p)).hedgehogWord c = s.hedgehogWord c := by
    have key (y : Ch) : ((s.put x ((s.ch x).afterIntake op p)).ch y).safe.alive = (s.ch y).safe.alive := by
      by_cases hy : y = x
      · subst hy
        rw [State.put_ch]
        exact congrArg (fun v => v.2.2.2.2) ((s.ch y).afterIntake_hostOnly op p).hubView
      · rw [State.put_ch_ne s _ hy]
    have ha : (s.put x ((s.ch x).afterIntake op p)).chans.a.safe.alive = s.chans.a.safe.alive := key .a
    have hb : (s.put x ((s.ch x).afterIntake op p)).chans.b.safe.alive = s.chans.b.safe.alive := key .b
    have hc : (s.put x ((s.ch x).afterIntake op p)).chans.c.safe.alive = s.chans.c.safe.alive := key .c
    have hh : (s.put x ((s.ch x).afterIntake op p)).hedgehog = s.hedgehog := rfl
    unfold State.hedgehogWord
    rw [ha, hb, hc, hh]
  refine congrArg (fun w => [w]) (State.word_congr _ ?_ hu.factory ?_ (fun c => (hu.hedgehogWord c).trans (hput c).symm) hrow h4)
  · rw [hu.intake, State.put_ch]
  · rw [hu.rest]
    rfl

theorem findIdx?_eq_none_of_forall {ns : List Nat} {q : Nat → Bool} (h : ∀ k ∈ ns, q k = false) : ns.findIdx? q = none :=
  List.findIdx?_eq_none_iff.mpr h

theorem exec_readParam (h : s.Accepts x 0x0100 p) (hn : 1 ≤ fieldAt p.params 0 2) (hle : fieldAt p.params 0 2 ≤ 128)
    (hrow : ∀ k ∈ (List.range (fieldAt p.params 0 2)).map (fun k => fieldAt p.params (2 + 2 * k) 2), (paramRow k).isSome = true) :
    ∃ t ws, exec (.readParam p) s = .next t ∧ ws.length = fieldAt p.params 0 2 ∧
      s.Answered t x (p.replyOf x 0x0100 0 (wordsBytes ws)) ∧
      (fieldAt p.params 0 2 = 1 → fieldAt p.params 2 2 ≠ 0x1B04 →
        ws = [(s.put x ((s.ch x).afterIntake 0x0100 p)).word x
          ((s.ch x).host.selector p.session (selectorOf (fieldAt p.params 2 2 / 256))) (fieldAt p.params 2 2)]) := by
  have hall : ((List.range (fieldAt p.params 0 2)).map (fun k => fieldAt p.params (2 + 2 * k) 2)).findIdx?
      (fun k => (paramRow k).isNone) = none :=
    findIdx?_eq_none_of_forall fun k hk => by rw [← Option.not_isSome, hrow k hk]; rfl
  have hne : ¬ (fieldAt p.params 0 2 == 0 || decide (128 < fieldAt p.params 0 2)) = true := by
    simp
    omega
  obtain ⟨t, u, ht, hu, hans⟩ := hostRow_readParam.reads h
    (ns := (List.range (fieldAt p.params 0 2)).map (fun k => fieldAt p.params (2 + 2 * k) 2)) fun u _ => by
      unfold State.readParam
      dsimp only
      rw [if_neg hne, hall]
  refine ⟨t, _, ht, ?_, hans, fun h1 h4 => ?_⟩
  · rw [State.readMany_length, List.length_map, List.length_range]
  · have hone : (List.range (fieldAt p.params 0 2)).map (fun k => fieldAt p.params (2 + 2 * k) 2) = [fieldAt p.params 2 2] := by
      rw [h1]
      rfl
    rw [hone] at hrow ⊢
    exact hu.word (hrow _ (List.mem_singleton.mpr rfl)) h4

theorem exec_readBlock (h : s.Accepts x 0x0101 p) (hn : 1 ≤ fieldAt p.params 2 2)
    (hle : fieldAt p.params 0 2 % 256 + fieldAt p.params 2 2 ≤ 256) :
    ∃ t ws, exec (.readBlock p) s = .next t ∧ ws.length = fieldAt p.params 2 2 ∧
      s.Answered t x (p.replyOf x 0x0101 0 (wordsBytes ws)) ∧
      (∀ k, k < fieldAt p.params 2 2 → (paramRow (fieldAt p.params 0 2 + k)).isNone = true → ws.getD k 0 = 0) := by
  have hne : ¬ (fieldAt p.params 2 2 == 0 || decide (256 < fieldAt p.params 0 2 % 256 + fieldAt p.params 2 2)) = true := by
    simp
    omega
  obtain ⟨t, u, ht, hu, hans⟩ := hostRow_readBlock.reads h
    (ns := (List.range (fieldAt p.params 2 2)).map (fieldAt p.params 0 2 + ·)) fun u _ => if_neg hne
  refine ⟨t, _, ht, ?_, hans, fun k hk hrow => ?_⟩
  · rw [State.readMany_length, List.length_map, List.length_range]
  · refine State.readMany_unassigned _ u x p.session (by simpa using hk) ?_
    rw [List.getD_eq_getElem?_getD, List.getElem?_map, List.getElem?_range hk]
    exact hrow

theorem exec_calRead (h : s.Accepts x 0x0700 p) (hn : 1 ≤ fieldAt p.params 2 2) (hle : fieldAt p.params 2 2 ≤ 128)
    (hrow : ∀ k, k < fieldAt p.params 2 2 →
      (fieldAt p.params 0 2 + k) / 256 = 0x1C ∧ (paramRow (fieldAt p.params 0 2 + k)).isSome = true) :
    ∃ t ws, exec (.calRead p) s = .next t ∧ ws.length = fieldAt p.params 2 2 ∧
      s.Answered t x (p.replyOf x 0x0700 0 (wordsBytes ws)) := by
  have hne : ¬ (fieldAt p.params 2 2 == 0 || decide (128 < fieldAt p.params 2 2)) = true := by
    simp
    omega
  have hall : ((List.range (fieldAt p.params 2 2)).map (fieldAt p.params 0 2 + ·)).findIdx?
      (fun k => k / 256 != 0x1C || (paramRow k).isNone) = none :=
    findIdx?_eq_none_of_forall fun k hk => by
      obtain ⟨j, hj, rfl⟩ := List.mem_map.mp hk
      obtain ⟨h1, h2⟩ := hrow j (List.mem_range.mp hj)
      rw [h1, ← Option.not_isSome, h2]
      rfl
  obtain ⟨t, u, ht, hu, hans⟩ := hostRow_calRead.reads h
    (ns := (List.range (fieldAt p.params 2 2)).map (fieldAt p.params 0 2 + ·)) fun u _ => by
      unfold State.calRead
      dsimp only
      rw [if_neg hne, hall]
  refine ⟨t, _, ht, ?_, hans⟩
  rw [State.readMany_length, List.length_map, List.length_range]

end

end Sys2Proof.Machine

/-! PROOFS. Loads, snapshots, results and identity (spec/14 R372, R373, spec/15 R395, spec/16 R411 to R419). -/

namespace Sys2Proof.Machine

open Sys2Proof

section

variable {s : State} {x : Ch} {p : Pkt}

/-! ### Loads (R411 to R415) -/

theorem exec_loadBegin (h : s.Accepts x 0x0300 p) (hk : fieldAt p.params 0 1 = 1 ∨ fieldAt p.params 0 1 = 2)
    (hz : fieldAt p.params 1 1 = 0) (hw : (s.ch x).load.writing = false)
    (hb : (s.ch x).load.busy = false ∨ (s.ch x).load.session = p.session) :
    ((s.ch x).loadBarred (fieldAt p.params 0 1) = true →
      ∃ t, exec (.loadBegin p) s = .next t ∧ (s.ch x).HostOnly (t.ch x) ∧
        s.Answered t x (p.replyOf x 0x0300 0x70 (detailed 0x70 0x0803))) ∧
    ((s.ch x).loadBarred (fieldAt p.params 0 1) = false → largestLoad (fieldAt p.params 0 1) < fieldAt p.params 2 4 →
      ∃ t, exec (.loadBegin p) s = .next t ∧ (s.ch x).HostOnly (t.ch x) ∧
        s.Answered t x (p.replyOf x 0x0300 0x70 (detailed 0x70 0x0802))) ∧
    ((s.ch x).loadBarred (fieldAt p.params 0 1) = false → fieldAt p.params 2 4 ≤ largestLoad (fieldAt p.params 0 1) →
      ∃ t, exec (.loadBegin p) s = .next t ∧ s.Answered t x (p.replyOf x 0x0300 0 []) ∧ (t.ch x).load.busy = true ∧
        (t.ch x).load.kind = fieldAt p.params 0 1 ∧ (t.ch x).load.size = fieldAt p.params 2 4 ∧
        (t.ch x).load.session = p.session ∧ (t.ch x).load.bytes = []) := by
  have hin := (s.ch x).afterIntake_hostOnly 0x0300 p
  have hkind : ¬ (!(fieldAt p.params 0 1 == 1 || fieldAt p.params 0 1 == 2) || fieldAt p.params 1 1 != 0) = true := by
    rcases hk with hk | hk <;> simp [hk, hz]
  have hfree : ¬ ((s.ch x).load.writing || ((s.ch x).load.busy && (s.ch x).load.session != p.session)) = true := by
    rcases hb with hb | hb <;> simp [hw, hb]
  have way (u : State) (hu : s.Intake u x 0x0300 p) : u.loadBegin x p =
      if (s.ch x).loadBarred (fieldAt p.params 0 1) then u.imageError x 0x0300 p 0x0803
      else if largestLoad (fieldAt p.params 0 1) < fieldAt p.params 2 4 then u.imageError x 0x0300 p 0x0802
      else (u.mod x (fun c => { c with load := { (default : Load) with
        busy := true, kind := fieldAt p.params 0 1, size := fieldAt p.params 2 4, session := p.session } })).answer x 0x0300 p 0 [] := by
    unfold State.loadBegin
    dsimp only
    rw [hu.intake, hin.load, hin.loadBarred, if_neg hkind, if_neg hfree]
  refine ⟨fun hbar => ?_, fun hbar hlt => ?_, fun hbar hle => ?_⟩
  · exact hostRow_loadBegin.answers_plain h fun u hu => by rw [way u hu, if_pos hbar]; rfl
  · exact hostRow_loadBegin.answers_plain h fun u hu => by rw [way u hu, if_neg (by simp [hbar]), if_pos hlt]; rfl
  · obtain ⟨t, ht, hch, hans⟩ := hostRow_loadBegin.answers_put h (st := 0) (bytes := [])
      (d := { (s.ch x).afterIntake 0x0300 p with load := { (default : Load) with
        busy := true, kind := fieldAt p.params 0 1, size := fieldAt p.params 2 4, session := p.session } }) fun u hu => by
        rw [way u hu, if_neg (by simp [hbar]), if_neg (Nat.not_lt.mpr hle), State.mod, hu.intake]
    refine ⟨t, ht, hans, ?_⟩
    rw [hch]
    exact ⟨rfl, rfl, rfl, rfl, rfl⟩

theorem exec_loadData (h : s.Accepts x 0x0301 p) (ho : (s.ch x).load.ownedBy p.session = true)
    (hle : fieldAt p.params 0 4 + (p.params.drop 6).length ≤ (s.ch x).load.size) :
    ∃ t, exec (.loadData p) s = .next t ∧ s.Answered t x (p.replyOf x 0x0301 0 []) ∧
      (t.ch x).load = (s.ch x).load.write (fieldAt p.params 0 4) (p.params.drop 6) := by
  have hin := (s.ch x).afterIntake_hostOnly 0x0301 p
  obtain ⟨t, ht, hch, hans⟩ := hostRow_loadData.answers_put h (st := 0) (bytes := [])
    (d := { (s.ch x).afterIntake 0x0301 p with
      load := ((s.ch x).afterIntake 0x0301 p).load.write (fieldAt p.params 0 4) (p.params.drop 6) }) fun u hu => by
      unfold State.loadData
      dsimp only
      rw [hu.intake, hin.load, if_neg (by simp [ho]), if_neg (Nat.not_lt.mpr hle), State.mod, hu.intake, hin.load]
  refine ⟨t, ht, hans, ?_⟩
  rw [hch]
  show ((s.ch x).afterIntake 0x0301 p).load.write _ _ = _
  rw [hin.load]

theorem exec_loadEnd (h : s.Accepts x 0x0302 p) (ho : (s.ch x).load.ownedBy p.session = true) :
    ((s.ch x).load.missing ≠ none → ∃ t, exec (.loadEnd p) s = .next t ∧ (s.ch x).HostOnly (t.ch x) ∧
      s.Answered t x (p.replyOf x 0x0302 0x70 (detailed 0x70 0x0801))) ∧
    ∀ k, k = readContainer (s.ch x).load.image (s.ch x).load.size (s.ch x).load.kind x → (s.ch x).load.missing = none →
      ((s.ch x).loadFault x s.factory k ≠ 0 → ∃ t, exec (.loadEnd p) s = .next t ∧ (s.ch x).HostOnly (t.ch x) ∧
        s.Answered t x (p.replyOf x 0x0302 0x70 (detailed 0x70 ((s.ch x).loadFault x s.factory k)))) ∧
      ((s.ch x).loadFault x s.factory k = 0 →
        ∃ t, exec (.loadEnd p) s = .next t ∧ s.Answered t x (p.replyOf x 0x0302 0 []) ∧ (t.ch x).load.writing = true ∧
          (t.ch x).load.busy = false ∧ (t.ch x).load.cont = some k) := by
  have hin := (s.ch x).afterIntake_hostOnly 0x0302 p
  constructor
  · intro hm
    exact hostRow_loadEnd.answers_plain h fun u hu => by
      unfold State.loadEnd
      dsimp only
      rw [hu.intake, hin.load, if_neg (by simp [ho]), if_pos (Option.isSome_iff_ne_none.mpr hm)]
      rfl
  · intro k hk hm
    have way (u : State) (hu : s.Intake u x 0x0302 p) :
        ((s.ch x).loadFault x s.factory k ≠ 0 →
          u.loadEnd x p = u.imageError x 0x0302 p ((s.ch x).loadFault x s.factory k)) ∧
        ((s.ch x).loadFault x s.factory k = 0 →
          u.loadEnd x p = (u.put x (((s.ch x).afterIntake 0x0302 p).beginWrite k)).answer x 0x0302 p 0 []) := by
      unfold State.loadEnd
      dsimp only
      rw [hu.intake, hu.factory, hin.load, ← hk, hin.loadFault, if_neg (by simp [ho]), if_neg (by simp [hm])]
      constructor
      · intro hf
        split
        · next h0 => exact absurd h0 hf
        · rfl
      · intro hf
        simp only [hf]
    constructor
    · exact fun hf => hostRow_loadEnd.answers_plain h fun u hu => (way u hu).1 hf
    · intro hf
      obtain ⟨t, ht, hch, hans⟩ := hostRow_loadEnd.answers_put h (st := 0) (bytes := [])
        (d := ((s.ch x).afterIntake 0x0302 p).beginWrite k) fun u hu => (way u hu).2 hf
      refine ⟨t, ht, hans, ?_⟩
      rw [hch]
      exact ⟨rfl, rfl, rfl⟩

/-! ### Snapshots (R372, R373) -/

theorem HostState.setSnap_session (h : HostState) (n : Nat) (k : Option Snap) :
    (h.setSnap n k).session n = (h.session n).map (fun t => { t with snap := k }) := by
  have := find?_map_id (l := h.sessions) (g := fun t => if t.id == n then { t with snap := k } else t)
    (fun t => by split <;> rfl) n
  refine this.trans ?_
  show (h.session n).map _ = _
  cases hs : h.session n with
  | none => rfl
  | some t =>
    have hid : (t.id == n) = true := List.find?_some (p := fun t : Session => t.id == n) hs
    simp only [Option.map_some, if_pos hid]

theorem Session.answered_snap (t : Session) (r : Reply) : (t.answered r).snap = t.snap := by
  unfold Session.answered
  split <;> rfl

/-- A reply leaves the snapshots as they are. -/
theorem Chan.afterReply_snapOf (c : Chan) (r : Reply) (n : Nat) : (c.afterReply r).snapOf n = c.snapOf n := by
  unfold Chan.snapOf
  rw [Chan.afterReply_session]
  cases c.host.session n with
  | none => rfl
  | some t =>
    show (if t.id == r.session then t.answered r else t).snap = t.snap
    split
    · exact t.answered_snap r
    · rfl

/-- A snapshot replaced in an open session. -/
theorem Chan.setSnap_snapOf {c : Chan} {n : Nat} (h : ∃ t, c.host.session n = some t) (k : Option Snap) :
    ((c.host.setSnap n k).session n).bind (fun t => t.snap) = k := by
  obtain ⟨t, ht⟩ := h
  rw [HostState.setSnap_session, ht]
  rfl

theorem Chan.afterIntake_open {c : Chan} (op : Nat) (p : Pkt) {n : Nat} (h : ∃ t, c.host.session n = some t) :
    ∃ t, (c.afterIntake op p).host.session n = some t := by
  obtain ⟨g, hg, -⟩ := c.afterIntake_session op p n
  obtain ⟨t, ht⟩ := h
  exact ⟨g t, by rw [hg, ht]; rfl⟩

theorem exec_snapOpen (h : s.Accepts x 0x0400 p) :
    ∃ t, exec (.snapOpen p) s = .next t ∧ (s.ch x).HostOnly (t.ch x) ∧ (t.ch x).snapOf p.session = some (s.ch x).nv.openSnap ∧
      s.Answered t x (p.replyOf x 0x0400 0 (bytesOfNat 8 (s.ch x).nv.openSnap.high ++ bytesOfNat 8 (s.ch x).nv.openSnap.low ++
        bytesOfNat 8 (s.ch x).nv.openSnap.permBase)) := by
  have hin := (s.ch x).afterIntake_hostOnly 0x0400 p
  obtain ⟨t, ht, hch, hans⟩ := hostRow_snapOpen.answers_put h (st := 0)
    (bytes := bytesOfNat 8 (s.ch x).nv.openSnap.high ++ bytesOfNat 8 (s.ch x).nv.openSnap.low ++
      bytesOfNat 8 (s.ch x).nv.openSnap.permBase)
    (d := { (s.ch x).afterIntake 0x0400 p with
      host := ((s.ch x).afterIntake 0x0400 p).host.setSnap p.session (some ((s.ch x).afterIntake 0x0400 p).nv.openSnap) })
    fun u hu => by
      rw [State.mod, hu.intake, ← hin.nv]
  refine ⟨t, ht, ?_, ?_, hans⟩
  · rw [hch]
    generalize (s.ch x).afterIntake 0x0400 p = d at hin
    exact hin.trans rfl
  · rw [hch, Chan.afterReply_snapOf, ← hin.nv]
    exact Chan.setSnap_snapOf (Chan.afterIntake_open _ p (h.session_open (by decide))) _

theorem exec_snapRead (h : s.Accepts x 0x0401 p) :
    ((s.ch x).snapOf p.session = none → ∃ t, exec (.snapRead p) s = .next t ∧ (s.ch x).HostOnly (t.ch x) ∧
      s.Answered t x (p.replyOf x 0x0401 refusedCode (detailed refusedCode 0))) ∧
    (∀ k, (s.ch x).snapOf p.session = some k →
      ∃ t, exec (.snapRead p) s = .next t ∧
        s.Answered t x (p.replyOf x 0x0401 0 (bytesOfNat 1 (k.take 64 k.cursor).length ++ [0, 0, 0])) ∧
        (∃ v, (t.ch x).snapOf p.session = some v ∧ v.window = (k.take 64 k.cursor).map (s.ch x).nv.entryOf ∧
          v.high = k.high)) := by
  have hin := (s.ch x).afterIntake_hostOnly 0x0401 p
  have hsnap := (s.ch x).afterIntake_snapOf 0x0401 p p.session
  constructor
  · intro hn
    exact hostRow_snapRead.answers_plain h fun u hu => by
      rw [hu.intake, hsnap, hn]
      rfl
  · intro k hk
    have hlen : (((s.ch x).afterIntake 0x0401 p).fillWindow p.session k).2 = (k.take 64 k.cursor).length := by
      simp [Chan.fillWindow]
    obtain ⟨t, ht, hch, hans⟩ := hostRow_snapRead.answers_put h (st := 0)
      (bytes := bytesOfNat 1 (k.take 64 k.cursor).length ++ [0, 0, 0])
      (d := (((s.ch x).afterIntake 0x0401 p).fillWindow p.session k).1) fun u hu => by
        rw [hu.intake, hsnap, hk, ← hlen]
    refine ⟨t, ht, hans, ?_⟩
    rw [hch, Chan.afterReply_snapOf]
    refine ⟨_, Chan.setSnap_snapOf (Chan.afterIntake_open _ p (h.session_open (by decide))) _, ?_, rfl⟩
    rw [hin.nv]

theorem exec_windowGet (h : s.Accepts x 0x0402 p) {k : Snap} (hk : (s.ch x).snapOf p.session = some k)
    (h1 : 1 ≤ fieldAt p.params 1 1) (h16 : fieldAt p.params 1 1 ≤ 16) (h64 : fieldAt p.params 0 1 + fieldAt p.params 1 1 ≤ 64) :
    ∃ t draw, exec (.windowGet p) s = .next t ∧ (s.ch x).HostOnly (t.ch x) ∧
      s.Answered t x (p.replyOf x 0x0402 0
        (wordsBytes ((List.range (fieldAt p.params 1 1)).flatMap (fun i => k.entry draw (fieldAt p.params 0 1 + i))))) := by
  obtain ⟨t, u, ht, hu, hch, hrep⟩ := hostRow_windowGet.accepted h
  have hne : ¬ (fieldAt p.params 1 1 == 0 || decide (16 < fieldAt p.params 1 1) ||
      decide (64 < fieldAt p.params 0 1 + fieldAt p.params 1 1)) = true := by
    simp
    omega
  rw [if_neg hne, hu.intake, (s.ch x).afterIntake_snapOf 0x0402 p p.session, hk] at hch hrep
  obtain ⟨hc, hans⟩ := hu.answered (v := u.drawn) hch hrep rfl rfl
  refine ⟨t, u.draws, ht, ?_, hans⟩
  rw [hc, State.drawn_ch, hu.intake]
  exact ((s.ch x).afterIntake_hostOnly 0x0402 p).trans (Chan.afterReply_hostOnly _ _)

theorem exec_snapClose (h : s.Accepts x 0x0403 p) :
    ∃ t, exec (.snapClose p) s = .next t ∧ (s.ch x).HostOnly (t.ch x) ∧ (t.ch x).snapOf p.session = none ∧
      s.Answered t x (p.replyOf x 0x0403 0 []) := by
  have hin := (s.ch x).afterIntake_hostOnly 0x0403 p
  obtain ⟨t, ht, hch, hans⟩ := hostRow_snapClose.answers_put h (st := 0) (bytes := [])
    (d := { (s.ch x).afterIntake 0x0403 p with host := ((s.ch x).afterIntake 0x0403 p).host.setSnap p.session none })
    fun u hu => by
      rw [State.mod, hu.intake]
  refine ⟨t, ht, ?_, ?_, hans⟩
  · rw [hch]
    generalize (s.ch x).afterIntake 0x0403 p = d at hin
    exact hin.trans rfl
  · rw [hch, Chan.afterReply_snapOf]
    exact Chan.setSnap_snapOf (Chan.afterIntake_open _ p (h.session_open (by decide))) _

/-! ### Results, identity and keys (R395, R417 to R419) -/

theorem Chan.afterIntake_results (c : Chan) (op : Nat) (p : Pkt) : (c.afterIntake op p).host.results = c.host.results := by
  unfold Chan.afterIntake
  dsimp only
  split
  · rfl
  · split <;> rfl

theorem exec_quote (h : s.Accepts x 0x0600 p) (h7 : (s.ch x).boot.phase = 7) :
    ∃ t draw, exec (.quote p) s = .next t ∧ (s.ch x).HostOnly (t.ch x) ∧
      s.Answered t x (p.replyOf x 0x0600 0
        (s.quoteBody x (p.params.take 32) ++ Config.identitySign x (s.quoteBody x (p.params.take 32)) draw)) := by
  have hin := (s.ch x).afterIntake_hostOnly 0x0600 p
  obtain ⟨t, u, ht, hu, hch, hrep⟩ := hostRow_quote.accepted h
  have hbody : u.quoteBody x (p.params.take 32) = s.quoteBody x (p.params.take 32) := by
    unfold State.quoteBody
    dsimp only
    rw [hu.intake, hu.factory, hin]
  rw [if_neg (by rw [hu.intake, hin.boot, h7]; decide), hbody] at hch hrep
  obtain ⟨hc, hans⟩ := hu.answered (v := u.drawn) hch hrep rfl rfl
  refine ⟨t, u.draws, ht, ?_, hans⟩
  rw [hc, State.drawn_ch, hu.intake]
  exact hin.trans (Chan.afterReply_hostOnly _ _)

theorem exec_keyEnrol (h : s.Accepts x 0x0602 p) :
    ((s.ch x).keyEnrol = false → ∃ t, exec (.keyEnrol p) s = .next t ∧ (s.ch x).HostOnly (t.ch x) ∧
      s.Answered t x (p.replyOf x 0x0602 refusedCode (detailed refusedCode 0))) ∧
    ∀ k, k = enrolledKey p.params (s.ch x).nv.start → (s.ch x).keyEnrol = true →
      ((s.ch x).nv.enrolOk p.params k = false → ∃ t, exec (.keyEnrol p) s = .next t ∧ (s.ch x).HostOnly (t.ch x) ∧
        s.Answered t x (p.replyOf x 0x0602 badParam (detailed badParam 0))) ∧
      ((s.ch x).nv.enrolOk p.params k = true →
        ∃ t, exec (.keyEnrol p) s = .next t ∧ (t.ch x).nv = (s.ch x).nv.writeKey p.params k ∧
          s.Answered t x (p.replyOf x 0x0602 0 [])) := by
  have hin := (s.ch x).afterIntake_hostOnly 0x0602 p
  refine ⟨fun hk => ?_, fun k hk henr => ⟨fun hok => ?_, fun hok => ?_⟩⟩
  · exact hostRow_keyEnrol.answers_plain h fun u hu => by
      rw [hu.intake, hin.keyEnrol, if_pos (by simp [hk])]
      rfl
  · exact hostRow_keyEnrol.answers_plain h fun u hu => by
      rw [hu.intake, hin.keyEnrol, hin.nv, ← hk, if_neg (by simp [henr]), if_pos (by simp [hok])]
      rfl
  · obtain ⟨t, ht, hch, hans⟩ := hostRow_keyEnrol.answers_put h (st := 0) (bytes := [])
      (d := ((s.ch x).afterIntake 0x0602 p).enrol p.params) fun u hu => by
        rw [hu.intake, hin.keyEnrol, hin.nv, ← hk, if_neg (by simp [henr]), if_neg (by simp [hok])]
    refine ⟨t, ht, ?_, hans⟩
    rw [hch]
    show (((s.ch x).afterIntake 0x0602 p).enrol p.params).nv = _
    rw [Chan.enrol, Chan.emit_nv]
    show ((s.ch x).afterIntake 0x0602 p).nv.writeKey p.params (enrolledKey p.params ((s.ch x).afterIntake 0x0602 p).nv.start) = _
    rw [hin.nv, hk]

end

/-- Settles O59: what a read answers is read off the channel that has taken the packet in, which only its host port tells from
before. -/
theorem hostReadsAndLoads : Obligations.HostReadsAndLoads := by
  unfold Obligations.HostReadsAndLoads
  intro p s x
  dsimp only
  refine ⟨fun h => ⟨exec_readParam h, fun hn => ?_⟩, exec_readBlock, exec_calRead, exec_loadBegin, exec_loadData, fun h ho => ?_,
    exec_snapOpen, exec_snapRead, fun h k hk h1 h2 h3 => ?_, exec_snapClose, fun h => ⟨fun r hr => ?_, fun hr => ?_⟩,
    fun h => ⟨exec_quote h, fun h7 => ?_⟩, fun h => ⟨fun hk => ?_, fun hk => ?_⟩, fun h => ?_, fun h => ⟨fun k hk => ?_, fun hk => ?_⟩⟩
  · refine hostRow_readParam.answers_plain h fun u _ => ?_
    unfold State.readParam
    dsimp only
    rw [if_pos (by simpa using hn)]
    rfl
  · obtain ⟨hmiss, hrest⟩ := exec_loadEnd h ho
    exact ⟨hmiss, fun hm => (hrest _ rfl hm).1, fun hm => (hrest _ rfl hm).2⟩
  · exact exec_windowGet h hk h1 h2 h3
  · refine hostRow_requestResult.answers_plain h fun u hu => ?_
    rw [hu.intake, Chan.afterIntake_results, hr]
  · refine hostRow_requestResult.answers_plain h fun u hu => ?_
    rw [hu.intake, Chan.afterIntake_results, hr]
    rfl
  · refine hostRow_quote.answers_plain h fun u hu => ?_
    rw [hu.intake, ((s.ch x).afterIntake_hostOnly 0x0600 p).boot, if_pos (by simpa using h7)]
    rfl
  · exact hostRow_getCert.answers_plain h fun u _ => if_neg (Nat.not_le.mpr hk)
  · exact hostRow_getCert.answers_plain h fun u _ => if_pos hk
  · obtain ⟨hoff, hrest⟩ := exec_keyEnrol h
    exact ⟨hoff, fun he => (hrest _ rfl he).1, fun he => (hrest _ rfl he).2⟩
  · refine hostRow_keyRead.answers_plain h fun u hu => ?_
    rw [hu.intake, ((s.ch x).afterIntake_hostOnly 0x0603 p).nv, hk]
  · refine hostRow_keyRead.answers_plain h fun u hu => ?_
    rw [hu.intake, ((s.ch x).afterIntake_hostOnly 0x0603 p).nv, hk]
    rfl

end Sys2Proof.Machine

/-! PROOFS. Accesses that cannot be carried out (spec/12 R319, R320, R324, R325, R327, R328): what their reader takes, and what is
logged beside it. -/

namespace Sys2Proof.Machine

open Sys2Proof

/-! ### What a reader takes -/

/-- The engines of a memory, and the abort of its core. -/
def Mem.readers (m : Mem) : List Dma × Bool := (m.dma, m.coreAbort)

theorem Mem.countUe_readers (m : Mem) (a : Nat) : (m.countUe a).readers = m.readers := by
  unfold Mem.countUe
  split <;> rfl

theorem Mem.noteHard_readers (m : Mem) (v : Variant) (was : LaneKind) (a : Nat) : (m.noteHard v was a).readers = m.readers := by
  unfold Mem.noteHard
  split
  · rfl
  · split
    · rfl
    · split <;> rfl

theorem Chan.seeUe_readers (c : Chan) (v : Variant) (a : Nat) : (c.seeUe v a).mem.readers = c.mem.readers := by
  unfold Chan.seeUe
  split <;> rfl

theorem Chan.lostLane_readers (c : Chan) (me : Ch) (v : Variant) (r : Reader) (a : Nat) :
    (c.lostLane me v r a).mem.readers = c.mem.readers :=
  (Chan.seeUe_readers _ v a).trans (c.mem.countUe_readers a)

theorem Chan.engine_of_readers {c d : Chan} (h : d.mem.readers = c.mem.readers) (e : Nat) : d.engine e = c.engine e := by
  rw [Chan.engine, Chan.engine, show d.mem.dma = c.mem.dma from congrArg Prod.fst h]

theorem Chan.coreAbort_of_readers {c d : Chan} (h : d.mem.readers = c.mem.readers) : d.mem.coreAbort = c.mem.coreAbort :=
  congrArg Prod.snd h

theorem Chan.seeUe_besideMem (c : Chan) (v : Variant) (a : Nat) : (c.seeUe v a).besideMem = c.besideMem := by
  unfold Chan.seeUe
  split <;> rfl

theorem Chan.lostLane_besideMem (c : Chan) (me : Ch) (v : Variant) (r : Reader) (a : Nat) :
    (c.lostLane me v r a).besideMem = c.besideMem := Chan.seeUe_besideMem _ v a

theorem Chan.abortReader_besideMem (c : Chan) (r : Reader) (cause : Nat) : (c.abortReader r cause).besideMem = c.besideMem := by
  cases r <;> rfl

theorem Chan.running_of_besideMem {c d : Chan} (h : d.besideMem = c.besideMem) : d.running = c.running :=
  (congrArg (fun (x : Chan) => x.running) h :)

theorem Chan.votes_of_besideMem {c d : Chan} (h : d.besideMem = c.besideMem) (me : Ch) : d.votes me = c.votes me :=
  (congrArg (fun (x : Chan) => x.votes me) h :)

theorem Chan.stopDma_engine (c : Chan) {e : Nat} (cause offset : Nat) (he : e < c.mem.dma.length) :
    (c.stopDma e cause offset).engine e =
      { c.engine e with busy := true, stopped := true, cause := cause, offset := offset } :=
  modAt_getD_self _ _ he

/-! ### What a stopped access leaves -/

/-- The lane that delivered no data, logged. -/
def State.laneLogged (s : State) (ch : Ch) (r : Reader) (h : Halt) : State :=
  match h.lane with
  | some a => s.mod ch (fun c => c.lostLane ch s.factory.variant r a)
  | none => s

theorem State.halted_eq (s : State) (ch : Ch) (r : Reader) (h : Halt) :
    s.halted ch r h =
      if h.cause == 2 then (s.laneLogged ch r h).trapped ch h.addr
      else if h.poisoned then (s.laneLogged ch r h).withdraw ch
      else s.laneLogged ch r h := rfl

section

variable (s : State) (ch : Ch) (r : Reader) (h : Halt)

theorem State.laneLogged_onlyAt : s.OnlyAt (s.laneLogged ch r h) ch := by
  unfold State.laneLogged
  split
  · exact .mod _ _ _
  · exact .refl _ _

theorem State.laneLogged_readers : ((s.laneLogged ch r h).ch ch).mem.readers = (s.ch ch).mem.readers := by
  unfold State.laneLogged
  split
  · rw [State.mod_ch, Chan.lostLane_readers]
  · rfl

theorem State.laneLogged_besideMem : ((s.laneLogged ch r h).ch ch).besideMem = (s.ch ch).besideMem := by
  unfold State.laneLogged
  split
  · rw [State.mod_ch, Chan.lostLane_besideMem]
  · rfl

end

section

variable {s : State} {ch : Ch} {r : Reader} {h : Halt}

/-- Without a trap and a poisoned table entry, an access that stops is kept at its channel. -/
theorem State.halted_kept (hc : h.cause ≠ 2) (hp : h.poisoned = false) :
    s.OnlyAt (s.halted ch r h) ch ∧ ((s.halted ch r h).ch ch).mem.readers = (s.ch ch).mem.readers := by
  rw [State.halted_eq, if_neg (by simp [hc]), if_neg (by simp [hp])]
  exact ⟨s.laneLogged_onlyAt ch r h, s.laneLogged_readers ch r h⟩

/-- Over a poisoned table entry a running channel withdraws. -/
theorem State.halted_withdraws (hc : h.cause ≠ 2) (hp : h.poisoned = true) (hrun : (s.ch ch).running = true)
    (hvote : (s.ch ch).votes ch = true) :
    ((s.halted ch r h).ch ch).votes ch = false ∧ ((s.halted ch r h).ch ch).dout.high = 0 := by
  have hb := s.laneLogged_besideMem ch r h
  rw [State.halted_eq, if_neg (by simp [hc]), if_pos hp]
  obtain ⟨hg, -⟩ := State.withdraw_gone ((Chan.running_of_besideMem hb).trans hrun) ((Chan.votes_of_besideMem hb ch).trans hvote)
  exact ⟨hg.out, hg.high⟩

end

/-! ### Translation -/

section

variable {s : State} {ch : Ch} (hl : (s.ch ch).live = true)

theorem execTranslationFault_skips {r : Reader} {space : Nat} (va : Nat) (acc : Access)
    (h : (s.ch ch).translates = false ∨ 8 < space ∨ readsTranslated r = false) :
    exec (.translationFault ch r space va acc) s = .next s := by
  refine if_neg ?_
  rcases h with h | h | h
  · simp [h]
  · simp [Nat.not_le.mpr h]
  · simp [h]

theorem execTranslationFault_passes {r : Reader} {space va a : Nat} {acc : Access}
    (h : (s.ch ch).walk ch s.factory.variant space va (isEngine r) acc = .ok a) :
    exec (.translationFault ch r space va acc) s = .next s := by
  show execTranslationFault ch r space va acc s = _
  unfold execTranslationFault
  dsimp only
  rw [h]
  split <;> rfl

include hl

theorem execTranslationFault_stops {r : Reader} {space va : Nat} {acc : Access} {h : Halt}
    (ht : (s.ch ch).translates = true) (hs : space ≤ 8) (hr : readsTranslated r = true)
    (hw : (s.ch ch).walk ch s.factory.variant space va (isEngine r) acc = .error h) :
    exec (.translationFault ch r space va acc) s =
      .next ((s.put ch ((s.ch ch).abortReader r h.cause)).halted ch r h) := by
  show execTranslationFault ch r space va acc s = _
  unfold execTranslationFault
  dsimp only
  rw [hw, if_pos (by simp [hl, ht, hs, hr])]
  rfl

theorem translationFault_core {space va : Nat} {acc : Access} {h : Halt}
    (ht : (s.ch ch).translates = true) (hs : space ≤ 8)
    (hw : (s.ch ch).walk ch s.factory.variant space va false acc = .error h) (hc : h.cause ≠ 2) (hp : h.poisoned = false) :
    ∃ t, exec (.translationFault ch .core space va acc) s = .next t ∧ s.OnlyAt t ch ∧ (t.ch ch).mem.coreAbort = true := by
  obtain ⟨honly, hrd⟩ := State.halted_kept (s := s.put ch ((s.ch ch).abortReader .core h.cause)) (ch := ch) (r := .core) hc hp
  refine ⟨_, execTranslationFault_stops hl ht hs rfl hw, .trans (.put _ _ _) honly, ?_⟩
  rw [Chan.coreAbort_of_readers hrd, State.put_ch]
  rfl

theorem translationFault_engine {e space va : Nat} {acc : Access} {h : Halt} (he : e < (s.ch ch).mem.dma.length)
    (ht : (s.ch ch).translates = true) (hs : space ≤ 8)
    (hw : (s.ch ch).walk ch s.factory.variant space va true acc = .error h) (hc : h.cause ≠ 2) (hp : h.poisoned = false) :
    ∃ t, exec (.translationFault ch (.dma e) space va acc) s = .next t ∧ s.OnlyAt t ch ∧
      ((t.ch ch).engine e).stopped = true ∧ ((t.ch ch).engine e).cause = h.cause := by
  obtain ⟨honly, hrd⟩ :=
    State.halted_kept (s := s.put ch ((s.ch ch).abortReader (.dma e) h.cause)) (ch := ch) (r := .dma e) hc hp
  refine ⟨_, execTranslationFault_stops hl ht hs rfl hw, .trans (.put _ _ _) honly, ?_⟩
  rw [Chan.engine_of_readers hrd, State.put_ch, Chan.abortReader, Chan.stopDma_engine _ _ _ he]
  exact ⟨rfl, rfl⟩

end

/-- Two valid entries whose page does not let the access through end the walk with cause 1. -/
theorem Chan.walk_refuses {c : Chan} {me : Ch} {v : Variant} {space va : Nat} {root page : Word} (io : Bool) (acc : Access)
    (hr : c.entryAt me v (rootTable space + 4 * (va % 2 ^ 32 / 2 ^ 22)) = .ok root) (hrv : pteValid root = true)
    (hp : c.entryAt me v (4096 * ppn root + 4 * (va % 2 ^ 32 / 2 ^ 12 % 1024)) = .ok page)
    (h : (pteAllows page acc && (!io || pteIo page)) = false) :
    c.walk me v space va io acc = .error { cause := 1, addr := va % 2 ^ 32 } := by
  unfold Chan.walk
  simp only [hr, hp, hrv]
  rw [if_neg (by simp), if_neg (by rw [Bool.and_assoc, h]; simp)]

/-- Two valid entries whose page lets the access through give an address. -/
theorem Chan.walk_allows {c : Chan} {me : Ch} {v : Variant} {space va : Nat} {root page : Word} {acc : Access}
    (hr : c.entryAt me v (rootTable space + 4 * (va % 2 ^ 32 / 2 ^ 22)) = .ok root) (hrv : pteValid root = true)
    (hp : c.entryAt me v (4096 * ppn root + 4 * (va % 2 ^ 32 / 2 ^ 12 % 1024)) = .ok page) (hpv : pteValid page = true)
    (h : pteAllows page acc = true) :
    c.walk me v space va false acc = .ok (4096 * ppn page + va % 2 ^ 32 % 4096) := by
  unfold Chan.walk
  simp only [hr, hp, hrv]
  rw [if_neg (by simp), if_pos (by simp [hpv, h])]

/-! ### Traps -/

section

variable {s : State} {ch : Ch} (r : Reader) {a : Nat}

theorem execInitTrap_skips (h : inDram s.factory.variant a = false ∨ (s.ch ch).mem.marked s.factory.variant a = true) :
    exec (.initTrap ch r a) s = .next s := by
  refine if_neg ?_
  rcases h with h | h <;> simp [h]

theorem execInitTrap_eq (hl : (s.ch ch).live = true) (hd : inDram s.factory.variant a = true)
    (hm : (s.ch ch).mem.marked s.factory.variant a = false) :
    exec (.initTrap ch r a) s = .next ((s.put ch ((s.ch ch).abortReader r 2)).trapped ch a) :=
  if_pos (by simp [hl, hd, hm])

end

/-- A running channel that traps in P7 withdraws. -/
theorem State.trapped_withdraws {s : State} {ch : Ch} (a : Nat) (hp : (s.ch ch).boot.phase = 7) (hrun : (s.ch ch).running = true)
    (hvote : (s.ch ch).votes ch = true) :
    ((s.trapped ch a).ch ch).votes ch = false ∧ ((s.trapped ch a).ch ch).dout.high = 0 := by
  unfold State.trapped
  extract_lets u p
  have hu : u.ch ch = { s.ch ch with
      mem := { (s.ch ch).mem with trap := true }
      recd := (Chan.emit { s.ch ch with mem := { (s.ch ch).mem with trap := true } } .initTrap a []).recd } :=
    (State.mod_ch _ _ _).trans (Chan.emit_eq _ _ _ _)
  rw [if_pos (by simp only [p, hu, hp]; rfl)]
  obtain ⟨hg, -⟩ := State.withdraw_gone (s := u) (ch := ch) (by rw [hu]; exact hrun) (by rw [hu]; exact hvote)
  exact ⟨hg.out, hg.high⟩

theorem Chan.stop_stopped (c : Chan) (code : Nat) (detail : Word) :
    (c.stop code detail).boot.stopped = true ∧ (c.stop code detail).boot.phase = c.boot.phase := by
  unfold Chan.stop
  split
  · next h => exact ⟨h, rfl⟩
  · dsimp only
    rw [Chan.emit_eq]
    exact ⟨rfl, rfl⟩

/-- A channel that traps before P7, from P2 on, stops its start-up. -/
theorem State.trapped_stops {s : State} {ch : Ch} (a : Nat) (h2 : 2 ≤ (s.ch ch).boot.phase) (h7 : (s.ch ch).boot.phase ≠ 7) :
    s.OnlyAt (s.trapped ch a) ch ∧ ((s.trapped ch a).ch ch).boot.stopped = true ∧
      ((s.trapped ch a).ch ch).boot.phase = (s.ch ch).boot.phase := by
  unfold State.trapped
  extract_lets u p
  have hu : (u.ch ch).boot = (s.ch ch).boot := by
    unfold u
    rw [State.mod_ch, Chan.emit_eq]
  have hp : p = (s.ch ch).boot.phase := congrArg (fun b => b.phase) hu
  rw [if_neg (by simp [hp, h7]), if_pos (by rw [hp]; exact h2), State.mod_ch]
  obtain ⟨hs, hph⟩ := (u.ch ch).stop_stopped 0x0202 (w32 a)
  exact ⟨.trans (.mod _ _ _) (.mod _ _ _), hs, by rw [hph, hu]⟩

end Sys2Proof.Machine

/-! PROOFS. Reads that meet a lane which delivers no data (spec/12 R324, R325): what is logged, and what each reader does. -/

namespace Sys2Proof.Machine

open Sys2Proof

/-! ### The lane that is lost -/

/-- A lane with two check bits inverted delivers no data. -/
theorem laneBad_inverted (b : Byte) : laneBad (laneKind b 0x03) = true := by
  show laneBad (if (b == 0 && (0x03 : BitVec 5) == poisonDiff) = true then .poisoned else .uncorrectable) = true
  split <;> rfl

theorem Chan.damage_bad (c : Chan) (me : Ch) (v : Variant) (a : Nat) :
    laneBad ((c.damage me v a).kindAt me v a) = true := by
  unfold Chan.damage
  split
  · next h => exact h
  · rw [Chan.kindAt_putLane_self]
    exact laneBad_inverted _

/-- A lane found uncorrectable changes the listings alone. -/
theorem Chan.damage_eq (c : Chan) (me : Ch) (v : Variant) (a : Nat) :
    c.damage me v a =
      { c with mem := { c.mem with data := (c.damage me v a).mem.data, check := (c.damage me v a).mem.check } } := by
  unfold Chan.damage
  split <;> rfl

/-- A memory beside what is kept of where its errors were found. -/
def Mem.besideFound (m : Mem) : Mem := { m with sramHard := 0, hardPages := [], ueSeen := [] }

theorem Mem.noteHard_besideFound (m : Mem) (v : Variant) (was : LaneKind) (a : Nat) :
    (m.noteHard v was a).besideFound = m.besideFound := by
  unfold Mem.noteHard
  split
  · rfl
  · split
    · rfl
    · split <;> rfl

theorem Chan.seeUe_besideFound (c : Chan) (v : Variant) (a : Nat) : (c.seeUe v a).mem.besideFound = c.mem.besideFound := by
  unfold Chan.seeUe
  split <;> rfl

/-- A lane that delivers no data in a read, as it is found and logged before its reader acts. -/
def Chan.readLost (c : Chan) (me : Ch) (v : Variant) (r : Reader) (a : Nat) : Chan :=
  { (c.damage me v (c.nv.home a)).lostLane me v r a with
    mem := ((c.damage me v (c.nv.home a)).lostLane me v r a).mem.noteHard v (c.kindAt me v (c.nv.home a)) a }

section

variable (c : Chan) (me : Ch) (v : Variant) (r : Reader) (a : Nat)

theorem Chan.seeUe_kept : (c.seeUe v a).kept = c.kept := by
  unfold Chan.seeUe
  split <;> rfl

theorem Mem.noteHard_tables (m : Mem) (was : LaneKind) : (m.noteHard v was a).tables = m.tables :=
  (congrArg (fun (x : Mem) => x.tables) (m.noteHard_besideFound v was a) :)

theorem Mem.countUe_tables (m : Mem) : (m.countUe a).tables = m.tables := by
  unfold Mem.countUe
  split <;> rfl

theorem Chan.lostLane_lanes : c.SameLanes (c.lostLane me v r a) where
  kept := (Chan.seeUe_kept _ v a).trans (by
    show ({ c with mem := (c.mem.countUe a).lastErr r a (a % 4) (c.kindAt me v (c.nv.home a)) } : Chan).kept = c.kept
    unfold Chan.kept
    rw [show ((c.mem.countUe a).lastErr r a (a % 4) (c.kindAt me v (c.nv.home a))).tables = c.mem.tables from c.mem.countUe_tables a])
  cells := c.lostLane_cells me v r a

theorem Chan.noteHard_lanes (was : LaneKind) : c.SameLanes { c with mem := c.mem.noteHard v was a } where
  kept := by
    unfold Chan.kept
    rw [show (c.mem.noteHard v was a).tables = c.mem.tables from Mem.noteHard_tables v a c.mem was]
  cells := c.mem.noteHard_cells v was a

theorem Chan.readLost_lanes : (c.damage me v (c.nv.home a)).SameLanes (c.readLost me v r a) :=
  ((c.damage me v (c.nv.home a)).lostLane_lanes me v r a).trans (Chan.noteHard_lanes _ v a _)

theorem Chan.readLost_bad : laneBad ((c.readLost me v r a).kindAt me v (c.nv.home a)) = true := by
  rw [(c.readLost_lanes me v r a).kindAt]
  exact c.damage_bad me v _

/-- The lost lane is counted in its memory and kept as the most recent error. -/
theorem Chan.readLost_logged :
    (c.readLost me v r a).mem.errAddr = a / 4 * 4 ∧ (c.readLost me v r a).mem.errLane = a % 4 % 4 ∧
      (c.readLost me v r a).mem.errMaster = masterIndex r ∧
      (c.readLost me v r a).mem.ueSram = (if inSram a then inc 16 c.mem.ueSram else c.mem.ueSram) ∧
      (c.readLost me v r a).mem.ueDram = (if inSram a then c.mem.ueDram else inc 16 c.mem.ueDram) := by
  have h : (c.readLost me v r a).mem.besideFound = (((c.damage me v (c.nv.home a)).mem.countUe a).lastErr r a (a % 4)
      ((c.damage me v (c.nv.home a)).kindAt me v ((c.damage me v (c.nv.home a)).nv.home a))).besideFound :=
    (Mem.noteHard_besideFound _ _ _ _).trans (Chan.seeUe_besideFound _ _ _)
  have hs : (c.readLost me v r a).mem.ueSram = ((c.damage me v (c.nv.home a)).mem.countUe a).ueSram :=
    (congrArg (fun (x : Mem) => x.ueSram) h :)
  have hd : (c.readLost me v r a).mem.ueDram = ((c.damage me v (c.nv.home a)).mem.countUe a).ueDram :=
    (congrArg (fun (x : Mem) => x.ueDram) h :)
  refine ⟨(congrArg (fun (x : Mem) => x.errAddr) h :), (congrArg (fun (x : Mem) => x.errLane) h :),
    (congrArg (fun (x : Mem) => x.errMaster) h :), ?_, ?_⟩
  · rw [hs, Chan.damage_eq, Mem.countUe]
    split <;> rfl
  · rw [hd, Chan.damage_eq, Mem.countUe]
    split <;> rfl

theorem Chan.readLost_besideMem : (c.readLost me v r a).besideMem = c.besideMem := by
  refine (Chan.lostLane_besideMem (c.damage me v (c.nv.home a)) me v r a).trans ?_
  rw [Chan.damage_eq]
  rfl

theorem Chan.readLost_dma : (c.readLost me v r a).mem.dma = c.mem.dma := by
  have h : (c.readLost me v r a).mem.readers = (c.damage me v (c.nv.home a)).mem.readers :=
    (Mem.noteHard_readers _ _ _ _).trans (Chan.lostLane_readers _ _ _ _ _)
  refine (congrArg Prod.fst h :).trans ?_
  show (c.damage me v (c.nv.home a)).mem.dma = _
  rw [Chan.damage_eq]

end

/-! ### What each reader does -/

/-- A pass over a tile that a lost lane fails; a tile that has failed stays as it is. -/
def Chan.failOnce (c : Chan) (tile : Nat) : Chan :=
  match c.resolverTile tile with
  | some _ => if (c.tiles.failedFor tile).isSome then c else c.failTile tile 6
  | none => c

/-- What a reader does whose read delivered no data. -/
def Chan.readerActs (c : Chan) (v : Variant) (home : Nat) : Reader → Chan
  | .resolver tile => c.failOnce tile
  | .queueManager => c.poolReadError v home
  | r => c.abortReader r 3

theorem Chan.failTile_eq (c : Chan) (i cause : Nat) :
    c.failTile i cause = { c with tiles := (c.failTile i cause).tiles, recd := (c.failTile i cause).recd } := by
  unfold Chan.failTile
  rw [Chan.emitTask_eq]

theorem Chan.failTile_mark (c : Chan) (i cause : Nat) : (c.failTile i cause).tiles.mark i = .failed cause := by
  unfold Chan.failTile
  rw [Chan.emitTask_eq]
  show ((tabPut c.tiles.marks i (Mark.failed cause)).lookup i).getD .unverified = _
  rw [lookup_tabPut_self]
  rfl

theorem TileState.mark_of_failedFor {t : TileState} {i : Nat} (h : (t.failedFor i).isSome = true) : ∃ k, t.mark i = .failed k := by
  unfold TileState.failedFor at h
  split at h
  · next k hk => exact ⟨k, hk⟩
  · cases h

theorem Chan.failOnce_mark {c : Chan} {tile : Nat} {g : Image} (h : c.resolverTile tile = some g) :
    ∃ k, (c.failOnce tile).tiles.mark tile = .failed k := by
  simp only [Chan.failOnce, h]
  split
  · next hf => exact TileState.mark_of_failedFor hf
  · exact ⟨6, c.failTile_mark tile 6⟩

theorem Chan.failOnce_lanes (c : Chan) (tile : Nat) : c.SameLanes (c.failOnce tile) := by
  unfold Chan.failOnce
  split
  · split
    · exact .refl c
    · rw [Chan.failTile_eq]
      exact ⟨rfl, rfl⟩
  · exact .refl c

theorem Chan.failOnce_mem (c : Chan) (tile : Nat) : (c.failOnce tile).mem = c.mem := by
  unfold Chan.failOnce
  split
  · split
    · rfl
    · exact c.failTile_mem tile 6
  · rfl

theorem Chan.dropFirst_eq (c : Chan) (p : Port) (cls : Nat) (range : Option (Port × Nat)) :
    c.dropFirst p cls range = { c with qm := (c.dropFirst p cls range).qm, fab := (c.dropFirst p cls range).fab } := by
  unfold Chan.dropFirst
  split <;> rfl

theorem Chan.dropFirst_eccUe (c : Chan) (p : Port) (cls : Nat) (range : Option (Port × Nat)) :
    (c.dropFirst p cls range).qm.eccUe = c.qm.eccUe := by
  unfold Chan.dropFirst
  split
  · rfl
  · exact Qm.give_eccUe _ _ _ _

theorem Chan.poolReadError_eq (c : Chan) (v : Variant) (a : Nat) :
    c.poolReadError v a = { c with qm := (c.poolReadError v a).qm, fab := (c.poolReadError v a).fab } := by
  unfold Chan.poolReadError
  dsimp only
  split
  · rfl
  · rw [Chan.dropFirst_eq]

theorem Chan.poolReadError_eccUe (c : Chan) (v : Variant) (a : Nat) : (c.poolReadError v a).qm.eccUe = inc 8 c.qm.eccUe := by
  unfold Chan.poolReadError
  dsimp only
  split
  · rfl
  · rw [Chan.dropFirst_eccUe]

theorem Chan.poolReadError_kindAt (c : Chan) (me : Ch) (v : Variant) (a b : Nat) :
    (c.poolReadError v a).kindAt me v b = c.kindAt me v b := by
  rw [Chan.poolReadError_eq]
  rfl

theorem Chan.abortReader_lanes (c : Chan) (r : Reader) (cause : Nat) : c.SameLanes (c.abortReader r cause) := by
  cases r <;> exact ⟨rfl, rfl⟩

theorem Chan.readerActs_kindAt (c : Chan) (me : Ch) (v : Variant) (home : Nat) (r : Reader) (a : Nat) :
    (c.readerActs v home r).kindAt me v a = c.kindAt me v a := by
  unfold Chan.readerActs
  split
  · exact (c.failOnce_lanes _).kindAt me v a
  · exact c.poolReadError_kindAt me v _ a
  · exact (c.abortReader_lanes _ 3).kindAt me v a

/-- The memory's log, beside its readers. -/
def Mem.errLog (m : Mem) : Nat × Nat × Nat × Nat × Nat := (m.errAddr, m.errLane, m.errMaster, m.ueSram, m.ueDram)

theorem Chan.readerActs_errLog (c : Chan) (v : Variant) (home : Nat) (r : Reader) :
    (c.readerActs v home r).mem.errLog = c.mem.errLog := by
  unfold Chan.readerActs
  split
  · rw [Chan.failOnce_mem]
  · rw [Chan.poolReadError_mem]
  · cases r <;> rfl

/-! ### The row -/

section

variable {s : State} {ch : Ch} {r : Reader} {a lane : Nat}

theorem execMemoryReadError_skips (h : listed s.factory.variant a = false ∨ readsLane r lane = false) :
    exec (.memoryReadError ch r a lane) s = .next s := by
  refine congrArg Host.Outcome.next (State.onLive_same (if_pos ?_))
  rcases h with h | h <;> simp [h]

theorem execMemoryReadError_eq (hl : (s.ch ch).live = true) (ha : listed s.factory.variant a = true)
    (hr : readsLane r lane = true) :
    exec (.memoryReadError ch r a lane) s =
      .next (s.put ch (((s.ch ch).readLost ch s.factory.variant r (a / 4 * 4 + lane % 4)).readerActs s.factory.variant
        ((s.ch ch).nv.home (a / 4 * 4 + lane % 4)) r)) := by
  show Host.Outcome.next _ = _
  rw [State.onLive_eq _ hl]
  refine congrArg (fun x => Host.Outcome.next (s.put ch x)) ((if_neg (by simp [ha, hr])).trans ?_)
  cases r <;> rfl

end

/-- Settles O49: a stopped access gives its reader an abort or a stop, and what stopped it decides whether the channel goes on. -/
theorem failedAccessesAct : Obligations.FailedAccessesAct := by
  unfold Obligations.FailedAccessesAct
  intro s ch hl hdma
  dsimp only
  refine ⟨fun r space va acc h => execTranslationFault_skips va acc h, fun r space va acc a h => execTranslationFault_passes h,
    fun space va acc h ht hs hw hc hp => translationFault_core hl ht hs hw hc hp,
    fun e space va acc h he ht hs hw hc hp => translationFault_engine hl (by rw [hdma]; exact he) ht hs hw hc hp,
    ?_, ?_, ?_, ?_, ?_, fun r a h => execInitTrap_skips r h, ?_, fun r a lane h => execMemoryReadError_skips h⟩
  · intro r space va acc h ht hs hr hw hc hp hrun hvote
    have hb := (s.ch ch).abortReader_besideMem r h.cause
    refine ⟨_, execTranslationFault_stops hl ht hs hr hw, State.halted_withdraws hc hp ?_ ?_⟩
    · rw [State.put_ch, Chan.running_of_besideMem hb, hrun]
    · rw [State.put_ch, Chan.votes_of_besideMem hb, hvote]
  · intro space va acc root page hr hrv hp hpv ht hs
    refine ⟨fun h => execTranslationFault_passes (Chan.walk_allows hr hrv hp hpv h), fun h => ?_, fun e he h => ?_⟩
    · exact translationFault_core hl ht hs (Chan.walk_refuses false acc hr hrv hp (by simp [h])) (by simp) rfl
    · exact translationFault_engine hl (by rw [hdma]; exact he) ht hs
        (Chan.walk_refuses true acc hr hrv hp (by simp [h])) (by simp) rfl
  · intro r a hd hm
    refine ⟨_, execInitTrap_eq r hl hd hm, ?_⟩
    rw [State.trapped_mem]
  · intro r a hd hm h7 hrun hvote
    have hb := (s.ch ch).abortReader_besideMem r 2
    refine ⟨_, execInitTrap_eq r hl hd hm, State.trapped_withdraws a ?_ ?_ ?_⟩
    · rw [State.put_ch]
      exact (congrArg (fun (x : Chan) => x.boot.phase) hb :).trans h7
    · rw [State.put_ch, Chan.running_of_besideMem hb, hrun]
    · rw [State.put_ch, Chan.votes_of_besideMem hb, hvote]
  · intro r a hd hm h2 h7
    have hb : ((s.ch ch).abortReader r 2).boot = (s.ch ch).boot :=
      (congrArg (fun (x : Chan) => x.boot) ((s.ch ch).abortReader_besideMem r 2) :)
    obtain ⟨honly, hst, hph⟩ := State.trapped_stops (s := s.put ch ((s.ch ch).abortReader r 2)) (ch := ch) a
      (by rw [State.put_ch, hb]; exact h2) (by rw [State.put_ch, hb]; exact h7)
    refine ⟨_, execInitTrap_eq r hl hd hm, .trans (.put _ _ _) honly, hst, ?_⟩
    rw [hph, State.put_ch, hb]
  · intro r a lane ha hr
    have hx := execMemoryReadError_eq hl ha hr
    generalize hb : a / 4 * 4 + lane % 4 = b at hx ⊢
    obtain ⟨haddr, hlane, hmaster, hsram, hdram⟩ := (s.ch ch).readLost_logged ch s.factory.variant r b
    have hlog := ((s.ch ch).readLost ch s.factory.variant r b).readerActs_errLog s.factory.variant ((s.ch ch).nv.home b) r
    rw [Mem.errLog, Mem.errLog, Prod.mk.injEq, Prod.mk.injEq, Prod.mk.injEq, Prod.mk.injEq] at hlog
    obtain ⟨laddr, llane, lmaster, lsram, ldram⟩ := hlog
    refine ⟨_, hx, .put _ _ _, ?_⟩
    rw [State.put_ch]
    refine ⟨by rw [laddr, haddr]; omega, by rw [llane, hlane]; omega, by rw [lmaster, hmaster], ?_, by rw [lsram, hsram],
      by rw [ldram, hdram], ?_, ?_, ?_, ?_⟩
    · rw [Chan.readerActs_kindAt]
      exact (s.ch ch).readLost_bad _ _ _ _
    · rintro rfl
      rfl
    · rintro e rfl he
      rw [Chan.readerActs, Chan.abortReader, Chan.stopDma_engine _ _ _ (by rw [Chan.readLost_dma, hdma]; exact he)]
      · exact ⟨rfl, rfl⟩
      · rintro _ ⟨⟩
      · rintro ⟨⟩
    · rintro rfl
      rw [Chan.readerActs, Chan.poolReadError_eccUe]
      exact congrArg (inc 8) (congrArg (fun (x : Chan) => x.qm.eccUe)
        ((s.ch ch).readLost_besideMem ch s.factory.variant .queueManager b) :)
    · rintro tile g rfl hg
      have htile := (congrArg (fun (x : Chan) => x.resolverTile tile)
        ((s.ch ch).readLost_besideMem ch s.factory.variant (.resolver tile) b) :)
      exact Chan.failOnce_mark (htile.trans hg)

end Sys2Proof.Machine

/-! PROOFS. The scrubber (spec/12 R324, R330, R331): what a word that is scrubbed holds after, lane by lane. -/

namespace Sys2Proof.Machine

open Sys2Proof

/-! ### A change of the lanes at some addresses -/

/-- A step of scrubbing: lanes change at some addresses alone; the SRAM position and what firmware has been signalled stay. -/
structure Chan.Scrubbed (me : Ch) (v : Variant) (c d : Chan) (there : Nat → Prop) : Prop where
  kept : d.kept = c.kept
  pos : d.mem.posSram = c.mem.posSram
  due : ∀ x ∈ c.mem.ueDue, x ∈ d.mem.ueDue
  out : ∀ b, ¬ there b → d.byteAt me v b = c.byteAt me v b ∧ d.mem.diff b = c.mem.diff b

namespace Chan.Scrubbed

variable {me : Ch} {v : Variant} {c d e : Chan} {p q : Nat → Prop}

theorem refl (c : Chan) : Chan.Scrubbed me v c c p := ⟨rfl, rfl, fun _ h => h, fun _ _ => ⟨rfl, rfl⟩⟩

theorem trans (h : Chan.Scrubbed me v c d p) (k : Chan.Scrubbed me v d e q) :
    Chan.Scrubbed me v c e (fun b => p b ∨ q b) where
  kept := k.kept.trans h.kept
  pos := k.pos.trans h.pos
  due x hx := k.due x (h.due x hx)
  out b hb := by
    obtain ⟨hp, hq⟩ := not_or.mp hb
    exact ⟨(k.out b hq).1.trans (h.out b hp).1, (k.out b hq).2.trans (h.out b hp).2⟩

theorem mono (h : Chan.Scrubbed me v c d p) (hpq : ∀ b, p b → q b) : Chan.Scrubbed me v c d q :=
  { h with out := fun b hb => h.out b fun hp => hb (hpq b hp) }

theorem kindAt (h : Chan.Scrubbed me v c d p) {b : Nat} (hb : ¬ p b) : d.kindAt me v b = c.kindAt me v b := by
  rw [Chan.kindAt, Chan.kindAt, (h.out b hb).1, (h.out b hb).2]

/-- Counters, logs and marks change no lane. -/
theorem of_lanes (h : c.SameLanes d) (hp : d.mem.posSram = c.mem.posSram) (hd : ∀ x ∈ c.mem.ueDue, x ∈ d.mem.ueDue) :
    Chan.Scrubbed me v c d p := ⟨h.kept, hp, hd, fun b _ => ⟨h.byteAt me v b, h.diff b⟩⟩

theorem putLane (c : Chan) (a : Nat) (b : Byte) (x : BitVec 5) :
    Chan.Scrubbed me v c (c.putLane me v a b x) (fun k => k = a) :=
  ⟨rfl, rfl, fun _ h => h, fun k hk => ⟨by rw [Chan.putLane_byteAt, if_neg hk], by rw [Chan.putLane_diff, if_neg hk]⟩⟩

end Chan.Scrubbed

/-! ### One lane -/

section

variable (c : Chan) (me : Ch) (v : Variant) (a : Nat)

/-- What counting a correction changes of the memory it is counted in. -/
theorem Chan.countSram_kept : (c.countSram a).kept = c.kept ∧ (c.countSram a).mem.posSram = c.mem.posSram ∧
    (c.countSram a).mem.ueDue = c.mem.ueDue := by
  unfold Chan.countSram
  dsimp only
  split <;> exact ⟨rfl, rfl, rfl⟩

theorem Chan.logCorrection_kept (lane : Nat) : (c.logCorrection a lane).kept = c.kept := by
  unfold Chan.logCorrection
  dsimp only
  rw [Chan.emit_eq]
  rfl

theorem Chan.noteCorrected_kept (r : Reader) : (c.noteCorrected v r a).kept = c.kept ∧
    (c.noteCorrected v r a).mem.posSram = c.mem.posSram ∧ (c.noteCorrected v r a).mem.ueDue = c.mem.ueDue := by
  unfold Chan.noteCorrected
  extract_lets d
  split
  · exact ⟨d.logCorrection_kept _ _, by rw [Chan.logCorrection_mem]; rfl, by rw [Chan.logCorrection_mem]; rfl⟩
  · split
    · exact d.countSram_kept a
    · exact ⟨rfl, rfl, rfl⟩

theorem Chan.countCe_lanes : c.SameLanes { c with mem := c.mem.countCe a } where
  kept := by
    unfold Mem.countCe
    split <;> rfl
  cells := c.mem.countCe_cells a

theorem Mem.countCe_scrub (m : Mem) : (m.countCe a).posSram = m.posSram ∧ (m.countCe a).ueDue = m.ueDue := by
  unfold Mem.countCe
  split <;> exact ⟨rfl, rfl⟩

/-- A lane corrected holds the byte it held, with valid check bits. -/
theorem Chan.scrubFix_lane :
    Chan.Scrubbed me v c (c.scrubFix me v a) (fun k => k = c.nv.home a) ∧
      (c.scrubFix me v a).byteAt me v (c.nv.home a) = c.byteAt me v (c.nv.home a) ∧
      (c.scrubFix me v a).mem.diff (c.nv.home a) = 0 := by
  let p := c.putLane me v (c.nv.home a) (c.byteAt me v (c.nv.home a)) 0
  obtain ⟨hk, hpos, hdue⟩ := p.noteCorrected_kept v a .scrubber
  have hn : p.SameLanes (p.noteCorrected v .scrubber a) := ⟨hk, p.noteCorrected_cells v _ a⟩
  have hf : p.SameLanes (c.scrubFix me v a) ∧ (c.scrubFix me v a).mem.posSram = p.mem.posSram ∧
      (c.scrubFix me v a).mem.ueDue = p.mem.ueDue := by
    unfold Chan.scrubFix
    dsimp only
    split
    · obtain ⟨h1, h2⟩ := Mem.countCe_scrub a (p.noteCorrected v .scrubber a).mem
      exact ⟨hn.trans (Chan.countCe_lanes _ a), h1.trans hpos, h2.trans hdue⟩
    · exact ⟨hn, hpos, hdue⟩
  obtain ⟨hl, hp, hd⟩ := hf
  refine ⟨((Chan.Scrubbed.putLane c _ _ _).trans (.of_lanes (p := fun _ => False) hl hp (by rw [hd]; exact fun _ h => h))).mono
    (by simp), ?_, ?_⟩
  · rw [hl.byteAt, Chan.putLane_byteAt, if_pos rfl]
  · rw [hl.diff, Chan.putLane_diff, if_pos rfl]

theorem Mem.noteHard_scrub (m : Mem) (was : LaneKind) : (m.noteHard v was a).posSram = m.posSram ∧
    (m.noteHard v was a).ueDue = m.ueDue :=
  ⟨(congrArg (fun (x : Mem) => x.posSram) (m.noteHard_besideFound v was a) :),
    (congrArg (fun (x : Mem) => x.ueDue) (m.noteHard_besideFound v was a) :)⟩

theorem Chan.seeUe_scrub : (c.seeUe v a).mem.posSram = c.mem.posSram ∧ (c.seeUe v a).mem.ueDue = c.mem.ueDue :=
  ⟨(congrArg (fun (x : Mem) => x.posSram) (c.seeUe_besideFound v a) :),
    (congrArg (fun (x : Mem) => x.ueDue) (c.seeUe_besideFound v a) :)⟩

/-- A lane that delivers no data, poisoned unless it is. -/
def Chan.poisonOnce : Chan :=
  if c.kindAt me v (c.nv.home a) == .poisoned then c else c.poisonAt me v (c.nv.home a)

theorem Chan.poisonOnce_lane :
    Chan.Scrubbed me v c (c.poisonOnce me v a) (fun k => k = c.nv.home a) ∧
      (c.poisonOnce me v a).kindAt me v (c.nv.home a) = .poisoned := by
  unfold Chan.poisonOnce
  split
  · next h => exact ⟨.refl c, beq_iff_eq.mp h⟩
  · exact ⟨.putLane c _ _ _, c.poisonAt_kindAt me v _⟩

/-- The signal that firmware is given of a lane, once. -/
def Mem.signalled (m : Mem) (a : Nat) : List (Nat × Nat) :=
  if m.ueDue.contains (a / 4 * 4, a % 4) then m.ueDue else m.ueDue ++ [(a / 4 * 4, a % 4)]

theorem Mem.mem_signalled (m : Mem) : (a / 4 * 4, a % 4) ∈ m.signalled a := by
  unfold Mem.signalled
  split
  · next h => exact List.contains_iff_mem.mp h
  · simp

theorem Mem.subset_signalled (m : Mem) : ∀ x ∈ m.ueDue, x ∈ m.signalled a := by
  intro x hx
  unfold Mem.signalled
  split
  · exact hx
  · exact List.mem_append_left _ hx

theorem Chan.scrubBad_scrubs : (c.poisonOnce me v a).SameLanes (c.scrubBad me v a) ∧
    (c.scrubBad me v a).mem.posSram = (c.poisonOnce me v a).mem.posSram ∧
    (c.scrubBad me v a).mem.ueDue = (c.poisonOnce me v a).mem.signalled a := by
  unfold Chan.scrubBad
  extract_lets k d m due m'
  have hd : d = c.poisonOnce me v a := rfl
  have hn := Mem.noteHard_scrub v a (m.lastErr .scrubber a (a % 4) k) k
  have ht : m'.tables = d.mem.tables := Mem.noteHard_tables v a (m.lastErr .scrubber a (a % 4) k) k
  rw [← hd]
  refine ⟨⟨(Chan.seeUe_kept _ v a).trans ?_, (Chan.seeUe_cells _ v a).trans (Mem.noteHard_cells _ v k a)⟩,
    (Chan.seeUe_scrub _ v a).1.trans hn.1, (Chan.seeUe_scrub _ v a).2⟩
  unfold Chan.kept
  rw [show ({ d with mem := m' } : Chan).mem.tables = d.mem.tables from ht]

/-- A lane that delivers no data is poisoned, and firmware is signalled. -/
theorem Chan.scrubBad_lane :
    Chan.Scrubbed me v c (c.scrubBad me v a) (fun k => k = c.nv.home a) ∧
      (c.scrubBad me v a).kindAt me v (c.nv.home a) = .poisoned ∧ (a / 4 * 4, a % 4) ∈ (c.scrubBad me v a).mem.ueDue := by
  obtain ⟨hl, hpos, hdue⟩ := c.scrubBad_scrubs me v a
  obtain ⟨hs, hk⟩ := c.poisonOnce_lane me v a
  refine ⟨(hs.trans (.of_lanes (p := fun _ => False) hl hpos ?_)).mono (by simp), ?_, ?_⟩
  · rw [hdue]
    exact Mem.subset_signalled a _
  · rw [hl.kindAt, hk]
  · rw [hdue]
    exact Mem.mem_signalled a _

end

/-- What scrubbing a lane leaves of it, by what it was found to be. -/
structure Chan.Repaired (me : Ch) (v : Variant) (c d : Chan) (a h : Nat) : Prop where
  sound : c.kindAt me v h = .sound → d.byteAt me v h = c.byteAt me v h ∧ d.mem.diff h = c.mem.diff h
  corrected : c.kindAt me v h = .corrected → d.byteAt me v h = c.byteAt me v h ∧ d.mem.diff h = 0
  bad : laneBad (c.kindAt me v h) = true → d.kindAt me v h = .poisoned ∧ (a / 4 * 4, a % 4) ∈ d.mem.ueDue

section

variable {me : Ch} {v : Variant} {c d e : Chan} {a h : Nat} {p : Nat → Prop}

theorem Chan.Repaired.then (hr : Chan.Repaired me v c d a h) (hs : Chan.Scrubbed me v d e p) (hh : ¬ p h) :
    Chan.Repaired me v c e a h where
  sound hk := ⟨(hs.out h hh).1.trans (hr.sound hk).1, (hs.out h hh).2.trans (hr.sound hk).2⟩
  corrected hk := ⟨(hs.out h hh).1.trans (hr.corrected hk).1, (hs.out h hh).2.trans (hr.corrected hk).2⟩
  bad hk := ⟨(hs.kindAt hh).trans (hr.bad hk).1, hs.due _ (hr.bad hk).2⟩

theorem Chan.Scrubbed.repaired (hs : Chan.Scrubbed me v c d p) (hh : ¬ p h) (hr : Chan.Repaired me v d e a h) :
    Chan.Repaired me v c e a h where
  sound hk := by
    obtain ⟨h1, h2⟩ := hr.sound ((hs.kindAt hh).trans hk)
    exact ⟨h1.trans (hs.out h hh).1, h2.trans (hs.out h hh).2⟩
  corrected hk := by
    obtain ⟨h1, h2⟩ := hr.corrected ((hs.kindAt hh).trans hk)
    exact ⟨h1.trans (hs.out h hh).1, h2⟩
  bad hk := hr.bad (by rw [hs.kindAt hh]; exact hk)

end

theorem Chan.scrubLane_lane (c : Chan) (me : Ch) (v : Variant) (a : Nat) :
    Chan.Scrubbed me v c (c.scrubLane me v a) (fun k => k = c.nv.home a) ∧
      Chan.Repaired me v c (c.scrubLane me v a) a (c.nv.home a) := by
  unfold Chan.scrubLane
  split
  · next hk => exact ⟨.refl c, fun _ => ⟨rfl, rfl⟩, fun h => (by rw [hk] at h; cases h), fun h => (by rw [hk] at h; cases h)⟩
  · next hk =>
    obtain ⟨hs, hb, hd⟩ := c.scrubFix_lane me v a
    exact ⟨hs, fun h => (by rw [hk] at h; cases h), fun _ => ⟨hb, hd⟩, fun h => (by rw [hk] at h; cases h)⟩
  · next hns hnc =>
    obtain ⟨hs, hb, hd⟩ := c.scrubBad_lane me v a
    exact ⟨hs, fun h => (hns h).elim, fun h => (hnc h).elim, fun _ => ⟨hb, hd⟩⟩

/-! ### One word -/

/-- Lanes scrubbed one after another, at places that differ: each is repaired, and nothing else is touched. -/
theorem Chan.scrubLanes_word (me : Ch) (v : Variant) (a : Nat) (ha : a % 4 = 0) (ks : List Nat) (hnd : ks.Nodup)
    (h4 : ∀ k ∈ ks, k < 4) (c : Chan) :
    Chan.Scrubbed me v c (ks.foldl (fun c k => c.scrubLane me v (a + k)) c) (fun b => ∃ k ∈ ks, b = c.nv.home (a + k)) ∧
      ∀ k ∈ ks, Chan.Repaired me v c (ks.foldl (fun c k => c.scrubLane me v (a + k)) c) (a + k) (c.nv.home (a + k)) := by
  induction ks generalizing c with
  | nil => exact ⟨.refl c, fun k hk => by cases hk⟩
  | cons k ks ih =>
    obtain ⟨hnot, hnd'⟩ := List.nodup_cons.mp hnd
    obtain ⟨hs1, hr1⟩ := c.scrubLane_lane me v (a + k)
    obtain ⟨hs2, hr2⟩ := ih hnd' (fun j hj => h4 j (List.mem_cons_of_mem _ hj)) (c.scrubLane me v (a + k))
    simp only [Chan.home_of_kept hs1.kept] at hs2 hr2
    have hne : ∀ j ∈ ks, c.nv.home (a + j) ≠ c.nv.home (a + k) := fun j hj he => by
      rw [(c.nv.home_word ha (h4 j (List.mem_cons_of_mem _ hj))).1, (c.nv.home_word ha (h4 k List.mem_cons_self)).1] at he
      exact hnot ((Nat.add_left_cancel he) ▸ hj)
    refine ⟨(hs1.trans hs2).mono ?_, fun j hj => ?_⟩
    · rintro b (rfl | ⟨j, hj, rfl⟩)
      · exact ⟨k, List.mem_cons_self, rfl⟩
      · exact ⟨j, List.mem_cons_of_mem _ hj, rfl⟩
    · rcases List.mem_cons.mp hj with rfl | hin
      · exact hr1.then hs2 fun ⟨i, hi, he⟩ => hne i hi he.symm
      · exact hs1.repaired (hne j hin) (hr2 j hin)

section

variable (c : Chan) (me : Ch) (v : Variant) (a : Nat)

theorem Chan.scrubAt_word (ha : a % 4 = 0) :
    Chan.Scrubbed me v c (c.scrubAt me v a) (fun b => ∃ k < 4, b = c.nv.home (a + k)) ∧
      ∀ k < 4, Chan.Repaired me v c (c.scrubAt me v a) (a + k) (c.nv.home (a + k)) := by
  obtain ⟨hs, hr⟩ := Chan.scrubLanes_word me v a ha (List.range 4) List.nodup_range (fun k hk => List.mem_range.mp hk) c
  have hf : Chan.Scrubbed me v ((List.range 4).foldl (fun c k => c.scrubLane me v (a + k)) c) (c.scrubAt me v a)
      (fun _ => False) := by
    unfold Chan.scrubAt
    dsimp only
    split
    · exact .of_lanes ⟨rfl, rfl⟩ rfl fun _ h => h
    · exact .refl _
  refine ⟨(hs.trans hf).mono ?_, fun k hk => (hr k (List.mem_range.mpr hk)).then hf id⟩
  rintro b (⟨k, hk, rfl⟩ | h)
  · exact ⟨k, List.mem_range.mp hk, rfl⟩
  · exact h.elim

/-- The position the scrubber takes after a word of SRAM. -/
theorem Chan.scrubSram_pos : (c.scrubSram me v).mem.posSram = if inSram (c.mem.posSram + 4) then c.mem.posSram + 4 else 0x10000000 := by
  show (if !inSram (c.mem.posSram + 4) then _ else _) = _
  cases inSram (c.mem.posSram + 4) <;> rfl

theorem Chan.scrubSram_lanes : (c.scrubAt me v c.mem.posSram).SameLanes (c.scrubSram me v) ∧
    (c.scrubSram me v).mem.ueDue = (c.scrubAt me v c.mem.posSram).mem.ueDue := ⟨⟨rfl, rfl⟩, rfl⟩

/-- The passes over DRAM and the position there are no lanes. -/
theorem Chan.scrubDram_word {b : Nat} {w : Bool} (h : nextDram c v scrubFuel c.mem.posDram false = some (b, w)) (hb : b % 4 = 0) :
    Chan.Scrubbed me v c (c.scrubDram me v) (fun x => ∃ k < 4, x = c.nv.home (b + k)) ∧
      ∀ k < 4, Chan.Repaired me v c (c.scrubDram me v) (b + k) (c.nv.home (b + k)) := by
  unfold Chan.scrubDram
  split
  · next hn => rw [h] at hn; cases hn
  · next b' w' hn =>
    obtain ⟨rfl, rfl⟩ : b = b' ∧ w = w' := by simpa using h.symm.trans hn
    extract_lets m d e
    have hd : Chan.Scrubbed me v c d (fun _ => False) := by
      unfold d
      split
      · exact .of_lanes ⟨rfl, rfl⟩ rfl fun _ h => h
      · exact .refl c
    obtain ⟨hs, hr⟩ := d.scrubAt_word me v b hb
    simp only [Chan.home_of_kept hd.kept] at hs hr
    have hin (f : Chan) (hf : Chan.Scrubbed me v e f (fun _ => False)) :
        Chan.Scrubbed me v c f (fun x => ∃ k < 4, x = c.nv.home (b + k)) ∧
          ∀ k < 4, Chan.Repaired me v c f (b + k) (c.nv.home (b + k)) :=
      ⟨((hd.trans hs).trans hf).mono (by simp), fun k hk => hd.repaired id ((hr k hk).then hf id)⟩
    split <;> exact hin _ (.of_lanes ⟨rfl, rfl⟩ rfl fun _ h => h)

end

end Sys2Proof.Machine

/-! PROOFS. What memory's faults lead to (spec/12 R331 to R334, R375): the scrubber's words, firmware's action, retired pages and
banks, the correction log. -/

namespace Sys2Proof.Machine

open Sys2Proof

/-! ### Words scrubbed -/

/-- Pages and banks move in DRAM alone. -/
theorem Nv.home_of_lt (nv : Nv) {a : Nat} (h : a < 0x40000000) : nv.home a = a := by
  have pages (l : List Retired) : l.foldr Retired.home a = a := by
    induction l with
    | nil => rfl
    | cons e l ih =>
      rw [List.foldr_cons, ih, Retired.home, if_neg]
      simp only [Bool.and_eq_true, decide_eq_true_eq]
      omega
  rw [Nv.home_eq, pages, Nv.bankHome]
  split
  · next k hk =>
    have hlow := List.find?_some hk
    simp only [Bool.and_eq_true, decide_eq_true_eq] at hlow
    omega
  · rfl

theorem inSram_lt {a : Nat} (h : inSram a = true) : 0x10000000 ≤ a ∧ a < 0x10200000 := by
  simpa only [inSram, Bool.and_eq_true, decide_eq_true_eq] using h

section

variable {s : State} {ch : Ch}

theorem execScrubWord_skips (dram : Bool) (h : (s.ch ch).boot.phase = 0) : exec (.scrubWord ch dram) s = .next s :=
  congrArg Host.Outcome.next (State.onLive_same (if_pos (by simp [h])))

section

variable (hl : (s.ch ch).live = true) (hp : (s.ch ch).boot.phase ≠ 0)

include hl hp

theorem execScrubWord_sram :
    exec (.scrubWord ch false) s = .next (s.put ch ((s.ch ch).scrubSram ch s.factory.variant)) := by
  show Host.Outcome.next _ = _
  rw [State.onLive_eq _ hl]
  exact congrArg (fun x => Host.Outcome.next (s.put ch x)) (if_neg (by simp [hp]))

theorem execScrubWord_dram :
    exec (.scrubWord ch true) s = .next (s.put ch ((s.ch ch).scrubDram ch s.factory.variant)) := by
  show Host.Outcome.next _ = _
  rw [State.onLive_eq _ hl]
  exact congrArg (fun x => Host.Outcome.next (s.put ch x)) (if_neg (by simp [hp]))

end

end

section

variable (c : Chan) (me : Ch) (v : Variant)

theorem Chan.scrubLane_pos (a : Nat) : (c.scrubLane me v a).mem.posSram = c.mem.posSram := (c.scrubLane_lane me v a).1.pos

theorem Chan.scrubAt_pos (a : Nat) : (c.scrubAt me v a).mem.posSram = c.mem.posSram := by
  have h := foldl_view (f := fun (c : Chan) (k : Nat) => c.scrubLane me v (a + k)) (g := fun (c : Chan) => c.mem.posSram)
    (fun c k => c.scrubLane_pos me v (a + k)) (List.range 4) c
  unfold Chan.scrubAt
  dsimp only
  split <;> exact h

theorem Chan.scrubDram_pos : (c.scrubDram me v).mem.posSram = c.mem.posSram := by
  unfold Chan.scrubDram
  split
  · rfl
  · extract_lets m d e
    have hd : d.mem.posSram = c.mem.posSram := by
      unfold d
      split <;> rfl
    have he : e.mem.posSram = c.mem.posSram := (d.scrubAt_pos me v _).trans hd
    split <;> exact he

/-- The word of SRAM that is scrubbed, lane by lane. -/
theorem Chan.scrubSram_word (ha : inSram c.mem.posSram = true) (h4 : c.mem.posSram % 4 = 0) :
    (∀ k, k < 4 →
      (c.kindAt me v (c.mem.posSram + k) = .sound →
        (c.scrubSram me v).byteAt me v (c.mem.posSram + k) = c.byteAt me v (c.mem.posSram + k) ∧
          (c.scrubSram me v).mem.diff (c.mem.posSram + k) = c.mem.diff (c.mem.posSram + k)) ∧
      (c.kindAt me v (c.mem.posSram + k) = .corrected →
        (c.scrubSram me v).byteAt me v (c.mem.posSram + k) = c.byteAt me v (c.mem.posSram + k) ∧
          (c.scrubSram me v).mem.diff (c.mem.posSram + k) = 0) ∧
      (laneBad (c.kindAt me v (c.mem.posSram + k)) = true →
        (c.scrubSram me v).kindAt me v (c.mem.posSram + k) = .poisoned ∧
          (c.mem.posSram, k) ∈ (c.scrubSram me v).mem.ueDue)) ∧
    ∀ b, b < c.mem.posSram ∨ c.mem.posSram + 4 ≤ b →
      (c.scrubSram me v).byteAt me v b = c.byteAt me v b ∧ (c.scrubSram me v).mem.diff b = c.mem.diff b := by
  obtain ⟨hlo, hhi⟩ := inSram_lt ha
  obtain ⟨hs, hr⟩ := c.scrubAt_word me v c.mem.posSram h4
  obtain ⟨hl, hdue⟩ := c.scrubSram_lanes me v
  constructor
  · intro k hk
    have hhome : c.nv.home (c.mem.posSram + k) = c.mem.posSram + k := c.nv.home_of_lt (by omega)
    obtain ⟨hsound, hcorr, hbad⟩ := hr k hk
    rw [hhome] at hsound hcorr hbad
    refine ⟨fun h => ?_, fun h => ?_, fun h => ?_⟩
    · rw [hl.byteAt, hl.diff]
      exact hsound h
    · rw [hl.byteAt, hl.diff]
      exact hcorr h
    · obtain ⟨hk1, hk2⟩ := hbad h
      rw [hl.kindAt, hdue]
      rw [show (c.mem.posSram + k) / 4 * 4 = c.mem.posSram by omega, show (c.mem.posSram + k) % 4 = k by omega] at hk2
      exact ⟨hk1, hk2⟩
  · intro b hb
    rw [hl.byteAt, hl.diff]
    refine hs.out b ?_
    rintro ⟨k, hk, rfl⟩
    rw [c.nv.home_of_lt (by omega)] at hb
    omega

theorem Chan.scrubDram_bad {b : Nat} {w : Bool} (h : nextDram c v scrubFuel c.mem.posDram false = some (b, w)) (hb : b % 4 = 0)
    {k : Nat} (hk : k < 4) (hbad : laneBad (c.kindAt me v (c.nv.home (b + k))) = true) :
    (c.scrubDram me v).kindAt me v (c.nv.home (b + k)) = .poisoned ∧ (b, k) ∈ (c.scrubDram me v).mem.ueDue := by
  obtain ⟨-, hr⟩ := c.scrubDram_word me v h hb
  obtain ⟨hk1, hk2⟩ := (hr k hk).bad hbad
  rw [show (b + k) / 4 * 4 = b by omega, show (b + k) % 4 = k by omega] at hk2
  exact ⟨hk1, hk2⟩

/-! ### Firmware's action -/

/-- A channel that withdraws over a lane is left as it is until then. -/
theorem Chan.ueAct_withdraws {a : Nat} (h : (c.ueAct me v a).2 = true) : (c.ueAct me v a).1 = c := by
  unfold Chan.ueAct at h ⊢
  by_cases h1 : inTileStore a = true
  · rw [if_pos h1] at h
    cases h
  · rw [if_neg h1] at h ⊢
    by_cases h2 : inSram a = true
    · rw [if_pos h2] at h ⊢
      split at h
      · cases h
      · rfl
    · rw [if_neg h2] at h ⊢
      split
      · rfl
      · next h3 =>
        rw [if_neg h3] at h
        split
        · rfl
        · next h4 =>
          rw [if_neg h4] at h
          split
          · rfl
          · next h5 =>
            rw [if_neg h5] at h
            split
            · rfl
            · next h6 =>
              rw [if_neg h6] at h
              split at h
              · cases h
              · split at h <;> cases h

end

section

variable {s : State} {ch : Ch} {addr lane : Nat}

/-- Firmware's action taken on an error that was signalled. -/
def Chan.ueSettled (c : Chan) (due : Nat × Nat) : Chan :=
  { c with mem := { c.mem with ueDue := c.mem.ueDue.erase due, rewritten := (due :: c.mem.rewritten).eraseDups } }

theorem Chan.mem_ueSettled (c : Chan) (due : Nat × Nat) : due ∈ (c.ueSettled due).mem.rewritten :=
  List.mem_eraseDups.mpr List.mem_cons_self

theorem execScrubUeAction_skips (h : (s.ch ch).mem.ueDue.contains (addr / 4 * 4, lane) = false) :
    exec (.scrubUeAction ch addr lane) s = .next s := if_neg (by rw [h]; simp)

theorem execScrubUeAction_eq (hl : (s.ch ch).live = true)
    (h : (s.ch ch).mem.ueDue.contains (addr / 4 * 4, lane) = true) :
    exec (.scrubUeAction ch addr lane) s =
      .next (if ((s.ch ch).ueAct ch s.factory.variant ((s.ch ch).nv.home (addr / 4 * 4 + lane))).2 then
        (s.put ch (((s.ch ch).ueAct ch s.factory.variant ((s.ch ch).nv.home (addr / 4 * 4 + lane))).1.ueSettled
          (addr / 4 * 4, lane))).withdraw ch
      else s.put ch (((s.ch ch).ueAct ch s.factory.variant ((s.ch ch).nv.home (addr / 4 * 4 + lane))).1.ueSettled
          (addr / 4 * 4, lane))) :=
  if_pos (by rw [hl, h]; rfl)

end

/-! ### Retired pages -/

section

variable (c : Chan) (v : Variant) (page cause spare : Nat)

/-- The frames of a retired page of the pool are flushed. -/
def Chan.poolFlushed : Chan :=
  match c.poolRange v (c.nv.home (0x40000000 + 4096 * page)) with
  | some (cls, range) => (c.flushWhere .x (c.inRange .x cls range)).flushWhere .y (c.inRange .y cls range)
  | none => c

theorem Chan.flushWhere_nv (p : Port) (gone : Frame → Bool) : (c.flushWhere p gone).nv = c.nv := by
  rw [Chan.flushWhere_eq]

theorem Chan.poolFlushed_kept : (c.poolFlushed v page).mem = c.mem ∧ (c.poolFlushed v page).nv = c.nv := by
  unfold Chan.poolFlushed
  split
  · exact ⟨by rw [Chan.flushWhere_mem, Chan.flushWhere_mem], by rw [Chan.flushWhere_nv, Chan.flushWhere_nv]⟩
  · exact ⟨rfl, rfl⟩

theorem Chan.retirePage_kept :
    (c.retirePage v page cause spare).mem.data = c.mem.data ∧
      (c.retirePage v page cause spare).nv = { c.nv with
        retired := c.nv.retired ++ [{ valid := true, cause := cause, spare := spare, page := page }]
        corrections := c.nv.corrections.filter (fun e => !(pageOf e.addr == page && decide (0x40000000 ≤ e.addr))) } := by
  obtain ⟨hm, hn⟩ := c.poolFlushed_kept v page
  unfold Chan.retirePage
  extract_lets src d e
  have hd : d = c.poolFlushed v page := rfl
  have hdm : d.mem = c.mem := hd ▸ hm
  have hdn : d.nv = c.nv := hd ▸ hn
  rw [Chan.emit_eq]
  refine ⟨?_, ?_⟩
  · show d.mem.data = _
    rw [hdm]
  · show ({ d.nv with retired := _, corrections := _ } : Nv) = _
    rw [hdn]

end

/-- The spare page stands for the page it was given for. -/
theorem Nv.home_spare (nv : Nv) (e : Retired) (log : List Correction) {k : Nat} (hv : e.valid = true) (hk : k < 4096) :
    ({ nv with retired := nv.retired ++ [e], corrections := log } : Nv).home (0x40900000 + 4096 * e.spare + k) =
      nv.home (0x40000000 + 4096 * e.page + k) := by
  have he : e.home (0x40900000 + 4096 * e.spare + k) = 0x40000000 + 4096 * e.page + k := by
    rw [Retired.home, if_pos (by simp [hv]; omega)]
    omega
  rw [Nv.home_eq, Nv.home_eq, List.foldr_append, List.foldr_cons, List.foldr_nil, he]
  rfl

section

variable {s : State} {ch : Ch} {page cause spare : Nat}

/-- A page is to be retired for a cause, and has not been. -/
def State.PageDue (s : State) (ch : Ch) (page cause : Nat) : Prop :=
  inDram s.factory.variant (0x40000000 + 4096 * page) = true ∧ (s.ch ch).nv.retiredPages.contains page = false ∧
    ((cause = 1 ∧ (s.ch ch).repeats page = true) ∨ (cause = 2 ∧ (s.ch ch).mem.hardPages.contains page = true))

theorem Chan.mustRetire_iff (c : Chan) (page cause : Nat) :
    c.mustRetire page cause = true ↔
      (cause = 1 ∧ c.repeats page = true) ∨ (cause = 2 ∧ c.mem.hardPages.contains page = true) := by
  unfold Chan.mustRetire
  split
  · simp
  · simp
  · next h1 h2 => exact ⟨fun h => (Bool.false_ne_true h).elim, fun h => h.elim (fun h => (h1 h.1).elim) fun h => (h2 h.1).elim⟩

theorem State.pageDue_iff : s.PageDue ch page cause ↔
    (!(s.ch ch).mustRetire page cause || !inDram s.factory.variant (0x40000000 + 4096 * page) ||
      (s.ch ch).nv.retiredPages.contains page) = false := by
  rw [Bool.or_eq_false_iff, Bool.or_eq_false_iff, Bool.not_eq_false', Bool.not_eq_false', Chan.mustRetire_iff, State.PageDue]
  tauto

theorem execPageRetire_skips (h : ¬ s.PageDue ch page cause) : exec (.pageRetire ch page cause) s = .next s :=
  congrArg Host.Outcome.next (State.onLive_same (if_pos (by
    rw [State.pageDue_iff, Bool.not_eq_false] at h
    exact h)))

/-- A page whose copy finds a lane that delivers no data stays where it is. -/
theorem execPageRetire_stops (h : s.PageDue ch page cause) (hs : (s.ch ch).nv.freeSpare = some spare)
    (hn : (s.ch ch).nv.retiredPages.length < 512)
    (hb : (s.ch ch).rangeBad ch s.factory.variant ((s.ch ch).nv.home (0x40000000 + 4096 * page)) 4096 = true) :
    exec (.pageRetire ch page cause) s = .next s := by
  refine congrArg Host.Outcome.next (State.onLive_same ?_)
  rw [if_neg (Bool.eq_false_iff.mp (State.pageDue_iff.mp h))]
  simp only [hs, hn, decide_true, hb, if_true]

section

variable (hl : (s.ch ch).live = true)

include hl

theorem execPageRetire_moves (h : s.PageDue ch page cause) (hs : (s.ch ch).nv.freeSpare = some spare)
    (hn : (s.ch ch).nv.retiredPages.length < 512)
    (hb : (s.ch ch).rangeBad ch s.factory.variant ((s.ch ch).nv.home (0x40000000 + 4096 * page)) 4096 = false) :
    exec (.pageRetire ch page cause) s =
      .next (s.put ch ((s.ch ch).retirePage s.factory.variant page cause spare)) := by
  show Host.Outcome.next _ = _
  rw [State.onLive_eq _ hl, if_neg (Bool.eq_false_iff.mp (State.pageDue_iff.mp h))]
  simp only [hs, hn, decide_true, hb]
  rfl

theorem execPageRetire_exhausted (h : s.PageDue ch page cause)
    (hn : (s.ch ch).nv.freeSpare = none ∨ 512 ≤ (s.ch ch).nv.retiredPages.length) (hx : (s.ch ch).nv.spareExh = false) :
    exec (.pageRetire ch page cause) s =
      .next (s.put ch (({ s.ch ch with nv := { (s.ch ch).nv with spareExh := true } } : Chan).emit .spareExhausted page [])) := by
  show Host.Outcome.next _ = _
  rw [State.onLive_eq _ hl, if_neg (Bool.eq_false_iff.mp (State.pageDue_iff.mp h))]
  split
  · next sp hs hd =>
    rcases hn with hn | hn
    · rw [hn] at hs
      cases hs
    · exact absurd (of_decide_eq_true hd) (Nat.not_lt.mpr hn)
  · rw [hx]
    rfl

end

/-! ### Retired banks -/

/-- A bank is to be retired, and no bank fault stands. -/
def State.BankDue (s : State) (ch : Ch) (bank : Nat) : Prop :=
  bankInUse s.factory.variant bank = true ∧ (s.ch ch).bankDue bank = true ∧ (s.ch ch).mem.bankFault = false

/-- A bank moved to a spare bank, or its fault noted where there is none. -/
def Chan.bankRetired (c : Chan) (me : Ch) (v : Variant) (bank : Nat) : Chan :=
  match c.nv.freeBank v with
  | some p => (c.moveBank me v bank p).emit .retirement bank [w32 p]
  | none => { c with mem := { c.mem with bankFault := true } }.emit .bankFault bank []

theorem Chan.moveBank_kept (c : Chan) (me : Ch) (v : Variant) (bank p : Nat) :
    (c.moveBank me v bank p).votes me = c.votes me ∧ (c.moveBank me v bank p).dout = c.dout ∧
      (c.moveBank me v bank p).nv.bankMap = c.nv.bankMap.set bank p := by
  unfold Chan.moveBank
  extract_lets lo regions d
  have h : d.besideMem = c.besideMem := c.zeroRange_besideMem me v _ _
  refine ⟨(congrArg (fun (x : Chan) => x.votes me) h :), (congrArg (fun (x : Chan) => x.dout) h :), ?_⟩
  exact congrArg (fun (l : List Nat) => l.set bank p) (congrArg (fun (x : Chan) => x.nv.bankMap) h :)

theorem Chan.bankRetired_kept (c : Chan) (me : Ch) (v : Variant) (bank : Nat) :
    (c.bankRetired me v bank).votes me = c.votes me ∧ (c.bankRetired me v bank).dout = c.dout := by
  unfold Chan.bankRetired
  split
  · next p _ =>
    obtain ⟨hv, ho, -⟩ := c.moveBank_kept me v bank p
    rw [Chan.emit_eq]
    exact ⟨hv, ho⟩
  · rw [Chan.emit_eq]
    exact ⟨rfl, rfl⟩

variable {bank : Nat}

theorem execBankRetire_skips (h : ¬ s.BankDue ch bank) : exec (.bankRetire ch bank) s = .next s := by
  refine if_neg fun hc => h ?_
  simp only [Bool.and_eq_true, Bool.not_eq_true'] at hc
  obtain ⟨⟨⟨-, hin⟩, hdue⟩, hf⟩ := hc
  exact ⟨hin, hdue, hf⟩

theorem execBankRetire_eq (hl : (s.ch ch).live = true) (h : s.BankDue ch bank) :
    exec (.bankRetire ch bank) s =
      .next ((s.withdraw ch).put ch (((s.withdraw ch).ch ch).bankRetired ch s.factory.variant bank)) := by
  obtain ⟨hin, hdue, hf⟩ := h
  exact if_pos (by rw [hl, hin, hdue, hf]; rfl)

/-- Withdrawal leaves non-volatile memory as it is. -/
theorem State.withdraw_nv (s : State) (ch : Ch) : ((s.withdraw ch).ch ch).nv = (s.ch ch).nv := by
  by_cases h : (s.ch ch).running = true ∧ (s.ch ch).votes ch = true
  · exact (s.withdraw_gone h.1 h.2).1.nv
  · rw [s.withdraw_of_not (by simpa [imp_iff_not_or] using h)]

end

/-- Settles O50: a word scrubbed lane by lane, and what follows of the faults that are found. -/
theorem memoryIsRepaired : Obligations.MemoryIsRepaired := by
  unfold Obligations.MemoryIsRepaired
  refine ⟨?_, fun s ch dram h => execScrubWord_skips dram h, ?_, ?_, ?_, ?_⟩
  · intro s ch hl hp
    dsimp only
    refine ⟨fun ha h4 => ?_, ?_, fun b w hn hb => ?_⟩
    · obtain ⟨hin, hout⟩ := (s.ch ch).scrubSram_word ch s.factory.variant ha h4
      refine ⟨_, execScrubWord_sram hl hp, .put _ _ _, ?_⟩
      rw [State.put_ch]
      exact ⟨(s.ch ch).scrubSram_pos _ _, hin, hout⟩
    · refine ⟨_, execScrubWord_dram hl hp, .put _ _ _, ?_⟩
      rw [State.put_ch, Chan.scrubDram_pos]
    · refine ⟨_, execScrubWord_dram hl hp, fun k hk hbad => ?_⟩
      rw [State.put_ch]
      exact (s.ch ch).scrubDram_bad ch _ hn hb hk hbad
  · intro s ch addr lane hl
    dsimp only
    refine ⟨fun h hact => ?_, fun h hact hrun hvote => ?_, execScrubUeAction_skips⟩
    · refine ⟨_, execScrubUeAction_eq hl h, ?_⟩
      rw [hact, if_neg Bool.false_ne_true, State.put_ch]
      exact ⟨.put _ _ _, Chan.mem_ueSettled _ _⟩
    · refine ⟨_, execScrubUeAction_eq hl h, ?_⟩
      rw [Chan.ueAct_withdraws _ _ _ hact, hact, if_pos rfl]
      obtain ⟨hg, -⟩ := State.withdraw_gone (s := s.put ch ((s.ch ch).ueSettled (addr / 4 * 4, lane))) (ch := ch)
        (by rw [State.put_ch]; exact hrun) (by rw [State.put_ch]; exact hvote)
      exact ⟨hg.out, hg.high⟩
  · intro s ch page cause hl
    dsimp only
    refine ⟨fun spare hd hs hn hb => ?_, fun spare hd hs hn hb => execPageRetire_stops hd hs hn hb,
      fun hd hn hx => execPageRetire_exhausted hl hd hn hx, fun hd => execPageRetire_skips hd⟩
    obtain ⟨hdata, hnv⟩ := (s.ch ch).retirePage_kept s.factory.variant page cause spare
    refine ⟨_, execPageRetire_moves hl hd hs hn hb, .put _ _ _, ?_⟩
    rw [State.put_ch, hnv]
    refine ⟨rfl, fun k hk => ?_, hdata, fun e he hlow => ?_⟩
    · exact Nv.home_spare (s.ch ch).nv { valid := true, cause := cause, spare := spare, page := page } _ rfl hk
    · have := (List.mem_filter.mp he).2
      simpa [hlow] using this
  · intro s ch bank hl
    dsimp only
    have hnv := s.withdraw_nv ch
    refine ⟨fun hd hrun hvote => ?_, fun p hd hp => ?_, fun hd hp => ?_, fun hd => execBankRetire_skips hd⟩
    · obtain ⟨hg, -⟩ := s.withdraw_gone hrun hvote
      obtain ⟨hv, ho⟩ := ((s.withdraw ch).ch ch).bankRetired_kept ch s.factory.variant bank
      refine ⟨_, execBankRetire_eq hl hd, ?_⟩
      rw [State.put_ch, hv, ho]
      exact ⟨hg.out, hg.high⟩
    · refine ⟨_, execBankRetire_eq hl hd, ?_⟩
      rw [State.put_ch]
      simp only [Chan.bankRetired, hnv, hp]
      rw [Chan.emit_eq]
      obtain ⟨-, -, hmap⟩ := ((s.withdraw ch).ch ch).moveBank_kept ch s.factory.variant bank p
      exact hmap.trans (by rw [hnv])
    · refine ⟨_, execBankRetire_eq hl hd, ?_⟩
      rw [State.put_ch]
      simp only [Chan.bankRetired, hnv, hp]
      rw [Chan.emit_eq]
  · intro s ch addr lane hl
    refine ⟨_, congrArg Host.Outcome.next (State.onLive_eq _ hl), .put _ _ _, fun e => ?_⟩
    rw [State.put_ch]
    simp only [List.mem_filter]
    refine and_congr_right fun _ => ?_
    simp only [Bool.not_eq_true', ← Bool.not_eq_true, Bool.and_eq_true, Bool.or_eq_true, beq_iff_eq, bne_iff_ne,
      decide_eq_true_eq, and_assoc]

end Sys2Proof.Machine

/-! PROOFS. DMA descriptors (spec/12 R319, R321, R324, R327, R335, spec/03 R78): pieces carried out one after another, and what
stops them. -/

namespace Sys2Proof.Machine

open Sys2Proof

/-! ### What a descriptor keeps while it is carried out -/

section

variable (c : Chan) (me : Ch) (v : Variant) (e : Nat) (d : Descriptor) (p : Piece)

theorem Mem.countCe_dma (m : Mem) (a : Nat) : (m.countCe a).dma = m.dma := by
  unfold Mem.countCe
  split <;> rfl

theorem Chan.countSram_dma (a : Nat) : (c.countSram a).mem.dma = c.mem.dma := by
  unfold Chan.countSram
  dsimp only
  split <;> rfl

theorem Chan.noteCorrected_dma (r : Reader) (a : Nat) : (c.noteCorrected v r a).mem.dma = c.mem.dma := by
  unfold Chan.noteCorrected
  dsimp only
  split
  · rw [Chan.logCorrection_mem]
    rfl
  · split
    · exact Chan.countSram_dma _ _
    · rfl

theorem Chan.corrected_lanes (r : Reader) (a : Nat) : c.SameLanes (c.corrected v r a) :=
  (c.countCe_lanes a).trans ⟨(Chan.noteCorrected_kept _ v a r).1, Chan.noteCorrected_cells _ v r a⟩

/-- The correctable lanes of a piece are counted; its lanes and the engines stay. -/
theorem Chan.correctedIn_lanes : c.SameLanes (c.correctedIn me v e p) where
  kept := foldl_view (g := fun (c : Chan) => c.kept) (fun c _ => (c.corrected_lanes v _ _).kept) _ c
  cells := c.correctedIn_cells me v e p

theorem Chan.correctedIn_dma : (c.correctedIn me v e p).mem.dma = c.mem.dma :=
  foldl_view (g := fun (c : Chan) => c.mem.dma) (fun c _ => (Chan.noteCorrected_dma _ v _ _).trans (c.mem.countCe_dma _)) _ c

theorem Chan.zeroRange_dma (lo len : Nat) : (c.zeroRange me v lo len).mem.dma = c.mem.dma := by
  unfold Chan.zeroRange
  split <;> rfl

theorem Chan.copyRange_dma (src dst len : Nat) : (c.copyRange me v src dst len).mem.dma = c.mem.dma := by
  unfold Chan.copyRange
  split <;> rfl

/-- A channel as a piece's source leaves it: read, its correctable lanes counted; nothing for a FILL. -/
def Chan.sourceRead : Chan := if d.fill then c else c.correctedIn me v e p

/-- The marks of the slots that a piece is written into, cleared. -/
def Chan.slotsUnmarked : Chan :=
  if inTileStore p.dst then { c with tiles := c.tiles.unmarkRange p.dst p.len } else c

theorem Chan.sourceRead_lanes : c.SameLanes (c.sourceRead me v e d p) := by
  unfold Chan.sourceRead
  split
  · exact .refl c
  · exact c.correctedIn_lanes me v e p

theorem Chan.sourceRead_dma : (c.sourceRead me v e d p).mem.dma = c.mem.dma := by
  unfold Chan.sourceRead
  split
  · rfl
  · exact c.correctedIn_dma me v e p

theorem Chan.slotsUnmarked_lanes : c.SameLanes (c.slotsUnmarked p) := by
  unfold Chan.slotsUnmarked
  split
  · exact ⟨rfl, rfl⟩
  · exact .refl c

theorem Chan.slotsUnmarked_mem : (c.slotsUnmarked p).mem = c.mem := by
  unfold Chan.slotsUnmarked
  split <;> rfl

theorem Chan.carryPiece_eq :
    c.carryPiece me v e d p =
      if inTileStore p.dst && !mayWriteTiles (.dma e) then (c.sourceRead me v e d p).protectionFault p.dst
      else if d.fill then
        ((c.sourceRead me v e d p).slotsUnmarked p).zeroRange me v (((c.sourceRead me v e d p).slotsUnmarked p).homeOf p.dst) p.len
      else
        ((c.sourceRead me v e d p).slotsUnmarked p).copyRange me v (((c.sourceRead me v e d p).slotsUnmarked p).homeOf p.src)
          (((c.sourceRead me v e d p).slotsUnmarked p).homeOf p.dst) p.len := rfl

theorem Chan.carryPiece_dma : (c.carryPiece me v e d p).mem.dma = c.mem.dma := by
  rw [Chan.carryPiece_eq]
  split
  · rw [Chan.protectionFault, Chan.emit_mem, Chan.sourceRead_dma]
  · split
    · rw [Chan.zeroRange_dma, Chan.slotsUnmarked_mem, Chan.sourceRead_dma]
    · rw [Chan.copyRange_dma, Chan.slotsUnmarked_mem, Chan.sourceRead_dma]

end

theorem Chan.carryFrom_dma (me : Ch) (v : Variant) (e : Nat) (d : Descriptor) (n k : Nat) (c : Chan) :
    (Chan.carryFrom me v e d n k c).1.mem.dma = c.mem.dma := by
  induction n generalizing k c with
  | zero => rfl
  | succ n ih =>
    unfold Chan.carryFrom
    split
    · rfl
    · split
      · rfl
      · split
        · exact c.carryPiece_dma me v e d _
        · rw [ih, Chan.carryPiece_dma]

theorem Chan.homeOf_of_kept {c d : Chan} (h : d.kept = c.kept) (a : Nat) : d.homeOf a = c.homeOf a := by
  have ht : d.translates = c.translates := (congrArg (fun (x : Chan) => x.translates) h :)
  rw [Chan.homeOf, Chan.homeOf, ht, Chan.home_of_kept h]

/-- A piece that is let into its destination moves or fills it, and nothing else. -/
theorem Chan.carryPiece_lanes (c : Chan) (me : Ch) (v : Variant) {e : Nat} (d : Descriptor) {p : Piece}
    (h : inTileStore p.dst = false ∨ e = 0) (a : Nat) :
    (c.carryPiece me v e d p).byteAt me v a =
        (if c.homeOf p.dst ≤ a ∧ a < c.homeOf p.dst + p.len then
          if d.fill then 0 else c.byteAt me v (c.homeOf p.src + (a - c.homeOf p.dst))
        else c.byteAt me v a) ∧
      (c.carryPiece me v e d p).mem.diff a =
        (if c.homeOf p.dst ≤ a ∧ a < c.homeOf p.dst + p.len then 0 else c.mem.diff a) := by
  have hl := (c.sourceRead_lanes me v e d p).trans (Chan.slotsUnmarked_lanes _ p)
  have hpass : ¬ (inTileStore p.dst && !mayWriteTiles (.dma e)) = true := by
    rcases h with h | rfl
    · simp [h]
    · simp [mayWriteTiles]
  rw [Chan.carryPiece_eq, if_neg hpass]
  cases d.fill with
  | true =>
    obtain ⟨hb, hd⟩ := ((c.sourceRead me v e d p).slotsUnmarked p).zeroRange_lanes me v
      (((c.sourceRead me v e d p).slotsUnmarked p).homeOf p.dst) p.len a
    rw [Chan.homeOf_of_kept hl.kept, hl.byteAt] at hb
    rw [Chan.homeOf_of_kept hl.kept, hl.diff] at hd
    rw [Chan.homeOf_of_kept hl.kept]
    exact ⟨hb, hd⟩
  | false =>
    obtain ⟨hb, hd⟩ := ((c.sourceRead me v e d p).slotsUnmarked p).copyRange_lanes me v
      (((c.sourceRead me v e d p).slotsUnmarked p).homeOf p.src) (((c.sourceRead me v e d p).slotsUnmarked p).homeOf p.dst) p.len a
    rw [Chan.homeOf_of_kept hl.kept, Chan.homeOf_of_kept hl.kept, hl.byteAt, hl.byteAt] at hb
    rw [Chan.homeOf_of_kept hl.kept, Chan.homeOf_of_kept hl.kept, hl.diff] at hd
    rw [Chan.homeOf_of_kept hl.kept, Chan.homeOf_of_kept hl.kept]
    exact ⟨hb, hd⟩

/-! ### A descriptor that completes -/

theorem Chan.markRegions_kept (c : Chan) (new : List Nat) :
    ({ c with mem := c.mem.markRegions new } : Chan).kept = c.kept ∧ (c.mem.markRegions new).dma = c.mem.dma := by
  simp only [Chan.kept, Mem.markRegions, and_self]

theorem Chan.checkContext_kept (c : Chan) (e : Nat) (bs : List Byte) :
    (c.checkContext e bs).kept = c.kept ∧ (c.checkContext e bs).mem.dma = c.mem.dma := ⟨rfl, rfl⟩

section

variable (before c : Chan) (me : Ch) (v : Variant) (e : Nat) (d : Descriptor)

theorem Chan.completeDma_kept : (before.completeDma c me v e d).kept = c.kept ∧
    (before.completeDma c me v e d).mem.dma =
      modAt c.mem.dma e (fun (q : Dma) => { (default : Dma) with space := d.space, queue := q.queue }) := by
  unfold Chan.completeDma
  extract_lets c1 c2
  have h1 : c1.kept = c.kept ∧ c1.mem.dma = c.mem.dma := by
    unfold c1
    split
    · exact c.markRegions_kept _
    · exact ⟨rfl, rfl⟩
  have h2 : c2.kept = c1.kept ∧ c2.mem.dma = c1.mem.dma := by
    unfold c2
    split
    · exact c1.checkContext_kept e _
    · exact ⟨rfl, rfl⟩
  exact ⟨h2.1.trans h1.1, congrArg
    (fun l => modAt l e (fun (q : Dma) => { (default : Dma) with space := d.space, queue := q.queue })) (h2.2.trans h1.2)⟩

theorem Chan.completeDma_lanes : c.SameLanes (before.completeDma c me v e d) :=
  ⟨(before.completeDma_kept c me v e d).1, before.completeDma_cells c me v e d⟩

end

/-- A descriptor of one piece is carried out with that piece. -/
theorem Chan.carryFrom_one (c : Chan) (me : Ch) (v : Variant) (e : Nat) {d : Descriptor} (n : Nat) {p : Piece} (hd : 1 ≤ d.len)
    (hp : c.pieceAt me v d 0 = .ok p) (hlen : p.len = d.len) (hlost : d.fill = false → c.lostIn me v p = none) :
    Chan.carryFrom me v e d (n + 2) 0 c = (c.carryPiece me v e d p, none) := by
  have hl : (if d.fill then none else c.lostIn me v p) = none := by
    cases hf : d.fill with
    | true => rfl
    | false => exact hlost hf
  rw [Chan.carryFrom, if_neg (by omega)]
  simp only [hp, hl]
  rw [Chan.carryFrom, if_pos (by omega)]

/-! ### An engine that runs -/

section

variable {s : State} {ch : Ch} {e : Nat} {d : Descriptor} {start : Nat}

/-- The way a descriptor takes from an offset on. -/
def State.way (s : State) (ch : Ch) (e : Nat) (d : Descriptor) (start : Nat) : Chan × Option (Nat × Halt) :=
  Chan.carryFrom ch s.factory.variant e d ((s.ch ch).pieceFuel d) start (s.ch ch)

theorem State.runDma_completes (h : (s.way ch e d start).2 = none) :
    s.runDma ch e d start = s.put ch ((s.ch ch).completeDma (s.way ch e d start).1 ch s.factory.variant e d) := by
  unfold State.way at h ⊢
  unfold State.runDma
  dsimp only
  split
  · next c' hc => rw [hc]
  · next c' k hh hc =>
    rw [hc] at h
    cases h

/-- A channel whose engine stops in a descriptor at an offset. -/
def Chan.dmaStopped (before c : Chan) (me : Ch) (v : Variant) (e : Nat) (d : Descriptor) (k cause : Nat) : Chan :=
  let c := if before.checksGeneral me v d then c.checkContext e [] else c
  Chan.stopDma { c with mem := { c.mem with dma := modAt c.mem.dma e (fun (q : Dma) => { q with space := d.space, desc := some d }) } }
    e cause (restartOffset (some d) k)

theorem State.runDma_stops {k : Nat} {h : Halt} (hw : (s.way ch e d start).2 = some (k, h)) :
    s.runDma ch e d start =
      (s.put ch ((s.ch ch).dmaStopped (s.way ch e d start).1 ch s.factory.variant e d k h.cause)).halted ch (.dma e) h := by
  unfold State.way at hw ⊢
  unfold State.runDma
  dsimp only
  split
  · next c' hc =>
    rw [hc] at hw
    cases hw
  · next c' k' h' hc =>
    rw [hc] at hw
    cases hw
    rw [hc]
    rfl

theorem Chan.dmaStopped_engine (before c : Chan) (me : Ch) (v : Variant) (d : Descriptor) (k cause : Nat)
    (he : e < c.mem.dma.length) :
    (before.dmaStopped c me v e d k cause).engine e =
      { c.engine e with
        space := d.space, desc := some d, busy := true, stopped := true, cause := cause, offset := restartOffset (some d) k } := by
  unfold Chan.dmaStopped
  extract_lets c1
  have h1 : c1.mem.dma = c.mem.dma := by
    unfold c1
    split <;> rfl
  rw [Chan.stopDma_engine]
  · show ({ (modAt c1.mem.dma e _).getD e default with
      busy := true, stopped := true, cause := cause, offset := restartOffset (some d) k } : Dma) = _
    rw [modAt_getD_self _ _ (by rw [h1]; exact he), h1]
    rfl
  · show e < (modAt c1.mem.dma e _).length
    rw [modAt_length, h1]
    exact he

/-- A descriptor that completes leaves its engine free, with what waits for it. -/
theorem State.runDma_engine (h : (s.way ch e d start).2 = none) (he : e < (s.ch ch).mem.dma.length) :
    ((s.runDma ch e d start).ch ch).engine e =
      { (default : Dma) with space := d.space, queue := ((s.ch ch).engine e).queue } := by
  rw [State.runDma_completes h, State.put_ch, Chan.engine, (Chan.completeDma_kept _ _ _ _ _ _).2, State.way, Chan.carryFrom_dma,
    modAt_getD_self _ _ he]
  rfl

theorem State.runDma_engine_ne (h : (s.way ch e d start).2 = none) {k : Nat} (hk : k ≠ e) :
    ((s.runDma ch e d start).ch ch).engine k = (s.ch ch).engine k := by
  rw [State.runDma_completes h, State.put_ch, Chan.engine, (Chan.completeDma_kept _ _ _ _ _ _).2, State.way, Chan.carryFrom_dma,
    Chan.engine]
  exact modAt_getD_ne _ _ _ hk

/-! ### The rows -/

theorem execDmaDescriptor_skips (h : 4 ≤ e ∨ descOk d = false) : exec (.dmaDescriptor ch e d) s = .next s := by
  refine if_pos ?_
  rcases h with h | h <;> simp [h]

theorem execDmaStop_skips (h : 4 ≤ e ∨ ((s.ch ch).engine e).stopped = false) : exec (.dmaStop ch e) s = .next s := by
  refine if_neg ?_
  rcases h with h | h
  · simp [Nat.not_lt.mpr h]
  · simp [h]

/-- A channel whose stopped engine has been told to resume. -/
def Chan.resumed (c : Chan) (e : Nat) : Chan :=
  { c with mem := { c.mem with dma := modAt c.mem.dma e (fun q => { (default : Dma) with space := q.space, queue := q.queue }) } }

section

variable (hl : (s.ch ch).live = true) (he : e < 4)

include hl he

theorem execDmaDescriptor_runs (hd : descOk d = true) (hs : ((s.ch ch).engine e).stopped = false) :
    exec (.dmaDescriptor ch e d) s = .next (s.runDma ch e d 0) :=
  (if_neg (by simp [hl, hd, he])).trans (if_neg (by simp [hs]))

theorem execDmaDescriptor_waits (hd : descOk d = true) (hs : ((s.ch ch).engine e).stopped = true) :
    exec (.dmaDescriptor ch e d) s = .next (s.mod ch (fun c =>
      { c with mem := { c.mem with dma := modAt c.mem.dma e (fun (q : Dma) => { q with queue := q.queue ++ [d] }) } })) :=
  (if_neg (by simp [hl, hd, he])).trans (if_pos hs)

/-- An engine without a queue resumes what it stopped in, and no more. -/
theorem execDmaStop_resumes (hs : ((s.ch ch).engine e).stopped = true) (hq : ((s.ch ch).engine e).queue = []) :
    (((s.ch ch).engine e).desc = none → exec (.dmaStop ch e) s = .next (s.put ch ((s.ch ch).resumed e))) ∧
    (∀ r, ((s.ch ch).engine e).desc = some r →
      exec (.dmaStop ch e) s =
        .next ((s.put ch ((s.ch ch).resumed e)).runDma ch e r ((s.ch ch).engine e).offset)) := by
  have hgo : ((s.ch ch).live && decide (e < 4) && ((s.ch ch).engine e).stopped) = true := by simp [hl, he, hs]
  have hnone (t : State) : State.runQueue ch e ((s.ch ch).engine e).queue.length t = t := by
    rw [hq]
    rfl
  constructor
  · intro hd
    refine (if_pos hgo).trans ?_
    rw [hnone, hd]
    rfl
  · intro r hd
    refine (if_pos hgo).trans ?_
    rw [hnone, hd]
    rfl

end

end

/-- Settles O48: a descriptor goes its way piece by piece, and its engine is told by where the way ends. -/
theorem dmaMovesWhatItIsTold : Obligations.DmaMovesWhatItIsTold := by
  unfold Obligations.DmaMovesWhatItIsTold
  refine ⟨?_, ?_⟩
  · intro s ch e d hl he hd hdma hs
    dsimp only
    have hx := execDmaDescriptor_runs hl he hd hs
    have hlen : e < (s.ch ch).mem.dma.length := by rw [hdma]; exact he
    have hd1 : 1 ≤ d.len := by
      simp only [descOk, Bool.and_eq_true, decide_eq_true_eq] at hd
      exact hd.1.1
    refine ⟨fun hw => ?_, fun p hp hplen hlost hst => ?_, fun k h hw hpo hc => ?_, fun k h hw hc => ?_⟩
    · have heng := State.runDma_engine (s := s) (d := d) (start := 0) hw hlen
      refine ⟨_, hx, ?_, by rw [heng]; rfl, by rw [heng]; rfl, by rw [heng], fun k hk => State.runDma_engine_ne hw hk⟩
      rw [State.runDma_completes hw]
      exact .put _ _ _
    · have hone : s.way ch e d 0 = ((s.ch ch).carryPiece ch s.factory.variant e d p, none) :=
        (s.ch ch).carryFrom_one ch s.factory.variant e (2 * (d.len / (s.ch ch).grain) + 2) hd1 hp hplen hlost
      have hlanes := (s.ch ch).completeDma_lanes ((s.ch ch).carryPiece ch s.factory.variant e d p) ch s.factory.variant e d
      refine ⟨_, hx, ?_⟩
      rw [State.runDma_completes (by rw [hone]), State.put_ch, hone]
      refine ⟨fun k hk => ?_, fun a ha => ?_⟩
      · obtain ⟨hb, hdf⟩ := (s.ch ch).carryPiece_lanes ch s.factory.variant d hst ((s.ch ch).homeOf p.dst + k)
        rw [if_pos ⟨Nat.le_add_right _ _, by omega⟩] at hb hdf
        rw [Nat.add_sub_cancel_left] at hb
        rw [hlanes.byteAt, hlanes.diff]
        exact ⟨hb, hdf⟩
      · obtain ⟨hb, hdf⟩ := (s.ch ch).carryPiece_lanes ch s.factory.variant d hst a
        rw [if_neg (by omega)] at hb hdf
        rw [hlanes.byteAt, hlanes.diff]
        exact ⟨hb, hdf⟩
    · have hway : e < (s.way ch e d 0).1.mem.dma.length := by rw [State.way, Chan.carryFrom_dma]; exact hlen
      have heng := (s.ch ch).dmaStopped_engine (s.way ch e d 0).1 ch s.factory.variant d k h.cause hway
      obtain ⟨honly, hrd⟩ := State.halted_kept (s := s.put ch ((s.ch ch).dmaStopped (s.way ch e d 0).1 ch s.factory.variant
        e d k h.cause)) (ch := ch) (r := .dma e) hc hpo
      refine ⟨_, hx, ?_⟩
      rw [State.runDma_stops hw, Chan.engine_of_readers hrd, State.put_ch, heng]
      exact ⟨.trans (.put _ _ _) honly, rfl, rfl, rfl, rfl⟩
    · refine ⟨_, hx, ?_⟩
      rw [State.runDma_stops hw, State.halted_eq, if_pos (by rw [hc]; rfl), State.trapped_mem]
  · intro s ch e d hl
    dsimp only
    refine ⟨execDmaDescriptor_skips, fun he hd hdma hs => ?_, execDmaStop_skips, fun he hdma hs hq hdesc => ?_,
      fun r he hdma hs hq hdesc hw => ?_⟩
    · refine ⟨_, execDmaDescriptor_waits hl he hd hs, .mod _ _ _, ?_⟩
      rw [State.mod_ch]
      exact modAt_getD_self _ _ (by rw [hdma]; exact he)
    · refine ⟨_, (execDmaStop_resumes hl he hs hq).1 hdesc, .put _ _ _, ?_⟩
      rw [State.put_ch]
      exact congrArg (fun (q : Dma) => q.stopped) (modAt_getD_self _ _ (by rw [hdma]; exact he))
    · have hway : ((s.put ch ((s.ch ch).resumed e)).way ch e r ((s.ch ch).engine e).offset).2 = none := by
        rw [State.way, State.put_ch]
        exact hw
      have heng := State.runDma_engine hway (by
        rw [State.put_ch, Chan.resumed, modAt_length, hdma]
        exact he)
      refine ⟨_, (execDmaStop_resumes hl he hs hq).2 r hdesc, ?_, by rw [heng]; rfl, by rw [heng]; rfl⟩
      rw [State.runDma_completes hway]
      exact .trans (.put _ _ _) (.put _ _ _)

end Sys2Proof.Machine

/-! PROOFS. The timers of routes (spec/04 R97, R99, R104, R107, R109, R110, R112): what a route keeps when its time is up. -/

namespace Sys2Proof.Machine

open Sys2Proof

/-! ### Steps of a pass that leave routes and reservations alone -/

/-- The resolver of a pass beside its elements, what is held beside route records, and what it sends. -/
def Pass.routes (p : Pass) : Resolver := { p.res with estate := [], aux := [], asks := [], restart := false }

theorem foldl_routes {α : Type} {f : Pass → α → Pass} (hf : ∀ p a, (f p a).routes = p.routes) (l : List α) (p : Pass) :
    (l.foldl f p).routes = p.routes := by
  induction l generalizing p with
  | nil => rfl
  | cons a l ih => exact (ih _).trans (hf p a)

section

variable (p : Pass) (x : PassCtx) (r : Nat)

theorem Pass.setSignal_routes (detail : Byte) : (p.setSignal x r detail).routes = p.routes := by
  unfold Pass.setSignal
  split
  · split <;> rfl
  · rfl

theorem Pass.lower_routes (id : Nat) : (p.lower x id).routes = p.routes := by
  unfold Pass.lower
  split <;> rfl

theorem Pass.releaseFlanks_routes (f : Nat → Bool) : (p.releaseFlanks x r f).routes = p.routes :=
  foldl_routes (f := fun p (k : Nat × Nat) => p.lower x k.1) (fun p k => p.lower_routes x k.1)
    ((p.aux r).flanks.filter (fun k => f k.2)) p

theorem Pass.freeRestart_routes (id : Nat) : (p.freeRestart x id).routes = p.routes := by
  unfold Pass.freeRestart
  dsimp only
  split <;> rfl

/-! ### A route that returns to RELEASED -/

theorem Pass.setRoute_route_self {p : Pass} {r : Nat} (f : RRec → RRec) (h : r < p.res.rstate.length) :
    (p.setRoute r f).route r = f (p.route r) := modAt_getD_self f _ h

theorem Pass.setRoute_length (f : RRec → RRec) : (p.setRoute r f).res.rstate.length = p.res.rstate.length := modAt_length _ _ _

/-- A pass before a route's record is set: its elements, flanks and reservations given back. -/
def Pass.givenBack : Pass :=
  let st := (p.route r).state
  let p := if st == 0x66 || st == 0x77 then p.setSignal x r 0 else p
  let p := { p with res := p.res.disown (x.rid r) }
  (p.releaseFlanks x r (fun _ => true)).unreserveAll x (x.rid r)

theorem Pass.unreserveAll_eq (rid : Nat) : (p.unreserveAll x rid).res.rstate = p.res.rstate ∧
    (p.unreserveAll x rid).res.outRsv = p.res.outRsv.filter (fun v => v.route != rid) := ⟨rfl, rfl⟩

theorem Pass.givenBack_routes : (p.givenBack x r).res.rstate = p.res.rstate ∧
    (p.givenBack x r).res.outRsv = p.res.outRsv.filter (fun v => v.route != x.rid r) := by
  unfold Pass.givenBack
  extract_lets st p1 p2
  have h1 : p1.routes = p.routes := by
    unfold p1
    split
    · exact p.setSignal_routes x r 0
    · rfl
  have h2 : (p2.releaseFlanks x r (fun _ => true)).routes = p.routes := (p2.releaseFlanks_routes x r _).trans h1
  obtain ⟨hr, ho⟩ := (p2.releaseFlanks x r (fun _ => true)).unreserveAll_eq x (x.rid r)
  rw [hr, ho]
  exact ⟨(congrArg (fun (v : Resolver) => v.rstate) h2 :),
    congrArg (List.filter (fun (v : OutRsv) => v.route != x.rid r)) (congrArg (fun (v : Resolver) => v.outRsv) h2 :)⟩

/-- A route that stands RELEASED and holds no reservation. -/
structure Pass.Freed : Prop where
  route : p.res.rstate.getD r RRec.released = RRec.released
  rsv : ∀ v ∈ p.res.outRsv, v.route ≠ x.rid r

theorem Pass.toReleased_eq (why elem : Nat) :
    p.toReleased x r why elem =
      let q := ((((p.givenBack x r).become x r 0).setRoute r (fun _ => RRec.released)).setAux r
        (fun a => { (default : RouteAux) with lastReject := a.lastReject }))
      if why == 0 then q else q.reason r why (x.rid r) elem := rfl

theorem Pass.become_length (code : Byte) : (p.become x r code).res.rstate.length = p.res.rstate.length := modAt_length _ _ _

/-- The record of a route set to RELEASED. -/
def Pass.recordFreed : Pass :=
  (((p.become x r 0).setRoute r (fun _ => RRec.released)).setAux r
    (fun a => { (default : RouteAux) with lastReject := a.lastReject }))

variable {p x r}

theorem Pass.recordFreed_freed (h : r < p.res.rstate.length) (ho : ∀ v ∈ p.res.outRsv, v.route ≠ x.rid r) :
    (p.recordFreed x r).Freed x r where
  route := Pass.setRoute_route_self (p := p.become x r 0) _ (by rw [Pass.become_length]; exact h)
  rsv := ho

theorem Pass.Freed.of_routes {q : Pass} (h : p.Freed x r) (hr : q.routes = p.routes) : q.Freed x r where
  route := by
    rw [show q.res.rstate = p.res.rstate from (congrArg (fun (v : Resolver) => v.rstate) hr :)]
    exact h.route
  rsv := by
    rw [show q.res.outRsv = p.res.outRsv from (congrArg (fun (v : Resolver) => v.outRsv) hr :)]
    exact h.rsv

theorem Pass.toReleased_freed (h : r < p.res.rstate.length) (why elem : Nat) : (p.toReleased x r why elem).Freed x r := by
  obtain ⟨hr, ho⟩ := p.givenBack_routes x r
  have hf : ((p.givenBack x r).recordFreed x r).Freed x r := by
    refine Pass.recordFreed_freed (by rw [hr]; exact h) fun v hv => ?_
    rw [ho] at hv
    simpa using (List.mem_filter.mp hv).2
  rw [Pass.toReleased_eq]
  show Pass.Freed (if why == 0 then (p.givenBack x r).recordFreed x r
    else ((p.givenBack x r).recordFreed x r).reason r why (x.rid r) elem) x r
  split
  · exact hf
  · exact ⟨hf.route, hf.rsv⟩

theorem Pass.toReleased_reason (p : Pass) (x : PassCtx) (r : Nat) {why : Nat} (hw : why ≠ 0) (elem : Nat) :
    (p.toReleased x r why elem).res.lastReject = { reason := why, target := x.rid r } := by
  rw [Pass.toReleased_eq]
  dsimp only
  rw [if_neg (by simpa using hw)]
  rfl

theorem Pass.posTimeout_eq (p : Pass) (x : PassCtx) (snap : Pass) (r : Nat) :
    p.posTimeout x snap r =
      ((snap.undetected x r).foldl (fun p id => p.note .posTimeout id [w32 (x.rid r)]) p).toReleased x r 8
        ((snap.undetected x r).headD 0) := rfl

theorem Pass.posTimeout_freed (snap : Pass) (h : r < p.res.rstate.length) :
    (p.posTimeout x snap r).Freed x r ∧ (p.posTimeout x snap r).res.lastReject = { reason := 8, target := x.rid r } := by
  have hn := foldl_routes (f := fun (p : Pass) id => p.note .posTimeout id [w32 (x.rid r)]) (fun p id => rfl) (snap.undetected x r) p
  rw [Pass.posTimeout_eq]
  refine ⟨Pass.toReleased_freed ?_ _ _, Pass.toReleased_reason _ _ _ (by decide) _⟩
  rw [show (List.foldl _ p (snap.undetected x r)).res.rstate = p.res.rstate from
    (congrArg (fun (v : Resolver) => v.rstate) hn :)]
  exact h

/-- A restart-held route is released as any other; its points and the restart state follow. -/
theorem Pass.endHeld_freed (h : r < p.res.rstate.length) : (p.endHeld x r).Freed x r := by
  have hf := foldl_routes (fun p id => p.freeRestart_routes x id) (x.pointsOf r) (p.toReleased x r 0 0)
  unfold Pass.endHeld
  dsimp only
  split
  · exact (Pass.toReleased_freed h 0 0).of_routes (Eq.trans (by rfl) hf)
  · exact (Pass.toReleased_freed h 0 0).of_routes hf

end

/-! ### Expiries -/

section

variable (p : Pass) (x : PassCtx) (snap : Pass) (r : Nat)

/-- A route of an emergency release is released when its time is up. -/
theorem Pass.evalRoute_emergency (hh : (p.aux r).restartHeld = false) (hk : (p.route r).tkind = 4) (ht : (p.route r).timer = 0)
    (hs : emergencyStates.contains (p.route r).state = true) :
    p.evalRoute x snap r = (p.toReleased x r 0 0).note .emergencyExpiry (x.rid r) [] := by
  unfold Pass.evalRoute
  dsimp only
  rw [if_neg (by rw [hh]; exact Bool.false_ne_true), if_pos (by rw [hk, ht, hs]; rfl)]

/-- A restart-held route is released when its time is up. -/
theorem Pass.evalRoute_held (hh : (p.aux r).restartHeld = true) (hk : (p.route r).tkind = 1) (ht : (p.route r).timer = 0) :
    p.evalRoute x snap r = p.endHeld x r := by
  unfold Pass.evalRoute
  dsimp only
  rw [if_pos hh, if_pos (by rw [hk, ht]; rfl)]

/-- An approach-locked route without a train is released when its time is up. -/
theorem Pass.evalRoute_approach (hh : (p.aux r).restartHeld = false) (hs : (p.route r).state = 0x77) (hk : (p.route r).tkind = 1)
    (ht : (p.route r).timer = 0) (htr : snap.trainIn x r = false) : p.evalRoute x snap r = p.toReleased x r 0 0 := by
  unfold Pass.evalRoute Pass.evalApproach
  simp [hh, hs, hk, ht, htr]

/-- An element of an overlap given back where it is held for it. -/
def Pass.giveOverlap (p : Pass) (e : LEntry) : Pass :=
  if x.own e.elem && (p.elem e.elem).okind == 2 && (p.elem e.elem).owner == x.rid r then p.setElem e.elem unown else p

/-- A pass with the elements and reservations of a route's overlap given back. -/
def Pass.overlapGiven : Pass :=
  ((x.selected p r).foldl (Pass.giveOverlap x r) p).unreserve x (x.rid r) (fun ws => ws.filter (fun w => (lentry w).role == 2))

theorem Pass.releaseOverlap_eq :
    p.releaseOverlap x r = (p.overlapGiven x r).setRoute r (fun q =>
      { q with ovl := 0x1FFF, timer := if q.tkind == 2 then 0 else q.timer, tkind := if q.tkind == 2 then 0 else q.tkind }) := rfl

theorem Pass.overlapGiven_rstate : (p.overlapGiven x r).res.rstate = p.res.rstate := by
  have hg (p : Pass) (e : LEntry) : (Pass.giveOverlap x r p e).routes = p.routes := by
    unfold Pass.giveOverlap
    split <;> rfl
  exact (congrArg (fun (v : Resolver) => v.rstate) (foldl_routes hg (x.selected p r) p) :)

/-- The record of a route whose overlap is released at the end of its timer. -/
theorem Pass.releaseOverlap_route (h : r < p.res.rstate.length) (hk : (p.route r).tkind = 2) (ht : (p.route r).timer = 0) :
    (p.releaseOverlap x r).route r = { p.route r with tkind := 0, ovl := 0x1FFF } := by
  have hr := p.overlapGiven_rstate x r
  have hroute : (p.overlapGiven x r).route r = p.route r := by rw [Pass.route, hr, Pass.route]
  rw [Pass.releaseOverlap_eq, Pass.setRoute_route_self _ (by rw [hr]; exact h), hroute, hk, ← ht]
  rfl

theorem Pass.overlapTimer_ends (ho : (p.route r).ovl ≠ 0x1FFF) (hk : (p.route r).tkind = 2) (ht : (p.route r).timer = 0) :
    p.overlapTimer x snap r =
      if (x.selected p r).all (fun e => !snap.occupied x (x.rid r) e) then p.releaseOverlap x r else p := by
  unfold Pass.overlapTimer
  dsimp only
  rw [if_neg (by simpa using ho), if_pos (by rw [hk, ht]; rfl)]

end

theorem Chan.record_res (c : Chan) (log : List (EvName × Nat × List Word)) : (c.record log).res = c.res := by
  have hstep (c : Chan) (e : EvName × Nat × List Word) : (c.emitTask 1 e.1 e.2.1 e.2.2).res = c.res := by
    rw [Chan.emitTask_eq]
  exact foldl_view (g := fun (c : Chan) => c.res) hstep log c

/-! ### A timer's expiry in the pass under way -/

/-- A channel in a T1 run without requests, with an own route whose record its pass keeps but for the timer. -/
structure Chan.Passing (c : Chan) (me : Ch) (v : Variant) (g : Image) (route r : Nat) : Prop where
  vital : c.vital me = true
  image : c.image = some g
  run : c.inRun 1 = true
  quiet : (c.passCtx me v g).im.requests = []
  own : (c.passCtx me v g).ownRoute route = some r

/-- The pass that an expiry starts from: the state before the pass, with the route's timer as it stands after the timers. -/
def Chan.expiryPass (c : Chan) (x : PassCtx) (r : Nat) : Pass :=
  ({ res := c.res, log := [] } : Pass).setRoute r (fun q => { q with timer := ((c.passFront x).route r).timer })

section

variable {c : Chan} {me : Ch} {v : Variant} {g : Image} {route r : Nat} (due : PassCtx → Pass → Nat → Bool)
  (f : PassCtx → Pass → Pass → Nat → Pass)

theorem Chan.expire_due (h : c.Passing me v g route r)
    (hd : due (c.passCtx me v g) (c.passFront (c.passCtx me v g)) r = true) :
    c.expire me v route due f =
      ({ c with res := (f (c.passCtx me v g) (c.passFront (c.passCtx me v g)) (c.expiryPass (c.passCtx me v g) r) r).res } :
        Chan).record (f (c.passCtx me v g) (c.passFront (c.passCtx me v g)) (c.expiryPass (c.passCtx me v g) r) r).log := by
  obtain ⟨hv, hi, hr, hq, ho⟩ := h
  have hquiet : c.quietPass (c.passCtx me v g) = some (c.passFront (c.passCtx me v g)) := if_pos (by rw [hr, hq]; rfl)
  unfold Chan.expire
  simp only [hi, hquiet, ho, hv]
  exact if_pos hd

/-- A timer whose time is not up does nothing. -/
theorem Chan.expire_not (hi : c.image = some g) (ho : (c.passCtx me v g).ownRoute route = some r)
    (hd : due (c.passCtx me v g) (c.passFront (c.passCtx me v g)) r = false) : c.expire me v route due f = c := by
  unfold Chan.expire
  simp only [hi]
  split
  · next snap r' hs hr hv =>
    have hsnap : snap = c.passFront (c.passCtx me v g) := by
      unfold Chan.quietPass at hs
      split at hs
      · exact (Option.some.inj hs).symm
      · cases hs
    have hr' : r' = r := Option.some.inj (hr.symm.trans ho)
    rw [if_neg]
    rw [hsnap, hr', hd]
    exact Bool.false_ne_true
  · rfl

end

/-! ### The rows -/

section

variable {s : State} {ch : Ch} {route r : Nat} {g : Image}

/-- An expiry whose time is up leaves the resolver as its part of the pass does. -/
theorem State.expire_due (hl : (s.ch ch).live = true) (h : (s.ch ch).Passing ch s.factory.variant g route r)
    (due : PassCtx → Pass → Nat → Bool) (f : PassCtx → Pass → Pass → Nat → Pass) {x : PassCtx}
    (hx : x = (s.ch ch).passCtx ch s.factory.variant g) (hd : due x ((s.ch ch).passFront x) r = true) :
    ∃ t, s.onLive ch (fun c => c.expire ch s.factory.variant route due f) = t ∧ s.OnlyAt t ch ∧
      (t.ch ch).res = (f x ((s.ch ch).passFront x) ((s.ch ch).expiryPass x r) r).res := by
  subst hx
  refine ⟨_, rfl, .onLive _ _ _, ?_⟩
  rw [State.onLive_eq _ hl, State.put_ch, Chan.expire_due due f h hd, Chan.record_res]

/-- What a row leaves of a route whose timer frees it. -/
theorem State.expire_frees (hl : (s.ch ch).live = true) (h : (s.ch ch).Passing ch s.factory.variant g route r)
    (due : PassCtx → Pass → Nat → Bool) (f : PassCtx → Pass → Pass → Nat → Pass) {x : PassCtx}
    (hx : x = (s.ch ch).passCtx ch s.factory.variant g) (hd : due x ((s.ch ch).passFront x) r = true)
    (hf : (f x ((s.ch ch).passFront x) ((s.ch ch).expiryPass x r) r).Freed x r) :
    ∃ t, s.onLive ch (fun c => c.expire ch s.factory.variant route due f) = t ∧
      (s.OnlyAt t ch ∧ (t.ch ch).res.rstate.getD r RRec.released = RRec.released ∧
        ∀ v ∈ (t.ch ch).res.outRsv, v.route ≠ x.rid r) ∧
      (t.ch ch).res.lastReject = (f x ((s.ch ch).passFront x) ((s.ch ch).expiryPass x r) r).res.lastReject := by
  obtain ⟨t, ht, honly, hres⟩ := State.expire_due hl h due f hx hd
  refine ⟨t, ht, ⟨honly, ?_, ?_⟩, ?_⟩
  · rw [hres]
    exact hf.route
  · rw [hres]
    exact hf.rsv
  · rw [hres]

/-- A row whose time is not up does nothing. -/
theorem State.expire_not (hi : (s.ch ch).image = some g)
    (ho : ((s.ch ch).passCtx ch s.factory.variant g).ownRoute route = some r) (due : PassCtx → Pass → Nat → Bool)
    (f : PassCtx → Pass → Pass → Nat → Pass)
    (hd : due ((s.ch ch).passCtx ch s.factory.variant g) ((s.ch ch).passFront ((s.ch ch).passCtx ch s.factory.variant g)) r = false) :
    Host.Outcome.next (s.onLive ch (fun c => c.expire ch s.factory.variant route due f)) =
      (Host.Outcome.next s : Host.Outcome State Fault Refusal) :=
  congrArg Host.Outcome.next (State.onLive_same (Chan.expire_not due f hi ho hd))

theorem Pass.timeUp_running {p : Pass} (states : List Byte) (kind : Nat) (h : (p.route r).timer ≠ 0) :
    p.timeUp states kind r = false := by
  unfold Pass.timeUp
  simp [h]

theorem Pass.timeUp_of {p : Pass} {states : List Byte} {kind : Nat} (hs : states.contains (p.route r).state = true)
    (hk : (p.route r).tkind = kind) (ht : (p.route r).timer = 0) : p.timeUp states kind r = true := by
  unfold Pass.timeUp
  dsimp only
  rw [hs, hk, ht, beq_self_eq_true]
  rfl

theorem execStartupHoldEnd_ends (hl : (s.ch ch).live = true) (hv : (s.ch ch).vital ch = true) (hi : (s.ch ch).image = some g)
    (hr : (s.ch ch).inRun 1 = true) (hh : (s.ch ch).res.hold = true)
    (hs : ((s.ch ch).passFront ((s.ch ch).passCtx ch s.factory.variant g)).res.hold = false) :
    exec (.startupHoldEnd ch) s =
      .next (s.put ch { s.ch ch with
        res := { (s.ch ch).res with
          hold := false
          holdTicks := 0
          asks := (s.ch ch).res.asks ++ [(64, { op := 0xB, target := g.node * 4096, data := [] })] } }) := by
  show Host.Outcome.next _ = _
  rw [State.onLive_eq _ hl]
  simp only [hi]
  exact congrArg (fun x => Host.Outcome.next (s.put ch x)) (if_pos (by rw [hv, hr, hh, hs]; rfl))

theorem execStartupHoldEnd_skips (hi : (s.ch ch).image = some g)
    (hs : ((s.ch ch).passFront ((s.ch ch).passCtx ch s.factory.variant g)).res.hold = true) :
    exec (.startupHoldEnd ch) s = .next s := by
  refine congrArg Host.Outcome.next (State.onLive_same ?_)
  simp only [hi]
  exact if_neg (by rw [hs]; simp)

end

/-- Settles O30, timer by timer. -/
theorem routeTimersEnd : Obligations.RouteTimersEnd := by
  unfold Obligations.RouteTimersEnd
  intro s ch route r g hl hv hi hr c x snap p q gone
  refine ⟨fun ho hlt hreq hsq => ?_, fun ho ht => ?_, fun hh hs => execStartupHoldEnd_ends hl hv hi hr hh hs,
    fun hs => execStartupHoldEnd_skips hi hs⟩
  · have hp : c.Passing ch s.factory.variant g route r := ⟨hv, hi, hr, hreq, ho⟩
    have hlen : r < p.res.rstate.length := by
      rw [show p.res.rstate.length = c.res.rstate.length from Pass.setRoute_length _ _ _]
      exact hlt
    have hup {states : List Byte} {kind : Nat} (hst : states.contains q.state = true) (hk : q.tkind = kind) (ht : q.timer = 0) :
        snap.timeUp states kind r = true :=
      Pass.timeUp_of (by rw [hsq]; exact hst) (by rw [hsq]; exact hk) (by rw [hsq]; exact ht)
    refine ⟨fun hst hlate => ?_, fun hst hk ht hheld => ?_, fun hst hk ht hor => ?_, fun hst hk ht hdet => ?_,
      fun hst hdet => ?_, fun hst hk ht hovl => ?_⟩
    · obtain ⟨t, ht, hgone, hrej⟩ := State.expire_frees hl hp
        (fun x snap r => (snap.route r).state == 0x11 && snap.rsvLate x r) (fun x _ p r => p.toReleased x r 0xA 0) rfl
        (by rw [hlate, hsq, hst]; rfl) (Pass.toReleased_freed hlen _ _)
      exact ⟨t, congrArg Host.Outcome.next ht, hgone, hrej.trans (Pass.toReleased_reason _ _ _ (by decide) _)⟩
    · have hfree : (p.evalRoute x snap r).Freed x r := by
        rw [Pass.evalRoute_emergency _ _ _ _ hheld hk ht hst]
        exact (Pass.toReleased_freed hlen 0 0).of_routes rfl
      obtain ⟨t, ht, hgone, -⟩ := State.expire_frees hl hp (fun _ snap r => snap.timeUp emergencyStates 4 r)
        (fun x snap p r => p.evalRoute x snap r) rfl (hup hst hk ht) hfree
      exact ⟨t, congrArg Host.Outcome.next ht, hgone⟩
    · have hfree : (p.evalRoute x snap r).Freed x r := by
        rcases hor with ⟨hheld, -⟩ | ⟨hheld, htr⟩
        · rw [Pass.evalRoute_held _ _ _ _ hheld hk ht]
          exact Pass.endHeld_freed hlen
        · rw [Pass.evalRoute_approach _ _ _ _ hheld hst hk ht htr]
          exact Pass.toReleased_freed hlen 0 0
      obtain ⟨t, ht, hgone, -⟩ := State.expire_frees hl hp
        (fun x snap r => snap.timeUp [0x77] 1 r && ((snap.aux r).restartHeld || !snap.trainIn x r))
        (fun x snap p r => p.evalRoute x snap r) rfl (by
          rw [hup (by rw [hst]; rfl) hk ht]
          rcases hor with ⟨-, hheld⟩ | ⟨-, htr⟩
          · rw [hheld]; rfl
          · rw [htr]; simp) hfree
      exact ⟨t, congrArg Host.Outcome.next ht, hgone⟩
    · obtain ⟨hfree, hrej⟩ := Pass.posTimeout_freed (x := x) snap hlen
      obtain ⟨t, ht, hgone, hrej'⟩ := State.expire_frees hl hp
        (fun x snap r => snap.timeUp [0x33] 3 r && !snap.allDetected x r) (fun x snap p r => p.posTimeout x snap r) rfl
        (by rw [hup (by rw [hst]; rfl) hk ht, hdet]; rfl) hfree
      exact ⟨t, congrArg Host.Outcome.next ht, hgone, hrej'.trans hrej⟩
    · exact State.expire_not hi ho _ _ (by rw [hdet]; simp)
    · have hstates : [0x88, 0x99].contains q.state = true := by rcases hst with h | h <;> rw [h] <;> rfl
      obtain ⟨t, htx, honly, hres⟩ := State.expire_due hl hp (fun _ snap r => snap.timeUp [0x88, 0x99] 2 r)
        (fun x snap p r => p.overlapTimer x snap r) rfl (hup hstates hk ht)
      have hend := Pass.overlapTimer_ends p x snap r hovl hk ht
      refine ⟨fun hclear => ⟨t, congrArg Host.Outcome.next htx, honly, ?_⟩,
        fun hocc => ⟨t, congrArg Host.Outcome.next htx, honly, ?_⟩⟩
      · rw [if_pos hclear] at hend
        rw [hres]
        show (p.overlapTimer x snap r).route r = _
        rw [hend]
        exact Pass.releaseOverlap_route _ _ _ hlen hk ht
      · rw [if_neg (by rw [hocc]; exact Bool.false_ne_true)] at hend
        rw [hres]
        show (p.overlapTimer x snap r).route r = _
        rw [hend]
  · have hnot (states : List Byte) (kind : Nat) : snap.timeUp states kind r = false := Pass.timeUp_running _ _ ht
    exact ⟨State.expire_not hi ho _ _ (hnot _ _), State.expire_not hi ho _ _ (by rw [hnot]; rfl),
      State.expire_not hi ho _ _ (by rw [hnot]; rfl), State.expire_not hi ho _ _ (hnot _ _)⟩

end Sys2Proof.Machine
